-- ==== Sys2Proof/Word.lean ====
section
/-!
DEFINITION. Word.lean: the plainest arithmetic on the block's words.
A register field, a byte address, a stroke count and a sequence number are natural numbers below a power of two: the block
adds, compares and counts them, and the manual states each rule on the number.
-/

namespace Sys2Proof

/-- Bits `[lsb + w - 1 : lsb]` of `v`. -/
def slice (v lsb w : Nat) : Nat := v / 2 ^ lsb % 2 ^ w

/-- Bit `i` of `v`. -/
def bitOf (v i : Nat) : Bool := v / 2 ^ i % 2 == 1

/-- A truth value as a field of one bit. -/
def b2n (b : Bool) : Nat := if b then 1 else 0

/-- `a - b` modulo `2 ^ w`, for counts that wrap. -/
def subMod (w a b : Nat) : Nat := (a + (2 ^ w - b % 2 ^ w)) % 2 ^ w

/-- `v` in two's complement at width `w`, as a field holds it. -/
def twos (w : Nat) (v : Int) : Nat := (v % (2 ^ w : Int)).toNat

/-- The number a two's-complement field of width `w` stands for. -/
def untwos (w v : Nat) : Int := if v % 2 ^ w < 2 ^ (w - 1) then (v % 2 ^ w : Int) else (v % 2 ^ w : Int) - 2 ^ w

/-- `a / b` rounded up. -/
def ceilDiv (a b : Nat) : Nat := (a + b - 1) / b

end Sys2Proof
end

