-- ==== Sys2Proof/Syntax.lean ====
section
/-!
DEFINITION. Syntax.lean: the commands of the block, one constructor of Instr per row of spec/opcode_table.json, with their operands.
What a rule judges and only the outside can tell (the ticks between two edges of an input, whether a signature checks, which
members answered) is an operand of the command; what the block itself knows is in State.
-/

namespace Sys2Proof

/-- The two stroke inputs (R36). -/
inductive Input where
  | a | b
  deriving DecidableEq, Repr

/-- An input edge that falls in the same tick as the edge of the command (R39). -/
structure OtherEdge where
  /-- Ticks since that input's previous edge. -/
  interval : Nat
  /-- Ticks by which that input's edge leads the next synthesised edge. -/
  lead : Int
  deriving DecidableEq, Repr

/-- A request on the keel (R14): its origin seat and class stay with it across every hop. -/
structure KeelReq where
  /-- Seat whose unit issued it. -/
  origin : Nat
  /-- Traffic class, 0 CTRL to 3 BACK. -/
  cls : Nat
  /-- Bytes it carries. -/
  bytes : Nat
  /-- The seat of its detour, where it takes two hops (R17). -/
  via : Option Nat
  deriving DecidableEq, Repr

/-- Which part of *Stroke-edge order* a command runs (R57): all of it, or the steps before the arrivals of the edge's tick, or those after. -/
inductive EdgePart where
  | whole
  /-- Steps 1 and 2: the commands that follow are arrivals and expiries of step 3. -/
  | counts
  /-- What is left of step 3, and steps 4 to 6. -/
  | rest
  deriving DecidableEq, Repr

/-- Who asked for the line of an uncorrectable DRAM read (*Uncorrectable consumers*, R508). -/
inductive DramUser where
  | pcieRead | cleanPage (page : Nat) | dirtyPage | rowCopy (cmd idx : Nat) | fpSet (set : Nat) | standbyView (seat : Nat)
  | dataPlane (cmd idx : Nat) | firmware | scrub
  deriving DecidableEq, Repr

/-- One line of DRAM read with an error. -/
structure LineHit where
  /-- Seat. -/
  seat : Nat
  /-- Channel, 0 or 1. -/
  channel : Nat
  /-- Rank, 0 or 1. -/
  rank : Nat
  /-- Subchannel, 0 or 1. -/
  sub : Nat
  /-- Line index in the channel. -/
  line : Nat
  /-- Devices of the subchannel with an error in the burst (R506). -/
  devices : List Nat
  /-- For an uncorrectable line, who asked for it. -/
  user : DramUser
  /-- Another write to the line has arrived since the scrub read it. -/
  overwritten : Bool
  deriving DecidableEq, Repr

/-- The function classes of an easy-all (*Easy-all classes*, R424). -/
inductive EasyClass where
  | ns | tenant | group | port | loopSet
  deriving DecidableEq, Repr

/-- A function object of an easy-all: its class and its number (namespace, tenant, pool, seat or seat). -/
structure EasyObj where
  /-- Class. -/
  cls : EasyClass
  /-- Number of the object in its class. -/
  num : Nat
  deriving DecidableEq, Repr

/-- The host-owned bytes 0 to 31 of a mailbox slot (R408), as the device reads them after the doorbell (R410). -/
structure MbxReq where
  opcode : Nat
  noIrq : Bool
  tag : Nat
  vector : Nat
  timeout : Nat
  paramLen : Nat
  hostAddr : Nat
  hostLen : Nat
  /-- The object the parameters name, as one number of this model's, for a command that changes one (R412). -/
  object : Option Nat
  deriving DecidableEq, Repr

/-- The condition of a photo-finish trigger (*Trigger kinds*, R526). -/
inductive TrigCond where
  | off
  /-- The named event bit, as a bit address, goes from 0 to 1. -/
  | event (bit : Nat)
  | fault (source : Nat) (lastingOnly : Bool)
  | stroke (t p : Nat)
  | linked (seat trig : Nat)
  | software
  | haulout
  deriving DecidableEq, Repr

/-- The parameters of PFR_ARM for one trigger (R526). -/
structure PfrArm where
  cond : TrigCond
  /-- Register addresses to capture, at most 48. -/
  regs : List Nat
  /-- Fire limit, 0 for none. -/
  limit : Nat
  /-- Hold-off in strokes. -/
  holdoff : Nat
  deriving DecidableEq, Repr

/-- The strap balls as sampled (R577). -/
structure Straps where
  side : Bool
  sepclk : Bool
  test : Nat
  deriving DecidableEq, Repr

/-- What the boot ROM finds in steps 1 and 2 of bring-up (R461). -/
structure BootRom where
  /-- The strap balls at this deassertion (R459). -/
  straps : Straps
  /-- Floor slots whose record is found torn when read. -/
  torn : List Nat
  /-- Writes of the new floor that do not read back intact before one does; 15 or more: none does (R51). -/
  floorFails : Nat
  /-- The key store's known-answer tests pass (R404). -/
  katOk : Bool
  deriving DecidableEq, Repr

/-- How a completion of one of the device's reads arrives (R445). -/
inductive CplResult where
  | data | poisoned | unsupported | aborted
  deriving DecidableEq, Repr

/-- The causes of a full reset (R458). -/
inductive ResetCause where
  | powerUp | perst | hotReset | linkDown
  deriving DecidableEq, Repr

/-- The fields of an image header that a rule judges (*Image header*, R463). -/
structure ImageHeader where
  bodyLen : Nat
  svn : Nat
  version : Nat
  pairMajor : Nat
  pairMinor : Nat
  mediaFormat : Nat
  variants : Nat
  minStepping : Nat
  /-- BODY_DIGEST. -/
  digest : Nat
  deriving DecidableEq, Repr

/-- The outcomes of the header checks of R465 that need the bytes of the header. -/
structure HeaderChecks where
  /-- MAGIC, FORMAT and KIND right, and every byte that must be zero is. -/
  format : Bool
  /-- The fuse slot whose hash the vendor key block matches. -/
  vendorSlot : Option Nat
  vendorSig : Bool
  ownerSig : Bool
  unwrap : Bool
  deriving DecidableEq, Repr

/-- What training finds on one channel (R503, R505). -/
structure Dimm where
  seat : Nat
  channel : Nat
  gib : Nat
  dualRank : Bool
  serial : Nat
  /-- Training of the channel itself succeeds. -/
  trained : Bool
  deriving DecidableEq, Repr

/-- What SIDE_RECOVERY finds outside the device (R472, R473). -/
structure RecoveryInfo where
  /-- Sides whose boathouse rows have at least k members readable (R478). -/
  readable : List Nat
  /-- On-media format versions of the pools found (R473). -/
  mediaFormat : Nat
  deriving DecidableEq, Repr

/-- An MCTP message as it arrives (R532, R535). -/
structure MctpIn where
  /-- Inside a secured session. -/
  secure : Bool
  /-- Length in bytes. -/
  len : Nat
  /-- Messages of its type already held (R532). -/
  held : Nat
  deriving DecidableEq, Repr

/-- A PIECE message (*Piece message*, R542). -/
structure PieceMsg where
  imageId : Nat
  piece : Nat
  length : Nat
  /-- The MCTP integrity check passes. -/
  intact : Bool
  deriving DecidableEq, Repr

/-- The header of a staged update (R539). -/
structure StagedHeader where
  h : ImageHeader
  pieces : Nat
  components : Nat
  fromMin : Nat
  imageId : Nat
  /-- Measurement of the bridge firmware that the image carries (R554). -/
  bridge : Nat
  deriving DecidableEq, Repr

/-- How verification of a staged image ends (R545). -/
inductive VerifyResult where
  | ok
  /-- A chunk tag fails; the pieces that hold the chunk. -/
  | chunkTag (pieces : List Nat)
  /-- Any other failure, with its reason of *Update refusals*. -/
  | refuse (reason : Nat)
  deriving DecidableEq, Repr

/-- How the activation step in progress stands at an edge (*Activation timeline*, R551). -/
inductive ActProgress where
  | running | done | failed
  deriving DecidableEq, Repr

/-- What the FEC of a slot's oar link did in the stroke that ends: symbols corrected, codewords uncorrectable (R255). -/
structure FecSample where
  slot : Nat
  corr : Nat
  uncorr : Nat
  deriving DecidableEq, Repr

/-- What a synthesised stroke edge finds outside the device's own state (R57): measurements and read-backs. -/
structure EdgeInfo where
  /-- A floor written at this edge reads back intact (R51). -/
  floorOk : Bool
  /-- Hottest sensor of each seat, °C, seat 0 first (R488). -/
  temps : List Nat
  /-- Package power in 0.25 W units (R574). -/
  power : Nat
  /-- Keel requests of units outside the model that have reached a destination seat's arbiter in this stroke (R15): destination, request. -/
  keel : List (Nat × KeelReq)
  /-- Lines the patrol scrub of this edge reads with an error (R510). -/
  scrub : List LineHit
  /-- The activation step in progress (R551). -/
  act : ActProgress
  /-- FEC of the oar links (R255). -/
  fec : List FecSample
  /-- Addresses of extents that the reshape walk read in this stroke with other reference tags than the map's (R230). -/
  spoiled : List Nat
  /-- The part of the edge that this command runs. -/
  part : EdgePart
  deriving DecidableEq, Repr

/-- The metadata of a block: protection information (guard, application tag, reference tag) and the other bytes (R84, R105). -/
structure Md where
  user : Nat
  guard : Nat
  app : Nat
  ref : Nat
  deriving DecidableEq, Repr

/-- Stored metadata (R107): every byte except the guard and, for type 1, the reference tag. -/
structure Stored where
  user : Nat
  app : Nat
  ref : Nat
  deriving DecidableEq, Repr

/-- The header fields and contents of an extent (*Extent header*, R121). -/
structure Ext where
  pool : Nat
  row : Nat
  /-- Data symbol of the row that holds it. -/
  sym : Nat
  /-- Length in 16-byte units, pad included. -/
  length : Nat
  mode : Nat
  payload : Nat
  tenant : Nat
  keyGen : Nat
  /-- Key domain that it was sealed under: with KEY_GEN, the key itself (R381). -/
  domain : Nat
  handle : Nat
  dict : Nat
  metaLen : Nat
  nonce : Nat
  nsid : Nat
  lba : Nat
  sealedAt : Nat
  /-- The block's 4,096 bytes, and its stored metadata. -/
  data : Nat
  stored : Stored
  /-- FORMAT of its header, and its GCM tag (R121). -/
  format : Nat
  tag : Nat
  /-- Extended stroke of its append (R129). -/
  appended : Nat
  deriving DecidableEq, Repr

/-- A content record (R143), with the holds on it (R110). -/
structure Rec where
  extent : Nat
  length : Nat
  mode : Nat
  dict : Nat
  keyGen : Nat
  refs : Nat
  fpPrefix : Nat
  holds : Nat
  deriving DecidableEq, Repr

/-- Kinds of journal and delta log records (*Journal records*, *Delta log types*). -/
inductive DKind where
  | extent | ref | zero | dealloc | move | rowOpen | zonePage | release | countSet
  deriving DecidableEq, Repr

/-- A journal or delta log record (R126, R158). -/
structure Delta where
  kind : DKind
  last : Bool
  atomic : Bool
  group : Nat
  nsid : Nat
  replay : Nat
  lba : Nat
  /-- VALUE: handle, block count, placement stream or page address. -/
  value : Nat
  /-- Content record of an EXTENT. -/
  record : Option Rec
  /-- New and old address of a MOVE. -/
  new : Nat
  old : Nat
  /-- The extent itself, in the journal. -/
  ext : Option Ext
  deriving DecidableEq, Repr

/-- What a blade reports at attestation (R258, R265, R266). -/
structure BladeGeom where
  dies : Nat
  blocks : Nat
  pages : Nat
  slcPages : Nat
  levels : Nat
  /-- Typical read, program and erase times, µs. -/
  tR : Nat
  tProg : Nat
  tErase : Nat
  /-- The same in SLC mode: read-retry levels and times. -/
  slcLevels : Nat
  slcR : Nat
  slcProg : Nat
  slcErase : Nat
  /-- Base matrix of the code, as one number. -/
  matrix : Nat
  /-- Its fence register: owner, 0 none, 1 port 0, 2 port 1; epoch (R277, step 8 of *Bring-up steps*). -/
  owner : Nat
  epoch : Nat
  deriving DecidableEq, Repr

/-- Pair states (R311). -/
inductive PairSt where
  | alone | joining | paired | armed | solo | fenced | returning
  deriving DecidableEq, Repr

/-- The settings of a namespace (NS_CREATE, *Command catalogue*; R90). -/
structure NsParams where
  tenant : Nat
  subsys : Nat
  /-- Home side. -/
  side : Nat
  ana : Nat
  pool : Nat
  /-- Size in blocks of 4 KiB. -/
  size : Nat
  /-- Metadata bytes per block: 0, 8, 16 or 64 (R84). -/
  metaLen : Nat
  /-- Protection type, 0 none to 3. -/
  pi : Nat
  /-- 64-bit guard format. -/
  guard64 : Bool
  zoned : Bool
  /-- Zone size in blocks. -/
  zoneSize : Nat
  dedup : Bool
  compress : Bool
  /-- Dictionary slot; 256: none (R118). -/
  dict : Nat
  /-- Solo policy: true FLASH_THROUGH, false LOCAL_HOLDUP (R129). -/
  flashThrough : Bool
  /-- Atomic write size in blocks (R91). -/
  atomic : Nat
  /-- Rating loop index (R90). -/
  loop : Nat
  /-- Priority class, 0 URGENT to 3 LOW (R87). -/
  cls : Nat
  /-- Placement: true COLD (R122). -/
  cold : Bool
  /-- FDP placement (R185). -/
  fdp : Bool
  /-- Key domain (R381). -/
  domain : Nat
  deriving DecidableEq, Repr

/-- The parameters of REPL_LINK_CREATE: group, role, partner identity, addresses of both partner heads, interval in strokes, receive
window in bytes, RETAIN, seat and sub-port (4 × seat + sub-port), SNP_LINK_TIMEOUT. -/
structure LinkParams where
  cg : Nat
  target : Bool
  partner : Nat
  addrs : List Nat
  interval : Nat
  window : Nat
  retain : Bool
  subport : Nat
  timeout : Nat
  deriving DecidableEq, Repr

/-- What one head tells the other of the objects that both keep: the tables of R474, by CONTROL and BULK frames. -/
inductive CfgObj where
  | ns (nsid : Nat) (p : NsParams)
  | nsGone (nsid : Nat)
  | pool (pool side k m dies : Nat) (shares : List (Nat × Nat)) (ageGrouped : Bool) (floor : Option Nat)
  | poolGone (pool : Nat)
  | tenant (tenant domain : Nat) (sprint : Bool) (ranges : List (Nat × Nat))
  | tenantGone (tenant : Nat)
  | subsys (sub tenant nqn : Nat) (hosts : List Nat)
  /-- A key domain: tenant, namespace domain, generation, live generations. -/
  | domain (d tenant : Nat) (ns share : Bool) (gen : Nat) (live : List Nat)
  | domainGone (d : Nat)
  | cg (cg tenant : Nat) (members : List Nat)
  | cgGone (cg : Nat)
  /-- A snapshot that is registered or taken: identifier, group, S, members. -/
  | snap (id cg s : Nat) (members : List Nat)
  | snapGone (id : Nat)
  /-- A replication link: its last committed epoch and base, the epoch in transfer and its snapshot. -/
  | link (n : Nat) (p : LinkParams) (epoch : Nat) (base : Option Nat) (cur : Option (Nat × Nat))
  /-- A link has ended; the replica has become writable. -/
  | linkGone (n : Nat) (promoted : Bool)
  deriving DecidableEq, Repr

/-- The contents of a CONTROL frame (R299, R301, R308, R309, R326 and the rules that name a CONTROL frame). -/
inductive Ctl where
  /-- Ownership change: pool entry or ANA group entry, index, new owner side, epoch, stroke at which both heads install it. -/
  | own (pool : Bool) (index owner epoch stroke : Nat)
  /-- Checkpoint notice: side, generation, CHECKPOINT edge; root page address and LOG_START of each seat (R308). -/
  | notice (side gen ext : Nat) (roots logStart : List Nat)
  /-- Failback stroke F (R326), or its withdrawal. -/
  | failback (f : Nat) (cancel : Bool)
  /-- The returning head has written its anchors (step 3 of *Failback timeline*). -/
  | anchors
  /-- The bridges of the sides that move have acknowledged the fence change with this epoch (step 3 of *Failback timeline*). -/
  | fences (epoch : Nat)
  /-- An object of the tables that both heads keep. -/
  | object (o : CfgObj)
  /-- The standby view of the returning head is current. -/
  | viewCurrent
  /-- Rekey of a stream: new key, and its confirmation. -/
  | rekey (keyId : Nat) (confirm : Bool)
  /-- Window layout and its stroke (R298). -/
  | windows (c s guard stroke : Nat)
  /-- Snapshot registration or removal (R354, R362). -/
  | snap (id cg : Nat) (stroke : Nat) (remove : Bool)
  /-- Erasure of a key domain (R397). -/
  | erase (domain : Nat) (stroke : Nat)
  /-- Roll of a key domain and its install stroke (R392). -/
  | roll (domain gen stroke : Nat)
  /-- Update schedule, or its withdrawal (R549, R550). -/
  | update (t : Nat) (cancel : Bool)
  /-- Activation has completed (R551): newest on-media format and PAIR_MINOR of the image now running. -/
  | updateDone (reads minor : Nat)
  deriving DecidableEq, Repr

/-- The settings of a loop and of its class bucket (R349). -/
structure LoopCfg where
  enable : Bool
  /-- *Loop targets*: 0 CLASS, 1 BYPASS, 2 BACKGROUND, 3 NONE. -/
  target : Nat
  /-- The WRITE histogram of `input` is read, not READ. -/
  write : Bool
  input : Nat
  unlimited : Bool
  quant : Nat
  decay : Nat
  minCount : Nat
  sp : Nat
  slope : Nat
  min : Nat
  max : Nat
  /-- Open-loop rate while disabled (R343). -/
  openRate : Nat
  nominal : Nat
  depth : Nat
  /-- Coefficients of its one to four sections. -/
  coefs : List (List Int)
  deriving DecidableEq, Repr

/-- An entry of a delta (R366, R367): member index, LBA, type 0 DATA, 1 ZERO, 2 UNMAPPED, fingerprint. -/
structure DeltaEnt where
  member : Nat
  lba : Nat
  kind : Nat
  fp : Nat
  deriving DecidableEq, Repr

/-- The fields of an extent header as a page's data hold them (R121). -/
structure HeadSeen where
  format : Nat
  mode : Nat
  payload : Nat
  tenant : Nat
  keyGen : Nat
  handle : Nat
  dict : Nat
  metaLen : Nat
  nonce : Nat
  nsid : Nat
  lba : Nat
  sealedAt : Nat
  deriving DecidableEq, Repr

/-- A stored frame as the decompressor finds it (*Zstandard profile*, R114). -/
structure FrameSeen where
  frames : Nat
  magic : Nat
  singleSegment : Bool
  checksum : Bool
  contentSize : Nat
  dictId : Option Nat
  blocks : Nat
  last : Bool
  blockType : Nat
  /-- Offsets stay within the content and the dictionary; bytes that it decompresses to. -/
  offsetsOk : Bool
  bytes : Nat
  deriving DecidableEq, Repr

/-- An extent as an opening lane finds it (R194): its header and its frame, where they are not as they were sealed; its ciphertext and tag
are as sealed; the frame's checksum agrees. -/
structure ExtSeen where
  header : Option HeadSeen
  body : Bool
  frame : Option FrameSeen
  sumOk : Bool
  deriving DecidableEq, Repr

/-- What the head predicts of the dies a read unit needs (R197, R199), from the timings that the blades reported: the outside of
the model measures time, so these are operands. Times in µs. -/
structure Waits where
  /-- Remaining time of the operation in progress and those queued ahead of the read. -/
  wait : Nat
  /-- What runs on the die: 0 nothing or a read, 1 a program, 2 an erase. -/
  running : Nat
  remaining : Nat
  /-- Time since it started or was last resumed. -/
  ran : Nat
  /-- Time that its suspension takes. -/
  suspend : Nat
  /-- Predicted waits of the other members of the row, by member. -/
  others : List (Nat × Nat)
  deriving DecidableEq, Repr

/-- A secured message of a bridge on channel MGMT (R274, R276). -/
inductive MgmtMsg where
  | none
  /-- Answer to the session heartbeat, verified under the session keys or not. -/
  | heartbeat (ok : Bool)
  /-- Any other message of attestation or of the session. -/
  | other
  deriving DecidableEq, Repr

/-- A HEALTH reply (R283). -/
structure HealthReply where
  bridgeC : Nat
  nandC : Nat
  power : Nat
  powerFault : Bool
  button : Bool
  uptime : Nat
  fw : Nat
  /-- Rail-good flags, and the indicator states that the blade shows. -/
  rails : Nat
  shown : Nat
  deriving DecidableEq, Repr

/-- A HELLO (step 1 of *Join steps*, R314). -/
structure Hello where
  seats : Nat
  stepping : Nat
  side : Nat
  major : Nat
  minor : Nat
  media : Nat
  /-- Newest on-media format version that the sender can read. -/
  reads : Nat
  st : PairSt
  owned : List Nat
  term : Nat
  /-- Inputs that the sender has locked, and whether it was the reference at its previous join (Pair agreement). -/
  locked : Nat
  wasReference : Bool
  /-- Stroke count at send, in the frame's header (R55). -/
  stroke : Nat
  deriving DecidableEq, Repr

/-- The payload of a HEARTBEAT (R316). -/
structure Beat where
  st : PairSt
  ext : Nat
  owned : List Nat
  gen : Nat
  term : Nat
  hold : Bool
  epochSum : Nat
  /-- Tick at send, in the frame's header (R56, R299). -/
  sendTick : Nat
  /-- Ticks the frame took from the peer to this head, as this head allows for it (R56; log entry 23). -/
  flight : Nat
  /-- The sender has an active input (R56; log entry 23). -/
  steered : Bool
  deriving DecidableEq, Repr

/-- The header of a pair frame as the receiver judges it (R299, R302). -/
structure PHdr where
  seq : Nat
  ack : Nat
  refuse : Option Nat
  keyId : Nat
  /-- The tag verifies. -/
  auth : Bool
  stroke : Nat
  /-- The payload passes the checks of R305 that need its bytes. -/
  valid : Bool
  bytes : Nat
  /-- The seat whose lane it arrives on, and its CLASS (R295, R299). -/
  lane : Nat
  cls : Nat
  deriving DecidableEq, Repr

/-- A replication HELLO (R365, R372). -/
structure ReplHello where
  /-- The protocol's major versions match. -/
  sameMajor : Bool
  /-- Replica geometry matches: one side, sizes and formats equal (R365). -/
  geometry : Bool
  /-- The partner answers with a refusal. -/
  refused : Bool
  committed : Nat
  /-- Last applied batch of the part. -/
  applied : Option Nat
  deriving DecidableEq, Repr

/-- A record of a batch as the target holds it (R368, R369). -/
structure ReplRec where
  entry : Nat
  data : Nat
  stored : Stored
  /-- Tag, frame and checksum pass. -/
  ok : Bool
  /-- Bytes of the record as it arrives (R368). -/
  bytes : Nat
  deriving DecidableEq, Repr

/-- What goes wrong with a block on its way in (*Ingest failures*, R132). -/
inductive IngestErr where
  | none | buffer | cipher | compression | digest
  /-- The slot's, or the content record's, tags are not the command's (R230). -/
  | tags
  deriving DecidableEq, Repr

/-- Operation of a RoCEv2 packet of a connected queue pair (R66). -/
inductive RoceOp where
  | send | write | readRequest | readResponse | acknowledge
  | sendImmediate | sendInvalidate | writeImmediate | atomic
  /-- Any other opcode. -/
  | other
  deriving DecidableEq, Repr

/-- The device supports the operation (R66). -/
def RoceOp.supported : RoceOp → Bool
  | .send => true | .write => true | .readRequest => true | .readResponse => true | .acknowledge => true
  | .sendImmediate => false | .sendInvalidate => false | .writeImmediate => false | .atomic => false | .other => false

/-- What an acknowledgement packet says (R66): an ACK, or a NAK and its reason. -/
inductive AckKind where
  | ack | rnr | sequence | invalidRequest | remoteAccess | remoteOperation
  deriving DecidableEq, Repr

/-- What an Ethernet frame carries, as the front end judges it (R62, R66, R67). -/
inductive FrameSvc where
  /-- RoCEv2 of a supported transport service. -/
  | roce
  /-- A transport service the device does not support. -/
  | unsupported
  /-- Other traffic of the sub-port (address resolution and the like). -/
  | other
  deriving DecidableEq, Repr

/-- The parts of a command capsule that the front end checks (R83, R97). -/
structure Capsule where
  /-- Every SGL descriptor is a keyed data block or a Last Segment. -/
  sglTypeOk : Bool
  /-- Descriptors in the list. -/
  sglCount : Nat
  /-- Bytes the descriptors cover. -/
  sglLen : Nat
  /-- Write data travels in the capsule. -/
  inCapsule : Bool
  /-- Status code that the NVMe specification names for a field of the capsule that is inconsistent, when one is (R97). -/
  fault : Option Nat
  /-- Placement handle in the directive fields, when given. -/
  handle : Option Nat
  /-- PRINFO: check guard, application tag, reference tag; PRACT in bit 3. -/
  prinfo : Nat
  /-- Expected initial reference tag, application tag and its mask. -/
  refTag : Nat
  appTag : Nat
  appMask : Nat
  /-- Write data in the capsule: each block's bytes and metadata (R104). -/
  data : List (Nat × Md)
  deriving DecidableEq, Repr

/-- Who accesses a seat's window, and the cycles for which a unit that wakes stalls the access (R18, R485). -/
structure WindowAccess where
  req : Nat
  stall : Nat
  deriving DecidableEq, Repr

/-- An acknowledgement packet: the bytes it acknowledges, and what it says (R66, R78). -/
structure RoceAck where
  bytes : Nat
  kind : AckKind
  deriving DecidableEq, Repr

/-- A submission queue entry without data blocks of its own: its command identifier and the rest of its capsule (R97). -/
structure SqEntry where
  cid : Nat
  cap : Capsule
  deriving DecidableEq, Repr

/-- What a Connect joins: the controller it names, if any, and the queue identifier it gives (R82, R92). -/
structure ConnectTo where
  ctrl : Option Nat
  qid : Nat
  deriving DecidableEq, Repr

/-- The end of a lookup of a block: the block's index in its command, and an engine's fault (R110, R132). -/
structure LookupEnd where
  idx : Nat
  err : IngestErr
  deriving DecidableEq, Repr

/-- A line of the translation cache that arrives: cycles it took, and whether it is found with an uncorrectable error (R150). -/
structure LineFill where
  cycles : Nat
  ecc : Bool
  deriving DecidableEq, Repr

/-- Pages that a recovery finds with a bad CRC: roots and images, by seat and generation, and delta log pages, by seat and sequence (R163). -/
structure BadPages where
  images : List (Nat × Nat)
  logs : List (Nat × Nat)
  deriving DecidableEq, Repr

/-- What decompression of an opened extent finds (R194): its frame, where it is not as it was stored, and whether its checksum agrees. -/
structure PlainSeen where
  frame : Option FrameSeen
  sumOk : Bool
  deriving DecidableEq, Repr

/-- The sequence and the credits that an oar control frame carries (R252, R253). -/
structure OarSeq where
  seq : Nat
  credits : List Nat
  deriving DecidableEq, Repr

/-- The fields of a ring frame after its destination (*Ring frame*, R282). -/
structure RingRest where
  src : Nat
  type : Nat
  seq : Nat
  hops : Nat
  stamp : Nat
  payload : List Nat
  deriving DecidableEq, Repr

/-- A BUTTON frame: the slot it comes from, the ring it came on, its SEQ and STAMP (R286). -/
structure ButtonFrame where
  slot : Nat
  cw : Bool
  seq : Nat
  stamp : Nat
  deriving DecidableEq, Repr

/-- What an EXCHANGE frame proves of its sender, and the stroke it is stamped with (R55, R301). -/
structure ExchangeSeen where
  sameOwner : Bool
  stroke : Nat
  deriving DecidableEq, Repr

/-- The commands (spec/opcode_table.json): messages and accesses that reach the block, and the completions and timer ends of
its own units. -/
inductive Instr where
  /-- LOW_HALF_READ (R7): A read of the low register of a 64-bit quantity returns the live low half and latches the high half for that requester. -/
  | lowHalfRead (addr req : Nat)
  /-- LOW_HALF_WRITE (R8): A write to the low register of a writable 64-bit field stages the value for that requester without applying it. -/
  | lowHalfWrite (addr value req : Nat)
  /-- HIGH_HALF_WRITE (R8): A write to the high register applies both halves in one cycle, using the staged low half when one exists and otherwise the low half in force. -/
  | highHalfWrite (addr value req : Nat)
  /-- READ_CLEAR_COUNTER (R11): A read of an RC field returns its value and clears it to the reset value; an event in the same cycle is counted afterwards. -/
  | readClearCounter (addr req : Nat) (event : Bool)
  /-- REGISTER_WRITE (R10): A write to a register that has no row of its own acts by its access code; RWS fields take effect at the next stroke boundary. -/
  | registerWrite (addr value req events : Nat)
  /-- BAR0_BAD_ACCESS (R6): A BAR0 access of the wrong size, or to an address outside every block, reads as zero, ignores the write and is logged. -/
  | bar0BadAccess (addr size : Nat) (write : Bool)
  /-- SEAT_WINDOW_ACCESS (R18): An access to the window of a seat other than seat 0 is carried over the keel in class CTRL and completes within 2 µs plus any wake time. -/
  | seatWindowAccess (seat off : Nat) (write : Option Nat) (a : WindowAccess)
  /-- KEEL_LINK_FAIL (R17): A keel link fails and its traffic is detoured through another seat; on a Krytver 882 the head fails and the peer takes over. -/
  | keelLinkFail (x y : Nat)
  /-- COX_FAULT (R21): The active cox faults and the standby cox on seat 1 takes the role within 2,048 cycles, with the cox outputs held. -/
  | coxFault (gap : Nat)
  /-- COX_RETURN (R21): The reset original cox cluster passes its self-test and takes the role back at the next stroke boundary. -/
  | coxReturn (gap : Nat) (passed : Bool)
  /-- STROKE_INPUT_EDGE (R37): A rising edge on a stroke input ends an interval, which is judged against the lock rules and the active-input rules. -/
  | strokeInputEdge (inp : Input) (interval : Nat) (lead : Int) (other : Option OtherEdge)
  /-- STROKE_INPUT_TIMEOUT (R38): No edge arrives within 1.25 periods, so the input loses lock and its OK bit and lost event change. -/
  | strokeInputTimeout (inp : Input)
  /-- HOLDOVER_ENTRY (R47): No input has been locked for more than three times STK_PERIOD, so the device enters holdover. -/
  | holdoverEntry (elapsed : Nat)
  /-- STK_SWITCH_NOW (R39): Host software writes SWITCH_NOW, and the device switches to the other input at the next stroke edge when that input is locked. -/
  | stkSwitchNow
  /-- STROKE_REVERT (R40): The preferred input has been locked for 10,000 strokes while the other was active, so the role returns to it at the next edge. -/
  | strokeRevert
  /-- STROKE_EDGE (R57): A synthesised stroke edge advances the counts, closes the commit epoch, and fires arrivals, expiries, named-stroke events and periodic events in order. -/
  | strokeEdge (e : EdgeInfo)
  /-- STROKE_NO_LOCK (R53): No input has locked within 100,000 strokes of release, so a stroke fault is counted and bring-up continues in holdover. -/
  | strokeNoLock
  /-- STK_SCHED_WRITE (R58): A write to a periodic-event interval or phase is tested against the other register and is either taken at the next edge or refused. -/
  | stkSchedWrite (index : Nat) (phase : Bool) (value : Nat)
  /-- FE_FRAME_RECEIVE (R62): An Ethernet frame arrives on a sub-port and is dropped and counted when it is oversize, of an unsupported service or from a blocked source. -/
  | feFrameReceive (seat sub len src : Nat) (svc : FrameSvc)
  /-- PFC_FRAME (R63): A received PFC frame is honoured for the priorities enabled in FE_PFC_EN, and PAUSE frames are ignored. -/
  | pfcFrame (seat sub on off : Nat) (pause : Bool)
  /-- SUBPORT_LINK_DOWN (R65): A sub-port loses link, and its queue pairs enter the error state as their retry limits are reached. -/
  | subportLinkDown (seat sub : Nat)
  /-- ROCE_PACKET_RECEIVE (R66): A RoCEv2 packet for a connected queue pair is processed; an unsupported opcode draws NAK Invalid Request and errors the queue pair. -/
  | rocePacketReceive (seat qp len : Nat) (op : RoceOp) (ce : Bool) (sinceCnp : Nat)
  /-- ROCE_ACK_RECEIVE (R78): An acknowledgement arrives and frees window bytes, and a completed round without a decrease grows the congestion window. -/
  | roceAckReceive (seat qp : Nat) (a : RoceAck)
  /-- QP_ACK_TIMEOUT (R69): The local acknowledgement timeout expires, so the requester retries or, with retries exhausted, the queue pair enters the error state. -/
  | qpAckTimeout (seat qp : Nat)
  /-- CM_REQ (R68): A connection-manager REQ is handled by the seat agent, subject to the per-source rate limit and queue pair availability. -/
  | cmReq (seat src sub mtu pd : Nat)
  /-- CM_REP (R68): A connection-manager REP arrives for a connection that the device requested. -/
  | cmRep (seat qp : Nat)
  /-- CM_RTU (R68): A connection-manager RTU completes the set-up of a queue pair. -/
  | cmRtu (seat qp : Nat)
  /-- CM_REJ (R68): A connection-manager REJ ends a pending connection request. -/
  | cmRej (seat qp : Nat)
  /-- CM_DREQ (R68): A connection-manager DREQ starts the disconnection of a queue pair. -/
  | cmDreq (seat qp : Nat)
  /-- CM_DREP (R68): A connection-manager DREP completes a disconnection. -/
  | cmDrep (seat qp : Nat)
  /-- RDMA_WRITE_FIRST_PACKET (R73): The first packet of an incoming RDMA WRITE is matched against the memory region table, and a mismatch draws NAK Remote Access Error. -/
  | rdmaWriteFirstPacket (seat qp rkey addr len : Nat)
  /-- RDMA_WRITE_LAST_PACKET (R76): The last packet of an incoming RDMA WRITE is placed, which ends its work in flight under the matched region version. -/
  | rdmaWriteLastPacket (seat qp : Nat)
  /-- RDMA_READ_REQUEST (R73): An incoming RDMA READ request, or its retransmission, is matched against the region's current version and answered. -/
  | rdmaReadRequest (seat qp rkey addr len : Nat) (again : Bool)
  /-- CNP_RECEIVE (R78): A Congestion Notification Packet cuts the queue pair's window by β, at most once per round. -/
  | cnpReceive (seat qp : Nat)
  /-- NVME_IDENTIFY (R80): The admin command Identify returns controller or namespace data. -/
  | nvmeIdentify (seat qp : Nat) (sqe : SqEntry) (cns nsid : Nat)
  /-- NVME_GET_LOG_PAGE (R92): The admin command Get Log Page returns a log page, including the Command Failure Detail page 0xC2. -/
  | nvmeGetLogPage (seat qp : Nat) (sqe : SqEntry) (page : Nat)
  /-- NVME_GET_FEATURES (R80): The admin command Get Features returns a feature value. -/
  | nvmeGetFeatures (seat qp : Nat) (sqe : SqEntry) (fid : Nat)
  /-- NVME_SET_FEATURES (R80): The admin command Set Features sets a feature value. -/
  | nvmeSetFeatures (seat qp : Nat) (sqe : SqEntry) (fid value : Nat)
  /-- NVME_KEEP_ALIVE (R86): The admin command Keep Alive restarts the controller's Keep Alive timer. -/
  | nvmeKeepAlive (seat qp : Nat) (sqe : SqEntry)
  /-- NVME_ASYNC_EVENT_REQUEST (R80): The admin command Asynchronous Event Request is held until an event such as an ANA change completes it. -/
  | nvmeAsyncEventRequest (seat qp : Nat) (sqe : SqEntry)
  /-- NVME_ABORT (R80): The admin command Abort requests the abort of a command. -/
  | nvmeAbort (seat qp : Nat) (sqe : SqEntry) (sq target : Nat)
  /-- NVME_PROPERTY_GET (R80): The fabrics command Property Get returns a controller property. -/
  | nvmePropertyGet (seat qp : Nat) (sqe : SqEntry) (off : Nat)
  /-- NVME_PROPERTY_SET (R80): The fabrics command Property Set writes a controller property. -/
  | nvmePropertySet (seat qp : Nat) (sqe : SqEntry) (off value : Nat)
  /-- NVME_CONNECT (R82): A Connect creates a controller or queue when the host NQN and source address are allowed, and is refused with Connect Invalid Host otherwise. -/
  | nvmeConnect (seat qp : Nat) (sqe : SqEntry) (nqn host kato : Nat) (joins : ConnectTo)
  /-- NVME_DISCONNECT (R80): A Disconnect tears down a queue of the controller. -/
  | nvmeDisconnect (seat qp : Nat) (sqe : SqEntry)
  /-- NVME_READ (R189): A Read looks up each LBA and returns zeros, DRAM or NAND data per unit without taking a lock. -/
  | nvmeRead (seat qp cid nsid lba count : Nat) (cap : Capsule)
  /-- NVME_WRITE (R101): A Write reserves catch slots and dirty space, takes range locks, and ingests its blocks into sealed extents and journal records. -/
  | nvmeWrite (seat qp cid nsid lba count : Nat) (cap : Capsule)
  /-- NVME_WRITE_ZEROES (R179): A Write Zeroes takes range locks and commits ZERO records through the journal without pulling data. -/
  | nvmeWriteZeroes (seat qp cid nsid lba count : Nat) (cap : Capsule)
  /-- NVME_FLUSH (R85): A Flush completes once every write accepted before it on the namespace has been accepted. -/
  | nvmeFlush (seat qp : Nat) (sqe : SqEntry) (nsid : Nat)
  /-- NVME_DATASET_MANAGEMENT (R179): A deallocate takes range locks and marks MAPPED LBAs DEALLOCATED through the journal, up to 2^20 LBAs. -/
  | nvmeDatasetManagement (seat qp cid nsid : Nat) (ranges : List (Nat × Nat)) (deallocate : Bool) (cap : Capsule)
  /-- NVME_VERIFY (R207): A Verify checks every stored extent of its range as a read does, without placing data and without bypass. -/
  | nvmeVerify (seat qp cid nsid lba count : Nat) (cap : Capsule)
  /-- NVME_ZONE_APPEND (R124): A Zone Append is ingested and appended on the zone's home seat, which assigns and returns the LBA. -/
  | nvmeZoneAppend (seat qp cid nsid lba count : Nat) (cap : Capsule)
  /-- NVME_ZONE_MGMT_SEND (R184): Zone Management Send opens, finishes or resets a zone, with Zone Reset dropping its descriptors in one commit. -/
  | nvmeZoneMgmtSend (seat qp : Nat) (sqe : SqEntry) (nsid lba action : Nat)
  /-- NVME_ZONE_MGMT_RECEIVE (R80): Zone Management Receive reports zone state. -/
  | nvmeZoneMgmtReceive (seat qp : Nat) (sqe : SqEntry) (nsid lba : Nat)
  /-- NVME_IO_MGMT_SEND (R185): I/O Management Send manages FDP reclaim unit handles. -/
  | nvmeIoMgmtSend (seat qp : Nat) (sqe : SqEntry) (nsid mo value : Nat)
  /-- NVME_IO_MGMT_RECEIVE (R185): I/O Management Receive reports FDP reclaim unit state. -/
  | nvmeIoMgmtReceive (seat qp : Nat) (sqe : SqEntry) (nsid mo : Nat)
  /-- NVME_UNSUPPORTED_OPCODE (R80): A command whose opcode is not served completes with Invalid Command Opcode. -/
  | nvmeUnsupportedOpcode (seat qp cid opcode : Nat)
  /-- KATO_EXPIRY (R86): A controller's Keep Alive timer expires, and the controller is torn down and its queue pairs disconnected. -/
  | katoExpiry (seat ctrl kaCount : Nat)
  /-- ENGINE_TAKE (R88): The command engine takes the next eligible command by class arbitration, matches its steering entry and charges its tenant bucket. -/
  | engineTake (seat : Nat)
  /-- SOURCE_BLOCK_EXPIRY (R96): A blocked source's block duration ends, and its packets are accepted again. -/
  | sourceBlockExpiry (seat src : Nat)
  /-- NVQ_QP_SELECT (R99): A write of NVQ_QP_SELECT loads NVQ_QP_STATE and the related registers from the selected queue pair within 1 µs. -/
  | nvqQpSelect (seat value : Nat)
  /-- RANGE_LOCK_GRANT (R103): A waiting range lock for a 64 KiB granule is granted in request order once the conflicting write's completion has posted. -/
  | rangeLockGrant (nsid granule : Nat)
  /-- RDMA_READ_RESPONSE (R104): A response to the device's RDMA READ lands write data in the catch, where PI checks, zero detection and fingerprint snoop run. -/
  | rdmaReadResponse (cmd idx data : Nat) (md : Md) (lost : Bool) (err : IngestErr)
  /-- FP_LOOKUP_DONE (R110): A fingerprint lookup ends, and a valid hit takes a hold and builds a REF record while a stale match is invalidated. -/
  | fpLookupDone (cmd : Nat) (e : LookupEnd)
  /-- COMPRESS_JOB_END (R116): A compression job ends, and the block is sealed raw or compressed, appended to an open row and turned into a journal record. -/
  | compressJobEnd (cmd idx : Nat) (verifyOk : Bool) (err : IngestErr)
  /-- ZONE_RECORDS_ARRIVE (R124): Sealed records of a zone arrive over the keel at the zone's home seat, which appends them and sends the journal. -/
  | zoneRecordsArrive (cmd idx : Nat)
  /-- GROUP_ACCEPT (R128): A group whose records are in DRAM and acknowledged by the peer (or satisfy the solo policy) commits its map deltas and, for the last group, posts the completion. -/
  | groupAccept (seat num lat : Nat)
  /-- FT_EARLY_SEAL (R129): A row has held unaccepted FLASH_THROUGH data for CAT_FT_CLOSE strokes, so it is early-sealed. -/
  | ftEarlySeal (pool row : Nat)
  /-- IDLE_EARLY_SEAL (R135): Above the soft level, an open row without appends for CAT_SOFT.IDLE strokes is early-sealed. -/
  | idleEarlySeal (pool row : Nat)
  /-- PAGE_FILL_DONE (R146): A map or record page read from the boathouse arrives in DRAM, and the waiting commands' lookups are issued again. -/
  | pageFillDone (seat dir : Nat)
  /-- TC_LINE_FILL (R150): A translation-cache line arrives from DRAM, merging any write-through in flight, and frees the blocked lookup lane. -/
  | tcLineFill (seat lane : Nat) (l : LineFill)
  /-- CKPT_IMAGES_PROGRAMMED (R160): Every frozen image of a checkpoint has programmed, so the seat writes its root page. -/
  | ckptImagesProgrammed (seat : Nat)
  /-- CKPT_ROOT_PROGRAMMED (R160): The root page has programmed, so the seat writes an anchor for the new generation. -/
  | ckptRootProgrammed (seat : Nat) (intact : Bool)
  /-- CKPT_COMPLETE (R160): Anchors of the new generation exist on every seat, so the cox marks it complete and the peer is told. -/
  | ckptComplete
  /-- CKPT_LATE (R161): A checkpoint has not completed 5,000 strokes after it began, so it is counted late and a map fault is logged. -/
  | ckptLate
  /-- DLOG_PAGE_PROGRAMMED (R158): A delta log page has programmed, which makes its deltas clean and triggers a MAP_SYNC frame to the peer. -/
  | dlogPageProgrammed (seat : Nat)
  /-- MAP_RECOVERY (R163): After DRAM training and blade discovery, each seat loads anchors and roots, replays its delta log and haul-out image, scans rows and resynchronises dirty regions. -/
  | mapRecovery (bad : BadPages)
  /-- GC_VICTIM_SELECT (R168): Collection, within its background grant, chooses a victim row by the pool's policy or by the wear and SLC rules. -/
  | gcVictimSelect (pool : Nat)
  /-- GC_MOVE_COMMIT (R170): A relocated extent's MOVE commits on the record's home seat only if the record still points at the old address. -/
  | gcMoveCommit (pool addr : Nat) (tagsOk : Bool)
  /-- ROW_ERASE (R173): A victim row is erased once its MOVEs are on flash and no read that looked it up is in flight. -/
  | rowErase (pool row : Nat)
  /-- BAND_ERASE (R223): A band's blocks are erased once every row is free, none lies in a dirty region and every erase condition holds. -/
  | bandErase (pool band : Nat)
  /-- RELEASE_SWEEP (R181): The release sweep subtracts the references of DEALLOCATED entries and deleted namespaces and snapshots, logging RELEASE records. -/
  | releaseSweep (owner lba : Nat)
  /-- REF_RECOUNT_SWEEP (R154): The recount sweep recounts saturated records from a checkpoint and writes the total with a COUNT_SET delta when it is below saturation. -/
  | refRecountSweep (tenant handle : Nat)
  /-- DEDUP_PASS (R111): The background dedup pass sorts logged fingerprints, compares plaintext and rewrites map entries to share records. -/
  | dedupPass (nsid lba handle : Nat)
  /-- LOST_SWEEP (R237): The lost sweep adds each LBA whose entry names an extent on an unrecoverable member to the lost-extent list. -/
  | lostSweep (nsid lba : Nat)
  /-- MAP_LOOKUP_DONE (R189): A read unit's entry and record lookups finish, so its source is chosen and suspend or bypass is decided. -/
  | mapLookupDone (cmd idx : Nat) (w : Waits)
  /-- PARITY_RECONSTRUCT_DONE (R216): The parity engine finishes reconstructing a byte range from k members, and the result goes to opening. -/
  | parityReconstructDone (cmd idx : Nat) (ok : Bool)
  /-- EXTENT_OPENED (R194): An opening lane finishes the checks of an extent and releases plaintext, or the failure leads to reconstruction or an error. -/
  | extentOpened (cmd idx lat : Nat) (header : Option HeadSeen) (body : Bool) (plain : PlainSeen)
  /-- PARITY_VERIFY (R228): Background verification checks the parity of a COMPLETE row and queues it for collection when parity disagrees. -/
  | parityVerify (pool row : Nat) (opens : Bool) (pages : List (List Nat))
  /-- REBUILD_ROW (R232): Within the background grant, rebuild reconstructs the next row's lost member and programs it on the target. -/
  | rebuildRow (pool row : Nat) (checksOk progOk : Bool)
  /-- RESHAPE_ROW_CONVERT (R241): The reshape walk converts the next row of geometry S into rows of geometry T and writes boundary records as due. -/
  | reshapeRowConvert
  /-- OAR_LINK_TRAINED (R250): An oar link trains, sets DLLSC and proceeds to attestation or a session heartbeat. -/
  | oarLinkTrained (slot cmdBuf wdataBuf mgmtBuf : Nat)
  /-- OAR_TRAIN_RETRY (R250): An oar link that has not trained within 200 strokes stays DOWN and retries every 1,000 strokes. -/
  | oarTrainRetry (slot : Nat)
  /-- OAR_DATA_FRAME (R253): A sequenced oar DATA frame is accepted in order, discarded as a duplicate, or NAKed when out of order or failing CRC. -/
  | oarDataFrame (slot seq ack chan len : Nat) (credits : List Nat) (crcOk typeOk : Bool) (msg : MgmtMsg)
  /-- OAR_ACK (R253): An oar ACK frame cumulatively releases unacknowledged frames held for replay. -/
  | oarAck (slot : Nat) (a : OarSeq)
  /-- OAR_NAK (R253): An oar NAK frame makes the sender replay every frame after the last good sequence. -/
  | oarNak (slot : Nat) (a : OarSeq)
  /-- OAR_IDLE (R252): An oar IDLE frame returns credits and acknowledgement. -/
  | oarIdle (slot ack : Nat) (credits : List Nat)
  /-- OAR_RESUME (R254): An oar RESUME after a retrain names the last sequence received, and the sender replays from there. -/
  | oarResume (slot : Nat) (a : OarSeq)
  /-- OAR_REPLAY_TIMEOUT (R253): Frames stay unacknowledged for 10 µs, so they are replayed, and a fourth unacknowledged replay retrains the link. -/
  | oarReplayTimeout (slot : Nat)
  /-- OAR_ACK_TIMER (R253): A receiver's 1 µs acknowledgement timer expires, so it sends a cumulative acknowledgement. -/
  | oarAckTimer (slot : Nat)
  /-- OAR_CREDIT_IDLE (R252): Credits have been owed for 2 µs, so an IDLE frame returns them. -/
  | oarCreditIdle (slot : Nat)
  /-- OAR_RETRAIN_LIMIT (R254): A retraining link has not returned to UP within OAR_RETRAIN_LIMIT strokes, so the port is FAILED and the link lost. -/
  | oarRetrainLimit (slot : Nat)
  /-- OAR_READ_RECORD (R260): A read record on RDATA is accepted if its CRC matches, or decoded by the port's min-sum decoder. -/
  | oarReadRecord (slot tag cw bits : Nat) (raw erased crcOk decodes : Bool)
  /-- OAR_COMPLETION (R262): A bridge completion on CPL ends a NAND command with its status, freeing the tag and advancing the die queue. -/
  | oarCompletion (slot tag status micros : Nat)
  /-- OAR_CMD_TIMEOUT (R266): A NAND command's completion is overdue, so the command fails with the consequence for its opcode. -/
  | oarCmdTimeout (slot tag : Nat)
  /-- SLOT_PRESENT_STABLE (R269): A slot's presence pin has been low for 200 stroke edges, so the slot is judged present and may be powered. -/
  | slotPresentStable (slot : Nat)
  /-- SLOT_ABSENT_DETECT (R273): A slot's presence pin has been high for 1,000 ticks, so commands stop, slot power drops and its shares are lost. -/
  | slotAbsentDetect (slot : Nat)
  /-- BLD_PWR_OFF_WRITE (R270): A write of PWR_OFF powers a slot off or on, and is refused for a blade holding a live share. -/
  | bldPwrOffWrite (slot : Nat) (off : Bool)
  /-- BLD_INDICATOR_WRITE (R271): A write of ATTN_IND or PWR_IND sends the indicator state to the blade by ring. -/
  | bldIndicatorWrite (slot attn pwr : Nat)
  /-- BLADE_ATTEST_DONE (R274): SPDM attestation of a blade completes, opening a secured session and loading geometry, or setting ATTEST_FAILED. -/
  | bladeAttestDone (slot root : Nat) (sigOk : Bool) (measures : List Nat) (g : BladeGeom)
  /-- BLADE_HEARTBEAT_TIMEOUT (R276): After a retrain, the bridge has not answered the session heartbeat within 1,000 strokes, so the blade is attested again. -/
  | bladeHeartbeatTimeout (slot : Nat)
  /-- FENCE_ACK (R279): A bridge acknowledges a fence change after draining the old epoch, and the new owner may issue NAND commands. -/
  | fenceAck (slot epoch : Nat) (log : List (Nat × List Delta))
  /-- RING_FRAME_RECEIVE (R282): A ring frame not addressed to the head is forwarded with HOPS decremented, or dropped on CRC or HOPS. -/
  | ringFrameReceive (cw crcOk : Bool) (dest : Nat) (f : RingRest)
  /-- RING_HEALTH_REPLY (R283): A HEALTH reply updates the slot's health and last-answered stroke and releases the next poll. -/
  | ringHealthReply (slot : Nat) (h : HealthReply)
  /-- RING_POLL_TIMEOUT (R284): A poll goes unanswered within RING_POLL_TIMEOUT, so it is retried or the slot counts as missed in that direction. -/
  | ringPollTimeout (slot : Nat)
  /-- RING_IND_ACK (R286): An IND_ACK confirms an indicator request. -/
  | ringIndAck (slot : Nat)
  /-- RING_BUTTON (R286): A BUTTON frame sets ABP for the slot and is answered with BUTTON_ACK. -/
  | ringButton (b : ButtonFrame)
  /-- PAIR_LANE_FAIL (R295): A pair lane fails, and its stream is rerouted over the keel to the next working lane. -/
  | pairLaneFail (seat : Nat)
  /-- PAIR_LANE_RETURN (R295): A lane has stayed trained for 1,000 strokes, so its stream returns to it. -/
  | pairLaneReturn (seat : Nat)
  /-- PAIR_FRAME_SEND (R297): A lane starts the next frame that fits in the current window by class priority, assigning its sequence. -/
  | pairFrameSend (lane tick : Nat)
  /-- PAIR_HELLO (R314): A HELLO join offer is received and checked for compatibility. -/
  | pairHello (seat : Nat) (h : Hello)
  /-- PAIR_EXCHANGE (R301): An EXCHANGE frame carries attestation and key-exchange messages of the join. -/
  | pairExchange (seat : Nat) (ok : Bool) (x : ExchangeSeen)
  /-- PAIR_HEARTBEAT (R316): An authentic HEARTBEAT is received, carrying the peer's state, and may arm a claim or end one. -/
  | pairHeartbeat (seat : Nat) (auth : Bool) (b : Beat)
  /-- PAIR_CONTROL (R309): A CONTROL frame delivers ownership changes, checkpoint notices, claims, failback or rekey coordination. -/
  | pairControl (seat : Nat) (f : PHdr) (c : Ctl)
  /-- PAIR_JOURNAL (R127): A JOURNAL frame is written to DRAM and its groups applied to the standby view when their LAST record arrives, or refused. -/
  | pairJournal (seat : Nat) (f : PHdr) (recs : List Delta)
  /-- PAIR_ACK (R303): An ACK frame delivers a cumulative acknowledgement, and a refusal before it. -/
  | pairAck (seat : Nat) (f : PHdr)
  /-- PAIR_NAK (R304): A NAK frame makes the sender retransmit go-back-N from its first unacknowledged frame. -/
  | pairNak (seat : Nat) (f : PHdr)
  /-- PAIR_MAP_SYNC (R307): A MAP_SYNC frame adds delta log records and PROGRAMMED rows to the standby view. -/
  | pairMapSync (seat : Nat) (f : PHdr) (page : Nat) (recs : List Delta) (rows : List (Nat × Nat))
  /-- PAIR_BULK (R314): A BULK frame carries journal records or standby-view transfers at join and failback. -/
  | pairBulk (seat : Nat) (f : PHdr) (recs : List Delta) (objs : List CfgObj)
  /-- PAIR_ACK_TIMER (R303): No reverse frame starts within 100 ticks of an unacknowledged acceptance, so an ACK frame is sent. -/
  | pairAckTimer (seat : Nat)
  /-- PAIR_RETX_TIMEOUT (R304): The first unacknowledged frame waits PAIR_RETX.STROKES edges, so the sender retransmits. -/
  | pairRetxTimeout (seat : Nat)
  /-- C_WINDOW_CLOSE (R317): At the close of each C window the missed-heartbeat count resets or rises, and at 1,000 a claim or fencing follows. -/
  | cWindowClose
  /-- WITNESS_REPLY (R321): A bridge's claim reply is counted and may decide the claim WON, LOST or UNDECIDED. -/
  | witnessReply (slot term side : Nat) (accepted : Bool)
  /-- CLAIM_TIMEOUT (R321): PAIR_CLAIM.TIMEOUT strokes pass without a decision, so the claim is UNDECIDED. -/
  | claimTimeout
  /-- CLAIM_RETRY (R321): The retry delay after an undecided claim ends, so a new claim with a new term is sent. -/
  | claimRetry
  /-- PAIR_FENCE_TIMEOUT (R322): A bridge has not acknowledged a fence within PAIR_FENCE_TIMEOUT, so its shares are declared failed. -/
  | pairFenceTimeout (slot : Nat) (log : List (Nat × List Delta))
  /-- PAIR_JOIN_WAIT_EXPIRY (R315): No HELLO has arrived within PAIR_JOIN_WAIT strokes, so the head claims its home side. -/
  | pairJoinWaitExpiry
  /-- PAIR_JOIN_RETRY (R312): An incompatible head retries the join every 10,000 strokes. -/
  | pairJoinRetry
  /-- FAILBACK_FENCE (R326): Once in-flight commands drain and rows program, the survivor raises the side's fences to the returning head. -/
  | failbackFence
  /-- PAIR_STATUS_GET (R329): Returns pair state, owned sides, lanes, failback schedule and last takeover duration. -/
  | pairStatusGet (slot : Nat)
  /-- PAIR_FAILBACK_HOLD (R327): Sets or releases a failback hold. -/
  | pairFailbackHold (slot : Nat) (hold : Bool)
  /-- PAIR_HANDOVER (R328): Hands every side this PAIRED head owns to its peer by the failback steps. -/
  | pairHandover (slot : Nat)
  /-- PAIR_GO_SOLO (R315): An ALONE head claims its home side at once. -/
  | pairGoSolo (slot : Nat)
  /-- PAIR_WINDOWS_SET (R298): Schedules a new window layout on both heads at a named stroke. -/
  | pairWindowsSet (slot c sw guard stroke : Nat)
  /-- PAIR_LANE_SET (R329): Fails a lane by R295 or lets it return. -/
  | pairLaneSet (slot lane : Nat) (enable : Bool)
  /-- RATE_COMPUTE (R347): After the histograms latch, the Rating engine computes the enabled loops in index order until the next edge abandons the rest as misses. -/
  | rateCompute (seat start cycles : Nat)
  /-- RATE_SETPOINT_SET (R349): Changes a loop's set-point and SLOPE from the next stroke edge, starting a ramp. -/
  | rateSetpointSet (slot : Nat) (seat : Option Nat) (loop sp slope : Nat)
  /-- RATE_OPEN_SET (R349): Sets the open-loop rate of a disabled loop. -/
  | rateOpenSet (slot : Nat) (seat : Option Nat) (loop rate : Nat)
  /-- RATE_LOOPS_STAGE (R349): Stages loop entries and class bucket settings in an easy-all of a loop set. -/
  | rateLoopsStage (slot seat : Nat) (entries : List (Nat × LoopCfg))
  /-- RATE_TABLE_GET (R349): Copies a seat's loop table and flags to host memory. -/
  | rateTableGet (slot seat : Nat)
  /-- RATE_LOOP_SELECT (R351): A write selects the loop shown in the live loop window within 1 µs. -/
  | rateLoopSelect (seat value : Nat)
  /-- SNAP_CREATE (R354): Registers a snapshot of a group at stroke S on both heads. -/
  | snapCreate (slot cg t : Nat)
  /-- SNAP_DELETE (R362): Removes a snapshot or cancels a pending registration. -/
  | snapDelete (slot snap : Nat)
  /-- SNAP_LIST (R354): Copies a group's snapshots to host memory. -/
  | snapList (slot cg : Nat)
  /-- SNAP_CLONE (R363): Creates a writable namespace from one member of a snapshot. -/
  | snapClone (slot snap member nsid : Nat)
  /-- SNAP_INFO (R364): Returns exclusive pages and state for one snapshot. -/
  | snapInfo (slot snap : Nat)
  /-- SNAP_SPACE (R364): Starts a sweep summing the space a snapshot's deletion would free. -/
  | snapSpace (slot snap : Nat)
  /-- CG_CREATE (R352): Creates a consistency group. -/
  | cgCreate (slot cg tenant : Nat) (members : List Nat)
  /-- CG_MEMBER_SET (R352): Adds or removes one member of a group. -/
  | cgMemberSet (slot cg nsid : Nat) (add : Bool)
  /-- CG_DELETE (R352): Deletes a consistency group with no snapshots or link. -/
  | cgDelete (slot cg : Nat)
  /-- REPL_LINK_CREATE (R365): Creates a replication link. -/
  | replLinkCreate (slot link : Nat) (p : LinkParams)
  /-- REPL_EPOCH_NOW (R367): Starts an epoch at the next stroke. -/
  | replEpochNow (slot link : Nat)
  /-- REPL_PAUSE (R365): Pauses or resumes a link. -/
  | replPause (slot link : Nat) (pause : Bool)
  /-- REPL_STATUS_GET (R365): Returns link state, epochs, batch and lag. -/
  | replStatusGet (slot link : Nat)
  /-- REPL_PROMOTE (R371): Ends the link and makes the replica writable. -/
  | replPromote (slot link : Nat)
  /-- REPL_LINK_DELETE (R365): Ends a link, keeping retained snapshots as ordinary snapshots. -/
  | replLinkDelete (slot link : Nat)
  /-- REPL_INTERVAL_EDGE (R367): A link's interval edge registers the next epoch's snapshot, or skips when an epoch is in transfer. -/
  | replIntervalEdge (link : Nat)
  /-- REPL_DELTA_COMPUTE (R367): Once the epoch snapshot is taken, each part computes its delta and cuts it into batches. -/
  | replDeltaCompute (link part : Nat)
  /-- REPL_HELLO (R372): A replication HELLO exchanges versions, committed epoch and last applied batches. -/
  | replHello (link part : Nat) (h : ReplHello)
  /-- REPL_KEX (R401): A replication KEX runs the key exchange or rekey. -/
  | replKex (link part : Nat) (ok : Bool)
  /-- REPL_OPEN (R367): An OPEN message opens an epoch on the target. -/
  | replOpen (link part epoch t parts batches : Nat)
  /-- REPL_OFFER (R368): An OFFER batch is matched against the target's fingerprint cache and answered with WANT. -/
  | replOffer (link part epoch batch : Nat) (ents : List DeltaEnt)
  /-- REPL_WANT (R368): A WANT tells the source which DATA entries to send, and it arms the record chain. -/
  | replWant (link part epoch batch : Nat) (want : List Nat)
  /-- REPL_READY (R368): A matching READY fires the armed RDMA WRITE chain; a mismatched one draws ABORT. -/
  | replReady (link part epoch batch len : Nat)
  /-- REPL_BATCH_END (R369): A BATCH_END makes the target check and apply the batch to the receiving image. -/
  | replBatchEnd (link part epoch batch : Nat) (recs : List ReplRec)
  /-- REPL_BATCH_ACK (R369): A BATCH_ACK confirms a batch applied and accepted. -/
  | replBatchAck (link part epoch batch : Nat)
  /-- REPL_BATCH_NAK (R370): A BATCH_NAK makes the source resend the batch; the third fails the link. -/
  | replBatchNak (link part epoch batch : Nat)
  /-- REPL_DONE (R371): A DONE from a part, with all batches acknowledged, commits the epoch on the target. -/
  | replDone (link part epoch : Nat)
  /-- REPL_COMMIT (R371): A COMMIT makes the epoch snapshot the source's new base. -/
  | replCommit (link part epoch : Nat)
  /-- REPL_ABORT (R366): An ABORT ends the epoch or link with a reason. -/
  | replAbort (link part reason : Nat) (whole : Bool)
  /-- REPL_LINK_TIMEOUT (R373): No authentic message arrives for SNP_LINK_TIMEOUT strokes, so the part enters WAITING. -/
  | replLinkTimeout (link part : Nat)
  /-- REPL_RECONNECT (R373): A waiting part tries to reconnect every 10,000 strokes. -/
  | replReconnect (link part : Nat)
  /-- SNP_LINK_SELECT (R374): A write loads the link registers from the selected link within 1 µs. -/
  | snpLinkSelect (value : Nat)
  /-- KEY_SLOT_FILL (R382): A key-slot miss is served by the key store over the keel and the stalled request resumes. -/
  | keySlotFill (seat kind domain gen : Nat)
  /-- NONCE_RESERVE_DONE (R396): A reservation entry's CHECK cell is written, raising the high-water mark and releasing stalled seals. -/
  | nonceReserveDone (seat domain gen : Nat)
  /-- KEY_ERASE_APPLY (R397): Once commands taken before E have drained, the domain's slots are cleared, its erase secret overwritten and the peer told. -/
  | keyEraseApply (domain : Nat)
  /-- DIG_RESULT_READ (R386): A read of a digest result returns it only for a finished, host-readable context, and an early read sets ERROR. -/
  | digResultRead (seat word : Nat)
  /-- DIG_CTX_SELECT (R406): A write loads the context registers within 1 µs. -/
  | digCtxSelect (seat value : Nat)
  /-- KEY_DOMAIN_SELECT (R405): A write loads the domain registers within 1 µs. -/
  | keyDomainSelect (value : Nat)
  /-- SPDM_GET_VERSION (R399): SPDM GET_VERSION is answered. -/
  | spdmGetVersion (mctp : Bool)
  /-- SPDM_GET_CAPABILITIES (R399): SPDM GET_CAPABILITIES is answered. -/
  | spdmGetCapabilities (mctp : Bool)
  /-- SPDM_NEGOTIATE_ALGORITHMS (R399): SPDM NEGOTIATE_ALGORITHMS is answered. -/
  | spdmNegotiateAlgorithms (mctp supported : Bool)
  /-- SPDM_GET_DIGESTS (R399): SPDM GET_DIGESTS is answered. -/
  | spdmGetDigests (mctp : Bool)
  /-- SPDM_GET_CERTIFICATE (R399): SPDM GET_CERTIFICATE returns a certificate chain. -/
  | spdmGetCertificate (mctp : Bool) (certSlot : Nat)
  /-- SPDM_CHALLENGE (R399): SPDM CHALLENGE is answered with an alias-key signature. -/
  | spdmChallenge (mctp : Bool) (certSlot nonce : Nat)
  /-- SPDM_GET_MEASUREMENTS (R400): SPDM GET_MEASUREMENTS returns the device measurements. -/
  | spdmGetMeasurements (mctp : Bool) (index nonce : Nat)
  /-- SPDM_KEY_EXCHANGE (R399): SPDM KEY_EXCHANGE opens a secured session, or fails beyond four sessions. -/
  | spdmKeyExchange (mctp : Bool)
  /-- SPDM_FINISH (R399): SPDM FINISH completes session set-up. -/
  | spdmFinish (mctp : Bool) (session : Nat) (ok : Bool)
  /-- SPDM_HEARTBEAT (R399): SPDM HEARTBEAT keeps a session alive. -/
  | spdmHeartbeat (mctp : Bool) (session : Nat)
  /-- SPDM_END_SESSION (R399): SPDM END_SESSION closes a secured session. -/
  | spdmEndSession (mctp : Bool) (session : Nat)
  /-- SPDM_SET_CERTIFICATE (R399): SET_CERTIFICATE installs the owner chain in slot 1. -/
  | spdmSetCertificate (mctp : Bool) (certSlot chain : Nat) (endsInAlias : Bool)
  /-- SPDM_VENDOR_DEFINED_REQUEST (R400): The vendor-defined request returns the ML-DSA-87 signature over the transcript. -/
  | spdmVendorDefinedRequest (mctp ours : Bool)
  /-- KEY_OWNER_ENROL (R378): Enrols the owner key by burning its hash once. -/
  | keyOwnerEnrol (slot : Nat) (hash : List Nat) (sigOk : Bool)
  /-- KEY_DOMAIN_CREATE (R381): Creates a tenant or namespace key domain. -/
  | keyDomainCreate (slot tenant : Nat) (ns share : Bool)
  /-- KEY_DOMAIN_ERASE (R397): Crypto-erases a domain from the next stroke edge. -/
  | keyDomainErase (slot domain : Nat)
  /-- KEY_ROLL (R392): Requests a roll of a domain to its next generation. -/
  | keyRoll (slot domain : Nat)
  /-- KEY_REKEY_SWEEP (R394): Marks generations for a rekey sweep and starts it. -/
  | keyRekeySweep (slot domain first last : Nat)
  /-- KEY_STATUS_GET (R403): Returns domain state, current generation and live-generation count. -/
  | keyStatusGet (slot domain : Nat)
  /-- KEY_SVN_COMMIT (R403): Raises the fused minimum security version to the running image's. -/
  | keySvnCommit (slot : Nat) (vendorOk ownerOk : Bool)
  /-- KEY_FK_SHARE (R402): Sends a domain's dedup key over a replication link. -/
  | keyFkShare (slot domain link : Nat) (targetEmpty : Bool)
  /-- KEY_PARTNER_ENROL (R401): Enrols replication partner DevID hashes. -/
  | keyPartnerEnrol (slot : Nat) (hashes : List Nat) (ownerOk : Bool)
  /-- KEY_BLADE_ROOT_ENROL (R274): Enrols blade roots and allowed-measurement lists. -/
  | keyBladeRootEnrol (slot : Nat) (roots allowed : List Nat) (ownerOk : Bool)
  /-- MBX_DOORBELL (R410): A doorbell write posts a slot's command, or is refused when the slot is busy. -/
  | mbxDoorbell (slot : Nat) (r : MbxReq)
  /-- MBX_ABORT (R414): An abort write ends a POSTED command, or an abortable RUNNING one at its next safe point. -/
  | mbxAbort (slot : Nat)
  /-- MBX_COMMAND_START (R411): The cox starts the next POSTED command of a lane once the previous one and any earlier conflicting command complete. -/
  | mbxCommandStart (lane : Nat)
  /-- MBX_COMMAND_TIMEOUT (R414): A command has not started within TIMEOUT strokes, so it completes with TIMEOUT. -/
  | mbxCommandTimeout (slot : Nat)
  /-- SYS_INFO (R420): Returns variant, versions, limits, side and pair state. -/
  | sysInfo (slot : Nat)
  /-- SYS_EASY_ALL (R424): Quiesces a function object by installing HELD versions. -/
  | sysEasyAll (slot : Nat) (obj : EasyObj) (hold : Nat)
  /-- EASY_ALL_QUIESCED (R424): Every previous version has retired and background activities have paused, so SYS_EASY_ALL completes. -/
  | easyAllQuiesced (obj : EasyObj)
  /-- SYS_STAGE (R426): Adds settings to an object's staged set. -/
  | sysStage (slot : Nat) (obj : EasyObj) (pairs : List (Nat × Nat))
  /-- SYS_ROW_ALL (R426): Validates the staged set and commits it at the next stroke edge, releasing the function. -/
  | sysRowAll (slot : Nat) (obj : EasyObj) (invalid : Option Nat)
  /-- SYS_EASY_ABORT (R427): Discards a staged set and releases the function with the old settings. -/
  | sysEasyAbort (slot : Nat) (obj : EasyObj)
  /-- SYS_EASY_LIST (R420): Lists easy-alls in progress. -/
  | sysEasyList (slot : Nat)
  /-- EASY_HOLD_LIMIT (R425): A held command reaches its hold limit and completes with Namespace Not Ready. -/
  | easyHoldLimit (cmd : Nat)
  /-- EASY_ALL_EXPIRY (R427): An easy-all passes MBX_EASY_CTRL.LIMIT without a commit and is aborted by the device. -/
  | easyAllExpiry (obj : EasyObj)
  /-- SYS_PARAM_GET (R421): Returns a parameter's value in force. -/
  | sysParamGet (slot : Nat) (obj : EasyObj) (id : Nat)
  /-- SYS_PARAM_SET (R421): Sets immediate parameters from the next stroke edge. -/
  | sysParamSet (slot : Nat) (obj : EasyObj) (pairs : List (Nat × Nat))
  /-- SYS_PARAM_DESCRIBE (R421): Returns a parameter's descriptor. -/
  | sysParamDescribe (slot id : Nat)
  /-- SYS_HOLDUP_DECLARE (R491): Declares the hold-up budget and supply redundancy and reserves haul-out bands. -/
  | sysHoldupDeclare (slot ms : Nat) (redundant : Bool) (bandsOk : Bool)
  /-- SYS_SERVICE_ENTER (R422): Enters TEST mode, closing the head's front end. -/
  | sysServiceEnter (slot mode : Nat)
  /-- SYS_SERVICE_EXIT (R422): Leaves TEST or RECOVERY, reopening the front end or restarting bring-up. -/
  | sysServiceExit (slot : Nat)
  /-- SYS_COX_DRILL (R431): Performs a deliberate cox switch-over and return and reports the gaps. -/
  | sysCoxDrill (slot gap : Nat) (faults : List Nat)
  /-- SYS_RECOVER_SCAN (R420): Returns every seat's intact anchor generations. -/
  | sysRecoverScan (slot : Nat)
  /-- SYS_RECOVER_USE_GEN (R423): Records a generation for recovery after checking its pages. -/
  | sysRecoverUseGen (slot gen : Nat) (pagesOk : Bool)
  /-- SYS_MAP_BUDGET (R152): Sets the DRAM budget for map and record pages per seat. -/
  | sysMapBudget (slot bytes : Nat)
  /-- NS_CREATE (R420): Creates a namespace. -/
  | nsCreate (slot nsid : Nat) (p : NsParams)
  /-- NS_DELETE (R181): Releases a namespace at once and leaves its references to the release sweep. -/
  | nsDelete (slot nsid : Nat)
  /-- NS_SECURE_DISCARD (R182): Erases the physical copies of a namespace in service mode. -/
  | nsSecureDiscard (slot nsid : Nat)
  /-- NS_INFO (R420): Returns a namespace's state and sizes. -/
  | nsInfo (slot nsid : Nat)
  /-- SUBSYS_CREATE (R420): Creates a subsystem. -/
  | subsysCreate (slot sub nqn tenant : Nat)
  /-- SUBSYS_HOSTS_SET (R82): Sets a subsystem's allowed-host list. -/
  | subsysHostsSet (slot sub : Nat) (hosts : List Nat)
  /-- ANA_GROUP_CREATE (R420): Creates an ANA group. -/
  | anaGroupCreate (slot ana side : Nat)
  /-- MR_REGISTER (R71): Registers a memory region, refused in domain 0. -/
  | mrRegister (slot index tag pd base len : Nat) (remRead remWrite : Bool)
  /-- MR_INVALIDATE (R76): Invalidates a region, completing when its previous version retires. -/
  | mrInvalidate (slot index : Nat)
  /-- TENANT_CREATE (R420): Creates a tenant with its key domain. -/
  | tenantCreate (slot tenant : Nat) (sprint : Bool)
  /-- TENANT_DELETE (R420): Deletes a tenant without namespaces. -/
  | tenantDelete (slot tenant : Nat)
  /-- TENANT_ADDR_SET (R82): Sets a tenant's allowed source address ranges. -/
  | tenantAddrSet (slot tenant : Nat) (ranges : List (Nat × Nat))
  /-- TENANT_SECURE_DISCARD (R182): Erases the physical copies of a tenant in service mode. -/
  | tenantSecureDiscard (slot tenant : Nat)
  /-- DICT_LOAD (R118): Loads a dictionary slot and replicates it to every seat and the boathouse. -/
  | dictLoad (slot dict tenant size id content : Nat) (system magicOk : Bool)
  /-- DICT_RETIRE (R119): Retires a dictionary slot, completing when its count reaches zero. -/
  | dictRetire (slot dict : Nat)
  /-- DICT_SAMPLE (R118): Copies sample blocks of a namespace to host memory. -/
  | dictSample (slot nsid count : Nat)
  /-- GROUP_CREATE (R210): Creates a redundancy group and its pool. -/
  | groupCreate (slot pool side k m dies : Nat) (shares : List (Nat × Nat)) (ageGrouped : Bool)
  /-- GROUP_DELETE (R420): Deletes a group whose pool holds no data. -/
  | groupDelete (slot pool : Nat)
  /-- GROUP_SPARE_SET (R231): Sets a group's spare slots. -/
  | groupSpareSet (slot pool : Nat) (slots : List Nat)
  /-- GROUP_SHARE_FAIL (R213): Declares a share failed. -/
  | groupShareFail (slot pool member : Nat)
  /-- GROUP_REBUILD_TARGET (R231): Names a rebuild target, which joins new bands at once. -/
  | groupRebuildTarget (slot pool member target : Nat)
  /-- GROUP_RESHAPE (R239): Starts or reverses a reshape of a pool. -/
  | groupReshape (slot pool k m : Nat) (shares : List (Nat × Nat))
  /-- BLADE_INFO (R420): Returns a slot's geometry, timings, attestation and health. -/
  | bladeInfo (slot blade : Nat)
  /-- BLADE_ATTEST (R274): Runs blade attestation again. -/
  | bladeAttest (slot blade : Nat)
  /-- LOG_COPY (R525): Copies logbook entries after an extended stroke to host memory. -/
  | logCopy (slot after : Nat)
  /-- FAULT_GET (R520): Returns window counters of one fault source or instance. -/
  | faultGet (slot source : Nat) (inst : Option Nat)
  /-- PFR_ARM (R526): Arms photo-finish triggers with their register lists. -/
  | pfrArm (slot seat trig : Nat) (a : PfrArm)
  /-- PWR_TIMERS_SET (R482): Sets idle timers per unit on every seat. -/
  | pwrTimersSet (slot unit paddle easy : Nat)
  /-- PWR_STATE_GET (R420): Returns power states, wake sources and refusal counts. -/
  | pwrStateGet (slot : Nat)
  /-- MBX_INVALID_OPCODE (R420): A command with an opcode outside the catalogue completes with INVALID_OPCODE. -/
  | mbxInvalidOpcode (slot : Nat)
  /-- PCIE_LINK_UP (R434): The PCIe link trains, and a degraded width or speed sets LINK_DEGRADED. -/
  | pcieLinkUp (speed width : Nat) (flit : Bool)
  /-- PERST_ASSERT (R451): PERST_N asserts, and the device resets fully or only its control face by the sampled scope. -/
  | perstAssert
  /-- PERST_DEASSERT (R461): PERST_N deasserts after a full reset, and the boot ROM starts. -/
  | perstDeassert (b : BootRom)
  /-- PCIE_HOT_RESET (R450): A hot reset acts as PERST_N at the scope in force. -/
  | pcieHotReset
  /-- PCIE_LINK_DOWN (R450): A link-down acts as PERST_N at the scope in force. -/
  | pcieLinkDown
  /-- FACE_RESTORE_DONE (R452): After a control-face reset the cox restores the function and configuration requests stop receiving retry status. -/
  | faceRestoreDone
  /-- PCIE_FLR (R454): Initiate Function Level Reset stops new requests and waits for outstanding completions. -/
  | pcieFlr
  /-- FLR_WAIT_DONE (R454): All completions have arrived or timed out, so the function's state is reset and FLR_DONE set. -/
  | flrWaitDone (micros : Nat) (timedOut : Bool)
  /-- BME_CLEAR (R453): Clearing Bus Master Enable stops new upstream requests within 1 µs. -/
  | bmeClear
  /-- BME_SET (R453): Setting Bus Master Enable sends pending messages and resumes requests. -/
  | bmeSet
  /-- PM_D3HOT (R448): The function enters D3hot and BAR requests complete as Unsupported Request. -/
  | pmD3hot
  /-- PM_D0 (R448): The function returns to D0 with every register kept. -/
  | pmD0
  /-- PCIE_POISONED_WRITE (R444): A poisoned write is discarded, reported and marks its slot or fails the boot download. -/
  | pciePoisonedWrite (bar off : Nat)
  /-- PCIE_COMPLETION (R445): A completion for a device read delivers data, or on poison or error fails the issuing command. -/
  | pcieCompletion (tag : Nat) (r : CplResult)
  /-- PCIE_COMPLETION_TIMEOUT (R445): A device read's completion times out and its command fails with HOST_MEMORY_UNAVAILABLE. -/
  | pcieCompletionTimeout (tag : Nat)
  /-- PCIE_L1_ENTRY (R447): After 10 µs with no upstream request the link enters L1 where ASPM allows. -/
  | pcieL1Entry (sub : Nat)
  /-- PCIE_L1_EXIT (R447): The link leaves L1 to send a due message or completion. -/
  | pcieL1Exit
  /-- MSIX_UNMASK (R439): A vector becomes unmasked or MSI-X enabled, and its pending message is sent. -/
  | msixUnmask (vector : Option Nat)
  /-- PCI_RESET_SCOPE_WRITE (R451): A configuration write of SCOPE takes effect when its completion is sent, accepting FACE only while READY. -/
  | pciResetScopeWrite (value : Nat)
  /-- DOE_REQUEST (R449): A DOE object carrying discovery or SPDM is answered. -/
  | doeRequest (protocol bytes : Nat)
  /-- DOE_ABORT (R449): A DOE Abort discards the object in progress. -/
  | doeAbort
  /-- FULL_RESET (R458): Power-up or a full-scope reset stops storage service, ends sessions and samples the straps. -/
  | fullReset (cause : ResetCause)
  /-- BOOT_WINDOW_WRITE (R466): A write to the boot window at the running offset is hashed and opened chunk by chunk, or refuses the download. -/
  | bootWindowWrite (off len : Nat) (tagsOk : Bool)
  /-- BOOT_HEADER_CHECKED (R465): The header checks finish, setting HEADER_ACCEPTED or refusing the download. -/
  | bootHeaderChecked (h : ImageHeader) (c : HeaderChecks)
  /-- BOOT_IMAGE_VERIFIED (R467): The digest compares EQUAL and every chunk tag passes, so the image is accepted and the cox starts. -/
  | bootImageVerified (equal : Bool) (sramOk : Bool)
  /-- BOOT_RESTART (R468): A write of PKG_BOOT_CTRL.RESTART refuses the download in progress. -/
  | bootRestart
  /-- BOOT_DOWNLOAD_TIMEOUT (R468): No body write arrives within 100,000 strokes, so the download is refused. -/
  | bootDownloadTimeout
  /-- BRINGUP_DRAM_TRAINED (R471): DRAM training finishes on every channel, or a failed channel stops bring-up in RECOVERY. -/
  | bringupDramTrained (dimms : List Dimm)
  /-- BRINGUP_DISCOVERY_DONE (R471): Blade discovery finishes with slots powered, links trained and blades attested. -/
  | bringupDiscoveryDone
  /-- SIDE_RECOVERY (R472): The head decides from fence state which sides to recover, loads keys and runs map recovery and configuration load. -/
  | sideRecovery (r : RecoveryInfo)
  /-- FRONT_END_OPEN (R476): At the first edge where every open condition holds, every seat's front end opens and service begins. -/
  | frontEndOpen
  /-- UNIT_PADDLE_ENTRY (R482): A unit's PADDLE idle timer expires and it tries to enter PADDLE. -/
  | unitPaddleEntry (seat unit : Nat) (work abort : Option Nat)
  /-- UNIT_EASY_ENTRY (R482): A unit's EASY idle timer expires and it tries to enter EASY. -/
  | unitEasyEntry (seat unit : Nat) (work abort : Option Nat)
  /-- UNIT_WAKE (R485): An access to a unit in PADDLE or EASY wakes it and stalls until it is ready. -/
  | unitWake (seat unit source cycles : Nat)
  /-- THERMAL_TRIP (R490): A seat reads 110 °C for 16 strokes, so the device hauls out and halts. -/
  | thermalTrip (seat : Nat)
  /-- PWR_WARN_DETECT (R493): PWR_WARN_N stays low for HLD_FILTER ticks, so haul-out starts irrevocably. -/
  | pwrWarnDetect (ticks : Nat)
  /-- PWR_WARN_GLITCH (R493): PWR_WARN_N rises before the filter ends and GLITCH is set. -/
  | pwrWarnGlitch (ticks : Nat)
  /-- HAULOUT_IMAGE_PROGRAMMED (R497): Every image page has programmed, so the valid mark is written. -/
  | hauloutImageProgrammed (seat side : Nat)
  /-- HAULOUT_MARK_PROGRAMMED (R494): The valid mark has programmed, so haul-out is DONE and transmitters quiet. -/
  | hauloutMarkProgrammed (seat side micros : Nat)
  /-- DRAM_CA_RETRY (R504): A command/address parity or write CRC error retries the access, failing the channel after four retries. -/
  | dramCaRetry (seat channel retries : Nat) (ok : Bool)
  /-- DRAM_REMAP_COPY_DONE (R509): A failing line's copy to a spare finishes, the entry is written to the anchor store and the line redirected. -/
  | dramRemapCopyDone (seat channel : Nat)
  /-- PFR_CLEAR (R529): A write of PFR_CTRL.CLEAR clears every record. -/
  | pfrClear (seat : Nat)
  /-- PFR_DISARM (R537): A write of PFR_CTRL.DISARM disarms every trigger. -/
  | pfrDisarm (seat : Nat)
  /-- PFR_SOFT_TRIGGER (R526): A write of PFR_CTRL.SOFT fires the named SOFTWARE triggers. -/
  | pfrSoftTrigger (seat mask : Nat)
  /-- PFR_LINKED_FIRE (R527): A linked trigger firing arrives from another seat and captures a record. -/
  | pfrLinkedFire (seat fromSeat fromTrig : Nat)
  /-- PFR_SELECT (R537): A write loads PFR_RECORD from the selected record within 1 µs. -/
  | pfrSelect (seat record : Nat)
  /-- ANC_READ_ADDR (R516): A write loads the addressed anchor-store word within 1 µs. -/
  | ancReadAddr (seat value corrected bad : Nat)
  /-- I3C_ENTDAA (R531): ENTDAA assigns the device its dynamic address. -/
  | i3cEntdaa (address : Nat)
  /-- I3C_SETMRL (R531): SETMRL sets the maximum read length. -/
  | i3cSetmrl (bytes : Nat)
  /-- I3C_SETMWL (R531): SETMWL sets the maximum write length. -/
  | i3cSetmwl (bytes : Nat)
  /-- MCTP_SET_ENDPOINT_ID (R532): MCTP Set Endpoint ID assigns the EID. -/
  | mctpSetEndpointId (m : MctpIn) (eid : Nat)
  /-- MCTP_GET_ENDPOINT_ID (R532): MCTP Get Endpoint ID is answered. -/
  | mctpGetEndpointId (m : MctpIn)
  /-- MCTP_GET_ENDPOINT_UUID (R532): MCTP Get Endpoint UUID is answered. -/
  | mctpGetEndpointUuid (m : MctpIn)
  /-- MCTP_GET_VERSION_SUPPORT (R532): MCTP Get MCTP Version Support is answered. -/
  | mctpGetVersionSupport (m : MctpIn)
  /-- MCTP_GET_MESSAGE_TYPE_SUPPORT (R532): MCTP Get Message Type Support is answered. -/
  | mctpGetMessageTypeSupport (m : MctpIn)
  /-- PLDM_GET_TID (R533): PLDM GetTID is answered. -/
  | pldmGetTid (m : MctpIn)
  /-- PLDM_SET_TID (R533): PLDM SetTID sets the terminus ID. -/
  | pldmSetTid (m : MctpIn) (tid : Nat)
  /-- PLDM_GET_PLDM_VERSION (R533): PLDM GetPLDMVersion is answered. -/
  | pldmGetPldmVersion (m : MctpIn) (type : Nat)
  /-- PLDM_GET_PLDM_TYPES (R533): PLDM GetPLDMTypes is answered. -/
  | pldmGetPldmTypes (m : MctpIn)
  /-- PLDM_GET_PLDM_COMMANDS (R533): PLDM GetPLDMCommands is answered. -/
  | pldmGetPldmCommands (m : MctpIn) (type : Nat)
  /-- PLDM_GET_PDR_REPOSITORY_INFO (R533): PLDM GetPDRRepositoryInfo is answered. -/
  | pldmGetPdrRepositoryInfo (m : MctpIn)
  /-- PLDM_GET_PDR (R533): PLDM GetPDR returns a sensor PDR. -/
  | pldmGetPdr (m : MctpIn) (handle : Nat)
  /-- PLDM_GET_SENSOR_READING (R533): PLDM GetSensorReading returns a numeric sensor. -/
  | pldmGetSensorReading (m : MctpIn) (sensor : Nat)
  /-- PLDM_GET_STATE_SENSOR_READINGS (R533): PLDM GetStateSensorReadings returns state sensors. -/
  | pldmGetStateSensorReadings (m : MctpIn) (sensor : Nat)
  /-- PLDM_GET_SENSOR_THRESHOLDS (R533): PLDM GetSensorThresholds returns thresholds. -/
  | pldmGetSensorThresholds (m : MctpIn) (sensor : Nat)
  /-- PLDM_SET_EVENT_RECEIVER (R534): PLDM SetEventReceiver sets the receiver of sensor events. -/
  | pldmSetEventReceiver (m : MctpIn) (receiver : Nat)
  /-- PLDM_EVENT_RETRY (R534): An unanswered PlatformEventMessage is repeated at 1 s intervals, up to three times. -/
  | pldmEventRetry (answered : Nat)
  /-- UPD_PIECE (R544): A PIECE message is checked, programmed into the staging area and acknowledged. -/
  | updPiece (m : MctpIn) (p : PieceMsg)
  /-- UPD_QUERY (R544): A QUERY is answered with state, reason and the piece bitmap. -/
  | updQuery (m : MctpIn) (imageId : Nat)
  /-- UPD_HEADER_CHECKED (R543): A staged header's checks finish and the staging area is reserved, or the image is refused. -/
  | updHeaderChecked (u : StagedHeader) (c : HeaderChecks) (spaceOk : Bool)
  /-- UPD_VERIFY_RUN (R545): With every piece present, the image is verified in the background and becomes VERIFIED or is refused. -/
  | updVerifyRun (v : VerifyResult)
  /-- UPD_STATUS_GET (R556): Returns update state, versions, piece counts and schedule. -/
  | updStatusGet (slot : Nat)
  /-- UPD_ACTIVATE (R549): Schedules activation of a VERIFIED image at stroke T on both heads. -/
  | updActivate (slot t : Nat) (soloOk : Bool) (peerConfirms : Bool)
  /-- UPD_CANCEL (R550): Withdraws an activation schedule on both heads. -/
  | updCancel (slot : Nat)
  /-- UPD_DISCARD (R546): Frees the staging area. -/
  | updDiscard (slot : Nat)
  /-- UPD_EXPORT (R556): Copies the embedded boot image to host memory. -/
  | updExport (slot : Nat)
  /-- UPD_BITMAP_GET (R556): Copies the piece bitmap to host memory. -/
  | updBitmapGet (slot : Nat)
  /-- UPD_VERIFY (R545): Starts verification again on a complete image. -/
  | updVerify (slot : Nat)
  /-- BRIDGE_UPDATE (R554): After activation a head transfers new firmware to a bridge it fences and restarts it. -/
  | bridgeUpdate (slot : Nat) (measurementListed : Bool)
  /-- BRIDGE_RESTART_TIMEOUT (R555): A restarting bridge has not trained within 32,000 strokes, so its shares become lost. -/
  | bridgeRestartTimeout (slot : Nat)
  /-- SUPPLY_LOW (R572): A rail falls below its operating range but above its threshold, setting its LOW bit. -/
  | supplyLow (rail : Nat)
  /-- BROWNOUT (R572): A rail stays below its brown-out threshold for 100 ticks, so the device enters a full reset. -/
  | brownout (rail : Nat)
  /-- KEEL_CRC_RETRANSMISSION (R517): A keel link retransmits after a CRC error, counting in KEEL_LINK_RETRY and in the KEEL_RETRY fault window. -/
  | keelCrcRetransmission (seat peer count : Nat)
  /-- OAR_LINK_DOWN (R273): An oar link drops while presence stays, and the device starts retraining it without losing the blade's shares. -/
  | oarLinkDown (slot : Nat)
  /-- RING_IND_ACK_TIMEOUT (R286): No IND_ACK arrives within RING_POLL_TIMEOUT, so the indicator request is sent counter-clockwise or held with IND_PENDING. -/
  | ringIndAckTimeout (slot : Nat)
  /-- PAIR_LANE_TRAINED (R295): A pair lane completes training, which allows HELLO at the join and starts the 1,000-stroke count before its stream returns. -/
  | pairLaneTrained (seat : Nat)
  /-- PAIR_LANE_TRAINING_LOST (R295): A pair lane loses training, stops carrying frames and starts the 100-stroke count after which it fails. -/
  | pairLaneTrainingLost (seat : Nat)
  /-- SUPPLY_RESTORED (R572): A rail returns to its operating range, clearing its LOW bit, and after a brown-out the device leaves reset as from power-up once all rails have been in range for 100 µs. -/
  | supplyRestored (rail : Nat) (b : BootRom)
  /-- FLR_TAG_RELEASE (R455): One second after a FLR, a tag still reserved for an abandoned read is released. -/
  | flrTagRelease (tag : Nat)
  /-- CLUSTER_SELF_TEST_DONE (R471): The keel trains and every seat passes its cluster self-test, ending bring-up step 6 and starting DRAM training and blade discovery, or stopping bring-up in RECOVERY. -/
  | clusterSelfTestDone (passed : List Bool)
  deriving DecidableEq, Repr

end Sys2Proof
end

