-- ==== Sys2Proof/Decode.lean ====
section
/-!
DEFINITION. Decode.lean: the table of commands gives no row any bits: a command reaches the block as a bus access, a message or an
event of its own units, each of which another rule frames, and not as a word. There is therefore no word to decode.
-/

namespace Sys2Proof

/-- The command a word of the opcode table spells: none, for the table gives no command bits. -/
def decodeTableWord (_nbits _w : Nat) : Option Instr := none

end Sys2Proof
end

