-- ==== Sys2Proof/Machine/FMap.lean ====
section
/-!
DEFINITION. Machine/FMap.lean: tables of the block as finite maps from numbers, in one canonical form.
A table is a list of (key, value) pairs with strictly rising keys, so that equal tables are equal data. Every table of the
State (queue pairs, rows, map entries, faults and so on) is one of these; a key that is not listed is not in use.
-/

namespace Sys2Proof.Machine

/-- A table: (key, value) pairs, keys strictly rising. -/
abbrev FMap (V : Type) := List (Nat × V)

/-- The entry at key `k`. -/
def fget {V : Type} : FMap V → Nat → Option V
  | [], _ => none
  | (a, v) :: t, k => if a = k then some v else fget t k

/-- Set the entry at key `k` to `v`. -/
def fset {V : Type} : FMap V → Nat → V → FMap V
  | [], k, v => [(k, v)]
  | (a, x) :: t, k, v => if k < a then (k, v) :: (a, x) :: t else if k = a then (k, v) :: t else (a, x) :: fset t k v

/-- Remove the entry at key `k`. -/
def fdel {V : Type} : FMap V → Nat → FMap V
  | [], _ => []
  | (a, x) :: t, k => if a = k then t else (a, x) :: fdel t k

/-- Change the entry at key `k`, when there is one. -/
def fmod {V : Type} (m : FMap V) (k : Nat) (f : V → V) : FMap V :=
  match fget m k with
  | some v => fset m k (f v)
  | none => m

/-- Whether key `k` is in use. -/
def fhas {V : Type} (m : FMap V) (k : Nat) : Bool := (fget m k).isSome

/-- The value at key `k`, or `d` where none is listed. -/
def fgetD {V : Type} (m : FMap V) (k : Nat) (d : V) : V := (fget m k).getD d

/-- Keep the entries that satisfy `p`. -/
def fkeep {V : Type} (m : FMap V) (p : Nat → V → Bool) : FMap V := m.filter fun e => p e.1 e.2

/-- Change every entry. -/
def fmapV {V W : Type} (m : FMap V) (f : Nat → V → W) : FMap W := m.map fun e => (e.1, f e.1 e.2)

/-- The canonical form: keys strictly rising. -/
def FSorted {V : Type} (m : FMap V) : Prop := (m.map Prod.fst).Pairwise (· < ·)

/-- Two small indices as one key: the pair (seat, index), (slot, port) and the like. -/
def pairKey (hi lo : Nat) : Nat := hi * 4294967296 + lo

/-- The first index of a `pairKey`. -/
def keyHi (k : Nat) : Nat := k / 4294967296

/-- The second index of a `pairKey`. -/
def keyLo (k : Nat) : Nat := k % 4294967296

/-- Fold a state change over a list, first element first. -/
def foldS {A S : Type} (l : List A) (f : A → S → S) (s : S) : S := l.foldl (fun s a => f a s) s

end Sys2Proof.Machine
end

