-- ==== Sys2Proof/Machine/RegBase.lean ====
section
/-!
DEFINITION. Machine/RegBase.lean: what a register field is (R6 to R10), and the reset values that a table of the spec gives by index.
-/

namespace Sys2Proof.Machine

/-- The access codes of R10. A suffix `s` is the sticky form of the code (the field keeps its value across a function-level reset). -/
inductive Acc where
  | ro | rw | w1c | wo | rc | rwl | rws | w1cs | rcs
  deriving DecidableEq, Repr

/-- A register field: its bit address (eight times the byte address of the register's low word, plus the field's lowest bit),
its width in bits and its reset value. A 64-bit quantity (R7) is one field of 64 bits at the low register. -/
structure Fld where
  /-- Bit address. -/
  key : Nat
  /-- Width in bits. -/
  width : Nat
  /-- Value after reset. -/
  reset : Nat
  deriving DecidableEq, Repr

/-- One field of a row of the register tables. -/
structure FieldDef where
  /-- Lowest bit. -/
  lsb : Nat
  /-- Width. -/
  width : Nat
  /-- Access code. -/
  acc : Acc
  /-- Reset value, by array index. -/
  reset : Nat → Nat

/-- One row of the register tables: `count` registers, `stride` bytes apart. -/
structure RegDef where
  /-- Offset of the first register. -/
  off : Nat
  /-- Distance between array members. -/
  stride : Nat
  /-- Number of array members. -/
  count : Nat
  /-- Whether the row is a 64-bit quantity of a low and a high register (R7). -/
  wide : Bool
  /-- The fields that are not reserved. -/
  fields : List FieldDef

/-- *Periodic events* (R58): the default intervals. -/
def schedIntervalReset : Nat → Nat
  | 0 => 1 | 1 => 1 | 2 => 1 | 3 => 1000 | 4 => 1 | 5 => 10000 | 6 => 10000 | 7 => 75000 | _ => 0

/-- *Periodic events* (R58): the default phases; SWEEP lies half an interval from CHECKPOINT. -/
def schedPhaseReset : Nat → Nat
  | 6 => 5000 | _ => 0

/-- *Power units* (R480): default idle time before PADDLE, in ticks; unit 16 (STK) leaves ROW never. -/
def paddleIdleReset (u : Nat) : Nat := if u = 16 then 0 else if u = 12 then 400 else 200

/-- *Power units* (R480): default idle time in PADDLE before EASY, in units of 10 µs (R482); 0 where EASY is not allowed. -/
def easyIdleReset (u : Nat) : Nat :=
  if u = 1 ∨ u = 9 ∨ u = 10 ∨ u = 11 ∨ u = 13 ∨ u = 16 then 0 else if u = 12 then 10000 else 1000

/-- *Fault sources* (R517): default N of each source; reserved sources read zero. -/
def faultNReset : Nat → Nat
  | 1 => 4 | 2 => 4 | 3 => 16 | 4 => 2 | 5 => 3 | 6 => 16 | 7 => 2 | 8 => 2 | 9 => 64 | 10 => 16 | 11 => 16 | 12 => 4096
  | 13 => 4 | 14 => 64 | 15 => 4 | 16 => 1 | 17 => 1 | 18 => 16 | 19 => 1 | 20 => 1 | _ => 0

end Sys2Proof.Machine
end

