-- ==== Sys2Proof/Machine/RegFields.lean ====
section
/-!
DEFINITION. Machine/RegFields.lean: every register field of the block, by name: where it lies, its width, its reset value.
Written by a script from the register field tables of spec/ (the chapters' *_ registers* tables), one row here for one row
there. Reserved bits are not listed (R9).
-/

namespace Sys2Proof.Machine

namespace Reg

/-- KEEL_LINK_STATUS.LINK_UP [7:0], RO (R18). -/
def KEEL_LINK_STATUS_LINK_UP (n : Nat) : Fld := ⟨8 * (0x400000 * (n + 1) + 0x10000), 8, 0⟩

/-- KEEL_LINK_STATUS.DETOUR [15:8], RO (R18). -/
def KEEL_LINK_STATUS_DETOUR (n : Nat) : Fld := ⟨8 * (0x400000 * (n + 1) + 0x10000) + 8, 8, 0⟩

/-- KEEL_LINK_RETRY.COUNT [31:0], RC (R18). -/
def KEEL_LINK_RETRY_COUNT (n : Nat) : Fld := ⟨8 * (0x400000 * (n + 1) + 0x10004), 32, 0⟩

/-- KEEL_WEIGHT.CTRL [7:0], RW (R18). -/
def KEEL_WEIGHT_CTRL (n i : Nat) : Fld := ⟨8 * (0x400000 * (n + 1) + 0x10100 + 4 * i), 8, 8⟩

/-- KEEL_WEIGHT.READ [15:8], RW (R18). -/
def KEEL_WEIGHT_READ (n i : Nat) : Fld := ⟨8 * (0x400000 * (n + 1) + 0x10100 + 4 * i) + 8, 8, 64⟩

/-- KEEL_WEIGHT.WRITE [23:16], RW (R18). -/
def KEEL_WEIGHT_WRITE (n i : Nat) : Fld := ⟨8 * (0x400000 * (n + 1) + 0x10100 + 4 * i) + 16, 8, 64⟩

/-- KEEL_WEIGHT.BACK [31:24], RW (R18). -/
def KEEL_WEIGHT_BACK (n i : Nat) : Fld := ⟨8 * (0x400000 * (n + 1) + 0x10100 + 4 * i) + 24, 8, 16⟩

/-- KEEL_SERVED.UNITS [31:0], RO (R18). -/
def KEEL_SERVED_UNITS (n i : Nat) : Fld := ⟨8 * (0x400000 * (n + 1) + 0x10200 + 4 * i), 32, 0⟩

/-- KEEL_FAIR_EXCESS.COUNT [31:0], RC (R18). -/
def KEEL_FAIR_EXCESS_COUNT (n : Nat) : Fld := ⟨8 * (0x400000 * (n + 1) + 0x10240), 32, 0⟩

/-- PKG_DURABILITY.PAIRED [0:0], RO (R29). -/
def PKG_DURABILITY_PAIRED : Fld := ⟨512, 1, 0⟩

/-- PKG_DURABILITY.BUDGET_DECLARED [1:1], RO (R29). -/
def PKG_DURABILITY_BUDGET_DECLARED : Fld := ⟨513, 1, 0⟩

/-- PKG_DURABILITY.REDUNDANT [2:2], RO (R29). -/
def PKG_DURABILITY_REDUNDANT : Fld := ⟨514, 1, 0⟩

/-- PKG_DURABILITY.STROKE_A_OK [3:3], RO (R29). -/
def PKG_DURABILITY_STROKE_A_OK : Fld := ⟨515, 1, 0⟩

/-- PKG_DURABILITY.STROKE_B_OK [4:4], RO (R29). -/
def PKG_DURABILITY_STROKE_B_OK : Fld := ⟨516, 1, 0⟩

/-- PKG_DURABILITY.SUPPLY_DECLARED [5:5], RO (R29). -/
def PKG_DURABILITY_SUPPLY_DECLARED : Fld := ⟨517, 1, 0⟩

/-- PKG_DURABILITY.CHANGED [8:8], W1CS (R29). -/
def PKG_DURABILITY_CHANGED : Fld := ⟨520, 1, 0⟩

/-- PKG_DURABILITY.HOLDS [31:31], RO (R29). -/
def PKG_DURABILITY_HOLDS : Fld := ⟨543, 1, 0⟩

/-- PKG_ID.SEATS [7:0], RO (R34). -/
def PKG_ID_SEATS : Fld := ⟨0, 8, 8⟩

/-- PKG_ID.STEPPING [15:8], RO (R34). -/
def PKG_ID_STEPPING : Fld := ⟨8, 8, 192⟩

/-- PKG_ID.PART [31:16], RO (R34). -/
def PKG_ID_PART : Fld := ⟨16, 16, 2176⟩

/-- SEAT_ID.NUMBER [3:0], RO (R34). -/
def SEAT_ID_NUMBER (n : Nat) : Fld := ⟨8 * (0x400000 * (n + 1) + 0x0), 4, 0⟩

/-- SEAT_ID.STROKE_SEAT [4:4], RO (R34). -/
def SEAT_ID_STROKE_SEAT (n : Nat) : Fld := ⟨8 * (0x400000 * (n + 1) + 0x0) + 4, 1, 0⟩

/-- SEAT_ID.COX_ACTIVE [5:5], RO (R34). -/
def SEAT_ID_COX_ACTIVE (n : Nat) : Fld := ⟨8 * (0x400000 * (n + 1) + 0x0) + 5, 1, 0⟩

/-- SEAT_ID.COX_STANDBY [6:6], RO (R34). -/
def SEAT_ID_COX_STANDBY (n : Nat) : Fld := ⟨8 * (0x400000 * (n + 1) + 0x0) + 6, 1, 0⟩

/-- STK_CTRL.PREFER [0:0], RWS (R60). -/
def STK_CTRL_PREFER : Fld := ⟨524288, 1, 0⟩

/-- STK_CTRL.REVERT [1:1], RWS (R60). -/
def STK_CTRL_REVERT : Fld := ⟨524289, 1, 1⟩

/-- STK_CTRL.SWITCH_NOW [2:2], WO (R60). -/
def STK_CTRL_SWITCH_NOW : Fld := ⟨524290, 1, 0⟩

/-- STK_STATUS.A_LOCKED [0:0], RO (R60). -/
def STK_STATUS_A_LOCKED : Fld := ⟨524320, 1, 0⟩

/-- STK_STATUS.B_LOCKED [1:1], RO (R60). -/
def STK_STATUS_B_LOCKED : Fld := ⟨524321, 1, 0⟩

/-- STK_STATUS.ACTIVE [2:2], RO (R60). -/
def STK_STATUS_ACTIVE : Fld := ⟨524322, 1, 0⟩

/-- STK_STATUS.HOLDOVER [3:3], RO (R60). -/
def STK_STATUS_HOLDOVER : Fld := ⟨524323, 1, 1⟩

/-- STK_STATUS.SLEWING [4:4], RO (R60). -/
def STK_STATUS_SLEWING : Fld := ⟨524324, 1, 0⟩

/-- STK_STATUS.PAIR_RESYNC [5:5], RO (R60). -/
def STK_STATUS_PAIR_RESYNC : Fld := ⟨524325, 1, 0⟩

/-- STK_STATUS.REFERENCE [6:6], RO (R60). -/
def STK_STATUS_REFERENCE : Fld := ⟨524326, 1, 0⟩

/-- STK_STATUS.FLOOR_LATE [7:7], RO (R60). -/
def STK_STATUS_FLOOR_LATE : Fld := ⟨524327, 1, 0⟩

/-- STK_EVENTS.A_LOST [0:0], W1CS (R60). -/
def STK_EVENTS_A_LOST : Fld := ⟨524352, 1, 0⟩

/-- STK_EVENTS.B_LOST [1:1], W1CS (R60). -/
def STK_EVENTS_B_LOST : Fld := ⟨524353, 1, 0⟩

/-- STK_EVENTS.SWITCHED [2:2], W1CS (R60). -/
def STK_EVENTS_SWITCHED : Fld := ⟨524354, 1, 0⟩

/-- STK_EVENTS.HOLDOVER_ENTERED [3:3], W1CS (R60). -/
def STK_EVENTS_HOLDOVER_ENTERED : Fld := ⟨524355, 1, 0⟩

/-- STK_EVENTS.RELOCKED [4:4], W1CS (R60). -/
def STK_EVENTS_RELOCKED : Fld := ⟨524356, 1, 0⟩

/-- STK_EVENTS.PERIOD_CHANGED [5:5], W1CS (R60). -/
def STK_EVENTS_PERIOD_CHANGED : Fld := ⟨524357, 1, 0⟩

/-- STK_EVENTS.PAIR_MISMATCH [6:6], W1CS (R60). -/
def STK_EVENTS_PAIR_MISMATCH : Fld := ⟨524358, 1, 0⟩

/-- STK_EVENTS.FLOOR_LATE [7:7], W1CS (R60). -/
def STK_EVENTS_FLOOR_LATE : Fld := ⟨524359, 1, 0⟩

/-- STK_EVENTS.SCHED_REFUSED [8:8], W1CS (R60). -/
def STK_EVENTS_SCHED_REFUSED : Fld := ⟨524360, 1, 0⟩

/-- STK_EVENT_EN.ENABLE [8:0], RWS (R60). -/
def STK_EVENT_EN_ENABLE : Fld := ⟨524384, 9, 475⟩

/-- STK_COUNT.COUNT [31:0], RO (R60). -/
def STK_COUNT_COUNT : Fld := ⟨524416, 32, 0⟩

/-- STK_TICK.TICK [19:0], RO (R60). -/
def STK_TICK_TICK : Fld := ⟨524448, 20, 0⟩

/-- STK_EXT (64-bit pair) [63:0], RO (R60). -/
def STK_EXT : Fld := ⟨524480, 64, 0⟩

/-- STK_TICK_LATCHED.TICK [19:0], RO (R60). -/
def STK_TICK_LATCHED_TICK : Fld := ⟨524544, 20, 0⟩

/-- STK_PERIOD.FRACTION [7:0], RO (R60). -/
def STK_PERIOD_FRACTION : Fld := ⟨524576, 8, 0⟩

/-- STK_PERIOD.TICKS [27:8], RO (R60). -/
def STK_PERIOD_TICKS : Fld := ⟨524584, 20, 10000⟩

/-- STK_INTERVAL_A.TICKS [19:0], RO (R60). -/
def STK_INTERVAL_A_TICKS : Fld := ⟨524608, 20, 0⟩

/-- STK_INTERVAL_B.TICKS [19:0], RO (R60). -/
def STK_INTERVAL_B_TICKS : Fld := ⟨524640, 20, 0⟩

/-- STK_SKEW.TICKS [15:0], RO (R60). -/
def STK_SKEW_TICKS : Fld := ⟨524672, 16, 0⟩

/-- STK_PEER_OFFSET.TICKS [15:0], RO (R60). -/
def STK_PEER_OFFSET_TICKS : Fld := ⟨524704, 16, 0⟩

/-- STK_PEER_OFFSET.STROKES [31:16], RO (R60). -/
def STK_PEER_OFFSET_STROKES : Fld := ⟨524720, 16, 0⟩

/-- STK_HOLDOVER_STROKES.COUNT [31:0], RO (R60). -/
def STK_HOLDOVER_STROKES_COUNT : Fld := ⟨524736, 32, 0⟩

/-- STK_SWITCH_COUNT.COUNT [31:0], RCS (R60). -/
def STK_SWITCH_COUNT_COUNT : Fld := ⟨524768, 32, 0⟩

/-- STK_LOCKLOSS_A.COUNT [31:0], RCS (R60). -/
def STK_LOCKLOSS_A_COUNT : Fld := ⟨524800, 32, 0⟩

/-- STK_LOCKLOSS_B.COUNT [31:0], RCS (R60). -/
def STK_LOCKLOSS_B_COUNT : Fld := ⟨524832, 32, 0⟩

/-- STK_FLOOR (64-bit pair) [63:0], RO (R60). -/
def STK_FLOOR : Fld := ⟨524864, 64, 0⟩

/-- STK_PAIR_MISMATCH.COUNT [31:0], RCS (R60). -/
def STK_PAIR_MISMATCH_COUNT : Fld := ⟨524928, 32, 0⟩

/-- STK_SCHED_INTERVAL.STROKES [31:0], RWS (R60). -/
def STK_SCHED_INTERVAL_STROKES (i : Nat) : Fld := ⟨8 * (0x10100 + 8 * i), 32, schedIntervalReset i⟩

/-- STK_SCHED_PHASE.STROKES [31:0], RWS (R60). -/
def STK_SCHED_PHASE_STROKES (i : Nat) : Fld := ⟨8 * (0x10104 + 8 * i), 32, schedPhaseReset i⟩

/-- FE_PORT_CFG.BREAKOUT [1:0], RO (R98). -/
def FE_PORT_CFG_BREAKOUT (n : Nat) : Fld := ⟨8 * (0x400000 * (n + 1) + 0x20000), 2, 0⟩

/-- FE_PORT_STATUS.LINK_UP [3:0], RO (R98). -/
def FE_PORT_STATUS_LINK_UP (n : Nat) : Fld := ⟨8 * (0x400000 * (n + 1) + 0x20004), 4, 0⟩

/-- FE_PORT_STATUS.FEC_LOCK [7:4], RO (R98). -/
def FE_PORT_STATUS_FEC_LOCK (n : Nat) : Fld := ⟨8 * (0x400000 * (n + 1) + 0x20004) + 4, 4, 0⟩

/-- FE_PORT_STATUS.OPEN [8:8], RO (R98). -/
def FE_PORT_STATUS_OPEN (n : Nat) : Fld := ⟨8 * (0x400000 * (n + 1) + 0x20004) + 8, 1, 0⟩

/-- FE_PORT_STATUS.HELD [9:9], RO (R98). -/
def FE_PORT_STATUS_HELD (n : Nat) : Fld := ⟨8 * (0x400000 * (n + 1) + 0x20004) + 9, 1, 0⟩

/-- FE_PFC_EN.PRIO [7:0], RWS (R98). -/
def FE_PFC_EN_PRIO (n : Nat) : Fld := ⟨8 * (0x400000 * (n + 1) + 0x20008), 8, 0⟩

/-- FE_CC.AI [15:0], RWS (R98). -/
def FE_CC_AI (n : Nat) : Fld := ⟨8 * (0x400000 * (n + 1) + 0x20010), 16, 16⟩

/-- FE_CC.MD [19:16], RWS (R98). -/
def FE_CC_MD (n : Nat) : Fld := ⟨8 * (0x400000 * (n + 1) + 0x20010) + 16, 4, 8⟩

/-- FE_CC_WINIT.KIB [23:0], RWS (R98). -/
def FE_CC_WINIT_KIB (n : Nat) : Fld := ⟨8 * (0x400000 * (n + 1) + 0x20014), 24, 64⟩

/-- FE_CC_WMAX.KIB [23:0], RWS (R98). -/
def FE_CC_WMAX_KIB (n : Nat) : Fld := ⟨8 * (0x400000 * (n + 1) + 0x20018), 24, 1024⟩

/-- FE_CNP_INTERVAL.TICKS [19:0], RWS (R98). -/
def FE_CNP_INTERVAL_TICKS (n : Nat) : Fld := ⟨8 * (0x400000 * (n + 1) + 0x2001c), 20, 5000⟩

/-- FE_QP_ACTIVE.COUNT [14:0], RO (R98). -/
def FE_QP_ACTIVE_COUNT (n : Nat) : Fld := ⟨8 * (0x400000 * (n + 1) + 0x20020), 15, 0⟩

/-- FE_MR_DRAINING.COUNT [17:0], RO (R98). -/
def FE_MR_DRAINING_COUNT (n : Nat) : Fld := ⟨8 * (0x400000 * (n + 1) + 0x20024), 18, 0⟩

/-- FE_RX_DROP.COUNT [31:0], RC (R98). -/
def FE_RX_DROP_COUNT (n : Nat) : Fld := ⟨8 * (0x400000 * (n + 1) + 0x20030), 32, 0⟩

/-- FE_NAK_ACCESS.COUNT [31:0], RC (R98). -/
def FE_NAK_ACCESS_COUNT (n : Nat) : Fld := ⟨8 * (0x400000 * (n + 1) + 0x20034), 32, 0⟩

/-- FE_QP_ERROR.COUNT [31:0], RC (R98). -/
def FE_QP_ERROR_COUNT (n : Nat) : Fld := ⟨8 * (0x400000 * (n + 1) + 0x20038), 32, 0⟩

/-- FE_CM_REFUSED.COUNT [31:0], RC (R98). -/
def FE_CM_REFUSED_COUNT (n : Nat) : Fld := ⟨8 * (0x400000 * (n + 1) + 0x2003c), 32, 0⟩

/-- FE_CNP_SENT.COUNT [31:0], RC (R98). -/
def FE_CNP_SENT_COUNT (n : Nat) : Fld := ⟨8 * (0x400000 * (n + 1) + 0x20040), 32, 0⟩

/-- FE_CNP_RCVD.COUNT [31:0], RC (R98). -/
def FE_CNP_RCVD_COUNT (n : Nat) : Fld := ⟨8 * (0x400000 * (n + 1) + 0x20044), 32, 0⟩

/-- FE_EPOCH_BUSY.COUNT [31:0], RC (R98). -/
def FE_EPOCH_BUSY_COUNT (n : Nat) : Fld := ⟨8 * (0x400000 * (n + 1) + 0x20048), 32, 0⟩

/-- FE_CM_RATE.COUNT [15:0], RWS (R98). -/
def FE_CM_RATE_COUNT (n : Nat) : Fld := ⟨8 * (0x400000 * (n + 1) + 0x20050), 16, 256⟩

/-- FE_BLOCK_THRESH.COUNT [15:0], RWS (R98). -/
def FE_BLOCK_THRESH_COUNT (n : Nat) : Fld := ⟨8 * (0x400000 * (n + 1) + 0x20054), 16, 32⟩

/-- FE_BLOCK_STROKES.STROKES [31:0], RWS (R98). -/
def FE_BLOCK_STROKES_STROKES (n : Nat) : Fld := ⟨8 * (0x400000 * (n + 1) + 0x20058), 32, 600000⟩

/-- FE_BLOCK_COUNT.COUNT [8:0], RO (R98). -/
def FE_BLOCK_COUNT_COUNT (n : Nat) : Fld := ⟨8 * (0x400000 * (n + 1) + 0x2005c), 9, 0⟩

/-- FE_RX_BYTES (64-bit pair) [63:0], RO (R98). -/
def FE_RX_BYTES (n i : Nat) : Fld := ⟨8 * (0x400000 * (n + 1) + 0x20100 + 16 * i), 64, 0⟩

/-- FE_TX_BYTES (64-bit pair) [63:0], RO (R98). -/
def FE_TX_BYTES (n i : Nat) : Fld := ⟨8 * (0x400000 * (n + 1) + 0x20108 + 16 * i), 64, 0⟩

/-- NVQ_ARB.HIGH [7:0], RWS (R99). -/
def NVQ_ARB_HIGH (n : Nat) : Fld := ⟨8 * (0x400000 * (n + 1) + 0x40000), 8, 16⟩

/-- NVQ_ARB.MEDIUM [15:8], RWS (R99). -/
def NVQ_ARB_MEDIUM (n : Nat) : Fld := ⟨8 * (0x400000 * (n + 1) + 0x40000) + 8, 8, 8⟩

/-- NVQ_ARB.LOW [23:16], RWS (R99). -/
def NVQ_ARB_LOW (n : Nat) : Fld := ⟨8 * (0x400000 * (n + 1) + 0x40000) + 16, 8, 2⟩

/-- NVQ_ARB.BURST [26:24], RWS (R99). -/
def NVQ_ARB_BURST (n : Nat) : Fld := ⟨8 * (0x400000 * (n + 1) + 0x40000) + 24, 3, 3⟩

/-- NVQ_CMDS (64-bit pair) [63:0], RO (R99). -/
def NVQ_CMDS (n : Nat) : Fld := ⟨8 * (0x400000 * (n + 1) + 0x40008), 64, 0⟩

/-- NVQ_PUSH_REFUSED.COUNT [31:0], RC (R99). -/
def NVQ_PUSH_REFUSED_COUNT (n : Nat) : Fld := ⟨8 * (0x400000 * (n + 1) + 0x40010), 32, 0⟩

/-- NVQ_HELD.COUNT [15:0], RO (R99). -/
def NVQ_HELD_COUNT (n : Nat) : Fld := ⟨8 * (0x400000 * (n + 1) + 0x40014), 16, 0⟩

/-- NVQ_NOT_READY.COUNT [31:0], RC (R99). -/
def NVQ_NOT_READY_COUNT (n : Nat) : Fld := ⟨8 * (0x400000 * (n + 1) + 0x40018), 32, 0⟩

/-- NVQ_SPLIT_FAIL.COUNT [31:0], RC (R99). -/
def NVQ_SPLIT_FAIL_COUNT (n : Nat) : Fld := ⟨8 * (0x400000 * (n + 1) + 0x4001c), 32, 0⟩

/-- NVQ_ANA_REJECT.COUNT [31:0], RC (R99). -/
def NVQ_ANA_REJECT_COUNT (n : Nat) : Fld := ⟨8 * (0x400000 * (n + 1) + 0x40020), 32, 0⟩

/-- NVQ_PI_ERROR.COUNT [31:0], RC (R99). -/
def NVQ_PI_ERROR_COUNT (n : Nat) : Fld := ⟨8 * (0x400000 * (n + 1) + 0x40024), 32, 0⟩

/-- NVQ_CID_CONFLICT.COUNT [31:0], RC (R99). -/
def NVQ_CID_CONFLICT_COUNT (n : Nat) : Fld := ⟨8 * (0x400000 * (n + 1) + 0x40028), 32, 0⟩

/-- NVQ_KATO_EXPIRED.COUNT [31:0], RC (R99). -/
def NVQ_KATO_EXPIRED_COUNT (n : Nat) : Fld := ⟨8 * (0x400000 * (n + 1) + 0x4002c), 32, 0⟩

/-- NVQ_BUSY.LOAD [9:0], RO (R99). -/
def NVQ_BUSY_LOAD (n : Nat) : Fld := ⟨8 * (0x400000 * (n + 1) + 0x40030), 10, 0⟩

/-- NVQ_WAITING.COUNT [23:0], RO (R99). -/
def NVQ_WAITING_COUNT (n i : Nat) : Fld := ⟨8 * (0x400000 * (n + 1) + 0x40100 + 4 * i), 24, 0⟩

/-- NVQ_INELIGIBLE.COUNT [23:0], RO (R99). -/
def NVQ_INELIGIBLE_COUNT (n i : Nat) : Fld := ⟨8 * (0x400000 * (n + 1) + 0x40110 + 4 * i), 24, 0⟩

/-- NVQ_QP_SELECT.INDEX [13:0], RW (R99). -/
def NVQ_QP_SELECT_INDEX (n : Nat) : Fld := ⟨8 * (0x400000 * (n + 1) + 0x40200), 14, 0⟩

/-- NVQ_QP_STATE.STATE [2:0], RO (R99). -/
def NVQ_QP_STATE_STATE (n : Nat) : Fld := ⟨8 * (0x400000 * (n + 1) + 0x40204), 3, 0⟩

/-- NVQ_QP_STATE.CLASS [4:3], RO (R99). -/
def NVQ_QP_STATE_CLASS (n : Nat) : Fld := ⟨8 * (0x400000 * (n + 1) + 0x40204) + 3, 2, 0⟩

/-- NVQ_QP_STATE.ADMIN [5:5], RO (R99). -/
def NVQ_QP_STATE_ADMIN (n : Nat) : Fld := ⟨8 * (0x400000 * (n + 1) + 0x40204) + 5, 1, 0⟩

/-- NVQ_QP_STATE.SUBPORT [7:6], RO (R99). -/
def NVQ_QP_STATE_SUBPORT (n : Nat) : Fld := ⟨8 * (0x400000 * (n + 1) + 0x40204) + 6, 2, 0⟩

/-- NVQ_QP_STATE.PD [19:8], RO (R99). -/
def NVQ_QP_STATE_PD (n : Nat) : Fld := ⟨8 * (0x400000 * (n + 1) + 0x40204) + 8, 12, 0⟩

/-- NVQ_QP_CTRL.CONTROLLER [11:0], RO (R99). -/
def NVQ_QP_CTRL_CONTROLLER (n : Nat) : Fld := ⟨8 * (0x400000 * (n + 1) + 0x40208), 12, 0⟩

/-- NVQ_QP_WINDOW.KIB [23:0], RO (R99). -/
def NVQ_QP_WINDOW_KIB (n : Nat) : Fld := ⟨8 * (0x400000 * (n + 1) + 0x4020c), 24, 0⟩

/-- NVQ_QP_OUTSTANDING.COUNT [10:0], RO (R99). -/
def NVQ_QP_OUTSTANDING_COUNT (n : Nat) : Fld := ⟨8 * (0x400000 * (n + 1) + 0x40210), 11, 0⟩

/-- CAT_CTRL.ZERO_DETECT [0:0], RWS (R136). -/
def CAT_CTRL_ZERO_DETECT (n : Nat) : Fld := ⟨8 * (0x400000 * (n + 1) + 0x80000), 1, 1⟩

/-- CAT_STATUS.SOFT [0:0], RO (R136). -/
def CAT_STATUS_SOFT (n : Nat) : Fld := ⟨8 * (0x400000 * (n + 1) + 0x80004), 1, 0⟩

/-- CAT_STATUS.HARD [1:1], RO (R136). -/
def CAT_STATUS_HARD (n : Nat) : Fld := ⟨8 * (0x400000 * (n + 1) + 0x80004) + 1, 1, 0⟩

/-- CAT_STATUS.CATCH_FULL [2:2], RO (R136). -/
def CAT_STATUS_CATCH_FULL (n : Nat) : Fld := ⟨8 * (0x400000 * (n + 1) + 0x80004) + 2, 1, 0⟩

/-- CAT_STATUS.BUDGET_DEFAULT [3:3], RO (R136). -/
def CAT_STATUS_BUDGET_DEFAULT (n : Nat) : Fld := ⟨8 * (0x400000 * (n + 1) + 0x80004) + 3, 1, 1⟩

/-- CAT_SLOTS_FREE.COUNT [12:0], RO (R136). -/
def CAT_SLOTS_FREE_COUNT (n : Nat) : Fld := ⟨8 * (0x400000 * (n + 1) + 0x80008), 13, 7680⟩

/-- CAT_CAP (64-bit pair) [63:0], RO (R136). -/
def CAT_CAP (n : Nat) : Fld := ⟨8 * (0x400000 * (n + 1) + 0x8000c), 64, 128000000⟩

/-- CAT_DIRTY (64-bit pair) [63:0], RO (R136). -/
def CAT_DIRTY (n : Nat) : Fld := ⟨8 * (0x400000 * (n + 1) + 0x80014), 64, 0⟩

/-- CAT_SOFT.PCT [6:0], RWS (R136). -/
def CAT_SOFT_PCT (n : Nat) : Fld := ⟨8 * (0x400000 * (n + 1) + 0x8001c), 7, 75⟩

/-- CAT_SOFT.IDLE [31:16], RWS (R136). -/
def CAT_SOFT_IDLE (n : Nat) : Fld := ⟨8 * (0x400000 * (n + 1) + 0x8001c) + 16, 16, 20⟩

/-- CAT_FT_CLOSE.STROKES [15:0], RWS (R136). -/
def CAT_FT_CLOSE_STROKES (n : Nat) : Fld := ⟨8 * (0x400000 * (n + 1) + 0x80020), 16, 5⟩

/-- CAT_OPEN_ROWS.COUNT [11:0], RO (R136). -/
def CAT_OPEN_ROWS_COUNT (n : Nat) : Fld := ⟨8 * (0x400000 * (n + 1) + 0x80024), 12, 0⟩

/-- CAT_OPEN_ROWS.MAX [28:16], RWS (R136). -/
def CAT_OPEN_ROWS_MAX (n : Nat) : Fld := ⟨8 * (0x400000 * (n + 1) + 0x80024) + 16, 13, 1024⟩

/-- CAT_EARLY_SEAL.COUNT [31:0], RC (R136). -/
def CAT_EARLY_SEAL_COUNT (n : Nat) : Fld := ⟨8 * (0x400000 * (n + 1) + 0x80028), 32, 0⟩

/-- CAT_FP_LOOKUPS.COUNT [31:0], RC (R136). -/
def CAT_FP_LOOKUPS_COUNT (n : Nat) : Fld := ⟨8 * (0x400000 * (n + 1) + 0x8002c), 32, 0⟩

/-- CAT_FP_HITS.COUNT [31:0], RC (R136). -/
def CAT_FP_HITS_COUNT (n : Nat) : Fld := ⟨8 * (0x400000 * (n + 1) + 0x80030), 32, 0⟩

/-- CAT_FP_STALE.COUNT [31:0], RC (R136). -/
def CAT_FP_STALE_COUNT (n : Nat) : Fld := ⟨8 * (0x400000 * (n + 1) + 0x80034), 32, 0⟩

/-- CAT_ZERO_BLOCKS.COUNT [31:0], RC (R136). -/
def CAT_ZERO_BLOCKS_COUNT (n : Nat) : Fld := ⟨8 * (0x400000 * (n + 1) + 0x80038), 32, 0⟩

/-- CAT_PI_FAIL.COUNT [31:0], RC (R136). -/
def CAT_PI_FAIL_COUNT (n : Nat) : Fld := ⟨8 * (0x400000 * (n + 1) + 0x8003c), 32, 0⟩

/-- CAT_HARD_STROKES.COUNT [31:0], RC (R136). -/
def CAT_HARD_STROKES_COUNT (n : Nat) : Fld := ⟨8 * (0x400000 * (n + 1) + 0x80040), 32, 0⟩

/-- CAT_CATCH_ERR.COUNT [31:0], RC (R136). -/
def CAT_CATCH_ERR_COUNT (n : Nat) : Fld := ⟨8 * (0x400000 * (n + 1) + 0x80044), 32, 0⟩

/-- CAT_LOCK_WAIT.COUNT [31:0], RC (R136). -/
def CAT_LOCK_WAIT_COUNT (n : Nat) : Fld := ⟨8 * (0x400000 * (n + 1) + 0x80048), 32, 0⟩

/-- CAT_IN (64-bit pair) [63:0], RO (R136). -/
def CAT_IN (n : Nat) : Fld := ⟨8 * (0x400000 * (n + 1) + 0x80050), 64, 0⟩

/-- CAT_STORED (64-bit pair) [63:0], RO (R136). -/
def CAT_STORED (n : Nat) : Fld := ⟨8 * (0x400000 * (n + 1) + 0x80058), 64, 0⟩

/-- CMP_CTRL.ENABLE [0:0], RWS (R137). -/
def CMP_CTRL_ENABLE (n : Nat) : Fld := ⟨8 * (0x400000 * (n + 1) + 0xa0000), 1, 1⟩

/-- CMP_CTRL.VERIFY [1:1], RWS (R137). -/
def CMP_CTRL_VERIFY (n : Nat) : Fld := ⟨8 * (0x400000 * (n + 1) + 0xa0000) + 1, 1, 1⟩

/-- CMP_KEEP_LIMIT.BYTES [12:0], RWS (R137). -/
def CMP_KEEP_LIMIT_BYTES (n : Nat) : Fld := ⟨8 * (0x400000 * (n + 1) + 0xa0004), 13, 3840⟩

/-- CMP_LANES_BUSY.LANES [7:0], RO (R137). -/
def CMP_LANES_BUSY_LANES (n : Nat) : Fld := ⟨8 * (0x400000 * (n + 1) + 0xa0008), 8, 0⟩

/-- CMP_JOBS (64-bit pair) [63:0], RO (R137). -/
def CMP_JOBS (n : Nat) : Fld := ⟨8 * (0x400000 * (n + 1) + 0xa0010), 64, 0⟩

/-- CMP_CANCELLED.COUNT [31:0], RC (R137). -/
def CMP_CANCELLED_COUNT (n : Nat) : Fld := ⟨8 * (0x400000 * (n + 1) + 0xa0018), 32, 0⟩

/-- CMP_RAW.COUNT [31:0], RC (R137). -/
def CMP_RAW_COUNT (n : Nat) : Fld := ⟨8 * (0x400000 * (n + 1) + 0xa001c), 32, 0⟩

/-- CMP_OVERFLOW.COUNT [31:0], RC (R137). -/
def CMP_OVERFLOW_COUNT (n : Nat) : Fld := ⟨8 * (0x400000 * (n + 1) + 0xa0020), 32, 0⟩

/-- CMP_VERIFY_FAIL.COUNT [31:0], RC (R137). -/
def CMP_VERIFY_FAIL_COUNT (n : Nat) : Fld := ⟨8 * (0x400000 * (n + 1) + 0xa0024), 32, 0⟩

/-- CMP_OUT (64-bit pair) [63:0], RO (R137). -/
def CMP_OUT (n : Nat) : Fld := ⟨8 * (0x400000 * (n + 1) + 0xa0028), 64, 0⟩

/-- CMP_DICT.TENANT [11:0], RO (R137). -/
def CMP_DICT_TENANT (n i : Nat) : Fld := ⟨8 * (0x400000 * (n + 1) + 0xa0100 + 4 * i), 12, 0⟩

/-- CMP_DICT.SYSTEM [12:12], RO (R137). -/
def CMP_DICT_SYSTEM (n i : Nat) : Fld := ⟨8 * (0x400000 * (n + 1) + 0xa0100 + 4 * i) + 12, 1, 0⟩

/-- CMP_DICT.LOADED [13:13], RO (R137). -/
def CMP_DICT_LOADED (n i : Nat) : Fld := ⟨8 * (0x400000 * (n + 1) + 0xa0100 + 4 * i) + 13, 1, 0⟩

/-- CMP_DICT.RETIRING [14:14], RO (R137). -/
def CMP_DICT_RETIRING (n i : Nat) : Fld := ⟨8 * (0x400000 * (n + 1) + 0xa0100 + 4 * i) + 14, 1, 0⟩

/-- CMP_DICT.SIZE [23:15], RO (R137). -/
def CMP_DICT_SIZE (n i : Nat) : Fld := ⟨8 * (0x400000 * (n + 1) + 0xa0100 + 4 * i) + 15, 9, 0⟩

/-- CMP_DICT_REFS (64-bit pair) [63:0], RO (R137). -/
def CMP_DICT_REFS (n i : Nat) : Fld := ⟨8 * (0x400000 * (n + 1) + 0xa0500 + 8 * i), 64, 0⟩

/-- NVQ_WR_WAIT_CATCH.COUNT [15:0], RO (R138). -/
def NVQ_WR_WAIT_CATCH_COUNT (n : Nat) : Fld := ⟨8 * (0x400000 * (n + 1) + 0x40400), 16, 0⟩

/-- NVQ_WR_WAIT_DIRTY.COUNT [15:0], RO (R138). -/
def NVQ_WR_WAIT_DIRTY_COUNT (n : Nat) : Fld := ⟨8 * (0x400000 * (n + 1) + 0x40404), 16, 0⟩

/-- NVQ_ATOMIC_FAIL.COUNT [31:0], RC (R138). -/
def NVQ_ATOMIC_FAIL_COUNT (n : Nat) : Fld := ⟨8 * (0x400000 * (n + 1) + 0x40408), 32, 0⟩

/-- NVQ_WRITE_FAULT.COUNT [31:0], RC (R138). -/
def NVQ_WRITE_FAULT_COUNT (n : Nat) : Fld := ⟨8 * (0x400000 * (n + 1) + 0x4040c), 32, 0⟩

/-- NVQ_ACCEPTED (64-bit pair) [63:0], RO (R138). -/
def NVQ_ACCEPTED (n : Nat) : Fld := ⟨8 * (0x400000 * (n + 1) + 0x40410), 64, 0⟩

/-- NVQ_ACCEPT_P999.LATENCY [19:0], RO (R138). -/
def NVQ_ACCEPT_P999_LATENCY (n : Nat) : Fld := ⟨8 * (0x400000 * (n + 1) + 0x40418), 20, 0⟩

/-- MAP_CTRL.GC_ENABLE [0:0], RWS (R187). -/
def MAP_CTRL_GC_ENABLE (n : Nat) : Fld := ⟨8 * (0x400000 * (n + 1) + 0xc0000), 1, 1⟩

/-- MAP_CTRL.DEDUP_PASS [1:1], RWS (R187). -/
def MAP_CTRL_DEDUP_PASS (n : Nat) : Fld := ⟨8 * (0x400000 * (n + 1) + 0xc0000) + 1, 1, 1⟩

/-- MAP_STATUS.CHECKPOINT [0:0], RO (R187). -/
def MAP_STATUS_CHECKPOINT (n : Nat) : Fld := ⟨8 * (0x400000 * (n + 1) + 0xc0004), 1, 0⟩

/-- MAP_STATUS.RECOVERING [1:1], RO (R187). -/
def MAP_STATUS_RECOVERING (n : Nat) : Fld := ⟨8 * (0x400000 * (n + 1) + 0xc0004) + 1, 1, 0⟩

/-- MAP_STATUS.REF_SWEEP [2:2], RO (R187). -/
def MAP_STATUS_REF_SWEEP (n : Nat) : Fld := ⟨8 * (0x400000 * (n + 1) + 0xc0004) + 2, 1, 0⟩

/-- MAP_STATUS.DEALLOC_BACKLOG [3:3], RO (R187). -/
def MAP_STATUS_DEALLOC_BACKLOG (n : Nat) : Fld := ⟨8 * (0x400000 * (n + 1) + 0xc0004) + 3, 1, 0⟩

/-- MAP_STATUS.DIRTY_FULL [4:4], RO (R187). -/
def MAP_STATUS_DIRTY_FULL (n : Nat) : Fld := ⟨8 * (0x400000 * (n + 1) + 0xc0004) + 4, 1, 0⟩

/-- MAP_CKPT_GEN.GEN [23:0], RO (R187). -/
def MAP_CKPT_GEN_GEN (n : Nat) : Fld := ⟨8 * (0x400000 * (n + 1) + 0xc0008), 24, 0⟩

/-- MAP_CKPT_STROKES.STROKES [31:0], RO (R187). -/
def MAP_CKPT_STROKES_STROKES (n : Nat) : Fld := ⟨8 * (0x400000 * (n + 1) + 0xc000c), 32, 0⟩

/-- MAP_CKPT_EXT (64-bit pair) [63:0], RO (R187). -/
def MAP_CKPT_EXT (n : Nat) : Fld := ⟨8 * (0x400000 * (n + 1) + 0xc0010), 64, 0⟩

/-- MAP_CKPT_SKIPPED.COUNT [31:0], RCS (R187). -/
def MAP_CKPT_SKIPPED_COUNT (n : Nat) : Fld := ⟨8 * (0x400000 * (n + 1) + 0xc0018), 32, 0⟩

/-- MAP_CKPT_LATE.COUNT [31:0], RCS (R187). -/
def MAP_CKPT_LATE_COUNT (n : Nat) : Fld := ⟨8 * (0x400000 * (n + 1) + 0xc001c), 32, 0⟩

/-- MAP_DLOG_SEQ (64-bit pair) [63:0], RO (R187). -/
def MAP_DLOG_SEQ (n : Nat) : Fld := ⟨8 * (0x400000 * (n + 1) + 0xc0020), 64, 0⟩

/-- MAP_DLOG_PENDING.COUNT [19:0], RO (R187). -/
def MAP_DLOG_PENDING_COUNT (n : Nat) : Fld := ⟨8 * (0x400000 * (n + 1) + 0xc0028), 20, 0⟩

/-- MAP_REC_LIVE (64-bit pair) [63:0], RO (R187). -/
def MAP_REC_LIVE (n : Nat) : Fld := ⟨8 * (0x400000 * (n + 1) + 0xc0030), 64, 0⟩

/-- MAP_REF_SATURATED.COUNT [31:0], RO (R187). -/
def MAP_REF_SATURATED_COUNT (n : Nat) : Fld := ⟨8 * (0x400000 * (n + 1) + 0xc0038), 32, 0⟩

/-- MAP_TAG_THROTTLE.COUNT [31:0], RC (R187). -/
def MAP_TAG_THROTTLE_COUNT (n : Nat) : Fld := ⟨8 * (0x400000 * (n + 1) + 0xc003c), 32, 0⟩

/-- MAP_DEALLOC_SKIPPED.COUNT [31:0], RC (R187). -/
def MAP_DEALLOC_SKIPPED_COUNT (n : Nat) : Fld := ⟨8 * (0x400000 * (n + 1) + 0xc0040), 32, 0⟩

/-- MAP_MOVE_DROPPED.COUNT [31:0], RC (R187). -/
def MAP_MOVE_DROPPED_COUNT (n : Nat) : Fld := ⟨8 * (0x400000 * (n + 1) + 0xc0044), 32, 0⟩

/-- MAP_ORPHANS.COUNT [31:0], RCS (R187). -/
def MAP_ORPHANS_COUNT (n : Nat) : Fld := ⟨8 * (0x400000 * (n + 1) + 0xc0048), 32, 0⟩

/-- MAP_PAGE_FILL_WAIT.COUNT [10:0], RO (R187). -/
def MAP_PAGE_FILL_WAIT_COUNT (n : Nat) : Fld := ⟨8 * (0x400000 * (n + 1) + 0xc004c), 11, 0⟩

/-- MAP_PAGE_FILLS.COUNT [31:0], RC (R187). -/
def MAP_PAGE_FILLS_COUNT (n : Nat) : Fld := ⟨8 * (0x400000 * (n + 1) + 0xc0050), 32, 0⟩

/-- MAP_MAP_FAULT.COUNT [31:0], RCS (R187). -/
def MAP_MAP_FAULT_COUNT (n : Nat) : Fld := ⟨8 * (0x400000 * (n + 1) + 0xc0054), 32, 0⟩

/-- MAP_POOL_SELECT.POOL [4:0], RW (R187). -/
def MAP_POOL_SELECT_POOL (n : Nat) : Fld := ⟨8 * (0x400000 * (n + 1) + 0xc0100), 5, 0⟩

/-- MAP_POOL_STATE.STATE [1:0], RO (R187). -/
def MAP_POOL_STATE_STATE (n : Nat) : Fld := ⟨8 * (0x400000 * (n + 1) + 0xc0104), 2, 0⟩

/-- MAP_POOL_STATE.POLICY [2:2], RO (R187). -/
def MAP_POOL_STATE_POLICY (n : Nat) : Fld := ⟨8 * (0x400000 * (n + 1) + 0xc0104) + 2, 1, 0⟩

/-- MAP_POOL_STATE.GC_ACTIVE [3:3], RO (R187). -/
def MAP_POOL_STATE_GC_ACTIVE (n : Nat) : Fld := ⟨8 * (0x400000 * (n + 1) + 0xc0104) + 3, 1, 0⟩

/-- MAP_POOL_STATE.GC_URGENT [4:4], RO (R187). -/
def MAP_POOL_STATE_GC_URGENT (n : Nat) : Fld := ⟨8 * (0x400000 * (n + 1) + 0xc0104) + 4, 1, 0⟩

/-- MAP_POOL_STATE.FILL [14:8], RO (R187). -/
def MAP_POOL_STATE_FILL (n : Nat) : Fld := ⟨8 * (0x400000 * (n + 1) + 0xc0104) + 8, 7, 0⟩

/-- MAP_POOL_STATE.SLC_TARGET [24:16], RO (R187). -/
def MAP_POOL_STATE_SLC_TARGET (n : Nat) : Fld := ⟨8 * (0x400000 * (n + 1) + 0xc0104) + 16, 9, 0⟩

/-- MAP_POOL_FREE_ROWS.COUNT [31:0], RO (R187). -/
def MAP_POOL_FREE_ROWS_COUNT (n : Nat) : Fld := ⟨8 * (0x400000 * (n + 1) + 0xc0108), 32, 0⟩

/-- MAP_POOL_ROWS.COUNT [31:0], RO (R187). -/
def MAP_POOL_ROWS_COUNT (n : Nat) : Fld := ⟨8 * (0x400000 * (n + 1) + 0xc010c), 32, 0⟩

/-- MAP_POOL_SPARES.COUNT [31:0], RO (R187). -/
def MAP_POOL_SPARES_COUNT (n : Nat) : Fld := ⟨8 * (0x400000 * (n + 1) + 0xc0110), 32, 0⟩

/-- MAP_POOL_SPARE_FLOOR.COUNT [31:0], RO (R187). -/
def MAP_POOL_SPARE_FLOOR_COUNT (n : Nat) : Fld := ⟨8 * (0x400000 * (n + 1) + 0xc0114), 32, 0⟩

/-- MAP_POOL_ERASE_MIN.COUNT [31:0], RO (R187). -/
def MAP_POOL_ERASE_MIN_COUNT (n : Nat) : Fld := ⟨8 * (0x400000 * (n + 1) + 0xc0118), 32, 0⟩

/-- MAP_POOL_ERASE_MAX.COUNT [31:0], RO (R187). -/
def MAP_POOL_ERASE_MAX_COUNT (n : Nat) : Fld := ⟨8 * (0x400000 * (n + 1) + 0xc011c), 32, 0⟩

/-- MAP_POOL_GC_ROWS (64-bit pair) [63:0], RO (R187). -/
def MAP_POOL_GC_ROWS (n : Nat) : Fld := ⟨8 * (0x400000 * (n + 1) + 0xc0120), 64, 0⟩

/-- MAP_POOL_GC_MOVED (64-bit pair) [63:0], RO (R187). -/
def MAP_POOL_GC_MOVED (n : Nat) : Fld := ⟨8 * (0x400000 * (n + 1) + 0xc0128), 64, 0⟩

/-- MAP_POOL_SLC_ROWS.COUNT [31:0], RO (R187). -/
def MAP_POOL_SLC_ROWS_COUNT (n : Nat) : Fld := ⟨8 * (0x400000 * (n + 1) + 0xc0130), 32, 0⟩

/-- MAP_GC_START.START [7:0], RWS (R187). -/
def MAP_GC_START_START (n : Nat) : Fld := ⟨8 * (0x400000 * (n + 1) + 0xc0180), 8, 8⟩

/-- MAP_GC_START.URGENT [15:8], RWS (R187). -/
def MAP_GC_START_URGENT (n : Nat) : Fld := ⟨8 * (0x400000 * (n + 1) + 0xc0180) + 8, 8, 3⟩

/-- MAP_GC_RESERVE.ROWS [15:0], RWS (R187). -/
def MAP_GC_RESERVE_ROWS (n : Nat) : Fld := ⟨8 * (0x400000 * (n + 1) + 0xc0184), 16, 64⟩

/-- MAP_GC_COLD_AGE.STROKES [31:0], RWS (R187). -/
def MAP_GC_COLD_AGE_STROKES (n : Nat) : Fld := ⟨8 * (0x400000 * (n + 1) + 0xc0188), 32, 6000000⟩

/-- MAP_WEAR_SPREAD.COUNT [15:0], RWS (R187). -/
def MAP_WEAR_SPREAD_COUNT (n : Nat) : Fld := ⟨8 * (0x400000 * (n + 1) + 0xc018c), 16, 200⟩

/-- MAP_TC_LFSR.SEED [15:0], RWS (R188). -/
def MAP_TC_LFSR_SEED (n : Nat) : Fld := ⟨8 * (0x400000 * (n + 1) + 0xe0000), 16, 44257⟩

/-- MAP_TC_LANES_BUSY.LANES [15:0], RO (R188). -/
def MAP_TC_LANES_BUSY_LANES (n : Nat) : Fld := ⟨8 * (0x400000 * (n + 1) + 0xe0004), 16, 0⟩

/-- MAP_TC_LOOKUPS (64-bit pair) [63:0], RO (R188). -/
def MAP_TC_LOOKUPS (n : Nat) : Fld := ⟨8 * (0x400000 * (n + 1) + 0xe0008), 64, 0⟩

/-- MAP_TC_HITS (64-bit pair) [63:0], RO (R188). -/
def MAP_TC_HITS (n : Nat) : Fld := ⟨8 * (0x400000 * (n + 1) + 0xe0010), 64, 0⟩

/-- MAP_TC_MISSES.COUNT [31:0], RC (R188). -/
def MAP_TC_MISSES_COUNT (n : Nat) : Fld := ⟨8 * (0x400000 * (n + 1) + 0xe0018), 32, 0⟩

/-- MAP_TC_FILL_CYCLES.COUNT [31:0], RC (R188). -/
def MAP_TC_FILL_CYCLES_COUNT (n : Nat) : Fld := ⟨8 * (0x400000 * (n + 1) + 0xe001c), 32, 0⟩

/-- MAP_TC_EVICTIONS.COUNT [31:0], RC (R188). -/
def MAP_TC_EVICTIONS_COUNT (n : Nat) : Fld := ⟨8 * (0x400000 * (n + 1) + 0xe0020), 32, 0⟩

/-- MAP_TC_ZERO_LINES.COUNT [31:0], RC (R188). -/
def MAP_TC_ZERO_LINES_COUNT (n : Nat) : Fld := ⟨8 * (0x400000 * (n + 1) + 0xe0024), 32, 0⟩

/-- MAP_TC_WRITE_HITS.COUNT [31:0], RC (R188). -/
def MAP_TC_WRITE_HITS_COUNT (n : Nat) : Fld := ⟨8 * (0x400000 * (n + 1) + 0xe0028), 32, 0⟩

/-- MAP_TC_WRITE_MISSES.COUNT [31:0], RC (R188). -/
def MAP_TC_WRITE_MISSES_COUNT (n : Nat) : Fld := ⟨8 * (0x400000 * (n + 1) + 0xe002c), 32, 0⟩

/-- MAP_TC_FILL_MERGE.COUNT [31:0], RC (R188). -/
def MAP_TC_FILL_MERGE_COUNT (n : Nat) : Fld := ⟨8 * (0x400000 * (n + 1) + 0xe0030), 32, 0⟩

/-- MAP_TC_ECC_ERR.COUNT [31:0], RCS (R188). -/
def MAP_TC_ECC_ERR_COUNT (n : Nat) : Fld := ⟨8 * (0x400000 * (n + 1) + 0xe0034), 32, 0⟩

/-- NVQ_RD_CTRL.BYPASS_EN [0:0], RWS (R209). -/
def NVQ_RD_CTRL_BYPASS_EN (n : Nat) : Fld := ⟨8 * (0x400000 * (n + 1) + 0x40600), 1, 1⟩

/-- NVQ_RD_CTRL.SUSPEND_EN [1:1], RWS (R209). -/
def NVQ_RD_CTRL_SUSPEND_EN (n : Nat) : Fld := ⟨8 * (0x400000 * (n + 1) + 0x40600) + 1, 1, 1⟩

/-- NVQ_RD_CTRL.HEDGE [2:2], RWS (R209). -/
def NVQ_RD_CTRL_HEDGE (n : Nat) : Fld := ⟨8 * (0x400000 * (n + 1) + 0x40600) + 2, 1, 0⟩

/-- NVQ_RD_CTRL.RETRY_MAX [11:8], RWS (R209). -/
def NVQ_RD_CTRL_RETRY_MAX (n : Nat) : Fld := ⟨8 * (0x400000 * (n + 1) + 0x40600) + 8, 4, 8⟩

/-- NVQ_RD_BYPASS.WAIT_X16 [7:0], RWS (R209). -/
def NVQ_RD_BYPASS_WAIT_X16 (n : Nat) : Fld := ⟨8 * (0x400000 * (n + 1) + 0x40604), 8, 24⟩

/-- NVQ_RD_BYPASS.MAX_INFLIGHT [25:16], RWS (R209). -/
def NVQ_RD_BYPASS_MAX_INFLIGHT (n : Nat) : Fld := ⟨8 * (0x400000 * (n + 1) + 0x40604) + 16, 10, 256⟩

/-- NVQ_RD_SUSPEND.THRESH_X16 [7:0], RWS (R209). -/
def NVQ_RD_SUSPEND_THRESH_X16 (n : Nat) : Fld := ⟨8 * (0x400000 * (n + 1) + 0x40608), 8, 8⟩

/-- NVQ_RD_SUSPEND.PROG_MAX [11:8], RWS (R209). -/
def NVQ_RD_SUSPEND_PROG_MAX (n : Nat) : Fld := ⟨8 * (0x400000 * (n + 1) + 0x40608) + 8, 4, 2⟩

/-- NVQ_RD_SUSPEND.ERASE_MAX [15:12], RWS (R209). -/
def NVQ_RD_SUSPEND_ERASE_MAX (n : Nat) : Fld := ⟨8 * (0x400000 * (n + 1) + 0x40608) + 12, 4, 4⟩

/-- NVQ_RD_SUSPEND.MIN_RUN [31:16], RWS (R209). -/
def NVQ_RD_SUSPEND_MIN_RUN (n : Nat) : Fld := ⟨8 * (0x400000 * (n + 1) + 0x40608) + 16, 16, 200⟩

/-- NVQ_RD_SLOW.RATIO_X16 [7:0], RWS (R209). -/
def NVQ_RD_SLOW_RATIO_X16 (n : Nat) : Fld := ⟨8 * (0x400000 * (n + 1) + 0x4060c), 8, 48⟩

/-- NVQ_RD_BYPASSES.COUNT [31:0], RC (R209). -/
def NVQ_RD_BYPASSES_COUNT (n : Nat) : Fld := ⟨8 * (0x400000 * (n + 1) + 0x40610), 32, 0⟩

/-- NVQ_RD_BYPASS_DENIED.COUNT [31:0], RC (R209). -/
def NVQ_RD_BYPASS_DENIED_COUNT (n : Nat) : Fld := ⟨8 * (0x400000 * (n + 1) + 0x40614), 32, 0⟩

/-- NVQ_RD_HEDGE_WON.COUNT [31:0], RC (R209). -/
def NVQ_RD_HEDGE_WON_COUNT (n : Nat) : Fld := ⟨8 * (0x400000 * (n + 1) + 0x40618), 32, 0⟩

/-- NVQ_RD_SUSPENDS.COUNT [31:0], RC (R209). -/
def NVQ_RD_SUSPENDS_COUNT (n : Nat) : Fld := ⟨8 * (0x400000 * (n + 1) + 0x4061c), 32, 0⟩

/-- NVQ_RD_RETRIES.COUNT [31:0], RC (R209). -/
def NVQ_RD_RETRIES_COUNT (n : Nat) : Fld := ⟨8 * (0x400000 * (n + 1) + 0x40620), 32, 0⟩

/-- NVQ_RD_OPEN_FAIL.COUNT [31:0], RCS (R209). -/
def NVQ_RD_OPEN_FAIL_COUNT (n : Nat) : Fld := ⟨8 * (0x400000 * (n + 1) + 0x40624), 32, 0⟩

/-- NVQ_RD_DEGRADED.COUNT [31:0], RC (R209). -/
def NVQ_RD_DEGRADED_COUNT (n : Nat) : Fld := ⟨8 * (0x400000 * (n + 1) + 0x40628), 32, 0⟩

/-- NVQ_RD_URE.COUNT [31:0], RCS (R209). -/
def NVQ_RD_URE_COUNT (n : Nat) : Fld := ⟨8 * (0x400000 * (n + 1) + 0x4062c), 32, 0⟩

/-- NVQ_RD_DRAM_SERVED.COUNT [31:0], RC (R209). -/
def NVQ_RD_DRAM_SERVED_COUNT (n : Nat) : Fld := ⟨8 * (0x400000 * (n + 1) + 0x40630), 32, 0⟩

/-- NVQ_RD_P50.LATENCY [19:0], RO (R209). -/
def NVQ_RD_P50_LATENCY (n : Nat) : Fld := ⟨8 * (0x400000 * (n + 1) + 0x40634), 20, 0⟩

/-- NVQ_RD_P9999.LATENCY [19:0], RO (R209). -/
def NVQ_RD_P9999_LATENCY (n : Nat) : Fld := ⟨8 * (0x400000 * (n + 1) + 0x40638), 20, 0⟩

/-- NVQ_RD_SLOW_BLADES.SLOTS [31:0], RO (R209). -/
def NVQ_RD_SLOW_BLADES_SLOTS (n i : Nat) : Fld := ⟨8 * (0x400000 * (n + 1) + 0x40640 + 4 * i), 32, 0⟩

/-- PAR_CTRL.REBUILD_EN [0:0], RWS (R247). -/
def PAR_CTRL_REBUILD_EN (n : Nat) : Fld := ⟨8 * (0x400000 * (n + 1) + 0x100000), 1, 1⟩

/-- PAR_CTRL.RESHAPE_EN [1:1], RWS (R247). -/
def PAR_CTRL_RESHAPE_EN (n : Nat) : Fld := ⟨8 * (0x400000 * (n + 1) + 0x100000) + 1, 1, 1⟩

/-- PAR_CTRL.AUTO_SPARE [2:2], RWS (R247). -/
def PAR_CTRL_AUTO_SPARE (n : Nat) : Fld := ⟨8 * (0x400000 * (n + 1) + 0x100000) + 2, 1, 1⟩

/-- PAR_CTRL.BG_VERIFY [3:3], RWS (R247). -/
def PAR_CTRL_BG_VERIFY (n : Nat) : Fld := ⟨8 * (0x400000 * (n + 1) + 0x100000) + 3, 1, 1⟩

/-- PAR_STATUS.RESYNC [0:0], RO (R247). -/
def PAR_STATUS_RESYNC (n : Nat) : Fld := ⟨8 * (0x400000 * (n + 1) + 0x100004), 1, 0⟩

/-- PAR_STATUS.REBUILD [1:1], RO (R247). -/
def PAR_STATUS_REBUILD (n : Nat) : Fld := ⟨8 * (0x400000 * (n + 1) + 0x100004) + 1, 1, 0⟩

/-- PAR_STATUS.RESHAPE [2:2], RO (R247). -/
def PAR_STATUS_RESHAPE (n : Nat) : Fld := ⟨8 * (0x400000 * (n + 1) + 0x100004) + 2, 1, 0⟩

/-- PAR_STATUS.NO_SPARE [3:3], RO (R247). -/
def PAR_STATUS_NO_SPARE (n : Nat) : Fld := ⟨8 * (0x400000 * (n + 1) + 0x100004) + 3, 1, 0⟩

/-- PAR_STATUS.LOST_TABLE_FULL [4:4], RO (R247). -/
def PAR_STATUS_LOST_TABLE_FULL (n : Nat) : Fld := ⟨8 * (0x400000 * (n + 1) + 0x100004) + 4, 1, 0⟩

/-- PAR_ENC_BYTES (64-bit pair) [63:0], RO (R247). -/
def PAR_ENC_BYTES (n : Nat) : Fld := ⟨8 * (0x400000 * (n + 1) + 0x100008), 64, 0⟩

/-- PAR_DEC_BYTES (64-bit pair) [63:0], RO (R247). -/
def PAR_DEC_BYTES (n : Nat) : Fld := ⟨8 * (0x400000 * (n + 1) + 0x100010), 64, 0⟩

/-- PAR_INV_HITS.COUNT [31:0], RC (R247). -/
def PAR_INV_HITS_COUNT (n : Nat) : Fld := ⟨8 * (0x400000 * (n + 1) + 0x100018), 32, 0⟩

/-- PAR_INV_MISSES.COUNT [31:0], RC (R247). -/
def PAR_INV_MISSES_COUNT (n : Nat) : Fld := ⟨8 * (0x400000 * (n + 1) + 0x10001c), 32, 0⟩

/-- PAR_TAG_MISMATCH.COUNT [31:0], RCS (R247). -/
def PAR_TAG_MISMATCH_COUNT (n : Nat) : Fld := ⟨8 * (0x400000 * (n + 1) + 0x100020), 32, 0⟩

/-- PAR_PROGRAM_FAIL.COUNT [31:0], RCS (R247). -/
def PAR_PROGRAM_FAIL_COUNT (n : Nat) : Fld := ⟨8 * (0x400000 * (n + 1) + 0x100024), 32, 0⟩

/-- PAR_DIRTY_SET.COUNT [31:0], RC (R247). -/
def PAR_DIRTY_SET_COUNT (n : Nat) : Fld := ⟨8 * (0x400000 * (n + 1) + 0x100028), 32, 0⟩

/-- PAR_RESYNC_ROWS.COUNT [31:0], RCS (R247). -/
def PAR_RESYNC_ROWS_COUNT (n : Nat) : Fld := ⟨8 * (0x400000 * (n + 1) + 0x10002c), 32, 0⟩

/-- PAR_PARITY_BAD.COUNT [31:0], RCS (R247). -/
def PAR_PARITY_BAD_COUNT (n : Nat) : Fld := ⟨8 * (0x400000 * (n + 1) + 0x100030), 32, 0⟩

/-- PAR_GROUP_SELECT.POOL [4:0], RW (R247). -/
def PAR_GROUP_SELECT_POOL (n : Nat) : Fld := ⟨8 * (0x400000 * (n + 1) + 0x100100), 5, 0⟩

/-- PAR_GROUP_STATE.STATE [2:0], RO (R247). -/
def PAR_GROUP_STATE_STATE (n : Nat) : Fld := ⟨8 * (0x400000 * (n + 1) + 0x100104), 3, 0⟩

/-- PAR_GROUP_STATE.REBUILDING [3:3], RO (R247). -/
def PAR_GROUP_STATE_REBUILDING (n : Nat) : Fld := ⟨8 * (0x400000 * (n + 1) + 0x100104) + 3, 1, 0⟩

/-- PAR_GROUP_STATE.RESHAPING [4:4], RO (R247). -/
def PAR_GROUP_STATE_RESHAPING (n : Nat) : Fld := ⟨8 * (0x400000 * (n + 1) + 0x100104) + 4, 1, 0⟩

/-- PAR_GROUP_STATE.RESYNCING [5:5], RO (R247). -/
def PAR_GROUP_STATE_RESYNCING (n : Nat) : Fld := ⟨8 * (0x400000 * (n + 1) + 0x100104) + 5, 1, 0⟩

/-- PAR_GROUP_STATE.CONSUMED [10:8], RO (R247). -/
def PAR_GROUP_STATE_CONSUMED (n : Nat) : Fld := ⟨8 * (0x400000 * (n + 1) + 0x100104) + 8, 3, 0⟩

/-- PAR_GROUP_GEOM.GEOM [21:0], RO (R247). -/
def PAR_GROUP_GEOM_GEOM (n : Nat) : Fld := ⟨8 * (0x400000 * (n + 1) + 0x100108), 22, 0⟩

/-- PAR_GROUP_LOST (64-bit pair) [47:0], RO (R247). -/
def PAR_GROUP_LOST (n : Nat) : Fld := ⟨8 * (0x400000 * (n + 1) + 0x10010c), 48, 0⟩

/-- PAR_DIRTY_REGIONS.COUNT [18:0], RO (R247). -/
def PAR_DIRTY_REGIONS_COUNT (n : Nat) : Fld := ⟨8 * (0x400000 * (n + 1) + 0x100114), 19, 0⟩

/-- PAR_LOST_ROWS.COUNT [16:0], RO (R247). -/
def PAR_LOST_ROWS_COUNT (n : Nat) : Fld := ⟨8 * (0x400000 * (n + 1) + 0x100118), 17, 0⟩

/-- PAR_LOST_LBAS (64-bit pair) [63:0], RO (R247). -/
def PAR_LOST_LBAS (n : Nat) : Fld := ⟨8 * (0x400000 * (n + 1) + 0x10011c), 64, 0⟩

/-- PAR_REBUILD_TARGET.SLOT [6:0], RO (R247). -/
def PAR_REBUILD_TARGET_SLOT (n : Nat) : Fld := ⟨8 * (0x400000 * (n + 1) + 0x100124), 7, 0⟩

/-- PAR_REBUILD_TARGET.VALID [7:7], RO (R247). -/
def PAR_REBUILD_TARGET_VALID (n : Nat) : Fld := ⟨8 * (0x400000 * (n + 1) + 0x100124) + 7, 1, 0⟩

/-- PAR_REBUILD_TARGET.SHARE [9:8], RO (R247). -/
def PAR_REBUILD_TARGET_SHARE (n : Nat) : Fld := ⟨8 * (0x400000 * (n + 1) + 0x100124) + 8, 2, 0⟩

/-- PAR_REBUILD_BANDS_DONE.COUNT [31:0], RO (R247). -/
def PAR_REBUILD_BANDS_DONE_COUNT (n : Nat) : Fld := ⟨8 * (0x400000 * (n + 1) + 0x100128), 32, 0⟩

/-- PAR_REBUILD_BANDS_TOTAL.COUNT [31:0], RO (R247). -/
def PAR_REBUILD_BANDS_TOTAL_COUNT (n : Nat) : Fld := ⟨8 * (0x400000 * (n + 1) + 0x10012c), 32, 0⟩

/-- PAR_REBUILD_STROKES.STROKES [31:0], RO (R247). -/
def PAR_REBUILD_STROKES_STROKES (n : Nat) : Fld := ⟨8 * (0x400000 * (n + 1) + 0x100130), 32, 0⟩

/-- PAR_RESHAPE_STATE.STATE [2:0], RO (R247). -/
def PAR_RESHAPE_STATE_STATE (n : Nat) : Fld := ⟨8 * (0x400000 * (n + 1) + 0x100180), 3, 0⟩

/-- PAR_RESHAPE_STATE.REVERSE [3:3], RO (R247). -/
def PAR_RESHAPE_STATE_REVERSE (n : Nat) : Fld := ⟨8 * (0x400000 * (n + 1) + 0x100180) + 3, 1, 0⟩

/-- PAR_RESHAPE_STATE.POOL [12:8], RO (R247). -/
def PAR_RESHAPE_STATE_POOL (n : Nat) : Fld := ⟨8 * (0x400000 * (n + 1) + 0x100180) + 8, 5, 0⟩

/-- PAR_RESHAPE_BOUNDARY.ROW [31:0], RO (R247). -/
def PAR_RESHAPE_BOUNDARY_ROW (n : Nat) : Fld := ⟨8 * (0x400000 * (n + 1) + 0x100184), 32, 0⟩

/-- PAR_RESHAPE_START.ROW [31:0], RO (R247). -/
def PAR_RESHAPE_START_ROW (n : Nat) : Fld := ⟨8 * (0x400000 * (n + 1) + 0x100188), 32, 0⟩

/-- PAR_RESHAPE_SRC_GEOM.GEOM [21:0], RO (R247). -/
def PAR_RESHAPE_SRC_GEOM_GEOM (n : Nat) : Fld := ⟨8 * (0x400000 * (n + 1) + 0x10018c), 22, 0⟩

/-- PAR_RESHAPE_TGT_GEOM.GEOM [21:0], RO (R247). -/
def PAR_RESHAPE_TGT_GEOM_GEOM (n : Nat) : Fld := ⟨8 * (0x400000 * (n + 1) + 0x100190), 22, 0⟩

/-- PAR_RESHAPE_CONVERTED (64-bit pair) [63:0], RO (R247). -/
def PAR_RESHAPE_CONVERTED (n : Nat) : Fld := ⟨8 * (0x400000 * (n + 1) + 0x100194), 64, 0⟩

/-- PAR_RESHAPE_RATE.ROWS [2:0], RWS (R247). -/
def PAR_RESHAPE_RATE_ROWS (n : Nat) : Fld := ⟨8 * (0x400000 * (n + 1) + 0x10019c), 3, 4⟩

/-- PAR_RESHAPE_REDO.COUNT [31:0], RCS (R247). -/
def PAR_RESHAPE_REDO_COUNT (n : Nat) : Fld := ⟨8 * (0x400000 * (n + 1) + 0x1001a0), 32, 0⟩

/-- PAR_RESHAPE_REVERSALS.COUNT [31:0], RCS (R247). -/
def PAR_RESHAPE_REVERSALS_COUNT (n : Nat) : Fld := ⟨8 * (0x400000 * (n + 1) + 0x1001a4), 32, 0⟩

/-- PAR_RESHAPE_SEQ.SEQUENCE [31:0], RO (R247). -/
def PAR_RESHAPE_SEQ_SEQUENCE (n : Nat) : Fld := ⟨8 * (0x400000 * (n + 1) + 0x1001a8), 32, 0⟩

/-- OAR_CTRL.PORT_EN [11:0], RWS (R288). -/
def OAR_CTRL_PORT_EN (n : Nat) : Fld := ⟨8 * (0x400000 * (n + 1) + 0x140000), 12, 4095⟩

/-- OAR_TIMEOUT.MULT [3:0], RWS (R288). -/
def OAR_TIMEOUT_MULT (n : Nat) : Fld := ⟨8 * (0x400000 * (n + 1) + 0x140004), 4, 4⟩

/-- OAR_TIMEOUT.FLOOR_US [31:16], RWS (R288). -/
def OAR_TIMEOUT_FLOOR_US (n : Nat) : Fld := ⟨8 * (0x400000 * (n + 1) + 0x140004) + 16, 16, 1000⟩

/-- OAR_DEGRADE.FEC [15:0], RWS (R288). -/
def OAR_DEGRADE_FEC (n : Nat) : Fld := ⟨8 * (0x400000 * (n + 1) + 0x140008), 16, 64⟩

/-- OAR_DEGRADE.REPLAY [31:16], RWS (R288). -/
def OAR_DEGRADE_REPLAY (n : Nat) : Fld := ⟨8 * (0x400000 * (n + 1) + 0x140008) + 16, 16, 256⟩

/-- OAR_RETRAIN_LIMIT.STROKES [15:0], RWS (R288). -/
def OAR_RETRAIN_LIMIT_STROKES (n : Nat) : Fld := ⟨8 * (0x400000 * (n + 1) + 0x14000c), 16, 1000⟩

/-- OAR_PORT_STATUS.STATE [2:0], RO (R288). -/
def OAR_PORT_STATUS_STATE (n i : Nat) : Fld := ⟨8 * (0x400000 * (n + 1) + 0x140100 + 64 * i), 3, 0⟩

/-- OAR_PORT_STATUS.SESSION [3:3], RO (R288). -/
def OAR_PORT_STATUS_SESSION (n i : Nat) : Fld := ⟨8 * (0x400000 * (n + 1) + 0x140100 + 64 * i) + 3, 1, 0⟩

/-- OAR_PORT_STATUS.OWNER [4:4], RO (R288). -/
def OAR_PORT_STATUS_OWNER (n i : Nat) : Fld := ⟨8 * (0x400000 * (n + 1) + 0x140100 + 64 * i) + 4, 1, 0⟩

/-- OAR_PORT_STATUS.PADDLE [5:5], RO (R288). -/
def OAR_PORT_STATUS_PADDLE (n i : Nat) : Fld := ⟨8 * (0x400000 * (n + 1) + 0x140100 + 64 * i) + 5, 1, 0⟩

/-- OAR_PORT_STATUS.OUTSTANDING [27:16], RO (R288). -/
def OAR_PORT_STATUS_OUTSTANDING (n i : Nat) : Fld := ⟨8 * (0x400000 * (n + 1) + 0x140100 + 64 * i) + 16, 12, 0⟩

/-- OAR_PORT_FEC_CORR.COUNT [31:0], RC (R288). -/
def OAR_PORT_FEC_CORR_COUNT (n i : Nat) : Fld := ⟨8 * (0x400000 * (n + 1) + 0x140104 + 64 * i), 32, 0⟩

/-- OAR_PORT_FEC_UNCORR.COUNT [31:0], RC (R288). -/
def OAR_PORT_FEC_UNCORR_COUNT (n i : Nat) : Fld := ⟨8 * (0x400000 * (n + 1) + 0x140108 + 64 * i), 32, 0⟩

/-- OAR_PORT_REPLAYS.COUNT [31:0], RC (R288). -/
def OAR_PORT_REPLAYS_COUNT (n i : Nat) : Fld := ⟨8 * (0x400000 * (n + 1) + 0x14010c + 64 * i), 32, 0⟩

/-- OAR_PORT_RETRAINS.COUNT [31:0], RCS (R288). -/
def OAR_PORT_RETRAINS_COUNT (n i : Nat) : Fld := ⟨8 * (0x400000 * (n + 1) + 0x140110 + 64 * i), 32, 0⟩

/-- OAR_PORT_PROTO_ERR.COUNT [31:0], RCS (R288). -/
def OAR_PORT_PROTO_ERR_COUNT (n i : Nat) : Fld := ⟨8 * (0x400000 * (n + 1) + 0x140114 + 64 * i), 32, 0⟩

/-- OAR_PORT_TIMEOUTS.COUNT [31:0], RCS (R288). -/
def OAR_PORT_TIMEOUTS_COUNT (n i : Nat) : Fld := ⟨8 * (0x400000 * (n + 1) + 0x140118 + 64 * i), 32, 0⟩

/-- OAR_PORT_FENCED.COUNT [31:0], RC (R288). -/
def OAR_PORT_FENCED_COUNT (n i : Nat) : Fld := ⟨8 * (0x400000 * (n + 1) + 0x14011c + 64 * i), 32, 0⟩

/-- OAR_PORT_RAW_CW.COUNT [31:0], RC (R288). -/
def OAR_PORT_RAW_CW_COUNT (n i : Nat) : Fld := ⟨8 * (0x400000 * (n + 1) + 0x140120 + 64 * i), 32, 0⟩

/-- OAR_PORT_DECODE_FAIL.COUNT [31:0], RCS (R288). -/
def OAR_PORT_DECODE_FAIL_COUNT (n i : Nat) : Fld := ⟨8 * (0x400000 * (n + 1) + 0x140124 + 64 * i), 32, 0⟩

/-- OAR_PORT_LATE.COUNT [31:0], RC (R288). -/
def OAR_PORT_LATE_COUNT (n i : Nat) : Fld := ⟨8 * (0x400000 * (n + 1) + 0x140128 + 64 * i), 32, 0⟩

/-- OAR_PORT_CREDITS.CMD [7:0], RO (R288). -/
def OAR_PORT_CREDITS_CMD (n i : Nat) : Fld := ⟨8 * (0x400000 * (n + 1) + 0x14012c + 64 * i), 8, 0⟩

/-- OAR_PORT_CREDITS.WDATA [15:8], RO (R288). -/
def OAR_PORT_CREDITS_WDATA (n i : Nat) : Fld := ⟨8 * (0x400000 * (n + 1) + 0x14012c + 64 * i) + 8, 8, 0⟩

/-- OAR_PORT_CREDITS.MGMT [23:16], RO (R288). -/
def OAR_PORT_CREDITS_MGMT (n i : Nat) : Fld := ⟨8 * (0x400000 * (n + 1) + 0x14012c + 64 * i) + 16, 8, 0⟩

/-- OAR_PORT_RD_BYTES (64-bit pair) [63:0], RO (R288). -/
def OAR_PORT_RD_BYTES (n i : Nat) : Fld := ⟨8 * (0x400000 * (n + 1) + 0x140130 + 64 * i), 64, 0⟩

/-- OAR_PORT_WR_BYTES (64-bit pair) [63:0], RO (R288). -/
def OAR_PORT_WR_BYTES (n i : Nat) : Fld := ⟨8 * (0x400000 * (n + 1) + 0x140138 + 64 * i), 64, 0⟩

/-- BLD_CTRL.AUTO_POWER [0:0], RWS (R289). -/
def BLD_CTRL_AUTO_POWER : Fld := ⟨1048576, 1, 1⟩

/-- BLD_CTRL.AUTO_ATTEST [1:1], RWS (R289). -/
def BLD_CTRL_AUTO_ATTEST : Fld := ⟨1048577, 1, 1⟩

/-- BLD_EVENT_SLOTS.SLOTS [31:0], RO (R289). -/
def BLD_EVENT_SLOTS_SLOTS (i : Nat) : Fld := ⟨8 * (0x20010 + 4 * i), 32, 0⟩

/-- BLD_PRESENT.SLOTS [31:0], RO (R289). -/
def BLD_PRESENT_SLOTS (i : Nat) : Fld := ⟨8 * (0x20020 + 4 * i), 32, 0⟩

/-- BLD_SLOT_CAP.ABP [0:0], RO (R289). -/
def BLD_SLOT_CAP_ABP (i : Nat) : Fld := ⟨8 * (0x21000 + 32 * i), 1, 1⟩

/-- BLD_SLOT_CAP.PCP [1:1], RO (R289). -/
def BLD_SLOT_CAP_PCP (i : Nat) : Fld := ⟨8 * (0x21000 + 32 * i) + 1, 1, 1⟩

/-- BLD_SLOT_CAP.MRLSP [2:2], RO (R289). -/
def BLD_SLOT_CAP_MRLSP (i : Nat) : Fld := ⟨8 * (0x21000 + 32 * i) + 2, 1, 0⟩

/-- BLD_SLOT_CAP.AIP [3:3], RO (R289). -/
def BLD_SLOT_CAP_AIP (i : Nat) : Fld := ⟨8 * (0x21000 + 32 * i) + 3, 1, 1⟩

/-- BLD_SLOT_CAP.PIP [4:4], RO (R289). -/
def BLD_SLOT_CAP_PIP (i : Nat) : Fld := ⟨8 * (0x21000 + 32 * i) + 4, 1, 1⟩

/-- BLD_SLOT_CAP.HPS [5:5], RO (R289). -/
def BLD_SLOT_CAP_HPS (i : Nat) : Fld := ⟨8 * (0x21000 + 32 * i) + 5, 1, 1⟩

/-- BLD_SLOT_CAP.HPC [6:6], RO (R289). -/
def BLD_SLOT_CAP_HPC (i : Nat) : Fld := ⟨8 * (0x21000 + 32 * i) + 6, 1, 1⟩

/-- BLD_SLOT_CAP.SPLV [14:7], RO (R289). -/
def BLD_SLOT_CAP_SPLV (i : Nat) : Fld := ⟨8 * (0x21000 + 32 * i) + 7, 8, 0⟩

/-- BLD_SLOT_CAP.SPLS [16:15], RO (R289). -/
def BLD_SLOT_CAP_SPLS (i : Nat) : Fld := ⟨8 * (0x21000 + 32 * i) + 15, 2, 0⟩

/-- BLD_SLOT_CAP.EIP [17:17], RO (R289). -/
def BLD_SLOT_CAP_EIP (i : Nat) : Fld := ⟨8 * (0x21000 + 32 * i) + 17, 1, 0⟩

/-- BLD_SLOT_CAP.NCCS [18:18], RO (R289). -/
def BLD_SLOT_CAP_NCCS (i : Nat) : Fld := ⟨8 * (0x21000 + 32 * i) + 18, 1, 1⟩

/-- BLD_SLOT_CAP.SLOT [31:19], RO (R289). -/
def BLD_SLOT_CAP_SLOT (i : Nat) : Fld := ⟨8 * (0x21000 + 32 * i) + 19, 13, i⟩

/-- BLD_SLOT_CTRL.ABP_EN [0:0], RWS (R289). -/
def BLD_SLOT_CTRL_ABP_EN (i : Nat) : Fld := ⟨8 * (0x21004 + 32 * i), 1, 1⟩

/-- BLD_SLOT_CTRL.PF_EN [1:1], RWS (R289). -/
def BLD_SLOT_CTRL_PF_EN (i : Nat) : Fld := ⟨8 * (0x21004 + 32 * i) + 1, 1, 1⟩

/-- BLD_SLOT_CTRL.PDC_EN [3:3], RWS (R289). -/
def BLD_SLOT_CTRL_PDC_EN (i : Nat) : Fld := ⟨8 * (0x21004 + 32 * i) + 3, 1, 1⟩

/-- BLD_SLOT_CTRL.HP_EN [5:5], RWS (R289). -/
def BLD_SLOT_CTRL_HP_EN (i : Nat) : Fld := ⟨8 * (0x21004 + 32 * i) + 5, 1, 1⟩

/-- BLD_SLOT_CTRL.ATTN_IND [7:6], RWS (R289). -/
def BLD_SLOT_CTRL_ATTN_IND (i : Nat) : Fld := ⟨8 * (0x21004 + 32 * i) + 6, 2, 3⟩

/-- BLD_SLOT_CTRL.PWR_IND [9:8], RWS (R289). -/
def BLD_SLOT_CTRL_PWR_IND (i : Nat) : Fld := ⟨8 * (0x21004 + 32 * i) + 8, 2, 3⟩

/-- BLD_SLOT_CTRL.PWR_OFF [10:10], RWS (R289). -/
def BLD_SLOT_CTRL_PWR_OFF (i : Nat) : Fld := ⟨8 * (0x21004 + 32 * i) + 10, 1, 1⟩

/-- BLD_SLOT_CTRL.DLLSC_EN [12:12], RWS (R289). -/
def BLD_SLOT_CTRL_DLLSC_EN (i : Nat) : Fld := ⟨8 * (0x21004 + 32 * i) + 12, 1, 1⟩

/-- BLD_SLOT_STATUS.ABP [0:0], W1C (R289). -/
def BLD_SLOT_STATUS_ABP (i : Nat) : Fld := ⟨8 * (0x21008 + 32 * i), 1, 0⟩

/-- BLD_SLOT_STATUS.PF [1:1], W1C (R289). -/
def BLD_SLOT_STATUS_PF (i : Nat) : Fld := ⟨8 * (0x21008 + 32 * i) + 1, 1, 0⟩

/-- BLD_SLOT_STATUS.PDC [3:3], W1C (R289). -/
def BLD_SLOT_STATUS_PDC (i : Nat) : Fld := ⟨8 * (0x21008 + 32 * i) + 3, 1, 0⟩

/-- BLD_SLOT_STATUS.PDS [6:6], RO (R289). -/
def BLD_SLOT_STATUS_PDS (i : Nat) : Fld := ⟨8 * (0x21008 + 32 * i) + 6, 1, 0⟩

/-- BLD_SLOT_STATUS.DLLSC [8:8], W1C (R289). -/
def BLD_SLOT_STATUS_DLLSC (i : Nat) : Fld := ⟨8 * (0x21008 + 32 * i) + 8, 1, 0⟩

/-- BLD_SLOT_STATUS.LINK_UP [16:16], RO (R289). -/
def BLD_SLOT_STATUS_LINK_UP (i : Nat) : Fld := ⟨8 * (0x21008 + 32 * i) + 16, 1, 0⟩

/-- BLD_SLOT_STATUS.ATTESTED [17:17], RO (R289). -/
def BLD_SLOT_STATUS_ATTESTED (i : Nat) : Fld := ⟨8 * (0x21008 + 32 * i) + 17, 1, 0⟩

/-- BLD_SLOT_STATUS.ATTEST_FAILED [18:18], RO (R289). -/
def BLD_SLOT_STATUS_ATTEST_FAILED (i : Nat) : Fld := ⟨8 * (0x21008 + 32 * i) + 18, 1, 0⟩

/-- BLD_SLOT_STATUS.IN_USE [19:19], RO (R289). -/
def BLD_SLOT_STATUS_IN_USE (i : Nat) : Fld := ⟨8 * (0x21008 + 32 * i) + 19, 1, 0⟩

/-- BLD_SLOT_STATUS.OWNED [20:20], RO (R289). -/
def BLD_SLOT_STATUS_OWNED (i : Nat) : Fld := ⟨8 * (0x21008 + 32 * i) + 20, 1, 0⟩

/-- BLD_SLOT_STATUS.STALE [21:21], RO (R289). -/
def BLD_SLOT_STATUS_STALE (i : Nat) : Fld := ⟨8 * (0x21008 + 32 * i) + 21, 1, 0⟩

/-- BLD_SLOT_STATUS.IND_PENDING [22:22], RO (R289). -/
def BLD_SLOT_STATUS_IND_PENDING (i : Nat) : Fld := ⟨8 * (0x21008 + 32 * i) + 22, 1, 0⟩

/-- BLD_SLOT_STATUS.POWER_REFUSED [23:23], W1C (R289). -/
def BLD_SLOT_STATUS_POWER_REFUSED (i : Nat) : Fld := ⟨8 * (0x21008 + 32 * i) + 23, 1, 0⟩

/-- BLD_SLOT_STATUS.PWREN [24:24], RO (R289). -/
def BLD_SLOT_STATUS_PWREN (i : Nat) : Fld := ⟨8 * (0x21008 + 32 * i) + 24, 1, 0⟩

/-- BLD_SLOT_FENCE.EPOCH [31:0], RO (R289). -/
def BLD_SLOT_FENCE_EPOCH (i : Nat) : Fld := ⟨8 * (0x2100c + 32 * i), 32, 0⟩

/-- BLD_SLOT_INFO.DIES [10:0], RO (R289). -/
def BLD_SLOT_INFO_DIES (i : Nat) : Fld := ⟨8 * (0x21010 + 32 * i), 11, 0⟩

/-- BLD_SLOT_INFO.SHARES [13:11], RO (R289). -/
def BLD_SLOT_INFO_SHARES (i : Nat) : Fld := ⟨8 * (0x21010 + 32 * i) + 11, 3, 0⟩

/-- BLD_SLOT_INFO.OWNER [15:14], RO (R289). -/
def BLD_SLOT_INFO_OWNER (i : Nat) : Fld := ⟨8 * (0x21010 + 32 * i) + 14, 2, 0⟩

/-- BLD_SLOT_INFO.LEVELS [20:16], RO (R289). -/
def BLD_SLOT_INFO_LEVELS (i : Nat) : Fld := ⟨8 * (0x21010 + 32 * i) + 16, 5, 0⟩

/-- BLD_SLOT_HEALTH.BRIDGE_C [7:0], RO (R289). -/
def BLD_SLOT_HEALTH_BRIDGE_C (i : Nat) : Fld := ⟨8 * (0x21014 + 32 * i), 8, 0⟩

/-- BLD_SLOT_HEALTH.NAND_C [15:8], RO (R289). -/
def BLD_SLOT_HEALTH_NAND_C (i : Nat) : Fld := ⟨8 * (0x21014 + 32 * i) + 8, 8, 0⟩

/-- BLD_SLOT_HEALTH.POWER [31:16], RO (R289). -/
def BLD_SLOT_HEALTH_POWER (i : Nat) : Fld := ⟨8 * (0x21014 + 32 * i) + 16, 16, 0⟩

/-- BLD_SLOT_LAST (64-bit pair) [63:0], RO (R289). -/
def BLD_SLOT_LAST (i : Nat) : Fld := ⟨8 * (0x21018 + 32 * i), 64, 0⟩

/-- RING_CTRL.SWEEP_EN [0:0], RWS (R290). -/
def RING_CTRL_SWEEP_EN : Fld := ⟨1310720, 1, 1⟩

/-- RING_CTRL.OUTSTANDING [4:1], RWS (R290). -/
def RING_CTRL_OUTSTANDING : Fld := ⟨1310721, 4, 8⟩

/-- RING_STATUS.SWEEPING [0:0], RO (R290). -/
def RING_STATUS_SWEEPING : Fld := ⟨1310752, 1, 0⟩

/-- RING_STATUS.BROKEN [1:1], RO (R290). -/
def RING_STATUS_BROKEN : Fld := ⟨1310753, 1, 0⟩

/-- RING_STATUS.BREAK_CW [14:8], RO (R290). -/
def RING_STATUS_BREAK_CW : Fld := ⟨1310760, 7, 127⟩

/-- RING_STATUS.BREAK_CCW [22:16], RO (R290). -/
def RING_STATUS_BREAK_CCW : Fld := ⟨1310768, 7, 127⟩

/-- RING_STATUS.STALE_COUNT [30:24], RO (R290). -/
def RING_STATUS_STALE_COUNT : Fld := ⟨1310776, 7, 0⟩

/-- RING_POLL_TIMEOUT.TICKS [19:0], RWS (R290). -/
def RING_POLL_TIMEOUT_TICKS : Fld := ⟨1310784, 20, 50000⟩

/-- RING_SWEEP_STROKES.STROKES [15:0], RO (R290). -/
def RING_SWEEP_STROKES_STROKES : Fld := ⟨1310816, 16, 0⟩

/-- RING_SWEEP_LAST (64-bit pair) [63:0], RO (R290). -/
def RING_SWEEP_LAST : Fld := ⟨1310848, 64, 0⟩

/-- RING_POLL_MISS.COUNT [31:0], RC (R290). -/
def RING_POLL_MISS_COUNT : Fld := ⟨1310912, 32, 0⟩

/-- RING_CRC_ERR.COUNT [31:0], RC (R290). -/
def RING_CRC_ERR_COUNT : Fld := ⟨1310944, 32, 0⟩

/-- RING_BUTTON.COUNT [31:0], RC (R290). -/
def RING_BUTTON_COUNT : Fld := ⟨1310976, 32, 0⟩

/-- RING_IND_RETRY.COUNT [31:0], RC (R290). -/
def RING_IND_RETRY_COUNT : Fld := ⟨1311008, 32, 0⟩

/-- RING_STALE.SLOTS [31:0], RO (R290). -/
def RING_STALE_SLOTS (i : Nat) : Fld := ⟨8 * (0x28030 + 4 * i), 32, 0⟩

/-- PAIR_STATUS.STATE [2:0], RO (R330). -/
def PAIR_STATUS_STATE : Fld := ⟨5242880, 3, 0⟩

/-- PAIR_STATUS.SIDE [3:3], RO (R330). -/
def PAIR_STATUS_SIDE : Fld := ⟨5242883, 1, 0⟩

/-- PAIR_STATUS.HOLD [4:4], RO (R330). -/
def PAIR_STATUS_HOLD : Fld := ⟨5242884, 1, 0⟩

/-- PAIR_STATUS.PEER_HOLD [5:5], RO (R330). -/
def PAIR_STATUS_PEER_HOLD : Fld := ⟨5242885, 1, 0⟩

/-- PAIR_STATUS.OWNED [9:8], RO (R330). -/
def PAIR_STATUS_OWNED : Fld := ⟨5242888, 2, 0⟩

/-- PAIR_STATUS.LANE_OK [23:16], RO (R330). -/
def PAIR_STATUS_LANE_OK : Fld := ⟨5242896, 8, 0⟩

/-- PAIR_EVENTS.STATE_CHANGED [0:0], W1CS (R330). -/
def PAIR_EVENTS_STATE_CHANGED : Fld := ⟨5242912, 1, 0⟩

/-- PAIR_EVENTS.LANE_FAILED [1:1], W1CS (R330). -/
def PAIR_EVENTS_LANE_FAILED : Fld := ⟨5242913, 1, 0⟩

/-- PAIR_EVENTS.LANE_RESTORED [2:2], W1CS (R330). -/
def PAIR_EVENTS_LANE_RESTORED : Fld := ⟨5242914, 1, 0⟩

/-- PAIR_EVENTS.ARMED [3:3], W1CS (R330). -/
def PAIR_EVENTS_ARMED : Fld := ⟨5242915, 1, 0⟩

/-- PAIR_EVENTS.CLAIM_WON [4:4], W1CS (R330). -/
def PAIR_EVENTS_CLAIM_WON : Fld := ⟨5242916, 1, 0⟩

/-- PAIR_EVENTS.CLAIM_LOST [5:5], W1CS (R330). -/
def PAIR_EVENTS_CLAIM_LOST : Fld := ⟨5242917, 1, 0⟩

/-- PAIR_EVENTS.CLAIM_UNDECIDED [6:6], W1CS (R330). -/
def PAIR_EVENTS_CLAIM_UNDECIDED : Fld := ⟨5242918, 1, 0⟩

/-- PAIR_EVENTS.REFUSED [7:7], W1CS (R330). -/
def PAIR_EVENTS_REFUSED : Fld := ⟨5242919, 1, 0⟩

/-- PAIR_EVENTS.INCOMPATIBLE [8:8], W1CS (R330). -/
def PAIR_EVENTS_INCOMPATIBLE : Fld := ⟨5242920, 1, 0⟩

/-- PAIR_EVENTS.REKEY_LATE [9:9], W1CS (R330). -/
def PAIR_EVENTS_REKEY_LATE : Fld := ⟨5242921, 1, 0⟩

/-- PAIR_EVENTS.FAILBACK_DONE [10:10], W1CS (R330). -/
def PAIR_EVENTS_FAILBACK_DONE : Fld := ⟨5242922, 1, 0⟩

/-- PAIR_EVENT_EN.ENABLE [10:0], RWS (R330). -/
def PAIR_EVENT_EN_ENABLE : Fld := ⟨5242944, 11, 2047⟩

/-- PAIR_WIN_LAYOUT.C [9:0], RO (R330). -/
def PAIR_WIN_LAYOUT_C : Fld := ⟨5242976, 10, 200⟩

/-- PAIR_WIN_LAYOUT.S [21:10], RO (R330). -/
def PAIR_WIN_LAYOUT_S : Fld := ⟨5242986, 12, 1600⟩

/-- PAIR_WIN_LAYOUT.GUARD [31:22], RO (R330). -/
def PAIR_WIN_LAYOUT_GUARD : Fld := ⟨5242998, 10, 400⟩

/-- PAIR_HB_MISSED.COUNT [15:0], RO (R330). -/
def PAIR_HB_MISSED_COUNT : Fld := ⟨5243008, 16, 0⟩

/-- PAIR_CLAIM.TIMEOUT [15:0], RWS (R330). -/
def PAIR_CLAIM_TIMEOUT : Fld := ⟨5243040, 16, 100⟩

/-- PAIR_CLAIM.RETRIES [19:16], RWS (R330). -/
def PAIR_CLAIM_RETRIES : Fld := ⟨5243056, 4, 8⟩

/-- PAIR_FENCE_TIMEOUT.STROKES [15:0], RWS (R330). -/
def PAIR_FENCE_TIMEOUT_STROKES : Fld := ⟨5243072, 16, 300⟩

/-- PAIR_JOIN_WAIT.STROKES [31:0], RWS (R330). -/
def PAIR_JOIN_WAIT_STROKES : Fld := ⟨5243104, 32, 100000⟩

/-- PAIR_REKEY.LOG2 [5:0], RWS (R330). -/
def PAIR_REKEY_LOG2 : Fld := ⟨5243136, 6, 31⟩

/-- PAIR_TERM.TERM [31:0], RO (R330). -/
def PAIR_TERM_TERM : Fld := ⟨5243168, 32, 0⟩

/-- PAIR_TAKEOVER_STROKES.STROKES [31:0], RO (R330). -/
def PAIR_TAKEOVER_STROKES_STROKES : Fld := ⟨5243200, 32, 0⟩

/-- PAIR_TAKEOVERS.COUNT [31:0], RCS (R330). -/
def PAIR_TAKEOVERS_COUNT : Fld := ⟨5243232, 32, 0⟩

/-- PAIR_FAILBACKS.COUNT [31:0], RCS (R330). -/
def PAIR_FAILBACKS_COUNT : Fld := ⟨5243264, 32, 0⟩

/-- PAIR_REFUSED.COUNT [31:0], RCS (R330). -/
def PAIR_REFUSED_COUNT : Fld := ⟨5243296, 32, 0⟩

/-- PAIR_VERSION.MINOR [7:0], RO (R330). -/
def PAIR_VERSION_MINOR : Fld := ⟨5243328, 8, 0⟩

/-- PAIR_VERSION.MAJOR [15:8], RO (R330). -/
def PAIR_VERSION_MAJOR : Fld := ⟨5243336, 8, 0⟩

/-- PAIR_VERSION.PEER_MINOR [23:16], RO (R330). -/
def PAIR_VERSION_PEER_MINOR : Fld := ⟨5243344, 8, 0⟩

/-- PAIR_VERSION.PEER_MAJOR [31:24], RO (R330). -/
def PAIR_VERSION_PEER_MAJOR : Fld := ⟨5243352, 8, 0⟩

/-- PAIR_FAILBACK (64-bit pair) [63:0], RO (R330). -/
def PAIR_FAILBACK : Fld := ⟨5243392, 64, 0⟩

/-- PAIR_OWN_SELECT.INDEX [11:0], RW (R330). -/
def PAIR_OWN_SELECT_INDEX : Fld := ⟨5244928, 12, 0⟩

/-- PAIR_OWN_SELECT.POOL [12:12], RW (R330). -/
def PAIR_OWN_SELECT_POOL : Fld := ⟨5244940, 1, 0⟩

/-- PAIR_OWN_ENTRY.VALID [0:0], RO (R330). -/
def PAIR_OWN_ENTRY_VALID : Fld := ⟨5244960, 1, 0⟩

/-- PAIR_OWN_ENTRY.HOME [1:1], RO (R330). -/
def PAIR_OWN_ENTRY_HOME : Fld := ⟨5244961, 1, 0⟩

/-- PAIR_OWN_ENTRY.OWNER [2:2], RO (R330). -/
def PAIR_OWN_ENTRY_OWNER : Fld := ⟨5244962, 1, 0⟩

/-- PAIR_OWN_ENTRY.MOVING [3:3], RO (R330). -/
def PAIR_OWN_ENTRY_MOVING : Fld := ⟨5244963, 1, 0⟩

/-- PAIR_OWN_ENTRY.EPOCH [31:16], RO (R330). -/
def PAIR_OWN_ENTRY_EPOCH : Fld := ⟨5244976, 16, 0⟩

/-- PAIR_LANE_STATUS.STATE [1:0], RO (R331). -/
def PAIR_LANE_STATUS_STATE (n : Nat) : Fld := ⟨8 * (0x400000 * (n + 1) + 0x180000), 2, 0⟩

/-- PAIR_LANE_STATUS.REROUTED [2:2], RO (R331). -/
def PAIR_LANE_STATUS_REROUTED (n : Nat) : Fld := ⟨8 * (0x400000 * (n + 1) + 0x180000) + 2, 1, 0⟩

/-- PAIR_LANE_STATUS.VIA [7:4], RO (R331). -/
def PAIR_LANE_STATUS_VIA (n : Nat) : Fld := ⟨8 * (0x400000 * (n + 1) + 0x180000) + 4, 4, 0⟩

/-- PAIR_LANE_STATUS.CARRIES [15:8], RO (R331). -/
def PAIR_LANE_STATUS_CARRIES (n : Nat) : Fld := ⟨8 * (0x400000 * (n + 1) + 0x180000) + 8, 8, 0⟩

/-- PAIR_LANE_TX_SEQ.SEQ [31:0], RO (R331). -/
def PAIR_LANE_TX_SEQ_SEQ (n : Nat) : Fld := ⟨8 * (0x400000 * (n + 1) + 0x180004), 32, 0⟩

/-- PAIR_LANE_RX_SEQ.SEQ [31:0], RO (R331). -/
def PAIR_LANE_RX_SEQ_SEQ (n : Nat) : Fld := ⟨8 * (0x400000 * (n + 1) + 0x180008), 32, 0⟩

/-- PAIR_LANE_UNACKED.COUNT [10:0], RO (R331). -/
def PAIR_LANE_UNACKED_COUNT (n : Nat) : Fld := ⟨8 * (0x400000 * (n + 1) + 0x18000c), 11, 0⟩

/-- PAIR_RETX.STROKES [3:0], RWS (R331). -/
def PAIR_RETX_STROKES (n : Nat) : Fld := ⟨8 * (0x400000 * (n + 1) + 0x180010), 4, 2⟩

/-- PAIR_RETX.LIMIT [7:4], RWS (R331). -/
def PAIR_RETX_LIMIT (n : Nat) : Fld := ⟨8 * (0x400000 * (n + 1) + 0x180010) + 4, 4, 8⟩

/-- PAIR_LANE_RETX.COUNT [31:0], RC (R331). -/
def PAIR_LANE_RETX_COUNT (n : Nat) : Fld := ⟨8 * (0x400000 * (n + 1) + 0x180014), 32, 0⟩

/-- PAIR_LANE_DUP.COUNT [31:0], RC (R331). -/
def PAIR_LANE_DUP_COUNT (n : Nat) : Fld := ⟨8 * (0x400000 * (n + 1) + 0x180018), 32, 0⟩

/-- PAIR_LANE_NAK.COUNT [31:0], RC (R331). -/
def PAIR_LANE_NAK_COUNT (n : Nat) : Fld := ⟨8 * (0x400000 * (n + 1) + 0x18001c), 32, 0⟩

/-- PAIR_LANE_AUTH_FAIL.COUNT [31:0], RCS (R331). -/
def PAIR_LANE_AUTH_FAIL_COUNT (n : Nat) : Fld := ⟨8 * (0x400000 * (n + 1) + 0x180020), 32, 0⟩

/-- PAIR_LANE_CRC_ERR.COUNT [31:0], RCS (R331). -/
def PAIR_LANE_CRC_ERR_COUNT (n : Nat) : Fld := ⟨8 * (0x400000 * (n + 1) + 0x180024), 32, 0⟩

/-- PAIR_LANE_LATE.COUNT [31:0], RC (R331). -/
def PAIR_LANE_LATE_COUNT (n : Nat) : Fld := ⟨8 * (0x400000 * (n + 1) + 0x180028), 32, 0⟩

/-- PAIR_LANE_ENQ_REFUSED.COUNT [31:0], RC (R331). -/
def PAIR_LANE_ENQ_REFUSED_COUNT (n : Nat) : Fld := ⟨8 * (0x400000 * (n + 1) + 0x18002c), 32, 0⟩

/-- PAIR_LANE_KEY.KEY_ID [15:0], RO (R331). -/
def PAIR_LANE_KEY_KEY_ID (n : Nat) : Fld := ⟨8 * (0x400000 * (n + 1) + 0x180030), 16, 0⟩

/-- PAIR_LANE_KEY_FRAMES (64-bit pair) [63:0], RO (R331). -/
def PAIR_LANE_KEY_FRAMES (n : Nat) : Fld := ⟨8 * (0x400000 * (n + 1) + 0x180034), 64, 0⟩

/-- PAIR_LANE_TX_BYTES (64-bit pair) [63:0], RO (R331). -/
def PAIR_LANE_TX_BYTES (n : Nat) : Fld := ⟨8 * (0x400000 * (n + 1) + 0x180040), 64, 0⟩

/-- PAIR_LANE_RX_BYTES (64-bit pair) [63:0], RO (R331). -/
def PAIR_LANE_RX_BYTES (n : Nat) : Fld := ⟨8 * (0x400000 * (n + 1) + 0x180048), 64, 0⟩

/-- PAIR_LANE_BUSY.LOAD [9:0], RO (R331). -/
def PAIR_LANE_BUSY_LOAD (n : Nat) : Fld := ⟨8 * (0x400000 * (n + 1) + 0x180050), 10, 0⟩

/-- PAIR_LANE_GROUPS_HELD.COUNT [15:0], RO (R331). -/
def PAIR_LANE_GROUPS_HELD_COUNT (n : Nat) : Fld := ⟨8 * (0x400000 * (n + 1) + 0x180054), 16, 0⟩

/-- RATE_CTRL.ENABLE [0:0], RWS (R351). -/
def RATE_CTRL_ENABLE (n : Nat) : Fld := ⟨8 * (0x400000 * (n + 1) + 0x1a0000), 1, 1⟩

/-- RATE_STATUS.RUNNING [0:0], RO (R351). -/
def RATE_STATUS_RUNNING (n : Nat) : Fld := ⟨8 * (0x400000 * (n + 1) + 0x1a0004), 1, 0⟩

/-- RATE_STATUS.OVERCOMMIT [1:1], RO (R351). -/
def RATE_STATUS_OVERCOMMIT (n : Nat) : Fld := ⟨8 * (0x400000 * (n + 1) + 0x1a0004) + 1, 1, 0⟩

/-- RATE_STATUS.BG_FORCED [2:2], RO (R351). -/
def RATE_STATUS_BG_FORCED (n : Nat) : Fld := ⟨8 * (0x400000 * (n + 1) + 0x1a0004) + 2, 1, 0⟩

/-- RATE_STATUS.FROZEN [3:3], RO (R351). -/
def RATE_STATUS_FROZEN (n : Nat) : Fld := ⟨8 * (0x400000 * (n + 1) + 0x1a0004) + 3, 1, 0⟩

/-- RATE_CAPACITY.CYCLES [20:0], RO (R351). -/
def RATE_CAPACITY_CYCLES (n : Nat) : Fld := ⟨8 * (0x400000 * (n + 1) + 0x1a0008), 21, 141000⟩

/-- RATE_COST.CYCLES [20:0], RO (R351). -/
def RATE_COST_CYCLES (n : Nat) : Fld := ⟨8 * (0x400000 * (n + 1) + 0x1a000c), 21, 0⟩

/-- RATE_LAST_END.TICK [19:0], RO (R351). -/
def RATE_LAST_END_TICK (n : Nat) : Fld := ⟨8 * (0x400000 * (n + 1) + 0x1a0010), 20, 0⟩

/-- RATE_MISSES.COUNT [31:0], RCS (R351). -/
def RATE_MISSES_COUNT (n : Nat) : Fld := ⟨8 * (0x400000 * (n + 1) + 0x1a0014), 32, 0⟩

/-- RATE_FIRST_MISS.INDEX [11:0], RO (R351). -/
def RATE_FIRST_MISS_INDEX (n : Nat) : Fld := ⟨8 * (0x400000 * (n + 1) + 0x1a0018), 12, 0⟩

/-- RATE_FIRST_MISS.VALID [12:12], RO (R351). -/
def RATE_FIRST_MISS_VALID (n : Nat) : Fld := ⟨8 * (0x400000 * (n + 1) + 0x1a0018) + 12, 1, 0⟩

/-- RATE_LOOPS_ENABLED.COUNT [12:0], RO (R351). -/
def RATE_LOOPS_ENABLED_COUNT (n : Nat) : Fld := ⟨8 * (0x400000 * (n + 1) + 0x1a001c), 13, 0⟩

/-- RATE_BG_WEIGHT.GC [7:0], RWS (R351). -/
def RATE_BG_WEIGHT_GC (n : Nat) : Fld := ⟨8 * (0x400000 * (n + 1) + 0x1a0020), 8, 8⟩

/-- RATE_BG_WEIGHT.REBUILD [15:8], RWS (R351). -/
def RATE_BG_WEIGHT_REBUILD (n : Nat) : Fld := ⟨8 * (0x400000 * (n + 1) + 0x1a0020) + 8, 8, 8⟩

/-- RATE_BG_WEIGHT.RESHAPE [23:16], RWS (R351). -/
def RATE_BG_WEIGHT_RESHAPE (n : Nat) : Fld := ⟨8 * (0x400000 * (n + 1) + 0x1a0020) + 16, 8, 4⟩

/-- RATE_BG_WEIGHT.SCRUB [31:24], RWS (R351). -/
def RATE_BG_WEIGHT_SCRUB (n : Nat) : Fld := ⟨8 * (0x400000 * (n + 1) + 0x1a0020) + 24, 8, 2⟩

/-- RATE_BG_CTRL.SWEEP [7:0], RWS (R351). -/
def RATE_BG_CTRL_SWEEP (n : Nat) : Fld := ⟨8 * (0x400000 * (n + 1) + 0x1a0024), 8, 2⟩

/-- RATE_BG_CTRL.URGENT_PCT [14:8], RWS (R351). -/
def RATE_BG_CTRL_URGENT_PCT (n : Nat) : Fld := ⟨8 * (0x400000 * (n + 1) + 0x1a0024) + 8, 7, 75⟩

/-- RATE_BG_CTRL.FORCE [27:16], RWS (R351). -/
def RATE_BG_CTRL_FORCE (n : Nat) : Fld := ⟨8 * (0x400000 * (n + 1) + 0x1a0024) + 16, 12, 4095⟩

/-- RATE_HIST_OVER.COUNT [31:0], RC (R351). -/
def RATE_HIST_OVER_COUNT (n : Nat) : Fld := ⟨8 * (0x400000 * (n + 1) + 0x1a0028), 32, 0⟩

/-- RATE_BG_GRANTED.TOKENS [23:0], RO (R351). -/
def RATE_BG_GRANTED_TOKENS (n i : Nat) : Fld := ⟨8 * (0x400000 * (n + 1) + 0x1a0040 + 4 * i), 24, 0⟩

/-- RATE_BYP_NOMINAL.TOKENS [23:0], RWS (R351). -/
def RATE_BYP_NOMINAL_TOKENS (n : Nat) : Fld := ⟨8 * (0x400000 * (n + 1) + 0x1a0080), 24, 4096⟩

/-- RATE_BYP_DEPTH.TOKENS [15:0], RWS (R351). -/
def RATE_BYP_DEPTH_TOKENS (n : Nat) : Fld := ⟨8 * (0x400000 * (n + 1) + 0x1a0084), 16, 256⟩

/-- RATE_BYP_TOKENS.COUNT [31:0], RO (R351). -/
def RATE_BYP_TOKENS_COUNT (n : Nat) : Fld := ⟨8 * (0x400000 * (n + 1) + 0x1a0088), 32, 65536⟩

/-- RATE_BG_NOMINAL.TOKENS [23:0], RWS (R351). -/
def RATE_BG_NOMINAL_TOKENS (n : Nat) : Fld := ⟨8 * (0x400000 * (n + 1) + 0x1a0090), 24, 65536⟩

/-- RATE_BG_DEPTH.TOKENS [15:0], RWS (R351). -/
def RATE_BG_DEPTH_TOKENS (n : Nat) : Fld := ⟨8 * (0x400000 * (n + 1) + 0x1a0094), 16, 2048⟩

/-- RATE_BG_TOKENS.COUNT [31:0], RO (R351). -/
def RATE_BG_TOKENS_COUNT (n : Nat) : Fld := ⟨8 * (0x400000 * (n + 1) + 0x1a0098), 32, 524288⟩

/-- RATE_LOOP_SELECT.INDEX [11:0], RW (R351). -/
def RATE_LOOP_SELECT_INDEX (n : Nat) : Fld := ⟨8 * (0x400000 * (n + 1) + 0x1a0100), 12, 0⟩

/-- RATE_LOOP_CFG.ENABLE [0:0], RO (R351). -/
def RATE_LOOP_CFG_ENABLE (n : Nat) : Fld := ⟨8 * (0x400000 * (n + 1) + 0x1a0104), 1, 0⟩

/-- RATE_LOOP_CFG.TARGET [2:1], RO (R351). -/
def RATE_LOOP_CFG_TARGET (n : Nat) : Fld := ⟨8 * (0x400000 * (n + 1) + 0x1a0104) + 1, 2, 0⟩

/-- RATE_LOOP_CFG.SECTIONS [4:3], RO (R351). -/
def RATE_LOOP_CFG_SECTIONS (n : Nat) : Fld := ⟨8 * (0x400000 * (n + 1) + 0x1a0104) + 3, 2, 0⟩

/-- RATE_LOOP_CFG.INPUT_OP [5:5], RO (R351). -/
def RATE_LOOP_CFG_INPUT_OP (n : Nat) : Fld := ⟨8 * (0x400000 * (n + 1) + 0x1a0104) + 5, 1, 0⟩

/-- RATE_LOOP_CFG.UNLIMITED [6:6], RO (R351). -/
def RATE_LOOP_CFG_UNLIMITED (n : Nat) : Fld := ⟨8 * (0x400000 * (n + 1) + 0x1a0104) + 6, 1, 1⟩

/-- RATE_LOOP_CFG.INPUT [19:8], RO (R351). -/
def RATE_LOOP_CFG_INPUT (n : Nat) : Fld := ⟨8 * (0x400000 * (n + 1) + 0x1a0104) + 8, 12, 0⟩

/-- RATE_LOOP_QUANT.QUANT [15:0], RO (R351). -/
def RATE_LOOP_QUANT_QUANT (n : Nat) : Fld := ⟨8 * (0x400000 * (n + 1) + 0x1a0108), 16, 64881⟩

/-- RATE_LOOP_QUANT.DECAY [19:16], RO (R351). -/
def RATE_LOOP_QUANT_DECAY (n : Nat) : Fld := ⟨8 * (0x400000 * (n + 1) + 0x1a0108) + 16, 4, 10⟩

/-- RATE_LOOP_QUANT.MIN_COUNT [31:20], RO (R351). -/
def RATE_LOOP_QUANT_MIN_COUNT (n : Nat) : Fld := ⟨8 * (0x400000 * (n + 1) + 0x1a0108) + 20, 12, 64⟩

/-- RATE_LOOP_SP.SP [19:0], RO (R351). -/
def RATE_LOOP_SP_SP (n : Nat) : Fld := ⟨8 * (0x400000 * (n + 1) + 0x1a010c), 20, 0⟩

/-- RATE_LOOP_SLOPE.SLOPE [19:0], RO (R351). -/
def RATE_LOOP_SLOPE_SLOPE (n : Nat) : Fld := ⟨8 * (0x400000 * (n + 1) + 0x1a0110), 20, 0⟩

/-- RATE_LOOP_SP_EFF.SP [19:0], RO (R351). -/
def RATE_LOOP_SP_EFF_SP (n : Nat) : Fld := ⟨8 * (0x400000 * (n + 1) + 0x1a0114), 20, 0⟩

/-- RATE_LOOP_MEASURED.Q [19:0], RO (R351). -/
def RATE_LOOP_MEASURED_Q (n : Nat) : Fld := ⟨8 * (0x400000 * (n + 1) + 0x1a0118), 20, 0⟩

/-- RATE_LOOP_MEASURED.IDLE [20:20], RO (R351). -/
def RATE_LOOP_MEASURED_IDLE (n : Nat) : Fld := ⟨8 * (0x400000 * (n + 1) + 0x1a0118) + 20, 1, 0⟩

/-- RATE_LOOP_OUT.RATE [11:0], RO (R351). -/
def RATE_LOOP_OUT_RATE (n : Nat) : Fld := ⟨8 * (0x400000 * (n + 1) + 0x1a011c), 12, 1024⟩

/-- RATE_LOOP_OUT.LIMIT [12:12], RO (R351). -/
def RATE_LOOP_OUT_LIMIT (n : Nat) : Fld := ⟨8 * (0x400000 * (n + 1) + 0x1a011c) + 12, 1, 0⟩

/-- RATE_LOOP_LIMITS.MIN [11:0], RO (R351). -/
def RATE_LOOP_LIMITS_MIN (n : Nat) : Fld := ⟨8 * (0x400000 * (n + 1) + 0x1a0120), 12, 0⟩

/-- RATE_LOOP_LIMITS.MAX [27:16], RO (R351). -/
def RATE_LOOP_LIMITS_MAX (n : Nat) : Fld := ⟨8 * (0x400000 * (n + 1) + 0x1a0120) + 16, 12, 4095⟩

/-- RATE_LOOP_FLAGS.ACC_SAT [0:0], W1CS (R351). -/
def RATE_LOOP_FLAGS_ACC_SAT (n : Nat) : Fld := ⟨8 * (0x400000 * (n + 1) + 0x1a0124), 1, 0⟩

/-- RATE_LOOP_FLAGS.OUT_SAT [1:1], W1CS (R351). -/
def RATE_LOOP_FLAGS_OUT_SAT (n : Nat) : Fld := ⟨8 * (0x400000 * (n + 1) + 0x1a0124) + 1, 1, 0⟩

/-- RATE_LOOP_FLAGS.MISS [2:2], W1CS (R351). -/
def RATE_LOOP_FLAGS_MISS (n : Nat) : Fld := ⟨8 * (0x400000 * (n + 1) + 0x1a0124) + 2, 1, 0⟩

/-- RATE_LOOP_MISSES.COUNT [31:0], RCS (R351). -/
def RATE_LOOP_MISSES_COUNT (n : Nat) : Fld := ⟨8 * (0x400000 * (n + 1) + 0x1a0128), 32, 0⟩

/-- RATE_BKT_NOMINAL.TOKENS [23:0], RO (R351). -/
def RATE_BKT_NOMINAL_TOKENS (n : Nat) : Fld := ⟨8 * (0x400000 * (n + 1) + 0x1a012c), 24, 0⟩

/-- RATE_BKT_DEPTH.TOKENS [15:0], RO (R351). -/
def RATE_BKT_DEPTH_TOKENS (n : Nat) : Fld := ⟨8 * (0x400000 * (n + 1) + 0x1a0130), 16, 0⟩

/-- RATE_BKT_TOKENS.COUNT [31:0], RO (R351). -/
def RATE_BKT_TOKENS_COUNT (n : Nat) : Fld := ⟨8 * (0x400000 * (n + 1) + 0x1a0134), 32, 0⟩

/-- RATE_LOOP_COEF.COEF [19:0], RO (R351). -/
def RATE_LOOP_COEF_COEF (n i j : Nat) : Fld := ⟨8 * (0x400000 * (n + 1) + 0x1a0140 + 20 * i + 4 * j), 20, 0⟩

/-- RATE_HIST.COUNT [31:0], RO (R351). -/
def RATE_HIST_COUNT (n i : Nat) : Fld := ⟨8 * (0x400000 * (n + 1) + 0x1a0200 + 4 * i), 32, 0⟩

/-- RATE_FLAGGED.LOOPS [31:0], RO (R351). -/
def RATE_FLAGGED_LOOPS (n i : Nat) : Fld := ⟨8 * (0x400000 * (n + 1) + 0x1a0400 + 4 * i), 32, 0⟩

/-- SNP_CTRL.REPL_EN [0:0], RWS (R374). -/
def SNP_CTRL_REPL_EN : Fld := ⟨4718592, 1, 1⟩

/-- SNP_EVENTS.TAKEN [0:0], W1CS (R374). -/
def SNP_EVENTS_TAKEN : Fld := ⟨4718624, 1, 0⟩

/-- SNP_EVENTS.SKEWED [1:1], W1CS (R374). -/
def SNP_EVENTS_SKEWED : Fld := ⟨4718625, 1, 0⟩

/-- SNP_EVENTS.LATE [2:2], W1CS (R374). -/
def SNP_EVENTS_LATE : Fld := ⟨4718626, 1, 0⟩

/-- SNP_EVENTS.EPOCH_DONE [3:3], W1CS (R374). -/
def SNP_EVENTS_EPOCH_DONE : Fld := ⟨4718627, 1, 0⟩

/-- SNP_EVENTS.LINK_WAITING [4:4], W1CS (R374). -/
def SNP_EVENTS_LINK_WAITING : Fld := ⟨4718628, 1, 0⟩

/-- SNP_EVENTS.LINK_FAILED [5:5], W1CS (R374). -/
def SNP_EVENTS_LINK_FAILED : Fld := ⟨4718629, 1, 0⟩

/-- SNP_EVENTS.REFUSED [6:6], W1CS (R374). -/
def SNP_EVENTS_REFUSED : Fld := ⟨4718630, 1, 0⟩

/-- SNP_EVENT_EN.ENABLE [6:0], RWS (R374). -/
def SNP_EVENT_EN_ENABLE : Fld := ⟨4718656, 7, 126⟩

/-- SNP_COUNT.IMAGES [20:0], RO (R374). -/
def SNP_COUNT_IMAGES : Fld := ⟨4718688, 21, 0⟩

/-- SNP_PENDING.COUNT [16:0], RO (R374). -/
def SNP_PENDING_COUNT : Fld := ⟨4718720, 17, 0⟩

/-- SNP_NEXT (64-bit pair) [63:0], RO (R374). -/
def SNP_NEXT : Fld := ⟨4718752, 64, 0⟩

/-- SNP_COW_PAGES.COUNT [31:0], RC (R374). -/
def SNP_COW_PAGES_COUNT : Fld := ⟨4718816, 32, 0⟩

/-- SNP_SHARED_PAGES.COUNT [31:0], RO (R374). -/
def SNP_SHARED_PAGES_COUNT : Fld := ⟨4718848, 32, 0⟩

/-- SNP_DELETE_BACKLOG.COUNT [20:0], RO (R374). -/
def SNP_DELETE_BACKLOG_COUNT : Fld := ⟨4718880, 21, 0⟩

/-- SNP_SKEWED.COUNT [31:0], RCS (R374). -/
def SNP_SKEWED_COUNT : Fld := ⟨4718912, 32, 0⟩

/-- SNP_LINK_SELECT.LINK [7:0], RW (R374). -/
def SNP_LINK_SELECT_LINK : Fld := ⟨4720640, 8, 0⟩

/-- SNP_LINK_STATE.STATE [2:0], RO (R374). -/
def SNP_LINK_STATE_STATE : Fld := ⟨4720672, 3, 0⟩

/-- SNP_LINK_STATE.TARGET [3:3], RO (R374). -/
def SNP_LINK_STATE_TARGET : Fld := ⟨4720675, 1, 0⟩

/-- SNP_LINK_STATE.PART1 [4:4], RO (R374). -/
def SNP_LINK_STATE_PART1 : Fld := ⟨4720676, 1, 0⟩

/-- SNP_LINK_STATE.PART0 [5:5], RO (R374). -/
def SNP_LINK_STATE_PART0 : Fld := ⟨4720677, 1, 0⟩

/-- SNP_LINK_STATE.GROUP [27:16], RO (R374). -/
def SNP_LINK_STATE_GROUP : Fld := ⟨4720688, 12, 0⟩

/-- SNP_LINK_EPOCH.EPOCH [31:0], RO (R374). -/
def SNP_LINK_EPOCH_EPOCH : Fld := ⟨4720704, 32, 0⟩

/-- SNP_LINK_BATCH.BATCH [31:0], RO (R374). -/
def SNP_LINK_BATCH_BATCH : Fld := ⟨4720736, 32, 0⟩

/-- SNP_LINK_LAG.STROKES [31:0], RO (R374). -/
def SNP_LINK_LAG_STROKES : Fld := ⟨4720768, 32, 0⟩

/-- SNP_LINK_TIMEOUT.STROKES [31:0], RO (R374). -/
def SNP_LINK_TIMEOUT_STROKES : Fld := ⟨4720800, 32, 20000⟩

/-- SNP_LINK_OFFERED.COUNT [31:0], RC (R374). -/
def SNP_LINK_OFFERED_COUNT : Fld := ⟨4720832, 32, 0⟩

/-- SNP_LINK_SENT.COUNT [31:0], RC (R374). -/
def SNP_LINK_SENT_COUNT : Fld := ⟨4720864, 32, 0⟩

/-- SNP_LINK_BYTES (64-bit pair) [63:0], RO (R374). -/
def SNP_LINK_BYTES : Fld := ⟨4720896, 64, 0⟩

/-- SNP_LINK_SKIPPED.COUNT [31:0], RC (R374). -/
def SNP_LINK_SKIPPED_COUNT : Fld := ⟨4720960, 32, 0⟩

/-- SNP_LINK_REFUSED.COUNT [31:0], RCS (R374). -/
def SNP_LINK_REFUSED_COUNT : Fld := ⟨4720992, 32, 0⟩

/-- SNP_LINK_RESUMES.COUNT [31:0], RCS (R374). -/
def SNP_LINK_RESUMES_COUNT : Fld := ⟨4721024, 32, 0⟩

/-- KEY_STATUS.READY [0:0], RO (R405). -/
def KEY_STATUS_READY : Fld := ⟨1572864, 1, 0⟩

/-- KEY_STATUS.SELFTEST_FAIL [1:1], RO (R405). -/
def KEY_STATUS_SELFTEST_FAIL : Fld := ⟨1572865, 1, 0⟩

/-- KEY_STATUS.OWNER_ENROLLED [2:2], RO (R405). -/
def KEY_STATUS_OWNER_ENROLLED : Fld := ⟨1572866, 1, 0⟩

/-- KEY_STATUS.PAIR_KEK [3:3], RO (R405). -/
def KEY_STATUS_PAIR_KEK : Fld := ⟨1572867, 1, 0⟩

/-- KEY_STATUS.ROOT_REVOKED [7:4], RO (R405). -/
def KEY_STATUS_ROOT_REVOKED : Fld := ⟨1572868, 4, 0⟩

/-- KEY_EVENTS.ROLLED [0:0], W1CS (R405). -/
def KEY_EVENTS_ROLLED : Fld := ⟨1572896, 1, 0⟩

/-- KEY_EVENTS.GEN_EXHAUSTED [1:1], W1CS (R405). -/
def KEY_EVENTS_GEN_EXHAUSTED : Fld := ⟨1572897, 1, 0⟩

/-- KEY_EVENTS.ERASED [2:2], W1CS (R405). -/
def KEY_EVENTS_ERASED : Fld := ⟨1572898, 1, 0⟩

/-- KEY_EVENTS.ERASE_PEER_PENDING [3:3], W1CS (R405). -/
def KEY_EVENTS_ERASE_PEER_PENDING : Fld := ⟨1572899, 1, 0⟩

/-- KEY_EVENTS.SPDM_SESSION [4:4], W1CS (R405). -/
def KEY_EVENTS_SPDM_SESSION : Fld := ⟨1572900, 1, 0⟩

/-- KEY_EVENTS.AUTH_FAIL [5:5], W1CS (R405). -/
def KEY_EVENTS_AUTH_FAIL : Fld := ⟨1572901, 1, 0⟩

/-- KEY_EVENTS.SELFTEST_FAIL [6:6], W1CS (R405). -/
def KEY_EVENTS_SELFTEST_FAIL : Fld := ⟨1572902, 1, 0⟩

/-- KEY_EVENT_EN.ENABLE [6:0], RWS (R405). -/
def KEY_EVENT_EN_ENABLE : Fld := ⟨1572928, 7, 111⟩

/-- KEY_SEAL_LIMIT.LOG2 [5:0], RWS (R405). -/
def KEY_SEAL_LIMIT_LOG2 : Fld := ⟨1572960, 6, 36⟩

/-- KEY_SVN_MIN.SVN [15:0], RO (R405). -/
def KEY_SVN_MIN_SVN : Fld := ⟨1572992, 16, 0⟩

/-- KEY_DOMAINS.COUNT [13:0], RO (R405). -/
def KEY_DOMAINS_COUNT : Fld := ⟨1573024, 14, 0⟩

/-- KEY_ROLLS.COUNT [31:0], RCS (R405). -/
def KEY_ROLLS_COUNT : Fld := ⟨1573056, 32, 0⟩

/-- KEY_ROLL_REFUSED.COUNT [31:0], RCS (R405). -/
def KEY_ROLL_REFUSED_COUNT : Fld := ⟨1573088, 32, 0⟩

/-- KEY_ERASES.COUNT [31:0], RCS (R405). -/
def KEY_ERASES_COUNT : Fld := ⟨1573120, 32, 0⟩

/-- KEY_SPDM_SESSIONS.COUNT [2:0], RO (R405). -/
def KEY_SPDM_SESSIONS_COUNT : Fld := ⟨1573152, 3, 0⟩

/-- KEY_OWNER_HASH.HASH [31:0], RO (R405). -/
def KEY_OWNER_HASH_HASH (i : Nat) : Fld := ⟨8 * (0x30040 + 4 * i), 32, 0⟩

/-- KEY_DOMAIN_SELECT.DOMAIN [12:0], RW (R405). -/
def KEY_DOMAIN_SELECT_DOMAIN : Fld := ⟨1574912, 13, 0⟩

/-- KEY_DOMAIN_STATE.VALID [0:0], RO (R405). -/
def KEY_DOMAIN_STATE_VALID : Fld := ⟨1574944, 1, 0⟩

/-- KEY_DOMAIN_STATE.SCOPE [1:1], RO (R405). -/
def KEY_DOMAIN_STATE_SCOPE : Fld := ⟨1574945, 1, 0⟩

/-- KEY_DOMAIN_STATE.BLOCKED [2:2], RO (R405). -/
def KEY_DOMAIN_STATE_BLOCKED : Fld := ⟨1574946, 1, 0⟩

/-- KEY_DOMAIN_STATE.SWEEP [3:3], RO (R405). -/
def KEY_DOMAIN_STATE_SWEEP : Fld := ⟨1574947, 1, 0⟩

/-- KEY_DOMAIN_STATE.ERASE_PENDING [4:4], RO (R405). -/
def KEY_DOMAIN_STATE_ERASE_PENDING : Fld := ⟨1574948, 1, 0⟩

/-- KEY_DOMAIN_STATE.SHARE_FK [5:5], RO (R405). -/
def KEY_DOMAIN_STATE_SHARE_FK : Fld := ⟨1574949, 1, 0⟩

/-- KEY_DOMAIN_STATE.CUR_GEN [31:16], RO (R405). -/
def KEY_DOMAIN_STATE_CUR_GEN : Fld := ⟨1574960, 16, 0⟩

/-- KEY_DOMAIN_LIVE_GENS.COUNT [16:0], RO (R405). -/
def KEY_DOMAIN_LIVE_GENS_COUNT : Fld := ⟨1574976, 17, 0⟩

/-- KEY_DOMAIN_ROLL (64-bit pair) [63:0], RO (R405). -/
def KEY_DOMAIN_ROLL : Fld := ⟨1575008, 64, 0⟩

/-- KEY_DOMAIN_TENANT.TENANT [11:0], RO (R405). -/
def KEY_DOMAIN_TENANT_TENANT : Fld := ⟨1575072, 12, 0⟩

/-- DIG_STATUS.CORES_BUSY [3:0], RO (R406). -/
def DIG_STATUS_CORES_BUSY (n : Nat) : Fld := ⟨8 * (0x400000 * (n + 1) + 0x90000), 4, 0⟩

/-- DIG_STATUS.BOOT_CTX [4:4], RO (R406). -/
def DIG_STATUS_BOOT_CTX (n : Nat) : Fld := ⟨8 * (0x400000 * (n + 1) + 0x90000) + 4, 1, 0⟩

/-- DIG_SWITCHES.COUNT [31:0], RC (R406). -/
def DIG_SWITCHES_COUNT (n : Nat) : Fld := ⟨8 * (0x400000 * (n + 1) + 0x90004), 32, 0⟩

/-- DIG_EARLY_READ.COUNT [31:0], RCS (R406). -/
def DIG_EARLY_READ_COUNT (n : Nat) : Fld := ⟨8 * (0x400000 * (n + 1) + 0x90008), 32, 0⟩

/-- DIG_CMP_EQUAL.COUNT [31:0], RC (R406). -/
def DIG_CMP_EQUAL_COUNT (n : Nat) : Fld := ⟨8 * (0x400000 * (n + 1) + 0x9000c), 32, 0⟩

/-- DIG_CMP_NOT_EQUAL.COUNT [31:0], RCS (R406). -/
def DIG_CMP_NOT_EQUAL_COUNT (n : Nat) : Fld := ⟨8 * (0x400000 * (n + 1) + 0x90010), 32, 0⟩

/-- DIG_WAIT_CYCLES.COUNT [31:0], RC (R406). -/
def DIG_WAIT_CYCLES_COUNT (n : Nat) : Fld := ⟨8 * (0x400000 * (n + 1) + 0x90014), 32, 0⟩

/-- DIG_BYTES (64-bit pair) [63:0], RO (R406). -/
def DIG_BYTES (n : Nat) : Fld := ⟨8 * (0x400000 * (n + 1) + 0x90018), 64, 0⟩

/-- DIG_CTX_SELECT.CONTEXT [5:0], RW (R406). -/
def DIG_CTX_SELECT_CONTEXT (n : Nat) : Fld := ⟨8 * (0x400000 * (n + 1) + 0x90100), 6, 0⟩

/-- DIG_CTX_STATE.STATE [1:0], RO (R406). -/
def DIG_CTX_STATE_STATE (n : Nat) : Fld := ⟨8 * (0x400000 * (n + 1) + 0x90104), 2, 0⟩

/-- DIG_CTX_STATE.ALG [3:2], RO (R406). -/
def DIG_CTX_STATE_ALG (n : Nat) : Fld := ⟨8 * (0x400000 * (n + 1) + 0x90104) + 2, 2, 0⟩

/-- DIG_CTX_STATE.NO_PREEMPT [4:4], RO (R406). -/
def DIG_CTX_STATE_NO_PREEMPT (n : Nat) : Fld := ⟨8 * (0x400000 * (n + 1) + 0x90104) + 4, 1, 0⟩

/-- DIG_CTX_STATE.COMPARE_ONLY [5:5], RO (R406). -/
def DIG_CTX_STATE_COMPARE_ONLY (n : Nat) : Fld := ⟨8 * (0x400000 * (n + 1) + 0x90104) + 5, 1, 0⟩

/-- DIG_CTX_STATE.EQUAL [6:6], RO (R406). -/
def DIG_CTX_STATE_EQUAL (n : Nat) : Fld := ⟨8 * (0x400000 * (n + 1) + 0x90104) + 6, 1, 0⟩

/-- DIG_CTX_STATE.ERROR [7:7], RO (R406). -/
def DIG_CTX_STATE_ERROR (n : Nat) : Fld := ⟨8 * (0x400000 * (n + 1) + 0x90104) + 7, 1, 0⟩

/-- DIG_CTX_STATE.SOURCE [9:8], RO (R406). -/
def DIG_CTX_STATE_SOURCE (n : Nat) : Fld := ⟨8 * (0x400000 * (n + 1) + 0x90104) + 8, 2, 0⟩

/-- DIG_CTX_STATE.HOST_READ [10:10], RO (R406). -/
def DIG_CTX_STATE_HOST_READ (n : Nat) : Fld := ⟨8 * (0x400000 * (n + 1) + 0x90104) + 10, 1, 0⟩

/-- DIG_CTX_COUNT (64-bit pair) [63:0], RO (R406). -/
def DIG_CTX_COUNT (n : Nat) : Fld := ⟨8 * (0x400000 * (n + 1) + 0x90108), 64, 0⟩

/-- DIG_RESULT.WORD [31:0], RO (R406). -/
def DIG_RESULT_WORD (n i : Nat) : Fld := ⟨8 * (0x400000 * (n + 1) + 0x90140 + 4 * i), 32, 0⟩

/-- CIP_STATUS.LANES_BUSY [15:0], RO (R407). -/
def CIP_STATUS_LANES_BUSY (n : Nat) : Fld := ⟨8 * (0x400000 * (n + 1) + 0xb0000), 16, 0⟩

/-- CIP_STATUS.SELFTEST_OK [16:16], RO (R407). -/
def CIP_STATUS_SELFTEST_OK (n : Nat) : Fld := ⟨8 * (0x400000 * (n + 1) + 0xb0000) + 16, 1, 0⟩

/-- CIP_SEALS (64-bit pair) [63:0], RO (R407). -/
def CIP_SEALS (n : Nat) : Fld := ⟨8 * (0x400000 * (n + 1) + 0xb0008), 64, 0⟩

/-- CIP_OPENS (64-bit pair) [63:0], RO (R407). -/
def CIP_OPENS (n : Nat) : Fld := ⟨8 * (0x400000 * (n + 1) + 0xb0010), 64, 0⟩

/-- CIP_TAG_FAIL.COUNT [31:0], RCS (R407). -/
def CIP_TAG_FAIL_COUNT (n : Nat) : Fld := ⟨8 * (0x400000 * (n + 1) + 0xb0018), 32, 0⟩

/-- CIP_SLOT_MISS.COUNT [31:0], RC (R407). -/
def CIP_SLOT_MISS_COUNT (n : Nat) : Fld := ⟨8 * (0x400000 * (n + 1) + 0xb001c), 32, 0⟩

/-- CIP_SLOTS_USED.COUNT [14:0], RO (R407). -/
def CIP_SLOTS_USED_COUNT (n : Nat) : Fld := ⟨8 * (0x400000 * (n + 1) + 0xb0020), 15, 0⟩

/-- CIP_RESERVE_WRITES.COUNT [31:0], RC (R407). -/
def CIP_RESERVE_WRITES_COUNT (n : Nat) : Fld := ⟨8 * (0x400000 * (n + 1) + 0xb0024), 32, 0⟩

/-- CIP_RESERVE_STALL.COUNT [31:0], RC (R407). -/
def CIP_RESERVE_STALL_COUNT (n : Nat) : Fld := ⟨8 * (0x400000 * (n + 1) + 0xb0028), 32, 0⟩

/-- CIP_SHARE_STALL.COUNT [31:0], RC (R407). -/
def CIP_SHARE_STALL_COUNT (n : Nat) : Fld := ⟨8 * (0x400000 * (n + 1) + 0xb002c), 32, 0⟩

/-- CIP_RING_PTR.SLOT [14:0], RO (R407). -/
def CIP_RING_PTR_SLOT (n : Nat) : Fld := ⟨8 * (0x400000 * (n + 1) + 0xb0030), 15, 0⟩

/-- CIP_RING_PINNED.COUNT [14:0], RO (R407). -/
def CIP_RING_PINNED_COUNT (n : Nat) : Fld := ⟨8 * (0x400000 * (n + 1) + 0xb0034), 15, 0⟩

/-- MBX_STATUS.READY [0:0], RO (R433). -/
def MBX_STATUS_READY : Fld := ⟨2097152, 1, 0⟩

/-- MBX_STATUS.SERVICE [2:1], RO (R433). -/
def MBX_STATUS_SERVICE : Fld := ⟨2097153, 2, 1⟩

/-- MBX_STATUS.ACTIVATING [3:3], RO (R433). -/
def MBX_STATUS_ACTIVATING : Fld := ⟨2097155, 1, 0⟩

/-- MBX_DOORBELL.SLOT [5:0], WO (R433). -/
def MBX_DOORBELL_SLOT : Fld := ⟨2097184, 6, 0⟩

/-- MBX_ABORT.SLOT [5:0], WO (R433). -/
def MBX_ABORT_SLOT : Fld := ⟨2097216, 6, 0⟩

/-- MBX_DONE_LO.SLOTS [31:0], W1C (R433). -/
def MBX_DONE_LO_SLOTS : Fld := ⟨2097280, 32, 0⟩

/-- MBX_DONE_HI.SLOTS [31:0], W1C (R433). -/
def MBX_DONE_HI_SLOTS : Fld := ⟨2097312, 32, 0⟩

/-- MBX_BUSY_LO.SLOTS [31:0], RO (R433). -/
def MBX_BUSY_LO_SLOTS : Fld := ⟨2097344, 32, 0⟩

/-- MBX_BUSY_HI.SLOTS [31:0], RO (R433). -/
def MBX_BUSY_HI_SLOTS : Fld := ⟨2097376, 32, 0⟩

/-- MBX_LANE_MAP.LANE0 [2:0], RWS (R433). -/
def MBX_LANE_MAP_LANE0 (i : Nat) : Fld := ⟨8 * (0x40020 + 4 * i), 3, i⟩

/-- MBX_LANE_MAP.LANE1 [6:4], RWS (R433). -/
def MBX_LANE_MAP_LANE1 (i : Nat) : Fld := ⟨8 * (0x40020 + 4 * i) + 4, 3, i⟩

/-- MBX_LANE_MAP.LANE2 [10:8], RWS (R433). -/
def MBX_LANE_MAP_LANE2 (i : Nat) : Fld := ⟨8 * (0x40020 + 4 * i) + 8, 3, i⟩

/-- MBX_LANE_MAP.LANE3 [14:12], RWS (R433). -/
def MBX_LANE_MAP_LANE3 (i : Nat) : Fld := ⟨8 * (0x40020 + 4 * i) + 12, 3, i⟩

/-- MBX_LANE_MAP.LANE4 [18:16], RWS (R433). -/
def MBX_LANE_MAP_LANE4 (i : Nat) : Fld := ⟨8 * (0x40020 + 4 * i) + 16, 3, i⟩

/-- MBX_LANE_MAP.LANE5 [22:20], RWS (R433). -/
def MBX_LANE_MAP_LANE5 (i : Nat) : Fld := ⟨8 * (0x40020 + 4 * i) + 20, 3, i⟩

/-- MBX_LANE_MAP.LANE6 [26:24], RWS (R433). -/
def MBX_LANE_MAP_LANE6 (i : Nat) : Fld := ⟨8 * (0x40020 + 4 * i) + 24, 3, i⟩

/-- MBX_LANE_MAP.LANE7 [30:28], RWS (R433). -/
def MBX_LANE_MAP_LANE7 (i : Nat) : Fld := ⟨8 * (0x40020 + 4 * i) + 28, 3, i⟩

/-- MBX_EASY_CTRL.HOLD [15:0], RWS (R433). -/
def MBX_EASY_CTRL_HOLD : Fld := ⟨2097664, 16, 2000⟩

/-- MBX_EASY_CTRL.LIMIT [31:16], RWS (R433). -/
def MBX_EASY_CTRL_LIMIT : Fld := ⟨2097680, 16, 6000⟩

/-- MBX_EASY_ACTIVE.COUNT [4:0], RO (R433). -/
def MBX_EASY_ACTIVE_COUNT : Fld := ⟨2097696, 5, 0⟩

/-- MBX_EVENTS.EASY_EXPIRED [0:0], W1CS (R433). -/
def MBX_EVENTS_EASY_EXPIRED : Fld := ⟨2097728, 1, 0⟩

/-- MBX_EVENTS.SWITCHOVER [1:1], W1CS (R433). -/
def MBX_EVENTS_SWITCHOVER : Fld := ⟨2097729, 1, 0⟩

/-- MBX_EVENTS.NO_STANDBY [2:2], W1CS (R433). -/
def MBX_EVENTS_NO_STANDBY : Fld := ⟨2097730, 1, 0⟩

/-- MBX_EVENTS.HANDOVER_FAULT [3:3], W1CS (R433). -/
def MBX_EVENTS_HANDOVER_FAULT : Fld := ⟨2097731, 1, 0⟩

/-- MBX_COX.ACTIVE_SEAT [3:0], RO (R433). -/
def MBX_COX_ACTIVE_SEAT : Fld := ⟨2097760, 4, 0⟩

/-- MBX_COX.STANDBY_READY [4:4], RO (R433). -/
def MBX_COX_STANDBY_READY : Fld := ⟨2097764, 1, 0⟩

/-- MBX_COX.DRILL [5:5], RO (R433). -/
def MBX_COX_DRILL : Fld := ⟨2097765, 1, 0⟩

/-- MBX_LAST_GAP.CYCLES [15:0], RO (R433). -/
def MBX_LAST_GAP_CYCLES : Fld := ⟨2097792, 16, 0⟩

/-- MBX_SWITCHOVERS.COUNT [31:0], RCS (R433). -/
def MBX_SWITCHOVERS_COUNT : Fld := ⟨2097824, 32, 0⟩

/-- MBX_DRILLS.COUNT [31:0], RCS (R433). -/
def MBX_DRILLS_COUNT : Fld := ⟨2097856, 32, 0⟩

/-- MBX_DOORBELL_REFUSED.COUNT [31:0], RC (R433). -/
def MBX_DOORBELL_REFUSED_COUNT : Fld := ⟨2097888, 32, 0⟩

/-- MBX_TIMEOUTS.COUNT [31:0], RC (R433). -/
def MBX_TIMEOUTS_COUNT : Fld := ⟨2097920, 32, 0⟩

/-- MBX_ABORTS.COUNT [31:0], RC (R433). -/
def MBX_ABORTS_COUNT : Fld := ⟨2097952, 32, 0⟩

/-- MBX_HOST_MEM.COUNT [31:0], RC (R433). -/
def MBX_HOST_MEM_COUNT : Fld := ⟨2097984, 32, 0⟩

/-- MBX_RESTARTED.COUNT [31:0], RCS (R433). -/
def MBX_RESTARTED_COUNT : Fld := ⟨2098016, 32, 0⟩

/-- MBX_CMDS (64-bit pair) [63:0], RO (R433). -/
def MBX_CMDS : Fld := ⟨2098048, 64, 0⟩

/-- PCI_RESET_SCOPE.SCOPE [0:0], RWS (R457). -/
def PCI_RESET_SCOPE_SCOPE : Fld := ⟨34359738432, 1, 0⟩

/-- PCI_INTX_STATUS.EVENT [7:0], W1C (R457). -/
def PCI_INTX_STATUS_EVENT : Fld := ⟨34359738464, 8, 0⟩

/-- PCI_INTX_EN.ENABLE [7:0], RW (R457). -/
def PCI_INTX_EN_ENABLE : Fld := ⟨34359738496, 8, 255⟩

/-- PCI_EVENT_VECTOR.VECTOR [10:0], RWS (R457). -/
def PCI_EVENT_VECTOR_VECTOR : Fld := ⟨34359738528, 11, 0⟩

/-- PCI_EVENTS.LINK_DEGRADED [0:0], W1CS (R457). -/
def PCI_EVENTS_LINK_DEGRADED : Fld := ⟨34359738560, 1, 0⟩

/-- PCI_EVENTS.FLR_DONE [1:1], W1CS (R457). -/
def PCI_EVENTS_FLR_DONE : Fld := ⟨34359738561, 1, 0⟩

/-- PCI_EVENTS.FLR_TIMED_OUT [2:2], W1CS (R457). -/
def PCI_EVENTS_FLR_TIMED_OUT : Fld := ⟨34359738562, 1, 0⟩

/-- PCI_EVENTS.POISON_RCVD [3:3], W1CS (R457). -/
def PCI_EVENTS_POISON_RCVD : Fld := ⟨34359738563, 1, 0⟩

/-- PCI_EVENTS.POISON_SENT [4:4], W1CS (R457). -/
def PCI_EVENTS_POISON_SENT : Fld := ⟨34359738564, 1, 0⟩

/-- PCI_EVENTS.FACE_RESET [5:5], W1CS (R457). -/
def PCI_EVENTS_FACE_RESET : Fld := ⟨34359738565, 1, 0⟩

/-- PCI_LINK_STATE.SPEED [2:0], RO (R457). -/
def PCI_LINK_STATE_SPEED : Fld := ⟨34359738592, 3, 0⟩

/-- PCI_LINK_STATE.WIDTH [7:3], RO (R457). -/
def PCI_LINK_STATE_WIDTH : Fld := ⟨34359738595, 5, 0⟩

/-- PCI_LINK_STATE.FLIT [8:8], RO (R457). -/
def PCI_LINK_STATE_FLIT : Fld := ⟨34359738600, 1, 0⟩

/-- PCI_LINK_STATE.PM [10:9], RO (R457). -/
def PCI_LINK_STATE_PM : Fld := ⟨34359738601, 2, 0⟩

/-- PCI_OUTSTANDING.COUNT [9:0], RO (R457). -/
def PCI_OUTSTANDING_COUNT : Fld := ⟨34359738624, 10, 0⟩

/-- PCI_DISCARDED.COUNT [31:0], RCS (R457). -/
def PCI_DISCARDED_COUNT : Fld := ⟨34359738656, 32, 0⟩

/-- PCI_POISON_SENT.COUNT [31:0], RCS (R457). -/
def PCI_POISON_SENT_COUNT : Fld := ⟨34359738688, 32, 0⟩

/-- PCI_POISON_RCVD.COUNT [31:0], RCS (R457). -/
def PCI_POISON_RCVD_COUNT : Fld := ⟨34359738720, 32, 0⟩

/-- PCI_L1_ENTRIES.COUNT [31:0], RC (R457). -/
def PCI_L1_ENTRIES_COUNT : Fld := ⟨34359738752, 32, 0⟩

/-- PCI_FLR_WAIT.MICROSECONDS [31:0], RO (R457). -/
def PCI_FLR_WAIT_MICROSECONDS : Fld := ⟨34359738784, 32, 0⟩

/-- PCI_MSG_HELD.COUNT [31:0], RC (R457). -/
def PCI_MSG_HELD_COUNT : Fld := ⟨34359738816, 32, 0⟩

/-- PKG_BOOT_CTRL.RESTART [0:0], WO (R479). -/
def PKG_BOOT_CTRL_RESTART : Fld := ⟨2048, 1, 0⟩

/-- PKG_BOOT_STATUS.PHASE [3:0], RO (R479). -/
def PKG_BOOT_STATUS_PHASE : Fld := ⟨2080, 4, 0⟩

/-- PKG_BOOT_STATUS.ERROR [15:8], RO (R479). -/
def PKG_BOOT_STATUS_ERROR : Fld := ⟨2088, 8, 0⟩

/-- PKG_BOOT_STATUS.ATTEMPTS [23:16], RO (R479). -/
def PKG_BOOT_STATUS_ATTEMPTS : Fld := ⟨2096, 8, 0⟩

/-- PKG_BOOT_OFFSET.BYTES [26:0], RO (R479). -/
def PKG_BOOT_OFFSET_BYTES : Fld := ⟨2112, 27, 0⟩

/-- PKG_BOOT_VERSION.VERSION [31:0], RO (R479). -/
def PKG_BOOT_VERSION_VERSION : Fld := ⟨2144, 32, 0⟩

/-- PKG_BOOT_SVN.SVN [15:0], RO (R479). -/
def PKG_BOOT_SVN_SVN : Fld := ⟨2176, 16, 0⟩

/-- PKG_BRINGUP.STEP [3:0], RO (R479). -/
def PKG_BRINGUP_STEP : Fld := ⟨2208, 4, 1⟩

/-- PKG_BRINGUP.FAILED_STEP [7:4], RO (R479). -/
def PKG_BRINGUP_FAILED_STEP : Fld := ⟨2212, 4, 0⟩

/-- PKG_BRINGUP.HOLD_OPEN [8:8], RWS (R479). -/
def PKG_BRINGUP_HOLD_OPEN : Fld := ⟨2216, 1, 0⟩

/-- PKG_BRINGUP.RECOVERED [10:9], RO (R479). -/
def PKG_BRINGUP_RECOVERED : Fld := ⟨2217, 2, 0⟩

/-- PKG_BRINGUP_STROKES.STROKES [31:0], RO (R479). -/
def PKG_BRINGUP_STROKES_STROKES : Fld := ⟨2240, 32, 0⟩

/-- PKG_RESET_CAUSE.POWER_ON [0:0], RO (R479). -/
def PKG_RESET_CAUSE_POWER_ON : Fld := ⟨2272, 1, 1⟩

/-- PKG_RESET_CAUSE.PERST [1:1], RO (R479). -/
def PKG_RESET_CAUSE_PERST : Fld := ⟨2273, 1, 0⟩

/-- PKG_RESET_CAUSE.HOT_RESET [2:2], RO (R479). -/
def PKG_RESET_CAUSE_HOT_RESET : Fld := ⟨2274, 1, 0⟩

/-- PKG_RESET_CAUSE.LINK_DOWN [3:3], RO (R479). -/
def PKG_RESET_CAUSE_LINK_DOWN : Fld := ⟨2275, 1, 0⟩

/-- PKG_OPEN (64-bit pair) [63:0], RO (R479). -/
def PKG_OPEN : Fld := ⟨2304, 64, 0⟩

/-- PWR_CTRL.AUTO [0:0], RWS (R501). -/
def PWR_CTRL_AUTO (n : Nat) : Fld := ⟨8 * (0x400000 * (n + 1) + 0x1c0000), 1, 1⟩

/-- PWR_STATUS.PINNED [0:0], RO (R501). -/
def PWR_STATUS_PINNED (n : Nat) : Fld := ⟨8 * (0x400000 * (n + 1) + 0x1c0004), 1, 0⟩

/-- PWR_STATUS.THROTTLING [1:1], RO (R501). -/
def PWR_STATUS_THROTTLING (n : Nat) : Fld := ⟨8 * (0x400000 * (n + 1) + 0x1c0004) + 1, 1, 0⟩

/-- PWR_STATUS.ALERT [2:2], RO (R501). -/
def PWR_STATUS_ALERT (n : Nat) : Fld := ⟨8 * (0x400000 * (n + 1) + 0x1c0004) + 2, 1, 0⟩

/-- PWR_PADDLE_MAP.UNITS [17:0], RO (R501). -/
def PWR_PADDLE_MAP_UNITS (n : Nat) : Fld := ⟨8 * (0x400000 * (n + 1) + 0x1c0008), 18, 0⟩

/-- PWR_EASY_MAP.UNITS [17:0], RO (R501). -/
def PWR_EASY_MAP_UNITS (n : Nat) : Fld := ⟨8 * (0x400000 * (n + 1) + 0x1c000c), 18, 0⟩

/-- PWR_TEMP.HOT_C [7:0], RO (R501). -/
def PWR_TEMP_HOT_C (n : Nat) : Fld := ⟨8 * (0x400000 * (n + 1) + 0x1c0010), 8, 0⟩

/-- PWR_TEMP.MAX_C [15:8], RO (R501). -/
def PWR_TEMP_MAX_C (n : Nat) : Fld := ⟨8 * (0x400000 * (n + 1) + 0x1c0010) + 8, 8, 0⟩

/-- PWR_TEMP.MEAN_C [23:16], RO (R501). -/
def PWR_TEMP_MEAN_C (n : Nat) : Fld := ⟨8 * (0x400000 * (n + 1) + 0x1c0010) + 16, 8, 0⟩

/-- PWR_THERM_CFG.ALERT [7:0], RWS (R501). -/
def PWR_THERM_CFG_ALERT (n : Nat) : Fld := ⟨8 * (0x400000 * (n + 1) + 0x1c0014), 8, 95⟩

/-- PWR_THERM_CFG.THROTTLE [15:8], RWS (R501). -/
def PWR_THERM_CFG_THROTTLE (n : Nat) : Fld := ⟨8 * (0x400000 * (n + 1) + 0x1c0014) + 8, 8, 100⟩

/-- PWR_THERM_CFG.TRIP [23:16], RO (R501). -/
def PWR_THERM_CFG_TRIP (n : Nat) : Fld := ⟨8 * (0x400000 * (n + 1) + 0x1c0014) + 16, 8, 110⟩

/-- PWR_THROTTLE_STROKES.COUNT [31:0], RCS (R501). -/
def PWR_THROTTLE_STROKES_COUNT (n : Nat) : Fld := ⟨8 * (0x400000 * (n + 1) + 0x1c0018), 32, 0⟩

/-- PWR_UNIT_CFG.PADDLE_IDLE [15:0], RWS (R501). -/
def PWR_UNIT_CFG_PADDLE_IDLE (n i : Nat) : Fld := ⟨8 * (0x400000 * (n + 1) + 0x1c0100 + 32 * i), 16, paddleIdleReset i⟩

/-- PWR_UNIT_CFG.EASY_IDLE [31:16], RWS (R501). -/
def PWR_UNIT_CFG_EASY_IDLE (n i : Nat) : Fld := ⟨8 * (0x400000 * (n + 1) + 0x1c0100 + 32 * i) + 16, 16, easyIdleReset i⟩

/-- PWR_UNIT_STATE.STATE [1:0], RO (R501). -/
def PWR_UNIT_STATE_STATE (n i : Nat) : Fld := ⟨8 * (0x400000 * (n + 1) + 0x1c0104 + 32 * i), 2, 0⟩

/-- PWR_UNIT_STATE.ENTERING [2:2], RO (R501). -/
def PWR_UNIT_STATE_ENTERING (n i : Nat) : Fld := ⟨8 * (0x400000 * (n + 1) + 0x1c0104 + 32 * i) + 2, 1, 0⟩

/-- PWR_UNIT_STATE.PINNED [3:3], RO (R501). -/
def PWR_UNIT_STATE_PINNED (n i : Nat) : Fld := ⟨8 * (0x400000 * (n + 1) + 0x1c0104 + 32 * i) + 3, 1, 0⟩

/-- PWR_UNIT_STATE.WAKE_SRC [15:8], RO (R501). -/
def PWR_UNIT_STATE_WAKE_SRC (n i : Nat) : Fld := ⟨8 * (0x400000 * (n + 1) + 0x1c0104 + 32 * i) + 8, 8, 0⟩

/-- PWR_UNIT_STATE.REFUSED_BY [23:16], RO (R501). -/
def PWR_UNIT_STATE_REFUSED_BY (n i : Nat) : Fld := ⟨8 * (0x400000 * (n + 1) + 0x1c0104 + 32 * i) + 16, 8, 0⟩

/-- PWR_UNIT_STATE.ABORTED_BY [31:24], RO (R501). -/
def PWR_UNIT_STATE_ABORTED_BY (n i : Nat) : Fld := ⟨8 * (0x400000 * (n + 1) + 0x1c0104 + 32 * i) + 24, 8, 0⟩

/-- PWR_UNIT_WAKES.COUNT [31:0], RC (R501). -/
def PWR_UNIT_WAKES_COUNT (n i : Nat) : Fld := ⟨8 * (0x400000 * (n + 1) + 0x1c0108 + 32 * i), 32, 0⟩

/-- PWR_UNIT_REFUSED.COUNT [31:0], RC (R501). -/
def PWR_UNIT_REFUSED_COUNT (n i : Nat) : Fld := ⟨8 * (0x400000 * (n + 1) + 0x1c010c + 32 * i), 32, 0⟩

/-- PWR_UNIT_ABORTED.COUNT [31:0], RC (R501). -/
def PWR_UNIT_ABORTED_COUNT (n i : Nat) : Fld := ⟨8 * (0x400000 * (n + 1) + 0x1c0110 + 32 * i), 32, 0⟩

/-- PWR_UNIT_STALL.COUNT [31:0], RC (R501). -/
def PWR_UNIT_STALL_COUNT (n i : Nat) : Fld := ⟨8 * (0x400000 * (n + 1) + 0x1c0114 + 32 * i), 32, 0⟩

/-- HLD_STATUS.PHASE [2:0], RO (R502). -/
def HLD_STATUS_PHASE : Fld := ⟨2621440, 3, 0⟩

/-- HLD_STATUS.CAUSE_THERMAL [3:3], RO (R502). -/
def HLD_STATUS_CAUSE_THERMAL : Fld := ⟨2621443, 1, 0⟩

/-- HLD_STATUS.WARN [4:4], RO (R502). -/
def HLD_STATUS_WARN : Fld := ⟨2621444, 1, 0⟩

/-- HLD_STATUS.LAST_IMAGE_VALID [5:5], RO (R502). -/
def HLD_STATUS_LAST_IMAGE_VALID : Fld := ⟨2621445, 1, 0⟩

/-- HLD_STATUS.LAST_IMAGE_INCOMPLETE [6:6], RO (R502). -/
def HLD_STATUS_LAST_IMAGE_INCOMPLETE : Fld := ⟨2621446, 1, 0⟩

/-- HLD_EVENTS.GLITCH [0:0], W1CS (R502). -/
def HLD_EVENTS_GLITCH : Fld := ⟨2621472, 1, 0⟩

/-- HLD_EVENTS.IMAGE_INCOMPLETE [1:1], W1CS (R502). -/
def HLD_EVENTS_IMAGE_INCOMPLETE : Fld := ⟨2621473, 1, 0⟩

/-- HLD_EVENTS.MARGIN_LOW [2:2], W1CS (R502). -/
def HLD_EVENTS_MARGIN_LOW : Fld := ⟨2621474, 1, 0⟩

/-- HLD_EVENTS.THERMAL_TRIP [3:3], W1CS (R502). -/
def HLD_EVENTS_THERMAL_TRIP : Fld := ⟨2621475, 1, 0⟩

/-- HLD_EVENT_EN.ENABLE [3:0], RWS (R502). -/
def HLD_EVENT_EN_ENABLE : Fld := ⟨2621504, 4, 15⟩

/-- HLD_BUDGET.MS [13:0], RO (R502). -/
def HLD_BUDGET_MS : Fld := ⟨2621536, 14, 0⟩

/-- HLD_BUDGET.SUPPLY_REDUNDANT [14:14], RO (R502). -/
def HLD_BUDGET_SUPPLY_REDUNDANT : Fld := ⟨2621550, 1, 0⟩

/-- HLD_FILTER.TICKS [7:0], RWS (R502). -/
def HLD_FILTER_TICKS : Fld := ⟨2621568, 8, 10⟩

/-- HLD_SYSTEM_POOL.SIDE0 [4:0], RO (R502). -/
def HLD_SYSTEM_POOL_SIDE0 : Fld := ⟨2621600, 5, 0⟩

/-- HLD_SYSTEM_POOL.SIDE0_VALID [7:7], RO (R502). -/
def HLD_SYSTEM_POOL_SIDE0_VALID : Fld := ⟨2621607, 1, 0⟩

/-- HLD_SYSTEM_POOL.SIDE1 [12:8], RO (R502). -/
def HLD_SYSTEM_POOL_SIDE1 : Fld := ⟨2621608, 5, 0⟩

/-- HLD_SYSTEM_POOL.SIDE1_VALID [15:15], RO (R502). -/
def HLD_SYSTEM_POOL_SIDE1_VALID : Fld := ⟨2621615, 1, 0⟩

/-- HLD_CAP (64-bit pair) [63:0], RO (R502). -/
def HLD_CAP : Fld := ⟨2621632, 64, 1024000000⟩

/-- HLD_DIRTY (64-bit pair) [63:0], RO (R502). -/
def HLD_DIRTY : Fld := ⟨2621696, 64, 0⟩

/-- HLD_LAST_START (64-bit pair) [63:0], RO (R502). -/
def HLD_LAST_START : Fld := ⟨2621760, 64, 0⟩

/-- HLD_LAST_BYTES (64-bit pair) [63:0], RO (R502). -/
def HLD_LAST_BYTES : Fld := ⟨2621824, 64, 0⟩

/-- HLD_LAST_DURATION.MICROSECONDS [31:0], RO (R502). -/
def HLD_LAST_DURATION_MICROSECONDS : Fld := ⟨2621888, 32, 0⟩

/-- DRM_CTRL.SCRUB_EN [0:0], RWS (R515). -/
def DRM_CTRL_SCRUB_EN (n : Nat) : Fld := ⟨8 * (0x400000 * (n + 1) + 0x1d0000), 1, 1⟩

/-- DRM_CTRL.AUTO_MARK [1:1], RWS (R515). -/
def DRM_CTRL_AUTO_MARK (n : Nat) : Fld := ⟨8 * (0x400000 * (n + 1) + 0x1d0000) + 1, 1, 1⟩

/-- DRM_CTRL.AUTO_REMAP [2:2], RWS (R515). -/
def DRM_CTRL_AUTO_REMAP (n : Nat) : Fld := ⟨8 * (0x400000 * (n + 1) + 0x1d0000) + 2, 1, 1⟩

/-- DRM_STATUS.TRAINED [1:0], RO (R515). -/
def DRM_STATUS_TRAINED (n : Nat) : Fld := ⟨8 * (0x400000 * (n + 1) + 0x1d0004), 2, 0⟩

/-- DRM_STATUS.REMAP_FULL [3:2], RO (R515). -/
def DRM_STATUS_REMAP_FULL (n : Nat) : Fld := ⟨8 * (0x400000 * (n + 1) + 0x1d0004) + 2, 2, 0⟩

/-- DRM_STATUS.SELF_REFRESH [4:4], RO (R515). -/
def DRM_STATUS_SELF_REFRESH (n : Nat) : Fld := ⟨8 * (0x400000 * (n + 1) + 0x1d0004) + 4, 1, 0⟩

/-- DRM_EVENTS.CORRECTED [0:0], W1CS (R515). -/
def DRM_EVENTS_CORRECTED (n : Nat) : Fld := ⟨8 * (0x400000 * (n + 1) + 0x1d0008), 1, 0⟩

/-- DRM_EVENTS.UNCORRECTABLE [1:1], W1CS (R515). -/
def DRM_EVENTS_UNCORRECTABLE (n : Nat) : Fld := ⟨8 * (0x400000 * (n + 1) + 0x1d0008) + 1, 1, 0⟩

/-- DRM_EVENTS.MARKED [2:2], W1CS (R515). -/
def DRM_EVENTS_MARKED (n : Nat) : Fld := ⟨8 * (0x400000 * (n + 1) + 0x1d0008) + 2, 1, 0⟩

/-- DRM_EVENTS.REMAPPED [3:3], W1CS (R515). -/
def DRM_EVENTS_REMAPPED (n : Nat) : Fld := ⟨8 * (0x400000 * (n + 1) + 0x1d0008) + 3, 1, 0⟩

/-- DRM_EVENTS.REMAP_FULL [4:4], W1CS (R515). -/
def DRM_EVENTS_REMAP_FULL (n : Nat) : Fld := ⟨8 * (0x400000 * (n + 1) + 0x1d0008) + 4, 1, 0⟩

/-- DRM_EVENTS.CHANNEL_FAIL [5:5], W1CS (R515). -/
def DRM_EVENTS_CHANNEL_FAIL (n : Nat) : Fld := ⟨8 * (0x400000 * (n + 1) + 0x1d0008) + 5, 1, 0⟩

/-- DRM_EVENT_EN.ENABLE [5:0], RWS (R515). -/
def DRM_EVENT_EN_ENABLE (n : Nat) : Fld := ⟨8 * (0x400000 * (n + 1) + 0x1d000c), 6, 62⟩

/-- DRM_SCRUB.LINES [7:0], RWS (R515). -/
def DRM_SCRUB_LINES (n : Nat) : Fld := ⟨8 * (0x400000 * (n + 1) + 0x1d0010), 8, 8⟩

/-- DRM_SCRUB_PASSES.COUNT [31:0], RCS (R515). -/
def DRM_SCRUB_PASSES_COUNT (n : Nat) : Fld := ⟨8 * (0x400000 * (n + 1) + 0x1d0014), 32, 0⟩

/-- DRM_SCRUB_SKIPPED.COUNT [31:0], RC (R515). -/
def DRM_SCRUB_SKIPPED_COUNT (n : Nat) : Fld := ⟨8 * (0x400000 * (n + 1) + 0x1d0018), 32, 0⟩

/-- DRM_CH_CFG.GIB [8:0], RO (R515). -/
def DRM_CH_CFG_GIB (n i : Nat) : Fld := ⟨8 * (0x400000 * (n + 1) + 0x1d0100 + 64 * i), 9, 0⟩

/-- DRM_CH_CFG.DUAL_RANK [9:9], RO (R515). -/
def DRM_CH_CFG_DUAL_RANK (n i : Nat) : Fld := ⟨8 * (0x400000 * (n + 1) + 0x1d0100 + 64 * i) + 9, 1, 0⟩

/-- DRM_CH_MARK.DEVICE0 [3:0], RO (R515). -/
def DRM_CH_MARK_DEVICE0 (n i : Nat) : Fld := ⟨8 * (0x400000 * (n + 1) + 0x1d0104 + 64 * i), 4, 0⟩

/-- DRM_CH_MARK.DEVICE1 [11:8], RO (R515). -/
def DRM_CH_MARK_DEVICE1 (n i : Nat) : Fld := ⟨8 * (0x400000 * (n + 1) + 0x1d0104 + 64 * i) + 8, 4, 0⟩

/-- DRM_CH_MARK.DEVICE2 [19:16], RO (R515). -/
def DRM_CH_MARK_DEVICE2 (n i : Nat) : Fld := ⟨8 * (0x400000 * (n + 1) + 0x1d0104 + 64 * i) + 16, 4, 0⟩

/-- DRM_CH_MARK.DEVICE3 [27:24], RO (R515). -/
def DRM_CH_MARK_DEVICE3 (n i : Nat) : Fld := ⟨8 * (0x400000 * (n + 1) + 0x1d0104 + 64 * i) + 24, 4, 0⟩

/-- DRM_CH_MARK.VALID0 [4:4], RO (R515). -/
def DRM_CH_MARK_VALID0 (n i : Nat) : Fld := ⟨8 * (0x400000 * (n + 1) + 0x1d0104 + 64 * i) + 4, 1, 0⟩

/-- DRM_CH_MARK.VALID1 [12:12], RO (R515). -/
def DRM_CH_MARK_VALID1 (n i : Nat) : Fld := ⟨8 * (0x400000 * (n + 1) + 0x1d0104 + 64 * i) + 12, 1, 0⟩

/-- DRM_CH_MARK.VALID2 [20:20], RO (R515). -/
def DRM_CH_MARK_VALID2 (n i : Nat) : Fld := ⟨8 * (0x400000 * (n + 1) + 0x1d0104 + 64 * i) + 20, 1, 0⟩

/-- DRM_CH_MARK.VALID3 [28:28], RO (R515). -/
def DRM_CH_MARK_VALID3 (n i : Nat) : Fld := ⟨8 * (0x400000 * (n + 1) + 0x1d0104 + 64 * i) + 28, 1, 0⟩

/-- DRM_CH_CORR.COUNT [31:0], RC (R515). -/
def DRM_CH_CORR_COUNT (n i : Nat) : Fld := ⟨8 * (0x400000 * (n + 1) + 0x1d0108 + 64 * i), 32, 0⟩

/-- DRM_CH_UNCORR.COUNT [31:0], RCS (R515). -/
def DRM_CH_UNCORR_COUNT (n i : Nat) : Fld := ⟨8 * (0x400000 * (n + 1) + 0x1d010c + 64 * i), 32, 0⟩

/-- DRM_CH_REMAPS.COUNT [5:0], RO (R515). -/
def DRM_CH_REMAPS_COUNT (n i : Nat) : Fld := ⟨8 * (0x400000 * (n + 1) + 0x1d0110 + 64 * i), 6, 0⟩

/-- DRM_CH_RETRY.COUNT [31:0], RC (R515). -/
def DRM_CH_RETRY_COUNT (n i : Nat) : Fld := ⟨8 * (0x400000 * (n + 1) + 0x1d0114 + 64 * i), 32, 0⟩

/-- DRM_CH_SERIAL.SERIAL [31:0], RO (R515). -/
def DRM_CH_SERIAL_SERIAL (n i : Nat) : Fld := ⟨8 * (0x400000 * (n + 1) + 0x1d0118 + 64 * i), 32, 0⟩

/-- ANC_STATUS.READY [0:0], RO (R516). -/
def ANC_STATUS_READY (n : Nat) : Fld := ⟨8 * (0x400000 * (n + 1) + 0x1e0000), 1, 0⟩

/-- ANC_STATUS.WRITING [1:1], RO (R516). -/
def ANC_STATUS_WRITING (n : Nat) : Fld := ⟨8 * (0x400000 * (n + 1) + 0x1e0000) + 1, 1, 0⟩

/-- ANC_EVENTS.ECC_CORR [0:0], W1CS (R516). -/
def ANC_EVENTS_ECC_CORR (n : Nat) : Fld := ⟨8 * (0x400000 * (n + 1) + 0x1e0004), 1, 0⟩

/-- ANC_EVENTS.ECC_UNCORR [1:1], W1CS (R516). -/
def ANC_EVENTS_ECC_UNCORR (n : Nat) : Fld := ⟨8 * (0x400000 * (n + 1) + 0x1e0004) + 1, 1, 0⟩

/-- ANC_EVENTS.TORN [2:2], W1CS (R516). -/
def ANC_EVENTS_TORN (n : Nat) : Fld := ⟨8 * (0x400000 * (n + 1) + 0x1e0004) + 2, 1, 0⟩

/-- ANC_EVENT_EN.ENABLE [2:0], RWS (R516). -/
def ANC_EVENT_EN_ENABLE (n : Nat) : Fld := ⟨8 * (0x400000 * (n + 1) + 0x1e0008), 3, 6⟩

/-- ANC_ECC_CORR.COUNT [31:0], RCS (R516). -/
def ANC_ECC_CORR_COUNT (n : Nat) : Fld := ⟨8 * (0x400000 * (n + 1) + 0x1e000c), 32, 0⟩

/-- ANC_ECC_UNCORR.COUNT [31:0], RCS (R516). -/
def ANC_ECC_UNCORR_COUNT (n : Nat) : Fld := ⟨8 * (0x400000 * (n + 1) + 0x1e0010), 32, 0⟩

/-- ANC_TORN.COUNT [31:0], RCS (R516). -/
def ANC_TORN_COUNT (n : Nat) : Fld := ⟨8 * (0x400000 * (n + 1) + 0x1e0014), 32, 0⟩

/-- ANC_WRITES.COUNT [31:0], RCS (R516). -/
def ANC_WRITES_COUNT (n i : Nat) : Fld := ⟨8 * (0x400000 * (n + 1) + 0x1e0020 + 4 * i), 32, 0⟩

/-- ANC_READ_ADDR.WORD [21:3], RW (R516). -/
def ANC_READ_ADDR_WORD (n : Nat) : Fld := ⟨8 * (0x400000 * (n + 1) + 0x1e0100) + 3, 19, 0⟩

/-- ANC_READ (64-bit pair) [63:0], RO (R516). -/
def ANC_READ (n : Nat) : Fld := ⟨8 * (0x400000 * (n + 1) + 0x1e0104), 64, 0⟩

/-- FLT_STATUS.FROZEN [0:0], RO (R536). -/
def FLT_STATUS_FROZEN : Fld := ⟨5767168, 1, 0⟩

/-- FLT_EVENTS.LASTING [0:0], W1CS (R536). -/
def FLT_EVENTS_LASTING : Fld := ⟨5767200, 1, 0⟩

/-- FLT_EVENTS.EVICTED [1:1], W1CS (R536). -/
def FLT_EVENTS_EVICTED : Fld := ⟨5767201, 1, 0⟩

/-- FLT_EVENT_EN.ENABLE [1:0], RWS (R536). -/
def FLT_EVENT_EN_ENABLE : Fld := ⟨5767232, 2, 1⟩

/-- FLT_BUCKET.CURRENT [2:0], RO (R536). -/
def FLT_BUCKET_CURRENT : Fld := ⟨5767264, 3, 0⟩

/-- FLT_TRANSIENT.COUNT [31:0], RCS (R536). -/
def FLT_TRANSIENT_COUNT : Fld := ⟨5767296, 32, 0⟩

/-- FLT_LASTING.COUNT [31:0], RCS (R536). -/
def FLT_LASTING_COUNT : Fld := ⟨5767328, 32, 0⟩

/-- FLT_SRC_N.N [15:0], RWS (R536). -/
def FLT_SRC_N_N (i : Nat) : Fld := ⟨8 * (0xb0100 + 4 * i), 16, faultNReset i⟩

/-- FLT_SRC_COUNT.COUNT [31:0], RCS (R536). -/
def FLT_SRC_COUNT_COUNT (i : Nat) : Fld := ⟨8 * (0xb0180 + 4 * i), 32, 0⟩

/-- FLT_SEAT_ENTRIES.COUNT [12:0], RO (R537). -/
def FLT_SEAT_ENTRIES_COUNT (n : Nat) : Fld := ⟨8 * (0x400000 * (n + 1) + 0x1f8000), 13, 0⟩

/-- FLT_SEAT_EVICT.COUNT [31:0], RC (R537). -/
def FLT_SEAT_EVICT_COUNT (n : Nat) : Fld := ⟨8 * (0x400000 * (n + 1) + 0x1f8004), 32, 0⟩

/-- FLT_SEAT_EVENTS.COUNT [31:0], RC (R537). -/
def FLT_SEAT_EVENTS_COUNT (n : Nat) : Fld := ⟨8 * (0x400000 * (n + 1) + 0x1f8008), 32, 0⟩

/-- FLT_SEAT_LASTING.COUNT [31:0], RCS (R537). -/
def FLT_SEAT_LASTING_COUNT (n : Nat) : Fld := ⟨8 * (0x400000 * (n + 1) + 0x1f800c), 32, 0⟩

/-- PFR_STATUS.ARMED [0:0], RO (R537). -/
def PFR_STATUS_ARMED (n : Nat) : Fld := ⟨8 * (0x400000 * (n + 1) + 0x1f0000), 1, 0⟩

/-- PFR_STATUS.FULL [1:1], RO (R537). -/
def PFR_STATUS_FULL (n : Nat) : Fld := ⟨8 * (0x400000 * (n + 1) + 0x1f0000) + 1, 1, 0⟩

/-- PFR_STATUS.RECORDS [13:2], RO (R537). -/
def PFR_STATUS_RECORDS (n : Nat) : Fld := ⟨8 * (0x400000 * (n + 1) + 0x1f0000) + 2, 12, 0⟩

/-- PFR_CTRL.CLEAR [0:0], WO (R537). -/
def PFR_CTRL_CLEAR (n : Nat) : Fld := ⟨8 * (0x400000 * (n + 1) + 0x1f0004), 1, 0⟩

/-- PFR_CTRL.DISARM [1:1], WO (R537). -/
def PFR_CTRL_DISARM (n : Nat) : Fld := ⟨8 * (0x400000 * (n + 1) + 0x1f0004) + 1, 1, 0⟩

/-- PFR_CTRL.SOFT [15:8], WO (R537). -/
def PFR_CTRL_SOFT (n : Nat) : Fld := ⟨8 * (0x400000 * (n + 1) + 0x1f0004) + 8, 8, 0⟩

/-- PFR_DROPPED.COUNT [31:0], RC (R537). -/
def PFR_DROPPED_COUNT (n : Nat) : Fld := ⟨8 * (0x400000 * (n + 1) + 0x1f0008), 32, 0⟩

/-- PFR_PENDING.COUNT [3:0], RO (R537). -/
def PFR_PENDING_COUNT (n : Nat) : Fld := ⟨8 * (0x400000 * (n + 1) + 0x1f000c), 4, 0⟩

/-- PFR_TRIG.KIND [2:0], RO (R537). -/
def PFR_TRIG_KIND (n i : Nat) : Fld := ⟨8 * (0x400000 * (n + 1) + 0x1f0010 + 4 * i), 3, 0⟩

/-- PFR_TRIG.LASTING_ONLY [3:3], RO (R537). -/
def PFR_TRIG_LASTING_ONLY (n i : Nat) : Fld := ⟨8 * (0x400000 * (n + 1) + 0x1f0010 + 4 * i) + 3, 1, 0⟩

/-- PFR_TRIG.REGS [9:4], RO (R537). -/
def PFR_TRIG_REGS (n i : Nat) : Fld := ⟨8 * (0x400000 * (n + 1) + 0x1f0010 + 4 * i) + 4, 6, 0⟩

/-- PFR_TRIG.FIRED [31:16], RO (R537). -/
def PFR_TRIG_FIRED (n i : Nat) : Fld := ⟨8 * (0x400000 * (n + 1) + 0x1f0010 + 4 * i) + 16, 16, 0⟩

/-- PFR_SELECT.RECORD [10:0], RW (R537). -/
def PFR_SELECT_RECORD (n : Nat) : Fld := ⟨8 * (0x400000 * (n + 1) + 0x1f0100), 11, 0⟩

/-- PFR_RECORD.WORD [31:0], RO (R537). -/
def PFR_RECORD_WORD (n i : Nat) : Fld := ⟨8 * (0x400000 * (n + 1) + 0x1f0200 + 4 * i), 32, 0⟩

/-- LOG_STATUS.READY [0:0], RO (R538). -/
def LOG_STATUS_READY : Fld := ⟨3145728, 1, 0⟩

/-- LOG_STATUS.MAPPED [1:1], RO (R538). -/
def LOG_STATUS_MAPPED : Fld := ⟨3145729, 1, 0⟩

/-- LOG_NEXT_SEQ.SEQ [31:0], RO (R538). -/
def LOG_NEXT_SEQ_SEQ : Fld := ⟨3145760, 32, 1⟩

/-- LOG_OLDEST_SEQ.SEQ [31:0], RO (R538). -/
def LOG_OLDEST_SEQ_SEQ : Fld := ⟨3145792, 32, 1⟩

/-- LOG_RATE.PER_STROKE [7:0], RWS (R538). -/
def LOG_RATE_PER_STROKE : Fld := ⟨3145824, 8, 64⟩

/-- LOG_SUPPRESSED.COUNT [31:0], RC (R538). -/
def LOG_SUPPRESSED_COUNT : Fld := ⟨3145856, 32, 0⟩

/-- LOG_BAR4 (64-bit pair) [63:0], RO (R538). -/
def LOG_BAR4 : Fld := ⟨3145888, 64, 0⟩

/-- LOG_LAST_LASTING.SEQ [31:0], RO (R538). -/
def LOG_LAST_LASTING_SEQ : Fld := ⟨3145952, 32, 0⟩

/-- MGT_STATUS.ADDRESSED [0:0], RO (R538). -/
def MGT_STATUS_ADDRESSED : Fld := ⟨4194304, 1, 0⟩

/-- MGT_STATUS.DYN_ADDR [7:1], RO (R538). -/
def MGT_STATUS_DYN_ADDR : Fld := ⟨4194305, 7, 0⟩

/-- MGT_STATUS.EID [15:8], RO (R538). -/
def MGT_STATUS_EID : Fld := ⟨4194312, 8, 0⟩

/-- MGT_STATUS.SECURE [16:16], RO (R538). -/
def MGT_STATUS_SECURE : Fld := ⟨4194320, 1, 0⟩

/-- MGT_STATUS.RECEIVER [17:17], RO (R538). -/
def MGT_STATUS_RECEIVER : Fld := ⟨4194321, 1, 0⟩

/-- MGT_CTRL.REQUIRE_SECURE [0:0], RWL (R538). -/
def MGT_CTRL_REQUIRE_SECURE : Fld := ⟨4194336, 1, 0⟩

/-- MGT_CTRL.LOCK [1:1], RWL (R538). -/
def MGT_CTRL_LOCK : Fld := ⟨4194337, 1, 0⟩

/-- MGT_CTRL.EVENTS_EN [2:2], RWS (R538). -/
def MGT_CTRL_EVENTS_EN : Fld := ⟨4194338, 1, 1⟩

/-- MGT_RX_MSGS.COUNT [31:0], RC (R538). -/
def MGT_RX_MSGS_COUNT : Fld := ⟨4194368, 32, 0⟩

/-- MGT_TX_MSGS.COUNT [31:0], RC (R538). -/
def MGT_TX_MSGS_COUNT : Fld := ⟨4194400, 32, 0⟩

/-- MGT_DROPPED.COUNT [31:0], RC (R538). -/
def MGT_DROPPED_COUNT : Fld := ⟨4194432, 32, 0⟩

/-- MGT_ERRORS.COUNT [31:0], RC (R538). -/
def MGT_ERRORS_COUNT : Fld := ⟨4194464, 32, 0⟩

/-- MGT_IBI.COUNT [31:0], RC (R538). -/
def MGT_IBI_COUNT : Fld := ⟨4194496, 32, 0⟩

/-- MGT_EVENTS_LOST.COUNT [31:0], RC (R538). -/
def MGT_EVENTS_LOST_COUNT : Fld := ⟨4194528, 32, 0⟩

/-- UPD_STATUS.STATE [2:0], RO (R557). -/
def UPD_STATUS_STATE : Fld := ⟨3670016, 3, 0⟩

/-- UPD_STATUS.PEER_VERIFIED [3:3], RO (R557). -/
def UPD_STATUS_PEER_VERIFIED : Fld := ⟨3670019, 1, 0⟩

/-- UPD_STATUS.REASON [15:8], RO (R557). -/
def UPD_STATUS_REASON : Fld := ⟨3670024, 8, 0⟩

/-- UPD_STATUS.STEP [19:16], RO (R557). -/
def UPD_STATUS_STEP : Fld := ⟨3670032, 4, 0⟩

/-- UPD_STATUS.SEAT [23:20], RO (R557). -/
def UPD_STATUS_SEAT : Fld := ⟨3670036, 4, 0⟩

/-- UPD_EVENTS.HEADER_ACCEPTED [0:0], W1CS (R557). -/
def UPD_EVENTS_HEADER_ACCEPTED : Fld := ⟨3670048, 1, 0⟩

/-- UPD_EVENTS.REFUSED [1:1], W1CS (R557). -/
def UPD_EVENTS_REFUSED : Fld := ⟨3670049, 1, 0⟩

/-- UPD_EVENTS.VERIFIED [2:2], W1CS (R557). -/
def UPD_EVENTS_VERIFIED : Fld := ⟨3670050, 1, 0⟩

/-- UPD_EVENTS.VERIFY_FAILED [3:3], W1CS (R557). -/
def UPD_EVENTS_VERIFY_FAILED : Fld := ⟨3670051, 1, 0⟩

/-- UPD_EVENTS.ACTIVATED [4:4], W1CS (R557). -/
def UPD_EVENTS_ACTIVATED : Fld := ⟨3670052, 1, 0⟩

/-- UPD_EVENTS.ABANDONED [5:5], W1CS (R557). -/
def UPD_EVENTS_ABANDONED : Fld := ⟨3670053, 1, 0⟩

/-- UPD_EVENTS.ROLLED_BACK [6:6], W1CS (R557). -/
def UPD_EVENTS_ROLLED_BACK : Fld := ⟨3670054, 1, 0⟩

/-- UPD_EVENTS.BRIDGES_DONE [7:7], W1CS (R557). -/
def UPD_EVENTS_BRIDGES_DONE : Fld := ⟨3670055, 1, 0⟩

/-- UPD_EVENT_EN.ENABLE [7:0], RWS (R557). -/
def UPD_EVENT_EN_ENABLE : Fld := ⟨3670080, 8, 254⟩

/-- UPD_IMAGE_ID.ID [31:0], RO (R557). -/
def UPD_IMAGE_ID_ID : Fld := ⟨3670112, 32, 0⟩

/-- UPD_PIECES.RECEIVED [14:0], RO (R557). -/
def UPD_PIECES_RECEIVED : Fld := ⟨3670144, 15, 0⟩

/-- UPD_PIECES.TOTAL [30:16], RO (R557). -/
def UPD_PIECES_TOTAL : Fld := ⟨3670160, 15, 0⟩

/-- UPD_VERSION.VERSION [31:0], RO (R557). -/
def UPD_VERSION_VERSION : Fld := ⟨3670176, 32, 0⟩

/-- UPD_RUNNING.VERSION [31:0], RO (R557). -/
def UPD_RUNNING_VERSION : Fld := ⟨3670208, 32, 0⟩

/-- UPD_MEDIA.IN_FORCE [15:0], RO (R557). -/
def UPD_MEDIA_IN_FORCE : Fld := ⟨3670240, 16, 0⟩

/-- UPD_MEDIA.STAGED [31:16], RO (R557). -/
def UPD_MEDIA_STAGED : Fld := ⟨3670256, 16, 0⟩

/-- UPD_ACT (64-bit pair) [63:0], RO (R557). -/
def UPD_ACT : Fld := ⟨3670272, 64, 0⟩

/-- UPD_LAST_GAP.MICROSECONDS [31:0], RO (R557). -/
def UPD_LAST_GAP_MICROSECONDS : Fld := ⟨3670336, 32, 0⟩

/-- UPD_DUP.COUNT [31:0], RC (R557). -/
def UPD_DUP_COUNT : Fld := ⟨3670368, 32, 0⟩

/-- UPD_ACTIVATIONS.COUNT [31:0], RCS (R557). -/
def UPD_ACTIVATIONS_COUNT : Fld := ⟨3670400, 32, 0⟩

/-- UPD_BRIDGES_PENDING.COUNT [6:0], RO (R557). -/
def UPD_BRIDGES_PENDING_COUNT : Fld := ⟨3670432, 7, 0⟩

/-- UPD_PEN.PEN [31:0], RO (R557). -/
def UPD_PEN_PEN : Fld := ⟨3670464, 32, 0⟩

/-- PKG_STRAPS.SIDE [0:0], RO (R579). -/
def PKG_STRAPS_SIDE : Fld := ⟨1024, 1, 0⟩

/-- PKG_STRAPS.SEPCLK [1:1], RO (R579). -/
def PKG_STRAPS_SEPCLK : Fld := ⟨1025, 1, 0⟩

/-- PKG_STRAPS.TEST [3:2], RO (R579). -/
def PKG_STRAPS_TEST : Fld := ⟨1026, 2, 0⟩

/-- PKG_SUPPLY.LOW [6:0], RO (R579). -/
def PKG_SUPPLY_LOW : Fld := ⟨1056, 7, 0⟩

/-- PKG_SUPPLY.BROWNOUT [14:8], W1CS (R579). -/
def PKG_SUPPLY_BROWNOUT : Fld := ⟨1064, 7, 0⟩

/-- PKG_POWER.QUARTER_W [15:0], RO (R579). -/
def PKG_POWER_QUARTER_W : Fld := ⟨1088, 16, 0⟩

end Reg

end Sys2Proof.Machine
end

