-- ==== Sys2Proof/Machine/State.lean ====
section
/-!
DEFINITION. Machine/State.lean: the state of one head's device as plain data, the reasons a step can stop, and the state after reset.
A register field has one home: the register file `State.regs`, read and written through Machine/Ops.lean; what the spec keeps
behind the registers (queues, tables, records) stands in the structures below, under the spec's own names.
-/

namespace Sys2Proof.Machine

/-! ### Messages the block sends -/

/-- What the block sends or answers, by kind; the docstring of a kind says what the numbers are. -/
inductive OutKind where
  /-- Answer of a register read: requester, address, value (R6 to R11). -/
  | busRead
  /-- An MSI-X message, with its Relaxed Ordering attribute: vector (R439, R441). -/
  | msix (relaxed : Bool)
  /-- INTx emulation: 1 Assert_INTA, 0 Deassert_INTA (R440). -/
  | intx
  /-- An output pin: pin number, level (0 THERM_ALERT_N, 1 every transmitter quiet, 16 + n SLOT_PWREN[n]). -/
  | pin
  /-- The result bytes of a mailbox command: slot, then the words (R413). -/
  | mbxResult
  /-- Bulk results written to host memory, with the Relaxed Ordering attribute: slot, then the words (R416, R441). -/
  | hostWrite (relaxed : Bool)
  /-- A read of host memory issued: tag, slot (R435). -/
  | hostRead
  /-- A PCIe completion that is not data: 0 Unsupported Request, 1 poisoned, 2 Request Retry Status. -/
  | pcieStatus
  /-- An error message upstream: 0 correctable, 1 non-fatal, 2 fatal (R443). -/
  | pcieError
  /-- A DOE answer: protocol, bytes (R449). -/
  | doe
  /-- An MCTP, PLDM or SPDM answer over I3C: command code, then its fields (R532 to R534, R399). -/
  | mgmt
  /-- A PlatformEventMessage: event number, sensor, state (R534). -/
  | pldmEvent
  /-- An in-band interrupt: mandatory byte (R531). -/
  | ibi
  /-- A photo-finish firing told to the other seats: seat, trigger (R527). -/
  | pfrLinked
  /-- A RoCEv2 packet to an initiator: seat, queue pair, code (0 ACK, 1 NAK sequence, 2 NAK invalid request, 3 NAK remote access,
  4 RDMA READ request, 5 RDMA WRITE, 6 SEND, 7 CNP, 8 RDMA READ response), then its fields. -/
  | rdma
  /-- A connection-manager message: seat, source, code (0 REP, 1 REJ, 2 DREQ, 3 DREP, 4 REQ, 5 RTU), reason. -/
  | cm
  /-- An NVMe completion: seat, queue pair, command identifier, status code, do-not-retry, DW0 (R91). -/
  | nvme
  /-- An answer of an NVMe admin command: seat, queue pair, then the words. -/
  | nvmeData
  /-- An oar frame: slot, channel (0 CMD, 1 WDATA, 4 MGMT) and sequence, or slot, 3 and a control code (1 ACK, 2 NAK, 3 IDLE,
  4 RESUME), then its fields (R250 to R262). -/
  | oar
  /-- A ring frame: direction (0 clockwise), then its header and its payload (R282). -/
  | ring
  /-- A pair frame: seat, class, kind, then its fields (R299). -/
  | pair
  /-- A replication message: link, part, kind, then its fields (R366). -/
  | repl
  /-- A key-exchange or attestation message: session, code. -/
  | spdm
  /-- A claim to a bridge: slot, term, side (R320). -/
  | claim
  deriving DecidableEq, Repr

/-- One message. -/
structure Out where
  kind : OutKind
  args : List Nat
  deriving DecidableEq, Repr

/-! ### Register access (R6 to R11) -/

/-- Latches, staged halves and waiting writes of the register file. -/
structure Bus where
  /-- High half latched by the last low read, by (low address, requester) (R7). -/
  latches : FMap Nat
  /-- Staged low half, by (low address, requester) (R8). -/
  staged : FMap Nat
  /-- Writes that take effect at the next stroke boundary, by bit address: the field and its value (R10). -/
  waiting : FMap (Fld × Nat)
  deriving DecidableEq, Repr

/-! ### Stroke unit (02_stroke_cadence.md) -/

/-- One stroke input (R36 to R42). The newest interval comes first. -/
structure StkInput where
  /-- Consecutive valid consistent intervals that end with the last one (R37). -/
  run : Nat
  /-- The last intervals in ticks, newest first, at most 16 (R42). -/
  ivals : List Nat
  /-- Extended stroke of its last lock (R40). -/
  lockedAt : Nat
  /-- Ticks by which its last edge led the synthesised edge. -/
  lead : Int
  deriving DecidableEq, Repr

/-- The phase slew of R48. -/
inductive Slew where
  | idle
  /-- The offset has yet to be measured at the next input edge. -/
  | measuring
  /-- Ticks still to remove: positive shortens the period, negative lengthens it. -/
  | running (left : Int)
  deriving DecidableEq, Repr

/-- One floor slot of the anchor store (R51). -/
structure Floor where
  value : Nat
  seq : Nat
  intact : Bool
  deriving DecidableEq, Repr

/-- The stroke unit. -/
structure Stk where
  /-- Extended stroke (R43). -/
  ext : Nat
  /-- Tick counter of the stroke seat (R43). -/
  tick : Nat
  inA : StkInput
  inB : StkInput
  /-- The active input (R39). -/
  active : Option Input
  /-- Extended stroke at which the active input became active (R40). -/
  activeSince : Nat
  /-- Extended stroke of the stroke edge after the last write of PREFER (R40). -/
  preferAt : Nat
  /-- A switch due at the next stroke edge (R39, R40). -/
  switchTo : Option Input
  slew : Slew
  /-- Target of the period ramp, in 1/256 tick (R50). -/
  ramp : Option Nat
  /-- Phase error to the active input in ticks (R41), or to the reference (R55, R56). -/
  steer : Int
  /-- The sixteen floor slots (R51). -/
  floors : FMap Floor
  /-- The boot ROM has released the stroke unit (R53). -/
  released : Bool
  /-- Stroke edges since release. -/
  sinceRelease : Nat
  /-- The fault of R53 has been counted, or an input has locked. -/
  lockSeen : Bool
  /-- This head was the reference at the previous join (Pair agreement). -/
  wasReference : Bool
  /-- Tick counters of seats 1 to 7 (R43). -/
  seatTicks : List Nat
  /-- Ticks by which the peer's strokes lead this head's, whole strokes included, and whether the peer has an active input (R55, R56). -/
  peerLead : Int
  peerSteered : Bool
  /-- Steps 1 and 2 of a stroke edge have run and its later steps are still due (R57). -/
  mid : Bool
  deriving DecidableEq, Repr

/-! ### Keel (R14 to R19) -/

/-- The final arbiter of a destination seat (R15). A pair (origin seat, class) has the number 4 × origin + class. -/
structure KeelPort where
  /-- Pairs with requests waiting, in the order of their turns. -/
  turns : List Nat
  /-- Requests waiting, by pair, oldest first. -/
  waiting : FMap (List KeelReq)
  /-- Deficit counters in bytes. -/
  deficit : FMap Nat
  /-- The pair at the head of the turns has had its quantum. -/
  granted : Bool
  /-- Bytes by which the seat's bandwidth has run ahead of the request that comes next. -/
  credit : Nat
  /-- Bytes delivered in this interval of 1,000 strokes, by pair (R16). -/
  served : FMap Nat
  /-- Pairs that had requests waiting in this interval, and those that had throughout. -/
  asked : List Nat
  throughout : List Nat
  deriving DecidableEq, Repr

/-- The keel. -/
structure Keel where
  /-- A link has been in detour during the fairness interval (R16). -/
  detoured : Bool
  /-- The arbiters, by destination seat. -/
  ports : FMap KeelPort
  deriving DecidableEq, Repr

/-! ### Cox (R20, R21, R35, R428 to R432) -/

/-- A cox drill in progress (*Cox drill*, R431). -/
structure Drill where
  slot : Nat
  started : Nat
  gap1 : Nat
  faults : List Nat
  deriving DecidableEq, Repr

/-- The cox role. -/
structure Cox where
  /-- Seat of the active cox. -/
  active : Nat
  /-- Seat of the standby cox. -/
  standby : Nat
  /-- The reset original has passed its self-test and returns at the next stroke boundary, with this gap (R21). -/
  returning : Option Nat
  /-- A switch-over of a drill or an activation due at the next stroke edge. -/
  switchDue : Option Nat
  drill : Option Drill
  /-- Extended stroke at which the last drill completed (R431). -/
  lastDrill : Option Nat
  /-- Levels and duty cycles of the package's GPIO, fan and indicator outputs, by number, which a switch-over holds (R20, R429). The spec
  gives no rule that changes one. -/
  outputs : FMap Nat
  deriving DecidableEq, Repr

/-! ### Faults, logbook, recorder, management plane (18_health.md) -/

/-- One entry of a seat's fault table (R518, R520). -/
structure FaultEntry where
  /-- The eight buckets. -/
  buckets : List Nat
  /-- Extended stroke of its newest event. -/
  newest : Nat
  /-- For DRAM_RANK, the buckets of each device (R519). -/
  devices : FMap (List Nat)
  deriving DecidableEq, Repr

/-- A logbook entry (R522); the CRC is a function of the other fields. -/
structure LogEntry where
  seq : Nat
  ext : Nat
  tick : Nat
  seat : Nat
  cls : Nat
  raised : Bool
  code : Nat
  payload : List Nat
  deriving DecidableEq, Repr

/-- A photo-finish trigger (R526). -/
structure PfrTrig where
  arm : PfrArm
  /-- Firings since armed. -/
  fired : Nat
  /-- Extended stroke of its last firing. -/
  last : Option Nat
  deriving DecidableEq, Repr

/-- A photo-finish record (R528). -/
structure PfrRec where
  ext : Nat
  tick : Nat
  trigger : Nat
  kind : Nat
  cause : Nat
  logSeq : Nat
  values : List Nat
  deriving DecidableEq, Repr

/-- A PLDM event waiting for its answer (R534). -/
structure PldmEvent where
  num : Nat
  sensor : Nat
  value : Nat
  /-- Times sent. -/
  sent : Nat
  /-- Extended stroke at which it was last sent. -/
  at_ : Nat
  deriving DecidableEq, Repr

/-- Faults, records and the management plane. -/
structure Health where
  /-- Fault tables of all seats, by `faultKey` (R520). -/
  faults : FMap FaultEntry
  /-- The logbook, newest entry first (R521). -/
  log : List LogEntry
  /-- Entries written in this stroke, by (seat, class) (R524). -/
  logCount : FMap Nat
  /-- Entries not written in this stroke, by (seat, class) (R524). -/
  logLost : FMap Nat
  /-- Triggers, by (seat, trigger). -/
  trigs : FMap PfrTrig
  /-- Records, by (seat, index). -/
  recs : FMap PfrRec
  /-- I3C maximum read and write lengths (R531). -/
  mrl : Nat
  mwl : Nat
  /-- PLDM terminus identifier. -/
  tid : Nat
  /-- PLDM event receiver (R534). -/
  receiver : Option Nat
  /-- PLDM events kept, oldest first. -/
  events : List PldmEvent
  /-- Next event number. -/
  eventNum : Nat
  /-- Last value told of each sensor: numeric sensors, the threshold zone; state sensors, the state. -/
  sensors : FMap Nat
  deriving DecidableEq, Repr

/-! ### Mailboxes (13_mailbox.md) -/

/-- STATE of a slot (R408). -/
inductive SlotState where
  | free | posted | running | done
  deriving DecidableEq, Repr

/-- A mailbox slot. -/
structure MbxSlot where
  st : SlotState
  req : MbxReq
  status : Nat
  rtag : Nat
  resultLen : Nat
  detail : Nat
  doneStroke : Nat
  /-- Its host-owned bytes were marked by a poisoned write (R444). -/
  poisoned : Bool
  /-- Lane at its doorbell (R411). -/
  lane : Nat
  /-- Place in the order of doorbells (R410). -/
  order : Nat
  /-- Extended stroke of its doorbell (R414). -/
  postedAt : Nat
  /-- The command's changes have reached the shadow (R428). -/
  committed : Bool
  /-- A function-level or control-face reset came while it ran: at its end it is logged and the slot returns to FREE (R417). -/
  orphan : Bool
  /-- A function-level reset has stopped its reads of host memory: it ends without effect when the function is reset (R416, R454). -/
  cut : Bool
  deriving DecidableEq, Repr

/-- An easy-all in progress (R424 to R427). -/
structure EasyAll where
  /-- Hold limit in strokes. -/
  hold : Nat
  /-- Staged settings, by identifier. -/
  staged : FMap Nat
  /-- Slot of the SYS_EASY_ALL that still runs. -/
  slot : Option Nat
  /-- Extended stroke at which the SYS_EASY_ALL completed. -/
  completed : Nat
  /-- Extended stroke at which the HELD version was installed. -/
  installed : Nat
  /-- A validated SYS_ROW_ALL commits at the next stroke edge, for this slot (R426). -/
  commit : Option Nat
  deriving DecidableEq, Repr

/-- The control face. -/
structure Mbx where
  slots : FMap MbxSlot
  /-- Next doorbell number. -/
  nextOrder : Nat
  /-- Easy-alls in progress, by `easyKey`. -/
  easy : FMap EasyAll
  /-- Parameters in force, by `paramKey` of object and identifier (R421). -/
  params : FMap Nat
  /-- Parameters that take effect at the next stroke edge (R421). -/
  paramsNext : FMap Nat
  /-- Generation recorded for recovery (R423). -/
  recoverGen : Option Nat
  /-- DRAM budget for map and record pages per seat (R152). -/
  mapBudget : Nat
  deriving DecidableEq, Repr

/-! ### PCIe endpoint (14_host_endpoint.md) -/

/-- A non-posted request outstanding upstream (R435, R445, R455). -/
structure PciTag where
  /-- The slot of the command that issued it. -/
  slot : Nat
  /-- Abandoned by a clear of Bus Master Enable or a FLR: its data will be discarded. -/
  abandoned : Bool
  /-- Held since a FLR although its wait has ended (R455). -/
  reserved : Bool
  deriving DecidableEq, Repr

/-- Advanced Error Reporting (R443), its registers as the PCIe specification lays them out (log entry 107). -/
structure Aer where
  uncorr : Nat
  uncorrMask : Nat
  /-- Bit set: fatal. -/
  uncorrSev : Nat
  corr : Nat
  corrMask : Nat
  /-- The bit whose header the log holds, or would hold. -/
  first : Option Nat
  /-- The four doublewords of the header log. -/
  header : List Nat
  /-- Device Control: bits 0 to 3 enable the reporting of correctable, non-fatal and fatal errors and unsupported requests. -/
  report : Nat
  deriving DecidableEq, Repr

/-- Advanced Error Reporting after a full reset, its masks and severities at the PCIe specification's defaults (log entry 107). -/
def Aer.reset : Aer := ⟨0, 0x400000, 0x462010, 0, 0xE000, none, [0, 0, 0, 0], 0⟩

/-- The PCIe function. -/
structure Pci where
  /-- Bus Master Enable. -/
  bme : Bool
  msixEnable : Bool
  /-- Vectors whose mask bit is clear (R439): the PCIe specification sets every mask bit at a reset of the function (log entry 67). -/
  unmasked : List Nat
  /-- Vectors with a pending message, oldest first. -/
  pendingVecs : List Nat
  /-- D3hot (R448). -/
  d3 : Bool
  /-- Configuration requests complete with Request Retry Status (R452, R454). -/
  retry : Bool
  tags : FMap PciTag
  /-- INTA is asserted (R440). -/
  inta : Bool
  /-- Command.Interrupt Disable. -/
  intDisable : Bool
  /-- A DOE object is in progress (R449). -/
  doe : Bool
  /-- A FLR is waiting (R454). -/
  flr : Bool
  /-- PERST_N is asserted, or a full reset without it (a hot reset, a link-down) has not ended. -/
  perst : Bool
  /-- Scope sampled at the assertion of PERST_N (R451): true is FACE. -/
  face : Bool
  aer : Aer
  deriving DecidableEq, Repr

/-! ### Boot ROM and bring-up (15_bringup.md) -/

/-- The boot ROM's own state beside PKG_BOOT_STATUS. -/
structure Boot where
  /-- Header accepted for the download in progress. -/
  header : Option ImageHeader
  /-- Extended stroke of the last accepted window write (R468). -/
  lastWrite : Nat
  /-- A FLR restarted the download (R470). -/
  restarted : Bool
  /-- Header of the running image: VERSION, SVN, pair versions, media format. -/
  running : Option ImageHeader
  /-- Header of the image measured at the last boot (R400). -/
  measured : Option ImageHeader
  /-- Straps have been sampled since power was applied (R459). -/
  sampled : Bool
  /-- Seats that passed their self-test (R471 step 6). -/
  seatsUp : List Nat
  /-- DRAM training and blade discovery are done (R471 steps 7, 8). -/
  dramDone : Bool
  bladesDone : Bool
  /-- Map recovery is done for the recovered sides (R163), and rows due before service are handled (R476). -/
  mapDone : Bool
  rowsDone : Bool
  /-- The head has halted on a head fault (R507), a trip (R490) or DONE haul-out (R495). -/
  halted : Bool
  deriving DecidableEq, Repr

/-- What is fixed in the package, by fuses or by the board. -/
structure Hw where
  /-- Seat count of the variant (R1): 2, 4 or 8. -/
  seats : Nat
  straps : Straps
  /-- Vendor roots revoked, one bit per slot (R376). -/
  rootRevoked : Nat
  /-- Owner key hash, twelve words, when enrolled (R378). -/
  owner : Option (List Nat)
  /-- Minimum security version (R377). -/
  svnMin : Nat
  /-- Rails below their brown-out threshold (R572). -/
  railsOut : List Nat
  /-- A brown-out holds the device in reset (R572). -/
  brownout : Bool
  deriving DecidableEq, Repr

/-! ### Power, hold-up and haul-out (16_power_and_haulout.md) -/

/-- A haul-out image record (R494, R498). -/
structure HaulImage where
  seq : Nat
  /-- Extended stroke of T0. -/
  start : Nat
  /-- Checkpoint generation in force. -/
  gen : Nat
  bytes : Nat
  /-- Every page has programmed. -/
  programmed : Bool
  /-- The valid mark has programmed (R497). -/
  valid : Bool
  /-- Consumed by a later checkpoint (R498). -/
  consumed : Bool
  /-- Time from T0 to the valid mark, in µs (R500). -/
  micros : Nat
  /-- Budget in force at T0, in ms (R500). -/
  budget : Nat
  /-- Deltas not in a programmed delta log page, oldest first, and rows in the dirty set (R496). -/
  recs : List Delta
  rows : List (Nat × Nat)
  /-- Dirty regions by pool, the boathouse's apart, and the open rows with their write pointers: pool, row, page, units (R227, R496). -/
  regions : List (Nat × Nat)
  openRows : List (Nat × Nat × Nat × Nat)
  deriving DecidableEq, Repr

/-- Power and hold-up. -/
structure Pwr where
  /-- Consecutive strokes each seat has read at or above 110 °C (R490). -/
  hotStrokes : FMap Nat
  /-- Sum and number of readings per seat since the full reset, for MEAN_C. -/
  tempSum : FMap Nat
  tempNum : FMap Nat
  /-- The device drives `THERM_ALERT_N` low (R488, R490). -/
  alertLow : Bool
  /-- Image records, by (seat, 2 × side + slot) (R498). -/
  images : FMap HaulImage
  /-- Images being written in this haul-out: (seat, 2 × side + slot). -/
  writing : List Nat
  deriving DecidableEq, Repr

/-! ### DRAM and anchor store (17_memory.md) -/

/-- A line copy of a remap in progress (R509). -/
structure RemapCopy where
  line : Nat
  spare : Nat
  deriving DecidableEq, Repr

/-- One DRAM channel (R503 to R510). -/
structure DramCh where
  /-- Serial held with its remap table (R505). -/
  tableSerial : Nat
  /-- Remap entries: line to spare. -/
  remap : FMap Nat
  /-- Copies in progress, oldest first. -/
  copying : List RemapCopy
  /-- Next line of the patrol scrub. -/
  cursor : Nat
  deriving DecidableEq, Repr

/-! ### Updates (19_update.md) -/

/-- State of the staged image (UPD_STATUS.STATE). -/
inductive UpdState where
  | empty | receiving | verifying | verified | scheduled | activating | refused
  deriving DecidableEq, Repr

/-- A bridge restarting on new firmware (R554, R555). -/
structure BridgeRestart where
  started : Nat
  /-- Measurement of the new firmware; the blade has been attested again with it. -/
  meas : Nat
  back : Bool
  /-- Rows written without its shares, by band: keys of rows. -/
  missed : List Nat
  deriving DecidableEq, Repr

/-- The staged update and its activation. -/
structure Upd where
  st : UpdState
  header : Option StagedHeader
  /-- Pieces received, rising. -/
  pieces : List Nat
  /-- Activation stroke. -/
  at_ : Nat
  /-- This head activates first (R549). -/
  first : Bool
  soloOk : Bool
  /-- Step of *Activation timeline*, 1 to 7; 0 when none. -/
  step : Nat
  /-- Seats already handed over (step 2). -/
  handed : List Nat
  /-- Edges since the step began. -/
  edges : Nat
  /-- On-media format version in force (R548). -/
  media : Nat
  /-- Measurement 4 (R552), as the number the digest function gives. -/
  meas4 : Nat
  /-- Slots whose bridge is still to be updated, and those restarting. -/
  bridges : List Nat
  restarts : FMap BridgeRestart
  /-- The peer holds the same image VERIFIED, and has activated. -/
  peerVerified : Bool
  peerDone : Bool
  /-- Header of the image that ran before the cox hand-over of an activation (R553). -/
  old : Option ImageHeader
  /-- Measurement of the bridge firmware of the image last activated (R554). -/
  fwMeas : Nat
  /-- IMAGE_ID of a header whose checks are running (R543). -/
  checking : Option Nat
  deriving DecidableEq, Repr

/-! ### Front end (03_front_end.md) -/

/-- State of a queue pair (NVQ_QP_STATE). -/
inductive QpState where
  | free | connecting | ready | error | draining
  deriving DecidableEq, Repr

/-- A queue pair of a seat (R68 to R78). -/
structure Qp where
  st : QpState
  /-- An NVMe admin queue. -/
  admin : Bool
  /-- Priority class of the queue's last command (R87). -/
  cls : Nat
  subport : Nat
  /-- Protection domain (R70); 0 for NVMe over Fabrics (R71). -/
  pd : Nat
  /-- Controller number on this seat, once a Connect has named one. -/
  ctrl : Option Nat
  /-- Source address of the other end. -/
  src : Nat
  mtu : Nat
  /-- Congestion window W in bytes (R77). -/
  window : Nat
  /-- Bytes sent and not acknowledged. -/
  unacked : Nat
  /-- Bytes requested by RDMA READ and not yet received. -/
  requested : Nat
  /-- Bytes still to be acknowledged in this round (R78). -/
  roundLeft : Nat
  /-- A decrease has been applied in this round. -/
  decreased : Bool
  /-- Retries made of the packet that waits (R69). -/
  retries : Nat
  /-- The device asked for this connection, or for its end. -/
  ours : Bool
  /-- The memory region and epoch of an RDMA WRITE message in progress (R73). -/
  writing : Option (Nat × Nat)
  /-- Transport retries and RNR retries allowed, and the RNR retries made (R69). -/
  retryMax : Nat
  rnrMax : Nat
  rnrs : Nat
  /-- RDMA READs of the other end in progress: region and epoch, oldest first (R76). -/
  reading : List (Nat × Nat)
  /-- Messages that wait for the window or for a paused priority, oldest first: bytes still to send, and the message (R63, R77). -/
  outq : List (Nat × Out)
  /-- The submission queue identifier its Connect gave (R92). -/
  qid : Nat
  /-- Bytes still to come of RDMA READs whose command has ended, by (command, block) (R77). -/
  stray : FMap Nat
  deriving DecidableEq, Repr

/-- One version of a memory region (R72, R74). A version without a key matches nothing (R76). -/
structure MrVer where
  epoch : Nat
  hasKey : Bool
  tag : Nat
  pd : Nat
  base : Nat
  len : Nat
  read : Bool
  write : Bool
  inflight : Nat
  deriving DecidableEq, Repr

/-- A memory region: its current and previous version (R74), and the slot of an MR_INVALIDATE that waits (R76). -/
structure Mr where
  cur : MrVer
  prev : Option MrVer
  slot : Option Nat
  deriving DecidableEq, Repr

/-- A connection request that waits: its seat, source, sub-port, MTU and protection domain (R68, R552). -/
structure HeldReq where
  seat : Nat
  src : Nat
  sub : Nat
  mtu : Nat
  pd : Nat
  deriving DecidableEq, Repr

/-- The front end of all seats. -/
structure Fe where
  /-- Queue pairs, by (seat, index). -/
  qps : FMap Qp
  /-- Memory regions, by index (R70). -/
  mrs : FMap Mr
  /-- Strokes of the connection requests of a source, by (seat, source) (R95). -/
  cmReqs : FMap (List Nat)
  /-- Strokes at which a source drove queue pairs into error, by (seat, source) (R96). -/
  errs : FMap (List Nat)
  /-- Blocked sources: the stroke at which the block ends, by (seat, source) (R96). -/
  blocked : FMap Nat
  /-- Priorities paused by PFC, by (seat, sub-port) (R63). -/
  paused : FMap Nat
  /-- Connection requests that wait for the hand-over of their seat's agent, oldest first (R552). -/
  held : List HeldReq
  deriving DecidableEq, Repr

/-! ### NVMe over Fabrics target (R80 to R94) -/

/-- Admission state of a steering entry (R90). -/
inductive Admission where
  | opened | held | readOnly
  deriving DecidableEq, Repr

/-- One version of a steering entry (R74, R90). -/
structure StVer where
  epoch : Nat
  p : NsParams
  adm : Admission
  inflight : Nat
  deriving DecidableEq, Repr

/-- A namespace: its steering entry, and what hangs on it. -/
structure Ns where
  cur : StVer
  prev : Option StVer
  /-- Extended stroke at which the current version was installed. -/
  installed : Nat
  /-- Consistency group it belongs to (R352). -/
  cg : Option Nat
  /-- It is a replica that only a link writes (R371). -/
  replica : Bool
  deriving DecidableEq, Repr

/-- A subsystem (R81, R82). -/
structure Subsys where
  tenant : Nat
  nqn : Nat
  hosts : List Nat
  deriving DecidableEq, Repr

/-- A tenant: its source address ranges, key domain and latency class (R82, R381, R487). -/
structure Tenant where
  ranges : List (Nat × Nat)
  domain : Nat
  sprint : Bool
  deriving DecidableEq, Repr

/-- A Command Failure Detail entry (R92). -/
structure FailDetail where
  cid : Nat
  sq : Nat
  status : Nat
  lba : Nat
  nsid : Nat
  ext : Nat
  deriving DecidableEq, Repr

/-- A controller of a seat (R81). -/
structure Ctrl where
  /-- Subsystem; none for a discovery controller. -/
  subsys : Option Nat
  host : Nat
  adminQp : Nat
  ioQps : List Nat
  /-- Keep Alive timeout in ms (R86). -/
  kato : Nat
  /-- Times the Keep Alive timer was restarted. -/
  kaCount : Nat
  /-- Outstanding Asynchronous Event Requests, oldest first. -/
  aers : List Nat
  /-- Events that wait for a request. -/
  events : List Nat
  features : FMap Nat
  props : FMap Nat
  /-- Log page 0xC2, newest first (R92). -/
  log : List FailDetail
  deriving DecidableEq, Repr

/-- What an I/O command asks for. -/
inductive CmdOp where
  | read | write | writeZeroes | flush | deallocate (ranges : List (Nat × Nat)) | verify | zoneAppend | zoneSend (action : Nat) | zoneReceive
  | ioSend (mo : Nat) | ioReceive
  deriving DecidableEq, Repr

/-- How far a command has come. -/
inductive CmdStage where
  /-- In its queue, not yet taken (R88). -/
  | waiting
  /-- Taken, waiting for range locks (R103). -/
  | locking
  /-- Taken, its work in progress. -/
  | working
  deriving DecidableEq, Repr

/-- A command of an I/O queue from its capsule to its completion. -/
structure Cmd where
  seat : Nat
  qp : Nat
  cid : Nat
  op : CmdOp
  nsid : Nat
  lba : Nat
  /-- Number of blocks. -/
  count : Nat
  cap : Capsule
  stage : CmdStage
  /-- Extended stroke of its arrival. -/
  arrived : Nat
  /-- Epoch of the steering version it matched (R90). -/
  epoch : Nat
  /-- Epoch of the ownership version of its ANA group that it matched (R309). -/
  ownEpoch : Nat
  /-- The settings it matched. -/
  p : NsParams
  /-- Blocks, record groups or read units still to finish. -/
  left : Nat
  /-- Blocks still to be requested from the initiator. -/
  toPull : Nat
  /-- First failed LBA and status, once a part has failed (R91). -/
  failed : Option (Nat × Nat)
  /-- Catch slots and dirty bytes reserved (R101). -/
  slots : Nat
  dirty : Nat
  /-- Tick count at the take, for the latency sample of R335. -/
  takenAt : Nat
  /-- The records of the command go to the peer (R128), or follow the namespace's solo policy (R129). -/
  groups : List Nat
  /-- A Zone Append's assigned LBA. -/
  assigned : Option Nat
  /-- Bytes asked for of the next block to request, where a whole block does not fit the window (R77). -/
  part : Nat
  deriving DecidableEq, Repr

/-- Arbitration of one seat's command engine (R88). -/
structure Arb where
  /-- Commands each of HIGH, MEDIUM, LOW may still take in this round. -/
  shares : List Nat
  /-- Queue served last in each of the four classes. -/
  last : List Nat
  /-- Commands taken in the turn of the queue in service, per class. -/
  turn : List Nat
  /-- Commands taken in this stroke (NVQ_BUSY). -/
  taken : Nat
  deriving DecidableEq, Repr

/-- The target. -/
structure Nv where
  ns : FMap Ns
  subsys : FMap Subsys
  tenants : FMap Tenant
  /-- ANA groups: home side. -/
  anas : FMap Nat
  /-- Controllers, by (seat, number). -/
  ctrls : FMap Ctrl
  /-- I/O commands between capsule and completion, by arrival number. -/
  cmds : FMap Cmd
  nextCmd : Nat
  /-- Commands whose push on a full queue was refused and is retried, oldest first (R89). -/
  pushq : List Cmd
  /-- Arbitration, by seat. -/
  arb : FMap Arb
  deriving DecidableEq, Repr

/-! ### Ingest (04_ingest.md) -/

/-- How far a block of a write has come (*Ingest stages*, R100). -/
inductive BlkStage where
  /-- Its bytes have not arrived. -/
  | wanted
  /-- In the catch: lookup or job still running. -/
  | landed
  /-- Its job has ended; it waits for a key slot (R382), a nonce (R396) or a row (R167). -/
  | ready
  /-- Sealed on another seat, on its way to its zone's home seat (R124). -/
  | moving
  /-- Its record is built. -/
  | done
  deriving DecidableEq, Repr

/-- A block in a catch slot. -/
structure Blk where
  stage : BlkStage
  data : Nat
  /-- Its metadata as it arrived, and its stored metadata (R107). -/
  md : Md
  stored : Stored
  /-- Data and stored metadata are all zero (R112). -/
  zero : Bool
  /-- Fingerprint (R108). -/
  fp : Nat
  /-- A lookup of the fingerprint is running (R110). -/
  looking : Bool
  /-- A compression job is running or waits for a lane (R113). -/
  job : Bool
  /-- Dictionary slot the job has matched (R119). -/
  dict : Option Nat
  /-- Length of the frame that is kept; none: stored raw (R115). -/
  frame : Option Nat
  /-- Handle of the record held at a dedup hit (R110). -/
  hold : Option Nat
  /-- Sealed, and waiting for a row (R167), for the blocks before it in its zone (R183) or for its zone's home seat (R124). -/
  ext : Option Ext
  /-- Bytes of the block that an earlier response has brought (R77). -/
  got : Nat
  /-- Its seal has waited, and has been counted: for a reservation (R396), for a roll (R391). -/
  waitedReserve : Bool
  waitedRoll : Bool
  deriving DecidableEq, Repr

/-- A group of records of one seat (R127). -/
structure Grp where
  cmd : Nat
  /-- Blocks of the command that it covers: the first, and the first after it (R131). -/
  lo : Nat
  hi : Nat
  /-- Records, oldest first. -/
  recs : List Delta
  /-- Its last record has been built. -/
  complete : Bool
  /-- Lane sequence of the frame that holds its LAST record, once sent, and that lane. -/
  frame : Option (Nat × Nat)
  /-- The peer's cumulative acknowledgement covers that frame (R128). -/
  acked : Bool
  /-- Under FLASH_THROUGH: its deltas are in the delta log, the last in the page with this sequence (R129). -/
  logged : Option Nat
  /-- Lines of the map that its commit has looked up: page, line (R146). -/
  looked : List (Nat × Nat)
  /-- It waits for the tag limit, and has been counted (R157). -/
  throttled : Bool
  deriving DecidableEq, Repr

/-- An entry of the fingerprint cache (*Fingerprint cache entry*, R109). -/
structure FpEnt where
  tag : Nat
  handle : Nat
  tenant : Nat
  age : Nat
  deriving DecidableEq, Repr

/-- Ingest on all seats. -/
structure Ing where
  /-- Blocks, by (command, index). -/
  blks : FMap Blk
  /-- Groups not yet accepted, by (seat, number). -/
  grps : FMap Grp
  /-- Next group number of each seat. -/
  nextGrp : FMap Nat
  /-- Dirty bytes of each seat, without reservations (R133). -/
  dirty : FMap Nat
  /-- Range locks (R103), by (namespace, granule): the holder, and the commands that wait, in request order. -/
  locks : FMap (Option Nat × List Nat)
  /-- Fingerprint cache sets, by `fpKey`: eight ways. -/
  fps : FMap (List (Option FpEnt))
  /-- Fingerprints logged to the boathouse for the background pass (R111): seat, fingerprint, handle, tenant. -/
  fpLog : List (Nat × Nat × Nat × Nat)
  /-- Dictionary contents, by slot (R118). -/
  dicts : FMap Nat
  /-- Slots of DICT_RETIRE commands that wait, by dictionary slot (R119). -/
  retiring : FMap Nat
  /-- Reclaim unit handles, below 256, by namespace × 65,536 + placement handle (R123). -/
  ruhs : FMap Nat
  /-- Appends made. -/
  appends : Nat
  /-- Acceptance times of the last 10,000 strokes in 0.25 µs units, by seat, with their strokes, newest first. -/
  lats : FMap (List (Nat × Nat))
  deriving DecidableEq, Repr

/-! ### Map (05_map.md) -/

/-- A logical map entry (R140). -/
structure MapEnt where
  handle : Nat
  zero : Bool
  dealloc : Bool
  shared : Bool
  pinned : Bool
  replay : Nat
  /-- Bits [23:20] as read. -/
  spare : Nat
  deriving DecidableEq, Repr

/-- A directory entry (R145) of a namespace, an image or a record table: the page it names and its bits. -/
structure DirEnt where
  page : Nat
  /-- LOCATION; none when the page has never been written. -/
  loc : Option Nat
  resident : Bool
  dirty : Bool
  shared : Bool
  deriving DecidableEq, Repr

/-- A zone (R124, R183, R184). -/
structure Zone where
  /-- 0 empty, 1 open, 2 full, 3 closed. -/
  st : Nat
  home : Nat
  /-- Write pointer, in blocks from the start of the zone; blocks accepted. -/
  wp : Nat
  acc : Nat
  /-- Segment descriptors: page address and first LBA as an offset, ascending. -/
  segs : List (Nat × Nat)
  /-- Accepted blocks written as zeros, which no extent holds (R112), as offsets. -/
  zeros : List Nat
  deriving DecidableEq, Repr

/-- What a checkpoint saves: the pages, records and zones as frozen (R160). -/
structure MapImage where
  dirs : FMap DirEnt
  pages : FMap (FMap MapEnt)
  recs : FMap Rec
  zones : FMap Zone
  /-- Next record index of each (tenant, side, seat). -/
  nextRec : FMap Nat
  /-- Per seat: first delta log sequence after the checkpoint. -/
  logStart : FMap Nat
  /-- The open-row list of the root pages with its write pointers: pool, row, page, units used in the page. -/
  openRows : List (Nat × Nat × Nat × Nat)
  /-- Allocation summary of each pool: rows allocated in each band in use. -/
  pools : FMap (FMap Nat)
  /-- Next page sequence of each seat (R159). -/
  nextSeq : FMap Nat
  deriving DecidableEq, Repr

/-- The header of a programmed page (*Page header*, R159). -/
structure PageHead where
  kind : Nat
  pool : Nat
  row : Nat
  mem : Nat
  /-- Bit 7 holds the head side. -/
  seat : Nat
  stream : Nat
  flags : Nat
  nsid : Nat
  first : Nat
  last : Nat
  ext : Nat
  seq : Nat
  count : Nat
  gen : Nat
  crc : Nat
  /-- The page is on flash. -/
  done : Bool
  deriving DecidableEq, Repr

/-- An anchor (R162). -/
structure Anchor where
  /-- Address of the root page. -/
  root : Nat
  gen : Nat
  ext : Nat
  logStart : Nat
  intact : Bool
  deriving DecidableEq, Repr

/-- A checkpoint in progress (R160). -/
structure Ckpt where
  gen : Nat
  ext : Nat
  /-- Per seat: 0 images, 1 root page, 2 anchor written. -/
  stage : FMap Nat
  late : Bool
  image : MapImage
  deriving DecidableEq, Repr

/-- A page of a seat's delta log (R158). -/
structure DlogPage where
  seat : Nat
  seq : Nat
  recs : List Delta
  programmed : Bool
  deriving DecidableEq, Repr

/-- A lookup lane that waits for a line (R150): the line, and what waits: the command and its unit. -/
structure Lane where
  line : Nat
  cmd : Nat
  idx : Nat
  /-- A write-through came while the fill was in flight (R148). -/
  merged : Bool
  deriving DecidableEq, Repr

/-- The translation cache of one seat (R147). -/
structure Tc where
  lfsr : Nat
  /-- Sets in use: sixteen ways of line addresses. -/
  sets : FMap (List (Option Nat))
  lanes : FMap Lane
  deriving DecidableEq, Repr

/-- A secure discard in progress (R182). -/
structure Discard where
  /-- Mailbox slot. -/
  slot : Nat
  /-- Namespace or tenant. -/
  target : Nat
  tenant : Bool
  /-- Rows still to be erased: pool and row. -/
  rows : List Nat
  /-- Extents kept because something outside the target refers to them. -/
  kept : Nat
  deriving DecidableEq, Repr

/-- The map of all seats. -/
structure MapU where
  /-- Directories, by `dirKey`. -/
  dirs : FMap DirEnt
  /-- Map pages: entries by index. -/
  pages : FMap (FMap MapEnt)
  nextPage : Nat
  /-- Content records, by `recKey`. -/
  recs : FMap Rec
  nextRec : FMap Nat
  /-- Freed records: reusable once the checkpoint after this extended stroke has completed (R153). -/
  freed : List (Nat × Nat)
  /-- Reusable records, by `recKey`. -/
  reuse : List Nat
  /-- Commits of an entry since the last CHECKPOINT stroke, by `lbaKey` (R157). -/
  since : FMap Nat
  zones : FMap Zone
  /-- Lost-extent list, by `lbaKey`: pool (R190, R237). -/
  lost : FMap Nat
  /-- Delta log buffers, by seat, newest first. -/
  dbuf : FMap (List Delta)
  dlog : List DlogPage
  /-- Rows of this head's sides that have become programmed on every member since the last MAP_SYNC (R307): pool, row. -/
  progRows : List (Nat × Nat)
  /-- Next page sequence of each seat (R159). -/
  pageSeq : FMap Nat
  ckpt : Option Ckpt
  images : FMap MapImage
  anchors : FMap Anchor
  /-- Next anchor slot of each seat. -/
  nextAnchor : FMap Nat
  tc : FMap Tc
  /-- Page-fill queues, by seat: directory key, command, unit (R146). -/
  fills : FMap (List (Nat × Nat × Nat))
  /-- Clock hand of each seat over its resident pages (R152): directory key. -/
  hand : FMap Nat
  /-- Page frames in DRAM, by (seat, frame): directory keys. -/
  frames : FMap Nat
  /-- Namespaces and images that await the release sweep (R181): their owners, and the tenant of each. -/
  releasing : FMap Nat
  /-- Deallocated entries that await release, by seat (R181). -/
  backlog : FMap Nat
  /-- A secure discard in progress (R182). -/
  discard : Option Discard
  /-- Generation that recovery has loaded, and that some seat held none (R164). -/
  recovered : Option Nat
  noAnchor : Bool
  /-- Headers of the pages programmed, by seat and sequence (R159). -/
  heads : FMap PageHead
  deriving DecidableEq, Repr

/-! ### Reads (06_retrieval.md) -/

/-- Where a read unit is. -/
inductive UStage where
  /-- Its lookups have not finished (R189); it may wait in the page-fill queue or for a lane. -/
  | lookup
  /-- Its direct read is at the oar port (R193). -/
  | reading
  /-- Members are being read for reconstruction (R200, R203). -/
  | members
  /-- It is with an opening lane (R194). -/
  | opening
  /-- Opened, and waiting for room in the congestion window (R77). -/
  | placing
  | done
  deriving DecidableEq, Repr

/-- One 4 KiB unit of a Read or Verify. -/
structure RUnit where
  lba : Nat
  stage : UStage
  /-- It waits for a page of the map or for a line. -/
  blocked : Bool
  /-- The entry as looked up. -/
  ent : Option MapEnt
  addr : Nat
  /-- Its row, whose readers count includes it (R191, R173). -/
  row : Option Nat
  /-- Read from the DRAM copy. -/
  dram : Bool
  /-- An opening check has failed (R195). -/
  again : Bool
  /-- Result of a reconstruction. -/
  rebuilt : Bool
  /-- The content record as looked up (R194). -/
  rcd : Option Rec
  /-- A bypass charged to the bucket (R199), its direct read still queued (R202), a reconstruction beside the retries (R196). -/
  bypass : Bool
  hedged : Bool
  /-- Members still to arrive, and those not tried yet. -/
  waiting : List Nat
  spare : List Nat
  /-- Beside its members: the page of its direct read has arrived and waits for an opening lane (R196, R202). -/
  here : Bool
  deriving DecidableEq, Repr

/-- Reads. -/
structure Rd where
  /-- Units, by (command, index). -/
  units : FMap RUnit
  /-- Read times of the last 10,000 strokes by seat, in 0.25 µs units with their strokes, newest first (R208). -/
  lats : FMap (List (Nat × Nat))
  /-- Times of the direct page reads of each slot in the last 1,000 strokes, with their strokes, newest first (R198). -/
  slotLats : FMap (List (Nat × Nat))
  /-- Strokes that a slow blade has been below the ratio, by (seat, slot) (R198). -/
  below : FMap Nat
  deriving DecidableEq, Repr

/-! ### Stripes (07_stripes.md) -/

/-- A member share (R211). -/
structure Share where
  slot : Nat
  /-- Which of the blade's four shares. -/
  idx : Nat
  /-- First die. -/
  die : Nat
  lost : Bool
  /-- Its bridge restarts for an update, or has yet to catch up (R555). -/
  restarting : Bool
  deriving DecidableEq, Repr

/-- A geometry of a group's band table. -/
structure Geom where
  k : Nat
  m : Nat
  shares : List Share
  deriving DecidableEq, Repr

/-- A band (R218): geometry, and die and block on each member. -/
structure Band where
  geom : Nat
  blocks : List (Nat × Nat)
  seat : Nat
  stream : Nat
  slc : Bool
  /-- Rows allocated so far. -/
  used : Nat
  /-- Members of a lost share whose rebuild target holds this band (R232, R235). -/
  onTarget : List Nat
  deriving DecidableEq, Repr

/-- State of a row that is not free. -/
inductive RowSt where
  | opened | closed | programmed | freed
  deriving DecidableEq, Repr

/-- A row (R218 to R224). -/
structure Row where
  st : RowSt
  seat : Nat
  stream : Nat
  slc : Bool
  geom : Nat
  /-- Data symbol being filled, and 16-byte units used in it. -/
  page : Nat
  fill : Nat
  /-- Extended strokes of its last append and of its sealing. -/
  lastAppend : Nat
  sealedAt : Nat
  /-- Members not yet programmed; members written as erasures. -/
  left : List Nat
  erased : List Nat
  /-- Pad bytes added by an early seal. -/
  pad : Nat
  /-- The DRAM copy is kept. -/
  dram : Bool
  /-- Reads in flight that looked up an address in it (R173, R191). -/
  readers : Nat
  /-- Place of its last append in the order of all appends of the head (R125). -/
  order : Nat
  /-- MOVEs still to be programmed in the delta log (R173): the highest page sequence that holds one, by seat. -/
  moves : FMap Nat
  /-- Queued for collection ahead of the policy. -/
  ahead : Bool
  /-- A rebuild, reshape or secure discard works on it (R168). -/
  busy : Bool
  /-- A member page failed to program: the row must still be written again (R222). -/
  rewrite : Bool
  /-- Background verification is due (R228). -/
  verify : Bool
  /-- It lies on a block retired since its pool became READ_ONLY or collection was switched off (R178, R187). -/
  onRetired : Bool
  deriving DecidableEq, Repr

/-- Rebuild of one share (R231 to R235). -/
structure Rebuild where
  /-- The lost share: slot, and which of its blade's shares. -/
  slot : Nat
  idx : Nat
  target : Share
  started : Nat
  /-- Rows already rebuilt in the band in progress. -/
  band : Option Nat
  rows : List Nat
  done : Nat
  total : Nat
  deriving DecidableEq, Repr

/-- A redundancy group and its pool (R210 to R246, R167 to R178). -/
structure Group where
  side : Nat
  /-- Geometries by index; the one of new rows. -/
  geoms : FMap Geom
  cur : Nat
  /-- Dies of each share, pages per block (native and SLC), blocks per die. -/
  dies : Nat
  pages : Nat
  slcPages : Nat
  blocks : Nat
  bands : FMap Band
  /-- Rows of the pool, by row number. -/
  rows : FMap Row
  /-- Erase counts of blocks, by `blockNum` (R174). -/
  wear : FMap Nat
  spares : List Nat
  rebuilds : List Rebuild
  /-- Pool: AGE_GROUPED policy, floor and count of spare blocks. -/
  ageGrouped : Bool
  floor : Nat
  spareBlocks : Nat
  readOnly : Bool
  /-- Becomes READ_ONLY at the next stroke edge (R177). -/
  readOnlyDue : Bool
  /-- Seats by whose level collection runs (R167, R187). -/
  gcActive : List Nat
  gcUrgent : Bool
  /-- Rows since the last wear victim (R174), and the seats by whose spread wear levelling is on. -/
  sinceWear : Nat
  wearing : List Nat
  /-- Size of the SLC cache in 0.00001 % of raw (R175). -/
  slcSize : Nat
  gcRows : Nat
  gcMoved : Nat
  /-- Victim row being collected. -/
  victim : Option Nat
  /-- Regions to resynchronise (R228). -/
  resync : List Nat
  /-- Lost-row table (R236): unrecoverable members by row. -/
  lostRows : FMap (List Nat)
  /-- The table overflowed (R238). -/
  failed : Bool
  /-- Retired blocks: (slot, die, block) as one number. -/
  retired : List Nat
  /-- Copies of a victim's extents whose MOVE has yet to commit, by old address (R170). -/
  copies : FMap Nat
  /-- Pages of retired blocks that have yet to be copied to their spares (R177), by row and member: die and block of the retired one. -/
  salvage : FMap (Nat × Nat)
  deriving DecidableEq, Repr

/-- States of the reshape (*Reshape states*, R246). -/
inductive ReshapeSt where
  | idle | forward | reverse | waiting | finishing
  deriving DecidableEq, Repr

/-- A boundary record (R242). -/
structure Boundary where
  pool : Nat
  boundary : Nat
  start : Nat
  ext : Nat
  seq : Nat
  reverse : Bool
  active : Bool
  src : Nat
  tgt : Nat
  intact : Bool
  deriving DecidableEq, Repr

/-- The package's reshape (R239 to R246). -/
structure Reshape where
  st : ReshapeSt
  pool : Nat
  reverse : Bool
  boundary : Nat
  start : Nat
  src : Nat
  tgt : Nat
  converted : Nat
  /-- Rows since the last boundary record. -/
  sinceRec : Nat
  /-- A reversal waits for the row in progress (R245). -/
  turning : Bool
  /-- Rows below this point of the walk are being done again after a resume (R244). -/
  redo : Option Nat
  /-- Rows converted in this stroke (R241). -/
  inStroke : Nat
  deriving DecidableEq, Repr

/-- Stripes. -/
structure Par where
  groups : FMap Group
  /-- Extents as they lie on flash and in rows, by physical address (R144). -/
  exts : FMap Ext
  reshape : Reshape
  /-- Boundary records, by (seat, slot). -/
  bounds : FMap Boundary
  /-- The slot that a seat's next boundary record takes (R242). -/
  boundNext : FMap Nat
  /-- Inverse cache of each seat, most recently used first (R216): geometry and survivors as one number. -/
  inverses : FMap (List (List Nat))
  deriving DecidableEq, Repr

/-! ### Oar links, blades and the ring (08_blades.md) -/

/-- What a NAND command is for. -/
inductive NandUse where
  | unit (cmd idx : Nat)
  | member (cmd idx member : Nat)
  | program (pool row member : Nat)
  /-- A pad page on a spare block that replaced a retired one (R222). -/
  | pad (pool band member : Nat)
  | erase (pool band member : Nat)
  /-- A programmed page of a retired block is read for its copy on the spare (R177). -/
  | salvage (pool row member : Nat)
  /-- The copy of that page is programmed on the spare. -/
  | copied (pool row member : Nat)
  /-- SUSPEND, RESUME or DIE_RESET. -/
  | control
  deriving DecidableEq, Repr

/-- A NAND command (*Oar command*, R261). -/
structure NandCmd where
  opcode : Nat
  prio : Bool
  slc : Bool
  epoch : Nat
  die : Nat
  block : Nat
  page : Nat
  level : Nat
  mask : Nat
  use : NandUse
  /-- Timed out: its tag stays in use (R267). -/
  late : Bool
  /-- Codewords of a read still to come, and those that have failed to decode, as a mask (R259, R260). -/
  left : Nat
  bad : Nat
  /-- The level that the page's first read used, and the re-reads made since (R196). -/
  start : Nat
  rereads : Nat
  /-- Time at which it was sent, and from which its completion is overdue (R266), in ticks. -/
  sent : Nat
  due : Nat
  /-- Pool entries on whose version it counts as work in flight: entry and epoch (R309). -/
  owns : List (Nat × Nat)
  deriving DecidableEq, Repr

/-- A die as the head schedules it (R263, R197). -/
structure Die where
  /-- Commands not yet sent, oldest first. -/
  queue : List NandCmd
  /-- Times the running program or erase has been suspended; it is suspended now; reads served in this suspension. -/
  suspends : Nat
  suspended : Bool
  served : Nat
  /-- The bridge has said that the operation cannot be suspended (R264). -/
  final : Bool
  /-- A DIE_RESET goes first (R266). -/
  reset : Bool
  /-- A SUSPEND is on its way; the time at which the last suspension ended, in ticks. -/
  suspending : Bool
  resumed : Nat
  deriving DecidableEq, Repr

/-- A DATA frame held for replay (R253). -/
structure OarFrame where
  seq : Nat
  channel : Nat
  payload : List Nat
  deriving DecidableEq, Repr

/-- One oar port of this head. -/
structure OarPort where
  /-- Next sequence, frames held for replay oldest first, replays of the oldest. -/
  nextSeq : Nat
  unacked : List OarFrame
  replays : Nat
  /-- Last sequence received in order; frames received since the last acknowledgement sent. -/
  rxSeq : Nat
  sinceAck : Nat
  /-- Credits owed to the bridge on RDATA, CPL and MGMT. -/
  owed : List Nat
  /-- Credits that the bridge holds on RDATA, CPL and MGMT (R256). -/
  theirs : List Nat
  /-- Frames waiting for credit or window: channel, payload; oldest first. -/
  queue : List (Nat × List Nat)
  /-- Extended stroke at which it began to train or retrain; it is a retrain. -/
  trainAt : Nat
  retrain : Bool
  /-- No NAND command until the session heartbeat is answered (R276); stroke at which it was asked. -/
  heartbeat : Option Nat
  /-- Outstanding commands, by tag. -/
  cmds : FMap NandCmd
  dies : FMap Die
  /-- FEC corrections and replays of each of the last 1,000 strokes, oldest first; replays of this stroke; strokes below both (R255). -/
  fecs : List (Nat × Nat)
  reps : Nat
  below : Nat
  /-- First frame after training has advertised the bridge's buffers. -/
  advertised : Bool
  deriving DecidableEq, Repr

/-- What the head knows of a slot beside its registers. -/
structure Slot where
  geom : Option BladeGeom
  /-- Extended strokes of power-on and link-up for the bounds of *Blade insertion*. -/
  poweredAt : Nat
  /-- Attestation is running since. -/
  attesting : Option Nat
  /-- Slot of a BLADE_ATTEST command that waits. -/
  attestSlot : Option Nat
  /-- A fence change sent and not acknowledged: owner port, epoch, extended stroke (R278, R279, R322). -/
  fencing : Option (Nat × Nat × Nat)
  /-- Fence epoch in the anchor store (R278). -/
  anchorEpoch : Nat
  /-- Starting read-retry level of blocks, by die * 2^14 + block (R265). -/
  levels : FMap Nat
  /-- Indicator states last asked for, and direction of a request in flight (0 clockwise, 1 counter-clockwise). -/
  indReq : Option Nat
  fw : Nat
  uptime : Nat
  /-- Root at which its certificate chain ended when it last passed attestation (R274, R555). -/
  chain : Nat
  /-- Rail-good flags, button and shown indicators of its last HEALTH reply (R283). -/
  rails : Nat
  button : Bool
  shown : Nat
  deriving DecidableEq, Repr

/-- A sweep (R284). -/
structure Sweep where
  started : Nat
  ccw : Bool
  /-- Slots still to poll in this direction, in order. -/
  todo : List Nat
  /-- Polls outstanding, oldest first: slot, already sent again. -/
  out : List (Nat × Bool)
  cwMiss : Option Nat
  ccwMiss : Option Nat
  deriving DecidableEq, Repr

/-- Oar ports, slots and the ring. -/
structure Bld where
  ports : FMap OarPort
  slots : FMap Slot
  sweep : Option Sweep
  /-- Next SEQ of ring frames. -/
  ringSeq : Nat
  /-- Blade roots enrolled and measurements allowed (R274). -/
  roots : List Nat
  allowed : List Nat
  deriving DecidableEq, Repr

/-! ### The pair (09_pair.md) -/

/-- The payload of a sequenced pair frame. -/
inductive PairLoad where
  | control (c : Ctl)
  | journal (recs : List Delta)
  /-- MAP_SYNC: delta log page sequence, its records of types 8 to 12, rows become programmed (pool, row) (R307). -/
  | mapSync (page : Nat) (recs : List Delta) (rows : List (Nat × Nat))
  | bulk (recs : List Delta) (objs : List CfgObj)
  deriving DecidableEq, Repr

/-- A sequenced frame held until it is acknowledged (R302, R304). -/
structure PairFrame where
  seq : Nat
  load : PairLoad
  /-- Payload bytes. -/
  bytes : Nat
  /-- Retransmissions. -/
  resent : Nat
  /-- Stroke edges waited since the last transmission (R304). -/
  waited : Nat
  deriving DecidableEq, Repr

/-- One seat's lane and stream. -/
structure Lane9 where
  /-- Frames to send by class: C, M, S; oldest first: payload and bytes. -/
  queue : List (List (PairLoad × Nat))
  unacked : List PairFrame
  /-- Frames of the unacknowledged list that must be sent again, oldest first. -/
  again : List Nat
  /-- An acknowledgement is owed (R303); a refusal to report with it (R305). -/
  owed : Bool
  refuse : Option Nat
  /-- A NAK for this expected sequence has been sent (R302). -/
  naked : Option Nat
  /-- Receiving: current KEY_ID, and the stroke at which the one before it ends. -/
  rxKey : Nat
  rxOld : Option Nat
  /-- A rekey asked for and not yet confirmed. -/
  rekey : Option Nat
  /-- Extended stroke since which it has been trained without a break; since which it has been untrained. -/
  trainedAt : Option Nat
  lostAt : Option Nat
  /-- Failed by command (PAIR_LANE_SET). -/
  disabled : Bool
  /-- Received groups awaiting their LAST record: records by group (R127). -/
  held : FMap (List Delta)
  /-- Groups whose records are thrown away (R305), last group number delivered. -/
  dropped : List Nat
  lastGroup : Option Nat
  /-- The sender has announced its next key (R301). -/
  rxNext : Bool
  /-- Ticks the lane has carried frames in this stroke. -/
  busy : Nat
  /-- Tick of this stroke at which the lane's last frame ends (R293). -/
  freeAt : Nat
  /-- Stroke, window and class of the stream's last frame that was deferred to a later window (R297). -/
  late : Option (Nat × Nat × Nat)
  /-- Unsequenced frames of the stream that wait for the lane: 6 ACK, 7 NAK (R302, R303). -/
  bare : List Nat
  /-- Stream that the lane served last, by class (R295). -/
  turns : List Nat
  deriving DecidableEq, Repr

/-- The standby view of one seat of the other side (R306). -/
structure Standby where
  /-- Last checkpoint notice: generation, edge, LOG_START. -/
  gen : Nat
  ext : Nat
  logStart : Nat
  /-- Root page address of the notice (R308). -/
  root : Nat
  /-- Deltas of applied groups since the notice, oldest first, with the extended stroke at which each was applied. -/
  overlay : List (Nat × Delta)
  /-- Map sync records since the notice, oldest first; last LOG_PAGE. -/
  sync : List (Nat × Delta)
  page : Nat
  /-- Extents of EXTENT records whose rows are not known programmed, by address. -/
  exts : FMap Ext
  deriving DecidableEq, Repr

/-- What one head knows of the other from HELLO and HEARTBEAT (R314, R316). -/
structure Peer where
  seats : Nat
  side : Nat
  media : Nat
  st : PairSt
  owned : List Nat
  gen : Nat
  term : Nat
  hold : Bool
  epochSum : Nat
  /-- Newest on-media format version that it reads, and its PAIR_MINOR (R312, R547, R548). -/
  reads : Nat
  minor : Nat
  /-- Its locked inputs, and whether it was the stroke reference at its previous join (Pair agreement). -/
  locked : Nat
  wasReference : Bool
  deriving DecidableEq, Repr

/-- One version of an ownership entry, and the entry (R309). -/
structure Own where
  home : Nat
  owner : Nat
  epoch : Nat
  inflight : Nat
  /-- Previous version: owner, epoch, work in flight. -/
  prev : Option (Nat × Nat × Nat)
  deriving DecidableEq, Repr

/-- A claim that is running (R320, R321). -/
structure Claim where
  term : Nat
  started : Nat
  /-- Replies by slot: the side the record names. -/
  replies : FMap Nat
  asked : List Nat
  /-- It claims its home side from ALONE (R315). -/
  boot : Bool
  deriving DecidableEq, Repr

/-- A takeover that waits for its fences (*Takeover timeline*). -/
structure Take where
  sides : List Nat
  /-- Stroke of the last heartbeat received. -/
  heard : Nat
  deriving DecidableEq, Repr

/-- A failback or handover in progress (*Failback timeline*). -/
structure Failback where
  f : Nat
  /-- Sides that move. -/
  sides : List Nat
  /-- 0 named, 1 Change reported, 2 fences raised, 3 anchors written. -/
  step : Nat
  /-- Slot of the PAIR_HANDOVER. -/
  slot : Option Nat
  /-- This head is the one that returns. -/
  incoming : Bool
  deriving DecidableEq, Repr

/-- The pair. -/
structure Pair where
  st : PairSt
  /-- Sides this head owns (R292). -/
  sides : List Nat
  lanes : FMap Lane9
  view : FMap Standby
  peer : Option Peer
  /-- Ownership entries, ANA groups by index, pools by 4,096 + index. -/
  own : FMap Own
  /-- Ownership changes that both heads install at a stroke: entry, owner, epoch, stroke. -/
  ownAt : List (Nat × Nat × Nat × Nat)
  claim : Option Claim
  /-- Undecided claims in this arming; stroke at which the next claim is sent. -/
  undecided : Nat
  retryAt : Option Nat
  /-- Largest term or fence epoch held (R320). -/
  term : Nat
  take : Option Take
  failback : Option Failback
  hold : Bool
  /-- Layout to apply at a stroke: C, S, guard, stroke (R298). -/
  windows : Option (Nat × Nat × Nat × Nat)
  /-- An authentic heartbeat has arrived since the last close of a C window. -/
  heard : Bool
  /-- Stroke of the last authentic heartbeat. -/
  lastHeard : Nat
  /-- The head was armed by a heartbeat of an ARMED peer (R317). -/
  byHearing : Bool
  /-- Stroke of the last return from ARMED to PAIRED (R321). -/
  backAt : Option Nat
  /-- Extended stroke at which bring-up reached the join (R315). -/
  joinFrom : Option Nat
  /-- Extended stroke of the last refused join (R312). -/
  refusedAt : Option Nat
  /-- A HELLO has arrived since (R315). -/
  helloSeen : Bool
  /-- Step of *Join steps*. -/
  step : Nat
  /-- Sides recovered, and those to return to. -/
  recovered : List Nat
  returningTo : List Nat
  /-- The standby view of the returning peer is current (R326). -/
  peerCurrent : Bool
  /-- Checkpoint generation before the join's own (step 6 of *Join steps*), and the peer's notice has come since. -/
  joinGen : Nat
  noticed : Bool
  deriving DecidableEq, Repr

/-! ### The Rating engine (10_rating.md) -/

/-- A section of a loop: coefficients b0, b1, b2, a1, a2 in Q2.17, last inputs and outputs (R339). -/
structure Section where
  coef : List Int
  x1 : Int
  x2 : Int
  y1 : Int
  y2 : Int
  deriving DecidableEq, Repr

/-- A loop of a seat. -/
structure Loop where
  cfg : LoopCfg
  sections : List Section
  spEff : Nat
  /-- Last estimate, when there is one. -/
  q : Option Nat
  idle : Bool
  out : Nat
  limit : Bool
  accSat : Bool
  outSat : Bool
  missed : Bool
  misses : Nat
  /-- Class bucket, 1/256 token (R343). -/
  tokens : Int
  /-- A set-point change takes effect at the next computation (R342). -/
  ramp : Bool
  deriving DecidableEq, Repr

/-- A histogram of a class and operation (R334 to R336). -/
structure Hist where
  live : List Nat
  latched : List Nat
  window : List Nat
  /-- Folded in this stroke. -/
  folded : Bool
  deriving DecidableEq, Repr

/-- The Rating engine of one seat. -/
structure RateSeat where
  /-- Loops that are not at their reset entry, by index. -/
  loops : FMap Loop
  /-- Histograms kept, by 2 × class + operation (1 WRITE). -/
  hists : FMap Hist
  /-- Settings that take effect at the next stroke edge: loop, set-point, slope; loop, rate (R349). -/
  setNext : List (Nat × Nat × Nat)
  openNext : List (Nat × Nat)
  /-- A staged table, and whether it commits at the next edge. -/
  staged : FMap LoopCfg
  commit : Bool
  /-- The loops of this stroke have been computed; tick at which the last one computed to its end finished; lowest loop missed. -/
  computed : Bool
  lastEnd : Nat
  firstMiss : Option Nat
  /-- Grants of GC, REBUILD, RESHAPE, SCRUB, SWEEP left; debts are negative (R346). -/
  grants : List Int
  /-- The table as the boathouse holds it (R350). -/
  saved : FMap LoopCfg
  deriving DecidableEq, Repr

/-! ### Snapshots, groups and replication (11_snapshots_replication.md) -/

/-- A consistency group (R352). -/
structure Cg where
  tenant : Nat
  members : List Nat
  deriving DecidableEq, Repr

/-- A snapshot (R354 to R364). -/
structure Snap where
  cg : Nat
  tenant : Nat
  s : Nat
  /-- Members at registration. -/
  members : List Nat
  taken : Bool
  skewed : Bool
  late : Bool
  /-- Registration is held by the peer. -/
  confirmed : Bool
  /-- Extended stroke of the registration; mailbox slot of the SNAP_CREATE that waits. -/
  asked : Nat
  slot : Option Nat
  /-- Directories by member: owner numbers in the map, 0 where this head holds no image of the member. -/
  owners : List Nat
  /-- Deleted: waits for the release sweep (R362). -/
  deleted : Bool
  /-- Split sequences of its members (R361). -/
  split : List Nat
  /-- Settings of each member when its image was taken, for a clone (R363). -/
  params : FMap NsParams
  deriving DecidableEq, Repr

/-- One part of a link (R366): the members of one source side, over one queue pair. -/
structure Part where
  /-- Seat and number of its queue pair. -/
  qp : Option (Nat × Nat)
  /-- Which of the partner's addresses it uses. -/
  addr : Nat
  /-- Session keys are derived (R401); the part is WAITING (R373). -/
  keyed : Bool
  waiting : Bool
  /-- Extended stroke of the last authentic message; next try to reconnect. -/
  heard : Nat
  retryAt : Nat
  /-- Source: the delta of the epoch in transfer, once computed (R367). -/
  delta : Option (List DeltaEnt)
  /-- OPEN has been sent for it; DONE has been sent or, on the target, has arrived. -/
  opened : Bool
  done : Bool
  /-- Next batch; refusals of it; whether its OFFER is out; entries wanted; chain armed. -/
  batch : Nat
  refusals : Nat
  offering : Bool
  wanted : List Nat
  armed : Bool
  /-- Target: number of batches, from OPEN; the batch offered, the handles kept for its HAVE entries, the records received. -/
  batches : Nat
  offered : List DeltaEnt
  held : FMap Nat
  received : FMap (Nat × Stored)
  /-- Commands of this head's own ingest that still carry the batch (R369). -/
  applying : List Nat
  /-- Last applied batch. -/
  applied : Option Nat
  deriving DecidableEq, Repr

/-- A replication link (R365 to R373). -/
structure Link where
  p : LinkParams
  parts : FMap Part
  failed : Bool
  pauseAsked : Bool
  /-- Last committed epoch; epoch in transfer; number of its parts. -/
  epoch : Nat
  cur : Option Nat
  nparts : Nat
  /-- Snapshots: base and that of the epoch in transfer. -/
  base : Option Nat
  snap : Option Nat
  /-- Next interval edge. -/
  next : Nat
  /-- Receiving image: owners by member (target). -/
  image : List Nat
  offeredN : Nat
  sentN : Nat
  bytes : Nat
  skipped : Nat
  refused : Nat
  resumes : Nat
  /-- Status of a link that has FAILED: INCOMPATIBLE, or 0 (R365). -/
  status : Nat
  deriving DecidableEq, Repr

/-- Snapshots and links. -/
structure Snp where
  cgs : FMap Cg
  snaps : FMap Snap
  nextSnap : Nat
  /-- Next owner number of an image in the map. -/
  nextOwner : Nat
  links : FMap Link
  deriving DecidableEq, Repr

/-! ### Keys, seals and measurement (12_trust.md) -/

/-- A key domain (R381, R391 to R397). -/
structure Domain where
  tenant : Nat
  ns : Bool
  gen : Nat
  blocked : Bool
  sweep : Bool
  erasePending : Bool
  shareFk : Bool
  /-- LIVE and SWEEP generations (R393). -/
  live : List Nat
  marked : List Nat
  /-- Extended stroke at which a complete rekey pass found no record under a marked generation (R394). -/
  passAt : Option Nat
  rolledAt : Nat
  /-- A roll to be installed: generation, stroke (R392). -/
  roll : Option (Nat × Nat)
  /-- Number of its dedup key and of its master key. -/
  fk : Nat
  /-- Erase secret: false once overwritten. -/
  secret : Bool
  /-- An erase: effect stroke, slot (R397). -/
  erase : Option (Nat × Option Nat)
  deriving DecidableEq, Repr

/-- Invocation counters of one seat under one data key (R395, R396). -/
structure Counter where
  ctr : Nat
  hwm : Nat
  /-- The mark being written. -/
  writing : Option Nat
  /-- Seals made under the key by this seat (R391). -/
  seals : Nat
  deriving DecidableEq, Repr

/-- Input that a digest context still has to absorb (R383, R384): the context, the bytes left, and those absorbed in its present turn. -/
structure DigJob where
  ctx : Nat
  left : Nat
  took : Nat
  deriving DecidableEq, Repr

/-- The hashing cores of one seat's digest engine (R383, R384). -/
structure DigCores where
  /-- What each core runs, and the context it ran last. -/
  running : FMap DigJob
  last : FMap Nat
  /-- Contexts that wait for a core, in order of arrival. -/
  waiting : List DigJob
  /-- The context that the round robin served last. -/
  turn : Nat
  deriving DecidableEq, Repr

/-- A digest context (R383 to R387). -/
structure DigCtx where
  /-- 1 open, 2 finished, 3 compared. -/
  st : Nat
  alg : Nat
  compareOnly : Bool
  equal : Bool
  error : Bool
  source : Nat
  hostRead : Bool
  count : Nat
  result : List Nat
  deriving DecidableEq, Repr

/-- A secured session of an SPDM requester (R399): over MCTP or DOE, established by FINISH. -/
structure SpdmSession where
  mctp : Bool
  established : Bool
  deriving DecidableEq, Repr

/-- The connection of an SPDM requester (R399): versions, capabilities and algorithms agreed (1, 2, 3), the digest of what has been said, and
the digest that the last signature covered (R400). -/
structure SpdmConn where
  stage : Nat
  transcript : Nat
  signed : Option Nat
  deriving DecidableEq, Repr

/-- The key store and what it keys. -/
structure Keys where
  domains : FMap Domain
  /-- Counters, by `ctrKey` of seat, domain and generation. -/
  ctrs : FMap Counter
  /-- Reservation ring of each seat, intact entries by slot: domain, generation, H, SEQ. -/
  rings : FMap (Nat × Nat × Nat × Nat)
  ringSeq : FMap Nat
  /-- Key slots of each seat, most recently used first: `ctrKey` of kind, domain, generation (R382). -/
  slots : FMap (List Nat)
  /-- Misses in service, by seat: keys asked for. -/
  asked : FMap (List Nat)
  ctxs : FMap DigCtx
  sessions : FMap SpdmSession
  nextSession : Nat
  /-- Connections: 0 over DOE, 1 over MCTP. -/
  conns : FMap SpdmConn
  ownerChain : Option Nat
  partners : List Nat
  /-- The digest cores of each seat. -/
  cores : FMap DigCores
  deriving DecidableEq, Repr

/-! ### The state -/

/-- Reasons a step stops. No meaning of this model stops: every command has an effect the spec gives it, or none because its
condition does not hold, and in both cases the step answers a next state. -/
inductive Fault where
  /-- Raised by no command: kept so that the reasons are a closed, inhabited type. Safe: it never occurs. -/
  | unreachable
  deriving DecidableEq, Repr

/-- Reasons a command is turned away. -/
inductive Refusal where
  /-- Raised by an arm of exec whose command has no meaning yet, with its mnemonic. Safe: the run stops. -/
  | notModelled (mnemonic : String)
  deriving DecidableEq, Repr

/-- Everything the spec gives one head's device, the commands waiting, and the model's own record of what was sent. -/
structure State where
  /-- The register fields that do not hold their reset value, by bit address. -/
  regs : FMap Nat
  bus : Bus
  hw : Hw
  stk : Stk
  keel : Keel
  cox : Cox
  health : Health
  mbx : Mbx
  pci : Pci
  boot : Boot
  pwr : Pwr
  /-- DRAM channels, by (seat, channel). -/
  dram : FMap DramCh
  upd : Upd
  fe : Fe
  nv : Nv
  ing : Ing
  map : MapU
  rds : Rd
  par : Par
  bld : Bld
  pair : Pair
  rate : FMap RateSeat
  snp : Snp
  keys : Keys
  /-- The commands waiting, first in first out. -/
  pending : List Instr
  /-- What the block has sent, newest first (the model's own record). -/
  out : List Out
  /-- Number of open values taken so far (the model's own field; log entry 1). -/
  freeCount : Nat
  deriving DecidableEq, Repr

/-- Straps at reset: low (log entry 3). -/
def Straps.low : Straps := ⟨false, false, 0⟩

/-- A stroke input before its first edge. -/
def StkInput.reset : StkInput := ⟨0, [], 0, 0⟩

/-- The stroke unit at power-up, before the boot ROM releases it: the floors as the device leaves manufacture (R51). -/
def Stk.reset : Stk where
  ext := 65536
  tick := 0
  inA := .reset
  inB := .reset
  active := none
  activeSince := 65536
  preferAt := 65536
  switchTo := none
  slew := .idle
  ramp := none
  steer := 0
  floors := [(0, ⟨65536, 0, true⟩)]
  released := false
  sinceRelease := 0
  lockSeen := false
  wasReference := false
  seatTicks := List.replicate 7 0
  peerLead := 0
  peerSteered := false
  mid := false

/-- The pair logic at power-up. -/
def Pair.reset : Pair where
  st := .alone
  sides := []
  lanes := []
  view := []
  peer := none
  own := []
  ownAt := []
  claim := none
  undecided := 0
  retryAt := none
  term := 0
  take := none
  failback := none
  hold := false
  windows := none
  heard := false
  lastHeard := 0
  byHearing := false
  backAt := none
  joinFrom := none
  refusedAt := none
  helloSeen := false
  step := 0
  recovered := []
  returningTo := []
  peerCurrent := false
  joinGen := 0
  noticed := false

/-- The machine right after its first power-up reset: every register field at its reset value, every table empty. -/
def State.reset : State where
  regs := []
  bus := ⟨[], [], []⟩
  hw := ⟨8, Straps.low, 0, none, 0, [], false⟩
  stk := Stk.reset
  keel := ⟨false, []⟩
  cox := ⟨0, 1, none, none, none, none, []⟩
  health := ⟨[], [], [], [], [], [], 0, 0, 0, none, [], 0, []⟩
  mbx := ⟨[], 0, [], [], [], none, 0⟩
  pci := ⟨false, false, [], [], false, true, [], false, false, false, false, true, false, Aer.reset⟩
  boot := ⟨none, 0, false, none, none, false, [], false, false, false, false, false⟩
  pwr := ⟨[], [], [], false, [], []⟩
  dram := []
  upd := ⟨.empty, none, [], 0, false, false, 0, [], 0, 0, 0, [], [], false, false, none, 0, none⟩
  fe := ⟨[], [], [], [], [], [], []⟩
  nv := ⟨[], [], [], [], [], [], 0, [], []⟩
  ing := ⟨[], [], [], [], [], [], [], [], [], [], 0, []⟩
  map := ⟨[], [], 0, [], [], [], [], [], [], [], [], [], [], [], none, [], [], [], [], [], [], [], [], [], none, none, false, []⟩
  rds := ⟨[], [], [], []⟩
  par := ⟨[], [], ⟨.idle, 0, false, 1, 1, 0, 0, 0, 0, false, none, 0⟩, [], [], []⟩
  bld := ⟨[], [], none, 0, [], []⟩
  pair := Pair.reset
  rate := []
  snp := ⟨[], [], 1, 0, []⟩
  keys := ⟨[], [], [], [], [], [], [], [], 0, [], none, [], []⟩
  pending := []
  out := []
  freeCount := 0

end Sys2Proof.Machine
end

