-- ==== Sys2Proof/Machine/Live.lean ====
section
/-!
DEFINITION. Machine/Live.lean: what the block can tell of itself from its state alone: owners, counts and live levels. The live
counts of the register tables (waiting commands, open rows, free slots and the like) are these functions, shown by
`Machine/Operands.lean`.
-/

namespace Sys2Proof.Machine

/-! ### Sides and seats -/

/-- This head's side (R291). -/
def mySide (s : State) : Nat := b2n s.hw.straps.side

/-- Home seat of a namespace's map and range locks (R139, R103). -/
def homeSeat (s : State) (nsid : Nat) : Nat := nsid % s.hw.seats

/-- Seat and port of a slot (R248). -/
def slotSeat (slot : Nat) : Nat := slot / 12

/-- Key of an ownership entry. -/
def ownKey (pool : Bool) (i : Nat) : Nat := if pool then 4096 + i else i

/-- Whether this head owns a side and acts for it (R292): a side being taken over, once its takeover is complete (R323). -/
def ownsSide (s : State) (side : Nat) : Bool :=
  s.pair.sides.contains side && !(match s.pair.take with | some t => t.sides.contains side | none => false)

/-- The value a register holds, before any view. -/
def raw (s : State) (f : Fld) : Nat := fgetD s.regs f.key f.reset % 2 ^ f.width

/-! ### Namespaces and commands -/

/-- A namespace's steering entry. -/
def nsOf (s : State) (nsid : Nat) : Option Ns := fget s.nv.ns nsid

/-- Settings of the current version. -/
def nsCur (s : State) (nsid : Nat) : Option NsParams := (nsOf s nsid).map (·.cur.p)

/-- Commands of a seat that wait for the engine. -/
def waitingCmds (s : State) (seat : Nat) : FMap Cmd := fkeep s.nv.cmds fun _ c => c.seat == seat && c.stage == .waiting

/-- Priority class of a waiting command (R87); a namespace that does not exist has none, and its commands count as LOW. -/
def cmdClass (s : State) (c : Cmd) : Nat := match nsCur s c.nsid with | some p => p.cls | none => 3

/-- A waiting command's namespace is HELD, or its seat's front end holds commands (R64, R90). -/
def cmdHeld (s : State) (c : Cmd) : Bool :=
  raw s (Reg.FE_PORT_STATUS_HELD c.seat) != 0 || (match nsOf s c.nsid with | some n => n.cur.adm == .held | none => false)

/-- Number of an easy-all class (*Easy-all classes*). -/
def easyNum : EasyClass → Nat
  | .ns => 0 | .tenant => 1 | .group => 2 | .port => 3 | .loopSet => 4

/-- Key of an easy-all. -/
def easyKey (o : EasyObj) : Nat := pairKey (easyNum o.cls) o.num

/-- Easy-alls that hold a waiting command (R424, R425). -/
def easyFor (s : State) (c : Cmd) : List EasyAll :=
  let p := nsCur s c.nsid
  ([easyKey ⟨.ns, c.nsid⟩, easyKey ⟨.port, c.seat⟩] ++
    (match p with | some p => [easyKey ⟨.tenant, p.tenant⟩] | none => [])).filterMap fun k => fget s.mbx.easy k

/-- Collection, rebuild, reshape and scrub of a pool are paused by an easy-all (*Easy-all classes*). -/
def groupHeld (s : State) (pool : Nat) : Bool := fhas s.mbx.easy (easyKey ⟨.group, pool⟩)

/-- A held command has waited as long as its easy-all allows (R425): stroke edges from the later of its arrival and the HELD version. -/
def holdOver (s : State) (c : Cmd) : Bool :=
  cmdHeld s c && (easyFor s c).any fun e => decide (max c.arrived e.installed + e.hold ≤ s.stk.ext)

/-- Whether a command takes catch slots and dirty space (R101). -/
def cmdWrites (c : Cmd) : Bool := match c.op with | .write => true | .writeZeroes => true | .zoneAppend => true | _ => false

/-- Catch slots a command needs: one for each block that carries data (R101); a command above the maximum transfer size of R83 fails at its
take and needs none. -/
def needSlots (c : Cmd) : Nat :=
  if 512 < c.count then 0 else match c.op with | .write => c.count | .zoneAppend => c.count | _ => 0

/-- Dirty bytes a command reserves (R101). -/
def needDirty (c : Cmd) : Nat :=
  if cmdWrites c ∧ (c.count ≤ 512 ∨ c.op = .writeZeroes) then 4272 * c.count else 0

/-- Catch slots in use on a seat. -/
def slotsUsed (s : State) (seat : Nat) : Nat :=
  s.nv.cmds.foldl (fun n e => if e.2.seat == seat then n + e.2.slots else n) 0

/-- Dirty bytes reserved on a seat. -/
def dirtyReserved (s : State) (seat : Nat) : Nat :=
  s.nv.cmds.foldl (fun n e => if e.2.seat == seat then n + e.2.dirty else n) 0

/-- Dirty data of a seat (R133). -/
def dirtyData (s : State) (seat : Nat) : Nat := fgetD s.ing.dirty seat 0

/-- Dirty data plus reservations. -/
def dirtyTotal (s : State) (seat : Nat) : Nat := dirtyData s seat + dirtyReserved s seat

/-- A seat's cap (R133, R134). -/
def capOf (s : State) (seat : Nat) : Nat := raw s (Reg.CAT_CAP seat)

/-- The command would take more catch slots than are free. -/
def shortCatch (s : State) (c : Cmd) : Bool := decide (7680 < slotsUsed s c.seat + needSlots c)

/-- The command would take dirty data plus reservations above the cap. -/
def shortDirty (s : State) (c : Cmd) : Bool := cmdWrites c && decide (capOf s c.seat < dirtyTotal s c.seat + needDirty c)

/-! ### Rating loops as the buckets need them -/

/-- A loop entry at reset (*RATE_ registers*, R350). -/
def loopReset : Loop where
  cfg := ⟨false, 0, false, 0, true, 64881, 10, 64, 0, 0, 0, 4095, 1024, 0, 0, [[0, 0, 0, 0, 0]]⟩
  sections := [⟨[0, 0, 0, 0, 0], 0, 0, 0, 0⟩]
  spEff := 0
  q := none
  idle := false
  out := 1024
  limit := false
  accSat := false
  outSat := false
  missed := false
  misses := 0
  tokens := 0
  ramp := false

/-- The Rating engine of a seat before anything is set. -/
def rateReset : RateSeat := ⟨[], [], [], [], [], false, false, 0, none, [0, 0, 0, 0, 0], []⟩

/-- A seat's Rating engine. -/
def rateSeat (s : State) (seat : Nat) : RateSeat := fgetD s.rate seat rateReset

/-- A seat's loop. -/
def loopOf (s : State) (seat i : Nat) : Loop := fgetD (rateSeat s seat).loops i loopReset

/-- Whether a class bucket counts nothing (R333, R343). -/
def unlimited (l : Loop) : Bool := l.cfg.target != 0 || l.cfg.unlimited

/-- The token bucket of a waiting command's class holds a token (R88, R343). -/
def hasToken (s : State) (c : Cmd) : Bool :=
  match nsCur s c.nsid with
  | some p => let l := loopOf s c.seat p.loop; unlimited l || decide (256 ≤ l.tokens)
  | none => true

/-! ### Rows, groups and blades -/

/-- A seat's open rows, over all pools. -/
def openRows (s : State) (seat : Nat) : Nat :=
  s.par.groups.foldl (fun n g => n + (g.2.rows.filter fun r => r.2.seat == seat && r.2.st == .opened).length) 0

/-- A group, which is also its pool. -/
def groupOf (s : State) (pool : Nat) : Option Group := fget s.par.groups pool

/-- The geometry of new rows. -/
def curGeom (g : Group) : Geom := fgetD g.geoms g.cur ⟨0, 0, []⟩

/-- Consumed count (R214). -/
def consumed (g : Group) : Nat := ((curGeom g).shares.filter fun sh => sh.lost || sh.restarting).length

/-- *Group states* (R214). -/
def groupState (g : Group) : Nat :=
  let c := consumed g
  let m := (curGeom g).m
  if c = 0 then 1 else if c < m then 2 else if c = m then 3 else 4

/-- Key of a content record: the tenant and the handle (R142). -/
def recKey (tenant handle : Nat) : Nat := tenant * 1099511627776 + handle

/-- Key of a zone: namespace and zone number. -/
def zoneKey (nsid zone : Nat) : Nat := nsid * 4294967296 + zone

/-- The page that holds an LBA offset of a zone: that of the last descriptor whose first LBA does not exceed it (R183). -/
def segPage (segs : List (Nat × Nat)) (off : Nat) : Option Nat :=
  (segs.foldl (fun (best : Option (Nat × Nat)) d => if d.2 ≤ off then (match best with
    | some b => if b.2 ≤ d.2 then some d else best
    | none => some d) else best) none).map Prod.fst

/-- The zone of an LBA of a zoned namespace, and the offset in it. -/
def zoneOf (s : State) (nsid lba : Nat) : Option (Nat × Zone × Nat) :=
  match nsCur s nsid with
  | some p => if p.zoned ∧ 0 < p.zoneSize then
      (fget s.map.zones (zoneKey nsid (lba / p.zoneSize))).map fun z => (zoneKey nsid (lba / p.zoneSize), z, lba % p.zoneSize)
    else none
  | none => none

/-- An extent is valid at an address: the record its header names has a LENGTH and names the address (R170); an extent of a zone, that
the zone's descriptors name its page (R183, R184). -/
def extLive (s : State) (a : Nat) (e : Ext) : Bool :=
  if e.handle % 34359738368 = 0 then
    match zoneOf s e.nsid e.lba with
    | some (_, z, off) => segPage z.segs off == some (a / 1024)
    | none => false
  else match fget s.map.recs (recKey e.tenant e.handle) with
    | some r => r.length != 0 && r.extent == a
    | none => false

/-- The 16-byte units that a pool's valid extents occupy. -/
def poolValid (s : State) (pool : Nat) : Nat :=
  s.par.exts.foldl (fun n e => if e.2.pool == pool && extLive s e.1 e.2 then n + e.2.length else n) 0

/-- Rows of a pool: numbered from 1 (R218). -/
def poolRows (g : Group) : Nat := g.pages * g.blocks * g.dies - 1

/-- Free rows of a pool: rows never allocated or freed by the erase of their band. -/
def freeRows (g : Group) : Nat := poolRows g - g.rows.length

/-- Capacity of a pool in 16-byte units. -/
def poolCapacity (g : Group) : Nat := poolRows g * (curGeom g).k * 1024

/-- Fill of a pool in percent, rounded down (R175). -/
def poolFill (s : State) (pool : Nat) (g : Group) : Nat :=
  if poolCapacity g = 0 then 0 else min 100 (poolValid s pool * 100 / poolCapacity g)

/-- A slot's state beside its registers. -/
def slotOf (s : State) (n : Nat) : Slot := fgetD s.bld.slots n ⟨none, 0, none, none, none, 0, [], none, 0, 0, 0, 0, false, 0⟩

/-- An oar port with nothing outstanding, its counters at zero. -/
def portReset : OarPort := ⟨0, [], 0, 4095, 0, [0, 0, 0], [64, 256, 8], [], 0, false, none, [], [], [], 0, 0, false⟩

/-- The port of a slot. -/
def portOf (s : State) (n : Nat) : OarPort := fgetD s.bld.ports n portReset

/-! ### Pair lanes -/

/-- A lane before anything has been sent. -/
def laneReset : Lane9 := ⟨[[], [], []], [], [], false, none, none, 0, none, none, none, none, false, [], [], none, false, 0, 0, none, [], [0, 0, 0]⟩

/-- A seat's lane and stream. -/
def lane9 (s : State) (seat : Nat) : Lane9 := fgetD s.pair.lanes seat laneReset

/-- The number of *Pair states* (R311). -/
def pairStNum : PairSt → Nat
  | .alone => 0 | .joining => 1 | .paired => 2 | .armed => 3 | .solo => 4 | .fenced => 5 | .returning => 6

/-! ### Counts that registers show -/

/-- Seat named in a handle (R142). -/
def handleSeat (h : Nat) : Nat := h / 34359738368 % 16

/-- Side named in a handle. -/
def handleSide (h : Nat) : Nat := h / 549755813888 % 2

/-- Home seat of a record, by its key. -/
def recSeat (s : State) (k : Nat) : Nat := handleSeat (k % 1099511627776) % s.hw.seats

/-- Number of entries of a table that satisfy a condition. -/
def countWhere {V : Type} (m : FMap V) (p : Nat → V → Bool) : Nat := (fkeep m p).length

/-- A write command waits for dirty space (R135). -/
def hardNow (s : State) (seat : Nat) : Bool := (waitingCmds s seat).any fun e => shortDirty s e.2

/-- Dirty data is at or above the soft level (R135). -/
def softNow (s : State) (seat : Nat) : Bool :=
  decide (capOf s seat * min 100 (raw s (Reg.CAT_SOFT_PCT seat)) ≤ dirtyData s seat * 100)

/-- Delta records of a seat that are not yet on flash (MAP_DLOG_PENDING): in the buffer, or in a page not yet programmed. -/
def dlogPending (s : State) (seat : Nat) : Nat :=
  s.map.dlog.foldl (fun n p => if p.seat == seat && !p.programmed then n + p.recs.length else n) (fgetD s.map.dbuf seat []).length

/-- References to a dictionary slot: live records compressed with it, and jobs in flight that have matched it (R119). -/
def dictRefs (s : State) (d : Nat) : Nat :=
  countWhere s.map.recs (fun _ r => r.length != 0 && r.mode == 2 && r.dict == d) +
  countWhere s.ing.blks (fun _ b => b.dict == some d && b.stage != .done) +
  s.ing.grps.foldl (fun n g => n + g.2.recs.countP fun x => match x.record with | some r => r.mode == 2 && r.dict == d | none => false) 0

/-- A geometry as a register field shows it (R247). -/
def geomBits (g : Geom) : Nat := g.k % 64 + g.m % 8 * 64 + (g.k + g.m) % 64 * 65536

/-- A geometry of the group being reshaped. -/
def reshapeGeom (s : State) (i : Nat) : Nat :=
  match groupOf s s.par.reshape.pool with
  | some g => (match fget g.geoms i with | some x => geomBits x | none => 0)
  | none => 0

/-- The number of *Reshape states*. -/
def reshapeNum : ReshapeSt → Nat
  | .idle => 0 | .forward => 1 | .reverse => 2 | .waiting => 3 | .finishing => 4

/-- Directories that name a page (R359). -/
def shareCount (s : State) (page : Nat) : Nat := (s.map.dirs.filter fun d => d.2.page == page).length

/-- Bits of a list of truth values, the first lowest. -/
def bitsOf (l : List Bool) : Nat := l.foldr (fun b n => b2n b + 2 * n) 0

/-- The loop that a seat's live window shows (R351). -/
def loopShown (s : State) (n : Nat) : Loop := loopOf s n (raw s (Reg.RATE_LOOP_SELECT_INDEX n))

/-- The histogram window of the selected loop's input. -/
def histShown (s : State) (n : Nat) : List Nat :=
  let l := loopShown s n
  match fget (rateSeat s n).hists (2 * l.cfg.input + b2n l.cfg.write) with
  | some h => h.window
  | none => []

/-- A sticky flag of a loop is set. -/
def loopFlagged (l : Loop) : Bool := l.accSat || l.outSat || l.missed

/-- Cost of a loop in core cycles (R347). -/
def loopCost (l : Loop) : Nat := 12 + 5 * l.sections.length

/-- Cost of the enabled loops of a seat (R348). -/
def rateCost (s : State) (n : Nat) : Nat :=
  (rateSeat s n).loops.foldl (fun c e => if e.2.cfg.enable then c + loopCost e.2 else c) 0

/-- A seat is pinned (R487): a controller of a SPRINT tenant has a queue pair in state ready on it. -/
def seatPinned (s : State) (n : Nat) : Bool :=
  s.nv.ctrls.any fun e => keyHi e.1 == n &&
    (match (e.2.subsys.bind fun x => fget s.nv.subsys x).bind fun x => fget s.nv.tenants x.tenant with
     | some t => t.sprint
     | none => false) &&
    (e.2.adminQp :: e.2.ioQps).any fun q => match fget s.fe.qps (pairKey n q) with | some x => x.st == .ready | none => false

/-- State of a power unit of a seat: 0 ROW, 1 PADDLE, 2 EASY (R480). -/
def unitState (s : State) (n u : Nat) : Nat := raw s (Reg.PWR_UNIT_STATE_STATE n u)

/-- Power units. -/
def unitCount : Nat := 18

/-- Commands in a seat's page-fill queue (R146): each once, however many of its lookups wait there. -/
def fillWaiters (s : State) (seat : Nat) : Nat := ((fgetD s.map.fills seat []).map fun x => x.2.1).eraseDups.length

/-- Shares of a blade that groups use or rebuild onto (R211). -/
def sharesCount (s : State) (slot : Nat) : Nat :=
  (s.par.groups.foldl (fun (l : List Nat) g =>
    l ++ (g.2.geoms.foldl (fun (l : List Nat) x => l ++ (x.2.shares.filter fun sh => sh.slot == slot && !sh.lost).map (·.idx)) [])
      ++ (g.2.rebuilds.filter fun r => r.target.slot == slot).map fun r => r.target.idx) []).eraseDups.length

/-- Fields of a seat's window that show live values. -/
def viewSeat (s : State) (n key : Nat) : Option Nat :=
  if key = (Reg.SEAT_ID_NUMBER n).key then some n
  else if key = (Reg.SEAT_ID_STROKE_SEAT n).key then some (b2n (n == 0))
  else if key = (Reg.SEAT_ID_COX_ACTIVE n).key then some (b2n (n == s.cox.active))
  else if key = (Reg.SEAT_ID_COX_STANDBY n).key then some (b2n (n == s.cox.standby))
  else if key = (Reg.PWR_STATUS_PINNED n).key then some (b2n (seatPinned s n))
  else if key = (Reg.PWR_PADDLE_MAP_UNITS n).key then some (bitsOf ((List.range unitCount).map fun u => unitState s n u == 1))
  else if key = (Reg.PWR_EASY_MAP_UNITS n).key then some (bitsOf ((List.range unitCount).map fun u => unitState s n u == 2))
  else if key = (Reg.DRM_STATUS_SELF_REFRESH n).key then some (b2n (unitState s n 12 == 2))
  else if (List.range unitCount).any (fun u => key == (Reg.PWR_UNIT_STATE_PINNED n u).key) then
    some (b2n (seatPinned s n || raw s Reg.HLD_STATUS_PHASE != 0))
  else if key = (Reg.FE_QP_ACTIVE_COUNT n).key then some (countWhere s.fe.qps fun k q => keyHi k == n && q.st != .free)
  else if key = (Reg.FE_MR_DRAINING_COUNT n).key then some (countWhere s.fe.mrs fun _ m => m.prev.isSome)
  else if key = (Reg.FE_BLOCK_COUNT_COUNT n).key then some (countWhere s.fe.blocked fun k _ => keyHi k == n)
  else if key = (Reg.NVQ_HELD_COUNT n).key then some (countWhere (waitingCmds s n) fun _ c => cmdHeld s c)
  else if key = (Reg.NVQ_WR_WAIT_CATCH_COUNT n).key then some (countWhere (waitingCmds s n) fun _ c => shortCatch s c)
  else if key = (Reg.NVQ_WR_WAIT_DIRTY_COUNT n).key then some (countWhere (waitingCmds s n) fun _ c => shortDirty s c)
  else if key = (Reg.CAT_STATUS_SOFT n).key then some (b2n (softNow s n))
  else if key = (Reg.CAT_STATUS_HARD n).key then some (b2n (hardNow s n))
  else if key = (Reg.CAT_STATUS_CATCH_FULL n).key then some (b2n ((waitingCmds s n).any fun e => shortCatch s e.2))
  else if key = (Reg.CAT_SLOTS_FREE_COUNT n).key then some (7680 - slotsUsed s n)
  else if key = (Reg.CAT_DIRTY n).key then some (dirtyTotal s n)
  else if key = (Reg.CAT_OPEN_ROWS_COUNT n).key then some (openRows s n)
  else if key = (Reg.CMP_LANES_BUSY_LANES n).key then
    some (2 ^ min 8 (countWhere s.ing.blks fun k b => b.job && (match fget s.nv.cmds (keyHi k) with
      | some c => c.seat == n | none => false)) - 1)
  else if key = (Reg.MAP_DLOG_PENDING_COUNT n).key then some (dlogPending s n)
  else if key = (Reg.MAP_REC_LIVE n).key then some (countWhere s.map.recs fun k r => recSeat s k == n && r.length != 0)
  else if key = (Reg.MAP_REF_SATURATED_COUNT n).key then
    some (countWhere s.map.recs fun k r => recSeat s k == n && r.refs == 1048575)
  else if key = (Reg.MAP_STATUS_REF_SWEEP n).key then
    some (b2n (decide (0 < (rateSeat s n).grants.getD 4 0) && s.map.recs.any fun e => recSeat s e.1 == n && e.2.refs == 1048575))
  else if key = (Reg.MAP_STATUS_DEALLOC_BACKLOG n).key then some (b2n (decide (16777216 < fgetD s.map.backlog n 0)))
  else if key = (Reg.MAP_PAGE_FILL_WAIT_COUNT n).key then some (fillWaiters s n)
  else if key = (Reg.MAP_TC_LANES_BUSY_LANES n).key then
    some (bitsOf ((List.range 16).map fun l => match fget s.map.tc n with | some t => fhas t.lanes l | none => false))
  else if key = (Reg.PAR_RESHAPE_STATE_STATE n).key then some (reshapeNum s.par.reshape.st)
  else if key = (Reg.PAR_RESHAPE_STATE_REVERSE n).key then some (b2n s.par.reshape.reverse)
  else if key = (Reg.PAR_RESHAPE_STATE_POOL n).key then some s.par.reshape.pool
  else if key = (Reg.PAR_RESHAPE_BOUNDARY_ROW n).key then some s.par.reshape.boundary
  else if key = (Reg.PAR_RESHAPE_START_ROW n).key then some s.par.reshape.start
  else if key = (Reg.PAR_RESHAPE_SRC_GEOM_GEOM n).key then some (reshapeGeom s s.par.reshape.src)
  else if key = (Reg.PAR_RESHAPE_TGT_GEOM_GEOM n).key then some (reshapeGeom s s.par.reshape.tgt)
  else if key = (Reg.PAR_RESHAPE_CONVERTED n).key then some s.par.reshape.converted
  else if key = (Reg.PAIR_LANE_UNACKED_COUNT n).key then some (lane9 s n).unacked.length
  else if key = (Reg.PAIR_LANE_GROUPS_HELD_COUNT n).key then some (lane9 s n).held.length
  else if key = (Reg.CIP_SLOTS_USED_COUNT n).key then some (fgetD s.keys.slots n []).length
  else if key = (Reg.RATE_COST_CYCLES n).key then some (rateCost s n)
  else if key = (Reg.RATE_LOOPS_ENABLED_COUNT n).key then some (countWhere (rateSeat s n).loops fun _ l => l.cfg.enable)
  else if key = (Reg.RATE_LOOP_CFG_ENABLE n).key then some (b2n (loopShown s n).cfg.enable)
  else if key = (Reg.RATE_LOOP_CFG_TARGET n).key then some (loopShown s n).cfg.target
  else if key = (Reg.RATE_LOOP_CFG_SECTIONS n).key then some ((loopShown s n).sections.length - 1)
  else if key = (Reg.RATE_LOOP_CFG_INPUT_OP n).key then some (b2n (loopShown s n).cfg.write)
  else if key = (Reg.RATE_LOOP_CFG_UNLIMITED n).key then some (b2n (loopShown s n).cfg.unlimited)
  else if key = (Reg.RATE_LOOP_CFG_INPUT n).key then some (loopShown s n).cfg.input
  else if key = (Reg.RATE_LOOP_QUANT_QUANT n).key then some (loopShown s n).cfg.quant
  else if key = (Reg.RATE_LOOP_QUANT_DECAY n).key then some (loopShown s n).cfg.decay
  else if key = (Reg.RATE_LOOP_QUANT_MIN_COUNT n).key then some (loopShown s n).cfg.minCount
  else if key = (Reg.RATE_LOOP_SP_SP n).key then some (loopShown s n).cfg.sp
  else if key = (Reg.RATE_LOOP_SLOPE_SLOPE n).key then some (loopShown s n).cfg.slope
  else if key = (Reg.RATE_LOOP_SP_EFF_SP n).key then some (loopShown s n).spEff
  else if key = (Reg.RATE_LOOP_MEASURED_Q n).key then some ((loopShown s n).q.getD 0)
  else if key = (Reg.RATE_LOOP_MEASURED_IDLE n).key then some (b2n (loopShown s n).idle)
  else if key = (Reg.RATE_LOOP_OUT_RATE n).key then some (loopShown s n).out
  else if key = (Reg.RATE_LOOP_OUT_LIMIT n).key then some (b2n (loopShown s n).limit)
  else if key = (Reg.RATE_LOOP_LIMITS_MIN n).key then some (loopShown s n).cfg.min
  else if key = (Reg.RATE_LOOP_LIMITS_MAX n).key then some (loopShown s n).cfg.max
  else if key = (Reg.RATE_LOOP_FLAGS_ACC_SAT n).key then some (b2n (loopShown s n).accSat)
  else if key = (Reg.RATE_LOOP_FLAGS_OUT_SAT n).key then some (b2n (loopShown s n).outSat)
  else if key = (Reg.RATE_LOOP_FLAGS_MISS n).key then some (b2n (loopShown s n).missed)
  else if key = (Reg.RATE_LOOP_MISSES_COUNT n).key then some (loopShown s n).misses
  else if key = (Reg.RATE_BKT_NOMINAL_TOKENS n).key then some (loopShown s n).cfg.nominal
  else if key = (Reg.RATE_BKT_DEPTH_TOKENS n).key then some (loopShown s n).cfg.depth
  else if key = (Reg.RATE_BKT_TOKENS_COUNT n).key then some (twos 32 (loopShown s n).tokens)
  else
    (List.range 4).findSome? (fun c =>
      if key = (Reg.NVQ_WAITING_COUNT n c).key then some (countWhere (waitingCmds s n) fun _ x => cmdClass s x == c)
      else if key = (Reg.NVQ_INELIGIBLE_COUNT n c).key then
        some (countWhere (waitingCmds s n) fun _ x => cmdClass s x == c && !hasToken s x)
      else none) <|>
    (if (Reg.RATE_LOOP_COEF_COEF n 0 0).key ≤ key && key ≤ (Reg.RATE_LOOP_COEF_COEF n 3 4).key then
      let i := (key - (Reg.RATE_LOOP_COEF_COEF n 0 0).key) / 32
      (match (loopShown s n).sections[i / 5]? with
        | some x => some (twos 20 (x.coef.getD (i % 5) 0))
        | none => some 0)
    else if (Reg.RATE_HIST_COUNT n 0).key ≤ key && key ≤ (Reg.RATE_HIST_COUNT n 31).key then
      some ((histShown s n).getD ((key - (Reg.RATE_HIST_COUNT n 0).key) / 32) 0)
    else if (Reg.RATE_FLAGGED_LOOPS n 0).key ≤ key && key ≤ (Reg.RATE_FLAGGED_LOOPS n 127).key then
      let i := (key - (Reg.RATE_FLAGGED_LOOPS n 0).key) / 32
      some (bitsOf ((List.range 32).map fun j => loopFlagged (loopOf s n (32 * i + j))))
    else if (Reg.CMP_DICT_REFS n 0).key ≤ key && key ≤ (Reg.CMP_DICT_REFS n 255).key then
      some (dictRefs s ((key - (Reg.CMP_DICT_REFS n 0).key) / 64))
    else (List.range 12).findSome? fun p =>
      if key = (Reg.OAR_PORT_STATUS_OUTSTANDING n p).key then some (portOf s (12 * n + p)).cmds.length
      else if key = (Reg.OAR_PORT_STATUS_PADDLE n p).key then
        some (b2n (unitState s n 9 == 1 && (raw s (Reg.OAR_PORT_STATUS_STATE n p) == 2 || raw s (Reg.OAR_PORT_STATUS_STATE n p) == 3)))
      else none)

/-- Extents of the lost-extent list that belong to a pool. -/
def lostLbas (s : State) (pool : Nat) : Nat := countWhere s.map.lost fun _ p => p == pool

/-- Dirty regions of a pool (R225): those that hold a row open or not yet programmed on every member; the boathouse's while a page of a
delta log of this head is not yet programmed or a checkpoint is being written. -/
def dirtyRegions (s : State) (g : Group) : Nat :=
  ((g.rows.filter fun r => r.2.st == .opened || r.2.st == .closed).map fun r => r.1 / 16384).eraseDups.length +
    b2n (s.map.ckpt.isSome || s.map.dlog.any fun p => !p.programmed)

/-- Erase counts of the blocks of a pool: those of its bands and of spares taken, a block never erased counting 0 (R174). -/
def poolWear (g : Group) : List Nat :=
  let l := (g.wear.filter fun e => !g.retired.contains e.1).map (·.2)
  if l.length < (curGeom g).shares.length * g.dies * g.blocks then 0 :: l else l

/-- Fields that show the selected pool (MAP_POOL_SELECT), the selected group (PAR_GROUP_SELECT) and the parity unit's live state. -/
def viewPool (s : State) (n key : Nat) : Option Nat :=
  let none_ : Group := ⟨0, [], 0, 0, 0, 0, 0, [], [], [], [], [], false, 0, 0, false, false, [], false, 0, [], 0, 0, 0, none, [], [], false, [], [], []⟩
  let mp := raw s (Reg.MAP_POOL_SELECT_POOL n)
  let m := (groupOf s mp).getD none_
  let has := (groupOf s mp).isSome
  let wear := poolWear m
  let gp := raw s (Reg.PAR_GROUP_SELECT_POOL n)
  let g := (groupOf s gp).getD none_
  let hasG := (groupOf s gp).isSome
  let rb := g.rebuilds.head?
  if key = (Reg.MAP_POOL_STATE_STATE n).key then some (if !has then 0 else if m.readOnly then 2 else 1)
  else if key = (Reg.MAP_POOL_STATE_POLICY n).key then some (b2n m.ageGrouped)
  else if key = (Reg.MAP_POOL_STATE_GC_ACTIVE n).key then some (b2n (m.gcActive != []))
  else if key = (Reg.MAP_POOL_STATE_GC_URGENT n).key then some (b2n m.gcUrgent)
  else if key = (Reg.MAP_POOL_STATE_FILL n).key then some (if has then poolFill s mp m else 0)
  else if key = (Reg.MAP_POOL_STATE_SLC_TARGET n).key then some (m.slcSize / 1000)
  else if key = (Reg.MAP_POOL_FREE_ROWS_COUNT n).key then some (freeRows m)
  else if key = (Reg.MAP_POOL_ROWS_COUNT n).key then some (poolRows m)
  else if key = (Reg.MAP_POOL_SPARES_COUNT n).key then some m.spareBlocks
  else if key = (Reg.MAP_POOL_SPARE_FLOOR_COUNT n).key then some m.floor
  else if key = (Reg.MAP_POOL_ERASE_MIN_COUNT n).key then some (wear.foldl min (wear.headD 0))
  else if key = (Reg.MAP_POOL_ERASE_MAX_COUNT n).key then some (wear.foldl max 0)
  else if key = (Reg.MAP_POOL_GC_ROWS n).key then some m.gcRows
  else if key = (Reg.MAP_POOL_GC_MOVED n).key then some m.gcMoved
  else if key = (Reg.MAP_POOL_SLC_ROWS_COUNT n).key then some (countWhere m.rows fun _ r => r.slc)
  else if key = (Reg.PAR_STATUS_RESYNC n).key then some (b2n (s.par.groups.any fun x => !x.2.resync.isEmpty))
  else if key = (Reg.PAR_STATUS_REBUILD n).key then
    some (b2n (raw s (Reg.PAR_CTRL_REBUILD_EN n) != 0 && s.par.groups.any fun x => !x.2.rebuilds.isEmpty))
  else if key = (Reg.PAR_STATUS_RESHAPE n).key then some (b2n (s.par.reshape.st == .forward || s.par.reshape.st == .reverse))
  else if key = (Reg.PAR_STATUS_NO_SPARE n).key then
    some (b2n (s.par.groups.any fun x => x.2.geoms.any fun y => y.2.shares.any fun sh =>
      sh.lost && !(x.2.rebuilds.any fun r => r.slot == sh.slot && r.idx == sh.idx)))
  else if key = (Reg.PAR_STATUS_LOST_TABLE_FULL n).key then some (b2n (s.par.groups.any fun x => x.2.failed))
  else if key = (Reg.PAR_GROUP_STATE_STATE n).key then some (if hasG then groupState g else 0)
  else if key = (Reg.PAR_GROUP_STATE_REBUILDING n).key then some (b2n !g.rebuilds.isEmpty)
  else if key = (Reg.PAR_GROUP_STATE_RESHAPING n).key then some (b2n (hasG && s.par.reshape.st != .idle && s.par.reshape.pool == gp))
  else if key = (Reg.PAR_GROUP_STATE_RESYNCING n).key then some (b2n !g.resync.isEmpty)
  else if key = (Reg.PAR_GROUP_STATE_CONSUMED n).key then some (min 7 (consumed g))
  else if key = (Reg.PAR_GROUP_GEOM_GEOM n).key then some (if hasG then geomBits (curGeom g) else 0)
  else if key = (Reg.PAR_GROUP_LOST n).key then some (bitsOf ((curGeom g).shares.map (·.lost)))
  else if key = (Reg.PAR_DIRTY_REGIONS_COUNT n).key then some (if hasG then dirtyRegions s g else 0)
  else if key = (Reg.PAR_LOST_ROWS_COUNT n).key then some g.lostRows.length
  else if key = (Reg.PAR_LOST_LBAS n).key then some (if hasG then lostLbas s gp else 0)
  else if key = (Reg.PAR_REBUILD_TARGET_SLOT n).key then some (match rb with | some r => r.target.slot | none => 0)
  else if key = (Reg.PAR_REBUILD_TARGET_VALID n).key then some (b2n rb.isSome)
  else if key = (Reg.PAR_REBUILD_TARGET_SHARE n).key then some (match rb with | some r => r.target.idx | none => 0)
  else if key = (Reg.PAR_REBUILD_BANDS_DONE_COUNT n).key then some (match rb with | some r => r.done | none => 0)
  else if key = (Reg.PAR_REBUILD_BANDS_TOTAL_COUNT n).key then some (match rb with | some r => r.total | none => 0)
  else if key = (Reg.PAR_REBUILD_STROKES_STROKES n).key then
    some (match rb with | some r => min 4294967295 (s.stk.ext - r.started) | none => 0)
  else none

/-- Slots whose status word has a W1C bit set (R289), 32 from `32 * i`. -/
def eventSlots (s : State) (i : Nat) : Nat :=
  bitsOf ((List.range 32).map fun j =>
    let n := 32 * i + j
    n < 96 && (raw s (Reg.BLD_SLOT_STATUS_ABP n) != 0 || raw s (Reg.BLD_SLOT_STATUS_PF n) != 0 || raw s (Reg.BLD_SLOT_STATUS_PDC n) != 0
      || raw s (Reg.BLD_SLOT_STATUS_DLLSC n) != 0 || raw s (Reg.BLD_SLOT_STATUS_POWER_REFUSED n) != 0))

/-- Pending snapshots (R354). -/
def pendingSnaps (s : State) : List Nat := (s.snp.snaps.filter fun e => !e.2.taken && !e.2.deleted).map fun e => e.2.s

/-- Fields of the package window that show live values of the storage blocks. -/
def viewPkg (s : State) (key : Nat) : Option Nat :=
  if key = Reg.PAIR_STATUS_STATE.key then some (pairStNum s.pair.st)
  else if key = Reg.PAIR_STATUS_OWNED.key then some (b2n (s.pair.sides.contains 0) + 2 * b2n (s.pair.sides.contains 1))
  else if key = Reg.PAIR_STATUS_HOLD.key then some (b2n (s.pair.hold || (match s.pair.peer with | some p => p.hold | none => false)))
  else if key = Reg.PAIR_STATUS_PEER_HOLD.key then some (b2n (match s.pair.peer with | some p => p.hold | none => false))
  else if key = Reg.PAIR_TERM_TERM.key then some s.pair.term
  else if Reg.PAIR_OWN_ENTRY_VALID.key ≤ key && key ≤ Reg.PAIR_OWN_ENTRY_EPOCH.key then
    let o := fget s.pair.own (ownKey (raw s Reg.PAIR_OWN_SELECT_POOL != 0) (raw s Reg.PAIR_OWN_SELECT_INDEX))
    some (match o with
      | none => 0
      | some o => if key = Reg.PAIR_OWN_ENTRY_VALID.key then 1 else if key = Reg.PAIR_OWN_ENTRY_HOME.key then o.home
        else if key = Reg.PAIR_OWN_ENTRY_OWNER.key then o.owner else if key = Reg.PAIR_OWN_ENTRY_MOVING.key then b2n o.prev.isSome else o.epoch)
  else if key = Reg.PAIR_FAILBACK.key then some (match s.pair.failback with | some f => f.f | none => 0)
  else if key = Reg.HLD_DIRTY.key then some ((List.range s.hw.seats).foldl (fun n i => n + dirtyTotal s i) 0)
  else if key = Reg.MBX_EASY_ACTIVE_COUNT.key then some s.mbx.easy.length
  else if key = Reg.SNP_COUNT_IMAGES.key then
    some ((s.snp.snaps.filter fun e => !e.2.deleted).foldl (fun n e => n + e.2.members.length) 0)
  else if key = Reg.SNP_PENDING_COUNT.key then some (pendingSnaps s).length
  else if key = Reg.SNP_NEXT.key then some ((pendingSnaps s).foldl (fun m x => if m = 0 then x else min m x) 0)
  else if key = Reg.SNP_DELETE_BACKLOG_COUNT.key then some (countWhere s.snp.snaps fun _ x => x.deleted)
  else if key = Reg.SNP_SHARED_PAGES_COUNT.key then some (countWhere s.map.pages fun k _ => decide (1 < shareCount s k))
  else if key = Reg.KEY_DOMAINS_COUNT.key then some s.keys.domains.length
  else if key = Reg.KEY_SPDM_SESSIONS_COUNT.key then some (countWhere s.keys.sessions fun _ x => x.established)
  else if key = Reg.RING_STATUS_STALE_COUNT.key then
    some ((List.range (12 * s.hw.seats)).filter fun n => raw s (Reg.BLD_SLOT_STATUS_STALE n) != 0).length
  else if (Reg.BLD_SLOT_INFO_SHARES 0).key ≤ key ∧ key ≤ (Reg.BLD_SLOT_INFO_SHARES 95).key ∧ (key - (Reg.BLD_SLOT_INFO_SHARES 0).key) % 256 = 0 then
    some (min 4 (sharesCount s ((key - (Reg.BLD_SLOT_INFO_SHARES 0).key) / 256)))
  else (List.range 3).findSome? fun i =>
    if key = (Reg.BLD_EVENT_SLOTS_SLOTS i).key then some (eventSlots s i)
    else if key = (Reg.BLD_PRESENT_SLOTS i).key then
      some (bitsOf ((List.range 32).map fun j => 32 * i + j < 96 && raw s (Reg.BLD_SLOT_STATUS_PDS (32 * i + j)) != 0))
    else if key = (Reg.RING_STALE_SLOTS i).key then
      some (bitsOf ((List.range 32).map fun j => 32 * i + j < 96 && raw s (Reg.BLD_SLOT_STATUS_STALE (32 * i + j)) != 0))
    else none

end Sys2Proof.Machine
end

