-- ==== Sys2Proof/Config.lean ====
section
/-!
DEFINITION. Config.lean: what an implementation fixes and the spec leaves open, as constants without a body.
Nothing in Lean can evaluate one of these, so a statement that holds with them holds for every value of them. What the
block computes by a cryptographic or compression algorithm the spec names but does not write out is here as well: the model
keeps WHEN and FROM WHAT the result is computed, and leaves the function itself open.
-/

namespace Sys2Proof.Config

/-- The n-th value the spec leaves open (AN UNDEFINED VALUE; log entry 1). A step that needs one applies this to the
counter `State.freeCount` and advances the counter. -/
opaque freeValue : Nat → Nat

/-- UPD_PEN (R542): the IANA enterprise number, which the spec calls fixed and gives no number for. -/
opaque pen : Nat

/-- The keyed fingerprint of a block (R108): HMAC-SHA-256 under the domain's dedup key, of the block's bytes and its stored metadata
(user bytes, application tag, reference tag). -/
opaque fingerprint : (key data user app ref : Nat) → Nat

/-- The guard of a block (R105): CRC-64 when wide, otherwise CRC-16, of the block's data. -/
opaque guard : (wide : Bool) → (data : Nat) → Nat

/-- The GCM tag of an extent (R120, R121): of the data key's slot number, the header as additional authenticated data, and the plaintext. -/
opaque extentTag : (key header data user app ref : Nat) → Nat

/-- Length in bytes of a block compressed with a dictionary (R114): the compressor's own function of block and dictionary. -/
opaque compressedLength : (data dict : Nat) → Nat

/-- CRC-32C of the bytes of a record (R522, R528), given as one number. -/
opaque crc32c : Nat → Nat

/-- Address in the boathouse, with OFFSET 0, at which a seat places the page it programs under a sequence (R145, R159; log entry 84). -/
opaque boathouse : (seat seq : Nat) → Nat

/-- Ciphertext and tag of sealing (R389): AES-256-GCM, of key, nonce and plaintext. -/
opaque sealed : (key nonce data : Nat) → Nat

/-- A signature by the alias key over a transcript (R399, R400). -/
opaque sign : (key transcript : Nat) → Nat

/-- A digest (R383) by algorithm of the bytes taken so far. -/
opaque digest : (alg data : Nat) → Nat

/-- A key derived in the hierarchy (R380, R381): of a parent key and a label. -/
opaque derive : (parent label : Nat) → Nat

/-- The contents of word `w` of the anchor store of a seat where the spec gives no layout for that word (R516; log entry 30). -/
opaque anchorWord : (seat w version : Nat) → Nat

/-- Bytes on the wire of the packets that carry so many bytes of a message at a path MTU (R98: the spec gives no header lengths). -/
opaque frameBytes : (payload mtu : Nat) → Nat

/-- The priority of the packets a queue pair sends (R63: the spec names none). -/
opaque txPriority : (seat qp : Nat) → Nat

/-- Value of an NVMe feature that no Set Features has set (R80 names no default). -/
opaque feature : Nat → Nat

/-- Value of a controller property that no Property Set has set (R80 gives none). -/
opaque property : Nat → Nat

end Sys2Proof.Config
end

