-- ==== Sys2Proof/Machine/RegTable.lean ====
section
/-!
DEFINITION. Machine/RegTable.lean: the registers by address, with the access code of every field (R10), for an access through BAR0 or by firmware.
Written by a script from the register field tables of spec/ (the chapters' *_ registers* tables), one row here for one row
there. Reserved bits are not listed (R9).
-/

namespace Sys2Proof.Machine

/-- Registers of the package-common window (R34): addresses from BAR0, part 0. -/
def pkgRegs0 : List RegDef := [
  /- PKG_DURABILITY -/ ⟨0x40, 0, 1, false, [⟨0, 1, .ro, fun _ => 0⟩, ⟨1, 1, .ro, fun _ => 0⟩, ⟨2, 1, .ro, fun _ => 0⟩, ⟨3, 1, .ro, fun _ => 0⟩, ⟨4, 1, .ro, fun _ => 0⟩, ⟨5, 1, .ro, fun _ => 0⟩, ⟨8, 1, .w1cs, fun _ => 0⟩, ⟨31, 1, .ro, fun _ => 0⟩]⟩,
  /- PKG_ID -/ ⟨0x0, 0, 1, false, [⟨0, 8, .ro, fun _ => 8⟩, ⟨8, 8, .ro, fun _ => 192⟩, ⟨16, 16, .ro, fun _ => 2176⟩]⟩,
  /- STK_CTRL -/ ⟨0x10000, 0, 1, false, [⟨0, 1, .rws, fun _ => 0⟩, ⟨1, 1, .rws, fun _ => 1⟩, ⟨2, 1, .wo, fun _ => 0⟩]⟩,
  /- STK_STATUS -/ ⟨0x10004, 0, 1, false, [⟨0, 1, .ro, fun _ => 0⟩, ⟨1, 1, .ro, fun _ => 0⟩, ⟨2, 1, .ro, fun _ => 0⟩, ⟨3, 1, .ro, fun _ => 1⟩, ⟨4, 1, .ro, fun _ => 0⟩, ⟨5, 1, .ro, fun _ => 0⟩, ⟨6, 1, .ro, fun _ => 0⟩, ⟨7, 1, .ro, fun _ => 0⟩]⟩,
  /- STK_EVENTS -/ ⟨0x10008, 0, 1, false, [⟨0, 1, .w1cs, fun _ => 0⟩, ⟨1, 1, .w1cs, fun _ => 0⟩, ⟨2, 1, .w1cs, fun _ => 0⟩, ⟨3, 1, .w1cs, fun _ => 0⟩, ⟨4, 1, .w1cs, fun _ => 0⟩, ⟨5, 1, .w1cs, fun _ => 0⟩, ⟨6, 1, .w1cs, fun _ => 0⟩, ⟨7, 1, .w1cs, fun _ => 0⟩, ⟨8, 1, .w1cs, fun _ => 0⟩]⟩,
  /- STK_EVENT_EN -/ ⟨0x1000c, 0, 1, false, [⟨0, 9, .rws, fun _ => 475⟩]⟩,
  /- STK_COUNT -/ ⟨0x10010, 0, 1, false, [⟨0, 32, .ro, fun _ => 0⟩]⟩,
  /- STK_TICK -/ ⟨0x10014, 0, 1, false, [⟨0, 20, .ro, fun _ => 0⟩]⟩,
  /- STK_EXT -/ ⟨0x10018, 0, 1, true, [⟨0, 64, .ro, fun _ => 0⟩]⟩,
  /- STK_TICK_LATCHED -/ ⟨0x10020, 0, 1, false, [⟨0, 20, .ro, fun _ => 0⟩]⟩,
  /- STK_PERIOD -/ ⟨0x10024, 0, 1, false, [⟨0, 8, .ro, fun _ => 0⟩, ⟨8, 20, .ro, fun _ => 10000⟩]⟩,
  /- STK_INTERVAL_A -/ ⟨0x10028, 0, 1, false, [⟨0, 20, .ro, fun _ => 0⟩]⟩,
  /- STK_INTERVAL_B -/ ⟨0x1002c, 0, 1, false, [⟨0, 20, .ro, fun _ => 0⟩]⟩,
  /- STK_SKEW -/ ⟨0x10030, 0, 1, false, [⟨0, 16, .ro, fun _ => 0⟩]⟩,
  /- STK_PEER_OFFSET -/ ⟨0x10034, 0, 1, false, [⟨0, 16, .ro, fun _ => 0⟩, ⟨16, 16, .ro, fun _ => 0⟩]⟩,
  /- STK_HOLDOVER_STROKES -/ ⟨0x10038, 0, 1, false, [⟨0, 32, .ro, fun _ => 0⟩]⟩,
  /- STK_SWITCH_COUNT -/ ⟨0x1003c, 0, 1, false, [⟨0, 32, .rcs, fun _ => 0⟩]⟩,
  /- STK_LOCKLOSS_A -/ ⟨0x10040, 0, 1, false, [⟨0, 32, .rcs, fun _ => 0⟩]⟩,
  /- STK_LOCKLOSS_B -/ ⟨0x10044, 0, 1, false, [⟨0, 32, .rcs, fun _ => 0⟩]⟩,
  /- STK_FLOOR -/ ⟨0x10048, 0, 1, true, [⟨0, 64, .ro, fun _ => 0⟩]⟩,
  /- STK_PAIR_MISMATCH -/ ⟨0x10050, 0, 1, false, [⟨0, 32, .rcs, fun _ => 0⟩]⟩,
  /- STK_SCHED_INTERVAL -/ ⟨0x10100, 8, 8, false, [⟨0, 32, .rws, fun i => schedIntervalReset i⟩]⟩,
  /- STK_SCHED_PHASE -/ ⟨0x10104, 8, 8, false, [⟨0, 32, .rws, fun i => schedPhaseReset i⟩]⟩,
  /- BLD_CTRL -/ ⟨0x20000, 0, 1, false, [⟨0, 1, .rws, fun _ => 1⟩, ⟨1, 1, .rws, fun _ => 1⟩]⟩,
  /- BLD_EVENT_SLOTS -/ ⟨0x20010, 4, 3, false, [⟨0, 32, .ro, fun _ => 0⟩]⟩,
  /- BLD_PRESENT -/ ⟨0x20020, 4, 3, false, [⟨0, 32, .ro, fun _ => 0⟩]⟩,
  /- BLD_SLOT_CAP -/ ⟨0x21000, 32, 96, false, [⟨0, 1, .ro, fun _ => 1⟩, ⟨1, 1, .ro, fun _ => 1⟩, ⟨2, 1, .ro, fun _ => 0⟩, ⟨3, 1, .ro, fun _ => 1⟩, ⟨4, 1, .ro, fun _ => 1⟩, ⟨5, 1, .ro, fun _ => 1⟩, ⟨6, 1, .ro, fun _ => 1⟩, ⟨7, 8, .ro, fun _ => 0⟩, ⟨15, 2, .ro, fun _ => 0⟩, ⟨17, 1, .ro, fun _ => 0⟩, ⟨18, 1, .ro, fun _ => 1⟩, ⟨19, 13, .ro, fun i => i⟩]⟩,
  /- BLD_SLOT_CTRL -/ ⟨0x21004, 32, 96, false, [⟨0, 1, .rws, fun _ => 1⟩, ⟨1, 1, .rws, fun _ => 1⟩, ⟨3, 1, .rws, fun _ => 1⟩, ⟨5, 1, .rws, fun _ => 1⟩, ⟨6, 2, .rws, fun _ => 3⟩, ⟨8, 2, .rws, fun _ => 3⟩, ⟨10, 1, .rws, fun _ => 1⟩, ⟨12, 1, .rws, fun _ => 1⟩]⟩,
  /- BLD_SLOT_STATUS -/ ⟨0x21008, 32, 96, false, [⟨0, 1, .w1c, fun _ => 0⟩, ⟨1, 1, .w1c, fun _ => 0⟩, ⟨3, 1, .w1c, fun _ => 0⟩, ⟨6, 1, .ro, fun _ => 0⟩, ⟨8, 1, .w1c, fun _ => 0⟩, ⟨16, 1, .ro, fun _ => 0⟩, ⟨17, 1, .ro, fun _ => 0⟩, ⟨18, 1, .ro, fun _ => 0⟩, ⟨19, 1, .ro, fun _ => 0⟩, ⟨20, 1, .ro, fun _ => 0⟩, ⟨21, 1, .ro, fun _ => 0⟩, ⟨22, 1, .ro, fun _ => 0⟩, ⟨23, 1, .w1c, fun _ => 0⟩, ⟨24, 1, .ro, fun _ => 0⟩]⟩,
  /- BLD_SLOT_FENCE -/ ⟨0x2100c, 32, 96, false, [⟨0, 32, .ro, fun _ => 0⟩]⟩,
  /- BLD_SLOT_INFO -/ ⟨0x21010, 32, 96, false, [⟨0, 11, .ro, fun _ => 0⟩, ⟨11, 3, .ro, fun _ => 0⟩, ⟨14, 2, .ro, fun _ => 0⟩, ⟨16, 5, .ro, fun _ => 0⟩]⟩,
  /- BLD_SLOT_HEALTH -/ ⟨0x21014, 32, 96, false, [⟨0, 8, .ro, fun _ => 0⟩, ⟨8, 8, .ro, fun _ => 0⟩, ⟨16, 16, .ro, fun _ => 0⟩]⟩,
  /- BLD_SLOT_LAST -/ ⟨0x21018, 32, 96, true, [⟨0, 64, .ro, fun _ => 0⟩]⟩,
  /- RING_CTRL -/ ⟨0x28000, 0, 1, false, [⟨0, 1, .rws, fun _ => 1⟩, ⟨1, 4, .rws, fun _ => 8⟩]⟩,
  /- RING_STATUS -/ ⟨0x28004, 0, 1, false, [⟨0, 1, .ro, fun _ => 0⟩, ⟨1, 1, .ro, fun _ => 0⟩, ⟨8, 7, .ro, fun _ => 127⟩, ⟨16, 7, .ro, fun _ => 127⟩, ⟨24, 7, .ro, fun _ => 0⟩]⟩,
  /- RING_POLL_TIMEOUT -/ ⟨0x28008, 0, 1, false, [⟨0, 20, .rws, fun _ => 50000⟩]⟩,
  /- RING_SWEEP_STROKES -/ ⟨0x2800c, 0, 1, false, [⟨0, 16, .ro, fun _ => 0⟩]⟩,
  /- RING_SWEEP_LAST -/ ⟨0x28010, 0, 1, true, [⟨0, 64, .ro, fun _ => 0⟩]⟩,
  /- RING_POLL_MISS -/ ⟨0x28018, 0, 1, false, [⟨0, 32, .rc, fun _ => 0⟩]⟩,
  /- RING_CRC_ERR -/ ⟨0x2801c, 0, 1, false, [⟨0, 32, .rc, fun _ => 0⟩]⟩]

/-- Registers of the package-common window (R34): addresses from BAR0, part 1. -/
def pkgRegs1 : List RegDef := [
  /- RING_BUTTON -/ ⟨0x28020, 0, 1, false, [⟨0, 32, .rc, fun _ => 0⟩]⟩,
  /- RING_IND_RETRY -/ ⟨0x28024, 0, 1, false, [⟨0, 32, .rc, fun _ => 0⟩]⟩,
  /- RING_STALE -/ ⟨0x28030, 4, 3, false, [⟨0, 32, .ro, fun _ => 0⟩]⟩,
  /- PAIR_STATUS -/ ⟨0xa0000, 0, 1, false, [⟨0, 3, .ro, fun _ => 0⟩, ⟨3, 1, .ro, fun _ => 0⟩, ⟨4, 1, .ro, fun _ => 0⟩, ⟨5, 1, .ro, fun _ => 0⟩, ⟨8, 2, .ro, fun _ => 0⟩, ⟨16, 8, .ro, fun _ => 0⟩]⟩,
  /- PAIR_EVENTS -/ ⟨0xa0004, 0, 1, false, [⟨0, 1, .w1cs, fun _ => 0⟩, ⟨1, 1, .w1cs, fun _ => 0⟩, ⟨2, 1, .w1cs, fun _ => 0⟩, ⟨3, 1, .w1cs, fun _ => 0⟩, ⟨4, 1, .w1cs, fun _ => 0⟩, ⟨5, 1, .w1cs, fun _ => 0⟩, ⟨6, 1, .w1cs, fun _ => 0⟩, ⟨7, 1, .w1cs, fun _ => 0⟩, ⟨8, 1, .w1cs, fun _ => 0⟩, ⟨9, 1, .w1cs, fun _ => 0⟩, ⟨10, 1, .w1cs, fun _ => 0⟩]⟩,
  /- PAIR_EVENT_EN -/ ⟨0xa0008, 0, 1, false, [⟨0, 11, .rws, fun _ => 2047⟩]⟩,
  /- PAIR_WIN_LAYOUT -/ ⟨0xa000c, 0, 1, false, [⟨0, 10, .ro, fun _ => 200⟩, ⟨10, 12, .ro, fun _ => 1600⟩, ⟨22, 10, .ro, fun _ => 400⟩]⟩,
  /- PAIR_HB_MISSED -/ ⟨0xa0010, 0, 1, false, [⟨0, 16, .ro, fun _ => 0⟩]⟩,
  /- PAIR_CLAIM -/ ⟨0xa0014, 0, 1, false, [⟨0, 16, .rws, fun _ => 100⟩, ⟨16, 4, .rws, fun _ => 8⟩]⟩,
  /- PAIR_FENCE_TIMEOUT -/ ⟨0xa0018, 0, 1, false, [⟨0, 16, .rws, fun _ => 300⟩]⟩,
  /- PAIR_JOIN_WAIT -/ ⟨0xa001c, 0, 1, false, [⟨0, 32, .rws, fun _ => 100000⟩]⟩,
  /- PAIR_REKEY -/ ⟨0xa0020, 0, 1, false, [⟨0, 6, .rws, fun _ => 31⟩]⟩,
  /- PAIR_TERM -/ ⟨0xa0024, 0, 1, false, [⟨0, 32, .ro, fun _ => 0⟩]⟩,
  /- PAIR_TAKEOVER_STROKES -/ ⟨0xa0028, 0, 1, false, [⟨0, 32, .ro, fun _ => 0⟩]⟩,
  /- PAIR_TAKEOVERS -/ ⟨0xa002c, 0, 1, false, [⟨0, 32, .rcs, fun _ => 0⟩]⟩,
  /- PAIR_FAILBACKS -/ ⟨0xa0030, 0, 1, false, [⟨0, 32, .rcs, fun _ => 0⟩]⟩,
  /- PAIR_REFUSED -/ ⟨0xa0034, 0, 1, false, [⟨0, 32, .rcs, fun _ => 0⟩]⟩,
  /- PAIR_VERSION -/ ⟨0xa0038, 0, 1, false, [⟨0, 8, .ro, fun _ => 0⟩, ⟨8, 8, .ro, fun _ => 0⟩, ⟨16, 8, .ro, fun _ => 0⟩, ⟨24, 8, .ro, fun _ => 0⟩]⟩,
  /- PAIR_FAILBACK -/ ⟨0xa0040, 0, 1, true, [⟨0, 64, .ro, fun _ => 0⟩]⟩,
  /- PAIR_OWN_SELECT -/ ⟨0xa0100, 0, 1, false, [⟨0, 12, .rw, fun _ => 0⟩, ⟨12, 1, .rw, fun _ => 0⟩]⟩,
  /- PAIR_OWN_ENTRY -/ ⟨0xa0104, 0, 1, false, [⟨0, 1, .ro, fun _ => 0⟩, ⟨1, 1, .ro, fun _ => 0⟩, ⟨2, 1, .ro, fun _ => 0⟩, ⟨3, 1, .ro, fun _ => 0⟩, ⟨16, 16, .ro, fun _ => 0⟩]⟩,
  /- SNP_CTRL -/ ⟨0x90000, 0, 1, false, [⟨0, 1, .rws, fun _ => 1⟩]⟩,
  /- SNP_EVENTS -/ ⟨0x90004, 0, 1, false, [⟨0, 1, .w1cs, fun _ => 0⟩, ⟨1, 1, .w1cs, fun _ => 0⟩, ⟨2, 1, .w1cs, fun _ => 0⟩, ⟨3, 1, .w1cs, fun _ => 0⟩, ⟨4, 1, .w1cs, fun _ => 0⟩, ⟨5, 1, .w1cs, fun _ => 0⟩, ⟨6, 1, .w1cs, fun _ => 0⟩]⟩,
  /- SNP_EVENT_EN -/ ⟨0x90008, 0, 1, false, [⟨0, 7, .rws, fun _ => 126⟩]⟩,
  /- SNP_COUNT -/ ⟨0x9000c, 0, 1, false, [⟨0, 21, .ro, fun _ => 0⟩]⟩,
  /- SNP_PENDING -/ ⟨0x90010, 0, 1, false, [⟨0, 17, .ro, fun _ => 0⟩]⟩,
  /- SNP_NEXT -/ ⟨0x90014, 0, 1, true, [⟨0, 64, .ro, fun _ => 0⟩]⟩,
  /- SNP_COW_PAGES -/ ⟨0x9001c, 0, 1, false, [⟨0, 32, .rc, fun _ => 0⟩]⟩,
  /- SNP_SHARED_PAGES -/ ⟨0x90020, 0, 1, false, [⟨0, 32, .ro, fun _ => 0⟩]⟩,
  /- SNP_DELETE_BACKLOG -/ ⟨0x90024, 0, 1, false, [⟨0, 21, .ro, fun _ => 0⟩]⟩,
  /- SNP_SKEWED -/ ⟨0x90028, 0, 1, false, [⟨0, 32, .rcs, fun _ => 0⟩]⟩,
  /- SNP_LINK_SELECT -/ ⟨0x90100, 0, 1, false, [⟨0, 8, .rw, fun _ => 0⟩]⟩,
  /- SNP_LINK_STATE -/ ⟨0x90104, 0, 1, false, [⟨0, 3, .ro, fun _ => 0⟩, ⟨3, 1, .ro, fun _ => 0⟩, ⟨4, 1, .ro, fun _ => 0⟩, ⟨5, 1, .ro, fun _ => 0⟩, ⟨16, 12, .ro, fun _ => 0⟩]⟩,
  /- SNP_LINK_EPOCH -/ ⟨0x90108, 0, 1, false, [⟨0, 32, .ro, fun _ => 0⟩]⟩,
  /- SNP_LINK_BATCH -/ ⟨0x9010c, 0, 1, false, [⟨0, 32, .ro, fun _ => 0⟩]⟩,
  /- SNP_LINK_LAG -/ ⟨0x90110, 0, 1, false, [⟨0, 32, .ro, fun _ => 0⟩]⟩,
  /- SNP_LINK_TIMEOUT -/ ⟨0x90114, 0, 1, false, [⟨0, 32, .ro, fun _ => 20000⟩]⟩,
  /- SNP_LINK_OFFERED -/ ⟨0x90118, 0, 1, false, [⟨0, 32, .rc, fun _ => 0⟩]⟩,
  /- SNP_LINK_SENT -/ ⟨0x9011c, 0, 1, false, [⟨0, 32, .rc, fun _ => 0⟩]⟩,
  /- SNP_LINK_BYTES -/ ⟨0x90120, 0, 1, true, [⟨0, 64, .ro, fun _ => 0⟩]⟩]

/-- Registers of the package-common window (R34): addresses from BAR0, part 2. -/
def pkgRegs2 : List RegDef := [
  /- SNP_LINK_SKIPPED -/ ⟨0x90128, 0, 1, false, [⟨0, 32, .rc, fun _ => 0⟩]⟩,
  /- SNP_LINK_REFUSED -/ ⟨0x9012c, 0, 1, false, [⟨0, 32, .rcs, fun _ => 0⟩]⟩,
  /- SNP_LINK_RESUMES -/ ⟨0x90130, 0, 1, false, [⟨0, 32, .rcs, fun _ => 0⟩]⟩,
  /- KEY_STATUS -/ ⟨0x30000, 0, 1, false, [⟨0, 1, .ro, fun _ => 0⟩, ⟨1, 1, .ro, fun _ => 0⟩, ⟨2, 1, .ro, fun _ => 0⟩, ⟨3, 1, .ro, fun _ => 0⟩, ⟨4, 4, .ro, fun _ => 0⟩]⟩,
  /- KEY_EVENTS -/ ⟨0x30004, 0, 1, false, [⟨0, 1, .w1cs, fun _ => 0⟩, ⟨1, 1, .w1cs, fun _ => 0⟩, ⟨2, 1, .w1cs, fun _ => 0⟩, ⟨3, 1, .w1cs, fun _ => 0⟩, ⟨4, 1, .w1cs, fun _ => 0⟩, ⟨5, 1, .w1cs, fun _ => 0⟩, ⟨6, 1, .w1cs, fun _ => 0⟩]⟩,
  /- KEY_EVENT_EN -/ ⟨0x30008, 0, 1, false, [⟨0, 7, .rws, fun _ => 111⟩]⟩,
  /- KEY_SEAL_LIMIT -/ ⟨0x3000c, 0, 1, false, [⟨0, 6, .rws, fun _ => 36⟩]⟩,
  /- KEY_SVN_MIN -/ ⟨0x30010, 0, 1, false, [⟨0, 16, .ro, fun _ => 0⟩]⟩,
  /- KEY_DOMAINS -/ ⟨0x30014, 0, 1, false, [⟨0, 14, .ro, fun _ => 0⟩]⟩,
  /- KEY_ROLLS -/ ⟨0x30018, 0, 1, false, [⟨0, 32, .rcs, fun _ => 0⟩]⟩,
  /- KEY_ROLL_REFUSED -/ ⟨0x3001c, 0, 1, false, [⟨0, 32, .rcs, fun _ => 0⟩]⟩,
  /- KEY_ERASES -/ ⟨0x30020, 0, 1, false, [⟨0, 32, .rcs, fun _ => 0⟩]⟩,
  /- KEY_SPDM_SESSIONS -/ ⟨0x30024, 0, 1, false, [⟨0, 3, .ro, fun _ => 0⟩]⟩,
  /- KEY_OWNER_HASH -/ ⟨0x30040, 4, 12, false, [⟨0, 32, .ro, fun _ => 0⟩]⟩,
  /- KEY_DOMAIN_SELECT -/ ⟨0x30100, 0, 1, false, [⟨0, 13, .rw, fun _ => 0⟩]⟩,
  /- KEY_DOMAIN_STATE -/ ⟨0x30104, 0, 1, false, [⟨0, 1, .ro, fun _ => 0⟩, ⟨1, 1, .ro, fun _ => 0⟩, ⟨2, 1, .ro, fun _ => 0⟩, ⟨3, 1, .ro, fun _ => 0⟩, ⟨4, 1, .ro, fun _ => 0⟩, ⟨5, 1, .ro, fun _ => 0⟩, ⟨16, 16, .ro, fun _ => 0⟩]⟩,
  /- KEY_DOMAIN_LIVE_GENS -/ ⟨0x30108, 0, 1, false, [⟨0, 17, .ro, fun _ => 0⟩]⟩,
  /- KEY_DOMAIN_ROLL -/ ⟨0x3010c, 0, 1, true, [⟨0, 64, .ro, fun _ => 0⟩]⟩,
  /- KEY_DOMAIN_TENANT -/ ⟨0x30114, 0, 1, false, [⟨0, 12, .ro, fun _ => 0⟩]⟩,
  /- MBX_STATUS -/ ⟨0x40000, 0, 1, false, [⟨0, 1, .ro, fun _ => 0⟩, ⟨1, 2, .ro, fun _ => 1⟩, ⟨3, 1, .ro, fun _ => 0⟩]⟩,
  /- MBX_DOORBELL -/ ⟨0x40004, 0, 1, false, [⟨0, 6, .wo, fun _ => 0⟩]⟩,
  /- MBX_ABORT -/ ⟨0x40008, 0, 1, false, [⟨0, 6, .wo, fun _ => 0⟩]⟩,
  /- MBX_DONE_LO -/ ⟨0x40010, 0, 1, false, [⟨0, 32, .w1c, fun _ => 0⟩]⟩,
  /- MBX_DONE_HI -/ ⟨0x40014, 0, 1, false, [⟨0, 32, .w1c, fun _ => 0⟩]⟩,
  /- MBX_BUSY_LO -/ ⟨0x40018, 0, 1, false, [⟨0, 32, .ro, fun _ => 0⟩]⟩,
  /- MBX_BUSY_HI -/ ⟨0x4001c, 0, 1, false, [⟨0, 32, .ro, fun _ => 0⟩]⟩,
  /- MBX_LANE_MAP -/ ⟨0x40020, 4, 8, false, [⟨0, 3, .rws, fun i => i⟩, ⟨4, 3, .rws, fun i => i⟩, ⟨8, 3, .rws, fun i => i⟩, ⟨12, 3, .rws, fun i => i⟩, ⟨16, 3, .rws, fun i => i⟩, ⟨20, 3, .rws, fun i => i⟩, ⟨24, 3, .rws, fun i => i⟩, ⟨28, 3, .rws, fun i => i⟩]⟩,
  /- MBX_EASY_CTRL -/ ⟨0x40040, 0, 1, false, [⟨0, 16, .rws, fun _ => 2000⟩, ⟨16, 16, .rws, fun _ => 6000⟩]⟩,
  /- MBX_EASY_ACTIVE -/ ⟨0x40044, 0, 1, false, [⟨0, 5, .ro, fun _ => 0⟩]⟩,
  /- MBX_EVENTS -/ ⟨0x40048, 0, 1, false, [⟨0, 1, .w1cs, fun _ => 0⟩, ⟨1, 1, .w1cs, fun _ => 0⟩, ⟨2, 1, .w1cs, fun _ => 0⟩, ⟨3, 1, .w1cs, fun _ => 0⟩]⟩,
  /- MBX_COX -/ ⟨0x4004c, 0, 1, false, [⟨0, 4, .ro, fun _ => 0⟩, ⟨4, 1, .ro, fun _ => 0⟩, ⟨5, 1, .ro, fun _ => 0⟩]⟩,
  /- MBX_LAST_GAP -/ ⟨0x40050, 0, 1, false, [⟨0, 16, .ro, fun _ => 0⟩]⟩,
  /- MBX_SWITCHOVERS -/ ⟨0x40054, 0, 1, false, [⟨0, 32, .rcs, fun _ => 0⟩]⟩,
  /- MBX_DRILLS -/ ⟨0x40058, 0, 1, false, [⟨0, 32, .rcs, fun _ => 0⟩]⟩,
  /- MBX_DOORBELL_REFUSED -/ ⟨0x4005c, 0, 1, false, [⟨0, 32, .rc, fun _ => 0⟩]⟩,
  /- MBX_TIMEOUTS -/ ⟨0x40060, 0, 1, false, [⟨0, 32, .rc, fun _ => 0⟩]⟩,
  /- MBX_ABORTS -/ ⟨0x40064, 0, 1, false, [⟨0, 32, .rc, fun _ => 0⟩]⟩,
  /- MBX_HOST_MEM -/ ⟨0x40068, 0, 1, false, [⟨0, 32, .rc, fun _ => 0⟩]⟩,
  /- MBX_RESTARTED -/ ⟨0x4006c, 0, 1, false, [⟨0, 32, .rcs, fun _ => 0⟩]⟩,
  /- MBX_CMDS -/ ⟨0x40070, 0, 1, true, [⟨0, 64, .ro, fun _ => 0⟩]⟩]

/-- Registers of the package-common window (R34): addresses from BAR0, part 3. -/
def pkgRegs3 : List RegDef := [
  /- PKG_BOOT_CTRL -/ ⟨0x100, 0, 1, false, [⟨0, 1, .wo, fun _ => 0⟩]⟩,
  /- PKG_BOOT_STATUS -/ ⟨0x104, 0, 1, false, [⟨0, 4, .ro, fun _ => 0⟩, ⟨8, 8, .ro, fun _ => 0⟩, ⟨16, 8, .ro, fun _ => 0⟩]⟩,
  /- PKG_BOOT_OFFSET -/ ⟨0x108, 0, 1, false, [⟨0, 27, .ro, fun _ => 0⟩]⟩,
  /- PKG_BOOT_VERSION -/ ⟨0x10c, 0, 1, false, [⟨0, 32, .ro, fun _ => 0⟩]⟩,
  /- PKG_BOOT_SVN -/ ⟨0x110, 0, 1, false, [⟨0, 16, .ro, fun _ => 0⟩]⟩,
  /- PKG_BRINGUP -/ ⟨0x114, 0, 1, false, [⟨0, 4, .ro, fun _ => 1⟩, ⟨4, 4, .ro, fun _ => 0⟩, ⟨8, 1, .rws, fun _ => 0⟩, ⟨9, 2, .ro, fun _ => 0⟩]⟩,
  /- PKG_BRINGUP_STROKES -/ ⟨0x118, 0, 1, false, [⟨0, 32, .ro, fun _ => 0⟩]⟩,
  /- PKG_RESET_CAUSE -/ ⟨0x11c, 0, 1, false, [⟨0, 1, .ro, fun _ => 1⟩, ⟨1, 1, .ro, fun _ => 0⟩, ⟨2, 1, .ro, fun _ => 0⟩, ⟨3, 1, .ro, fun _ => 0⟩]⟩,
  /- PKG_OPEN -/ ⟨0x120, 0, 1, true, [⟨0, 64, .ro, fun _ => 0⟩]⟩,
  /- HLD_STATUS -/ ⟨0x50000, 0, 1, false, [⟨0, 3, .ro, fun _ => 0⟩, ⟨3, 1, .ro, fun _ => 0⟩, ⟨4, 1, .ro, fun _ => 0⟩, ⟨5, 1, .ro, fun _ => 0⟩, ⟨6, 1, .ro, fun _ => 0⟩]⟩,
  /- HLD_EVENTS -/ ⟨0x50004, 0, 1, false, [⟨0, 1, .w1cs, fun _ => 0⟩, ⟨1, 1, .w1cs, fun _ => 0⟩, ⟨2, 1, .w1cs, fun _ => 0⟩, ⟨3, 1, .w1cs, fun _ => 0⟩]⟩,
  /- HLD_EVENT_EN -/ ⟨0x50008, 0, 1, false, [⟨0, 4, .rws, fun _ => 15⟩]⟩,
  /- HLD_BUDGET -/ ⟨0x5000c, 0, 1, false, [⟨0, 14, .ro, fun _ => 0⟩, ⟨14, 1, .ro, fun _ => 0⟩]⟩,
  /- HLD_FILTER -/ ⟨0x50010, 0, 1, false, [⟨0, 8, .rws, fun _ => 10⟩]⟩,
  /- HLD_SYSTEM_POOL -/ ⟨0x50014, 0, 1, false, [⟨0, 5, .ro, fun _ => 0⟩, ⟨7, 1, .ro, fun _ => 0⟩, ⟨8, 5, .ro, fun _ => 0⟩, ⟨15, 1, .ro, fun _ => 0⟩]⟩,
  /- HLD_CAP -/ ⟨0x50018, 0, 1, true, [⟨0, 64, .ro, fun _ => 1024000000⟩]⟩,
  /- HLD_DIRTY -/ ⟨0x50020, 0, 1, true, [⟨0, 64, .ro, fun _ => 0⟩]⟩,
  /- HLD_LAST_START -/ ⟨0x50028, 0, 1, true, [⟨0, 64, .ro, fun _ => 0⟩]⟩,
  /- HLD_LAST_BYTES -/ ⟨0x50030, 0, 1, true, [⟨0, 64, .ro, fun _ => 0⟩]⟩,
  /- HLD_LAST_DURATION -/ ⟨0x50038, 0, 1, false, [⟨0, 32, .ro, fun _ => 0⟩]⟩,
  /- FLT_STATUS -/ ⟨0xb0000, 0, 1, false, [⟨0, 1, .ro, fun _ => 0⟩]⟩,
  /- FLT_EVENTS -/ ⟨0xb0004, 0, 1, false, [⟨0, 1, .w1cs, fun _ => 0⟩, ⟨1, 1, .w1cs, fun _ => 0⟩]⟩,
  /- FLT_EVENT_EN -/ ⟨0xb0008, 0, 1, false, [⟨0, 2, .rws, fun _ => 1⟩]⟩,
  /- FLT_BUCKET -/ ⟨0xb000c, 0, 1, false, [⟨0, 3, .ro, fun _ => 0⟩]⟩,
  /- FLT_TRANSIENT -/ ⟨0xb0010, 0, 1, false, [⟨0, 32, .rcs, fun _ => 0⟩]⟩,
  /- FLT_LASTING -/ ⟨0xb0014, 0, 1, false, [⟨0, 32, .rcs, fun _ => 0⟩]⟩,
  /- FLT_SRC_N -/ ⟨0xb0100, 4, 32, false, [⟨0, 16, .rws, fun i => faultNReset i⟩]⟩,
  /- FLT_SRC_COUNT -/ ⟨0xb0180, 4, 32, false, [⟨0, 32, .rcs, fun _ => 0⟩]⟩,
  /- LOG_STATUS -/ ⟨0x60000, 0, 1, false, [⟨0, 1, .ro, fun _ => 0⟩, ⟨1, 1, .ro, fun _ => 0⟩]⟩,
  /- LOG_NEXT_SEQ -/ ⟨0x60004, 0, 1, false, [⟨0, 32, .ro, fun _ => 1⟩]⟩,
  /- LOG_OLDEST_SEQ -/ ⟨0x60008, 0, 1, false, [⟨0, 32, .ro, fun _ => 1⟩]⟩,
  /- LOG_RATE -/ ⟨0x6000c, 0, 1, false, [⟨0, 8, .rws, fun _ => 64⟩]⟩,
  /- LOG_SUPPRESSED -/ ⟨0x60010, 0, 1, false, [⟨0, 32, .rc, fun _ => 0⟩]⟩,
  /- LOG_BAR4 -/ ⟨0x60014, 0, 1, true, [⟨0, 64, .ro, fun _ => 0⟩]⟩,
  /- LOG_LAST_LASTING -/ ⟨0x6001c, 0, 1, false, [⟨0, 32, .ro, fun _ => 0⟩]⟩,
  /- MGT_STATUS -/ ⟨0x80000, 0, 1, false, [⟨0, 1, .ro, fun _ => 0⟩, ⟨1, 7, .ro, fun _ => 0⟩, ⟨8, 8, .ro, fun _ => 0⟩, ⟨16, 1, .ro, fun _ => 0⟩, ⟨17, 1, .ro, fun _ => 0⟩]⟩,
  /- MGT_CTRL -/ ⟨0x80004, 0, 1, false, [⟨0, 1, .rwl, fun _ => 0⟩, ⟨1, 1, .rwl, fun _ => 0⟩, ⟨2, 1, .rws, fun _ => 1⟩]⟩,
  /- MGT_RX_MSGS -/ ⟨0x80008, 0, 1, false, [⟨0, 32, .rc, fun _ => 0⟩]⟩,
  /- MGT_TX_MSGS -/ ⟨0x8000c, 0, 1, false, [⟨0, 32, .rc, fun _ => 0⟩]⟩,
  /- MGT_DROPPED -/ ⟨0x80010, 0, 1, false, [⟨0, 32, .rc, fun _ => 0⟩]⟩]

/-- Registers of the package-common window (R34): addresses from BAR0, part 4. -/
def pkgRegs4 : List RegDef := [
  /- MGT_ERRORS -/ ⟨0x80014, 0, 1, false, [⟨0, 32, .rc, fun _ => 0⟩]⟩,
  /- MGT_IBI -/ ⟨0x80018, 0, 1, false, [⟨0, 32, .rc, fun _ => 0⟩]⟩,
  /- MGT_EVENTS_LOST -/ ⟨0x8001c, 0, 1, false, [⟨0, 32, .rc, fun _ => 0⟩]⟩,
  /- UPD_STATUS -/ ⟨0x70000, 0, 1, false, [⟨0, 3, .ro, fun _ => 0⟩, ⟨3, 1, .ro, fun _ => 0⟩, ⟨8, 8, .ro, fun _ => 0⟩, ⟨16, 4, .ro, fun _ => 0⟩, ⟨20, 4, .ro, fun _ => 0⟩]⟩,
  /- UPD_EVENTS -/ ⟨0x70004, 0, 1, false, [⟨0, 1, .w1cs, fun _ => 0⟩, ⟨1, 1, .w1cs, fun _ => 0⟩, ⟨2, 1, .w1cs, fun _ => 0⟩, ⟨3, 1, .w1cs, fun _ => 0⟩, ⟨4, 1, .w1cs, fun _ => 0⟩, ⟨5, 1, .w1cs, fun _ => 0⟩, ⟨6, 1, .w1cs, fun _ => 0⟩, ⟨7, 1, .w1cs, fun _ => 0⟩]⟩,
  /- UPD_EVENT_EN -/ ⟨0x70008, 0, 1, false, [⟨0, 8, .rws, fun _ => 254⟩]⟩,
  /- UPD_IMAGE_ID -/ ⟨0x7000c, 0, 1, false, [⟨0, 32, .ro, fun _ => 0⟩]⟩,
  /- UPD_PIECES -/ ⟨0x70010, 0, 1, false, [⟨0, 15, .ro, fun _ => 0⟩, ⟨16, 15, .ro, fun _ => 0⟩]⟩,
  /- UPD_VERSION -/ ⟨0x70014, 0, 1, false, [⟨0, 32, .ro, fun _ => 0⟩]⟩,
  /- UPD_RUNNING -/ ⟨0x70018, 0, 1, false, [⟨0, 32, .ro, fun _ => 0⟩]⟩,
  /- UPD_MEDIA -/ ⟨0x7001c, 0, 1, false, [⟨0, 16, .ro, fun _ => 0⟩, ⟨16, 16, .ro, fun _ => 0⟩]⟩,
  /- UPD_ACT -/ ⟨0x70020, 0, 1, true, [⟨0, 64, .ro, fun _ => 0⟩]⟩,
  /- UPD_LAST_GAP -/ ⟨0x70028, 0, 1, false, [⟨0, 32, .ro, fun _ => 0⟩]⟩,
  /- UPD_DUP -/ ⟨0x7002c, 0, 1, false, [⟨0, 32, .rc, fun _ => 0⟩]⟩,
  /- UPD_ACTIVATIONS -/ ⟨0x70030, 0, 1, false, [⟨0, 32, .rcs, fun _ => 0⟩]⟩,
  /- UPD_BRIDGES_PENDING -/ ⟨0x70034, 0, 1, false, [⟨0, 7, .ro, fun _ => 0⟩]⟩,
  /- UPD_PEN -/ ⟨0x70038, 0, 1, false, [⟨0, 32, .ro, fun _ => 0⟩]⟩,
  /- PKG_STRAPS -/ ⟨0x80, 0, 1, false, [⟨0, 1, .ro, fun _ => 0⟩, ⟨1, 1, .ro, fun _ => 0⟩, ⟨2, 2, .ro, fun _ => 0⟩]⟩,
  /- PKG_SUPPLY -/ ⟨0x84, 0, 1, false, [⟨0, 7, .ro, fun _ => 0⟩, ⟨8, 7, .w1cs, fun _ => 0⟩]⟩,
  /- PKG_POWER -/ ⟨0x88, 0, 1, false, [⟨0, 16, .ro, fun _ => 0⟩]⟩]

/-- Registers of the package-common window (R34): addresses from BAR0. -/
def pkgRegs : List RegDef := pkgRegs0 ++ pkgRegs1 ++ pkgRegs2 ++ pkgRegs3 ++ pkgRegs4

/-- Registers of the window of one seat (R34): offsets in the window, part 0. -/
def seatRegs0 : List RegDef := [
  /- KEEL_LINK_STATUS -/ ⟨0x10000, 0, 1, false, [⟨0, 8, .ro, fun _ => 0⟩, ⟨8, 8, .ro, fun _ => 0⟩]⟩,
  /- KEEL_LINK_RETRY -/ ⟨0x10004, 0, 1, false, [⟨0, 32, .rc, fun _ => 0⟩]⟩,
  /- KEEL_WEIGHT -/ ⟨0x10100, 4, 8, false, [⟨0, 8, .rw, fun _ => 8⟩, ⟨8, 8, .rw, fun _ => 64⟩, ⟨16, 8, .rw, fun _ => 64⟩, ⟨24, 8, .rw, fun _ => 16⟩]⟩,
  /- KEEL_SERVED -/ ⟨0x10200, 4, 8, false, [⟨0, 32, .ro, fun _ => 0⟩]⟩,
  /- KEEL_FAIR_EXCESS -/ ⟨0x10240, 0, 1, false, [⟨0, 32, .rc, fun _ => 0⟩]⟩,
  /- SEAT_ID -/ ⟨0x0, 0, 1, false, [⟨0, 4, .ro, fun _ => 0⟩, ⟨4, 1, .ro, fun _ => 0⟩, ⟨5, 1, .ro, fun _ => 0⟩, ⟨6, 1, .ro, fun _ => 0⟩]⟩,
  /- FE_PORT_CFG -/ ⟨0x20000, 0, 1, false, [⟨0, 2, .ro, fun _ => 0⟩]⟩,
  /- FE_PORT_STATUS -/ ⟨0x20004, 0, 1, false, [⟨0, 4, .ro, fun _ => 0⟩, ⟨4, 4, .ro, fun _ => 0⟩, ⟨8, 1, .ro, fun _ => 0⟩, ⟨9, 1, .ro, fun _ => 0⟩]⟩,
  /- FE_PFC_EN -/ ⟨0x20008, 0, 1, false, [⟨0, 8, .rws, fun _ => 0⟩]⟩,
  /- FE_CC -/ ⟨0x20010, 0, 1, false, [⟨0, 16, .rws, fun _ => 16⟩, ⟨16, 4, .rws, fun _ => 8⟩]⟩,
  /- FE_CC_WINIT -/ ⟨0x20014, 0, 1, false, [⟨0, 24, .rws, fun _ => 64⟩]⟩,
  /- FE_CC_WMAX -/ ⟨0x20018, 0, 1, false, [⟨0, 24, .rws, fun _ => 1024⟩]⟩,
  /- FE_CNP_INTERVAL -/ ⟨0x2001c, 0, 1, false, [⟨0, 20, .rws, fun _ => 5000⟩]⟩,
  /- FE_QP_ACTIVE -/ ⟨0x20020, 0, 1, false, [⟨0, 15, .ro, fun _ => 0⟩]⟩,
  /- FE_MR_DRAINING -/ ⟨0x20024, 0, 1, false, [⟨0, 18, .ro, fun _ => 0⟩]⟩,
  /- FE_RX_DROP -/ ⟨0x20030, 0, 1, false, [⟨0, 32, .rc, fun _ => 0⟩]⟩,
  /- FE_NAK_ACCESS -/ ⟨0x20034, 0, 1, false, [⟨0, 32, .rc, fun _ => 0⟩]⟩,
  /- FE_QP_ERROR -/ ⟨0x20038, 0, 1, false, [⟨0, 32, .rc, fun _ => 0⟩]⟩,
  /- FE_CM_REFUSED -/ ⟨0x2003c, 0, 1, false, [⟨0, 32, .rc, fun _ => 0⟩]⟩,
  /- FE_CNP_SENT -/ ⟨0x20040, 0, 1, false, [⟨0, 32, .rc, fun _ => 0⟩]⟩,
  /- FE_CNP_RCVD -/ ⟨0x20044, 0, 1, false, [⟨0, 32, .rc, fun _ => 0⟩]⟩,
  /- FE_EPOCH_BUSY -/ ⟨0x20048, 0, 1, false, [⟨0, 32, .rc, fun _ => 0⟩]⟩,
  /- FE_CM_RATE -/ ⟨0x20050, 0, 1, false, [⟨0, 16, .rws, fun _ => 256⟩]⟩,
  /- FE_BLOCK_THRESH -/ ⟨0x20054, 0, 1, false, [⟨0, 16, .rws, fun _ => 32⟩]⟩,
  /- FE_BLOCK_STROKES -/ ⟨0x20058, 0, 1, false, [⟨0, 32, .rws, fun _ => 600000⟩]⟩,
  /- FE_BLOCK_COUNT -/ ⟨0x2005c, 0, 1, false, [⟨0, 9, .ro, fun _ => 0⟩]⟩,
  /- FE_RX_BYTES -/ ⟨0x20100, 16, 4, true, [⟨0, 64, .ro, fun _ => 0⟩]⟩,
  /- FE_TX_BYTES -/ ⟨0x20108, 16, 4, true, [⟨0, 64, .ro, fun _ => 0⟩]⟩,
  /- NVQ_ARB -/ ⟨0x40000, 0, 1, false, [⟨0, 8, .rws, fun _ => 16⟩, ⟨8, 8, .rws, fun _ => 8⟩, ⟨16, 8, .rws, fun _ => 2⟩, ⟨24, 3, .rws, fun _ => 3⟩]⟩,
  /- NVQ_CMDS -/ ⟨0x40008, 0, 1, true, [⟨0, 64, .ro, fun _ => 0⟩]⟩,
  /- NVQ_PUSH_REFUSED -/ ⟨0x40010, 0, 1, false, [⟨0, 32, .rc, fun _ => 0⟩]⟩,
  /- NVQ_HELD -/ ⟨0x40014, 0, 1, false, [⟨0, 16, .ro, fun _ => 0⟩]⟩,
  /- NVQ_NOT_READY -/ ⟨0x40018, 0, 1, false, [⟨0, 32, .rc, fun _ => 0⟩]⟩,
  /- NVQ_SPLIT_FAIL -/ ⟨0x4001c, 0, 1, false, [⟨0, 32, .rc, fun _ => 0⟩]⟩,
  /- NVQ_ANA_REJECT -/ ⟨0x40020, 0, 1, false, [⟨0, 32, .rc, fun _ => 0⟩]⟩,
  /- NVQ_PI_ERROR -/ ⟨0x40024, 0, 1, false, [⟨0, 32, .rc, fun _ => 0⟩]⟩,
  /- NVQ_CID_CONFLICT -/ ⟨0x40028, 0, 1, false, [⟨0, 32, .rc, fun _ => 0⟩]⟩,
  /- NVQ_KATO_EXPIRED -/ ⟨0x4002c, 0, 1, false, [⟨0, 32, .rc, fun _ => 0⟩]⟩,
  /- NVQ_BUSY -/ ⟨0x40030, 0, 1, false, [⟨0, 10, .ro, fun _ => 0⟩]⟩,
  /- NVQ_WAITING -/ ⟨0x40100, 4, 4, false, [⟨0, 24, .ro, fun _ => 0⟩]⟩]

/-- Registers of the window of one seat (R34): offsets in the window, part 1. -/
def seatRegs1 : List RegDef := [
  /- NVQ_INELIGIBLE -/ ⟨0x40110, 4, 4, false, [⟨0, 24, .ro, fun _ => 0⟩]⟩,
  /- NVQ_QP_SELECT -/ ⟨0x40200, 0, 1, false, [⟨0, 14, .rw, fun _ => 0⟩]⟩,
  /- NVQ_QP_STATE -/ ⟨0x40204, 0, 1, false, [⟨0, 3, .ro, fun _ => 0⟩, ⟨3, 2, .ro, fun _ => 0⟩, ⟨5, 1, .ro, fun _ => 0⟩, ⟨6, 2, .ro, fun _ => 0⟩, ⟨8, 12, .ro, fun _ => 0⟩]⟩,
  /- NVQ_QP_CTRL -/ ⟨0x40208, 0, 1, false, [⟨0, 12, .ro, fun _ => 0⟩]⟩,
  /- NVQ_QP_WINDOW -/ ⟨0x4020c, 0, 1, false, [⟨0, 24, .ro, fun _ => 0⟩]⟩,
  /- NVQ_QP_OUTSTANDING -/ ⟨0x40210, 0, 1, false, [⟨0, 11, .ro, fun _ => 0⟩]⟩,
  /- CAT_CTRL -/ ⟨0x80000, 0, 1, false, [⟨0, 1, .rws, fun _ => 1⟩]⟩,
  /- CAT_STATUS -/ ⟨0x80004, 0, 1, false, [⟨0, 1, .ro, fun _ => 0⟩, ⟨1, 1, .ro, fun _ => 0⟩, ⟨2, 1, .ro, fun _ => 0⟩, ⟨3, 1, .ro, fun _ => 1⟩]⟩,
  /- CAT_SLOTS_FREE -/ ⟨0x80008, 0, 1, false, [⟨0, 13, .ro, fun _ => 7680⟩]⟩,
  /- CAT_CAP -/ ⟨0x8000c, 0, 1, true, [⟨0, 64, .ro, fun _ => 128000000⟩]⟩,
  /- CAT_DIRTY -/ ⟨0x80014, 0, 1, true, [⟨0, 64, .ro, fun _ => 0⟩]⟩,
  /- CAT_SOFT -/ ⟨0x8001c, 0, 1, false, [⟨0, 7, .rws, fun _ => 75⟩, ⟨16, 16, .rws, fun _ => 20⟩]⟩,
  /- CAT_FT_CLOSE -/ ⟨0x80020, 0, 1, false, [⟨0, 16, .rws, fun _ => 5⟩]⟩,
  /- CAT_OPEN_ROWS -/ ⟨0x80024, 0, 1, false, [⟨0, 12, .ro, fun _ => 0⟩, ⟨16, 13, .rws, fun _ => 1024⟩]⟩,
  /- CAT_EARLY_SEAL -/ ⟨0x80028, 0, 1, false, [⟨0, 32, .rc, fun _ => 0⟩]⟩,
  /- CAT_FP_LOOKUPS -/ ⟨0x8002c, 0, 1, false, [⟨0, 32, .rc, fun _ => 0⟩]⟩,
  /- CAT_FP_HITS -/ ⟨0x80030, 0, 1, false, [⟨0, 32, .rc, fun _ => 0⟩]⟩,
  /- CAT_FP_STALE -/ ⟨0x80034, 0, 1, false, [⟨0, 32, .rc, fun _ => 0⟩]⟩,
  /- CAT_ZERO_BLOCKS -/ ⟨0x80038, 0, 1, false, [⟨0, 32, .rc, fun _ => 0⟩]⟩,
  /- CAT_PI_FAIL -/ ⟨0x8003c, 0, 1, false, [⟨0, 32, .rc, fun _ => 0⟩]⟩,
  /- CAT_HARD_STROKES -/ ⟨0x80040, 0, 1, false, [⟨0, 32, .rc, fun _ => 0⟩]⟩,
  /- CAT_CATCH_ERR -/ ⟨0x80044, 0, 1, false, [⟨0, 32, .rc, fun _ => 0⟩]⟩,
  /- CAT_LOCK_WAIT -/ ⟨0x80048, 0, 1, false, [⟨0, 32, .rc, fun _ => 0⟩]⟩,
  /- CAT_IN -/ ⟨0x80050, 0, 1, true, [⟨0, 64, .ro, fun _ => 0⟩]⟩,
  /- CAT_STORED -/ ⟨0x80058, 0, 1, true, [⟨0, 64, .ro, fun _ => 0⟩]⟩,
  /- CMP_CTRL -/ ⟨0xa0000, 0, 1, false, [⟨0, 1, .rws, fun _ => 1⟩, ⟨1, 1, .rws, fun _ => 1⟩]⟩,
  /- CMP_KEEP_LIMIT -/ ⟨0xa0004, 0, 1, false, [⟨0, 13, .rws, fun _ => 3840⟩]⟩,
  /- CMP_LANES_BUSY -/ ⟨0xa0008, 0, 1, false, [⟨0, 8, .ro, fun _ => 0⟩]⟩,
  /- CMP_JOBS -/ ⟨0xa0010, 0, 1, true, [⟨0, 64, .ro, fun _ => 0⟩]⟩,
  /- CMP_CANCELLED -/ ⟨0xa0018, 0, 1, false, [⟨0, 32, .rc, fun _ => 0⟩]⟩,
  /- CMP_RAW -/ ⟨0xa001c, 0, 1, false, [⟨0, 32, .rc, fun _ => 0⟩]⟩,
  /- CMP_OVERFLOW -/ ⟨0xa0020, 0, 1, false, [⟨0, 32, .rc, fun _ => 0⟩]⟩,
  /- CMP_VERIFY_FAIL -/ ⟨0xa0024, 0, 1, false, [⟨0, 32, .rc, fun _ => 0⟩]⟩,
  /- CMP_OUT -/ ⟨0xa0028, 0, 1, true, [⟨0, 64, .ro, fun _ => 0⟩]⟩,
  /- CMP_DICT -/ ⟨0xa0100, 4, 256, false, [⟨0, 12, .ro, fun _ => 0⟩, ⟨12, 1, .ro, fun _ => 0⟩, ⟨13, 1, .ro, fun _ => 0⟩, ⟨14, 1, .ro, fun _ => 0⟩, ⟨15, 9, .ro, fun _ => 0⟩]⟩,
  /- CMP_DICT_REFS -/ ⟨0xa0500, 8, 256, true, [⟨0, 64, .ro, fun _ => 0⟩]⟩,
  /- NVQ_WR_WAIT_CATCH -/ ⟨0x40400, 0, 1, false, [⟨0, 16, .ro, fun _ => 0⟩]⟩,
  /- NVQ_WR_WAIT_DIRTY -/ ⟨0x40404, 0, 1, false, [⟨0, 16, .ro, fun _ => 0⟩]⟩,
  /- NVQ_ATOMIC_FAIL -/ ⟨0x40408, 0, 1, false, [⟨0, 32, .rc, fun _ => 0⟩]⟩,
  /- NVQ_WRITE_FAULT -/ ⟨0x4040c, 0, 1, false, [⟨0, 32, .rc, fun _ => 0⟩]⟩]

/-- Registers of the window of one seat (R34): offsets in the window, part 2. -/
def seatRegs2 : List RegDef := [
  /- NVQ_ACCEPTED -/ ⟨0x40410, 0, 1, true, [⟨0, 64, .ro, fun _ => 0⟩]⟩,
  /- NVQ_ACCEPT_P999 -/ ⟨0x40418, 0, 1, false, [⟨0, 20, .ro, fun _ => 0⟩]⟩,
  /- MAP_CTRL -/ ⟨0xc0000, 0, 1, false, [⟨0, 1, .rws, fun _ => 1⟩, ⟨1, 1, .rws, fun _ => 1⟩]⟩,
  /- MAP_STATUS -/ ⟨0xc0004, 0, 1, false, [⟨0, 1, .ro, fun _ => 0⟩, ⟨1, 1, .ro, fun _ => 0⟩, ⟨2, 1, .ro, fun _ => 0⟩, ⟨3, 1, .ro, fun _ => 0⟩, ⟨4, 1, .ro, fun _ => 0⟩]⟩,
  /- MAP_CKPT_GEN -/ ⟨0xc0008, 0, 1, false, [⟨0, 24, .ro, fun _ => 0⟩]⟩,
  /- MAP_CKPT_STROKES -/ ⟨0xc000c, 0, 1, false, [⟨0, 32, .ro, fun _ => 0⟩]⟩,
  /- MAP_CKPT_EXT -/ ⟨0xc0010, 0, 1, true, [⟨0, 64, .ro, fun _ => 0⟩]⟩,
  /- MAP_CKPT_SKIPPED -/ ⟨0xc0018, 0, 1, false, [⟨0, 32, .rcs, fun _ => 0⟩]⟩,
  /- MAP_CKPT_LATE -/ ⟨0xc001c, 0, 1, false, [⟨0, 32, .rcs, fun _ => 0⟩]⟩,
  /- MAP_DLOG_SEQ -/ ⟨0xc0020, 0, 1, true, [⟨0, 64, .ro, fun _ => 0⟩]⟩,
  /- MAP_DLOG_PENDING -/ ⟨0xc0028, 0, 1, false, [⟨0, 20, .ro, fun _ => 0⟩]⟩,
  /- MAP_REC_LIVE -/ ⟨0xc0030, 0, 1, true, [⟨0, 64, .ro, fun _ => 0⟩]⟩,
  /- MAP_REF_SATURATED -/ ⟨0xc0038, 0, 1, false, [⟨0, 32, .ro, fun _ => 0⟩]⟩,
  /- MAP_TAG_THROTTLE -/ ⟨0xc003c, 0, 1, false, [⟨0, 32, .rc, fun _ => 0⟩]⟩,
  /- MAP_DEALLOC_SKIPPED -/ ⟨0xc0040, 0, 1, false, [⟨0, 32, .rc, fun _ => 0⟩]⟩,
  /- MAP_MOVE_DROPPED -/ ⟨0xc0044, 0, 1, false, [⟨0, 32, .rc, fun _ => 0⟩]⟩,
  /- MAP_ORPHANS -/ ⟨0xc0048, 0, 1, false, [⟨0, 32, .rcs, fun _ => 0⟩]⟩,
  /- MAP_PAGE_FILL_WAIT -/ ⟨0xc004c, 0, 1, false, [⟨0, 11, .ro, fun _ => 0⟩]⟩,
  /- MAP_PAGE_FILLS -/ ⟨0xc0050, 0, 1, false, [⟨0, 32, .rc, fun _ => 0⟩]⟩,
  /- MAP_MAP_FAULT -/ ⟨0xc0054, 0, 1, false, [⟨0, 32, .rcs, fun _ => 0⟩]⟩,
  /- MAP_POOL_SELECT -/ ⟨0xc0100, 0, 1, false, [⟨0, 5, .rw, fun _ => 0⟩]⟩,
  /- MAP_POOL_STATE -/ ⟨0xc0104, 0, 1, false, [⟨0, 2, .ro, fun _ => 0⟩, ⟨2, 1, .ro, fun _ => 0⟩, ⟨3, 1, .ro, fun _ => 0⟩, ⟨4, 1, .ro, fun _ => 0⟩, ⟨8, 7, .ro, fun _ => 0⟩, ⟨16, 9, .ro, fun _ => 0⟩]⟩,
  /- MAP_POOL_FREE_ROWS -/ ⟨0xc0108, 0, 1, false, [⟨0, 32, .ro, fun _ => 0⟩]⟩,
  /- MAP_POOL_ROWS -/ ⟨0xc010c, 0, 1, false, [⟨0, 32, .ro, fun _ => 0⟩]⟩,
  /- MAP_POOL_SPARES -/ ⟨0xc0110, 0, 1, false, [⟨0, 32, .ro, fun _ => 0⟩]⟩,
  /- MAP_POOL_SPARE_FLOOR -/ ⟨0xc0114, 0, 1, false, [⟨0, 32, .ro, fun _ => 0⟩]⟩,
  /- MAP_POOL_ERASE_MIN -/ ⟨0xc0118, 0, 1, false, [⟨0, 32, .ro, fun _ => 0⟩]⟩,
  /- MAP_POOL_ERASE_MAX -/ ⟨0xc011c, 0, 1, false, [⟨0, 32, .ro, fun _ => 0⟩]⟩,
  /- MAP_POOL_GC_ROWS -/ ⟨0xc0120, 0, 1, true, [⟨0, 64, .ro, fun _ => 0⟩]⟩,
  /- MAP_POOL_GC_MOVED -/ ⟨0xc0128, 0, 1, true, [⟨0, 64, .ro, fun _ => 0⟩]⟩,
  /- MAP_POOL_SLC_ROWS -/ ⟨0xc0130, 0, 1, false, [⟨0, 32, .ro, fun _ => 0⟩]⟩,
  /- MAP_GC_START -/ ⟨0xc0180, 0, 1, false, [⟨0, 8, .rws, fun _ => 8⟩, ⟨8, 8, .rws, fun _ => 3⟩]⟩,
  /- MAP_GC_RESERVE -/ ⟨0xc0184, 0, 1, false, [⟨0, 16, .rws, fun _ => 64⟩]⟩,
  /- MAP_GC_COLD_AGE -/ ⟨0xc0188, 0, 1, false, [⟨0, 32, .rws, fun _ => 6000000⟩]⟩,
  /- MAP_WEAR_SPREAD -/ ⟨0xc018c, 0, 1, false, [⟨0, 16, .rws, fun _ => 200⟩]⟩,
  /- MAP_TC_LFSR -/ ⟨0xe0000, 0, 1, false, [⟨0, 16, .rws, fun _ => 44257⟩]⟩,
  /- MAP_TC_LANES_BUSY -/ ⟨0xe0004, 0, 1, false, [⟨0, 16, .ro, fun _ => 0⟩]⟩,
  /- MAP_TC_LOOKUPS -/ ⟨0xe0008, 0, 1, true, [⟨0, 64, .ro, fun _ => 0⟩]⟩,
  /- MAP_TC_HITS -/ ⟨0xe0010, 0, 1, true, [⟨0, 64, .ro, fun _ => 0⟩]⟩,
  /- MAP_TC_MISSES -/ ⟨0xe0018, 0, 1, false, [⟨0, 32, .rc, fun _ => 0⟩]⟩]

/-- Registers of the window of one seat (R34): offsets in the window, part 3. -/
def seatRegs3 : List RegDef := [
  /- MAP_TC_FILL_CYCLES -/ ⟨0xe001c, 0, 1, false, [⟨0, 32, .rc, fun _ => 0⟩]⟩,
  /- MAP_TC_EVICTIONS -/ ⟨0xe0020, 0, 1, false, [⟨0, 32, .rc, fun _ => 0⟩]⟩,
  /- MAP_TC_ZERO_LINES -/ ⟨0xe0024, 0, 1, false, [⟨0, 32, .rc, fun _ => 0⟩]⟩,
  /- MAP_TC_WRITE_HITS -/ ⟨0xe0028, 0, 1, false, [⟨0, 32, .rc, fun _ => 0⟩]⟩,
  /- MAP_TC_WRITE_MISSES -/ ⟨0xe002c, 0, 1, false, [⟨0, 32, .rc, fun _ => 0⟩]⟩,
  /- MAP_TC_FILL_MERGE -/ ⟨0xe0030, 0, 1, false, [⟨0, 32, .rc, fun _ => 0⟩]⟩,
  /- MAP_TC_ECC_ERR -/ ⟨0xe0034, 0, 1, false, [⟨0, 32, .rcs, fun _ => 0⟩]⟩,
  /- NVQ_RD_CTRL -/ ⟨0x40600, 0, 1, false, [⟨0, 1, .rws, fun _ => 1⟩, ⟨1, 1, .rws, fun _ => 1⟩, ⟨2, 1, .rws, fun _ => 0⟩, ⟨8, 4, .rws, fun _ => 8⟩]⟩,
  /- NVQ_RD_BYPASS -/ ⟨0x40604, 0, 1, false, [⟨0, 8, .rws, fun _ => 24⟩, ⟨16, 10, .rws, fun _ => 256⟩]⟩,
  /- NVQ_RD_SUSPEND -/ ⟨0x40608, 0, 1, false, [⟨0, 8, .rws, fun _ => 8⟩, ⟨8, 4, .rws, fun _ => 2⟩, ⟨12, 4, .rws, fun _ => 4⟩, ⟨16, 16, .rws, fun _ => 200⟩]⟩,
  /- NVQ_RD_SLOW -/ ⟨0x4060c, 0, 1, false, [⟨0, 8, .rws, fun _ => 48⟩]⟩,
  /- NVQ_RD_BYPASSES -/ ⟨0x40610, 0, 1, false, [⟨0, 32, .rc, fun _ => 0⟩]⟩,
  /- NVQ_RD_BYPASS_DENIED -/ ⟨0x40614, 0, 1, false, [⟨0, 32, .rc, fun _ => 0⟩]⟩,
  /- NVQ_RD_HEDGE_WON -/ ⟨0x40618, 0, 1, false, [⟨0, 32, .rc, fun _ => 0⟩]⟩,
  /- NVQ_RD_SUSPENDS -/ ⟨0x4061c, 0, 1, false, [⟨0, 32, .rc, fun _ => 0⟩]⟩,
  /- NVQ_RD_RETRIES -/ ⟨0x40620, 0, 1, false, [⟨0, 32, .rc, fun _ => 0⟩]⟩,
  /- NVQ_RD_OPEN_FAIL -/ ⟨0x40624, 0, 1, false, [⟨0, 32, .rcs, fun _ => 0⟩]⟩,
  /- NVQ_RD_DEGRADED -/ ⟨0x40628, 0, 1, false, [⟨0, 32, .rc, fun _ => 0⟩]⟩,
  /- NVQ_RD_URE -/ ⟨0x4062c, 0, 1, false, [⟨0, 32, .rcs, fun _ => 0⟩]⟩,
  /- NVQ_RD_DRAM_SERVED -/ ⟨0x40630, 0, 1, false, [⟨0, 32, .rc, fun _ => 0⟩]⟩,
  /- NVQ_RD_P50 -/ ⟨0x40634, 0, 1, false, [⟨0, 20, .ro, fun _ => 0⟩]⟩,
  /- NVQ_RD_P9999 -/ ⟨0x40638, 0, 1, false, [⟨0, 20, .ro, fun _ => 0⟩]⟩,
  /- NVQ_RD_SLOW_BLADES -/ ⟨0x40640, 4, 3, false, [⟨0, 32, .ro, fun _ => 0⟩]⟩,
  /- PAR_CTRL -/ ⟨0x100000, 0, 1, false, [⟨0, 1, .rws, fun _ => 1⟩, ⟨1, 1, .rws, fun _ => 1⟩, ⟨2, 1, .rws, fun _ => 1⟩, ⟨3, 1, .rws, fun _ => 1⟩]⟩,
  /- PAR_STATUS -/ ⟨0x100004, 0, 1, false, [⟨0, 1, .ro, fun _ => 0⟩, ⟨1, 1, .ro, fun _ => 0⟩, ⟨2, 1, .ro, fun _ => 0⟩, ⟨3, 1, .ro, fun _ => 0⟩, ⟨4, 1, .ro, fun _ => 0⟩]⟩,
  /- PAR_ENC_BYTES -/ ⟨0x100008, 0, 1, true, [⟨0, 64, .ro, fun _ => 0⟩]⟩,
  /- PAR_DEC_BYTES -/ ⟨0x100010, 0, 1, true, [⟨0, 64, .ro, fun _ => 0⟩]⟩,
  /- PAR_INV_HITS -/ ⟨0x100018, 0, 1, false, [⟨0, 32, .rc, fun _ => 0⟩]⟩,
  /- PAR_INV_MISSES -/ ⟨0x10001c, 0, 1, false, [⟨0, 32, .rc, fun _ => 0⟩]⟩,
  /- PAR_TAG_MISMATCH -/ ⟨0x100020, 0, 1, false, [⟨0, 32, .rcs, fun _ => 0⟩]⟩,
  /- PAR_PROGRAM_FAIL -/ ⟨0x100024, 0, 1, false, [⟨0, 32, .rcs, fun _ => 0⟩]⟩,
  /- PAR_DIRTY_SET -/ ⟨0x100028, 0, 1, false, [⟨0, 32, .rc, fun _ => 0⟩]⟩,
  /- PAR_RESYNC_ROWS -/ ⟨0x10002c, 0, 1, false, [⟨0, 32, .rcs, fun _ => 0⟩]⟩,
  /- PAR_PARITY_BAD -/ ⟨0x100030, 0, 1, false, [⟨0, 32, .rcs, fun _ => 0⟩]⟩,
  /- PAR_GROUP_SELECT -/ ⟨0x100100, 0, 1, false, [⟨0, 5, .rw, fun _ => 0⟩]⟩,
  /- PAR_GROUP_STATE -/ ⟨0x100104, 0, 1, false, [⟨0, 3, .ro, fun _ => 0⟩, ⟨3, 1, .ro, fun _ => 0⟩, ⟨4, 1, .ro, fun _ => 0⟩, ⟨5, 1, .ro, fun _ => 0⟩, ⟨8, 3, .ro, fun _ => 0⟩]⟩,
  /- PAR_GROUP_GEOM -/ ⟨0x100108, 0, 1, false, [⟨0, 22, .ro, fun _ => 0⟩]⟩,
  /- PAR_GROUP_LOST -/ ⟨0x10010c, 0, 1, true, [⟨0, 48, .ro, fun _ => 0⟩]⟩,
  /- PAR_DIRTY_REGIONS -/ ⟨0x100114, 0, 1, false, [⟨0, 19, .ro, fun _ => 0⟩]⟩,
  /- PAR_LOST_ROWS -/ ⟨0x100118, 0, 1, false, [⟨0, 17, .ro, fun _ => 0⟩]⟩]

/-- Registers of the window of one seat (R34): offsets in the window, part 4. -/
def seatRegs4 : List RegDef := [
  /- PAR_LOST_LBAS -/ ⟨0x10011c, 0, 1, true, [⟨0, 64, .ro, fun _ => 0⟩]⟩,
  /- PAR_REBUILD_TARGET -/ ⟨0x100124, 0, 1, false, [⟨0, 7, .ro, fun _ => 0⟩, ⟨7, 1, .ro, fun _ => 0⟩, ⟨8, 2, .ro, fun _ => 0⟩]⟩,
  /- PAR_REBUILD_BANDS_DONE -/ ⟨0x100128, 0, 1, false, [⟨0, 32, .ro, fun _ => 0⟩]⟩,
  /- PAR_REBUILD_BANDS_TOTAL -/ ⟨0x10012c, 0, 1, false, [⟨0, 32, .ro, fun _ => 0⟩]⟩,
  /- PAR_REBUILD_STROKES -/ ⟨0x100130, 0, 1, false, [⟨0, 32, .ro, fun _ => 0⟩]⟩,
  /- PAR_RESHAPE_STATE -/ ⟨0x100180, 0, 1, false, [⟨0, 3, .ro, fun _ => 0⟩, ⟨3, 1, .ro, fun _ => 0⟩, ⟨8, 5, .ro, fun _ => 0⟩]⟩,
  /- PAR_RESHAPE_BOUNDARY -/ ⟨0x100184, 0, 1, false, [⟨0, 32, .ro, fun _ => 0⟩]⟩,
  /- PAR_RESHAPE_START -/ ⟨0x100188, 0, 1, false, [⟨0, 32, .ro, fun _ => 0⟩]⟩,
  /- PAR_RESHAPE_SRC_GEOM -/ ⟨0x10018c, 0, 1, false, [⟨0, 22, .ro, fun _ => 0⟩]⟩,
  /- PAR_RESHAPE_TGT_GEOM -/ ⟨0x100190, 0, 1, false, [⟨0, 22, .ro, fun _ => 0⟩]⟩,
  /- PAR_RESHAPE_CONVERTED -/ ⟨0x100194, 0, 1, true, [⟨0, 64, .ro, fun _ => 0⟩]⟩,
  /- PAR_RESHAPE_RATE -/ ⟨0x10019c, 0, 1, false, [⟨0, 3, .rws, fun _ => 4⟩]⟩,
  /- PAR_RESHAPE_REDO -/ ⟨0x1001a0, 0, 1, false, [⟨0, 32, .rcs, fun _ => 0⟩]⟩,
  /- PAR_RESHAPE_REVERSALS -/ ⟨0x1001a4, 0, 1, false, [⟨0, 32, .rcs, fun _ => 0⟩]⟩,
  /- PAR_RESHAPE_SEQ -/ ⟨0x1001a8, 0, 1, false, [⟨0, 32, .ro, fun _ => 0⟩]⟩,
  /- OAR_CTRL -/ ⟨0x140000, 0, 1, false, [⟨0, 12, .rws, fun _ => 4095⟩]⟩,
  /- OAR_TIMEOUT -/ ⟨0x140004, 0, 1, false, [⟨0, 4, .rws, fun _ => 4⟩, ⟨16, 16, .rws, fun _ => 1000⟩]⟩,
  /- OAR_DEGRADE -/ ⟨0x140008, 0, 1, false, [⟨0, 16, .rws, fun _ => 64⟩, ⟨16, 16, .rws, fun _ => 256⟩]⟩,
  /- OAR_RETRAIN_LIMIT -/ ⟨0x14000c, 0, 1, false, [⟨0, 16, .rws, fun _ => 1000⟩]⟩,
  /- OAR_PORT_STATUS -/ ⟨0x140100, 64, 12, false, [⟨0, 3, .ro, fun _ => 0⟩, ⟨3, 1, .ro, fun _ => 0⟩, ⟨4, 1, .ro, fun _ => 0⟩, ⟨5, 1, .ro, fun _ => 0⟩, ⟨16, 12, .ro, fun _ => 0⟩]⟩,
  /- OAR_PORT_FEC_CORR -/ ⟨0x140104, 64, 12, false, [⟨0, 32, .rc, fun _ => 0⟩]⟩,
  /- OAR_PORT_FEC_UNCORR -/ ⟨0x140108, 64, 12, false, [⟨0, 32, .rc, fun _ => 0⟩]⟩,
  /- OAR_PORT_REPLAYS -/ ⟨0x14010c, 64, 12, false, [⟨0, 32, .rc, fun _ => 0⟩]⟩,
  /- OAR_PORT_RETRAINS -/ ⟨0x140110, 64, 12, false, [⟨0, 32, .rcs, fun _ => 0⟩]⟩,
  /- OAR_PORT_PROTO_ERR -/ ⟨0x140114, 64, 12, false, [⟨0, 32, .rcs, fun _ => 0⟩]⟩,
  /- OAR_PORT_TIMEOUTS -/ ⟨0x140118, 64, 12, false, [⟨0, 32, .rcs, fun _ => 0⟩]⟩,
  /- OAR_PORT_FENCED -/ ⟨0x14011c, 64, 12, false, [⟨0, 32, .rc, fun _ => 0⟩]⟩,
  /- OAR_PORT_RAW_CW -/ ⟨0x140120, 64, 12, false, [⟨0, 32, .rc, fun _ => 0⟩]⟩,
  /- OAR_PORT_DECODE_FAIL -/ ⟨0x140124, 64, 12, false, [⟨0, 32, .rcs, fun _ => 0⟩]⟩,
  /- OAR_PORT_LATE -/ ⟨0x140128, 64, 12, false, [⟨0, 32, .rc, fun _ => 0⟩]⟩,
  /- OAR_PORT_CREDITS -/ ⟨0x14012c, 64, 12, false, [⟨0, 8, .ro, fun _ => 0⟩, ⟨8, 8, .ro, fun _ => 0⟩, ⟨16, 8, .ro, fun _ => 0⟩]⟩,
  /- OAR_PORT_RD_BYTES -/ ⟨0x140130, 64, 12, true, [⟨0, 64, .ro, fun _ => 0⟩]⟩,
  /- OAR_PORT_WR_BYTES -/ ⟨0x140138, 64, 12, true, [⟨0, 64, .ro, fun _ => 0⟩]⟩,
  /- PAIR_LANE_STATUS -/ ⟨0x180000, 0, 1, false, [⟨0, 2, .ro, fun _ => 0⟩, ⟨2, 1, .ro, fun _ => 0⟩, ⟨4, 4, .ro, fun _ => 0⟩, ⟨8, 8, .ro, fun _ => 0⟩]⟩,
  /- PAIR_LANE_TX_SEQ -/ ⟨0x180004, 0, 1, false, [⟨0, 32, .ro, fun _ => 0⟩]⟩,
  /- PAIR_LANE_RX_SEQ -/ ⟨0x180008, 0, 1, false, [⟨0, 32, .ro, fun _ => 0⟩]⟩,
  /- PAIR_LANE_UNACKED -/ ⟨0x18000c, 0, 1, false, [⟨0, 11, .ro, fun _ => 0⟩]⟩,
  /- PAIR_RETX -/ ⟨0x180010, 0, 1, false, [⟨0, 4, .rws, fun _ => 2⟩, ⟨4, 4, .rws, fun _ => 8⟩]⟩,
  /- PAIR_LANE_RETX -/ ⟨0x180014, 0, 1, false, [⟨0, 32, .rc, fun _ => 0⟩]⟩,
  /- PAIR_LANE_DUP -/ ⟨0x180018, 0, 1, false, [⟨0, 32, .rc, fun _ => 0⟩]⟩]

/-- Registers of the window of one seat (R34): offsets in the window, part 5. -/
def seatRegs5 : List RegDef := [
  /- PAIR_LANE_NAK -/ ⟨0x18001c, 0, 1, false, [⟨0, 32, .rc, fun _ => 0⟩]⟩,
  /- PAIR_LANE_AUTH_FAIL -/ ⟨0x180020, 0, 1, false, [⟨0, 32, .rcs, fun _ => 0⟩]⟩,
  /- PAIR_LANE_CRC_ERR -/ ⟨0x180024, 0, 1, false, [⟨0, 32, .rcs, fun _ => 0⟩]⟩,
  /- PAIR_LANE_LATE -/ ⟨0x180028, 0, 1, false, [⟨0, 32, .rc, fun _ => 0⟩]⟩,
  /- PAIR_LANE_ENQ_REFUSED -/ ⟨0x18002c, 0, 1, false, [⟨0, 32, .rc, fun _ => 0⟩]⟩,
  /- PAIR_LANE_KEY -/ ⟨0x180030, 0, 1, false, [⟨0, 16, .ro, fun _ => 0⟩]⟩,
  /- PAIR_LANE_KEY_FRAMES -/ ⟨0x180034, 0, 1, true, [⟨0, 64, .ro, fun _ => 0⟩]⟩,
  /- PAIR_LANE_TX_BYTES -/ ⟨0x180040, 0, 1, true, [⟨0, 64, .ro, fun _ => 0⟩]⟩,
  /- PAIR_LANE_RX_BYTES -/ ⟨0x180048, 0, 1, true, [⟨0, 64, .ro, fun _ => 0⟩]⟩,
  /- PAIR_LANE_BUSY -/ ⟨0x180050, 0, 1, false, [⟨0, 10, .ro, fun _ => 0⟩]⟩,
  /- PAIR_LANE_GROUPS_HELD -/ ⟨0x180054, 0, 1, false, [⟨0, 16, .ro, fun _ => 0⟩]⟩,
  /- RATE_CTRL -/ ⟨0x1a0000, 0, 1, false, [⟨0, 1, .rws, fun _ => 1⟩]⟩,
  /- RATE_STATUS -/ ⟨0x1a0004, 0, 1, false, [⟨0, 1, .ro, fun _ => 0⟩, ⟨1, 1, .ro, fun _ => 0⟩, ⟨2, 1, .ro, fun _ => 0⟩, ⟨3, 1, .ro, fun _ => 0⟩]⟩,
  /- RATE_CAPACITY -/ ⟨0x1a0008, 0, 1, false, [⟨0, 21, .ro, fun _ => 141000⟩]⟩,
  /- RATE_COST -/ ⟨0x1a000c, 0, 1, false, [⟨0, 21, .ro, fun _ => 0⟩]⟩,
  /- RATE_LAST_END -/ ⟨0x1a0010, 0, 1, false, [⟨0, 20, .ro, fun _ => 0⟩]⟩,
  /- RATE_MISSES -/ ⟨0x1a0014, 0, 1, false, [⟨0, 32, .rcs, fun _ => 0⟩]⟩,
  /- RATE_FIRST_MISS -/ ⟨0x1a0018, 0, 1, false, [⟨0, 12, .ro, fun _ => 0⟩, ⟨12, 1, .ro, fun _ => 0⟩]⟩,
  /- RATE_LOOPS_ENABLED -/ ⟨0x1a001c, 0, 1, false, [⟨0, 13, .ro, fun _ => 0⟩]⟩,
  /- RATE_BG_WEIGHT -/ ⟨0x1a0020, 0, 1, false, [⟨0, 8, .rws, fun _ => 8⟩, ⟨8, 8, .rws, fun _ => 8⟩, ⟨16, 8, .rws, fun _ => 4⟩, ⟨24, 8, .rws, fun _ => 2⟩]⟩,
  /- RATE_BG_CTRL -/ ⟨0x1a0024, 0, 1, false, [⟨0, 8, .rws, fun _ => 2⟩, ⟨8, 7, .rws, fun _ => 75⟩, ⟨16, 12, .rws, fun _ => 4095⟩]⟩,
  /- RATE_HIST_OVER -/ ⟨0x1a0028, 0, 1, false, [⟨0, 32, .rc, fun _ => 0⟩]⟩,
  /- RATE_BG_GRANTED -/ ⟨0x1a0040, 4, 5, false, [⟨0, 24, .ro, fun _ => 0⟩]⟩,
  /- RATE_BYP_NOMINAL -/ ⟨0x1a0080, 0, 1, false, [⟨0, 24, .rws, fun _ => 4096⟩]⟩,
  /- RATE_BYP_DEPTH -/ ⟨0x1a0084, 0, 1, false, [⟨0, 16, .rws, fun _ => 256⟩]⟩,
  /- RATE_BYP_TOKENS -/ ⟨0x1a0088, 0, 1, false, [⟨0, 32, .ro, fun _ => 65536⟩]⟩,
  /- RATE_BG_NOMINAL -/ ⟨0x1a0090, 0, 1, false, [⟨0, 24, .rws, fun _ => 65536⟩]⟩,
  /- RATE_BG_DEPTH -/ ⟨0x1a0094, 0, 1, false, [⟨0, 16, .rws, fun _ => 2048⟩]⟩,
  /- RATE_BG_TOKENS -/ ⟨0x1a0098, 0, 1, false, [⟨0, 32, .ro, fun _ => 524288⟩]⟩,
  /- RATE_LOOP_SELECT -/ ⟨0x1a0100, 0, 1, false, [⟨0, 12, .rw, fun _ => 0⟩]⟩,
  /- RATE_LOOP_CFG -/ ⟨0x1a0104, 0, 1, false, [⟨0, 1, .ro, fun _ => 0⟩, ⟨1, 2, .ro, fun _ => 0⟩, ⟨3, 2, .ro, fun _ => 0⟩, ⟨5, 1, .ro, fun _ => 0⟩, ⟨6, 1, .ro, fun _ => 1⟩, ⟨8, 12, .ro, fun _ => 0⟩]⟩,
  /- RATE_LOOP_QUANT -/ ⟨0x1a0108, 0, 1, false, [⟨0, 16, .ro, fun _ => 64881⟩, ⟨16, 4, .ro, fun _ => 10⟩, ⟨20, 12, .ro, fun _ => 64⟩]⟩,
  /- RATE_LOOP_SP -/ ⟨0x1a010c, 0, 1, false, [⟨0, 20, .ro, fun _ => 0⟩]⟩,
  /- RATE_LOOP_SLOPE -/ ⟨0x1a0110, 0, 1, false, [⟨0, 20, .ro, fun _ => 0⟩]⟩,
  /- RATE_LOOP_SP_EFF -/ ⟨0x1a0114, 0, 1, false, [⟨0, 20, .ro, fun _ => 0⟩]⟩,
  /- RATE_LOOP_MEASURED -/ ⟨0x1a0118, 0, 1, false, [⟨0, 20, .ro, fun _ => 0⟩, ⟨20, 1, .ro, fun _ => 0⟩]⟩,
  /- RATE_LOOP_OUT -/ ⟨0x1a011c, 0, 1, false, [⟨0, 12, .ro, fun _ => 1024⟩, ⟨12, 1, .ro, fun _ => 0⟩]⟩,
  /- RATE_LOOP_LIMITS -/ ⟨0x1a0120, 0, 1, false, [⟨0, 12, .ro, fun _ => 0⟩, ⟨16, 12, .ro, fun _ => 4095⟩]⟩,
  /- RATE_LOOP_FLAGS -/ ⟨0x1a0124, 0, 1, false, [⟨0, 1, .w1cs, fun _ => 0⟩, ⟨1, 1, .w1cs, fun _ => 0⟩, ⟨2, 1, .w1cs, fun _ => 0⟩]⟩,
  /- RATE_LOOP_MISSES -/ ⟨0x1a0128, 0, 1, false, [⟨0, 32, .rcs, fun _ => 0⟩]⟩]

/-- Registers of the window of one seat (R34): offsets in the window, part 6. -/
def seatRegs6 : List RegDef := [
  /- RATE_BKT_NOMINAL -/ ⟨0x1a012c, 0, 1, false, [⟨0, 24, .ro, fun _ => 0⟩]⟩,
  /- RATE_BKT_DEPTH -/ ⟨0x1a0130, 0, 1, false, [⟨0, 16, .ro, fun _ => 0⟩]⟩,
  /- RATE_BKT_TOKENS -/ ⟨0x1a0134, 0, 1, false, [⟨0, 32, .ro, fun _ => 0⟩]⟩,
  /- RATE_LOOP_COEF -/ ⟨0x1a0140, 4, 20, false, [⟨0, 20, .ro, fun _ => 0⟩]⟩,
  /- RATE_HIST -/ ⟨0x1a0200, 4, 32, false, [⟨0, 32, .ro, fun _ => 0⟩]⟩,
  /- RATE_FLAGGED -/ ⟨0x1a0400, 4, 128, false, [⟨0, 32, .ro, fun _ => 0⟩]⟩,
  /- DIG_STATUS -/ ⟨0x90000, 0, 1, false, [⟨0, 4, .ro, fun _ => 0⟩, ⟨4, 1, .ro, fun _ => 0⟩]⟩,
  /- DIG_SWITCHES -/ ⟨0x90004, 0, 1, false, [⟨0, 32, .rc, fun _ => 0⟩]⟩,
  /- DIG_EARLY_READ -/ ⟨0x90008, 0, 1, false, [⟨0, 32, .rcs, fun _ => 0⟩]⟩,
  /- DIG_CMP_EQUAL -/ ⟨0x9000c, 0, 1, false, [⟨0, 32, .rc, fun _ => 0⟩]⟩,
  /- DIG_CMP_NOT_EQUAL -/ ⟨0x90010, 0, 1, false, [⟨0, 32, .rcs, fun _ => 0⟩]⟩,
  /- DIG_WAIT_CYCLES -/ ⟨0x90014, 0, 1, false, [⟨0, 32, .rc, fun _ => 0⟩]⟩,
  /- DIG_BYTES -/ ⟨0x90018, 0, 1, true, [⟨0, 64, .ro, fun _ => 0⟩]⟩,
  /- DIG_CTX_SELECT -/ ⟨0x90100, 0, 1, false, [⟨0, 6, .rw, fun _ => 0⟩]⟩,
  /- DIG_CTX_STATE -/ ⟨0x90104, 0, 1, false, [⟨0, 2, .ro, fun _ => 0⟩, ⟨2, 2, .ro, fun _ => 0⟩, ⟨4, 1, .ro, fun _ => 0⟩, ⟨5, 1, .ro, fun _ => 0⟩, ⟨6, 1, .ro, fun _ => 0⟩, ⟨7, 1, .ro, fun _ => 0⟩, ⟨8, 2, .ro, fun _ => 0⟩, ⟨10, 1, .ro, fun _ => 0⟩]⟩,
  /- DIG_CTX_COUNT -/ ⟨0x90108, 0, 1, true, [⟨0, 64, .ro, fun _ => 0⟩]⟩,
  /- DIG_RESULT -/ ⟨0x90140, 4, 12, false, [⟨0, 32, .ro, fun _ => 0⟩]⟩,
  /- CIP_STATUS -/ ⟨0xb0000, 0, 1, false, [⟨0, 16, .ro, fun _ => 0⟩, ⟨16, 1, .ro, fun _ => 0⟩]⟩,
  /- CIP_SEALS -/ ⟨0xb0008, 0, 1, true, [⟨0, 64, .ro, fun _ => 0⟩]⟩,
  /- CIP_OPENS -/ ⟨0xb0010, 0, 1, true, [⟨0, 64, .ro, fun _ => 0⟩]⟩,
  /- CIP_TAG_FAIL -/ ⟨0xb0018, 0, 1, false, [⟨0, 32, .rcs, fun _ => 0⟩]⟩,
  /- CIP_SLOT_MISS -/ ⟨0xb001c, 0, 1, false, [⟨0, 32, .rc, fun _ => 0⟩]⟩,
  /- CIP_SLOTS_USED -/ ⟨0xb0020, 0, 1, false, [⟨0, 15, .ro, fun _ => 0⟩]⟩,
  /- CIP_RESERVE_WRITES -/ ⟨0xb0024, 0, 1, false, [⟨0, 32, .rc, fun _ => 0⟩]⟩,
  /- CIP_RESERVE_STALL -/ ⟨0xb0028, 0, 1, false, [⟨0, 32, .rc, fun _ => 0⟩]⟩,
  /- CIP_SHARE_STALL -/ ⟨0xb002c, 0, 1, false, [⟨0, 32, .rc, fun _ => 0⟩]⟩,
  /- CIP_RING_PTR -/ ⟨0xb0030, 0, 1, false, [⟨0, 15, .ro, fun _ => 0⟩]⟩,
  /- CIP_RING_PINNED -/ ⟨0xb0034, 0, 1, false, [⟨0, 15, .ro, fun _ => 0⟩]⟩,
  /- PWR_CTRL -/ ⟨0x1c0000, 0, 1, false, [⟨0, 1, .rws, fun _ => 1⟩]⟩,
  /- PWR_STATUS -/ ⟨0x1c0004, 0, 1, false, [⟨0, 1, .ro, fun _ => 0⟩, ⟨1, 1, .ro, fun _ => 0⟩, ⟨2, 1, .ro, fun _ => 0⟩]⟩,
  /- PWR_PADDLE_MAP -/ ⟨0x1c0008, 0, 1, false, [⟨0, 18, .ro, fun _ => 0⟩]⟩,
  /- PWR_EASY_MAP -/ ⟨0x1c000c, 0, 1, false, [⟨0, 18, .ro, fun _ => 0⟩]⟩,
  /- PWR_TEMP -/ ⟨0x1c0010, 0, 1, false, [⟨0, 8, .ro, fun _ => 0⟩, ⟨8, 8, .ro, fun _ => 0⟩, ⟨16, 8, .ro, fun _ => 0⟩]⟩,
  /- PWR_THERM_CFG -/ ⟨0x1c0014, 0, 1, false, [⟨0, 8, .rws, fun _ => 95⟩, ⟨8, 8, .rws, fun _ => 100⟩, ⟨16, 8, .ro, fun _ => 110⟩]⟩,
  /- PWR_THROTTLE_STROKES -/ ⟨0x1c0018, 0, 1, false, [⟨0, 32, .rcs, fun _ => 0⟩]⟩,
  /- PWR_UNIT_CFG -/ ⟨0x1c0100, 32, 18, false, [⟨0, 16, .rws, fun i => paddleIdleReset i⟩, ⟨16, 16, .rws, fun i => easyIdleReset i⟩]⟩,
  /- PWR_UNIT_STATE -/ ⟨0x1c0104, 32, 18, false, [⟨0, 2, .ro, fun _ => 0⟩, ⟨2, 1, .ro, fun _ => 0⟩, ⟨3, 1, .ro, fun _ => 0⟩, ⟨8, 8, .ro, fun _ => 0⟩, ⟨16, 8, .ro, fun _ => 0⟩, ⟨24, 8, .ro, fun _ => 0⟩]⟩,
  /- PWR_UNIT_WAKES -/ ⟨0x1c0108, 32, 18, false, [⟨0, 32, .rc, fun _ => 0⟩]⟩,
  /- PWR_UNIT_REFUSED -/ ⟨0x1c010c, 32, 18, false, [⟨0, 32, .rc, fun _ => 0⟩]⟩,
  /- PWR_UNIT_ABORTED -/ ⟨0x1c0110, 32, 18, false, [⟨0, 32, .rc, fun _ => 0⟩]⟩]

/-- Registers of the window of one seat (R34): offsets in the window, part 7. -/
def seatRegs7 : List RegDef := [
  /- PWR_UNIT_STALL -/ ⟨0x1c0114, 32, 18, false, [⟨0, 32, .rc, fun _ => 0⟩]⟩,
  /- DRM_CTRL -/ ⟨0x1d0000, 0, 1, false, [⟨0, 1, .rws, fun _ => 1⟩, ⟨1, 1, .rws, fun _ => 1⟩, ⟨2, 1, .rws, fun _ => 1⟩]⟩,
  /- DRM_STATUS -/ ⟨0x1d0004, 0, 1, false, [⟨0, 2, .ro, fun _ => 0⟩, ⟨2, 2, .ro, fun _ => 0⟩, ⟨4, 1, .ro, fun _ => 0⟩]⟩,
  /- DRM_EVENTS -/ ⟨0x1d0008, 0, 1, false, [⟨0, 1, .w1cs, fun _ => 0⟩, ⟨1, 1, .w1cs, fun _ => 0⟩, ⟨2, 1, .w1cs, fun _ => 0⟩, ⟨3, 1, .w1cs, fun _ => 0⟩, ⟨4, 1, .w1cs, fun _ => 0⟩, ⟨5, 1, .w1cs, fun _ => 0⟩]⟩,
  /- DRM_EVENT_EN -/ ⟨0x1d000c, 0, 1, false, [⟨0, 6, .rws, fun _ => 62⟩]⟩,
  /- DRM_SCRUB -/ ⟨0x1d0010, 0, 1, false, [⟨0, 8, .rws, fun _ => 8⟩]⟩,
  /- DRM_SCRUB_PASSES -/ ⟨0x1d0014, 0, 1, false, [⟨0, 32, .rcs, fun _ => 0⟩]⟩,
  /- DRM_SCRUB_SKIPPED -/ ⟨0x1d0018, 0, 1, false, [⟨0, 32, .rc, fun _ => 0⟩]⟩,
  /- DRM_CH_CFG -/ ⟨0x1d0100, 64, 2, false, [⟨0, 9, .ro, fun _ => 0⟩, ⟨9, 1, .ro, fun _ => 0⟩]⟩,
  /- DRM_CH_MARK -/ ⟨0x1d0104, 64, 2, false, [⟨0, 4, .ro, fun _ => 0⟩, ⟨8, 4, .ro, fun _ => 0⟩, ⟨16, 4, .ro, fun _ => 0⟩, ⟨24, 4, .ro, fun _ => 0⟩, ⟨4, 1, .ro, fun _ => 0⟩, ⟨12, 1, .ro, fun _ => 0⟩, ⟨20, 1, .ro, fun _ => 0⟩, ⟨28, 1, .ro, fun _ => 0⟩]⟩,
  /- DRM_CH_CORR -/ ⟨0x1d0108, 64, 2, false, [⟨0, 32, .rc, fun _ => 0⟩]⟩,
  /- DRM_CH_UNCORR -/ ⟨0x1d010c, 64, 2, false, [⟨0, 32, .rcs, fun _ => 0⟩]⟩,
  /- DRM_CH_REMAPS -/ ⟨0x1d0110, 64, 2, false, [⟨0, 6, .ro, fun _ => 0⟩]⟩,
  /- DRM_CH_RETRY -/ ⟨0x1d0114, 64, 2, false, [⟨0, 32, .rc, fun _ => 0⟩]⟩,
  /- DRM_CH_SERIAL -/ ⟨0x1d0118, 64, 2, false, [⟨0, 32, .ro, fun _ => 0⟩]⟩,
  /- ANC_STATUS -/ ⟨0x1e0000, 0, 1, false, [⟨0, 1, .ro, fun _ => 0⟩, ⟨1, 1, .ro, fun _ => 0⟩]⟩,
  /- ANC_EVENTS -/ ⟨0x1e0004, 0, 1, false, [⟨0, 1, .w1cs, fun _ => 0⟩, ⟨1, 1, .w1cs, fun _ => 0⟩, ⟨2, 1, .w1cs, fun _ => 0⟩]⟩,
  /- ANC_EVENT_EN -/ ⟨0x1e0008, 0, 1, false, [⟨0, 3, .rws, fun _ => 6⟩]⟩,
  /- ANC_ECC_CORR -/ ⟨0x1e000c, 0, 1, false, [⟨0, 32, .rcs, fun _ => 0⟩]⟩,
  /- ANC_ECC_UNCORR -/ ⟨0x1e0010, 0, 1, false, [⟨0, 32, .rcs, fun _ => 0⟩]⟩,
  /- ANC_TORN -/ ⟨0x1e0014, 0, 1, false, [⟨0, 32, .rcs, fun _ => 0⟩]⟩,
  /- ANC_WRITES -/ ⟨0x1e0020, 4, 10, false, [⟨0, 32, .rcs, fun _ => 0⟩]⟩,
  /- ANC_READ_ADDR -/ ⟨0x1e0100, 0, 1, false, [⟨3, 19, .rw, fun _ => 0⟩]⟩,
  /- ANC_READ -/ ⟨0x1e0104, 0, 1, true, [⟨0, 64, .ro, fun _ => 0⟩]⟩,
  /- FLT_SEAT_ENTRIES -/ ⟨0x1f8000, 0, 1, false, [⟨0, 13, .ro, fun _ => 0⟩]⟩,
  /- FLT_SEAT_EVICT -/ ⟨0x1f8004, 0, 1, false, [⟨0, 32, .rc, fun _ => 0⟩]⟩,
  /- FLT_SEAT_EVENTS -/ ⟨0x1f8008, 0, 1, false, [⟨0, 32, .rc, fun _ => 0⟩]⟩,
  /- FLT_SEAT_LASTING -/ ⟨0x1f800c, 0, 1, false, [⟨0, 32, .rcs, fun _ => 0⟩]⟩,
  /- PFR_STATUS -/ ⟨0x1f0000, 0, 1, false, [⟨0, 1, .ro, fun _ => 0⟩, ⟨1, 1, .ro, fun _ => 0⟩, ⟨2, 12, .ro, fun _ => 0⟩]⟩,
  /- PFR_CTRL -/ ⟨0x1f0004, 0, 1, false, [⟨0, 1, .wo, fun _ => 0⟩, ⟨1, 1, .wo, fun _ => 0⟩, ⟨8, 8, .wo, fun _ => 0⟩]⟩,
  /- PFR_DROPPED -/ ⟨0x1f0008, 0, 1, false, [⟨0, 32, .rc, fun _ => 0⟩]⟩,
  /- PFR_PENDING -/ ⟨0x1f000c, 0, 1, false, [⟨0, 4, .ro, fun _ => 0⟩]⟩,
  /- PFR_TRIG -/ ⟨0x1f0010, 4, 8, false, [⟨0, 3, .ro, fun _ => 0⟩, ⟨3, 1, .ro, fun _ => 0⟩, ⟨4, 6, .ro, fun _ => 0⟩, ⟨16, 16, .ro, fun _ => 0⟩]⟩,
  /- PFR_SELECT -/ ⟨0x1f0100, 0, 1, false, [⟨0, 11, .rw, fun _ => 0⟩]⟩,
  /- PFR_RECORD -/ ⟨0x1f0200, 4, 64, false, [⟨0, 32, .ro, fun _ => 0⟩]⟩]

/-- Registers of the window of one seat (R34): offsets in the window. -/
def seatRegs : List RegDef := seatRegs0 ++ seatRegs1 ++ seatRegs2 ++ seatRegs3 ++ seatRegs4 ++ seatRegs5 ++ seatRegs6 ++ seatRegs7

/-- Registers of the PCI_ registers (R457): offsets in the vendor-specific capability, part 0. -/
def cfgRegs0 : List RegDef := [
  /- PCI_RESET_SCOPE -/ ⟨0x8, 0, 1, false, [⟨0, 1, .rws, fun _ => 0⟩]⟩,
  /- PCI_INTX_STATUS -/ ⟨0xc, 0, 1, false, [⟨0, 8, .w1c, fun _ => 0⟩]⟩,
  /- PCI_INTX_EN -/ ⟨0x10, 0, 1, false, [⟨0, 8, .rw, fun _ => 255⟩]⟩,
  /- PCI_EVENT_VECTOR -/ ⟨0x14, 0, 1, false, [⟨0, 11, .rws, fun _ => 0⟩]⟩,
  /- PCI_EVENTS -/ ⟨0x18, 0, 1, false, [⟨0, 1, .w1cs, fun _ => 0⟩, ⟨1, 1, .w1cs, fun _ => 0⟩, ⟨2, 1, .w1cs, fun _ => 0⟩, ⟨3, 1, .w1cs, fun _ => 0⟩, ⟨4, 1, .w1cs, fun _ => 0⟩, ⟨5, 1, .w1cs, fun _ => 0⟩]⟩,
  /- PCI_LINK_STATE -/ ⟨0x1c, 0, 1, false, [⟨0, 3, .ro, fun _ => 0⟩, ⟨3, 5, .ro, fun _ => 0⟩, ⟨8, 1, .ro, fun _ => 0⟩, ⟨9, 2, .ro, fun _ => 0⟩]⟩,
  /- PCI_OUTSTANDING -/ ⟨0x20, 0, 1, false, [⟨0, 10, .ro, fun _ => 0⟩]⟩,
  /- PCI_DISCARDED -/ ⟨0x24, 0, 1, false, [⟨0, 32, .rcs, fun _ => 0⟩]⟩,
  /- PCI_POISON_SENT -/ ⟨0x28, 0, 1, false, [⟨0, 32, .rcs, fun _ => 0⟩]⟩,
  /- PCI_POISON_RCVD -/ ⟨0x2c, 0, 1, false, [⟨0, 32, .rcs, fun _ => 0⟩]⟩,
  /- PCI_L1_ENTRIES -/ ⟨0x30, 0, 1, false, [⟨0, 32, .rc, fun _ => 0⟩]⟩,
  /- PCI_FLR_WAIT -/ ⟨0x34, 0, 1, false, [⟨0, 32, .ro, fun _ => 0⟩]⟩,
  /- PCI_MSG_HELD -/ ⟨0x38, 0, 1, false, [⟨0, 32, .rc, fun _ => 0⟩]⟩]

/-- Registers of the PCI_ registers (R457): offsets in the vendor-specific capability. -/
def cfgRegs : List RegDef := cfgRegs0

end Sys2Proof.Machine
end

