-- ==== Sys2Proof/Machine/Ops.lean ====
section
/-!
DEFINITION. Machine/Ops.lean: the named operations every meaning is built from: reading and writing a register field, counting,
sending, taking an open value.
-/

namespace Sys2Proof.Machine

/-- The value in force of a register field. -/
def rd (s : State) (f : Fld) : Nat := fgetD s.regs f.key f.reset % 2 ^ f.width

/-- Whether a one-bit field is set. -/
def isSet (s : State) (f : Fld) : Bool := rd s f != 0

/-- Set a register field; a field at its reset value is not listed, so that equal register files are equal data. -/
def wr (f : Fld) (v : Nat) (s : State) : State :=
  { s with regs := if v % 2 ^ f.width = f.reset then fdel s.regs f.key else fset s.regs f.key (v % 2 ^ f.width) }

/-- Set a one-bit field to a truth value. -/
def wrB (f : Fld) (b : Bool) (s : State) : State := wr f (b2n b) s

/-- Count `n` events in a counter, which saturates (R98, R136 and the other block rules). -/
def bumpN (f : Fld) (n : Nat) (s : State) : State := wr f (min (rd s f + n) (2 ^ f.width - 1)) s

/-- Count one event. -/
def bump (f : Fld) (s : State) : State := bumpN f 1 s

/-- Lower a live count by `n`, not below zero. -/
def lower (f : Fld) (n : Nat) (s : State) : State := wr f (rd s f - n) s

/-- Set a field to its reset value. -/
def clear (f : Fld) (s : State) : State := wr f f.reset s

/-- Record a message the block sends. -/
def emit (k : OutKind) (args : List Nat) (s : State) : State := { s with out := ⟨k, args⟩ :: s.out }

/-- A value the spec leaves open, and the state in which the next one is another (log entry 1). -/
def openValue (s : State) : Nat × State := (Config.freeValue s.freeCount, { s with freeCount := s.freeCount + 1 })

/-- Do `f` where `c` holds. -/
def when (c : Bool) (f : State → State) (s : State) : State := if c then f s else s

/-- Write an open value into a field. -/
def wrOpen (f : Fld) (s : State) : State := wr f (openValue s).1 (openValue s).2

/-- The step goes on in state `s`. -/
def go (s : State) : Host.Outcome State Fault Refusal := .next s

/-- A meaning of the seat clusters and engines: nothing while the head is halted (R507). -/
def live (f : State → State) (s : State) : State := if s.boot.halted then s else f s

/-- A meaning of the front end, the pair frames and background work: they have stopped from haul-out detection on (R494). -/
def running (f : State → State) (s : State) : State :=
  if s.boot.halted ∨ rd s Reg.HLD_STATUS_PHASE ≠ 0 then s else f s

/-- The seats of the package. -/
def seatList (s : State) : List Nat := List.range s.hw.seats

/-- The slots of the backplane that the variant has: twelve per seat (R1, R288). -/
def slotCount (s : State) : Nat := 12 * s.hw.seats

/-- Whether stroke count `a` is later than `b` (R45). -/
def strokeLater (a b : Nat) : Bool :=
  let d := subMod 32 a b
  1 ≤ d && d ≤ 2147483647

/-- The 32-bit stroke count (R43). -/
def strokeCount (s : State) : Nat := s.stk.ext % 4294967296

/-- Strokes since extended stroke `t`. -/
def strokesSince (s : State) (t : Nat) : Nat := s.stk.ext - t

/-- A phase difference in ticks, brought to at most half a period in either direction. -/
def phaseNorm (s : State) (x : Int) : Int :=
  let p : Int := (max 1 (rd s Reg.STK_PERIOD_TICKS) : Nat)
  let r := x % p
  if 2 * r ≤ p then r else r - p

/-- The boot ROM has handed over to the cox (R461, R467). -/
def coxRuns (s : State) : Bool := isSet s Reg.MBX_STATUS_READY || rd s Reg.PKG_BOOT_STATUS_PHASE == 5

/-- The newest intact floor: the slot that holds it and its record (R51). -/
def newestFloor (s : State) : Option (Nat × Floor) :=
  s.stk.floors.foldl (fun best e => if e.2.intact then
    match best with
    | some b => if b.2.seq < e.2.seq then some e else best
    | none => some e
    else best) none

/-- The highest floor whose slot has an intact tag (R51). -/
def highestFloor (s : State) : Option Nat :=
  s.stk.floors.foldl (fun best e => if e.2.intact then some (max (best.getD 0) e.2.value) else best) none

/-- A record is written to a region of a seat's anchor store (R513, R516). -/
def ancWrote (seat region : Nat) (s : State) : State := bump (Reg.ANC_WRITES_COUNT seat region) s

/-- One floor write to the slot after `slot`, never to the newest intact one, with its read-back (R51). -/
def writeFloor (value slot seq : Nat) (ok : Bool) (s : State) : State :=
  ancWrote 0 1 { s with stk := { s.stk with floors := fset s.stk.floors (slot % 16) ⟨value, seq, ok⟩ } }

/-- One tick passes with no command waiting: the 20-bit tick counter of every seat runs (R43; log entry 5). -/
def idleTick (s : State) : State :=
  { s with stk := { s.stk with tick := (s.stk.tick + 1) % 1048576, seatTicks := s.stk.seatTicks.map fun t => (t + 1) % 1048576 } }

/-- Set the tick counter of every seat: each follows the stroke seat's (R43, R44; log entry 97). -/
def setTicks (t : Nat) (s : State) : State :=
  { s with stk := { s.stk with tick := t % 1048576, seatTicks := s.stk.seatTicks.map fun _ => t % 1048576 } }

/-- The tick counter of a seat (R43). -/
def seatTick (s : State) (seat : Nat) : Nat := if seat = 0 then s.stk.tick else s.stk.seatTicks.getD (seat - 1) 0

end Sys2Proof.Machine
end

