-- ==== Sys2Proof/Machine/Operands.lean ====
section
/-!
DEFINITION. Machine/Operands.lean: what an address names. An access by the host or by firmware names a register by its BAR0
address (R34); the registers of configuration space (R457) are named here by 0x1_0000_0000 plus their offset.
-/

namespace Sys2Proof.Machine

/-- A register an address names: its row of the register tables, its member of the array, the byte address of its low word, and
whether the address is that of its high word. -/
structure RegRef where
  row : RegDef
  idx : Nat
  low : Nat
  high : Bool

/-- The row and member at an offset of a register table. -/
def findReg (base : Nat) : List RegDef → Nat → Option RegRef
  | [], _ => none
  | d :: t, off =>
    let rel := off - d.off
    let i := if d.stride = 0 then 0 else rel / d.stride
    let r := if d.stride = 0 then rel else rel % d.stride
    if d.off ≤ off && i < d.count && (r == 0 || (d.wide && r == 4)) then some ⟨d, i, base + off - r, r == 4⟩
    else findReg base t off

/-- The PCI_ registers lie in configuration space; the model names them above every BAR0 address. -/
def cfgBase : Nat := 4294967296

/-- Blocks of the package-common window (R34): 64 KiB each, up to 0x0B_FFFF. -/
def inPkgBlock (off : Nat) : Bool := off < 0xC0000

/-- Blocks of a seat window (R34): up to 0x1F_FFFF. -/
def inSeatBlock (off : Nat) : Bool := off < 0x200000

/-- Whether an address lies in a block of a window of this variant (R34). -/
def inBlock (s : State) (a : Nat) : Bool :=
  if cfgBase ≤ a then true
  else if a < 0x400000 then inPkgBlock a
  else a / 0x400000 - 1 < s.hw.seats && inSeatBlock (a % 0x400000)

/-- The register at an address, if one is there. -/
def regAt (s : State) (a : Nat) : Option RegRef :=
  if cfgBase ≤ a then findReg cfgBase cfgRegs (a - cfgBase)
  else if a < 0x400000 then findReg 0 pkgRegs a
  else if a / 0x400000 - 1 < s.hw.seats then findReg (a / 0x400000 * 0x400000) seatRegs (a % 0x400000)
  else none

/-- The field that a row's field stands for in one register. -/
def fldOf (r : RegRef) (d : FieldDef) : Fld := ⟨8 * r.low + d.lsb, d.width, d.reset r.idx⟩

/-- The image the cox runs from, as the version registers show it. -/
def runVersion (s : State) : Nat := match s.boot.running with | some h => h.version | none => 0

/-- Fields that show a value the block keeps elsewhere: the value, where the field is one of them. -/
def viewOf (s : State) (key : Nat) : Option Nat :=
  if key = Reg.STK_COUNT_COUNT.key then some (strokeCount s)
  else if key = Reg.STK_EXT.key then some s.stk.ext
  else if key = Reg.STK_TICK_TICK.key then some s.stk.tick
  else if key = Reg.STK_FLOOR.key then some (match newestFloor s with | some f => f.2.value | none => 0)
  else if key = Reg.PKG_ID_SEATS.key then some s.hw.seats
  else if key = Reg.PKG_DURABILITY_HOLDS.key then
    some (b2n (isSet s Reg.PKG_DURABILITY_PAIRED && isSet s Reg.PKG_DURABILITY_BUDGET_DECLARED && isSet s Reg.PKG_DURABILITY_REDUNDANT
      && isSet s Reg.PKG_DURABILITY_STROKE_A_OK && isSet s Reg.PKG_DURABILITY_STROKE_B_OK && isSet s Reg.PKG_DURABILITY_SUPPLY_DECLARED))
  else if key = Reg.PKG_STRAPS_SIDE.key then some (b2n s.hw.straps.side)
  else if key = Reg.PKG_STRAPS_SEPCLK.key then some (b2n s.hw.straps.sepclk)
  else if key = Reg.PKG_STRAPS_TEST.key then some s.hw.straps.test
  else if key = Reg.PAIR_STATUS_SIDE.key then some (b2n s.hw.straps.side)
  else if key = Reg.PAIR_VERSION_MINOR.key then some (match s.boot.running with | some h => h.pairMinor | none => 0)
  else if key = Reg.PAIR_VERSION_MAJOR.key then some (match s.boot.running with | some h => h.pairMajor | none => 0)
  else if key = Reg.UPD_RUNNING_VERSION.key then some (runVersion s)
  else if key = Reg.UPD_PEN_PEN.key then some Config.pen
  else if key = Reg.KEY_STATUS_OWNER_ENROLLED.key then some (b2n s.hw.owner.isSome)
  else if key = Reg.KEY_STATUS_ROOT_REVOKED.key then some s.hw.rootRevoked
  else if key = Reg.KEY_SVN_MIN_SVN.key then some s.hw.svnMin
  else if key = Reg.MBX_COX_ACTIVE_SEAT.key then some s.cox.active
  else if (Reg.KEY_OWNER_HASH_HASH 0).key ≤ key && key < (Reg.KEY_OWNER_HASH_HASH 12).key then
    some (((s.hw.owner.getD []).getD ((key - (Reg.KEY_OWNER_HASH_HASH 0).key) / 32)) 0)
  else match viewPkg s key with
    | some v => some v
    | none => if 33554432 ≤ key && key < 8 * cfgBase then
        (match viewSeat s (key / 33554432 - 1) key with
          | some v => some v
          | none => viewPool s (key / 33554432 - 1) key)
      else none

/-- What a read of a field returns: a field that shows a value kept elsewhere shows it; a field with a write waiting for the
next stroke boundary returns the last value written (R10); a write-only field returns zero. -/
def readFld (s : State) (acc : Acc) (f : Fld) : Nat :=
  if acc = .wo then 0
  else match fget s.bus.waiting f.key with
    | some w => w.2 % 2 ^ f.width
    | none => (match viewOf s f.key with
      | some v => v % 2 ^ f.width
      | none => rd s f)

/-- The 32-bit word an access reads at one half of a register: its fields at their places; reserved bits are zero (R9). -/
def readWord (s : State) (r : RegRef) : Nat :=
  if r.row.wide then
    match r.row.fields with
    | d :: _ => if r.high then readFld s d.acc (fldOf r d) / 4294967296 else readFld s d.acc (fldOf r d) % 4294967296
    | [] => 0
  else r.row.fields.foldl (fun w d => w + readFld s d.acc (fldOf r d) * 2 ^ d.lsb) 0

/-- The word at an address, without any effect of a read (R527): zero where no register is. -/
def peek (s : State) (a : Nat) : Nat :=
  match regAt s a with
  | some r => readWord s r
  | none => 0

/-- The byte address of the register that holds the bit at a bit address. -/
def addrOfBit (key : Nat) : Nat := key / 32 * 4

end Sys2Proof.Machine
end

