-- ==== Sys2Proof/Machine/Galois.lean ====
section
/-!
DEFINITION. Machine/Galois.lean: the code of a row (R215): the field of 256 elements, the coefficients, and the bytes of a parity page.
-/

namespace Sys2Proof.Machine

/-- Twice an element of GF(2^8) with the polynomial 0x11D. -/
def gfDouble (a : Nat) : Nat := if 128 ≤ a then Nat.xor (2 * a) 0x11D else 2 * a

/-- Product of two elements. -/
def gfMul (a b : Nat) : Nat :=
  ((List.range 8).foldl (fun (r : Nat × Nat) i => (if bitOf b i then Nat.xor r.1 r.2 else r.1, gfDouble r.2)) (0, a)).1

/-- Inverse of an element: its power 254, the product of its powers 2, 4, 8 and so on to 128. -/
def gfInv (a : Nat) : Nat :=
  ((List.range 7).foldl (fun (r : Nat × Nat) _ => (gfMul r.1 (gfMul r.2 r.2), gfMul r.2 r.2)) (1, a)).1

/-- Quotient of two elements. -/
def gfDiv (a b : Nat) : Nat := gfMul a (gfInv b)

/-- The coefficient c_ij of parity `i` for data symbol `j` (R215): y_j / (x_i + y_j), with x_i = i and y_j = 4 + j. -/
def parityCoef (i j : Nat) : Nat := gfDiv (4 + j) (Nat.xor i (4 + j))

/-- Sum of two pages, byte by byte; a shorter one counts as filled with zeros. -/
def pageXor : List Nat → List Nat → List Nat
  | [], b => b
  | a, [] => a
  | x :: a, y :: b => Nat.xor x y :: pageXor a b

/-- The bytes of parity page `i` over the data pages of a row (R215). -/
def parityPage (i : Nat) (data : List (List Nat)) : List Nat :=
  (List.zip (List.range data.length) data).foldl (fun p d => pageXor p (d.2.map (gfMul (parityCoef i d.1)))) []

end Sys2Proof.Machine
end

