-- ==== Sys2Proof/Machine/Digest.lean ====
section
/-!
DEFINITION. Machine/Digest.lean: the hashing cores of the digest engine and the contexts that share them (R383, R384).
-/

namespace Sys2Proof.Machine

/-- A seat's cores. -/
def digCores (s : State) (seat : Nat) : DigCores := fgetD s.keys.cores seat ⟨[], [], [], 0⟩

/-- Set a seat's cores; CORES_BUSY shows those that run a context. -/
def setCores (seat : Nat) (d : DigCores) (s : State) : State :=
  { s with keys := { s.keys with cores := fset s.keys.cores seat d } }
    |> wr (Reg.DIG_STATUS_CORES_BUSY seat) ((List.range 4).foldl (fun n c => n + if fhas d.running c then 2 ^ c else 0) 0)

/-- Context 0 and the snoop contexts 1 to 7 (R383). -/
def snoops (ctx : Nat) : Bool := decide (ctx ≤ 7)

/-- The context that takes a core which falls free (R384): context 0, the snoop contexts in order of arrival, then the others round robin. -/
def digPick (d : DigCores) : Option DigJob :=
  let ready := d.waiting.filter fun j => !d.running.any fun r => r.2.ctx == j.ctx
  let others := ready.filter fun j => !snoops j.ctx
  let least := fun (l : List DigJob) => l.foldl (fun (b : Option DigJob) j => match b with
    | some x => if j.ctx < x.ctx then some j else b
    | none => some j) none
  match ready.find? (fun j => j.ctx == 0), ready.find? fun j => snoops j.ctx with
  | some j, _ => some j
  | none, some j => some j
  | none, none => (match least (others.filter fun j => decide (d.turn < j.ctx)) with
    | some j => some j
    | none => least others)

/-- A free core takes a context; whether it is another than the one it ran last, a switch. -/
def digTake (core : Nat) (d : DigCores) : DigCores × Bool :=
  if fhas d.running core then (d, false)
  else match digPick d with
    | none => (d, false)
    | some j =>
      ({ running := fset d.running core { j with took := 0 }, last := fset d.last core j.ctx, waiting := d.waiting.erase j,
         turn := if snoops j.ctx then d.turn else j.ctx }, fget d.last core != some j.ctx)

/-- A core absorbs up to `b` bytes in its present turn: all of a job of context 0 or of a snoop context, at most the rest of 4 KiB of another,
which then gives way to a context that waits (R384). The answer holds the bytes not used. -/
def digAbsorb (core b : Nat) (d : DigCores) : DigCores × Nat :=
  match fget d.running core with
  | none => (d, b)
  | some j =>
    let n := min b (if snoops j.ctx then j.left else min j.left (4096 - j.took))
    let j := { j with left := j.left - n, took := j.took + n }
    if j.left = 0 then ({ d with running := fdel d.running core }, b - n)
    else if !snoops j.ctx ∧ j.took = 4096 then
      let free := { d with running := fdel d.running core }
      if (digPick free).isSome then ({ free with waiting := d.waiting ++ [{ j with took := 0 }] }, b - n)
      else ({ d with running := fset d.running core { j with took := 0 } }, b - n)
    else ({ d with running := fset d.running core j }, b - n)

/-- One round over the four cores: each takes a context where it is free and absorbs; with the bytes that each core has left in this stroke and
the switches made. -/
def digRound (x : DigCores × List Nat × Nat) : DigCores × List Nat × Nat :=
  (List.range 4).foldl (fun x c =>
    let t := digTake c x.1
    let a := digAbsorb c (x.2.1.getD c 0) t.1
    (a.1, x.2.1.set c a.2, x.2.2 + b2n t.2)) x

/-- Rounds until the work or the stroke is over. -/
def digRounds : Nat → DigCores × List Nat × Nat → DigCores × List Nat × Nat
  | 0, x => x
  | fuel + 1, x => let y := digRound x; if y = x then x else digRounds fuel y

/-- Free cores take contexts that wait at once. -/
def digStart (seat : Nat) (s : State) : State :=
  let r := (List.range 4).foldl (fun (x : DigCores × Nat) c => let t := digTake c x.1; (t.1, x.2 + b2n t.2)) (digCores s seat, 0)
  s |> setCores seat r.1 |> bumpN (Reg.DIG_SWITCHES_COUNT seat) r.2

/-- Input for a context: more for one that still has some to absorb, else it waits for a core. -/
def digFeed (seat ctx bytes : Nat) (s : State) : State :=
  let d := digCores s seat
  let more := fun (j : DigJob) => if j.ctx = ctx then { j with left := j.left + bytes } else j
  let d := if !snoops ctx ∧ (d.waiting ++ d.running.map Prod.snd).any (fun j => j.ctx == ctx) = true then
      { d with waiting := d.waiting.map more, running := fmapV d.running fun _ j => more j }
    else { d with waiting := d.waiting ++ [⟨ctx, bytes, 0⟩] }
  s |> setCores seat d |> digStart seat

/-- The snoop context that takes the next block at the catch write port: the lowest that is free, else the lowest that has least to do. -/
def snoopFor (s : State) (seat : Nat) : Nat :=
  let d := digCores s seat
  let load := fun n => ((d.waiting ++ d.running.map Prod.snd).filter fun j => j.ctx == n).length
  (List.range 7).foldl (fun b i => if load (i + 1) < load b then i + 1 else b) 1

/-- A block with its stored metadata at the catch write port is a fingerprint job of a snoop context (R108, R383). -/
def digSnoop (seat bytes : Nat) (s : State) : State := s |> bumpN (Reg.DIG_BYTES seat) bytes |> digFeed seat (snoopFor s seat) bytes

/-- The boot-measurement context absorbs what the boot window brings as it comes: it takes core 0 of the stroke seat, and keeps it (R383,
R384). -/
def digBoot (s : State) : State :=
  let d := digCores s 0
  s |> when (fget d.last 0 != some 0) (bump (Reg.DIG_SWITCHES_COUNT 0)) |> setCores 0 { d with last := fset d.last 0 0 }

/-- The cores of a seat over one stroke: 12 GB/s each, which is 120 bytes a tick (R383). -/
def digServe (seat : Nat) (s : State) : State :=
  let d := digCores s seat
  if d.running = [] ∧ d.waiting = [] then s
  else
    let b := 120 * rd s Reg.STK_PERIOD_TICKS
    let work := (d.waiting ++ d.running.map Prod.snd).foldl (fun n j => n + 2 + j.left / 4096) 0
    let r := digRounds work (d, List.replicate 4 b, 0)
    s |> setCores seat r.1 |> bumpN (Reg.DIG_SWITCHES_COUNT seat) r.2.2

end Sys2Proof.Machine
end

