-- ==== Sys2Proof/Machine/Flags.lean ====
section
/-!
DEFINITION. Machine/Flags.lean: event bits, the durability conditions, the logbook, the photo-finish recorder and the fault
counters: everything the block records of what happens to it.
-/

namespace Sys2Proof.Machine

/-! ### Messages to the host -/

/-- Whether a message may be sent on a vector now (R439, R448). -/
def msixOpen (s : State) (v : Nat) : Bool :=
  s.pci.bme && s.pci.msixEnable && s.pci.unmasked.contains v && !s.pci.d3

/-- The device sends a packet upstream: it wakes the link first (R447). -/
def upstream (k : OutKind) (args : List Nat) (s : State) : State := s |> wr Reg.PCI_LINK_STATE_PM 0 |> emit k args

/-- A message is due on a vector: sent, Relaxed Ordering clear, or its pending bit set (R439, R441). -/
def sendMsix (v : Nat) (s : State) : State :=
  if msixOpen s v then upstream (.msix false) [v] s
  else { s with pci := { s.pci with pendingVecs := if s.pci.pendingVecs.contains v then s.pci.pendingVecs else s.pci.pendingVecs ++ [v] } }
    |> bump Reg.PCI_MSG_HELD_COUNT

/-! ### The logbook (R521 to R524) -/

/-- Entries the ring holds. -/
def logSize : Nat := 1048576

/-- Write one entry: the next sequence, stamped now. -/
def logWrite (seat cls code : Nat) (raised : Bool) (payload : List Nat) (s : State) : State :=
  let seq := rd s Reg.LOG_NEXT_SEQ_SEQ
  let log := (⟨seq, s.stk.ext, seatTick s seat, seat, cls, raised, code, payload⟩ :: s.health.log).take logSize
  { s with health := { s.health with log := log } }
    |> wr Reg.LOG_NEXT_SEQ_SEQ (seq + 1)
    |> wr Reg.LOG_OLDEST_SEQ_SEQ (subMod 32 (seq + 1) log.length)

/-- Log an entry of a class from a seat, within the seat's rate for the class in this stroke (R524). The logbook accepts
entries once LOG_STATUS.READY is set. -/
def logE (seat cls code : Nat) (raised : Bool) (payload : List Nat) (s : State) : State :=
  if isSet s Reg.LOG_STATUS_READY then
    let k := pairKey seat cls
    let n := fgetD s.health.logCount k 0
    if cls = 3 ∨ cls = 6 then logWrite seat cls code raised payload s
    else if n < max 1 (rd s Reg.LOG_RATE_PER_STROKE) then
      logWrite seat cls code raised payload { s with health := { s.health with logCount := fset s.health.logCount k (n + 1) } }
    else { s with health := { s.health with logLost := fset s.health.logLost k (fgetD s.health.logLost k 0 + 1) } }
      |> bump Reg.LOG_SUPPRESSED_COUNT
  else s

/-- An ACCESS entry: a refused register access (R6, R34): BAR, write flag, size, offset. -/
def logAccess (bar : Nat) (write : Bool) (size off : Nat) (s : State) : State :=
  logE 0 5 0 false [bar, b2n write, size, off] s

/-- A FIRMWARE entry (class 7): a message of the cox or a seat agent, by a number of this model's for its text. -/
def logFw (seat code : Nat) (args : List Nat) (s : State) : State := logE seat 7 code false args s

/-! ### The photo-finish recorder (R526 to R529) -/

/-- The code of a trigger's kind (*Trigger kinds*). -/
def trigKind : TrigCond → Nat
  | .off => 0 | .event _ => 1 | .fault _ _ => 2 | .stroke _ _ => 3 | .linked _ _ => 4 | .software => 5 | .haulout => 6

/-- The records in use on a seat. -/
def recsUsed (s : State) (seat : Nat) : Nat := rd s (Reg.PFR_STATUS_RECORDS seat)

/-- A trigger of a seat fires: a record, unless the recorder is full (R526, R529). -/
def pfrFire (seat t cause : Nat) (s : State) : State :=
  match fget s.health.trigs (pairKey seat t) with
  | none => s
  | some g =>
    let held : Bool := match g.last with
      | some l => decide (s.stk.ext < l + g.arm.holdoff)
      | none => false
    if trigKind g.arm.cond = 0 ∨ held = true ∨ (g.arm.limit ≠ 0 ∧ g.arm.limit ≤ g.fired) then s
    else
      let n := recsUsed s seat
      let s := emit .pfrLinked [seat, t] s
      if n < 2048 then
        let r : PfrRec := ⟨s.stk.ext, seatTick s seat, t, trigKind g.arm.cond, cause, rd s Reg.LOG_NEXT_SEQ_SEQ, g.arm.regs.map (peek s)⟩
        { s with health := { s.health with
            recs := fset s.health.recs (pairKey seat n) r
            trigs := fset s.health.trigs (pairKey seat t) { g with fired := g.fired + 1, last := some s.stk.ext } } }
          |> bump (Reg.PFR_TRIG_FIRED seat t)
          |> wr (Reg.PFR_STATUS_RECORDS seat) (n + 1)
          |> wrB (Reg.PFR_STATUS_FULL seat) (n + 1 == 2048)
      else bump (Reg.PFR_DROPPED_COUNT seat) s

/-- Fire every trigger of a seat whose condition satisfies `p`, in ascending index (R529). -/
def pfrFireWhere (seat cause : Nat) (p : TrigCond → Bool) (s : State) : State :=
  foldS (List.range 8) (fun t s =>
    match fget s.health.trigs (pairKey seat t) with
    | some g => if p g.arm.cond then pfrFire seat t cause s else s
    | none => s) s

/-- The seat in whose window a bit address lies: the package window counts as the stroke seat's (R526), and so does the configuration space of
its endpoint. -/
def seatOfBit (key : Nat) : Nat := if cfgBase ≤ key / 8 then 0 else key / 8 / 0x400000 - 1

/-- The offset of a register within its window. -/
def offsetOfBit (key : Nat) : Nat := addrOfBit key % 0x400000

/-! ### Event bits -/

/-- Raise an event to the cox: it reaches the host as one message on PCI_EVENT_VECTOR (R439). -/
def coxRaise (s : State) : State := sendMsix (rd s Reg.PCI_EVENT_VECTOR_VECTOR) s

/-- An event bit is set: the bit, its logbook entry (R522), the triggers that wait for it (R526), and, where it is raised to
the cox, the message (R439). -/
def setEvent (ev : Fld) (raised : Bool) (s : State) : State :=
  let was := isSet s ev
  let s := wr ev 1 s
  let a := addrOfBit ev.key
  let code := if 0x400000 ≤ a ∧ a < cfgBase then 32768 + a % 0x400000 / 65536 else a % 0x400000 / 65536
  let s := logE (seatOfBit ev.key) 1 code raised [offsetOfBit ev.key, peek s a] s
  let s := if was then s else pfrFireWhere (seatOfBit ev.key) (offsetOfBit ev.key) (· == .event ev.key) s
  if raised then coxRaise s else s

/-- An event bit of a block that has an enable register: bit `bit` of `en` decides whether it is raised to the cox. -/
def event (ev en : Fld) (bit : Nat) (s : State) : State := setEvent ev (bitOf (rd s en) bit) s

/-! ### Durability (R29) -/

/-- Set one of the condition bits [5:0] of PKG_DURABILITY: a change sets CHANGED and is raised to the cox. -/
def durability (f : Fld) (v : Bool) (s : State) : State :=
  if isSet s f = v then s else wrB f v s |> setEvent Reg.PKG_DURABILITY_CHANGED true

/-! ### Fault counters (R517 to R520) -/

/-- Key of a fault table entry. -/
def faultKey (seat source inst : Nat) : Nat := (seat * 32 + source) * 18446744073709551616 + inst

/-- The seat of a fault key. -/
def faultSeat (k : Nat) : Nat := k / 18446744073709551616 / 32

/-- The source of a fault key. -/
def faultSource (k : Nat) : Nat := k / 18446744073709551616 % 32

/-- The instance number of a fault key. -/
def faultInst (k : Nat) : Nat := k % 18446744073709551616

/-- Window count: the sum of the buckets (R518). -/
def windowCount (e : FaultEntry) : Nat := e.buckets.sum

/-- Add one to a bucket, which saturates at 16 bits. -/
def addBucket (b : List Nat) (i : Nat) : List Nat := b.set i (min (b.getD i 0 + 1) 65535)

/-- Eight empty buckets. -/
def noBuckets : List Nat := [0, 0, 0, 0, 0, 0, 0, 0]

/-- The fault table entries of a seat. -/
def seatFaults (s : State) (seat : Nat) : FMap FaultEntry := fkeep s.health.faults fun k _ => faultSeat k == seat

/-- The entry that R520 replaces: the smallest window count, then the oldest newest event. -/
def evictChoice (m : FMap FaultEntry) : Option Nat :=
  (m.foldl (fun best e => match best with
    | none => some e
    | some b => if windowCount e.2 < windowCount b.2 ∨ (windowCount e.2 = windowCount b.2 ∧ e.2.newest < b.2.newest) then some e else best)
    none).map Prod.fst

/-- Show the number of entries in use. -/
def showEntries (seat : Nat) (s : State) : State := wr (Reg.FLT_SEAT_ENTRIES_COUNT seat) (seatFaults s seat).length s

/-- Make room for a new entry on a seat (R520). -/
def faultRoom (seat : Nat) (s : State) : State :=
  let m := seatFaults s seat
  if m.length < 4096 then s
  else match evictChoice m with
    | none => s
    | some k => { s with health := { s.health with faults := fdel s.health.faults k } }
      |> bump (Reg.FLT_SEAT_EVICT_COUNT seat)
      |> event Reg.FLT_EVENTS_EVICTED Reg.FLT_EVENT_EN_ENABLE 1

/-- One event of a fault source (R517): counted, logged TRANSIENT or LASTING; the answer says whether it became lasting. The
consequence of a lasting fault is applied by `Machine/Faults.lean`. -/
def faultCount (seat source inst : Nat) (device : Option Nat) (detail : List Nat) (s : State) : State × Bool :=
  let k := faultKey seat source inst
  let s := if fhas s.health.faults k then s else faultRoom seat s
  let e := fgetD s.health.faults k ⟨noBuckets, 0, []⟩
  let cur := rd s Reg.FLT_BUCKET_CURRENT
  let e : FaultEntry := ⟨addBucket e.buckets cur, s.stk.ext,
    match device with
    | some d => fset e.devices d (addBucket (fgetD e.devices d noBuckets) cur)
    | none => e.devices⟩
  let n := max 1 (rd s (Reg.FLT_SRC_N_N source))
  let c := windowCount e
  let s := { s with health := { s.health with faults := fset s.health.faults k e } }
    |> bump Reg.FLT_TRANSIENT_COUNT |> bump (Reg.FLT_SRC_COUNT_COUNT source) |> bump (Reg.FLT_SEAT_EVENTS_COUNT seat) |> showEntries seat
  if n ≤ c then
    let seq := rd s Reg.LOG_NEXT_SEQ_SEQ
    let s := s |> logE seat 3 source true ([inst, c, n] ++ detail)
      |> when (isSet s Reg.LOG_STATUS_READY) (wr Reg.LOG_LAST_LASTING_SEQ seq)
      |> bump Reg.FLT_LASTING_COUNT |> bump (Reg.FLT_SEAT_LASTING_COUNT seat)
      |> event Reg.FLT_EVENTS_LASTING Reg.FLT_EVENT_EN_ENABLE 0
      |> pfrFireWhere seat source (fun | .fault src _ => src == source | _ => false)
    (s, true)
  else
    (s |> logE seat 2 source false ([inst, c, n] ++ detail)
      |> pfrFireWhere seat source (fun | .fault src l => src == source && !l | _ => false), false)

/-- After the consequence of a lasting fault, the eight buckets of the entry clear (R519). -/
def faultClear (seat source inst : Nat) (s : State) : State :=
  let f := fmod s.health.faults (faultKey seat source inst) (fun e => { e with buckets := noBuckets, devices := [] })
  { s with health := { s.health with faults := f } }

/-- One event of a source whose consequence when lasting is the logbook entry alone (*Fault sources*). -/
def faultNote (seat source inst : Nat) (detail : List Nat) (s : State) : State :=
  let r := faultCount seat source inst none detail s
  if r.2 then faultClear seat source inst r.1 else r.1

/-- Units of a seat in the ENGINE source (0x0F): cipher, compression, digest, parity. -/
def engineFault (seat unit : Nat) (detail : List Nat) (s : State) : State := faultNote seat 0x0F (seat * 256 + unit) detail s

end Sys2Proof.Machine
end

