-- ==== Sys2Proof/Machine/Aer.lean ====
section
/-!
DEFINITION. Machine/Aer.lean: Advanced Error Reporting (R443): what an error of the function records and reports. Bits, masks, severities and
the course of an advisory non-fatal error are the PCIe specification's (PRESUMED, log entry 107).
-/

namespace Sys2Proof.Machine

/-- The correctable errors the device reports (R443). -/
inductive CorrErr where
  | receiver | badTlp | badDllp | replayRollover | replayTimeout | advisory | internal | headerOverflow
  deriving DecidableEq, Repr

/-- The uncorrectable errors the device reports (R443). -/
inductive UncorrErr where
  | dataLink | poisoned | flowControl | completionTimeout | completerAbort | unexpectedCompletion | receiverOverflow | malformed | unsupported
  | internal
  deriving DecidableEq, Repr

/-- The bit of a correctable error in its status and mask registers. -/
def corrBit : CorrErr → Nat
  | .receiver => 0 | .badTlp => 6 | .badDllp => 7 | .replayRollover => 8 | .replayTimeout => 12 | .advisory => 13 | .internal => 14
  | .headerOverflow => 15

/-- The bit of an uncorrectable error in its status, mask and severity registers. -/
def uncorrBit : UncorrErr → Nat
  | .dataLink => 4 | .poisoned => 12 | .flowControl => 13 | .completionTimeout => 14 | .completerAbort => 15 | .unexpectedCompletion => 16
  | .receiverOverflow => 17 | .malformed => 18 | .unsupported => 20 | .internal => 22

/-- Change the error registers. -/
def aerMod (f : Aer → Aer) (s : State) : State := { s with pci := { s.pci with aer := f s.pci.aer } }

/-- A correctable error: its status, and a message unless it is masked or not enabled. -/
def aerCorr (e : CorrErr) (s : State) : State :=
  let a := s.pci.aer
  s |> aerMod (fun a => { a with corr := a.corr ||| 2 ^ corrBit e })
    |> when (!bitOf a.corrMask (corrBit e) && bitOf a.report 0) (upstream .pcieError [0])

/-- The header of the packet in error goes to the header log, if the log is free: its four doublewords are open values, since no row gives
them. A full log is a Header Log Overflow. -/
def headerLog (bit : Nat) (withHeader : Bool) (s : State) : State :=
  if s.pci.aer.first = none then
    let s := aerMod (fun a => { a with first := some bit }) s
    if withHeader then
      foldS (List.range 4) (fun i s =>
        let v := openValue s
        aerMod (fun a => { a with header := a.header.set i (v.1 % 4294967296) }) v.2) s
    else s
  else if withHeader then aerCorr .headerOverflow s
  else s

/-- An uncorrectable error (R443): its status and, unless masked, the header log and a message by its severity. An advisory one (R444) of
non-fatal severity is reported as a correctable error. An error of the endpoint's own logic is a lasting fault, source ENDPOINT as well. -/
def aerUncorr (e : UncorrErr) (advisory withHeader : Bool) (s : State) : State :=
  let a := s.pci.aer
  let bit := uncorrBit e
  let fatal := bitOf a.uncorrSev bit
  let open_ := !bitOf a.uncorrMask bit
  let s := s |> aerMod (fun a => { a with uncorr := a.uncorr ||| 2 ^ bit }) |> when open_ (headerLog bit withHeader)
    |> when (e == .internal) (faultNote 0 0x11 0 [])
  if advisory && !fatal then aerCorr .advisory s
  else
    let on := if e = .unsupported ∧ !fatal then bitOf a.report 1 && bitOf a.report 3 else if fatal then bitOf a.report 2 else bitOf a.report 1
    when (open_ && on) (upstream .pcieError [if fatal then 2 else 1]) s

/-- The endpoint completes a request as Unsupported Request (R448): advisory for a read, which its completion tells the host of. -/
def unsupported (write : Bool) (s : State) : State :=
  s |> when (!write) (emit .pcieStatus [0]) |> aerUncorr .unsupported (!write) true

/-! ### The registers -/

/-- The address of configuration offset 0 in the model's address space. -/
def cfgSpace : Nat := cfgBase + 0x1000

/-- A register of Advanced Error Reporting (configuration offset 0x100, R456), or the reporting enables of Device Control. -/
def aerRead (s : State) (a : Nat) : Nat :=
  let r := s.pci.aer
  if a = cfgSpace + 0x104 then r.uncorr
  else if a = cfgSpace + 0x108 then r.uncorrMask
  else if a = cfgSpace + 0x10C then r.uncorrSev
  else if a = cfgSpace + 0x110 then r.corr
  else if a = cfgSpace + 0x114 then r.corrMask
  else if a = cfgSpace + 0x118 then r.first.getD 0
  else if cfgSpace + 0x11C ≤ a ∧ a < cfgSpace + 0x12C ∧ a % 4 = 0 then r.header.getD ((a - (cfgSpace + 0x11C)) / 4) 0
  else if a = cfgSpace + 0x58 then r.report
  else 0

/-- A write of one: ones clear status bits, masks and severities hold the bits of errors that are reported. Clearing the bit of the first error
frees the header log. -/
def aerWrite (a v : Nat) (s : State) : State :=
  aerMod (fun r =>
    if a = cfgSpace + 0x104 then
      { r with uncorr := r.uncorr - (r.uncorr &&& v), first := match r.first with
        | some b => if bitOf v b then none else some b
        | none => none }
    else if a = cfgSpace + 0x108 then { r with uncorrMask := v &&& 0x57F010 }
    else if a = cfgSpace + 0x10C then { r with uncorrSev := v &&& 0x57F010 }
    else if a = cfgSpace + 0x110 then { r with corr := r.corr - (r.corr &&& v) }
    else if a = cfgSpace + 0x114 then { r with corrMask := v &&& 0xF1C1 }
    else if a = cfgSpace + 0x58 then { r with report := v % 16 }
    else r) s

end Sys2Proof.Machine
end

