-- ==== Sys2Proof/Machine/Keel.lean ====
section
/-!
DEFINITION. Machine/Keel.lean: requests on the keel and the final arbiter of each destination seat (R14, R15, R17, R24).
-/

namespace Sys2Proof.Machine

/-! ### Links (R17) -/

/-- The keel link between two seats is trained. -/
def keelUp (s : State) (x y : Nat) : Bool := bitOf (rd s (Reg.KEEL_LINK_STATUS_LINK_UP x)) y

/-- A link of the package is in detour. -/
def keelDetour (s : State) : Bool := (seatList s).any fun n => rd s (Reg.KEEL_LINK_STATUS_DETOUR n) != 0

/-- The seat through which traffic between two seats takes two hops: the lowest whose links to both work. -/
def detourSeat (s : State) (x y : Nat) : Option Nat := (seatList s).find? fun n => n != x && n != y && keelUp s n x && keelUp s n y

/-! ### Requests (R14) -/

/-- Class CTRL. -/
def keelCtrl : Nat := 0
/-- Class READ. -/
def keelRead : Nat := 1
/-- Class WRITE. -/
def keelWrite : Nat := 2
/-- Class BACK. -/
def keelBack : Nat := 3

/-- An arbiter before its first request. -/
def keelPortReset : KeelPort := ⟨[], [], [], false, 0, [], [], []⟩

/-- The arbiter of a destination seat. -/
def keelPort (s : State) (dest : Nat) : KeelPort := fgetD s.keel.ports dest keelPortReset

/-- Change the arbiter of a destination seat. -/
def keelMod (dest : Nat) (f : KeelPort → KeelPort) (s : State) : State :=
  { s with keel := { s.keel with ports := fset s.keel.ports dest (f (keelPort s dest)) } }

/-- The (origin seat, class) pair of a request, by number. -/
def keelPair (r : KeelReq) : Nat := 4 * r.origin + r.cls % 4

/-- Requests of a pair that wait. -/
def keelQueue (p : KeelPort) (k : Nat) : List KeelReq := fgetD p.waiting k []

/-- A request reaches the arbiter of its destination: a pair with nothing waiting takes its place at the end of the turns. -/
def keelArrive (dest : Nat) (r : KeelReq) (s : State) : State :=
  if s.hw.seats ≤ dest ∨ s.hw.seats ≤ r.origin then s
  else
    let k := keelPair r
    keelMod dest (fun p => { p with
      turns := if p.turns.contains k then p.turns else p.turns ++ [k]
      asked := if p.asked.contains k then p.asked else p.asked ++ [k]
      waiting := fset p.waiting k (keelQueue p k ++ [r]) }) s

/-- A unit of one seat sends a request to another, over their link or the detour of R17; within a seat nothing crosses the keel. The effect
of the request does not wait for it: keel time is not modelled (log entry 27). -/
def keelSend (origin dest cls bytes : Nat) (s : State) : State :=
  if origin = dest then s else keelArrive dest ⟨origin, cls, bytes, if keelUp s origin dest then none else detourSeat s origin dest⟩ s

/-! ### Deficit round robin (R15) -/

/-- Weight of a pair at a destination. -/
def keelWeight (s : State) (dest k : Nat) : Nat :=
  match k % 4 with
  | 0 => rd s (Reg.KEEL_WEIGHT_CTRL dest (k / 4))
  | 1 => rd s (Reg.KEEL_WEIGHT_READ dest (k / 4))
  | 2 => rd s (Reg.KEEL_WEIGHT_WRITE dest (k / 4))
  | _ => rd s (Reg.KEEL_WEIGHT_BACK dest (k / 4))

/-- The request at the head of a pair is delivered. A pair left with none leaves the turns with its deficit, and has not had requests waiting
throughout; a pair of weight 0 goes behind the others. -/
def keelDeliver (k : Nat) (r : KeelReq) (zero : Bool) (d : Nat) (p : KeelPort) : KeelPort :=
  let rest := (keelQueue p k).drop 1
  let p := { p with served := fset p.served k (fgetD p.served k 0 + r.bytes) }
  if rest = [] then
    { p with
      turns := p.turns.erase k, waiting := fdel p.waiting k, deficit := fdel p.deficit k, granted := false
      throughout := p.throughout.filter (· != k) }
  else
    { p with
      turns := if zero then p.turns.erase k ++ [k] else p.turns
      waiting := fset p.waiting k rest, deficit := if zero then p.deficit else fset p.deficit k (d - r.bytes), granted := !zero && p.granted }

/-- One action of an arbiter with `b` bytes of bandwidth left: it delivers a request, or passes the turn on. None where it has nothing to do
or the next request needs more bandwidth. A pair of weight 0 is served only while no other pair waits. -/
def keelAct (w : Nat → Nat) (b : Nat) (p : KeelPort) : Option (Nat × KeelPort) :=
  match p.turns.find? fun k => w k != 0 with
  | some k =>
    let head := p.turns.head? == some k
    let d := fgetD p.deficit k 0 + (if p.granted && head then 0 else 512 * w k)
    let p := { p with turns := k :: p.turns.erase k, granted := true, deficit := fset p.deficit k d }
    (match keelQueue p k with
      | [] => none
      | r :: _ =>
        if d < r.bytes then some (b, { p with turns := p.turns.erase k ++ [k], granted := false })
        else if r.bytes ≤ b then some (b - r.bytes, keelDeliver k r false d p)
        else some (0, { p with credit := b }))
  | none =>
    match p.turns with
    | [] => none
    | k :: _ => (match keelQueue p k with
      | [] => none
      | r :: _ => if r.bytes ≤ b then some (b - r.bytes, keelDeliver k r true 0 p) else some (0, { p with credit := b }))

/-- Act until nothing is left to do or the bandwidth of the stroke is used. -/
def keelRun (w : Nat → Nat) : Nat → Nat → KeelPort → KeelPort
  | 0, _, p => p
  | fuel + 1, b, p =>
    match keelAct w b p with
    | none => p
    | some (0, q) => q
    | some (b, q) => keelRun w fuel b q

/-- Bytes that wait at an arbiter. -/
def keelBytes (p : KeelPort) : Nat := (p.waiting.map fun x => (x.2.map (·.bytes)).sum).sum

/-- A destination delivers for one stroke: 256 GB/s, which is 2,560 bytes a tick (*Variant resources*). -/
def keelServe (dest : Nat) (s : State) : State :=
  let p := keelPort s dest
  if p.turns = [] then s
  else
    let n := (p.waiting.map fun x => x.2.length).sum
    keelMod dest (fun p =>
      keelRun (keelWeight s dest) (n + 32 * (1 + keelBytes p / 512 + n)) (p.credit + 2560 * rd s Reg.STK_PERIOD_TICKS) { p with credit := 0 }) s

/-- The keel over one stroke: what units outside the model have sent arrives, and every destination delivers. -/
def keelEdge (l : List (Nat × KeelReq)) (s : State) : State :=
  s |> foldS l (fun x s => keelArrive x.1 x.2 s) |> foldS (seatList s) keelServe

end Sys2Proof.Machine
end

