-- ==== Sys2Proof/Machine/MbxOps.lean ====
section
/-!
DEFINITION. Machine/MbxOps.lean: what every mailbox command shares: the slots, the status codes, completing a command (R408 to R419),
and the order in which commands start.
-/

namespace Sys2Proof.Machine

/-! ### Opcodes (R420) and status codes (R419) -/

namespace Opc

/-- Opcode 0x0101. -/
def sysInfo : Nat := 0x0101
/-- Opcode 0x0102. -/
def sysEasyAll : Nat := 0x0102
/-- Opcode 0x0103. -/
def sysStage : Nat := 0x0103
/-- Opcode 0x0104. -/
def sysRowAll : Nat := 0x0104
/-- Opcode 0x0105. -/
def sysEasyAbort : Nat := 0x0105
/-- Opcode 0x0106. -/
def sysEasyList : Nat := 0x0106
/-- Opcode 0x0107. -/
def sysParamGet : Nat := 0x0107
/-- Opcode 0x0108. -/
def sysParamSet : Nat := 0x0108
/-- Opcode 0x0109. -/
def sysParamDescribe : Nat := 0x0109
/-- Opcode 0x010A. -/
def sysHoldupDeclare : Nat := 0x010A
/-- Opcode 0x010B. -/
def sysServiceEnter : Nat := 0x010B
/-- Opcode 0x010C. -/
def sysServiceExit : Nat := 0x010C
/-- Opcode 0x010D. -/
def sysCoxDrill : Nat := 0x010D
/-- Opcode 0x010E. -/
def sysRecoverScan : Nat := 0x010E
/-- Opcode 0x010F. -/
def sysRecoverUseGen : Nat := 0x010F
/-- Opcode 0x0110. -/
def sysMapBudget : Nat := 0x0110
/-- Opcode 0x0201. -/
def nsCreate : Nat := 0x0201
/-- Opcode 0x0202. -/
def nsDelete : Nat := 0x0202
/-- Opcode 0x0203. -/
def nsSecureDiscard : Nat := 0x0203
/-- Opcode 0x0204. -/
def nsInfo : Nat := 0x0204
/-- Opcode 0x0210. -/
def subsysCreate : Nat := 0x0210
/-- Opcode 0x0211. -/
def subsysHostsSet : Nat := 0x0211
/-- Opcode 0x0212. -/
def anaGroupCreate : Nat := 0x0212
/-- Opcode 0x0220. -/
def mrRegister : Nat := 0x0220
/-- Opcode 0x0221. -/
def mrInvalidate : Nat := 0x0221
/-- Opcode 0x0301. -/
def tenantCreate : Nat := 0x0301
/-- Opcode 0x0302. -/
def tenantDelete : Nat := 0x0302
/-- Opcode 0x0303. -/
def tenantAddrSet : Nat := 0x0303
/-- Opcode 0x0304. -/
def tenantSecureDiscard : Nat := 0x0304
/-- Opcode 0x0310. -/
def dictLoad : Nat := 0x0310
/-- Opcode 0x0311. -/
def dictRetire : Nat := 0x0311
/-- Opcode 0x0312. -/
def dictSample : Nat := 0x0312
/-- Opcode 0x0320. -/
def rateSetpointSet : Nat := 0x0320
/-- Opcode 0x0321. -/
def rateOpenSet : Nat := 0x0321
/-- Opcode 0x0322. -/
def rateLoopsStage : Nat := 0x0322
/-- Opcode 0x0323. -/
def rateTableGet : Nat := 0x0323
/-- Opcode 0x0401. -/
def groupCreate : Nat := 0x0401
/-- Opcode 0x0402. -/
def groupDelete : Nat := 0x0402
/-- Opcode 0x0403. -/
def groupSpareSet : Nat := 0x0403
/-- Opcode 0x0404. -/
def groupShareFail : Nat := 0x0404
/-- Opcode 0x0405. -/
def groupRebuildTarget : Nat := 0x0405
/-- Opcode 0x0406. -/
def groupReshape : Nat := 0x0406
/-- Opcode 0x0501. -/
def bladeInfo : Nat := 0x0501
/-- Opcode 0x0502. -/
def bladeAttest : Nat := 0x0502
/-- Opcode 0x0601. -/
def pairStatusGet : Nat := 0x0601
/-- Opcode 0x0602. -/
def pairFailbackHold : Nat := 0x0602
/-- Opcode 0x0603. -/
def pairHandover : Nat := 0x0603
/-- Opcode 0x0604. -/
def pairGoSolo : Nat := 0x0604
/-- Opcode 0x0605. -/
def pairWindowsSet : Nat := 0x0605
/-- Opcode 0x0606. -/
def pairLaneSet : Nat := 0x0606
/-- Opcode 0x0701. -/
def snapCreate : Nat := 0x0701
/-- Opcode 0x0702. -/
def snapDelete : Nat := 0x0702
/-- Opcode 0x0703. -/
def snapList : Nat := 0x0703
/-- Opcode 0x0704. -/
def snapClone : Nat := 0x0704
/-- Opcode 0x0705. -/
def snapInfo : Nat := 0x0705
/-- Opcode 0x0706. -/
def snapSpace : Nat := 0x0706
/-- Opcode 0x0710. -/
def cgCreate : Nat := 0x0710
/-- Opcode 0x0711. -/
def cgMemberSet : Nat := 0x0711
/-- Opcode 0x0712. -/
def cgDelete : Nat := 0x0712
/-- Opcode 0x0720. -/
def replLinkCreate : Nat := 0x0720
/-- Opcode 0x0721. -/
def replEpochNow : Nat := 0x0721
/-- Opcode 0x0722. -/
def replPause : Nat := 0x0722
/-- Opcode 0x0723. -/
def replStatusGet : Nat := 0x0723
/-- Opcode 0x0724. -/
def replPromote : Nat := 0x0724
/-- Opcode 0x0725. -/
def replLinkDelete : Nat := 0x0725
/-- Opcode 0x0801. -/
def keyOwnerEnrol : Nat := 0x0801
/-- Opcode 0x0802. -/
def keyDomainCreate : Nat := 0x0802
/-- Opcode 0x0803. -/
def keyDomainErase : Nat := 0x0803
/-- Opcode 0x0804. -/
def keyRoll : Nat := 0x0804
/-- Opcode 0x0805. -/
def keyRekeySweep : Nat := 0x0805
/-- Opcode 0x0806. -/
def keyStatusGet : Nat := 0x0806
/-- Opcode 0x0807. -/
def keySvnCommit : Nat := 0x0807
/-- Opcode 0x0808. -/
def keyFkShare : Nat := 0x0808
/-- Opcode 0x0809. -/
def keyPartnerEnrol : Nat := 0x0809
/-- Opcode 0x080A. -/
def keyBladeRootEnrol : Nat := 0x080A
/-- Opcode 0x0901. -/
def logCopy : Nat := 0x0901
/-- Opcode 0x0902. -/
def faultGet : Nat := 0x0902
/-- Opcode 0x0903. -/
def pfrArm : Nat := 0x0903
/-- Opcode 0x0A01. -/
def updStatusGet : Nat := 0x0A01
/-- Opcode 0x0A02. -/
def updActivate : Nat := 0x0A02
/-- Opcode 0x0A03. -/
def updCancel : Nat := 0x0A03
/-- Opcode 0x0A04. -/
def updDiscard : Nat := 0x0A04
/-- Opcode 0x0A05. -/
def updExport : Nat := 0x0A05
/-- Opcode 0x0A06. -/
def updBitmapGet : Nat := 0x0A06
/-- Opcode 0x0A07. -/
def updVerify : Nat := 0x0A07
/-- Opcode 0x0B01. -/
def pwrTimersSet : Nat := 0x0B01
/-- Opcode 0x0B02. -/
def pwrStateGet : Nat := 0x0B02

end Opc

/-- Every opcode of the catalogue and of the tables it joins (R420). -/
def catalogue : List Nat := [0x0101, 0x0102, 0x0103, 0x0104, 0x0105, 0x0106, 0x0107, 0x0108, 0x0109, 0x010A, 0x010B, 0x010C, 0x010D, 0x010E, 0x010F, 0x0110, 0x0201, 0x0202, 0x0203, 0x0204, 0x0210, 0x0211, 0x0212, 0x0220, 0x0221, 0x0301, 0x0302, 0x0303, 0x0304, 0x0310, 0x0311, 0x0312, 0x0320, 0x0321, 0x0322, 0x0323, 0x0401, 0x0402, 0x0403, 0x0404, 0x0405, 0x0406, 0x0501, 0x0502, 0x0601, 0x0602, 0x0603, 0x0604, 0x0605, 0x0606, 0x0701, 0x0702, 0x0703, 0x0704, 0x0705, 0x0706, 0x0710, 0x0711, 0x0712, 0x0720, 0x0721, 0x0722, 0x0723, 0x0724, 0x0725, 0x0801, 0x0802, 0x0803, 0x0804, 0x0805, 0x0806, 0x0807, 0x0808, 0x0809, 0x080A, 0x0901, 0x0902, 0x0903, 0x0A01, 0x0A02, 0x0A03, 0x0A04, 0x0A05, 0x0A06, 0x0A07, 0x0B01, 0x0B02]

/-- The statuses of *Mailbox status codes*. -/
inductive Sts where
  | ok | invalidOpcode | invalidParam | busy | wrongState | notOwner | noResource | mediaLost | readOnly | authFail | keyLimit
  | keyGenExhausted | peerUnreachable | incompatible | hostMemory | timeout | aborted
  deriving DecidableEq, Repr

/-- The code of a status. -/
def stsCode : Sts → Nat
  | .ok => 0x0000 | .invalidOpcode => 0x0101 | .invalidParam => 0x0102 | .busy => 0x0201 | .wrongState => 0x0202
  | .notOwner => 0x0203 | .noResource => 0x0301 | .mediaLost => 0x0401 | .readOnly => 0x0402 | .authFail => 0x0501
  | .keyLimit => 0x0502 | .keyGenExhausted => 0x0503 | .peerUnreachable => 0x0601 | .incompatible => 0x0602
  | .hostMemory => 0x0701 | .timeout => 0x0702 | .aborted => 0x0703

/-! ### Slots -/

/-- A request of zeros. -/
def noReq : MbxReq := ⟨0, false, 0, 0, 0, 0, 0, 0, none⟩

/-- A FREE slot, its device-owned bytes zero. -/
def freeSlot : MbxSlot := ⟨.free, noReq, 0, 0, 0, 0, 0, false, 0, 0, 0, false, false, false⟩

/-- A slot as it stands. -/
def slotAt (s : State) (n : Nat) : MbxSlot := fgetD s.mbx.slots n freeSlot

/-- Set a slot. -/
def setSlot (n : Nat) (m : MbxSlot) (s : State) : State := { s with mbx := { s.mbx with slots := fset s.mbx.slots n m } }

/-- Set bit `i` of a field. -/
def wrBit (f : Fld) (i : Nat) (b : Bool) (s : State) : State :=
  let v := rd s f
  if bitOf v i = b then s else wr f (if b then v + 2 ^ i else v - 2 ^ i) s

/-- The bit of a slot in MBX_BUSY. -/
def mbxBusy (n : Nat) (b : Bool) (s : State) : State :=
  if n < 32 then wrBit Reg.MBX_BUSY_LO_SLOTS n b s else wrBit Reg.MBX_BUSY_HI_SLOTS (n - 32) b s

/-- The bit of a slot in MBX_DONE. -/
def mbxDone (n : Nat) (b : Bool) (s : State) : State :=
  if n < 32 then wrBit Reg.MBX_DONE_LO_SLOTS n b s else wrBit Reg.MBX_DONE_HI_SLOTS (n - 32) b s

/-- The lane a slot belongs to (R411). -/
def laneOf (s : State) (n : Nat) : Nat :=
  rd s ((match n % 8 with
    | 0 => Reg.MBX_LANE_MAP_LANE0 | 1 => Reg.MBX_LANE_MAP_LANE1 | 2 => Reg.MBX_LANE_MAP_LANE2 | 3 => Reg.MBX_LANE_MAP_LANE3
    | 4 => Reg.MBX_LANE_MAP_LANE4 | 5 => Reg.MBX_LANE_MAP_LANE5 | 6 => Reg.MBX_LANE_MAP_LANE6 | _ => Reg.MBX_LANE_MAP_LANE7) (n / 8))

/-- Log a mailbox record (R417): slot, opcode, TAG, status. -/
def logCommand (n : Nat) (m : MbxSlot) (status : Nat) (s : State) : State :=
  logE 0 4 0 false [n, 0, m.req.opcode, m.req.tag, status] s

/-- A command completes (R413): RESULT, STATUS, RTAG, RESULT_LEN, DETAIL, DONE_STROKE, STATE, MBX_DONE, and the message of its
vector unless NO_IRQ is set. A command that outlived a reset of the control face is logged instead, and its slot is FREE (R417). -/
def mbxComplete (n : Nat) (st : Sts) (detail : Nat) (words : List Nat) (s : State) : State :=
  let m := slotAt s n
  let s := s |> mbxBusy n false |> bump Reg.MBX_CMDS
    |> when (st == .timeout) (bump Reg.MBX_TIMEOUTS_COUNT)
    |> when (st == .aborted) (bump Reg.MBX_ABORTS_COUNT)
    |> when (st == .hostMemory) (bump Reg.MBX_HOST_MEM_COUNT)
  if m.orphan then
    s |> logCommand n m (stsCode st) |> setSlot n freeSlot
  else
    s |> when (words != []) (emit .mbxResult (n :: words))
      |> setSlot n { m with st := .done, status := stsCode st, rtag := m.req.tag, resultLen := 4 * words.length, detail := detail,
                            doneStroke := s.stk.ext, committed := false }
      |> mbxDone n true
      |> when (!m.req.noIrq) (sendMsix m.req.vector)

/-- The command of a slot is RUNNING, with this opcode, and has not yet made its change. -/
def cmdRuns (s : State) (n opc : Nat) : Bool :=
  let m := slotAt s n
  m.st == .running && m.req.opcode == opc && !m.committed && !m.cut

/-- Reads of host memory that a slot's command still waits for (R416, R445). -/
def readsOut (s : State) (n : Nat) : Bool := s.pci.tags.any fun e => e.2.slot == n && !e.2.abandoned && !e.2.reserved

/-- A command of the catalogue takes effect: `body` answers its status, its detail, its result words and the state after it. -/
def mbxRun (n opc : Nat) (body : State → Sts × Nat × List Nat × State) (s : State) : State :=
  if cmdRuns s n opc then
    let r := body s
    mbxComplete n r.1 r.2.1 r.2.2.1 r.2.2.2
  else s

/-- The same for a command that stays RUNNING after its change until an event completes it (`none`), or completes at once. -/
def mbxBegin (n opc : Nat) (body : State → Option (Sts × Nat × List Nat) × State) (s : State) : State :=
  if cmdRuns s n opc then
    match body s with
    | (some r, s) => mbxComplete n r.1 r.2.1 r.2.2 s
    | (none, s) => setSlot n { slotAt s n with committed := true } s
  else s

/-- A refusal: status and detail, no result, no effect. -/
def refuse (st : Sts) (detail : Nat) (s : State) : Sts × Nat × List Nat × State := (st, detail, [], s)

/-- Success with results. -/
def okWith (words : List Nat) (s : State) : Sts × Nat × List Nat × State := (.ok, 0, words, s)

/-- The command moves data to host memory: only with Bus Master Enable set (R416). -/
def needsHost (body : State → Sts × Nat × List Nat × State) (s : State) : Sts × Nat × List Nat × State :=
  if s.pci.bme then body s else refuse .hostMemory 0 s

/-- Bulk results in the host's buffer, the one write with Relaxed Ordering set (R416, R441). -/
def toHost (n : Nat) (words : List Nat) (s : State) : State := upstream (.hostWrite true) (n :: words) s

/-- Service mode: STARTUP, RECOVERY or TEST (R422). -/
def serviceMode (s : State) : Nat := rd s Reg.MBX_STATUS_SERVICE

/-- Commands whose input comes from host memory (R416): dictionaries and staged loop tables. -/
def readsHost (opc : Nat) : Bool := opc == Opc.dictLoad || opc == Opc.rateLoopsStage

/-- Issue the reads of a command's input, 4,096 bytes each (R435), on the lowest free tags. -/
def issueReads (n count : Nat) (s : State) : State :=
  foldS (List.range count) (fun _ s =>
    match (List.range 512).find? (fun t => !fhas s.pci.tags t) with
    | some t => { s with pci := { s.pci with tags := fset s.pci.tags t ⟨n, false, false⟩ } }
      |> bump Reg.PCI_OUTSTANDING_COUNT |> upstream .hostRead [t, n]
    | none => s) s

/-- The slots that a predicate picks, by slot number. -/
def slotsWhere (s : State) (p : MbxSlot → Bool) : List Nat := (s.mbx.slots.filter fun e => p e.2).map Prod.fst

end Sys2Proof.Machine
end

