-- ==== Sys2Proof/Machine/PowerOps.lean ====
section
/-!
DEFINITION. Machine/PowerOps.lean: waking a power unit, and the pin of a SPRINT tenant (R485 to R487).
-/

namespace Sys2Proof.Machine

/-- A unit wakes (R485, R486): its source is recorded, and the access that woke it stalled for so many cycles. -/
def unitWake (seat unit source cycles : Nat) (s : State) : State :=
  if unitState s seat unit = 0 then s
  else s |> wr (Reg.PWR_UNIT_STATE_STATE seat unit) 0 |> wr (Reg.PWR_UNIT_STATE_WAKE_SRC seat unit) source
    |> bump (Reg.PWR_UNIT_WAKES_COUNT seat unit) |> bumpN (Reg.PWR_UNIT_STALL_COUNT seat unit) cycles

/-- Wake source PIN (*Wake sources*, R486). -/
def wakePin : Nat := 0x33

/-- Wake source HAULOUT. -/
def wakeHaulout : Nat := 0x34

/-- Any seat of the package is pinned. -/
def anyPinned (s : State) : Bool := (seatList s).any (seatPinned s)

/-- The DRM, MAP and PAR units, which a pin of any seat keeps out of EASY (R487). -/
def sharedUnits : List Nat := [12, 8, 7]

/-- A pin that has begun wakes every unit of its seat, and the DRM, MAP and PAR units that are in EASY on the others (R487). -/
def pinsWake (s : State) : State :=
  if anyPinned s then
    foldS (seatList s) (fun n s =>
      if seatPinned s n then foldS (List.range unitCount) (fun u s => unitWake n u wakePin 0 s) s
      else foldS sharedUnits (fun u s => when (unitState s n u == 2) (unitWake n u wakePin 0) s) s) s
  else s

/-! ### Sub-ports (R61, R64) -/

/-- Sub-ports of a seat in its breakout mode (*Breakout modes*). -/
def subPorts (s : State) (seat : Nat) : Nat := match rd s (Reg.FE_PORT_CFG_BREAKOUT seat) with | 0 => 1 | 1 => 2 | 2 => 4 | _ => 0

/-- Every sub-port of a seat's breakout mode has link and FEC alignment, and no other (R61; log entry 98). -/
def linksUp (seat : Nat) (s : State) : State :=
  s |> wr (Reg.FE_PORT_STATUS_LINK_UP seat) (2 ^ subPorts s seat - 1) |> wr (Reg.FE_PORT_STATUS_FEC_LOCK seat) (2 ^ subPorts s seat - 1)

/-- Every front-end transmitter is quiet, and the initiators see the links as down (R64, R490). -/
def linksQuiet (s : State) : State :=
  foldS (seatList s) (fun n s => s |> wr (Reg.FE_PORT_STATUS_LINK_UP n) 0 |> wr (Reg.FE_PORT_STATUS_FEC_LOCK n) 0) s

end Sys2Proof.Machine
end

