-- ==== Sys2Proof/Machine/NvmeOps.lean ====
section
/-!
DEFINITION. Machine/NvmeOps.lean: queue pairs, controllers, steering versions and the completion of a command: what the front end's
commands share (R66 to R94, R103, R309, R310).
-/

namespace Sys2Proof.Machine

/-! ### Statuses (R94) -/

/-- The NVMe statuses that the spec names. -/
inductive NvSts where
  | ok | invalidOpcode | invalidField | cidConflict | internal | aborted | invalidNs | sglLength | sglType | writeProtected
  | lbaRange | nsNotReady | writeFault | unrecoveredRead | guardCheck | appCheck | refCheck | connectBusy | connectParam | connectHost
  | anaInaccessible | anaTransition | zonesActive | zoneFull | zoneInvalid | zoneWrite | zoneBoundary
  /-- Any other status of the NVMe specification, by its code (R97). -/
  | other (code : Nat)
  deriving DecidableEq, Repr

/-- Status code type and status code (log entry 20). -/
def nvCode : NvSts → Nat
  | .ok => 0x000 | .invalidOpcode => 0x001 | .invalidField => 0x002 | .cidConflict => 0x003 | .internal => 0x006 | .aborted => 0x007
  | .invalidNs => 0x00B | .sglLength => 0x00F | .sglType => 0x011 | .writeProtected => 0x020 | .lbaRange => 0x080
  | .nsNotReady => 0x082 | .writeFault => 0x280 | .unrecoveredRead => 0x281 | .guardCheck => 0x282 | .appCheck => 0x283
  | .refCheck => 0x284 | .connectBusy => 0x181 | .connectParam => 0x182 | .connectHost => 0x184 | .anaInaccessible => 0x302 | .anaTransition => 0x303
  | .zonesActive => 0x1BD | .zoneFull => 0x1B9 | .zoneInvalid => 0x1BF | .zoneWrite => 0x1BC | .zoneBoundary => 0x1B8
  | .other code => code

/-! ### Queue pairs -/

/-- A queue pair that is in use. -/
def qpOf (s : State) (seat q : Nat) : Option Qp := fget s.fe.qps (pairKey seat q)

/-- Set a queue pair. -/
def setQp (seat q : Nat) (x : Qp) (s : State) : State := { s with fe := { s.fe with qps := fset s.fe.qps (pairKey seat q) x } }

/-- Free a queue pair. -/
def freeQp (seat q : Nat) (s : State) : State := { s with fe := { s.fe with qps := fdel s.fe.qps (pairKey seat q) } }

/-- Smallest window in bytes at the start of a connection (FE_CC_WINIT; values below 4 act as 4). -/
def winInit (s : State) (seat : Nat) : Nat := 1024 * max 4 (rd s (Reg.FE_CC_WINIT_KIB seat))

/-- Largest window in bytes (FE_CC_WMAX; values below FE_CC_WINIT act as FE_CC_WINIT). -/
def winMax (s : State) (seat : Nat) : Nat := max (winInit s seat) (1024 * rd s (Reg.FE_CC_WMAX_KIB seat))

/-- Whether a source is blocked on a seat (R96). -/
def isBlocked (s : State) (seat src : Nat) : Bool := fhas s.fe.blocked (pairKey seat src)

/-! ### Sending (R63, R66, R77, R98) -/

/-- A sub-port's lanes have link. -/
def portUp (s : State) (seat sub : Nat) : Bool := bitOf (rd s (Reg.FE_PORT_STATUS_LINK_UP seat)) sub

/-- So many bytes of a message leave on a sub-port: counted with their packets' headers (R98). -/
def txCount (seat sub bytes mtu : Nat) (s : State) : State := bumpN (Reg.FE_TX_BYTES seat sub) (Config.frameBytes bytes mtu) s

/-- A connection-management datagram of 256 bytes leaves (R68). -/
def cmSend (seat sub : Nat) (args : List Nat) (s : State) : State :=
  if portUp s seat sub then s |> emit .cm args |> txCount seat sub 256 4096 else s

/-- The priority of a queue pair's packets is paused (R63). -/
def txPaused (s : State) (seat q : Nat) (x : Qp) : Bool :=
  let m := fgetD s.fe.paused (pairKey seat x.subport) 0
  m != 0 && bitOf m (Config.txPriority seat q)

/-- What goes out now of the messages that wait, and what goes on waiting: whole messages while they fit, then the whole packets that fit of
the first that does not (R77); a message of no bytes is not held back by the window. -/
def outSplit (mtu : Nat) : Nat → List (Nat × Out) → List (Nat × Option Out) × List (Nat × Out)
  | _, [] => ([], [])
  | room, (n, o) :: t =>
    if n ≤ room then let r := outSplit mtu (room - n) t; ((n, some o) :: r.1, r.2)
    else let r := outSplit mtu 0 t; ((room / mtu * mtu, none) :: r.1, (n - room / mtu * mtu, o) :: r.2)

/-- Packets of one message leave: the message is shown with its last byte; on a sub-port without link they are lost (R65). -/
def outSend (seat : Nat) (x : Qp) (e : Nat × Option Out) (s : State) : State :=
  if !portUp s seat x.subport then s
  else match e.2 with
    | some o => s |> emit o.kind o.args |> txCount seat x.subport e.1 x.mtu
    | none => s |> when (e.1 != 0) (txCount seat x.subport e.1 x.mtu)

/-- Send what the window and PFC allow (R63, R77). -/
def qpDrain (seat q : Nat) (s : State) : State :=
  match qpOf s seat q with
  | none => s
  | some x =>
    if x.outq = [] ∨ txPaused s seat q x = true then s
    else
      let r := outSplit x.mtu (x.window - (x.unacked + x.requested)) x.outq
      s |> setQp seat q { x with unacked := x.unacked + (r.1.map Prod.fst).sum, outq := r.2 } |> foldS r.1 (outSend seat x)

/-- Send a message of so many bytes on a queue pair: behind those that wait (R77). -/
def qpSend (seat q bytes : Nat) (k : OutKind) (args : List Nat) (s : State) : State :=
  match qpOf s seat q with
  | some x => s |> setQp seat q { x with outq := x.outq ++ [(bytes, ⟨k, args⟩)] } |> qpDrain seat q
  | none => s

/-! ### Memory regions (R74, R76) -/

/-- Set a region. -/
def setMr (i : Nat) (m : Mr) (s : State) : State := { s with fe := { s.fe with mrs := fset s.fe.mrs i m } }

/-- Work ends under the version of a region with this epoch (R74, R76): a previous version whose count reaches zero retires, and an
MR_INVALIDATE that waits for it completes. -/
def mrEnd (i epoch : Nat) (s : State) : State :=
  match fget s.fe.mrs i with
  | none => s
  | some m =>
    if m.cur.epoch = epoch then setMr i { m with cur := { m.cur with inflight := m.cur.inflight - 1 } } s
    else match m.prev with
      | none => s
      | some v =>
        if v.epoch ≠ epoch then s
        else if 1 < v.inflight then setMr i { m with prev := some { v with inflight := v.inflight - 1 } } s
        else
          let s := setMr i { m with prev := none, slot := none } s
          match m.slot with
          | some n => mbxComplete n .ok 0 [] s
          | none => s

/-- Responses to RDMA READs that have not wholly left. -/
def responsesLeft (x : Qp) : Nat := x.outq.countP fun e => e.2.kind == .rdma && e.2.args.getD 2 0 == 8

/-- RDMA READs whose last response has left end (R76). -/
def readsEnd (seat q : Nat) (s : State) : State :=
  match qpOf s seat q with
  | none => s
  | some x =>
    let n := x.reading.length - responsesLeft x
    s |> setQp seat q { x with reading := x.reading.drop n } |> foldS (x.reading.take n) (fun e s => mrEnd e.1 e.2 s)

/-- The region work of a queue pair ends with its service (R74, R76), and of its messages only acknowledgements still leave. -/
def qpWorkEnds (seat q : Nat) (s : State) : State :=
  match qpOf s seat q with
  | none => s
  | some x => s |> setQp seat q { x with reading := [], writing := none, outq := x.outq.filter fun e => e.1 == 0 }
      |> foldS (x.reading ++ x.writing.toList) (fun e s => mrEnd e.1 e.2 s)

/-! ### Blocked sources (R96) -/

/-- The blocked address of a seat whose block ends soonest. -/
def soonestBlock (s : State) (seat : Nat) : Option Nat :=
  ((fkeep s.fe.blocked fun k _ => keyHi k == seat).foldl (fun best e => match best with
    | none => some e
    | some b => if e.2 < b.2 then some e else best) none).map Prod.fst

/-- A source has driven one more queue pair into error: when that makes FE_BLOCK_THRESH within 10,000 strokes, it is blocked,
the event is raised to the cox and the address logged (R96). Its count of errors then starts afresh (log entry 101). -/
def sourceError (seat src : Nat) (s : State) : State :=
  let k := pairKey seat src
  let recent := (s.stk.ext :: fgetD s.fe.errs k []).filter fun t => s.stk.ext < t + 10000
  let th := rd s (Reg.FE_BLOCK_THRESH_COUNT seat)
  let s := { s with fe := { s.fe with errs := fset s.fe.errs k recent } }
  if th = 0 ∨ recent.length < th ∨ isBlocked s seat src = true then s
  else
    let full := decide (256 ≤ (fkeep s.fe.blocked fun k _ => keyHi k == seat).length)
    let bl := match full, soonestBlock s seat with
      | true, some k => fdel s.fe.blocked k
      | _, _ => s.fe.blocked
    { s with fe := { s.fe with
        blocked := fset bl k (s.stk.ext + rd s (Reg.FE_BLOCK_STROKES_STROKES seat))
        errs := fdel s.fe.errs k } }
      |> coxRaise |> logFw seat 96 [src]

/-- A queue pair enters the error state (R67, R69, R72): counted, and charged to its source (R96). The commands of the queue are
the caller's. -/
def qpToError (seat q : Nat) (s : State) : State :=
  match qpOf s seat q with
  | some x =>
    if x.st = .error then s
    else s |> setQp seat q { x with st := .error } |> bump (Reg.FE_QP_ERROR_COUNT seat) |> sourceError seat x.src
  | none => s

/-! ### Controllers -/

/-- A controller of a seat. -/
def ctrlOf (s : State) (seat c : Nat) : Option Ctrl := fget s.nv.ctrls (pairKey seat c)

/-- Set a controller. -/
def setCtrl (seat c : Nat) (x : Ctrl) (s : State) : State := { s with nv := { s.nv with ctrls := fset s.nv.ctrls (pairKey seat c) x } }

/-- The controller that a queue pair belongs to, with its number. -/
def ctrlOfQp (s : State) (seat q : Nat) : Option (Nat × Ctrl) :=
  match qpOf s seat q with
  | some x => (match x.ctrl with
    | some c => (ctrlOf s seat c).map fun y => (c, y)
    | none => none)
  | none => none

/-- Post a completion on a queue, a SEND of 16 bytes: it posts only on a queue that is ready (R93). -/
def nvSend (seat q cid : Nat) (st : NvSts) (dw0 : Nat) (s : State) : State :=
  match qpOf s seat q with
  | some x => if x.st = .ready then qpSend seat q 16 .nvme [seat, q, cid, nvCode st, dw0] s else s
  | none => s

/-- Answer a command with data, so many bytes by RDMA WRITE, and its completion. -/
def nvData (seat q cid bytes : Nat) (words : List Nat) (s : State) : State :=
  match qpOf s seat q with
  | some x => if x.st = .ready then s |> qpSend seat q bytes .nvmeData (seat :: q :: cid :: words) |> nvSend seat q cid .ok 0 else s
  | none => s

/-- An asynchronous event for a controller: it completes the oldest request, or waits for one. -/
def asyncEvent (seat c ev : Nat) (s : State) : State :=
  match ctrlOf s seat c with
  | none => s
  | some x => (match x.aers with
    | cid :: rest => s |> setCtrl seat c { x with aers := rest } |> nvSend seat x.adminQp cid .ok ev
    | [] => if x.events.contains ev then s else setCtrl seat c { x with events := x.events ++ [ev] } s)

/-- Feature identifier of the asynchronous event configuration, its ANA change bit and the notice (log entry 20). -/
def aenFeature : Nat := 0x0B
/-- ANA Change Notices enabled, bit 11. -/
def aenAna (c : Ctrl) : Bool := bitOf (fgetD c.features aenFeature 0) 11
/-- DW0 of an ANA Change Notice. -/
def anaNotice : Nat := 0x0C0302

/-- Post an ANA Change Notice to every controller that has enabled it (R310). -/
def anaChanged (s : State) : State :=
  foldS s.nv.ctrls (fun e s => if aenAna e.2 && e.2.subsys.isSome then asyncEvent (keyHi e.1) (keyLo e.1) anaNotice s else s) s

/-! ### Ownership as commands see it (R309, R310) -/

/-- Ownership of a side is on the move to or from this head: a takeover until its end, a failback from F. -/
def sideMoving (s : State) (side : Nat) : Bool :=
  (match s.pair.take with | some t => t.sides.contains side | none => false) ||
  (match s.pair.failback with | some f => f.sides.contains side && decide (1 ≤ f.step) | none => false)

/-- *ANA states* (R310) of an ANA group entry at this head: 1 Optimized, 3 Inaccessible, 15 Change. -/
def anaState (s : State) (g : Nat) : Nat :=
  if rd s Reg.MBX_STATUS_SERVICE = 3 then 3
  else match fget s.pair.own (ownKey false g) with
  | none => 3
  | some o =>
    if o.prev.isSome || sideMoving s o.home then 15
    else if o.owner != mySide s then 3
    else if s.pair.st = .armed ∨ s.pair.st = .fenced ∨ (s.pair.st = .returning ∧ s.pair.returningTo.contains o.home = true) then 3
    else 1

/-- Work starts under the current version of an ownership entry (R309, R74); the epoch it carries. -/
def ownStart (k : Nat) (s : State) : Nat × State :=
  match fget s.pair.own k with
  | some o => (o.epoch, { s with pair := { s.pair with own := fset s.pair.own k { o with inflight := o.inflight + 1 } } })
  | none => (0, s)

/-- Work ends under the version with this epoch; a previous version retires in the tick its count reaches zero (R74). -/
def ownEnd (k epoch : Nat) (s : State) : State :=
  match fget s.pair.own k with
  | none => s
  | some o =>
    if o.epoch = epoch then { s with pair := { s.pair with own := fset s.pair.own k { o with inflight := o.inflight - 1 } } }
    else match o.prev with
      | some (w, e, n) =>
        if e = epoch then
          { s with pair := { s.pair with own := fset s.pair.own k { o with prev := if n ≤ 1 then none else some (w, e, n - 1) } } }
        else s
      | none => s

/-- Install a new owner in an entry: refused (false) while a previous version is unretired (R75). -/
def ownInstall (k owner epoch : Nat) (s : State) : State × Bool :=
  match fget s.pair.own k with
  | none => (s, false)
  | some o =>
    match o.prev with
    | some _ => (foldS (seatList s) (fun n s => bump (Reg.FE_EPOCH_BUSY_COUNT n) s) s, false)
    | none =>
      ({ s with pair := { s.pair with own := fset s.pair.own k { o with
          owner := owner, epoch := epoch % 65536, inflight := 0
          prev := if o.inflight = 0 then none else some (o.owner, o.epoch, o.inflight) } } }, true)

/-! ### Steering versions (R74, R75, R90) -/

/-- Set a namespace. -/
def setNs (nsid : Nat) (n : Ns) (s : State) : State := { s with nv := { s.nv with ns := fset s.nv.ns nsid n } }

/-- Install a new current version of a steering entry: refused (false) while a previous version is unretired (R75). -/
def stInstall (nsid : Nat) (p : NsParams) (adm : Admission) (s : State) : State × Bool :=
  match nsOf s nsid with
  | none => (s, false)
  | some n =>
    match n.prev with
    | some _ => (foldS (seatList s) (fun i s => bump (Reg.FE_EPOCH_BUSY_COUNT i) s) s, false)
    | none =>
      (setNs nsid { n with
        cur := ⟨(n.cur.epoch + 1) % 65536, p, adm, 0⟩
        prev := if n.cur.inflight = 0 then none else some n.cur
        installed := s.stk.ext } s, true)

/-- A command matches the current version (R90). -/
def stStart (nsid : Nat) (s : State) : State :=
  match nsOf s nsid with
  | some n => setNs nsid { n with cur := { n.cur with inflight := n.cur.inflight + 1 } } s
  | none => s

/-- A command that matched the version with this epoch ends (R74). -/
def stEnd (nsid epoch : Nat) (s : State) : State :=
  match nsOf s nsid with
  | none => s
  | some n =>
    if n.cur.epoch = epoch then setNs nsid { n with cur := { n.cur with inflight := n.cur.inflight - 1 } } s
    else match n.prev with
      | some v => if v.epoch = epoch then
          setNs nsid { n with prev := if v.inflight ≤ 1 then none else some { v with inflight := v.inflight - 1 } } s
        else s
      | none => s

/-! ### Rows that reads hold (R173, R191) -/

/-- Change a row, named by pool and row number. -/
def rowMod (pool row : Nat) (f : Row → Row) (s : State) : State :=
  { s with par := { s.par with groups := fmod s.par.groups pool fun g => { g with rows := fmod g.rows row f } } }

/-- A row, named by pool and row number. -/
def rowOf (s : State) (pool row : Nat) : Option Row :=
  match groupOf s pool with
  | some g => fget g.rows row
  | none => none

/-- A read ends that looked up an address in the row with this key (R173); the last one lets a programmed row's DRAM copy go (R191). -/
def readEnds (k : Option Nat) (s : State) : State :=
  match k with
  | some k => rowMod (keyHi k) (keyLo k) (fun r => { r with
      readers := r.readers - 1, dram := r.dram && (r.st != .programmed || r.rewrite || decide (1 < r.readers)) }) s
  | none => s

/-! ### The end of a command -/

/-- A command. -/
def cmdOf (s : State) (id : Nat) : Option Cmd := fget s.nv.cmds id

/-- Change a command. -/
def cmdMod (id : Nat) (f : Cmd → Cmd) (s : State) : State := { s with nv := { s.nv with cmds := fmod s.nv.cmds id f } }

/-- A command moves block data over its descriptors. -/
def cmdPulls (c : Cmd) : Bool := match c.op with | .write => true | .zoneAppend => true | _ => false

/-- Bytes of protection information (R84). -/
def piLen (p : NsParams) : Nat := if p.guard64 then 16 else 8

/-- Bytes of a block on the wire: with PRACT set and nothing but protection information, no metadata (R105, R204). -/
def unitBytes (c : Cmd) : Nat :=
  4096 + (if c.p.pi ≠ 0 ∧ bitOf c.cap.prinfo 3 = true ∧ c.p.metaLen = piLen c.p then 0 else c.p.metaLen)

/-- What a command has asked for by RDMA READ and not had, by block (R77). -/
def asked (s : State) (id : Nat) (c : Cmd) : FMap Nat :=
  if !cmdPulls c || c.cap.inCapsule then []
  else
    let n := c.count - c.toPull
    ((fkeep s.ing.blks fun k b => keyHi k == id && b.stage == .wanted && decide (keyLo k < n)).map fun e => (e.1, unitBytes c - e.2.got)) ++
      (if c.part = 0 then [] else [(pairKey id n, c.part)])

/-- Commands of full queues that wait to be pushed are dropped. -/
def pushesDrop (p : Cmd → Bool) (s : State) : State := { s with nv := { s.nv with pushq := s.nv.pushq.filter fun c => !p c } }

/-- A command enters its queue. -/
def cmdPush (c : Cmd) (s : State) : State := { s with nv := { s.nv with cmds := fset s.nv.cmds s.nv.nextCmd c, nextCmd := s.nv.nextCmd + 1 } }

/-- The oldest refused push of a queue is tried again (R89). -/
def pushRetry (seat q : Nat) (s : State) : State :=
  match s.nv.pushq.find? fun c => c.seat == seat && c.qp == q with
  | some c =>
    if (countWhere s.nv.cmds fun _ x => x.seat == seat && x.qp == q) < 1024 then cmdPush c { s with nv := { s.nv with pushq := s.nv.pushq.erase c } }
    else s
  | none => s

/-- Release the range locks that a command holds or waits for (R103): the next request is granted by RANGE_LOCK_GRANT. -/
def releaseLocks (id : Nat) (s : State) : State :=
  let l := s.ing.locks.map fun e => (e.1, (if e.2.1 = some id then none else e.2.1), e.2.2.filter (· != id))
  { s with ing := { s.ing with locks := l.filter fun e => e.2.1.isSome || !e.2.2.isEmpty } }

/-- A Command Failure Detail entry, newest first, 256 kept (R92). -/
def addDetail (seat q : Nat) (d : FailDetail) (s : State) : State :=
  match ctrlOfQp s seat q with
  | some (c, x) => setCtrl seat c { x with log := (d :: x.log).take 256 } s
  | none => s

/-- Count a completion by its status (*NVQ_ registers*). -/
def countStatus (seat : Nat) (st : NvSts) (s : State) : State :=
  match st with
  | .nsNotReady => bump (Reg.NVQ_NOT_READY_COUNT seat) s
  | .anaInaccessible => bump (Reg.NVQ_ANA_REJECT_COUNT seat) s
  | .anaTransition => bump (Reg.NVQ_ANA_REJECT_COUNT seat) s
  | .guardCheck => bump (Reg.NVQ_PI_ERROR_COUNT seat) s
  | .appCheck => bump (Reg.NVQ_PI_ERROR_COUNT seat) s
  | .refCheck => bump (Reg.NVQ_PI_ERROR_COUNT seat) s
  | .cidConflict => bump (Reg.NVQ_CID_CONFLICT_COUNT seat) s
  | _ => s

/-- Remove a command with everything that belongs to it: blocks, units, locks and the versions it carried. Its RDMA READs still count against
the window until their responses come (R77), and its place in its queue goes to a push that was refused (R89). -/
def dropCmd (id : Nat) (s : State) : State :=
  match cmdOf s id with
  | none => s
  | some c =>
    let s := foldS (fkeep s.rds.units fun k _ => keyHi k == id) (fun e s => readEnds e.2.row s) s
    let s := if c.stage = .waiting then s else s |> stEnd c.nsid c.epoch |> ownEnd (ownKey false c.p.ana) c.ownEpoch
    let s := match qpOf s c.seat c.qp with
      | some x => setQp c.seat c.qp { x with stray := (asked s id c).foldl (fun (m : FMap Nat) (e : Nat × Nat) => fset m e.1 e.2) x.stray } s
      | none => s
    { s with
      nv := { s.nv with cmds := fdel s.nv.cmds id }
      ing := { s.ing with blks := fkeep s.ing.blks fun k _ => keyHi k != id }
      rds := { s.rds with units := fkeep s.rds.units fun k _ => keyHi k != id } }
      |> releaseLocks id |> pushRetry c.seat c.qp

/-- Whether an error of this command gets a Command Failure Detail entry: a read or write of which a part failed in storage (R91, R92). -/
def detailed (c : Cmd) (st : NvSts) : Bool :=
  (st == .writeFault || st == .unrecoveredRead || st == .internal) && c.stage != .waiting &&
    (match c.op with | .read => true | .write => true | .writeZeroes => true | .zoneAppend => true | .verify => true | _ => false)

/-- A command completes: exactly one completion, its locks and versions released in the same tick (R91, R103, R74). -/
def finishCmd (id : Nat) (st : NvSts) (dw0 : Nat) (s : State) : State :=
  match cmdOf s id with
  | none => s
  | some c =>
    let lba := match c.failed with | some (l, _) => l | none => c.lba
    s |> when (detailed c st) (addDetail c.seat c.qp ⟨c.cid, (match qpOf s c.seat c.qp with | some x => x.qid | none => 0), nvCode st, lba, c.nsid, s.stk.ext⟩)
      |> when (st == .unrecoveredRead || st == .writeFault) (bump (Reg.NVQ_SPLIT_FAIL_COUNT c.seat))
      |> when (st == .writeFault) (bump (Reg.NVQ_WRITE_FAULT_COUNT c.seat))
      |> when (st != .ok && cmdWrites c && c.stage != .waiting && decide (c.count ≤ c.p.atomic)) (bump (Reg.NVQ_ATOMIC_FAIL_COUNT c.seat))
      |> countStatus c.seat st
      |> dropCmd id
      |> nvSend c.seat c.qp c.cid st dw0

end Sys2Proof.Machine
end

