-- ==== Sys2Proof/Machine/RateOps.lean ====
section
/-!
DEFINITION. Machine/RateOps.lean: the Rating engine of a seat: histograms, estimates, the control law, buckets and background grants
(R332 to R350).
-/

namespace Sys2Proof.Machine

/-- Set a seat's Rating engine. -/
def setRate (seat : Nat) (r : RateSeat) (s : State) : State := { s with rate := fset s.rate seat r }

/-- Change one loop of a seat. -/
def loopMod (seat i : Nat) (f : Loop → Loop) (s : State) : State :=
  setRate seat { rateSeat s seat with loops := fset (rateSeat s seat).loops i (f (loopOf s seat i)) } s

/-! ### Histograms (R334 to R337) -/

/-- Lower edges of the 32 bins in units of 0.25 µs: the whole part of 4 times the square root of 2 to the power b (R335). -/
def binEdges : List Nat :=
  [0, 5, 8, 11, 16, 22, 32, 45, 64, 90, 128, 181, 256, 362, 512, 724, 1024, 1448, 2048, 2896, 4096, 5792, 8192, 11585, 16384,
   23170, 32768, 46340, 65536, 92681, 131072, 185363]

/-- Lower edge of a bin; beyond the last, its upper edge. -/
def binEdge (b : Nat) : Nat := binEdges.getD b 262144

/-- The bin a time enters: the highest whose lower edge does not exceed it (R335). -/
def binOf (t : Nat) : Nat := ((List.range 32).filter fun b => decide (binEdge b ≤ t)).length - 1

/-- Thirty-two empty bins. -/
def noBins : List Nat := List.replicate 32 0

/-- A histogram with nothing in it. -/
def noHist : Hist := ⟨noBins, noBins, noBins, false⟩

/-- Add two banks. -/
def addBins (a b : List Nat) : List Nat := List.zipWith (· + ·) a b

/-- An enabled loop of the seat reads this histogram (R336). -/
def histRead (r : RateSeat) (k : Nat) : Bool := r.loops.any fun e => e.2.cfg.enable && 2 * e.2.cfg.input + b2n e.2.cfg.write == k

/-- A completed command enters its class's histogram with its time (R334, R335). -/
def rateSample (seat cls : Nat) (write : Bool) (t : Nat) (s : State) : State :=
  let s := when (decide (262144 ≤ t)) (bump (Reg.RATE_HIST_OVER_COUNT seat)) s
  let r := rateSeat s seat
  let k := 2 * cls + b2n write
  if histRead r k then
    let h := fgetD r.hists k noHist
    setRate seat { r with hists := fset r.hists k { h with live := h.live.set (binOf t) (h.live.getD (binOf t) 0 + 1) } } s
  else s

/-- Fold latched counts into the window, which saturates (R336). -/
def foldBins (d : Nat) (w n : List Nat) : List Nat :=
  List.zipWith (fun h c => min (h - h / 2 ^ min d 14 + 256 * c) 4294967295) w n

/-- The estimate of a quantile from a window (R337). -/
def estimate (p : Nat) (w : List Nat) : Nat :=
  let n := w.sum
  let r := ceilDiv (p * n) 65536
  if r = 0 then 0
  else
    let cum := fun b => (w.take (b + 1)).sum
    match (List.range 32).find? fun b => decide (r ≤ cum b) with
    | none => 0
    | some b =>
      let before := if b = 0 then 0 else cum (b - 1)
      binEdge b + (binEdge (b + 1) - binEdge b) * (r - before) / (cum b - before)

/-! ### The control law (R338 to R342) -/

/-- Saturate to 40 bits; whether it did. -/
def sat40 (x : Int) : Int × Bool :=
  if x < -549755813888 then (-549755813888, true) else if 549755813887 < x then (549755813887, true) else (x, false)

/-- Saturate to 20 bits; whether it did. -/
def sat20 (x : Int) : Int × Bool :=
  if x < -524288 then (-524288, true) else if 524287 < x then (524287, true) else (x, false)

/-- The accumulator of a section: five saturating additions in the order b0, b1, b2, a1, a2 (R340). -/
def accumulate (terms : List Int) : Int × Bool :=
  terms.foldl (fun a t => let r := sat40 (a.1 + t); (r.1, a.2 || r.2)) (0, false)

/-- One section: its output, its state after, and whether the accumulator or the output saturated (R339, R340). -/
def sectionStep (c : Section) (x : Int) : Int × Section × Bool × Bool :=
  let k := fun i => c.coef.getD i 0
  let a := accumulate [k 0 * x, k 1 * c.x1, k 2 * c.x2, -(k 3 * c.y1), -(k 4 * c.y2)]
  let y := sat20 ((a.1 + 65536) / 131072)
  (y.1, { c with x2 := c.x1, x1 := x, y2 := c.y1, y1 := y.1 }, a.2, y.2)

/-- The sections in order, each output the next input. -/
def sectionsRun : List Section → Int → Int × List Section × Bool × Bool
  | [], x => (x, [], false, false)
  | c :: t, x =>
    let r := sectionStep c x
    let q := sectionsRun t r.1
    (q.1, r.2.1 :: q.2.1, r.2.2.1 || q.2.2.1, r.2.2.2 || q.2.2.2)

/-- Store the clamped output as y1 of the last section (R341). -/
def setLast : List Section → Int → List Section
  | [], _ => []
  | [c], y => [{ c with y1 := y }]
  | c :: t, y => c :: setLast t y

/-- The effective set-point after this stroke's estimate (R342). -/
def rampTo (l : Loop) (q : Nat) : Nat :=
  if l.cfg.slope = 0 then l.cfg.sp
  else if l.ramp then q
  else if l.spEff < l.cfg.sp then min l.cfg.sp (l.spEff + l.cfg.slope)
  else max l.cfg.sp (l.spEff - l.cfg.slope)

/-- One computation of a loop from its window (R337, R339 to R342). -/
def loopRun (l : Loop) (w : List Nat) : Loop :=
  if w.sum < 256 * l.cfg.minCount then
    { l with idle := true, ramp := false
             spEff := if l.ramp then (if l.cfg.slope = 0 then l.cfg.sp else l.q.getD l.cfg.sp) else l.spEff }
  else
    let q := estimate l.cfg.quant w
    let sp := rampTo l q
    let r := sectionsRun l.sections ((sp : Int) - (q : Int))
    let y := if r.1 < (l.cfg.min : Int) then l.cfg.min else if (l.cfg.max : Int) < r.1 then l.cfg.max else r.1.toNat
    { l with
      idle := false
      q := some q
      spEff := sp
      ramp := false
      sections := setLast r.2.1 (y : Int)
      out := y
      limit := decide ((y : Int) ≠ r.1)
      accSat := l.accSat || r.2.2.1
      outSat := l.outSat || r.2.2.2 }

/-- Fold the histogram of a loop once in this stroke (R336). -/
def histFold (r : RateSeat) (l : Loop) : RateSeat :=
  let k := 2 * l.cfg.input + b2n l.cfg.write
  let h := fgetD r.hists k noHist
  if h.folded then r
  else { r with hists := fset r.hists k { h with window := foldBins l.cfg.decay h.window h.latched, latched := noBins, folded := true } }

/-- A loop that a stroke did not compute to its end (R347): it was missed, and not idle. -/
def loopMiss (l : Loop) : Loop := { l with missed := true, idle := false, misses := min (l.misses + 1) 4294967295 }

/-- Compute the enabled loops of a seat in ascending index while the cycles last; those that no longer fit are missed (R347).
The answer gives the engine, the cycles of the loops computed to their end, and the loops missed. -/
def computeLoops (cycles : Nat) : List Nat → RateSeat → Nat → RateSeat × Nat × List Nat
  | [], r, used => (r, used, [])
  | i :: t, r, used =>
    let l := fgetD r.loops i loopReset
    if used + loopCost l ≤ cycles then
      let r := histFold r l
      let w := (fgetD r.hists (2 * l.cfg.input + b2n l.cfg.write) noHist).window
      computeLoops cycles t { r with loops := fset r.loops i (loopRun l w) } (used + loopCost l)
    else
      let r := foldS (i :: t) (fun j r => { r with loops := fmod r.loops j loopMiss }) r
      (r, used, i :: t)

/-- The enabled loops of a seat, ascending. -/
def enabledLoops (r : RateSeat) : List Nat := (r.loops.filter fun e => e.2.cfg.enable).map Prod.fst

/-! ### Buckets (R343 to R345) -/

/-- Rate in force of the bucket of a loop: its output, or the rate host software has set while it is disabled (R343). -/
def rateInForce (l : Loop) : Nat := if l.cfg.enable then l.out else l.cfg.openRate

/-- Refill: nominal times rate over 1,024, then limited to the depth; all in 1/256 token. -/
def refill (tokens : Int) (nominal rate depth : Nat) : Int := min (tokens + (nominal * rate / 1024 : Nat)) ((256 * depth : Nat) : Int)

/-- Charge a command to its class bucket: its data in 4 KiB units, at least 1 (R343). -/
def takeTokens (seat cls units : Nat) (s : State) : State :=
  let l := loopOf s seat cls
  if unlimited l then s else loopMod seat cls (fun l => { l with tokens := l.tokens - 256 * (max 1 units : Nat) }) s

/-- Rate of the seat's enabled loop of a target, or nominal where none is enabled (R345, R346). -/
def targetRate (s : State) (seat target : Nat) : Nat :=
  match (rateSeat s seat).loops.find? fun e => e.2.cfg.enable && e.2.cfg.target == target with
  | some e => e.2.out
  | none => 1024

/-- Bypass tokens of a seat, in 1/256 token. -/
def bypassTokens (s : State) (seat : Nat) : Int := untwos 32 (rd s (Reg.RATE_BYP_TOKENS_COUNT seat))

/-- Take `k` bypass tokens (R201). -/
def takeBypass (seat k : Nat) (s : State) : State :=
  wr (Reg.RATE_BYP_TOKENS_COUNT seat) (twos 32 (bypassTokens s seat - 256 * (k : Nat))) s

/-- Any group of this head is CRITICAL (R346). -/
def anyCritical (s : State) : Bool := s.par.groups.any fun e => ownsSide s e.2.side && groupState e.2 == 3

/-- Any pool of this head is GC_URGENT (R346). -/
def anyGcUrgent (s : State) : Bool := s.par.groups.any fun e => ownsSide s e.2.side && e.2.gcUrgent

/-- The five background activities, in the order of RATE_BG_GRANTED: GC, REBUILD, RESHAPE, SCRUB, SWEEP. -/
inductive Activity where
  | gc | rebuild | reshape | scrub | sweep
  deriving DecidableEq, Repr

/-- Place of an activity. -/
def actNum : Activity → Nat
  | .gc => 0 | .rebuild => 1 | .reshape => 2 | .scrub => 3 | .sweep => 4

/-- An activity starts an operation only while its grant holds tokens (R346). -/
def mayRun (s : State) (seat : Nat) (a : Activity) : Bool := decide (0 < (rateSeat s seat).grants.getD (actNum a) 0)

/-- Charge an operation to an activity's grant, in tokens of 4 KiB (R346). -/
def charge (seat : Nat) (a : Activity) (tokens : Nat) (s : State) : State :=
  let r := rateSeat s seat
  setRate seat { r with grants := r.grants.set (actNum a) (r.grants.getD (actNum a) 0 - (tokens : Nat)) } s

/-- Weights of the activities, in the order of `actNum`. -/
def bgWeights (s : State) (seat : Nat) : List Nat :=
  [rd s (Reg.RATE_BG_WEIGHT_GC seat), rd s (Reg.RATE_BG_WEIGHT_REBUILD seat), rd s (Reg.RATE_BG_WEIGHT_RESHAPE seat),
   rd s (Reg.RATE_BG_WEIGHT_SCRUB seat), rd s (Reg.RATE_BG_CTRL_SWEEP seat)]

/-- The grant of `g` whole tokens by demand (R346). -/
def bgGrant (g urgentPct : Nat) (critical gcUrgent : Bool) (demand weight : List Nat) : List Nat :=
  let d := fun i => demand.getD i 0
  let u := g * min 100 urgentPct / 100
  let gotR := if critical then min u (d 1) else 0
  let gotG := if gcUrgent then min (u - gotR) (d 0) else 0
  let okReshape := gotR == d 1
  let got := [gotG, gotR, 0, 0, 0]
  let rest := g - got.sum
  let in_ := fun i => decide (got.getD i 0 < d i) && (i != 2 || okReshape)
  let wsum := ((List.range 5).map fun i => if in_ i then weight.getD i 0 else 0).sum
  let got := (List.range 5).map fun i =>
    if 0 < wsum ∧ in_ i = true then got.getD i 0 + min (rest * weight.getD i 0 / wsum) (d i - got.getD i 0) else got.getD i 0
  ([1, 0, 2, 3, 4].foldl (fun (x : List Nat × Nat) i =>
    if i = 2 ∧ x.1.getD 1 0 < d 1 then x
    else
      let t := min x.2 (d i - x.1.getD i 0)
      (x.1.set i (x.1.getD i 0 + t), x.2 - t)) (got, g - got.sum)).1

/-- The background bucket at a stroke edge (R346): unspent grants return, refill, limit, grant; a seat that throttles grants half (R489). -/
def bgEdge (seat : Nat) (demand : List Nat) (s : State) : State :=
  let r := rateSeat s seat
  let forced := anyCritical s || anyGcUrgent s
  let rate := if forced then rd s (Reg.RATE_BG_CTRL_FORCE seat) else targetRate s seat 2
  let unspent := (r.grants.map fun x => max x 0).sum
  let debts := r.grants.map fun x => min x 0
  let tokens := untwos 32 (rd s (Reg.RATE_BG_TOKENS_COUNT seat)) + 256 * unspent
  let tokens := refill tokens (rd s (Reg.RATE_BG_NOMINAL_TOKENS seat)) rate (rd s (Reg.RATE_BG_DEPTH_TOKENS seat))
  let g := if tokens < 0 then 0 else tokens.toNat / 256
  let got := bgGrant g (rd s (Reg.RATE_BG_CTRL_URGENT_PCT seat)) (anyCritical s) (anyGcUrgent s) demand (bgWeights s seat)
  let got := if isSet s (Reg.PWR_STATUS_THROTTLING seat) then got.map (· / 2) else got
  let s := setRate seat { r with grants := List.zipWith (fun (d : Int) (x : Nat) => d + x) debts got } s
  let s := foldS (List.range 5) (fun i s => wr (Reg.RATE_BG_GRANTED_TOKENS seat i) (got.getD i 0) s) s
  s |> wr (Reg.RATE_BG_TOKENS_COUNT seat) (twos 32 (tokens - 256 * (got.sum : Nat))) |> wrB (Reg.RATE_STATUS_BG_FORCED seat) forced

/-- The class and bypass buckets of a seat at a stroke edge (R343, R345). -/
def bucketsEdge (seat : Nat) (s : State) : State :=
  let r := rateSeat s seat
  let loops := fmapV r.loops fun _ l => if unlimited l then { l with tokens := 0 }
    else { l with tokens := refill l.tokens l.cfg.nominal (rateInForce l) l.cfg.depth }
  let byp := refill (bypassTokens s seat) (rd s (Reg.RATE_BYP_NOMINAL_TOKENS seat)) (targetRate s seat 1) (rd s (Reg.RATE_BYP_DEPTH_TOKENS seat))
  s |> setRate seat { r with loops := loops } |> wr (Reg.RATE_BYP_TOKENS_COUNT seat) (twos 32 byp)

/-! ### Settings (R333, R348, R349) -/

/-- Capacity in cycles of a stroke (R348). -/
def rateCapacity (s : State) : Nat := (rd s Reg.STK_PERIOD_TICKS - 200) * 15 - 6000

/-- Whether a table of loop settings keeps R333: at most one enabled loop of target BYPASS and one of BACKGROUND, and no
namespace names an index whose target is not CLASS. -/
def tableTargets (s : State) (t : FMap LoopCfg) : Bool :=
  decide ((t.filter fun e => e.2.enable && e.2.target == 1).length ≤ 1) &&
  decide ((t.filter fun e => e.2.enable && e.2.target == 2).length ≤ 1) &&
  s.nv.ns.all fun n => (match fget t n.2.cur.p.loop with | some c => c.target == 0 | none => true)

/-- A loop index that no namespace may be given: a seat's loop of it has a target other than CLASS (R333). -/
def loopTaken (s : State) (i : Nat) : Bool := (seatList s).any fun n => (loopOf s n i).cfg.target != 0

/-- The settings of a seat's table with the staged entries in it. -/
def tableAfter (r : RateSeat) : FMap LoopCfg := foldS r.staged (fun e t => fset t e.1 e.2) (fmapV r.loops fun _ l => l.cfg)

/-- Cost of a table (R348). -/
def tableCost (t : FMap LoopCfg) : Nat := t.foldl (fun c e => if e.2.enable then c + 12 + 5 * e.2.coefs.length else c) 0

/-- A staged table that may be committed (R349). -/
def tableOk (s : State) (seat : Nat) : Bool :=
  let r := rateSeat s seat
  let t := tableAfter r
  r.staged.all (fun e => decide (e.2.sp ≤ 262143) && decide (e.2.min ≤ e.2.max) && decide (1 ≤ e.2.coefs.length) && decide (e.2.coefs.length ≤ 4))
    && tableTargets s t && decide (tableCost t ≤ rateCapacity s)

/-- A loop under new settings: section state cleared but for the last section's outputs, which take the output in force; a ramp
starts; the class bucket changes as R349 states. -/
def loopChange (l : Loop) (c : LoopCfg) : Loop :=
  if l.cfg = c then l
  else
    let secs := setLast (c.coefs.map fun k => (⟨k, 0, 0, 0, 0⟩ : Section)) (l.out : Int)
    let secs := match secs.reverse with
      | x :: t => ({ x with y2 := (l.out : Int) } :: t).reverse
      | [] => []
    let was := unlimited l
    let now := c.target != 0 || c.unlimited
    { l with cfg := c, sections := secs, ramp := true
             tokens := if now then 0 else if was then ((256 * c.depth : Nat) : Int) else l.tokens }

/-- The settings that take effect at a stroke edge (R349). -/
def rateSettings (seat : Nat) (s : State) : State :=
  let r := rateSeat s seat
  let loops := foldS r.setNext (fun e m => fset m e.1 (
    let l := fgetD m e.1 loopReset
    { l with cfg := { l.cfg with sp := e.2.1, slope := e.2.2 }, ramp := l.ramp || l.cfg.sp != e.2.1 })) r.loops
  let loops := foldS r.openNext (fun e m => fset m e.1 (let l := fgetD m e.1 loopReset; { l with cfg := { l.cfg with openRate := e.2 } })) loops
  let loops := if r.commit then foldS r.staged (fun e m => fset m e.1 (loopChange (fgetD m e.1 loopReset) e.2)) loops else loops
  let r := { r with loops := loops, setNext := [], openNext := [], staged := if r.commit then [] else r.staged, commit := false
                    saved := fmapV loops fun _ l => l.cfg }
  let cap := rateCapacity s
  s |> setRate seat r |> wr (Reg.RATE_CAPACITY_CYCLES seat) cap
    |> wrB (Reg.RATE_STATUS_OVERCOMMIT seat) (decide (cap < (r.loops.foldl (fun c e => if e.2.cfg.enable then c + loopCost e.2 else c) 0)))

/-- The histograms of a seat at a stroke edge (R336): latch the live banks; a latched bank not folded is added in. Loops that the
stroke never computed are missed (R347). -/
def rateLatch (seat : Nat) (s : State) : State :=
  let r := rateSeat s seat
  let run := isSet s (Reg.RATE_CTRL_ENABLE seat) && !isSet s (Reg.RATE_STATUS_FROZEN seat)
  let late := if run && !r.computed then enabledLoops r else []
  let r := foldS late (fun j r => { r with loops := fmod r.loops j loopMiss }) r
  let hists := (r.hists.filter fun e => histRead r e.1).map fun e =>
    (e.1, { e.2 with latched := if e.2.folded then e.2.live else addBins e.2.latched e.2.live, live := noBins, folded := false })
  let miss := match r.firstMiss with | some i => some i | none => late.head?
  s |> setRate seat { r with hists := hists, computed := false, lastEnd := 0, firstMiss := none }
    |> wr (Reg.RATE_LAST_END_TICK seat) r.lastEnd
    |> wr (Reg.RATE_FIRST_MISS_INDEX seat) (miss.getD 0) |> wrB (Reg.RATE_FIRST_MISS_VALID seat) miss.isSome
    |> bumpN (Reg.RATE_MISSES_COUNT seat) late.length
    |> wrB (Reg.RATE_STATUS_RUNNING seat) (run && enabledLoops r != [])

end Sys2Proof.Machine
end

