-- ==== Sys2Proof/Machine/PairOps.lean ====
section
/-!
DEFINITION. Machine/PairOps.lean: the pair's lanes, streams and windows (R293 to R305), and the changes of pair state.
-/

namespace Sys2Proof.Machine

/-- Set a seat's lane. -/
def setLane (seat : Nat) (l : Lane9) (s : State) : State := { s with pair := { s.pair with lanes := fset s.pair.lanes seat l } }

/-- Change a seat's lane. -/
def laneMod (seat : Nat) (f : Lane9 → Lane9) (s : State) : State := setLane seat (f (lane9 s seat)) s

/-- Pair events with their enable register (R330). -/
def pairEvent (ev : Fld) (bit : Nat) (s : State) : State := event ev Reg.PAIR_EVENT_EN_ENABLE bit s

/-- Classes of pair frames (R299). -/
def clsC : Nat := 0
/-- Class M. -/
def clsM : Nat := 1
/-- Class S. -/
def clsS : Nat := 2

/-- Lane time of a frame in ticks: header, payload and tag at 130 bytes a tick, rounded up (R293). -/
def laneTime (bytes : Nat) : Nat := ceilDiv (bytes + 80) 130

/-- Length of the M window at a period. -/
def mWindow (s : State) (period : Nat) : Nat :=
  period - rd s Reg.PAIR_WIN_LAYOUT_C - rd s Reg.PAIR_WIN_LAYOUT_S - rd s Reg.PAIR_WIN_LAYOUT_GUARD

/-- Shortest window that admits a class (R297): for M, the M window at a period of 5,000 ticks. -/
def shortestWindow (s : State) (cls : Nat) : Nat :=
  if cls = 0 then rd s Reg.PAIR_WIN_LAYOUT_C else if cls = 1 then mWindow s 5000 else rd s Reg.PAIR_WIN_LAYOUT_S

/-- The window at a tick, and the tick at which it ends: 0 C, 1 M, 2 S, 3 GUARD (R296). -/
def windowAt (s : State) (tick : Nat) : Nat × Nat :=
  let c := rd s Reg.PAIR_WIN_LAYOUT_C
  let p := rd s Reg.STK_PERIOD_TICKS
  let m := c + mWindow s p
  let sEnd := m + rd s Reg.PAIR_WIN_LAYOUT_S
  if tick < c then (0, c) else if tick < m then (1, m) else if tick < sEnd then (2, sEnd) else (3, p)

/-- A session with the peer is open. -/
def hasSession (s : State) : Bool :=
  s.pair.st == .joining || s.pair.st == .paired || s.pair.st == .armed || s.pair.st == .returning || (s.pair.st == .solo && decide (4 ≤ s.pair.step))

/-- Put a frame in a stream's queue; a frame longer than the shortest window of its class is refused and counted (R297). -/
def pairEnqueue (seat cls : Nat) (load : PairLoad) (bytes : Nat) (s : State) : State :=
  if !hasSession s then s
  else if 16384 < bytes ∨ shortestWindow s cls < laneTime bytes then bump (Reg.PAIR_LANE_ENQ_REFUSED_COUNT seat) s
  else laneMod seat (fun l => { l with queue := l.queue.set cls (l.queue.getD cls [] ++ [(load, bytes)]) }) s

/-- Send a CONTROL frame on the stream of seat 0 (R299). -/
def pairControl (c : Ctl) (s : State) : State := pairEnqueue 0 clsC (.control c) 64 s

/-- Bytes of a record in a JOURNAL frame (*Journal records*, R126). -/
def deltaBytes (d : Delta) : Nat :=
  match d.kind with
  | .extent => 48 + 16 * (match d.ext with | some e => e.length | none => 0)
  | .move => 48
  | _ => 32

/-- Bytes of a record in the delta log (R158). -/
def dlogBytes (d : Delta) : Nat := match d.kind with | .extent => 48 | .move => 48 | _ => 32

/-- A record as it travels: the VALUE of an EXTENT is zero, its handle is in the extent's header (R121, R126). -/
def onWire (d : Delta) : Delta := if d.kind = .extent then { d with value := 0 } else d

/-- A record as it is applied: the VALUE of an EXTENT is its handle. -/
def offWire (d : Delta) : Delta :=
  match d.kind, d.ext with
  | .extent, some e => { d with value := e.handle }
  | _, _ => d

/-- Add records to a stream's last unsent JOURNAL frame, which closes when the next record would exceed 16 KiB (R126). -/
def journalAdd (seat : Nat) (r : Delta) (s : State) : State :=
  if !hasSession s then s
  else
    let r := onWire r
    let l := lane9 s seat
    let q := l.queue.getD 1 []
    match q.reverse with
    | (.journal recs, n) :: t =>
      if n + deltaBytes r ≤ 16384 then laneMod seat (fun l => { l with queue := l.queue.set 1 ((.journal (recs ++ [r]), n + deltaBytes r) :: t).reverse }) s
      else pairEnqueue seat clsM (.journal [r]) (deltaBytes r) s
    | _ => pairEnqueue seat clsM (.journal [r]) (deltaBytes r) s

/-! ### Lanes (R295) -/

/-- A lane carries frames: trained and not failed. -/
def laneUp (s : State) (seat : Nat) : Bool := rd s (Reg.PAIR_LANE_STATUS_STATE seat) == 2

/-- The lane on which a seat's stream travels: its own until it fails, then the next higher-numbered seat's whose lane works, wrapping
(R295). -/
def viaLane (s : State) (seat : Nat) : Option Nat :=
  if rd s (Reg.PAIR_LANE_STATUS_STATE seat) ≠ 3 then some seat
  else (List.range s.hw.seats).findSome? fun d => let n := (seat + d) % s.hw.seats; if laneUp s n then some n else none

/-- Show where every stream travels: VIA, REROUTED, CARRIES and LANE_OK (R330, R331). -/
def showRoutes (s : State) : State :=
  let s := foldS (seatList s) (fun n s =>
    let via := (viaLane s n).getD n
    s |> wr (Reg.PAIR_LANE_STATUS_VIA n) via |> wrB (Reg.PAIR_LANE_STATUS_REROUTED n) (via != n)
      |> wr (Reg.PAIR_LANE_STATUS_CARRIES n) (bitsOf ((seatList s).map fun m => viaLane s m == some n))) s
  wr Reg.PAIR_STATUS_LANE_OK (bitsOf ((seatList s).map fun n => laneUp s n && viaLane s n == some n)) s

/-- Every unacknowledged frame of a stream must be sent again (R295, R304). -/
def resendAll (seat : Nat) (s : State) : State := laneMod seat (fun l => { l with again := l.unacked.map (·.seq) }) s

/-- A lane fails (R295): its stream takes the next working lane, and its outstanding frames are retransmitted there. A lane that is still
trained counts its 1,000 strokes from here. -/
def laneFails (seat : Nat) (s : State) : State :=
  if rd s (Reg.PAIR_LANE_STATUS_STATE seat) = 3 then s
  else
    let s := s |> wr (Reg.PAIR_LANE_STATUS_STATE seat) 3 |> laneMod seat (fun l => { l with trainedAt := l.trainedAt.map fun _ => s.stk.ext, lostAt := none })
    let s := foldS (seatList s) (fun n s => if rd s (Reg.PAIR_LANE_STATUS_VIA n) = seat then resendAll n s else s) s
    s |> showRoutes |> pairEvent Reg.PAIR_EVENTS_LANE_FAILED 1

/-- A fault of a pair lane, source PAIR_AUTH (0x0A) or PAIR_PROTO (0x0B): the lane fails when it is lasting. -/
def pairFault (seat source : Nat) (s : State) : State :=
  let r := faultCount seat source seat none [] s
  if r.2 then r.1 |> laneFails seat |> faultClear seat source seat else r.1

/-! ### Pair state (R311) -/

/-- Enter a pair state: the event, and PKG_DURABILITY.PAIRED, which is 1 only in PAIRED. -/
def pairTo (st : PairSt) (s : State) : State :=
  if s.pair.st = st then s
  else { s with pair := { s.pair with st := st } }
    |> pairEvent Reg.PAIR_EVENTS_STATE_CHANGED 0 |> durability Reg.PKG_DURABILITY_PAIRED (st == .paired)

/-- The head may serve the sides it owns. -/
def serving (s : State) : Bool := s.pair.st == .paired || s.pair.st == .solo

end Sys2Proof.Machine
end

