-- ==== Sys2Proof/Machine/KeyOps.lean ====
section
/-!
DEFINITION. Machine/KeyOps.lean: key domains, key slots, invocation counters and rolls (R380 to R398).
-/

namespace Sys2Proof.Machine

/-- Number of a data key on a seat: seat, domain, generation. -/
def ctrKey (seat domain gen : Nat) : Nat := (seat * 8192 + domain) * 65536 + gen

/-- Name of a key slot: kind (0 data, 1 dedup), domain, generation (R382). -/
def slotKey (kind domain gen : Nat) : Nat := (kind * 8192 + domain) * 65536 + gen

/-- A domain. -/
def domainOf (s : State) (d : Nat) : Option Domain := fget s.keys.domains d

/-- Change a domain. -/
def domainMod (d : Nat) (f : Domain → Domain) (s : State) : State :=
  { s with keys := { s.keys with domains := fmod s.keys.domains d f } }

/-- Key events with their enable register (R405). -/
def keyEvent (ev : Fld) (bit : Nat) (s : State) : State := event ev Reg.KEY_EVENT_EN_ENABLE bit s

/-- The key domain of a tenant's namespaces, or of a namespace of its own (R381). -/
def domainNum (s : State) (tenant : Nat) : Nat := match fget s.nv.tenants tenant with | some t => t.domain | none => tenant

/-- Current generation of a domain. -/
def curGen (s : State) (d : Nat) : Nat := match domainOf s d with | some x => x.gen | none => 0

/-! ### Key slots (R382) -/

/-- A key is in a seat's slot cache. -/
def slotHas (s : State) (seat k : Nat) : Bool := (fgetD s.keys.slots seat []).contains k

/-- Use of a slot makes it the most recently used. -/
def slotTouch (seat k : Nat) (s : State) : State :=
  { s with keys := { s.keys with slots := fset s.keys.slots seat (k :: (fgetD s.keys.slots seat []).filter (· != k)) } }

/-- An open row of the seat seals under the current generation of this domain, so its slot is never replaced (R382). -/
def slotPinned (s : State) (seat k : Nat) : Bool :=
  s.keys.domains.any fun e => slotKey 0 e.1 e.2.gen == k && decide (0 < openRows s seat)

/-- Fill a slot: when the cache is full, the least recently used slot that may be replaced goes (R382). -/
def slotFill (seat k : Nat) (s : State) : State :=
  let l := fgetD s.keys.slots seat []
  let l := if l.length < 16384 then l
    else match l.reverse.find? fun x => !slotPinned s seat x with
      | some v => l.filter (· != v)
      | none => l.dropLast
  { s with keys := { s.keys with slots := fset s.keys.slots seat (k :: l.filter (· != k)) } }

/-- Ask the key store for a key that is not in the cache: counted once per miss; the request stalls until KEY_SLOT_FILL. -/
def slotAsk (seat k : Nat) (s : State) : State :=
  let l := fgetD s.keys.asked seat []
  if l.contains k then s
  else { s with keys := { s.keys with asked := fset s.keys.asked seat (l ++ [k]) } } |> bump (Reg.CIP_SLOT_MISS_COUNT seat)

/-! ### Rolls (R391 to R393) -/

/-- Limit exponent in force: 24 to 36 (KEY_SEAL_LIMIT). -/
def sealLog2 (s : State) : Nat := min 36 (max 24 (rd s Reg.KEY_SEAL_LIMIT_LOG2))

/-- Share of one seat of one head in a key's usage limit (R391). -/
def sealShare (s : State) : Nat := 2 ^ sealLog2 s / (2 * s.hw.seats)

/-- Request a roll of a domain (R391 to R393): refused when the next generation is LIVE; otherwise installed at least four strokes
ahead, on both heads in the paired state. The answer says whether it was refused. -/
def rollRequest (d : Nat) (s : State) : State × Bool :=
  match domainOf s d with
  | none => (s, true)
  | some x =>
    let g := (x.gen + 1) % 65536
    if x.roll.isSome then (s, false)
    else if x.live.contains g then
      (s |> domainMod d (fun x => { x with blocked := true }) |> bump Reg.KEY_ROLL_REFUSED_COUNT
         |> keyEvent Reg.KEY_EVENTS_GEN_EXHAUSTED 1, true)
    else
      let t := s.stk.ext + 4
      (s |> domainMod d (fun x => { x with roll := some (g, t) }) |> when (s.pair.st == .paired) (pairControl (.roll d g t)), false)

/-- Rolls whose install stroke has come (R392). -/
def rollsDue (s : State) : State :=
  foldS s.keys.domains (fun e s => match e.2.roll with
    | some (g, t) =>
      if t ≤ s.stk.ext then
        s |> domainMod e.1 (fun x => { x with
            gen := g, roll := none, blocked := false, rolledAt := s.stk.ext
            live := if x.live.contains g then x.live else g :: x.live })
          |> bump Reg.KEY_ROLLS_COUNT |> keyEvent Reg.KEY_EVENTS_ROLLED 0
      else s
    | none => s) s

/-- Tenant writes blocked by KEY_GEN_EXHAUSTED (R393, R94). -/
def writesBlocked (s : State) (d : Nat) : Bool := match domainOf s d with | some x => x.blocked | none => false

/-! ### Invocation counters (R395, R396) -/

/-- Values reserved at a time. -/
def reserveStep : Nat := 1048576

/-- Distance from the mark at which the next reservation starts. -/
def reserveEarly : Nat := 262144

/-- Change a counter. -/
def setCtr (k : Nat) (c : Counter) (s : State) : State := { s with keys := { s.keys with ctrs := fset s.keys.ctrs k c } }

/-- Start a reservation up to `h`. -/
def reserveStart (k h : Nat) (s : State) : State :=
  match fget s.keys.ctrs k with
  | some c => setCtr k { c with writing := some h } s
  | none => s

/-- A seal under a domain's current data key stalls for the key's next reservation (R396). -/
def reserveStalls (s : State) (seat d : Nat) : Bool :=
  match fget s.keys.ctrs (ctrKey seat d (curGen s d)) with | some c => decide (c.hwm ≤ c.ctr) | none => true

/-- Take the next counter value of a seat for a domain's current data key; none when the seal stalls for a reservation (R396) or
for a roll (R391). -/
def takeCounter (seat d : Nat) (s : State) : Option Nat × State :=
  let k := ctrKey seat d (curGen s d)
  let s := if fhas s.keys.ctrs k then s else s |> setCtr k ⟨1, 1, none, 0⟩ |> reserveStart k (1 + reserveStep)
  match fget s.keys.ctrs k with
  | none => (none, s)
  | some c =>
    let s := if c.writing.isNone ∧ c.hwm ≤ c.ctr + reserveEarly then reserveStart k (c.hwm + reserveStep) s else s
    if c.hwm ≤ c.ctr then (none, s)
    else if sealShare s ≤ c.seals then (none, (rollRequest d s).1)
    else
      let s := match fget s.keys.ctrs k with
        | some c => setCtr k { c with ctr := c.ctr + 1, seals := c.seals + 1 } s
        | none => s
      let s := if sealShare s * 7 ≤ (c.seals + 1) * 8 then (rollRequest d s).1 else s
      (some c.ctr, s)

/-- The newest intact entry of a key that still seals lies in this slot of the ring (R396). -/
def ringPinned (s : State) (seat slot : Nat) : Bool :=
  match fget s.keys.rings (pairKey seat slot) with
  | none => false
  | some (d, g, _, q) =>
    curGen s d == g && fhas s.keys.domains d &&
      !(s.keys.rings.any fun e => keyHi e.1 == seat && e.2.1 == d && e.2.2.1 == g && strokeLater e.2.2.2.2 q)

/-- The slot at or after `p` that the write pointer takes, and how many pinned slots it skips (R396). -/
def ringNext (s : State) (seat : Nat) : Nat → Nat → Nat → Nat × Nat
  | 0, p, n => (p, n)
  | fuel + 1, p, n => if ringPinned s seat p then ringNext s seat fuel ((p + 1) % 32768) (n + 1) else (p, n)

/-- A reservation entry is written with its CHECK cell (R395, R396): the mark rises to the value written. -/
def reserveDone (seat d g : Nat) (s : State) : State :=
  let k := ctrKey seat d g
  match fget s.keys.ctrs k with
  | none => s
  | some c => (match c.writing with
    | none => s
    | some h =>
      let q := fgetD s.keys.ringSeq seat 0
      let p := ringNext s seat 8192 (rd s (Reg.CIP_RING_PTR_SLOT seat)) 0
      { s with keys := { s.keys with
          ctrs := fset s.keys.ctrs k { c with hwm := h, writing := none }
          rings := fset s.keys.rings (pairKey seat p.1) (d, g, h, q)
          ringSeq := fset s.keys.ringSeq seat ((q + 1) % 4294967296) } }
        |> ancWrote seat 8 |> bump (Reg.CIP_RESERVE_WRITES_COUNT seat)
        |> wr (Reg.CIP_RING_PTR_SLOT seat) ((p.1 + 1) % 32768)
        |> wr (Reg.CIP_RING_PINNED_COUNT seat) (min 32767 (rd s (Reg.CIP_RING_PINNED_COUNT seat) + p.2)))

/-- After any reset a seat resumes each key at its highest intact mark, and writes a fresh reservation before it seals (R396). -/
def countersResume (s : State) : State :=
  let s := { s with keys := { s.keys with ctrs := fmapV s.keys.ctrs fun _ c => { c with ctr := c.hwm, writing := none } } }
  foldS s.keys.ctrs (fun e s => reserveStart e.1 (e.2.hwm + reserveStep) s) s

end Sys2Proof.Machine
end

