-- ==== Sys2Proof/Machine/BladeOps.lean ====
section
/-!
DEFINITION. Machine/BladeOps.lean: oar ports, frames, the dies' command queues, slots and their events (R248 to R279).
-/

namespace Sys2Proof.Machine

/-- A port register of the port that serves a slot (R248, R288). -/
def portReg (f : Nat → Nat → Fld) (slot : Nat) : Fld := f (slot / 12) (slot % 12)

/-- Change a port. -/
def portMod (slot : Nat) (f : OarPort → OarPort) (s : State) : State :=
  { s with bld := { s.bld with ports := fset s.bld.ports slot (f (portOf s slot)) } }

/-- Change a slot. -/
def slotMod (slot : Nat) (f : Slot → Slot) (s : State) : State :=
  { s with bld := { s.bld with slots := fset s.bld.slots slot (f (slotOf s slot)) } }

/-- State of a port: 0 DOWN, 1 TRAINING, 2 UP, 3 DEGRADED, 4 FAILED. -/
def linkState (s : State) (slot : Nat) : Nat := rd s (portReg Reg.OAR_PORT_STATUS_STATE slot)

/-- The link carries frames. -/
def linkUp (s : State) (slot : Nat) : Bool := linkState s slot == 2 || linkState s slot == 3

/-- A slot event: the bit, raised to the cox when its enable and the slot's master enable are set (R268, R289). -/
def slotEvent (ev en : Fld) (slot : Nat) (s : State) : State :=
  setEvent ev (isSet s en && isSet s (Reg.BLD_SLOT_CTRL_HP_EN slot)) s

/-- The link's UP state changes (R268): LINK_UP and DLLSC. -/
def setLinkUp (slot : Nat) (up : Bool) (s : State) : State :=
  if isSet s (Reg.BLD_SLOT_STATUS_LINK_UP slot) = up then s
  else s |> wrB (Reg.BLD_SLOT_STATUS_LINK_UP slot) up
    |> slotEvent (Reg.BLD_SLOT_STATUS_DLLSC slot) (Reg.BLD_SLOT_CTRL_DLLSC_EN slot) slot

/-- The slot's pin SLOT_PWREN follows PWREN (R249, R270). -/
def setPwren (slot : Nat) (on : Bool) (s : State) : State :=
  if isSet s (Reg.BLD_SLOT_STATUS_PWREN slot) = on then s
  else s |> wrB (Reg.BLD_SLOT_STATUS_PWREN slot) on |> emit .pin [16 + slot, b2n on]
    |> when on (slotMod slot fun x => { x with poweredAt := s.stk.ext })

/-! ### Frames (R251 to R254) -/

/-- Sequence numbers of oar frames compare by serial arithmetic on 12 bits (R253). -/
def oarLater (a b : Nat) : Bool := let d := subMod 12 a b; 1 ≤ d && d ≤ 2047

/-- Credits that the bridge holds once those owed to it have been returned (R252). -/
def owedBack (p : OarPort) : List Nat := List.zipWith (· + ·) p.theirs p.owed

/-- Credits held on a channel that this head sends on. -/
def creditReg (slot chan : Nat) : Fld :=
  if chan = 0 then portReg Reg.OAR_PORT_CREDITS_CMD slot
  else if chan = 1 then portReg Reg.OAR_PORT_CREDITS_WDATA slot else portReg Reg.OAR_PORT_CREDITS_MGMT slot

/-- Send the frames that wait while credits and the replay window of 64 allow (R252, R253). -/
def oarFlushN (slot : Nat) : Nat → State → State
  | 0, s => s
  | fuel + 1, s =>
    let p := portOf s slot
    match p.queue with
    | [] => s
    | (chan, payload) :: rest =>
      if linkUp s slot && decide (p.unacked.length < 64) && decide (0 < rd s (creditReg slot chan)) then
        let f : OarFrame := ⟨p.nextSeq, chan, payload⟩
        let s := s |> portMod slot (fun p => { p with queue := rest, nextSeq := (p.nextSeq + 1) % 4096, unacked := p.unacked ++ [f], sinceAck := 0, theirs := owedBack p, owed := [0, 0, 0] })
          |> lower (creditReg slot chan) 1 |> emit .oar ([slot, chan, f.seq, p.rxSeq] ++ p.owed ++ payload)
          |> when (chan == 1) (bumpN (portReg Reg.OAR_PORT_WR_BYTES slot) 4128)
        oarFlushN slot fuel s
      else s

/-- Send what waits on a port. -/
def oarFlush (slot : Nat) (s : State) : State := oarFlushN slot (portOf s slot).queue.length s

/-- Put a DATA frame on a port. -/
def oarPut (slot chan : Nat) (payload : List Nat) (s : State) : State :=
  s |> portMod slot (fun p => { p with queue := p.queue ++ [(chan, payload)] }) |> oarFlush slot

/-- An acknowledgement frees the frames it covers (R253). -/
def oarAcked (slot ack : Nat) (s : State) : State :=
  let p := portOf s slot
  let rest := p.unacked.filter fun f => oarLater f.seq ack
  s |> portMod slot (fun p => { p with unacked := rest, replays := if rest.length < p.unacked.length then 0 else p.replays }) |> oarFlush slot

/-- Credits reported by the bridge: one byte per channel 0 to 4 (R251, R252). -/
def oarCredits (slot : Nat) (c : List Nat) (s : State) : State :=
  s |> bumpN (creditReg slot 0) (c.getD 0 0) |> bumpN (creditReg slot 1) (c.getD 1 0) |> bumpN (creditReg slot 4) (c.getD 4 0) |> oarFlush slot

/-- Replay every frame after a sequence (R253, R254); each frame goes out with the acknowledgement and the credits of now. -/
def oarReplay (slot after : Nat) (s : State) : State :=
  let l := (portOf s slot).unacked.filter fun f => oarLater f.seq after
  let s := foldS l (fun f s =>
    let p := portOf s slot
    s |> emit .oar ([slot, f.channel, f.seq, p.rxSeq] ++ p.owed ++ f.payload)
      |> portMod slot (fun p => { p with sinceAck := 0, theirs := owedBack p, owed := [0, 0, 0] })) s
  s |> bumpN (portReg Reg.OAR_PORT_REPLAYS_COUNT slot) l.length |> portMod slot (fun p => { p with reps := p.reps + l.length })

/-! ### NAND commands (R258 to R267) -/

/-- NAND opcodes. -/
def opRead : Nat := 1
/-- PROGRAM. -/
def opProgram : Nat := 3
/-- ERASE. -/
def opErase : Nat := 4
/-- SUSPEND. -/
def opSuspend : Nat := 5
/-- RESUME. -/
def opResume : Nat := 6
/-- DIE_RESET. -/
def opReset : Nat := 7

/-- Ticks since an arbitrary start, at the period in force. -/
def nowTicks (s : State) : Nat := s.stk.ext * rd s Reg.STK_PERIOD_TICKS + s.stk.tick

/-- A die before its first command. -/
def dieReset : Die := ⟨[], 0, false, 0, false, false, false, 0⟩

/-- A die of a port. -/
def dieOf (s : State) (slot die : Nat) : Die := fgetD (portOf s slot).dies die dieReset

/-- Change a die. -/
def dieMod (slot die : Nat) (f : Die → Die) (s : State) : State :=
  portMod slot (fun p => { p with dies := fset p.dies die (f (fgetD p.dies die dieReset)) }) s

/-- Commands outstanding at the bridge for a die: those that timed out are, until their completion arrives (R263, R267). -/
def dieBusy (s : State) (slot die : Nat) : Nat := countWhere (portOf s slot).cmds fun _ c => c.die == die

/-- The head may issue NAND commands to a slot: link up, attested, session heartbeat answered, this head the fence owner, no fence
change in progress (R275 to R279). -/
def mayIssue (s : State) (slot : Nat) : Bool :=
  linkUp s slot && isSet s (Reg.BLD_SLOT_STATUS_ATTESTED slot) && isSet s (portReg Reg.OAR_PORT_STATUS_SESSION slot) &&
    isSet s (portReg Reg.OAR_PORT_STATUS_OWNER slot) && (portOf s slot).heartbeat.isNone && (slotOf s slot).fencing.isNone

/-- The lowest tag not in use on a port. -/
def freeTag (p : OarPort) : Option Nat := (List.range 4096).find? fun t => !fhas p.cmds t

/-- A command with its opcode, its address and what it is for; the epoch is filled in when it is sent. -/
def nandCmd (op die block page : Nat) (use : NandUse) : NandCmd := ⟨op, false, false, 0, die, block, page, 0, 0, use, false, 0, 0, 0, 0, 0, 0, []⟩

/-- The typical time of an opcode in a cell mode, as the blade reported it, in µs (R266); none is reported for the others. -/
def typical (g : BladeGeom) (slc : Bool) (op : Nat) : Nat :=
  if op = opRead then (if slc then g.slcR else g.tR)
  else if op = opProgram then (if slc then g.slcProg else g.tProg)
  else if op = opErase then (if slc then g.slcErase else g.tErase)
  else 0

/-- When a command sent now is overdue (R266): the tick at which its operation is predicted to start, once what runs on its die has ended,
and MULT times its typical time, at least the floor. -/
def nandDue (s : State) (slot : Nat) (c : NandCmd) : Nat :=
  match (slotOf s slot).geom with
  | none => nowTicks s
  | some g =>
    let seat := slot / 12
    let run := (portOf s slot).cmds.find? fun e => e.2.die == c.die && !e.2.late && (e.2.opcode == opProgram || e.2.opcode == opErase)
    let start := match run with | some e => max (nowTicks s) (e.2.sent + 100 * typical g e.2.slc e.2.opcode) | none => nowTicks s
    start + 100 * max (rd s (Reg.OAR_TIMEOUT_FLOOR_US seat)) (max 2 (rd s (Reg.OAR_TIMEOUT_MULT seat)) * typical g c.slc c.opcode)

/-- Pools that a slot's blade serves: a share of a geometry, of a rebuild's target, or a spare. -/
def slotPools (s : State) (slot : Nat) : List Nat :=
  (s.par.groups.filter fun g => (g.2.geoms.any fun x => x.2.shares.any fun sh => sh.slot == slot && !sh.lost) ||
    (g.2.rebuilds.any fun r => r.target.slot == slot) || g.2.spares.contains slot).map (·.1)

/-- A NAND command starts under the ownership entries of the pools its blade serves (R309). -/
def nandOwns (slot : Nat) (s : State) : List (Nat × Nat) × State :=
  (slotPools s slot).foldl (fun r p => let o := ownStart (ownKey true p) r.2; (r.1 ++ [(ownKey true p, o.1)], o.2)) ([], s)

/-- A NAND command has ended under those entries. -/
def nandOwnsEnd (c : NandCmd) (s : State) : State := foldS c.owns (fun x s => ownEnd x.1 x.2 s) s

/-- Send one NAND command: its CMD frame and, for a PROGRAM, the four chunks (R261). -/
def nandSend (slot : Nat) (c : NandCmd) (s : State) : State :=
  match freeTag (portOf s slot) with
  | none => s
  | some t =>
    let flags := b2n c.prio + 2 * b2n c.slc
    let o := nandOwns slot s
    let s := o.2 |> portMod slot (fun p => { p with cmds := fset p.cmds t { c with sent := nowTicks s, due := nandDue s slot c, owns := o.1 } })
      |> oarPut slot 0 [c.opcode, flags, t, c.epoch, c.die, c.block, c.page, c.level, c.mask]
    if c.opcode = opProgram then foldS (List.range 4) (fun i s => oarPut slot 1 [t, i] s) s else s

/-- Reads of a die that are at the bridge and have not timed out. -/
def dieReads (s : State) (slot die : Nat) : Nat := countWhere (portOf s slot).cmds fun _ c => c.die == die && c.opcode == opRead && !c.late

/-- Send the die's waiting commands, never more than four outstanding at the bridge for one die (R263); DIE_RESET first where it is
due (R266); while an operation is suspended a program or erase waits, and so does every read after the eighth (R197). -/
def diePump (slot die : Nat) : Nat → State → State
  | 0, s => s
  | fuel + 1, s =>
    let d := dieOf s slot die
    let epoch := rd s (Reg.BLD_SLOT_FENCE_EPOCH slot)
    if !mayIssue s slot || decide (4 ≤ dieBusy s slot die) then s
    else if d.reset then
      diePump slot die fuel (s |> dieMod slot die (fun d => { d with reset := false })
        |> nandSend slot { nandCmd opReset die 0 0 .control with epoch := epoch })
    else match d.queue with
      | [] => s
      | c :: rest =>
        if d.suspended && (c.opcode == opProgram || c.opcode == opErase || (c.opcode == opRead && decide (8 ≤ d.served + dieReads s slot die))) then s
        else diePump slot die fuel (s |> dieMod slot die (fun d => { d with queue := rest }) |> nandSend slot { c with epoch := epoch })

/-- Place a command in its die's queue: a read with PRIORITY goes ahead of every program or erase that waits (R200, R263). -/
def queueInsert (c : NandCmd) (l : List NandCmd) : List NandCmd :=
  if c.prio then
    let a := l.takeWhile fun x => x.opcode != opProgram && x.opcode != opErase
    a ++ c :: l.drop a.length
  else l ++ [c]

/-- Give a command to the head's queue of a die. -/
def nandIssue (slot : Nat) (c : NandCmd) (s : State) : State :=
  s |> dieMod slot c.die (fun d => { d with queue := queueInsert c d.queue }) |> diePump slot c.die 8

/-- Send what may now be sent on every die of a port. -/
def portPump (slot : Nat) (s : State) : State := foldS ((portOf s slot).dies.map Prod.fst) (fun d s => diePump slot d 8 s) s

/-- Starting read-retry level of a block (R265). -/
def startLevel (s : State) (slot die block : Nat) : Nat := fgetD (slotOf s slot).levels (die * 16384 + block) 0

/-- Set a block's starting level; level 0 is not listed. -/
def setLevel (slot die block lvl : Nat) (s : State) : State :=
  let k := die * 16384 + block
  slotMod slot (fun x => { x with levels := if lvl = 0 then fdel x.levels k else fset x.levels k lvl }) s

/-- A read of one page: opcode READ_PAGE at a level, returning the codewords of a mask. -/
def readCmd (die block page level mask : Nat) (prio slc : Bool) (use : NandUse) : NandCmd :=
  { nandCmd opRead die block page use with
    prio := prio, slc := slc, level := level, mask := mask, start := level
    left := ((List.range 8).filter fun c => bitOf mask c).length }

/-! ### Physical addresses (R144) -/

/-- An address from its parts, in 16-byte units of offset. -/
def mkAddr (slot die block page off : Nat) : Nat := slot * 35184372088832 + die * 34359738368 + block * 2097152 + page * 1024 + off

/-- BLADE of an address. -/
def addrSlot (a : Nat) : Nat := slice a 45 7
/-- DIE of an address. -/
def addrDie (a : Nat) : Nat := slice a 35 10
/-- BLOCK of an address. -/
def addrBlock (a : Nat) : Nat := slice a 21 14
/-- PAGE of an address. -/
def addrPage (a : Nat) : Nat := slice a 10 11
/-- OFFSET of an address. -/
def addrOff (a : Nat) : Nat := slice a 0 10

/-- Whether an address with a length is valid (R144): the slot exists, the die, block and page lie in the blade's geometry, and
the extent ends within its page. -/
def addrValid (s : State) (a length : Nat) : Bool :=
  decide (addrSlot a < slotCount s) && decide (addrOff a + length ≤ 1024) &&
    (match (slotOf s (addrSlot a)).geom with
     | some g => decide (addrDie a < g.dies) && decide (addrBlock a < g.blocks) && decide (addrPage a < g.pages)
     | none => false)

/-! ### Fences (R277 to R279) -/

/-- Send a fence change to a bridge: the epoch goes to the slot's anchor-store entry first (R278). -/
def fenceRaise (slot owner epoch : Nat) (s : State) : State :=
  s |> slotMod slot (fun x => { x with fencing := some (owner, epoch, s.stk.ext), anchorEpoch := epoch })
    |> ancWrote 0 5 |> oarPut slot 4 [2, owner, epoch]

/-- An epoch later than every epoch and term this head holds (R278, R320; log entry 54). -/
def newEpoch (s : State) : Nat :=
  1 + (List.range (slotCount s)).foldl (fun n i => max n (max (rd s (Reg.BLD_SLOT_FENCE_EPOCH i)) (slotOf s i).anchorEpoch)) s.pair.term

/-- This head's bridge port (R248). -/
def myPort (s : State) : Nat := mySide s

/-- Slots that are attested. -/
def attestedSlots (s : State) : List Nat :=
  (List.range (slotCount s)).filter fun n => isSet s (Reg.BLD_SLOT_STATUS_ATTESTED n)

/-- The link is trained again from the start or after a failure of replay (R254): frames are kept, commands stay outstanding. -/
def oarRetrainBase (slot : Nat) (s : State) : State :=
  if linkState s slot = 1 then s
  else s |> wr (portReg Reg.OAR_PORT_STATUS_STATE slot) 1 |> setLinkUp slot false
    |> portMod slot (fun p => { p with retrain := true, trainAt := s.stk.ext, replays := 0 })
    |> bump (portReg Reg.OAR_PORT_RETRAINS_COUNT slot)

end Sys2Proof.Machine
end

