-- ==== Sys2Proof/Machine/MapOps.lean ====
section
/-!
DEFINITION. Machine/MapOps.lean: directories, map pages, entries, content records, references, the delta log and the translation cache
(R139 to R162, R186, R359).
-/

namespace Sys2Proof.Machine

/-! ### Keys -/

/-- Entries of a map page (R139). -/
def pageEnts : Nat := 2048

/-- Key of a directory entry: the owner (a namespace, a snapshot's or image's directory, a record table) and the page index. -/
def dirKey (owner idx : Nat) : Nat := owner * 4294967296 + idx

/-- Owner of a directory key. -/
def dirOwner (k : Nat) : Nat := k / 4294967296

/-- Page index of a directory key. -/
def dirIdx (k : Nat) : Nat := k % 4294967296

/-- Owner numbers of snapshot directories and images start here. -/
def imageOwner (n : Nat) : Nat := 4294967296 + n

/-- Owner number of the record table of a tenant, side and seat (R145). -/
def recOwner (tenant handle : Nat) : Nat := 8589934592 + tenant * 32 + handle / 34359738368 % 32

/-- Key of an LBA of a namespace. -/
def lbaKey (nsid lba : Nat) : Nat := nsid * 281474976710656 + lba

/-- Home seat of the pages of an owner: a namespace's by its number, a record table's by the handle; a snapshot's directory has
the home of its namespace, and the number of one that is only being released has that home too (`newOwner`). -/
def ownerSeat (s : State) (owner : Nat) : Nat :=
  if owner < 4294967296 then owner % s.hw.seats
  else if owner < 8589934592 then
    match s.snp.snaps.findSome? fun e => (e.2.owners.idxOf? owner).map fun i => e.2.members.getD i 0 with
    | some n => n % s.hw.seats
    | none => (match s.snp.links.findSome? fun e => (e.2.image.idxOf? owner).map fun i =>
        (match fget s.snp.cgs e.2.p.cg with | some c => c.members.getD i 0 | none => 0) with
      | some n => n % s.hw.seats
      | none => owner % s.hw.seats)
  else (owner - 8589934592) % 16 % s.hw.seats

/-! ### Entries -/

/-- An entry of a page never written: UNMAPPED, tag 0 (R141). -/
def entReset : MapEnt := ⟨0, false, false, false, false, 0, 0⟩

/-- States of an entry (*Entry states*, R141). -/
inductive EntSt where
  | unmapped | zero | dealloc | mapped | fault
  deriving DecidableEq, Repr

/-- How the map unit reads an entry (R141). -/
def entSt (e : MapEnt) : EntSt :=
  if e.spare ≠ 0 then .fault
  else if e.handle = 0 ∧ !e.zero ∧ !e.dealloc then .unmapped
  else if e.handle = 0 ∧ e.zero ∧ !e.dealloc then .zero
  else if e.handle ≠ 0 ∧ !e.zero ∧ e.dealloc then .dealloc
  else if e.handle ≠ 0 ∧ !e.zero ∧ !e.dealloc then .mapped
  else .fault

/-- An entry as its 64-bit word (*Logical map entry*, R140). -/
def entWord (e : MapEnt) : Nat :=
  e.replay % 2 ^ 16 + 2 ^ 16 * b2n e.zero + 2 ^ 17 * b2n e.dealloc + 2 ^ 18 * b2n e.shared + 2 ^ 19 * b2n e.pinned + 2 ^ 20 * e.spare + 2 ^ 24 * e.handle

/-- The directory entry of an LBA. -/
def dirOf (s : State) (owner lba : Nat) : Option DirEnt := fget s.map.dirs (dirKey owner (lba / pageEnts))

/-- The entry of an LBA as committed. -/
def entAt (s : State) (owner lba : Nat) : MapEnt :=
  match dirOf s owner lba with
  | some d => fgetD (fgetD s.map.pages d.page []) (lba % pageEnts) entReset
  | none => entReset

/-- A map fault (R141, R144): counted on the seat and in the fault table, with what it concerns. -/
def mapFault (seat : Nat) (detail : List Nat) (s : State) : State :=
  s |> bump (Reg.MAP_MAP_FAULT_COUNT seat) |> faultNote seat 0x13 seat detail

/-! ### Records and references (R143, R153, R154) -/

/-- Saturated reference count. -/
def refsMax : Nat := 1048575

/-- A content record; none when it is free. -/
def recOf (s : State) (tenant handle : Nat) : Option Rec :=
  match fget s.map.recs (recKey tenant handle) with
  | some r => if r.length = 0 then none else some r
  | none => none

/-- Set a record. -/
def setRec (k : Nat) (r : Rec) (s : State) : State := { s with map := { s.map with recs := fset s.map.recs k r } }

/-- Free a record: LENGTH 0, the index to be reused once the next checkpoint has completed (R153). -/
def freeRec (k : Nat) (s : State) : State :=
  match fget s.map.recs k with
  | some r => { s with map := { s.map with recs := fset s.map.recs k { r with length := 0 }, freed := (k, s.stk.ext) :: s.map.freed } }
  | none => s

/-- Free a record that has neither reference nor hold. -/
def freeIdle (k : Nat) (s : State) : State :=
  match fget s.map.recs k with
  | some r => if r.length ≠ 0 ∧ r.refs = 0 ∧ r.holds = 0 then freeRec k s else s
  | none => s

/-- Add a reference (R153); whether the entry that takes it must be PINNED because the record is saturated (R154). -/
def incRef (k : Nat) (s : State) : State × Bool :=
  match fget s.map.recs k with
  | some r => if r.refs = refsMax then (s, true) else (setRec k { r with refs := r.refs + 1 } s, false)
  | none => (s, false)

/-- Give up a reference, unless the record is saturated (R153, R154). -/
def decRef (k : Nat) (s : State) : State :=
  match fget s.map.recs k with
  | some r => if r.refs = refsMax ∨ r.length = 0 then s else s |> setRec k { r with refs := r.refs - 1 } |> freeIdle k
  | none => s

/-- Take a hold (R110). -/
def holdRec (k : Nat) (s : State) : State :=
  match fget s.map.recs k with
  | some r => setRec k { r with holds := r.holds + 1 } s
  | none => s

/-- Release a hold (R110, R153). -/
def releaseHold (k : Nat) (s : State) : State :=
  match fget s.map.recs k with
  | some r => s |> setRec k { r with holds := r.holds - 1 } |> freeIdle k
  | none => s

/-- An entry that goes gives up its reference, unless it is PINNED (R153). -/
def entRelease (tenant : Nat) (e : MapEnt) (s : State) : State :=
  if (entSt e = .mapped ∨ entSt e = .dealloc) ∧ !e.pinned then decRef (recKey tenant e.handle) s else s

/-- Allocate a record index on a seat for a side (R142): a reusable one, or the next; index 0 is never allocated, and none is left beyond
2^35 - 1. -/
def allocRec (tenant side seat : Nat) (s : State) : Option Nat × State :=
  let base := side * 549755813888 + seat * 34359738368
  match s.map.reuse.find? fun k => k / 1099511627776 == tenant && (k % 1099511627776) / 34359738368 == base / 34359738368 with
  | some k => (some (k % 1099511627776), { s with map := { s.map with reuse := s.map.reuse.filter (· != k) } })
  | none =>
    let t := tenant * 32 + base / 34359738368
    let i := max 1 (fgetD s.map.nextRec t 1)
    if 34359738368 ≤ i then (none, s)
    else (some (base + i), { s with map := { s.map with nextRec := fset s.map.nextRec t (i + 1) } })

/-! ### Residency and the page frames (R146, R152) -/

/-- Resident pages homed on a seat. -/
def residentOn (s : State) (seat : Nat) : List Nat :=
  (s.map.dirs.filter fun e => e.2.resident && ownerSeat s (dirOwner e.1) == seat).map Prod.fst

/-- The frame of a resident page. -/
def frameOf (s : State) (seat k : Nat) : Option Nat :=
  ((s.map.frames.find? fun e => keyHi e.1 == seat && e.2 == k).map fun e => keyLo e.1)

/-- Give a page the lowest free frame of its seat. -/
def frameTake (seat k : Nat) (s : State) : State :=
  match frameOf s seat k with
  | some _ => s
  | none =>
    let n := (fkeep s.map.frames fun x _ => keyHi x == seat).length
    match (List.range (n + 1)).find? fun f => !fhas s.map.frames (pairKey seat f) with
    | some f => { s with map := { s.map with frames := fset s.map.frames (pairKey seat f) k } }
    | none => s

/-- The DRAM address of a line of a page: bits [20:8] index the cache (R147). -/
def lineAddr (s : State) (seat k line : Nat) : Option Nat := (frameOf s seat k).map fun f => f * 16384 + line * 256

/-! ### Translation cache (R147 to R151) -/

/-- A seat's cache; its register is seeded from MAP_TC_LFSR at reset, where 0 acts as 0xACE1. -/
def tcOf (s : State) (seat : Nat) : Tc :=
  fgetD s.map.tc seat ⟨(let v := (Reg.MAP_TC_LFSR_SEED seat).reset; if v = 0 then 0xACE1 else v), [], []⟩

/-- Set a seat's cache. -/
def setTc (seat : Nat) (t : Tc) (s : State) : State := { s with map := { s.map with tc := fset s.map.tc seat t } }

/-- One step of the 16-bit register x^16 + x^14 + x^13 + x^11 + 1 (R147; log entry 21). -/
def lfsrStep (v : Nat) : Nat :=
  v / 2 + (if ((v + v / 4 + v / 8 + v / 32) % 2 == 1) = true then 32768 else 0)

/-- Sixteen empty ways. -/
def noWays : List (Option Nat) := List.replicate 16 none

/-- The set of a line. -/
def tcSet (line : Nat) : Nat := line / 256 % 8192

/-- A line is in the cache. -/
def tcHas (t : Tc) (line : Nat) : Bool := (fgetD t.sets (tcSet line) noWays).contains (some line)

/-- Put a line into its set: an invalid way when there is one, otherwise the way the register names, which then steps (R147). -/
def tcInsert (seat line : Nat) (s : State) : State :=
  let t := tcOf s seat
  let w := fgetD t.sets (tcSet line) noWays
  if w.contains (some line) then s
  else match w.idxOf? none with
    | some i => setTc seat { t with sets := fset t.sets (tcSet line) (w.set i (some line)) } s
    | none => s |> setTc seat { t with sets := fset t.sets (tcSet line) (w.set (t.lfsr % 16) (some line)), lfsr := lfsrStep t.lfsr }
        |> bump (Reg.MAP_TC_EVICTIONS_COUNT seat)

/-- Drop the lines of a frame. -/
def tcDropFrame (seat f : Nat) (s : State) : State :=
  let t := tcOf s seat
  let sets := fmapV t.sets fun _ w => w.map fun x => match x with
    | some l => if l / 16384 = f then none else some l
    | none => none
  setTc seat { t with sets := sets.filter fun e => e.2 != noWays } s

/-- The lane numbers: 0 to 15 work, higher numbers wait for a lane (R150). -/
def laneFree (t : Tc) : Nat := ((List.range 4096).find? fun l => !fhas t.lanes l).getD 4096

/-- One lookup of a line for a unit of a command: a hit, or a miss that blocks a lane until the line arrives (R150). The answer
says whether it hit. -/
def tcLookup (seat line cmd idx : Nat) (s : State) : State × Bool :=
  let t := tcOf s seat
  let s := bump (Reg.MAP_TC_LOOKUPS seat) s
  if tcHas t line then (bump (Reg.MAP_TC_HITS seat) s, true)
  else
    (s |> setTc seat { t with lanes := fset t.lanes (laneFree t) ⟨line, cmd, idx, false⟩ } |> bump (Reg.MAP_TC_MISSES_COUNT seat), false)

/-- A commit writes a line through (R148): an update of a line in the cache, no allocation otherwise, a merge into a fill in flight. -/
def tcWrite (seat : Nat) (line : Option Nat) (s : State) : State :=
  match line with
  | none => s
  | some a =>
    let t := tcOf s seat
    if tcHas t a then bump (Reg.MAP_TC_WRITE_HITS_COUNT seat) s
    else
      let inFlight := t.lanes.any fun e => e.1 < 16 && e.2.line == a
      s |> bump (Reg.MAP_TC_WRITE_MISSES_COUNT seat)
        |> when inFlight (fun s => s |> bump (Reg.MAP_TC_FILL_MERGE_COUNT seat)
          |> setTc seat { t with lanes := fmapV t.lanes fun _ l => if l.line = a then { l with merged := true } else l })

/-- The zero-line operation on every line of a page (R149): the line enters the cache without a fetch. -/
def zeroLines (seat k : Nat) (s : State) : State :=
  foldS (List.range 64) (fun i s => match lineAddr s seat k i with
    | some a => s |> tcInsert seat a |> bump (Reg.MAP_TC_ZERO_LINES_COUNT seat)
    | none => s) s

/-- A page that has never existed is created by the zero-line operation, line by line (R149): 64 lines of zeros. -/
def pageCreate (k : Nat) (s : State) : State :=
  let seat := ownerSeat s (dirOwner k)
  let s := { s with map := { s.map with
      dirs := fset s.map.dirs k ⟨s.map.nextPage, none, true, true, false⟩
      pages := fset s.map.pages s.map.nextPage []
      nextPage := s.map.nextPage + 1 } }
  s |> frameTake seat k |> zeroLines seat k

/-- Directory key of the page that holds a record. -/
def recDir (tenant handle : Nat) : Nat := dirKey (recOwner tenant handle) (handle % 34359738368 / 1024)

/-- The record page of a handle is created when it never existed. -/
def recPage (tenant handle : Nat) (s : State) : State := if fhas s.map.dirs (recDir tenant handle) then s else pageCreate (recDir tenant handle) s

/-- A changed record is written through to its page, which becomes dirty, and to the page's line (R145, R148). -/
def recWrite (k : Nat) (s : State) : State :=
  let handle := k % 1099511627776
  let d := recDir (k / 1099511627776) handle
  let seat := recSeat s k
  { s with map := { s.map with dirs := fmod s.map.dirs d fun x => { x with dirty := true } } }
    |> tcWrite seat (lineAddr s seat d (handle % 34359738368 % 1024 / 16))

/-! ### Shared pages (R186, R359) -/

/-- Show SHARED_PAGE in every directory entry that names a page: 1 exactly while the share count exceeds 1. -/
def refreshShared (page : Nat) (s : State) : State :=
  let b := decide (1 < shareCount s page)
  { s with map := { s.map with dirs := fmapV s.map.dirs fun _ d => if d.page = page then { d with shared := b } else d } }

/-- Tenant that owns an owner's entries: a namespace's, or that of the snapshot's or image's group. -/
def ownerTenant (s : State) (owner : Nat) : Nat :=
  if owner < 4294967296 then (match nsOf s owner with | some n => n.cur.p.tenant | none => fgetD s.map.releasing owner 0)
  else match s.snp.snaps.findSome? fun e => if e.2.owners.contains owner then some e.2.tenant else none with
    | some t => t
    | none => (match s.snp.links.findSome? fun e => if e.2.image.contains owner then fget s.snp.cgs e.2.p.cg else none with
      | some c => c.tenant
      | none => fgetD s.map.releasing owner 0)

/-- Copy-on-write of a shared page before a commit touches it (R186): one reference for each MAPPED entry of the copy, SHARED set in
those entries, the directory entry's SHARED_PAGE clear, and one copy counted (R360). Each record and entry changed is written through
(R148). -/
def pageCow (k : Nat) (s : State) : State :=
  match fget s.map.dirs k with
  | none => s
  | some d =>
    if shareCount s d.page ≤ 1 then s
    else
      let tenant := ownerTenant s (dirOwner k)
      let seat := ownerSeat s (dirOwner k)
      let old := fgetD s.map.pages d.page []
      let r := old.foldl (fun (x : State × FMap MapEnt) e =>
        if entSt e.2 = .mapped then
          let q := incRef (recKey tenant e.2.handle) x.1
          (when (!q.2) (recWrite (recKey tenant e.2.handle)) q.1, fset x.2 e.1 { e.2 with shared := true, pinned := q.2 })
        else (x.1, fset x.2 e.1 e.2)) (s, [])
      let s := r.1
      let s := { s with map := { s.map with
          pages := fset s.map.pages s.map.nextPage r.2
          dirs := fset s.map.dirs k { d with page := s.map.nextPage, shared := false, dirty := true, loc := none }
          nextPage := s.map.nextPage + 1 } }
      let s := foldS (old.filter fun e => entSt e.2 == .mapped) (fun e s => tcWrite seat (lineAddr s seat k (e.1 / 32)) s) s
      s |> refreshShared d.page |> bump Reg.SNP_COW_PAGES_COUNT

/-! ### Delta log (R158, R307) -/

/-- Key of a page's header: the seat that programmed it and its sequence. -/
def headKey (seat seq : Nat) : Nat := seat * 18446744073709551616 + seq

/-- Bytes 0 to 59 of a header as one number, byte 0 lowest (*Page header*, R159). -/
def headBytes (h : PageHead) : Nat :=
  1 + 2 ^ 8 * h.kind + 2 ^ 16 * h.pool + 2 ^ 32 * h.row + 2 ^ 64 * h.mem + 2 ^ 72 * h.seat + 2 ^ 80 * (h.stream % 256) + 2 ^ 88 * h.flags
    + 2 ^ 96 * h.nsid + 2 ^ 128 * h.first + 2 ^ 192 * h.last + 2 ^ 256 * h.ext + 2 ^ 320 * h.seq + 2 ^ 384 * h.count + 2 ^ 416 * h.gen

/-- A header with its kind and nothing else set: mixed. -/
def headOf (kind count : Nat) : PageHead := ⟨kind, 0, 0, 0, 0, 0, 0, 0xFFFFFFFF, 0, 2 ^ 64 - 1, 0, 0, count, 0, 0, false⟩

/-- A header that covers a range of one namespace. -/
def headOver (kind count nsid first last : Nat) : PageHead := { headOf kind count with nsid := nsid, first := first, last := last }

/-- A seat closes a page for program (R159): its header takes the seat's side, the stroke, the generation in force and the seat's next
sequence. -/
def pageClose (seat : Nat) (h : PageHead) (s : State) : State :=
  let q := fgetD s.map.pageSeq seat 1
  let h := { h with seat := seat + 128 * mySide s, ext := s.stk.ext, seq := q, gen := rd s (Reg.MAP_CKPT_GEN_GEN seat) }
  let h := { h with crc := Config.crc32c (headBytes h) }
  { s with map := { s.map with heads := fset s.map.heads (headKey seat q) h, pageSeq := fset s.map.pageSeq seat (q + 1) } }

/-- Pages of a seat that meet a condition are on flash. -/
def headsDone (seat : Nat) (p : PageHead → Bool) (s : State) : State :=
  { s with map := { s.map with heads := fmapV s.map.heads fun _ h => if h.seat % 128 = seat ∧ p h = true then { h with done := true } else h } }

/-! ### Zone segments (R183) -/

/-- The map page and line that hold descriptor `i` of a zone: each zone has 86 pages of 2,048 descriptors. -/
def zoneDir (zk i : Nat) : Nat × Nat := (dirKey (zk / 4294967296) (zk % 4294967296 * 86 + i / pageEnts), i % pageEnts / 32)

/-- Descriptors of a zone that begin at or before an offset. -/
def segRank (z : Zone) (off : Nat) : Nat := countWhere z.segs fun _ o => decide (o ≤ off)

/-- Set a zone's descriptors: the page of the descriptor at `off` exists, becomes dirty, and its line is written through (R148, R183). -/
def segsSet (zk off : Nat) (z : Zone) (s : State) : State :=
  let d := zoneDir zk (segRank z off - 1)
  let seat := ownerSeat s (dirOwner d.1)
  let s := if fhas s.map.dirs d.1 then s else pageCreate d.1 s
  { s with map := { s.map with zones := fset s.map.zones zk z, dirs := fmod s.map.dirs d.1 fun x => { x with dirty := true } } }
    |> tcWrite seat (lineAddr s seat d.1 d.2)

/-- Bytes of the records of a buffer. -/
def dlogSize (l : List Delta) : Nat := (l.map dlogBytes).sum

/-- Change a seat's dirty data (R133). -/
def dirtyAdd (seat n : Nat) (s : State) : State :=
  { s with ing := { s.ing with dirty := fset s.ing.dirty seat (dirtyData s seat + n) } }

/-- Lower a seat's dirty data. -/
def dirtySub (seat n : Nat) (s : State) : State :=
  { s with ing := { s.ing with dirty := fset s.ing.dirty seat (dirtyData s seat - n) } }

/-- Close a seat's delta log buffer into a page (R158, R159). -/
def dlogClose (seat : Nat) (s : State) : State :=
  match fgetD s.map.dbuf seat [] with
  | [] => s
  | l =>
    let q := rd s (Reg.MAP_DLOG_SEQ seat)
    { s with map := { s.map with dbuf := fdel s.map.dbuf seat, dlog := s.map.dlog ++ [⟨seat, q, l.reverse, false⟩] } }
      |> pageClose seat { headOf 5 l.length with flags := if 16384 ≤ dlogSize l then 0 else 1 }
      |> wr (Reg.MAP_DLOG_SEQ seat) (q + 1)

/-- Append a record to a seat's delta log buffer: dirty until its page is programmed (R133). A buffer that cannot take it closes first, and
one that is full with it closes at once (R158). -/
def dlogAdd (seat : Nat) (d : Delta) (s : State) : State :=
  let l := fgetD s.map.dbuf seat []
  let s := if 16384 < dlogSize l + dlogBytes d then dlogClose seat s else s
  let l := d :: fgetD s.map.dbuf seat []
  { s with map := { s.map with dbuf := fset s.map.dbuf seat l } } |> dirtyAdd seat (dlogBytes d)
    |> when (decide (16384 < dlogSize l + 32)) (dlogClose seat)

/-- A delta with its fields and nothing else set. -/
def delta (kind : DKind) (nsid lba value replay : Nat) : Delta := ⟨kind, false, false, 0, nsid, replay, lba, value, none, 0, 0, none⟩

/-! ### Commits (R128, R148, R153, R155 to R157) -/

/-- Commit an entry as a function of the entry before it (R148, R156): the page exists and is the owner's own, the tag advances by 1, the
LBA leaves the lost-extent list (R237). With `gives`, the entry before gives up its reference, and one that awaited release no longer
does (R181). -/
def commitEntWith (owner lba : Nat) (f : MapEnt → MapEnt) (gives : Bool) (s : State) : State :=
  let k := dirKey owner (lba / pageEnts)
  let s := if fhas s.map.dirs k then s else pageCreate k s
  let s := pageCow k s
  let tenant := ownerTenant s owner
  let old := entAt s owner lba
  match fget s.map.dirs k with
  | none => s
  | some d =>
    let seat := ownerSeat s owner
    let e := { f old with replay := (old.replay + 1) % 65536, spare := 0 }
    let lk := lbaKey owner lba
    let held := (entSt old == .mapped || entSt old == .dealloc) && !old.pinned
    let waited := gives && entSt old == .dealloc && decide (owner < 4294967296)
    { s with map := { s.map with
        pages := fset s.map.pages d.page (fset (fgetD s.map.pages d.page []) (lba % pageEnts) e)
        dirs := fset s.map.dirs k { d with dirty := true, resident := true }
        since := fset s.map.since lk (fgetD s.map.since lk 0 + 1)
        backlog := if waited then fset s.map.backlog seat (fgetD s.map.backlog seat 0 - 1) else s.map.backlog
        lost := fdel s.map.lost lk } }
      |> frameTake seat k
      |> (fun s => tcWrite seat (lineAddr s seat k (lba % pageEnts / 32)) s)
      |> when (gives && held) (fun s => s |> entRelease tenant old |> recWrite (recKey tenant old.handle))

/-- Commit a new entry over the one before it. -/
def commitEnt (owner lba : Nat) (new : MapEnt) (s : State) : State := commitEntWith owner lba (fun _ => new) true s

/-- Deallocate an LBA whose entry is MAPPED (R179): the entry keeps its reference, and awaits release (R181). -/
def commitDealloc (owner lba : Nat) (s : State) : State :=
  if entSt (entAt s owner lba) = .mapped then
    let seat := ownerSeat s owner
    let s := commitEntWith owner lba (fun e => { e with dealloc := true }) false s
    { s with map := { s.map with backlog := fset s.map.backlog seat (fgetD s.map.backlog seat 0 + 1) } }
  else s

/-- A commit of this entry would advance its tag by more than 16,383 beyond the last checkpoint stroke (R157). -/
def tagThrottled (s : State) (nsid lba : Nat) : Bool := decide (16383 ≤ fgetD s.map.since (lbaKey nsid lba) 0)

/-- Commit one record of a write's group on its namespace's home seat, with its delta log record (R128, R153, R158). -/
def commitDelta (owner tenant : Nat) (d : Delta) (s : State) : State :=
  let seat := ownerSeat s owner
  match d.kind with
  | .extent =>
    let h := d.value
    let s := match d.record with
      | some r => s |> recPage tenant h |> setRec (recKey tenant h) { r with refs := 1, holds := 0 } |> recWrite (recKey tenant h)
      | none => s
    let s := commitEnt owner d.lba ⟨h, false, false, false, false, 0, 0⟩ s
    dlogAdd seat { d with replay := (entAt s owner d.lba).replay, ext := none } s
  | .ref =>
    let k := recKey tenant d.value
    let r := incRef k s
    let s := r.1 |> releaseHold k |> recWrite k
    let s := commitEnt owner d.lba ⟨d.value, false, false, true, r.2, 0, 0⟩ s
    dlogAdd seat { d with replay := (entAt s owner d.lba).replay } s
  | .zero =>
    let s := commitEnt owner d.lba ⟨0, true, false, false, false, 0, 0⟩ s
    dlogAdd seat { d with replay := (entAt s owner d.lba).replay } s
  | .dealloc =>
    let tag := ((entAt s owner d.lba).replay + 1) % 65536
    let s := foldS (List.range d.value) (fun i s => commitDealloc owner (d.lba + i) s) s
    dlogAdd seat { d with replay := tag } s
  | _ => dlogAdd seat d s

end Sys2Proof.Machine
end

