-- ==== Sys2Proof/Machine/ParOps.lean ====
section
/-!
DEFINITION. Machine/ParOps.lean: groups, bands, rows and shares: opening a row, appending an extent, sealing, programming, writing again,
losing a share, taking a rebuild target (R122 to R125, R144, R167 to R178, R210 to R238).
-/

namespace Sys2Proof.Machine

/-! ### Names -/

/-- Placement streams (R123). -/
def streamHot : Nat := 0
/-- COLD. -/
def streamCold : Nat := 1
/-- An FDP reclaim unit handle. -/
def streamFdp (ruh : Nat) : Nat := 2 + 4 * ruh
/-- A zone of a namespace. -/
def streamZone (nsid zone : Nat) : Nat := 3 + 4 * (nsid * 4294967296 + zone)

/-- Change a group. -/
def groupMod (pool : Nat) (f : Group → Group) (s : State) : State := { s with par := { s.par with groups := fmod s.par.groups pool f } }

/-- Members of a geometry (R210). -/
def geomW (x : Geom) : Nat := x.k + x.m

/-- A geometry of a group. -/
def geomOf (g : Group) (i : Nat) : Geom := fgetD g.geoms i ⟨0, 0, []⟩

/-- The band of a row, and its page in the band's blocks (R218). -/
def bandOf (g : Group) (row : Nat) : Nat := row / max 1 g.pages

/-- Page index of a row. -/
def pageOf (g : Group) (row : Nat) : Nat := row % max 1 g.pages

/-- Rows a band holds: the pages of a block in the band's cell mode (R218). -/
def bandRows (g : Group) (b : Band) : Nat := if b.slc then g.slcPages else g.pages

/-- The member that holds a symbol of a row (R219). -/
def memberOf (row sym w : Nat) : Nat := (sym + row) % max 1 w

/-- The symbol that a member of a row holds. -/
def symOf (row member w : Nat) : Nat := (member + (w - row % max 1 w)) % max 1 w

/-- The rebuild of a lost share. -/
def rebuildOf (g : Group) (sh : Share) : Option Rebuild := g.rebuilds.find? fun r => r.slot == sh.slot && r.idx == sh.idx

/-- The share that holds a member of a band: the geometry's own, the rebuild target where the target holds the band, or none (R224,
R235). -/
def memberShare (g : Group) (b : Band) (m : Nat) : Option Share :=
  match (geomOf g b.geom).shares[m]? with
  | none => none
  | some sh =>
    if !sh.lost then some sh
    else if b.onTarget.contains m then
      (match rebuildOf g sh with
       | some r => if r.target.lost then none else some r.target
       | none => none)
    else none

/-- Members of a band that no share holds. -/
def missing (g : Group) (b : Band) : List Nat := (List.range (geomW (geomOf g b.geom))).filter fun m => (memberShare g b m).isNone

/-- Where a member's pages lie through the band table (R177, R222): slot, die, block and page. -/
def memberBlock (g : Group) (row m : Nat) : Option (Nat × Nat × Nat × Nat) :=
  match fget g.bands (bandOf g row) with
  | none => none
  | some b => (match memberShare g b m, b.blocks[m]? with
    | some sh, some (d, k) => some (sh.slot, d, k, pageOf g row)
    | _, _ => none)

/-- Where a member of a row lies now: through the band table, or still on the retired block until its copy on the spare is programmed
(R177). -/
def memberPage (g : Group) (row m : Nat) : Option (Nat × Nat × Nat × Nat) :=
  match fget g.salvage (pairKey row m) with
  | some (d, k) => (memberBlock g row m).map fun p => (p.1, d, k, p.2.2.2)
  | none => memberBlock g row m

/-- The seat on whose oar port a member of a row hangs. -/
def memberSeat (g : Group) (row m : Nat) : Option Nat := (memberPage g row m).map fun p => slotSeat p.1

/-- The keel carries bytes of a member's page to a seat, or from it (R14, R24). -/
def memberKeel (pool row m seat cls bytes : Nat) (out : Bool) (s : State) : State :=
  match (groupOf s pool).bind fun g => memberSeat g row m with
  | some n => if out then keelSend seat n cls bytes s else keelSend n seat cls bytes s
  | none => s

/-- The parity of a row agrees with its data (R215, R219): `pages` holds the bytes of its members in member order. -/
def parityAgrees (k m row : Nat) (pages : List (List Nat)) : Bool :=
  let sym := fun s => pages.getD (memberOf row s (k + m)) []
  (List.range m).all fun i => parityPage i ((List.range k).map sym) == sym (k + i)

/-- Extents that lie in a row, by address. -/
def rowExts (s : State) (pool row : Nat) : FMap Ext := fkeep s.par.exts fun _ e => e.pool == pool && e.row == row

/-- Bytes of the extents of a row. -/
def rowBytes (s : State) (pool row : Nat) : Nat := (rowExts s pool row).foldl (fun n e => n + 16 * e.2.length) 0

/-- A row that is not free, and not yet programmed on every member. -/
def rowUnsettled (r : Row) : Bool := r.st == .opened || r.st == .closed

/-- A region of a pool is dirty (R225): a row in it is open, or sealed and not yet programmed on every member. -/
def regionDirty (g : Group) (region : Nat) : Bool := g.rows.any fun e => e.1 / 16384 == region && rowUnsettled e.2

/-! ### Validity and moves (R170, R222) -/

/-- A group not yet accepted holds the extent at this address (log entry 40). -/
def extPending (s : State) (a : Nat) : Bool :=
  s.ing.grps.any fun g => g.2.recs.any fun d => d.kind == .extent && (match d.record with | some r => r.extent == a | none => false)

/-- A zone's descriptors after the extent at an offset has moved to another page (R183; log entry 44): the offset gets a descriptor of its
own, and the offsets after it keep the old page. -/
def segMove (segs : List (Nat × Nat)) (off new : Nat) : List (Nat × Nat) :=
  let old := segPage segs off
  let l := segs.filter fun d => d.2 != off
  let l := if l.any fun d => d.2 == off + 1 then l else match old with | some p => l ++ [(p, off + 1)] | none => l
  (l ++ [(new, off)]).mergeSort fun a b => a.2 ≤ b.2

/-- A record moves to a new address if it still names the old one; otherwise the move is dropped and counted (R170). The MOVE is
logged on the record's home seat, and the old row waits for its page (R173). A rekey writes KEY_GEN with EXTENT, and its MOVE carries the
new generation (R394). -/
def moveExtAs (gen : Option Nat) (old new : Nat) (e : Ext) (s : State) : State :=
  let k := recKey e.tenant e.handle
  let seat := recSeat s k
  if e.handle % 34359738368 = 0 ∧ extLive s old e = true then
    match zoneOf s e.nsid e.lba with
    | some (zk, z, off) => segsSet zk off { z with segs := segMove z.segs off (new / 1024) } s
    | none => s
  else if extLive s old e then
    let s := match fget s.map.recs k with
      | some r => setRec k { r with extent := new, keyGen := gen.getD r.keyGen } s
      | none => s
    let q := rd s (Reg.MAP_DLOG_SEQ seat)
    s |> recWrite k |> dlogAdd seat { delta .move e.nsid e.lba e.handle 0 with
        new := new, old := old, record := match gen with | some _ => fget s.map.recs k | none => none }
      |> rowMod e.pool e.row (fun r => { r with moves := fset r.moves seat (max q (rd s (Reg.MAP_DLOG_SEQ seat))) })
  else if extPending s old then
    { s with ing := { s.ing with grps := fmapV s.ing.grps fun _ g => { g with recs := g.recs.map fun d =>
        match d.record with
        | some r => if d.kind = .extent ∧ r.extent = old then { d with record := some { r with extent := new } } else d
        | none => d } } }
  else bump (Reg.MAP_MOVE_DROPPED_COUNT seat) s

/-- A copy moves a record (R170). -/
def moveExt (old new : Nat) (e : Ext) (s : State) : State := moveExtAs none old new e s

/-! ### Free rows and bands (R167, R218, R240) -/

/-- The lowest number from `n` that is no key of a table. -/
def firstGap {V : Type} : FMap V → Nat → Nat
  | [], n => n
  | (a, _) :: t, n => if a < n then firstGap t n else if a = n then firstGap t (n + 1) else n

/-- The highest number below `n` that is no key of a table given highest first. -/
def lastGap {V : Type} : List (Nat × V) → Nat → Option Nat
  | [], n => if n = 0 then none else some (n - 1)
  | (a, _) :: t, n => if n ≤ a then lastGap t n else if a + 1 = n then lastGap t a else (if n = 0 then none else some (n - 1))

/-- Bands of a pool. -/
def bandCount (g : Group) : Nat := g.blocks * g.dies

/-- The walk of a reshape concerns this pool. -/
def reshaping (s : State) (pool : Nat) : Bool :=
  s.par.reshape.pool == pool &&
    (s.par.reshape.st == .forward || s.par.reshape.st == .reverse || s.par.reshape.st == .waiting)

/-- The free band that a new row takes: during a walk as R240 states, otherwise the lowest-numbered (log entry 41). -/
def freeBand (s : State) (pool : Nat) (g : Group) : Option Nat :=
  let low := firstGap g.bands 0
  let lowest := if low < bandCount g then some low else none
  if reshaping s pool then
    let edge := bandOf g s.par.reshape.boundary
    if s.par.reshape.reverse then
      let ahead := firstGap g.bands (edge + 1)
      if ahead < bandCount g then some ahead else lowest
    else if low < edge then some low
    else lastGap g.bands.reverse (bandCount g)
  else lowest

/-- Rows of the SLC cache in use, and how many it may hold (R175, R176): its share of the blocks, each with the pages of SLC mode. -/
def slcRows (g : Group) : Nat := countWhere g.rows fun _ r => r.slc

/-- Rows that the SLC cache may hold. -/
def slcLimit (g : Group) : Nat := bandCount g * g.slcSize / 10000000 * g.slcPages

/-- The SLC cache occupies more than 75 % of its size (R176). -/
def slcOver (g : Group) : Bool := decide (3 * slcLimit g < 4 * slcRows g)

/-- Rows of a pool that a secure discard still has to collect. -/
def discardRows (s : State) (pool : Nat) : List Nat :=
  match s.map.discard with
  | some d => (d.rows.filter fun k => keyHi k == pool).map keyLo
  | none => []

/-- The band of this seat and stream that has a row left, in the geometry of new rows, that includes every rebuild target (R218, R232) and
that no secure discard is about to erase (R182). -/
def bandWithRoom (s : State) (pool : Nat) (g : Group) (seat stream : Nat) (slc : Bool) : Option Nat :=
  let gone := (discardRows s pool).map (bandOf g)
  (g.bands.find? fun e =>
    let b := e.2
    b.seat == seat && b.stream == stream && b.slc == slc && b.geom == g.cur && decide (b.used < bandRows g b) && !gone.contains e.1 &&
      ((List.range (geomW (curGeom g))).all fun m => (match (curGeom g).shares[m]? with
        | some sh => !sh.lost || (rebuildOf g sh).isNone || b.onTarget.contains m
        | none => true))).map Prod.fst

/-- A new band of the geometry of new rows: on each member, the block that its number names (log entry 42). -/
def newBand (g : Group) (n seat stream : Nat) (slc : Bool) : Band :=
  let x := curGeom g
  let on := (List.range (geomW x)).filter fun m => (match x.shares[m]? with | some sh => sh.lost && (rebuildOf g sh).isSome | none => false)
  ⟨g.cur, x.shares.map (fun sh =>
      let d := match sh.lost, rebuildOf g sh with
        | true, some r => r.target.die
        | _, _ => sh.die
      (d + n % max 1 g.dies, n / max 1 g.dies)),
    seat, stream, slc, if n = 0 then 1 else 0, on⟩

/-- Free rows that a row open may take: host streams leave the reserve (R167). -/
def rowsLeft (s : State) (seat : Nat) (g : Group) (host : Bool) : Bool :=
  decide ((if host then rd s (Reg.MAP_GC_RESERVE_ROWS seat) else 0) < freeRows g)

/-! ### Sealing and programming (R220, R221, R224) -/

/-- A member page of a row closes for program under its header (R159): the range of its extents where they are of one namespace. -/
def rowHead (pool row m : Nat) (s : State) : State :=
  match groupOf s pool, rowOf s pool row with
  | some g, some r =>
    let x : Geom := geomOf g r.geom
    let sym : Nat := symOf row m (geomW x)
    let es : List Ext := (fkeep (rowExts s pool row) fun _ e => e.sym == sym).map Prod.snd
    let h := match es with
      | e :: t => if t.all fun y => y.nsid == e.nsid then
            headOver 1 es.length e.nsid (t.foldl (fun (n : Nat) (y : Ext) => min n y.lba) e.lba)
              (t.foldl (fun (n : Nat) (y : Ext) => max n y.lba) e.lba)
          else headOf 1 es.length
      | [] => headOf 1 0
    pageClose r.seat { h with
      pool := pool, row := row, mem := m, stream := r.stream
      flags := b2n (decide (sym < x.k) && (es.foldl (fun (n : Nat) (e : Ext) => n + e.length) 0 != 1024)) + 2 * b2n (decide (x.k ≤ sym)) } s
  | _, _ => s

/-- Program a member page of a row at a place: its header, its bytes over the keel, its command (R159, R220). -/
def pageProgram (pool row m : Nat) (use : NandUse) (s : State) : State :=
  match groupOf s pool, rowOf s pool row with
  | some g, some r => (match memberBlock g row m with
    | some (slot, die, block, page) => s |> rowHead pool row m |> keelSend r.seat (slotSeat slot) keelWrite 16384
        |> nandIssue slot { nandCmd opProgram die block page use with slc := r.slc }
    | none => s)
  | _, _ => s

/-- Send a row's member pages: each to its blade, or nowhere where no share holds the member; a restarting share's page is written
when it has caught up (R555). -/
def rowSend (pool row : Nat) (s : State) : State :=
  match groupOf s pool with
  | none => s
  | some g => (match fget g.rows row, fget g.bands (bandOf g row) with
    | some _, some b =>
      let w := geomW (geomOf g b.geom)
      foldS (List.range w) (fun m s =>
        match memberShare g b m with
        | some sh =>
          if sh.restarting then
            { s with upd := { s.upd with restarts := fmod s.upd.restarts sh.slot fun x => { x with missed := x.missed ++ [pairKey pool row] } } }
          else pageProgram pool row m (.program pool row m) s
        | none => s) s
    | _, _ => s)

/-- Members of a row that can be read: on a share that holds them, not written as erasures, not lost. -/
def aliveMembers (g : Group) (row : Nat) : List Nat :=
  match fget g.bands (bandOf g row), fget g.rows row with
  | some b, some r => (List.range (geomW (geomOf g b.geom))).filter fun m =>
      (match memberShare g b m with | some sh => !sh.restarting | none => false) && !r.erased.contains m &&
        !(fgetD g.lostRows row []).contains m
  | _, _ => []

/-- Data members a row needs. -/
def rowK (g : Group) (row : Nat) : Nat := match fget g.rows row with | some r => (geomOf g r.geom).k | none => 0

/-! ### Reconstruction (R216) and lost rows (R236 to R238) -/

/-- Key of an inverted submatrix (R216): the geometry, and the symbols of the first k of the members that survive. -/
def inverseKey (x : Geom) (row : Nat) (use : List Nat) : List Nat := x.k :: x.m :: (use.take x.k).map fun m => symOf row m (geomW x)

/-- A seat's parity engine uses an inverted submatrix (R216): a hit or a miss; the cache keeps the 64 used last. -/
def inverseUse (seat : Nat) (key : List Nat) (s : State) : State :=
  let l := fgetD s.par.inverses seat []
  let s := if l.contains key then bump (Reg.PAR_INV_HITS_COUNT seat) s else bump (Reg.PAR_INV_MISSES_COUNT seat) s
  { s with par := { s.par with inverses := fset s.par.inverses seat ((key :: l.filter (· != key)).take 64) } }

/-- A row's members `ms` are reconstructed on a seat (R216): from the first k others that can be read. -/
def rowDecode (pool : Nat) (g : Group) (row : Nat) (ms : List Nat) (seat : Nat) (s : State) : State :=
  let x := match fget g.rows row with | some r => r.geom | none => g.cur
  let use := ((aliveMembers g row).filter fun m => !ms.contains m).take (rowK g row)
  s |> foldS use (fun m s => memberKeel pool row m seat keelBack 16384 false s) |> foldS ms (fun m s => memberKeel pool row m seat keelBack 16384 true s)
    |> inverseUse seat (inverseKey (geomOf g x) row use) |> bumpN (Reg.PAR_DEC_BYTES seat) (16384 * rowK g row)

/-- Record a row as lost on members (R236, R238): its other extents are queued for relocation; a full table fails the pool. -/
def rowLost (pool row : Nat) (members : List Nat) (s : State) : State :=
  match groupOf s pool with
  | none => s
  | some g =>
    if members = [] then s
    else if fhas g.lostRows row ∨ g.lostRows.length < 65536 then
      s |> groupMod pool (fun g => { g with lostRows := fset g.lostRows row ((fgetD g.lostRows row []) ++ members.filter fun m => !(fgetD g.lostRows row []).contains m) })
        |> rowMod pool row (fun r => { r with ahead := true })
    else if g.failed then s
    else s |> groupMod pool (fun g => { g with failed := true }) |> coxRaise

/-- The member that holds an extent. -/
def extMember (g : Group) (e : Ext) : Nat := memberOf e.row e.sym (geomW (geomOf g (match fget g.rows e.row with | some r => r.geom | none => g.cur)))

/-- An extent lies on an unrecoverable member of a lost row (R237). -/
def extLost (s : State) (e : Ext) : Bool :=
  match groupOf s e.pool with
  | some g => (fgetD g.lostRows e.row []).contains (extMember g e)
  | none => false

/-- Members of a row that no share holds, or that are erasures. -/
def rowGone (g : Group) (b : Band) (row : Nat) (r : Row) : Nat :=
  ((List.range (geomW (geomOf g b.geom))).filter fun m =>
    (memberShare g b m).isNone || r.erased.contains m || (fgetD g.lostRows row []).contains m).length

/-- A programmed row with more members gone than its parity covers is recorded as lost on them (R28, R236). -/
def rowLossCheck (pool row : Nat) (s : State) : State :=
  match groupOf s pool with
  | none => s
  | some g => (match fget g.rows row, fget g.bands (bandOf g row) with
    | some r, some b =>
      let gone := (List.range (geomW (geomOf g b.geom))).filter fun m => (memberShare g b m).isNone || r.erased.contains m
      if r.st = .programmed ∧ !r.rewrite ∧ (geomOf g b.geom).m < gone.length then rowLost pool row gone s else s
    | _, _ => s)

/-- The reference tags of a copy disagree (R230): counted; the member counts as an erasure and the row is reconstructed, or, with too few
members left, is lost on it. The answer says whether the extent can still be copied. -/
def tagMismatch (pool : Nat) (g : Group) (e : Ext) (s : State) : Bool × State :=
  let seat := match fget g.rows e.row with | some r => r.seat | none => 0
  let s := bump (Reg.PAR_TAG_MISMATCH_COUNT seat) s
  let m := extMember g e
  if rowK g e.row ≤ ((aliveMembers g e.row).filter (· != m)).length then (true, s) else (false, rowLost pool e.row [m] s)

/-! ### Programming -/

/-- A row has programmed on every member (R220): its extents and its pad are no longer dirty (R133) unless it must be written again (R222), its DRAM copy may go unless reads
of it are in flight (R191), and the peer is to be told (R307). -/
def rowProgrammed (pool row : Nat) (s : State) : State :=
  match rowOf s pool row with
  | none => s
  | some r =>
    if r.st = .closed ∧ r.left = [] then
      let s := s |> rowMod pool row (fun r => { r with st := .programmed, dram := r.rewrite || decide (0 < r.readers) })
        |> when (!r.rewrite) (dirtySub r.seat (rowBytes s pool row + r.pad)) |> rowLossCheck pool row
      if hasSession s then { s with map := { s.map with progRows := s.map.progRows ++ [(pool, row)] } } else s
    else s

/-- A member of a row has programmed, or is left out. -/
def memberDone (pool row m : Nat) (s : State) : State :=
  s |> rowMod pool row (fun r => { r with left := r.left.filter (· != m) }) |> rowProgrammed pool row

/-- A member page of a row is on flash (R159, R220). -/
def memberOnFlash (pool row m : Nat) (s : State) : State :=
  { s with map := { s.map with heads := fmapV s.map.heads fun _ h =>
      if h.kind = 1 ∧ h.pool = pool ∧ h.row = row ∧ h.mem = m then { h with done := true } else h } } |> memberDone pool row m

/-- A page of a zone's stream closes: the home seat logs a ZONE_PAGE delta (R183). -/
def zonePageLog (pool row sym : Nat) (s : State) : State :=
  match rowOf s pool row, (rowExts s pool row).filter fun e => e.2.sym == sym with
  | some r, e :: _ => dlogAdd r.seat (delta .zonePage e.2.nsid e.2.lba (e.1 / 1024) 0) s
  | _, _ => s

/-- Seal a row (R220): fill it, compute parity, send its members. An early seal counts its pad as dirty data (R125, R133). -/
def rowClose (pool row : Nat) (early : Bool) (s : State) : State :=
  match groupOf s pool with
  | none => s
  | some g => (match fget g.rows row, fget g.bands (bandOf g row) with
    | some r, some b =>
      if r.st = .opened then
        let x := geomOf g b.geom
        let w := geomW x
        let ok := (List.range w).filter fun m => (match memberShare g b m with | some sh => !sh.restarting | none => false)
        let no := (List.range w).filter fun m => !ok.contains m
        let s := if r.stream % 4 = 3 then zonePageLog pool row r.page s else s
        let pad := if early then 16 * (1024 * (x.k - r.page) - r.fill) else 0
        s |> rowMod pool row (fun r => { r with st := .closed, sealedAt := s.stk.ext, left := ok, erased := no, pad := pad })
          |> when early (fun s => s |> bump (Reg.CAT_EARLY_SEAL_COUNT r.seat) |> dirtyAdd r.seat pad)
          |> bumpN (Reg.PAR_ENC_BYTES r.seat) (16384 * x.k)
          |> rowSend pool row
          |> rowProgrammed pool row
      else s
    | _, _ => s)

/-- A seat's open row with the longest time since its last append (R125). -/
def oldestOpen (s : State) (seat : Nat) : Option (Nat × Nat) :=
  (s.par.groups.foldl (fun best g => g.2.rows.foldl (fun (best : Option (Nat × Nat × Nat)) r =>
    if r.2.seat == seat && r.2.st == .opened then
      match best with
      | some b => if r.2.order < b.2.2 then some (g.1, r.1, r.2.order) else best
      | none => some (g.1, r.1, r.2.order)
    else best) best) none).map fun b => (b.1, b.2.1)

/-- Limit of open rows in force (CAT_OPEN_ROWS.MAX): 16 to 4,096. -/
def openMax (s : State) (seat : Nat) : Nat := min 4096 (max 16 (rd s (Reg.CAT_OPEN_ROWS_MAX seat)))

/-- PKG_DURABILITY.REDUNDANT (R29): every group that holds data is HEALTHY or DEGRADED (R214). Evaluated wherever a group's state changes, where it
starts or stops holding data, and at every stroke edge. -/
def redundancy (s : State) : State :=
  durability Reg.PKG_DURABILITY_REDUNDANT
    (s.par.groups.all fun e => decide (groupState e.2 ≤ 2) || !(e.2.rows.any fun r => r.2.st != .freed)) s

/-- Open a row for a seat's stream (R125, R167, R176, R218, R226); none when no row may be taken. `host` streams leave the reserve; `native`
keeps the row out of the SLC cache. -/
def rowOpen (pool seat stream : Nat) (host native : Bool) (s : State) : Option Nat × State :=
  let s := foldS (List.range (openRows s seat + 1 - openMax s seat)) (fun _ s => match oldestOpen s seat with
    | some (p, r) => rowClose p r true s
    | none => s) s
  match groupOf s pool with
  | none => (none, s)
  | some g =>
    if !rowsLeft s seat g host then (none, s)
    else
      let slc := stream == streamHot && !native && decide (slcRows g < slcLimit g)
      let got : Option (Nat × Group) := match bandWithRoom s pool g seat stream slc with
        | some n => some (n, g)
        | none => (freeBand s pool g).map fun n => (n, { g with bands := fset g.bands n (newBand g n seat stream slc) })
      match got with
      | none => (none, s)
      | some (n, g) => (match fget g.bands n with
        | none => (none, s)
        | some b =>
          let row := n * g.pages + b.used
          let set := !regionDirty g (row / 16384)
          let r : Row := ⟨.opened, seat, stream, slc, g.cur, 0, 0, s.stk.ext, 0, [], [], 0, true, 0, s.ing.appends, [], false, false, false, false, false⟩
          let g := { g with bands := fset g.bands n { b with used := b.used + 1 }, rows := fset g.rows row r }
          (some row, { s with par := { s.par with groups := fset s.par.groups pool g } }
            |> when set (bump (Reg.PAR_DIRTY_SET_COUNT seat))
            |> dlogAdd seat (delta .rowOpen pool row stream 0) |> redundancy))

/-- The open row of a seat's stream. -/
def openRow (s : State) (pool seat stream : Nat) : Option Nat :=
  match groupOf s pool with
  | none => none
  | some g => (g.rows.find? fun e => e.2.st == .opened && e.2.seat == seat && e.2.stream == stream).map Prod.fst

/-- The open row that an append takes: an extent relocated from an SLC row goes to a native row (R176). -/
def appendRow (s : State) (pool seat stream : Nat) (native : Bool) : Option Nat :=
  if !native then openRow s pool seat stream
  else match groupOf s pool with
    | none => none
    | some g => (g.rows.find? fun e => e.2.st == .opened && e.2.seat == seat && e.2.stream == stream && !e.2.slc).map Prod.fst

/-- Place an extent at a symbol and offset of an open row (R122): its address is fixed, its bytes become dirty data (R133). -/
def extPlace (pool row sym off : Nat) (e : Ext) (s : State) : Option Nat × State :=
  match groupOf s pool with
  | none => (none, s)
  | some g => (match fget g.bands (bandOf g row), fget g.rows row with
    | some b, some r =>
      let x := geomOf g b.geom
      let m := memberOf row sym (geomW x)
      let slot := match memberShare g b m with | some sh => sh.slot | none => ((x.shares[m]?).map (·.slot)).getD 0
      let db := (b.blocks[m]?).getD (0, 0)
      let a := mkAddr slot db.1 db.2 (pageOf g row) off
      let fill := off + e.length
      let s := if r.stream % 4 = 3 ∧ off = 0 ∧ 0 < sym then zonePageLog pool row (sym - 1) s else s
      let s := { s with
          par := { s.par with exts := fset s.par.exts a { e with pool := pool, row := row, sym := sym, appended := s.stk.ext } }
          ing := { s.ing with appends := s.ing.appends + 1 } }
        |> rowMod pool row (fun r => { r with page := sym, fill := fill, lastAppend := s.stk.ext, order := s.ing.appends + 1 })
        |> dirtyAdd r.seat (16 * e.length)
      (some a, if sym + 1 = x.k ∧ fill = 1024 then rowClose pool row false s else s)
    | _, _ => (none, s))

/-- Append an extent to a seat's stream (R122, R123): in the page, in the next page, or in a new row. None when no row is to be had. -/
def extAppend (pool seat stream : Nat) (host native : Bool) (e : Ext) (s : State) : Option Nat × State :=
  let fresh := fun (s : State) =>
    match rowOpen pool seat stream host native s with
    | (some row, s) => extPlace pool row 0 0 e s
    | (none, s) => (none, s)
  match appendRow s pool seat stream native, groupOf s pool with
  | some row, some g => (match fget g.rows row with
    | some r =>
      if r.fill + e.length ≤ 1024 then extPlace pool row r.page r.fill e s
      else if r.page + 1 < (geomOf g r.geom).k then extPlace pool row (r.page + 1) 0 e s
      else fresh (rowClose pool row false s)
    | none => (none, s))
  | _, _ => fresh s

/-! ### Copies, rewrites and retired blocks (R169, R177, R222) -/

/-- The stream that a relocated extent takes (R169): its own handle's or zone's, COLD, or by its age. -/
def moveStream (s : State) (g : Group) (seat : Nat) (r : Row) (e : Ext) : Nat :=
  if 2 ≤ r.stream % 4 then r.stream
  else if g.ageGrouped && decide (s.stk.ext - e.sealedAt < rd s (Reg.MAP_GC_COLD_AGE_STROKES seat)) then streamHot else streamCold

/-- An extent of a row that collection copies: valid, or of a group not yet accepted (log entry 40), and not lost (R170, R237). -/
def extMovable (s : State) (a : Nat) (e : Ext) : Bool := (extLive s a e || extPending s a) && !extLost s e

/-- Extents of a row that collection copies. -/
def rowMovable (s : State) (pool row : Nat) : FMap Ext := fkeep (rowExts s pool row) fun a e => extMovable s a e

/-- The bytes of an extent to be copied reach its seat (R24, R241): over the keel from the seat that serves its member, or reconstructed where
that member cannot be read. -/
def extFetch (pool : Nat) (g : Group) (r : Row) (e : Ext) (s : State) : State :=
  let m := extMember g e
  if r.dram || (aliveMembers g e.row).contains m then memberKeel pool e.row m r.seat keelBack (16 * e.length) false s
  else rowDecode pool g e.row [m] r.seat s

/-- Copy one valid extent of a row into an open row and commit its MOVE (R170, R222); an extent that no record and no group names is
left where it is. The answer says whether a row was to be had. -/
def extMove (pool a : Nat) (s : State) : Bool × State :=
  match fget s.par.exts a, groupOf s pool with
  | some e, some g =>
    if extLive s a e || extPending s a then
      match rowOf s pool e.row with
      | none => (true, s)
      | some r => (match extAppend pool r.seat (moveStream s g r.seat r e) false r.slc e s with
        | (some new, s) => (true, s |> extFetch pool g r e |> moveExt a new e |> groupMod pool (fun g => { g with gcMoved := g.gcMoved + 16 * e.length }))
        | (none, s) => (false, s))
    else (true, s)
  | _, _ => (true, s)

/-- Write a failed row again as a new row (R222): every live extent is copied and moved; where no row is to be had the rewrite waits, the
DRAM copy is kept and the row's bytes stay dirty. -/
def rowRewrite (pool row : Nat) (s : State) : State :=
  let r := (rowExts s pool row).foldl (fun (x : Bool × State) e =>
    if x.1 then extMove pool e.1 x.2 else x) (true, s)
  match r.1, rowOf r.2 pool row with
  | true, some x => r.2 |> rowMod pool row (fun r => { r with rewrite := false, dram := r.st != .programmed || decide (0 < r.readers) })
      |> when (x.rewrite && x.st == .programmed) (dirtySub x.seat (rowBytes r.2 pool row + x.pad))
  | _, _ => rowMod pool row (fun r => { r with rewrite := true, dram := true }) r.2

/-- Rewrites that wait for a row try again, lowest row first. -/
def rewritesRetry (pool : Nat) (s : State) : State :=
  match groupOf s pool with
  | none => s
  | some g => foldS (g.rows.filter fun e => e.2.rewrite) (fun e s => rowRewrite pool e.1 s) s

/-- The number of a block in the retired list. -/
def blockNum (slot die block : Nat) : Nat := (slot * 1024 + die) * 16384 + block

/-- Blocks of a die of a slot that carry its share's bands: those after them are spares (R177). -/
def dieBlocks (s : State) (slot die : Nat) : Option Nat :=
  s.par.groups.findSome? fun g =>
    let has := fun (sh : Share) => sh.slot == slot && decide (sh.die ≤ die) && decide (die < sh.die + g.2.dies)
    if (g.2.geoms.any fun x => x.2.shares.any has) || g.2.rebuilds.any fun r => has r.target then some g.2.blocks else none

/-- A block of a slot has been retired, or carries a member of some band. -/
def blockTaken (s : State) (slot die block : Nat) : Bool :=
  s.par.groups.any fun g => g.2.retired.contains (blockNum slot die block) || g.2.bands.any fun b =>
    (List.range b.2.blocks.length).any fun m => b.2.blocks[m]? == some (die, block) && (match (geomOf g.2 b.2.geom).shares[m]? with
      | some sh => sh.slot == slot || (match rebuildOf g.2 sh with | some r => r.target.slot == slot | none => false)
      | none => false)

/-- A spare block for a member of a band: on the same die, else on the nearest die of the blade (R177; log entry 43). -/
def spareBlock (s : State) (slot die : Nat) : Option (Nat × Nat) :=
  match (slotOf s slot).geom with
  | none => none
  | some bg =>
    let on := fun d => match dieBlocks s slot d with
      | some n => ((List.range (bg.blocks - n)).find? fun i => !blockTaken s slot d (n + i)).map fun i => (d, n + i)
      | none => none
    (List.range bg.dies).findSome? fun i =>
      match (if i ≤ die then on (die - i) else none) with
      | some x => some x
      | none => on (die + i)

/-- Retire the block of a member of a band on a share (R177): the band continues on a spare block, and each of `pages` is read for its
copy on the spare; the pool's spare count falls, and a count below the floor makes the pool READ_ONLY at the next stroke edge. The
band's rows are on a retired block (R178). Addresses given before keep naming their extents through the band table (log entry 43). -/
def blockRetireOn (pool band m : Nat) (sh : Share) (pages : FMap Row) (s : State) : State :=
  match (groupOf s pool).bind fun g => (fget g.bands band).map fun b => (g, b) with
  | none => s
  | some (g, b) => (match b.blocks[m]? with
    | none => s
    | some (die, block) =>
      let new := spareBlock s sh.slot die
      let pages := if new.isSome then pages else []
      let from_ := fun n => fgetD g.salvage (pairKey n m) (die, block)
      let s := groupMod pool (fun g => { g with
        retired := blockNum sh.slot die block :: g.retired
        spareBlocks := g.spareBlocks - 1
        readOnlyDue := g.readOnlyDue || (!g.readOnly && decide (g.spareBlocks - 1 < g.floor))
        rows := fmapV g.rows fun n r => if bandOf g n = band ∧ r.st ≠ .freed then { r with onRetired := true } else r
        salvage := pages.foldl (fun l e => fset l (pairKey e.1 m) (from_ e.1)) g.salvage
        bands := fset g.bands band { b with blocks := b.blocks.set m (new.getD (die, block)) } }) s
      foldS pages (fun e s =>
        let f := from_ e.1
        nandIssue sh.slot (readCmd f.1 f.2 (pageOf g e.1) (startLevel s sh.slot f.1 f.2) 255 false e.2.slc (.salvage pool e.1 m)) s) s)

/-- Retire the block of a member of a band: every page of it already programmed is copied (R177). -/
def blockRetire (pool band m : Nat) (s : State) : State :=
  match (groupOf s pool).bind fun g => (fget g.bands band).map fun b => (g, b) with
  | none => s
  | some (g, b) => (match memberShare g b m with
    | some sh => blockRetireOn pool band m sh (fkeep g.rows fun n r =>
        bandOf g n == band && (r.st == .programmed || (r.st == .closed && !r.left.contains m)) && !r.erased.contains m) s
    | none => s)

/-- A member page fails to program (R177, R222): the block is retired, the spare takes a pad page in its place, the row is written again. -/
def programFailed (pool row m : Nat) (s : State) : State :=
  match groupOf s pool with
  | none => s
  | some g => (match fget g.rows row with
    | none => s
    | some r =>
      let s := s |> blockRetire pool (bandOf g row) m |> bump (Reg.PAR_PROGRAM_FAIL_COUNT r.seat)
      let s := match (groupOf s pool).bind fun g => memberBlock g row m with
        | some (slot, die, block, page) =>
          s |> rowHead pool row m |> nandIssue slot { nandCmd opProgram die block page (.pad pool (bandOf g row) m) with slc := r.slc }
        | none => s
      s |> rowRewrite pool row |> memberDone pool row m)

/-- The pool takes no host writes (R178, R238). -/
def poolReadOnly (g : Group) : Bool := g.readOnly || g.failed

/-! ### Shares (R211 to R214, R224, R231) -/

/-- Shares on a slot: which, first die, number of dies; over every group, geometry and rebuild target. -/
def sharesOn (s : State) (slot : Nat) : List (Nat × Nat × Nat) :=
  s.par.groups.foldl (fun l g =>
    let own := g.2.geoms.foldl (fun l x => l ++ (x.2.shares.filter fun sh => sh.slot == slot && !sh.lost).map fun sh => (sh.idx, sh.die, g.2.dies)) []
    let tgt := (g.2.rebuilds.filter fun r => r.target.slot == slot).map fun r => (r.target.idx, r.target.die, g.2.dies)
    l ++ own ++ tgt) []

/-- A group has a share on a slot, in any of its geometries or as a rebuild target (R211). -/
def groupOn (g : Group) (slot : Nat) : Bool :=
  (g.geoms.any fun x => x.2.shares.any fun sh => sh.slot == slot && !sh.lost) || g.rebuilds.any fun r => r.target.slot == slot

/-- Every group with a share on a slot is of this side: one head owns the blade (R212). -/
def sideOnly (s : State) (side slot : Nat) : Bool := s.par.groups.all fun g => g.2.side == side || !groupOn g.2 slot

/-- A place for a share of a group on a slot on which it has none (R211): at most 2^32 pages, the lowest free range of dies, the lowest free
index of four. -/
def shareFit (s : State) (slot : Nat) (g : Group) : Option Share :=
  match (slotOf s slot).geom with
  | none => none
  | some bg =>
    let n := g.dies
    let used := sharesOn s slot
    let clear := fun d => decide (d + n ≤ bg.dies) && used.all fun u => decide (d + n ≤ u.2.1) || decide (u.2.1 + u.2.2 ≤ d)
    if groupOn g slot ∨ sideOnly s g.side slot = false ∨ 4294967296 < n * bg.blocks * bg.pages then none
    else match (0 :: used.map fun u => u.2.1 + u.2.2).filter clear with
      | [] => none
      | d :: t => ((List.range 4).find? fun i => !used.any fun u => u.1 == i).map fun i => ⟨slot, i, t.foldl min d, false, false⟩

/-- A slot serves a group or is a spare. -/
def slotAssigned (s : State) (slot : Nat) : Bool := sharesOn s slot != [] || s.par.groups.any fun g => g.2.spares.contains slot

/-- Host software has assigned a blade to a group or as spare: this head raises its fence unless it owns it already; IN_USE is set once the
fence change has completed (step 6 of *Blade insertion*, R277). -/
def slotAssign (slot : Nat) (s : State) : State :=
  if isSet s (portReg Reg.OAR_PORT_STATUS_OWNER slot) then wr (Reg.BLD_SLOT_STATUS_IN_USE slot) 1 s
  else if isSet s (Reg.BLD_SLOT_STATUS_ATTESTED slot) && (slotOf s slot).fencing.isNone then
    let e := newEpoch s
    fenceRaise slot (myPort s) e { s with pair := { s.pair with term := e } }
  else s

/-- IN_USE of a slot that nothing needs any more is cleared. -/
def slotRelease (slot : Nat) (s : State) : State := if slotAssigned s slot then s else wr (Reg.BLD_SLOT_STATUS_IN_USE slot) 0 s

/-- Bands that hold a row that is not free: those a rebuild has to do (R232). -/
def bandsHeld (g : Group) : List Nat :=
  (g.bands.filter fun b => g.rows.any fun r => bandOf g r.1 == b.1 && r.2.st != .freed).map Prod.fst

/-- Start a rebuild of a lost share onto a target (R231, R232). -/
def rebuildStart (pool slot idx : Nat) (t : Share) (s : State) : State :=
  groupMod pool (fun g => { g with
    rebuilds := g.rebuilds ++ [⟨slot, idx, t, s.stk.ext, none, [], 0, (bandsHeld g).length⟩]
    spares := g.spares.filter (· != t.slot) }) s
    |> slotAssign t.slot

/-- The automatic target of a group: the lowest-numbered spare that is attested and has room (R231). -/
def autoTarget (s : State) (g : Group) : Option Share :=
  (List.range (slotCount s)).findSome? fun n =>
    if g.spares.contains n && isSet s (Reg.BLD_SLOT_STATUS_ATTESTED n) then shareFit s n g else none

/-- Lost shares of a group, over its geometries, that have no rebuild. -/
def orphanShares (g : Group) : List Share :=
  (g.geoms.foldl (fun l x => l ++ x.2.shares.filter fun sh => sh.lost && (rebuildOf g sh).isNone) []).foldl
    (fun l sh => if l.any fun x => x.slot == sh.slot && x.idx == sh.idx then l else l ++ [sh]) []

/-- Find targets for the lost shares of a group; where there is none the event is raised to the cox (R231). -/
def targetsFind (pool : Nat) (s : State) : State :=
  match groupOf s pool with
  | none => s
  | some g => foldS (orphanShares g) (fun sh s =>
      match isSet s (Reg.PAR_CTRL_AUTO_SPARE 0), (groupOf s pool).bind (autoTarget s) with
      | true, some t => rebuildStart pool sh.slot sh.idx t s
      | _, _ => coxRaise s) s

/-- Lost shares whose target has come up since: a spare freed or attested, AUTO_SPARE set (R231). -/
def targetsTake (s : State) : State :=
  foldS s.par.groups (fun e s => foldS (orphanShares e.2) (fun sh s =>
    match isSet s (Reg.PAR_CTRL_AUTO_SPARE 0), (groupOf s e.1).bind (autoTarget s) with
    | true, some t => rebuildStart e.1 sh.slot sh.idx t s
    | _, _ => s) s) s

/-- Rows of a group that a further lost share leaves unrecoverable are recorded (R28, R236). -/
def lossRecord (pool : Nat) (s : State) : State :=
  match groupOf s pool with
  | none => s
  | some g => foldS g.rows (fun e s => rowLossCheck pool e.1 s) s

/-- The members of a row that a lost share held are written as erasures from now on (R224). -/
def shareErase (pool : Nat) (s : State) : State :=
  match groupOf s pool with
  | none => s
  | some g => foldS (g.rows.filter fun e => e.2.st == .closed) (fun e s =>
      match fget g.bands (bandOf g e.1) with
      | some b =>
        let gone := e.2.left.filter fun m => (memberShare g b m).isNone
        foldS gone (fun m s => s |> rowMod pool e.1 (fun r => { r with erased := r.erased ++ [m] }) |> memberDone pool e.1 m) s
      | none => s) s

/-- A share of a group is lost (R213): in every geometry and as a rebuild's target. -/
def shareLost (pool slot idx : Nat) (s : State) : State :=
  let hit := fun (sh : Share) => sh.slot == slot && sh.idx == idx
  groupMod pool (fun g => { g with
    geoms := fmapV g.geoms fun _ x => { x with shares := x.shares.map fun sh => if hit sh then { sh with lost := true, restarting := false } else sh }
    rebuilds := g.rebuilds.map fun r => if hit r.target then { r with target := { r.target with lost := true } } else r }) s
    |> shareErase pool |> lossRecord pool |> targetsFind pool |> redundancy

/-- Every share on a slot is lost (R213). -/
def slotSharesLost (slot : Nat) (s : State) : State :=
  foldS s.par.groups (fun g s =>
    let here := g.2.geoms.foldl (fun l x => l ++ (x.2.shares.filter fun sh => sh.slot == slot && !sh.lost).map (·.idx)) []
      ++ ((g.2.rebuilds.filter fun r => r.target.slot == slot && !r.target.lost).map fun r => r.target.idx)
    foldS here.eraseDups (fun i s => shareLost g.1 slot i s) s) s

end Sys2Proof.Machine
end

