-- ==== Sys2Proof/Machine/IngestOps.lean ====
section
/-!
DEFINITION. Machine/IngestOps.lean: a write from its reservation to its acceptance: range locks, landing, protection information,
fingerprints, jobs, sealing, records, groups, acceptance and failure (R100 to R132, R157, R183).
-/

namespace Sys2Proof.Machine

/-! ### Blocks and groups of a command -/

/-- A block of a command. -/
def blkOf (s : State) (id idx : Nat) : Option Blk := fget s.ing.blks (pairKey id idx)

/-- Change a block. -/
def blkMod (id idx : Nat) (f : Blk → Blk) (s : State) : State :=
  { s with ing := { s.ing with blks := fmod s.ing.blks (pairKey id idx) f } }

/-- LBA of a block of a command: a Zone Append's once assigned. -/
def blkLba (c : Cmd) (idx : Nat) : Nat := (match c.assigned with | some a => a | none => c.lba) + idx

/-- Seat whose rows and lane take a command's records: the zone's home seat, otherwise the ingesting seat (R124). -/
def groupSeat (s : State) (c : Cmd) : Nat :=
  if c.p.zoned then (match zoneOf s c.nsid c.lba with | some (_, z, _) => z.home | none => c.seat) else c.seat

/-- Change a group of records. -/
def grpMod (seat num : Nat) (f : Grp → Grp) (s : State) : State :=
  { s with ing := { s.ing with grps := fmod s.ing.grps (pairKey seat num) f } }

/-- A group's record list and number are opened for blocks `lo` to `hi` of a command (R127, R131). -/
def grpNew (id seat lo hi : Nat) (s : State) : State :=
  let num := fgetD s.ing.nextGrp seat 0
  { s with ing := { s.ing with
      grps := fset s.ing.grps (pairKey seat num) ⟨id, lo, hi, [], false, none, false, none, [], false⟩
      nextGrp := fset s.ing.nextGrp seat ((num + 1) % 4294967296) } }
    |> cmdMod id (fun c => { c with groups := c.groups ++ [num] })

/-- Ends of the chunks of a write from `lba`: at multiples of the atomic write size, as block numbers of the command (R131). -/
def chunkEnds (atomic lba count : Nat) : List Nat :=
  if count ≤ atomic ∨ atomic = 0 then [count]
  else ((List.range count).filter fun i => (lba + i + 1) % atomic == 0 && i + 1 != count).map (· + 1) ++ [count]

/-- Open the groups of a write (R131). -/
def groupsOpen (id : Nat) (s : State) : State :=
  match cmdOf s id with
  | none => s
  | some c =>
    let seat := groupSeat s c
    let ends := chunkEnds c.p.atomic (blkLba c 0) c.count
    foldS (List.zip (0 :: ends) ends) (fun e s => grpNew id seat e.1 e.2 s) s

/-- The group that covers a block. -/
def grpFor (s : State) (id idx : Nat) : Option (Nat × Grp) :=
  s.ing.grps.find? fun e => e.2.cmd == id && decide (e.2.lo ≤ idx) && decide (idx < e.2.hi)

/-! ### Failure (R106, R131, R132) -/

/-- Release the holds a command took at its dedup hits (R110). -/
def holdsDrop (id : Nat) (s : State) : State :=
  match cmdOf s id with
  | none => s
  | some c => foldS (fkeep s.ing.blks fun k b => keyHi k == id && b.hold.isSome) (fun e s =>
      match e.2.hold with
      | some h => releaseHold (recKey c.p.tenant h) s
      | none => s) s

/-- A command gives up everything it has built and not had accepted: holds, groups, and what it asked for by RDMA READ. -/
def ingestDrop (id : Nat) (s : State) : State :=
  let s := holdsDrop id s
  { s with ing := { s.ing with grps := fkeep s.ing.grps fun _ g => g.cmd != id } }

/-- First LBA of the first chunk of a write not committed, once a chunk has been accepted (R131). -/
def firstOpen (s : State) (c : Cmd) : Option Nat :=
  match c.groups with
  | num :: _ => (match fget s.ing.grps (pairKey (groupSeat s c) num) with
    | some g => if 0 < g.lo then some (blkLba c g.lo) else none
    | none => none)
  | [] => none

/-- A write fails (R131, R132): with its own status while no chunk has been accepted, otherwise with Write Fault. -/
def ingestFail (id : Nat) (st : NvSts) (s : State) : State :=
  match cmdOf s id with
  | none => s
  | some c =>
    match firstOpen s c with
    | some l => s |> cmdMod id (fun c => { c with failed := some (l, nvCode .writeFault) }) |> ingestDrop id |> finishCmd id .writeFault 0
    | none => s |> ingestDrop id |> finishCmd id st 0

/-- The rows of *Ingest failures* (R132): the earliest decides. -/
def ingestRank (code : Nat) : Nat :=
  if code = nvCode .guardCheck then 0 else if code = nvCode .appCheck then 1 else if code = nvCode .refCheck then 2
  else if code = nvCode .writeProtected then 3 else 4

/-- The status that a recorded ingest failure stands for. -/
def ingestSts (code : Nat) : NvSts :=
  ([NvSts.guardCheck, .appCheck, .refCheck, .writeProtected, .writeFault].find? fun x => nvCode x == code).getD .internal

/-- A failure of a write is noted, unless an earlier row of *Ingest failures* has been (R106, R132). -/
def ingestNote (id lba : Nat) (st : NvSts) (s : State) : State :=
  cmdMod id (fun c => { c with failed := match c.failed with
    | some (l, x) => if ingestRank x ≤ ingestRank (nvCode st) then some (l, x) else some (lba, nvCode st)
    | none => some (lba, nvCode st) }) s

/-- A write with a failure noted completes; with protection information only once every block has landed (R106). -/
def ingestEnds (id : Nat) (s : State) : State :=
  match cmdOf s id with
  | none => s
  | some c => (match c.failed with
    | some (_, code) => if c.p.pi ≠ 0 ∧ 0 < c.left then s else ingestFail id (ingestSts code) s
    | none => s)

/-- A failure of a write that its protection information does not find (R132). -/
def ingestError (id lba : Nat) (st : NvSts) (s : State) : State := s |> ingestNote id lba st |> ingestEnds id

/-- An engine or the catch buffer fails on a block (R132): the engine's fault is counted (R517). -/
def engineErr (id lba : Nat) (c : Cmd) (err : IngestErr) (s : State) : State :=
  match err with
  | .none => s
  | .buffer => s |> bump (Reg.CAT_CATCH_ERR_COUNT c.seat) |> ingestError id lba .internal
  | .cipher => s |> engineFault c.seat 0 [c.nsid, lba] |> ingestError id lba .internal
  | .compression => s |> engineFault c.seat 1 [c.nsid, lba] |> ingestError id lba .internal
  | .digest => s |> engineFault c.seat 2 [c.nsid, lba] |> ingestError id lba .internal
  | .tags => s |> bump (Reg.PAR_TAG_MISMATCH_COUNT c.seat) |> logFw c.seat 11 [c.nsid, lba]
      |> ingestError id lba .internal

/-- The deltas of groups that FLASH_THROUGH has logged and that are not accepted leave the log (R130). -/
def logsDrop (s : State) : State :=
  let gone := s.ing.grps.foldl (fun (l : List Delta) g => if g.2.logged.isSome then l ++ g.2.recs else l) []
  let stay := fun (d : Delta) => !gone.any fun x => x.kind == d.kind && x.nsid == d.nsid && x.lba == d.lba && x.value == d.value && x.group == d.group
  { s with map := { s.map with
      dbuf := fmapV s.map.dbuf fun _ l => l.filter stay
      dlog := s.map.dlog.map fun p => { p with recs := p.recs.filter stay } } }

/-- The commands of a queue pair end without a completion (R93, R132); a write of at most the atomic size of which nothing was accepted leaves
everything old (R91, R138). -/
def qpDrop (seat q : Nat) (s : State) : State :=
  let s := pushesDrop (fun c => c.seat == seat && c.qp == q) s
  foldS (fkeep s.nv.cmds fun _ c => c.seat == seat && c.qp == q) (fun e s =>
    s |> when (cmdWrites e.2 && e.2.stage != .waiting && decide (e.2.count ≤ e.2.p.atomic)) (bump (Reg.NVQ_ATOMIC_FAIL_COUNT seat))
      |> ingestDrop e.1 |> dropCmd e.1) s

/-- A queue pair enters the error state: its commands and its work in memory regions end (R74, R93, R132). -/
def qpFail (seat q : Nat) (s : State) : State := s |> qpToError seat q |> qpWorkEnds seat q |> qpDrop seat q

/-! ### Records (R126, R127) -/

/-- A block's record is built: the catch slot and the rest of its reservation go back, of which its map delta's bytes stay held until they are
logged (R102); the record enters its group and, with a session open, the seat's stream. -/
def recAdd (id idx : Nat) (d : Delta) (s : State) : State :=
  match grpFor s id idx, cmdOf s id with
  | some (k, g), some c =>
    let recs := g.recs.length + 1
    let last := recs == g.hi - g.lo
    let tag := if c.p.zoned then 0 else ((entAt s c.nsid d.lba).replay + 1) % 65536
    let d := { d with group := keyLo k, last := last, atomic := decide (c.count ≤ c.p.atomic), replay := tag }
    s |> grpMod (keyHi k) (keyLo k) (fun g => { g with recs := g.recs ++ [d], complete := last })
      |> cmdMod id (fun c => { c with slots := c.slots - 1, dirty := c.dirty + dlogBytes d - 4272 })
      |> blkMod id idx (fun b => { b with stage := .done, ext := none, job := false, looking := false })
      |> journalAdd (keyHi k) d
  | _, _ => s

/-! ### Rows (R122, R123) -/

/-- The reclaim unit handle of a namespace's placement handle (R123): the lowest free of 256 at its first use, and once all are in use the
placement handle modulo 256 (log entry 106). -/
def ruhTake (nsid handle : Nat) (s : State) : State :=
  let k := nsid * 65536 + handle
  if fhas s.ing.ruhs k then s
  else
    let n := ((List.range 256).find? fun n => s.ing.ruhs.all fun e => e.2 != n).getD (handle % 256)
    { s with ing := { s.ing with ruhs := fset s.ing.ruhs k n } }

/-- The reclaim unit handle that a placement handle maps to. -/
def ruhOf (s : State) (nsid handle : Nat) : Nat := fgetD s.ing.ruhs (nsid * 65536 + handle) 0

/-- The placement stream of a block (R123): zone, placement handle, temperature. -/
def blkStream (s : State) (c : Cmd) (lba : Nat) : Nat :=
  if c.p.zoned then streamZone c.nsid (lba / max 1 c.p.zoneSize)
  else match c.p.fdp, c.cap.handle with
    | true, some h => streamFdp (ruhOf s c.nsid h)
    | _, _ => if c.p.cold then streamCold else streamHot

/-- The zone's home seat assigns a Zone Append its LBA at its first append (R124), and opens its groups. -/
def zoneAssign (id : Nat) (s : State) : State :=
  match cmdOf s id with
  | none => s
  | some c =>
    if c.op ≠ .zoneAppend ∨ c.assigned.isSome then s
    else match zoneOf s c.nsid c.lba with
      | none => s
      | some (zk, z, _) =>
        if c.p.zoneSize < z.wp + c.count then ingestFail id .zoneBoundary s
        else { s with map := { s.map with zones := fset s.map.zones zk { z with
              wp := z.wp + c.count, st := if z.wp + c.count = c.p.zoneSize then 2 else z.st } } }
          |> cmdMod id (fun c => { c with assigned := some (c.lba / max 1 c.p.zoneSize * c.p.zoneSize + z.wp) })
          |> groupsOpen id

/-- Blocks of a zone are appended in LBA order (R183): every lower block of the zone's writes in progress has its record. -/
def zoneTurn (s : State) (id idx : Nat) (c : Cmd) : Bool :=
  let lba := blkLba c idx
  let z := fun x => x / max 1 c.p.zoneSize
  s.ing.blks.all fun e =>
    e.2.stage == .done || (match cmdOf s (keyHi e.1) with
      | some x => x.nsid != c.nsid || (x.op == .zoneAppend && x.assigned.isNone && keyHi e.1 != id) || z (blkLba x (keyLo e.1)) != z lba
          || decide (lba ≤ blkLba x (keyLo e.1))
      | none => true)

/-- Append a sealed block to its open row and build its EXTENT record (R100 step 6). Where no row is to be had it waits (R167). -/
def blkAppend (id idx : Nat) (s : State) : State :=
  match cmdOf s id, blkOf s id idx with
  | some c, some b => (match b.ext with
    | none => s
    | some e =>
      let s := zoneAssign id s
      match cmdOf s id with
      | none => s
      | some c' =>
        if c.p.zoned && !zoneTurn s id idx c' then blkMod id idx (fun b => { b with stage := .ready }) s
        else
          let lba := blkLba c' idx
          let e := { e with lba := lba }
          let seat := groupSeat s c
          let s := match c.p.fdp, c.cap.handle with | true, some h => ruhTake c.nsid h s | _, _ => s
          match extAppend c.p.pool seat (blkStream s c lba) true false e s with
          | (none, s) => blkMod id idx (fun b => { b with stage := .ready }) s
          | (some a, s) =>
            let r : Rec := ⟨a, e.length, e.mode, e.dict, e.keyGen, 1, b.fp / 2 ^ 240 % 65536, 0⟩
            let d : Delta := { delta .extent c.nsid lba e.handle 0 with record := some r, ext := some e }
            s |> bumpN (Reg.CAT_STORED seat) (16 * e.length) |> recAdd id idx d)
  | _, _ => s

/-- Sealed blocks that wait try again, oldest command first. -/
def appendRetry (s : State) : State :=
  foldS (fkeep s.ing.blks fun _ b => b.ext.isSome && b.stage == .ready) (fun e s => blkAppend (keyHi e.1) (keyLo e.1) s) s

/-! ### Sealing (R120, R121) -/

/-- Length of the stored metadata (R107): without the guard and, for type 1, without the reference tag. -/
def storedLen (p : NsParams) : Nat :=
  if p.pi = 0 then p.metaLen
  else p.metaLen - (if p.guard64 then 8 else 2) - (if p.pi = 1 then (if p.guard64 then 6 else 4) else 0)

/-- The nonce of a seal (R120): head side and seat in byte 0, the invocation counter in bytes 6 to 11. -/
def nonceOf (s : State) (seat ctr : Nat) : Nat := (mySide s * 128 + seat) * 2 ^ 88 + ctr % 2 ^ 48

/-- Length of an extent in 16-byte units (R121). -/
def extLen (payload : Nat) : Nat := ceilDiv (48 + payload + 16) 16

/-- The 48 bytes of an extent's header, least significant first (*Extent header*, R121); of the nonce, byte 16 is the most significant. -/
def extHeader (e : Ext) : Nat :=
  e.format + 2 ^ 8 * e.mode + 2 ^ 16 * e.payload + 2 ^ 32 * e.tenant + 2 ^ 48 * e.keyGen
    + 2 ^ 64 * (e.handle % 2 ^ 40 + 2 ^ 40 * (if e.mode = 2 then e.dict else 0) + 2 ^ 48 * e.metaLen)
    + 2 ^ 128 * e.nonce + 2 ^ 224 * e.nsid + 2 ^ 256 * e.lba + 2 ^ 320 * e.sealedAt

/-- The tag of an extent under a key: its whole header is additional authenticated data (R121). -/
def extTag (key : Nat) (e : Ext) : Nat := Config.extentTag key (extHeader e) e.data e.stored.user e.stored.app e.stored.ref

/-- A block's seal waits for a reservation or for a roll: counted once (R391, R396). -/
def sealStalls (id idx seat : Nat) (reserve : Bool) (s : State) : State :=
  match blkOf s id idx with
  | none => s
  | some b =>
    if reserve then s |> when (!b.waitedReserve) (bump (Reg.CIP_RESERVE_STALL_COUNT seat)) |> blkMod id idx (fun b => { b with waitedReserve := true })
    else s |> when (!b.waitedRoll) (bump (Reg.CIP_SHARE_STALL_COUNT seat)) |> blkMod id idx (fun b => { b with waitedRoll := true })

/-- Seal a block whose job and lookup have ended (R120): its key slot (R382), its nonce (R396), its handle, while a
record index is left (R142); then it goes to its row, by way
of its zone's home seat (R124). A seal that must wait leaves the block READY. -/
def blkSeal (id idx : Nat) (s : State) : State :=
  match cmdOf s id, blkOf s id idx with
  | some c, some b =>
    let d := c.p.domain
    let gen := curGen s d
    let k := slotKey 0 d gen
    let s := blkMod id idx (fun b => { b with stage := .ready }) s
    if !slotHas s c.seat k then slotAsk c.seat k s
    else if !c.p.zoned && (allocRec c.p.tenant (mySide s) c.seat s).1.isNone then s
    else match takeCounter c.seat d s with
      | (none, s) => sealStalls id idx c.seat (reserveStalls s c.seat d) s
      | (some ctr, s) =>
        let h := if c.p.zoned then (none, s) else allocRec c.p.tenant (mySide s) c.seat s
        let mode := match b.frame, b.dict with | none, _ => 0 | some _, none => 1 | some _, some _ => 2
        let payload := (match b.frame with | some n => n | none => 4096) + storedLen c.p
        let dict := match b.frame, b.dict with | some _, some x => x | _, _ => 0
        let e : Ext := ⟨c.p.pool, 0, 0, extLen payload, mode, payload, c.p.tenant, gen, d, h.1.getD 0, dict, storedLen c.p, nonceOf s c.seat ctr, c.nsid,
          blkLba c idx, s.stk.ext, b.data, b.stored, 1, 0, 0⟩
        let e := { e with tag := extTag k e }
        let s := h.2 |> when b.frame.isNone (bump (Reg.CMP_RAW_COUNT c.seat)) |> slotTouch c.seat k |> bump (Reg.CIP_SEALS c.seat)
        let home := groupSeat s c
        if home != c.seat then blkMod id idx (fun b => { b with ext := some e, stage := .moving }) s
        else s |> blkMod id idx (fun b => { b with ext := some e }) |> blkAppend id idx |> when c.p.zoned appendRetry
  | _, _ => s

/-- Blocks of a seat whose seal waits for a key slot or a nonce try again, oldest first. -/
def sealRetry (seat : Nat) (s : State) : State :=
  foldS (fkeep s.ing.blks fun k b => b.stage == .ready && b.ext.isNone && (match cmdOf s (keyHi k) with | some c => c.seat == seat | none => false))
    (fun e s => blkSeal (keyHi e.1) (keyLo e.1) s) s

/-- The block's lookup and job have both ended: seal it. -/
def blkReady (id idx : Nat) (s : State) : State :=
  match blkOf s id idx with
  | some b => if b.stage = .landed ∧ !b.looking ∧ !b.job then blkSeal id idx s else s
  | none => s

/-! ### Landing (R105 to R113) -/

/-- The protection information that R105 has the catch write port generate: guard, application tag, reference tag. -/
def piMake (p : NsParams) (cap : Capsule) (lba idx data : Nat) (m : Md) : Md :=
  let w := if p.guard64 then 48 else 32
  { m with guard := Config.guard p.guard64 data, app := cap.appTag, ref := (if p.pi = 1 then lba else if p.pi = 2 then cap.refTag + idx else cap.refTag) % 2 ^ w }

/-- The first field of a block's protection information that fails a check of R105, as its status (R106). By the NVMe specification, which
R105 names, an application tag of all ones (and, for type 3, a reference tag of all ones) turns the block's checks off (log entry 20). -/
def piCheck (p : NsParams) (cap : Capsule) (lba idx data : Nat) (m : Md) : Option NvSts :=
  let w := if p.guard64 then 48 else 32
  if m.app = 65535 ∧ (p.pi ≠ 3 ∨ m.ref = 2 ^ w - 1) then none
  else if bitOf cap.prinfo 2 && m.guard != Config.guard p.guard64 data then some .guardCheck
  else if bitOf cap.prinfo 1 && (m.app &&& cap.appMask) != (cap.appTag &&& cap.appMask) then some .appCheck
  else if bitOf cap.prinfo 0 && ((p.pi == 1 && m.ref != lba % 2 ^ w) || (p.pi == 2 && m.ref != (cap.refTag + idx) % 2 ^ w)) then some .refCheck
  else none

/-- A block fails its check: counted; the command's status is the earliest field that mismatched in any block (R106). -/
def piFail (id : Nat) (c : Cmd) (lba : Nat) (st : NvSts) (s : State) : State :=
  s |> bump (Reg.CAT_PI_FAIL_COUNT c.seat) |> ingestNote id lba st

/-- Dictionary a block's job matches (R118, R119): the namespace's slot, loaded, not retiring, of its tenant or the system domain. -/
def dictFor (s : State) (p : NsParams) : Option Nat :=
  if p.dict < 256 ∧ isSet s (Reg.CMP_DICT_LOADED 0 p.dict) = true ∧ isSet s (Reg.CMP_DICT_RETIRING 0 p.dict) = false
      ∧ (rd s (Reg.CMP_DICT_TENANT 0 p.dict) = p.tenant ∨ isSet s (Reg.CMP_DICT_SYSTEM 0 p.dict) = true) then some p.dict else none

/-- The fingerprint of a block under its domain's dedup key (R108). -/
def blkFp (s : State) (c : Cmd) (b : Blk) : Nat :=
  Config.fingerprint (match domainOf s c.p.domain with | some d => d.fk | none => 0) b.data b.stored.user b.stored.app b.stored.ref

/-- The last byte of a block is in the catch (R100 steps 3 and 4, R105, R107, R112, R113). -/
def blkLand (id idx data : Nat) (m : Md) (s : State) : State :=
  match cmdOf s id, blkOf s id idx with
  | some c, some b =>
    if b.stage ≠ .wanted then s
    else
      let lba := blkLba c idx
      let make := c.p.pi != 0 && bitOf c.cap.prinfo 3 && c.p.metaLen == piLen c.p
      let m := if make then piMake c.p c.cap lba idx data m else m
      let bad := if c.p.pi = 0 ∨ make then none else piCheck c.p c.cap lba idx data m
      let st : Stored := ⟨m.user, if c.p.pi = 0 then 0 else m.app, if c.p.pi = 0 ∨ c.p.pi = 1 then 0 else m.ref⟩
      let zero := isSet s (Reg.CAT_CTRL_ZERO_DETECT c.seat) && !c.p.zoned && data == 0 && st == ⟨0, 0, 0⟩
      let look := c.p.dedup && !c.p.zoned && !zero
      let job := c.p.compress && !zero && isSet s (Reg.CMP_CTRL_ENABLE c.seat)
      let s := s |> bumpN (Reg.CAT_IN c.seat) 4096
        |> cmdMod id (fun c => { c with left := c.left - 1 })
        |> blkMod id idx (fun b => { b with stage := .landed, data := data, md := m, stored := st, zero := zero, looking := look, job := job
                                            fp := if look then 0 else blkFp s c { b with data := data, stored := st }
                                            dict := if job then dictFor s c.p else none })
        |> when job (bumpN (Reg.CMP_JOBS c.seat) 1)
        |> when (!look) (digSnoop c.seat (4096 + storedLen c.p))
      let s := match bad with | some x => piFail id c lba x s | none => s
      match cmdOf s id with
      | none => s
      | some c =>
        if c.failed.isSome then ingestEnds id s
        else if zero then s |> bump (Reg.CAT_ZERO_BLOCKS_COUNT c.seat) |> recAdd id idx (delta .zero c.nsid lba 0 0)
        else blkReady id idx s
  | _, _ => s

/-- A block is stored raw, which its seal counts (R115 to R117). -/
def blkRaw (id idx : Nat) (s : State) : State :=
  blkMod id idx (fun b => { b with job := false, frame := none, dict := none }) s

/-! ### The fingerprint cache (R108 to R111) -/

/-- Key of a set. -/
def fpKey (seat fp : Nat) : Nat := seat * 67108864 + fp % 67108864

/-- A set, empty when nothing has been inserted. -/
def fpSet (s : State) (seat fp : Nat) : List (Option FpEnt) := fgetD s.ing.fps (fpKey seat fp) (List.replicate 8 none)

/-- Store a set. -/
def fpPut (seat fp : Nat) (l : List (Option FpEnt)) (s : State) : State :=
  { s with ing := { s.ing with fps := if l.all (·.isNone) then fdel s.ing.fps (fpKey seat fp) else fset s.ing.fps (fpKey seat fp) l } }

/-- The way that matches a fingerprint of a tenant (R109). -/
def fpFind (l : List (Option FpEnt)) (fp tenant : Nat) : Option (Nat × FpEnt) :=
  ((List.range 8).findSome? fun w => match (l[w]?).join with
    | some e => if e.tag = fp / 2 ^ 96 ∧ e.tenant = tenant then some (w, e) else none
    | none => none)

/-- After a hit or an insertion in way `w`, that entry's age is 0 and the set's others rise by one, to at most 15 (R109). -/
def fpAge (l : List (Option FpEnt)) (w : Nat) : List (Option FpEnt) :=
  (List.range 8).map fun i => match (l[i]?).join with
    | some e => some { e with age := if i = w then 0 else min 15 (e.age + 1) }
    | none => none

/-- The way an insertion replaces (R109): the lowest invalid way, else the lowest among the largest ages. -/
def fpVictim (l : List (Option FpEnt)) : Nat :=
  match l.idxOf? none with
  | some w => w
  | none =>
    let age := fun w => match (l[w]?).join with | some e => e.age | none => 0
    let top := (List.range 8).foldl (fun m w => max m (age w)) 0
    ((List.range 8).find? fun w => age w == top).getD 0

/-- Insert a fingerprint (R109, R111). -/
def fpInsert (seat fp handle tenant : Nat) (s : State) : State :=
  let l := fpSet s seat fp
  let w := fpVictim l
  fpPut seat fp (fpAge (l.set w (some ⟨fp / 2 ^ 96, handle, tenant, 0⟩)) w) s

/-- A match is a hit only when the record it names meets every condition of R110. -/
def fpValid (s : State) (c : Cmd) (fp : Nat) (e : FpEnt) : Bool :=
  match recOf s e.tenant e.handle with
  | none => false
  | some r => r.fpPrefix == fp / 2 ^ 240 % 65536 && decide (0 < r.refs + r.holds) && ownsSide s (handleSide e.handle) && ownsSide s c.p.side &&
      (match domainOf s c.p.domain with | some d => !d.marked.contains r.keyGen | none => true) &&
      (match fget s.par.exts r.extent with | some x => x.domain == c.p.domain | none => false)

/-! ### Moving the data (R103, R104) -/

/-- Key of a range lock: namespace and 64 KiB granule. -/
def lockKey (nsid granule : Nat) : Nat := lbaKey nsid granule

/-- The ranges of LBAs that a command names: a deallocation's list, any other's one range. -/
def cmdRanges (c : Cmd) : List (Nat × Nat) := match c.op with | .deallocate l => l | _ => [(c.lba, c.count)]

/-- Granules that a command's ranges touch, each once (R103). -/
def granules (c : Cmd) : List Nat :=
  ((cmdRanges c).foldl (fun l r => l ++ (List.range ((r.1 + r.2 - 1) / 16 + 1 - r.1 / 16)).map fun i => r.1 / 16 + i) []).eraseDups

/-- Ask for a command's range locks (R103): free ones are granted at once, others wait in request order and are counted. A Zone Append
writes where no other write can (log entry 45). -/
def locksAsk (id : Nat) (s : State) : State :=
  match cmdOf s id with
  | none => s
  | some c =>
    if c.op = .zoneAppend then s
    else foldS (granules c) (fun g s =>
      let k := lockKey c.nsid g
      match fget s.ing.locks k with
      | none => { s with ing := { s.ing with locks := fset s.ing.locks k (some id, []) } }
      | some (h, w) => { s with ing := { s.ing with locks := fset s.ing.locks k (h, w ++ [id]) } } |> bump (Reg.CAT_LOCK_WAIT_COUNT (homeSeat s c.nsid))) s

/-- A command waits for no lock. -/
def locksHeld (s : State) (id : Nat) : Bool := s.ing.locks.all fun e => !e.2.2.contains id

/-- Request what a command still wants while its queue pair's window allows (R77, R104); of a block larger than the whole window, a part. -/
def pullMore (id : Nat) (s : State) : State :=
  match cmdOf s id with
  | none => s
  | some c => (match qpOf s c.seat c.qp with
    | none => s
    | some q =>
      if c.part ≠ 0 ∨ c.toPull = 0 ∨ q.outq ≠ [] ∨ txPaused s c.seat c.qp q = true then s
      else
        let first := c.count - c.toPull
        let b := unitBytes c
        let got := match blkOf s id first with | some x => x.got | none => 0
        let room := q.window - (q.unacked + q.requested)
        let n := min c.toPull ((room + got) / b)
        if 0 < n then
          s |> setQp c.seat c.qp { q with requested := q.requested + (n * b - got) } |> cmdMod id (fun c => { c with toPull := c.toPull - n })
            |> qpSend c.seat c.qp 0 .rdma [c.seat, c.qp, 4, id, first, n]
        else if q.unacked + q.requested = 0 ∧ got = 0 then
          s |> setQp c.seat c.qp { q with requested := room } |> cmdMod id (fun c => { c with part := room })
            |> qpSend c.seat c.qp 0 .rdma [c.seat, c.qp, 4, id, first, 0]
        else s)

/-- Commands of a queue pair that still want data request it, oldest first. -/
def pullAll (seat q : Nat) (s : State) : State :=
  foldS (fkeep s.nv.cmds fun _ c => c.seat == seat && c.qp == q && c.stage == .working && decide (0 < c.toPull)) (fun e s => pullMore e.1 s) s

/-- A block in the catch before its bytes arrive. -/
def blkNew : Blk := ⟨.wanted, 0, ⟨0, 0, 0, 0⟩, ⟨0, 0, 0⟩, false, 0, false, false, none, none, none, none, 0, false, false⟩

/-- Runs of consecutive MAPPED blocks with one replay tag among those that a command deallocates, first LBA and count: each is one DEALLOC
record, whose tag then holds for every block of it (R156, R179). -/
def mappedRuns (s : State) (nsid : Nat) (l : List Nat) : List (Nat × Nat) :=
  ((l.eraseDups.filter fun x => entSt (entAt s nsid x) == .mapped).foldl (fun runs x => match runs with
    | (a, n) :: t => if a + n = x ∧ (entAt s nsid a).replay = (entAt s nsid x).replay then (a, n + 1) :: t else (x, 1) :: runs
    | [] => [(x, 1)]) []).reverse

/-- A write holds its locks: its groups open and its data moves (R104); a Write Zeroes builds its ZERO records (R112), a deallocation
one record for each of its ranges (R179). -/
def writeGo (id : Nat) (s : State) : State :=
  let s := cmdMod id (fun c => { c with stage := .working, left := c.count, toPull := c.count }) s
  match cmdOf s id with
  | none => s
  | some c => (match c.op with
    | .deallocate l =>
      let l := mappedRuns s c.nsid (l.foldl (fun x r => x ++ (List.range r.2).map fun i => r.1 + i) [])
      let s := cmdMod id (fun c => { c with left := 0, toPull := 0 }) s
      if l = [] then finishCmd id .ok 0 s
      else
      let s := grpNew id c.seat 0 l.length s
      foldS (List.zip (List.range l.length) l) (fun e s => recAdd id e.1 (delta .dealloc c.nsid e.2.1 e.2.2 0) s) s
    | .writeZeroes =>
      let s := s |> groupsOpen id |> cmdMod id (fun c => { c with left := 0, toPull := 0 })
      foldS (List.range c.count) (fun i s => s |> bump (Reg.CAT_ZERO_BLOCKS_COUNT c.seat) |> recAdd id i (delta .zero c.nsid (c.lba + i) 0 0)) s
    | _ =>
      let s := if c.op = .zoneAppend then s else groupsOpen id s
      let s := foldS (List.range c.count) (fun i s => { s with ing := { s.ing with blks := fset s.ing.blks (pairKey id i) blkNew } }) s
      if c.cap.inCapsule then
        foldS (List.range c.count) (fun i s =>
          let d := (c.cap.data[i]?).getD (0, ⟨0, 0, 0, 0⟩)
          blkLand id i d.1 d.2 s) (cmdMod id (fun c => { c with toPull := 0 }) s)
      else pullMore id s)

/-- Release the blocks that waited for locks and now hold all of theirs. -/
def lockGo (id : Nat) (s : State) : State :=
  match cmdOf s id with
  | some c => if c.stage = .locking ∧ locksHeld s id then writeGo id s else s
  | none => s

/-! ### Acceptance (R127 to R131) -/

/-- A command that writes no blocks of its own: a deallocation, or one that carries records of another source. -/
def cmdDealloc (c : Cmd) : Bool := match c.op with | .deallocate _ => true | _ => false

/-- The rows that hold the extents of a group have programmed on every member (R129). -/
def rowsOnFlash (s : State) (g : Grp) : Bool :=
  g.recs.all fun d => d.kind != .extent || (match d.record with
    | some r => (match fget s.par.exts r.extent with
      | some e => (match rowOf s e.pool e.row with | some x => x.st == .programmed | none => false)
      | none => false)
    | none => true)

/-- Every delta log page of a seat up to a sequence has programmed. -/
def dlogOnFlash (s : State) (seat q : Nat) : Bool :=
  decide (q < rd s (Reg.MAP_DLOG_SEQ seat)) && s.map.dlog.all fun p => p.seat != seat || p.programmed || decide (q < p.seq)

/-- A group has what its acceptance needs of the pair or of the solo policy (R128, R129). -/
def grpCovered (s : State) (c : Cmd) (g : Grp) : Bool :=
  if s.pair.st = .paired then g.acked
  else if s.pair.st = .solo then
    !c.p.flashThrough || (rowsOnFlash s g && (match g.logged with | some q => dlogOnFlash s (ownerSeat s c.nsid) q | none => false))
  else false

/-- What a group's acceptance needs of its own command (R106, R128, R131): its records are complete, it is the command's next, and every block
has passed its checks. -/
def grpWhole (s : State) (seat num : Nat) (g : Grp) : Bool :=
  g.complete && (match cmdOf s g.cmd with
    | some c => c.groups.head? == some num && c.failed.isNone && (c.p.pi == 0 || c.left == 0) && (groupSeat s c == seat || cmdDealloc c)
    | none => false)

/-- A group can be accepted now (R106, R128, R131). -/
def grpReady (s : State) (seat num : Nat) (g : Grp) : Bool :=
  grpWhole s seat num g && (match cmdOf s g.cmd with | some c => grpCovered s c g | none => false)

/-- Entries a record commits. -/
def deltaLbas (d : Delta) : List Nat := if d.kind = .dealloc then (List.range d.value).map fun i => d.lba + i else [d.lba]

/-- Lines of a group's entries on the namespace's home seat, or of its zone's descriptors: page and line (R146, R183). -/
def entLines (s : State) (c : Cmd) (g : Grp) : List (Nat × Nat) :=
  if c.p.zoned then
    (g.recs.filterMap fun d => (zoneOf s c.nsid d.lba).map fun x => zoneDir x.1 (segRank x.2.1 x.2.2 - 1)).eraseDups
  else
    ((g.recs.foldl (fun l d => l ++ deltaLbas d) []).map fun x => (dirKey c.nsid (x / pageEnts), x % pageEnts / 32)).eraseDups

/-- Lines of the records that those entries and the group's records name (R146). -/
def recLines (s : State) (c : Cmd) (g : Grp) : List (Nat × Nat) :=
  if c.p.zoned then []
  else
    let olds := (((g.recs.foldl (fun l d => l ++ deltaLbas d) []).map (entAt s c.nsid)).filter fun e =>
      entSt e == .mapped || entSt e == .dealloc).map (·.handle)
    let new := (g.recs.filter fun d => d.kind == .extent || d.kind == .ref).map (·.value)
    ((olds ++ new).map fun h => (recDir c.p.tenant h, h % 34359738368 % 1024 / 16)).eraseDups

/-- Put a command's unit in a seat's page-fill queue (R146). -/
def fillWait (k cmd idx : Nat) (s : State) : State :=
  let seat := ownerSeat s (dirOwner k)
  let l := fgetD s.map.fills seat []
  if l.contains (k, cmd, idx) then s else { s with map := { s.map with fills := fset s.map.fills seat (l ++ [(k, cmd, idx)]) } }

/-- A group's command looks up a line (R146, R150): a page not in DRAM is asked for, a line not in the cache blocks a lane; a page that has
never existed has nothing to look up. -/
def lineAsk (seat num cmd : Nat) (x : Nat × Nat) (s : State) : State :=
  let home := ownerSeat s (dirOwner x.1)
  let found := grpMod seat num (fun g => { g with looked := x :: g.looked })
  match fget s.map.dirs x.1 with
  | none => found s
  | some d =>
    if !d.resident then fillWait x.1 cmd 0 s
    else match lineAddr s home x.1 x.2 with
      | none => found s
      | some a =>
        if (tcOf s home).lanes.any fun l => l.2.line == a && l.2.cmd == cmd then s
        else
          let r := tcLookup home a cmd 0 s
          if r.2 then found r.1 else r.1

/-- A group still has to look up a line, or its page is gone from DRAM. -/
def lineLeft (seat num : Nat) (s : State) (x : Nat × Nat) : Bool :=
  (match fget s.ing.grps (pairKey seat num) with | some g => !g.looked.contains x | none => true) ||
    (match fget s.map.dirs x.1 with | some d => !d.resident | none => false)

/-- Look up those of a group's lines that are left; whether all have then been served. -/
def linesAsk (seat num : Nat) (l : List (Nat × Nat)) (s : State) : Bool × State :=
  let cmd := match fget s.ing.grps (pairKey seat num) with | some g => g.cmd | none => 0
  let s := foldS (l.filter (lineLeft seat num s)) (lineAsk seat num cmd) s
  (!l.any (lineLeft seat num s), s)

/-- A block of zeros of a zone is committed (R112): the accepted blocks advance, and no extent holds it. -/
def zoneZero (nsid lba : Nat) (s : State) : State :=
  match zoneOf s nsid lba with
  | none => s
  | some (zk, z, off) =>
    { s with map := { s.map with zones := fset s.map.zones zk { z with acc := max z.acc (off + 1), zeros := off :: z.zeros } } }

/-- A zone's descriptors with the page that holds an offset (R183): a descriptor of the page that begins later moves to the offset. -/
def segAdd (segs : List (Nat × Nat)) (p off : Nat) : List (Nat × Nat) :=
  if segPage segs off = some p then segs
  else
    let next := segs.find? fun d => decide (off < d.2)
    let l := match next with | some d => if d.1 = p then segs.filter (· != d) else segs | none => segs
    l.filter (fun d => decide (d.2 ≤ off)) ++ [(p, off)] ++ l.filter fun d => decide (off < d.2)

/-- A zone's extents are committed (R183): the page gets a descriptor at its first extent, and the accepted blocks advance. -/
def zoneCommit (nsid lba addr : Nat) (s : State) : State :=
  match zoneOf s nsid lba with
  | none => s
  | some (zk, z, off) => segsSet zk off { z with segs := segAdd z.segs (addr / 1024) off, acc := max z.acc (off + 1) } s

/-- Commit one record of an accepted group: on the map's home seat (R128), without its log record where FLASH_THROUGH has logged it. -/
def recCommit (c : Cmd) (logged : Bool) (d : Delta) (s : State) : State :=
  if c.p.zoned then
    let s := when (!logged) (dlogAdd (homeSeat s c.nsid) { d with ext := none }) s
    match d.record with
    | some r => zoneCommit c.nsid d.lba r.extent s
    | none => if d.kind = .zero then zoneZero c.nsid d.lba s else s
  else
    let t := commitDelta c.nsid c.p.tenant d s
    if logged then { t with map := { t.map with dbuf := s.map.dbuf, dlog := s.map.dlog, pageSeq := s.map.pageSeq, heads := s.map.heads } }
      |> (fun t => { t with ing := { t.ing with dirty := s.ing.dirty } }) |> wr (Reg.MAP_DLOG_SEQ (ownerSeat s c.nsid)) (rd s (Reg.MAP_DLOG_SEQ (ownerSeat s c.nsid)))
    else t

/-- Fingerprints of a group's unique blocks enter the seat's cache and its log in the tick of acceptance (R111). -/
def fpAccept (c : Cmd) (d : Delta) (idx : Nat) (id : Nat) (s : State) : State :=
  match blkOf s id idx with
  | some b =>
    if d.kind = .extent ∧ c.p.dedup ∧ !c.p.zoned then
      { s with ing := { s.ing with fpLog := s.ing.fpLog ++ [(c.seat, b.fp, d.value, c.p.tenant)] } } |> fpInsert c.seat b.fp d.value c.p.tenant
    else s
  | none => s

/-- p99.9 of a list of times: the smallest that 99.9 % of them do not exceed. -/
def percentile (l : List Nat) (num den : Nat) : Nat :=
  let a := l.mergeSort (· ≤ ·)
  a.getD (ceilDiv (a.length * num) den - 1) 0

/-- Samples of the last 10,000 strokes, and the percentile registers that show them (R138, R208). -/
def recent (s : State) (l : List (Nat × Nat)) : List (Nat × Nat) := l.filter fun x => s.stk.ext < x.2 + 10000

/-- NVQ_ACCEPT_P999 of a seat (R138). -/
def acceptShow (seat : Nat) (s : State) : State :=
  let l := recent s (fgetD s.ing.lats seat [])
  { s with ing := { s.ing with lats := fset s.ing.lats seat l } }
    |> wr (Reg.NVQ_ACCEPT_P999_LATENCY seat) (min 1048575 (percentile (l.map (·.1)) 999 1000))

/-- Note an acceptance time (R138). -/
def acceptTime (seat lat : Nat) (s : State) : State :=
  acceptShow seat { s with ing := { s.ing with lats := fset s.ing.lats seat ((lat, s.stk.ext) :: fgetD s.ing.lats seat []) } }

/-- Accept a group (R128): its deltas commit, holds become references, fingerprints are inserted; with the last group of a command the
completion posts and the time is sampled (R334). -/
def grpAccept (seat num lat : Nat) (s : State) : State :=
  match fget s.ing.grps (pairKey seat num) with
  | none => s
  | some g => (match cmdOf s g.cmd with
    | none => s
    | some c =>
      let s := foldS g.recs (fun d s => recCommit c g.logged.isSome d s) s
      let s := foldS g.recs (fun d s => if d.kind = .dealloc then s else fpAccept c d (d.lba - blkLba c 0) g.cmd s) s
      let s := foldS (List.range (g.hi - g.lo)) (fun i s => blkMod g.cmd (g.lo + i) (fun b => { b with hold := none }) s) s
      let s := { s with ing := { s.ing with grps := fdel s.ing.grps (pairKey seat num) } }
        |> cmdMod g.cmd (fun c => { c with groups := c.groups.drop 1, dirty := if g.logged.isSome then c.dirty else c.dirty - dlogSize g.recs })
      if g.hi < c.count ∧ cmdDealloc c = false then s
      else s |> when (cmdWrites c) (fun s => s |> bumpN (Reg.NVQ_ACCEPTED c.seat) 1 |> acceptTime c.seat lat |> rateSample c.seat c.p.loop true lat)
        |> finishCmd g.cmd .ok (match c.assigned with | some a => a | none => 0))

/-- FLASH_THROUGH (R129): a group that waits only for its deltas logs them, and a partly full buffer is written at once. -/
def ftLog (s : State) : State :=
  if s.pair.st ≠ .solo then s
  else foldS s.ing.grps (fun e s =>
    match cmdOf s e.2.cmd with
    | none => s
    | some c =>
      if c.p.flashThrough ∧ e.2.logged.isNone ∧ grpWhole s (keyHi e.1) (keyLo e.1) e.2 = true ∧ rowsOnFlash s e.2 = true then
        let seat := ownerSeat s c.nsid
        let s := foldS e.2.recs (fun d s => dlogAdd seat { d with replay := ((entAt s c.nsid d.lba).replay + 1) % 65536, ext := none } s) s
        let q := rd s (Reg.MAP_DLOG_SEQ seat)
        s |> dlogClose seat |> grpMod (keyHi e.1) (keyLo e.1) (fun g => { g with logged := some q })
          |> cmdMod e.2.cmd (fun c => { c with dirty := c.dirty - dlogSize e.2.recs })
      else s) s

/-- The pool of a write has turned READ_ONLY after its take: a write with no group accepted fails (R132). -/
def poolWritesFail (pool : Nat) (s : State) : State :=
  foldS (fkeep s.nv.cmds fun _ c => c.p.pool == pool && c.stage != .waiting && cmdWrites c) (fun e s =>
    match firstOpen s e.2 with
    | none => ingestError e.1 e.2.lba .writeProtected s
    | some _ => s) s

end Sys2Proof.Machine
end

