-- ==== Sys2Proof/Machine/FrontEnd.lean ====
section
/-!
DEFINITION. Machine/FrontEnd.lean: frames, connections, RDMA packets and the inspection register of the front end (R61 to R79, R95, R96, R99).
-/

namespace Sys2Proof.Machine

/-- The front end of a seat has opened, and the head runs (R64, R507). -/
def feOpen (s : State) (seat : Nat) : Bool := decide (seat < s.hw.seats) && (isSet s (Reg.FE_PORT_STATUS_OPEN seat) || serviceMode s == 3) && !s.boot.halted

/-- A sub-port has link. -/
def subUp (s : State) (seat sub : Nat) : Bool :=
  feOpen s seat && decide (sub < subPorts s seat) && bitOf (rd s (Reg.FE_PORT_STATUS_LINK_UP seat)) sub

/-- A queue pair that takes packets: connected, on a sub-port with link. -/
def qpLive (s : State) (seat q : Nat) : Option Qp :=
  match qpOf s seat q with
  | some x => if (x.st = .ready ∨ x.st = .draining) ∧ feOpen s seat = true then some x else none
  | none => none

/-! ### Frames -/

/-- A packet of a queue pair acts only on a sub-port with link; one of a blocked source is dropped and counted (R65, R96). -/
def fromQp (seat q : Nat) (f : Qp → State → State) (s : State) : State :=
  match qpLive s seat q with
  | none => s
  | some x =>
    if !subUp s seat x.subport then s
    else if isBlocked s seat x.src then bump (Reg.FE_RX_DROP_COUNT seat) s
    else f x s

/-- A frame on a sub-port of an open front end shows that the sub-port has link again (R65; log entry 98). -/
def linkHeard (seat sub : Nat) (s : State) : State :=
  if feOpen s seat && decide (sub < subPorts s seat) then
    s |> wrBit (Reg.FE_PORT_STATUS_LINK_UP seat) sub true |> wrBit (Reg.FE_PORT_STATUS_FEC_LOCK seat) sub true
  else s

/-- A frame arrives on a sub-port (R62, R66, R67, R96). -/
def feFrame (seat sub len src : Nat) (svc : FrameSvc) (s : State) : State :=
  let s := linkHeard seat sub s
  if !subUp s seat sub then s
  else s |> bumpN (Reg.FE_RX_BYTES seat sub) len
    |> when (decide (9216 < len) || svc == .unsupported || isBlocked s seat src) (bump (Reg.FE_RX_DROP_COUNT seat))

/-- FE_FRAME_RECEIVE. -/
def execFeFrameReceive (seat sub len src : Nat) (svc : FrameSvc) (s : State) : Host.Outcome State Fault Refusal :=
  go (running (fun s => feFrame seat sub len src svc s) s)

/-- The queue pairs of a sub-port, by seat and number. -/
def subQps (s : State) (seat sub : Nat) : List Nat := (s.fe.qps.filter fun e => keyHi e.1 == seat && e.2.subport == sub).map fun e => keyLo e.1

/-- A flow-control frame (R63): PAUSE is ignored; PFC is honoured for the priorities set in FE_PFC_EN, and what a priority held back goes on
when it resumes. -/
def pfcFrame (seat sub on off : Nat) (pause : Bool) (s : State) : State :=
  if pause || !subUp s seat sub then s
  else
    let k := pairKey seat sub
    let en := rd s (Reg.FE_PFC_EN_PRIO seat)
    let v := ((fgetD s.fe.paused k 0) ||| (on &&& en)) &&& (255 - off % 256)
    foldS (subQps s seat sub) (fun q s => s |> qpDrain seat q |> readsEnd seat q |> pullAll seat q)
      { s with fe := { s.fe with paused := if v = 0 then fdel s.fe.paused k else fset s.fe.paused k v } }

/-- A sub-port loses link (R65): its queue pairs go to the error state as their retries run out. -/
def subportDown (seat sub : Nat) (s : State) : State :=
  if !subUp s seat sub then s
  else s |> wrBit (Reg.FE_PORT_STATUS_LINK_UP seat) sub false |> wrBit (Reg.FE_PORT_STATUS_FEC_LOCK seat) sub false

/-- SUBPORT_LINK_DOWN. -/
def execSubportLinkDown (seat sub : Nat) (s : State) : Host.Outcome State Fault Refusal := go (running (fun s => subportDown seat sub s) s)

/-! ### RoCEv2 packets -/

/-- A packet for a connected queue pair (R66, R67, R79). -/
def rocePacket (seat qp len : Nat) (op : RoceOp) (ce : Bool) (sinceCnp : Nat) (s : State) : State :=
  fromQp seat qp (fun x s =>
    let s := bumpN (Reg.FE_RX_BYTES seat x.subport) len s
    if !op.supported then s |> qpSend seat qp 0 .rdma [seat, qp, 2] |> qpFail seat qp
    else s |> when (ce && decide (rd s (Reg.FE_CNP_INTERVAL_TICKS seat) ≤ sinceCnp)) (fun s =>
      s |> qpSend seat qp 0 .rdma [seat, qp, 7] |> bump (Reg.FE_CNP_SENT_COUNT seat))) s

/-- ROCE_PACKET_RECEIVE. -/
def execRocePacketReceive (seat qp len : Nat) (op : RoceOp) (ce : Bool) (sinceCnp : Nat) (s : State) : Host.Outcome State Fault Refusal :=
  go (running (fun s => rocePacket seat qp len op ce sinceCnp s) s)

/-- The window after `bytes` more have been acknowledged (R78): a round completes with one window's worth. Bytes beyond the rest of a round do
not count for the next, and a decrease leaves the rest of its round as it was (log entry 99). -/
def windowAck (s : State) (seat bytes : Nat) (x : Qp) : Qp :=
  let x := { x with unacked := x.unacked - bytes, retries := 0, rnrs := 0 }
  if bytes < x.roundLeft then { x with roundLeft := x.roundLeft - bytes }
  else
    let w := if x.decreased then x.window else min (winMax s seat) (x.window + 256 * rd s (Reg.FE_CC_AI seat))
    { x with window := w, roundLeft := w, decreased := false }

/-- A retry of what is not acknowledged, or the error state when the queue pair's retries are used up (R65, R69). -/
def qpRetry (seat qp : Nat) (s : State) : State :=
  match qpOf s seat qp with
  | none => s
  | some x =>
    if x.retryMax ≤ x.retries then qpFail seat qp s
    else s |> setQp seat qp { x with retries := x.retries + 1 } |> outSend seat x (x.unacked, none)

/-- The other end was not ready to receive: an RNR retry, or the error state (R69). -/
def rnrRetry (seat qp : Nat) (s : State) : State :=
  match qpOf s seat qp with
  | none => s
  | some x =>
    if x.rnrMax ≤ x.rnrs then qpFail seat qp s
    else s |> setQp seat qp { x with rnrs := x.rnrs + 1 } |> outSend seat x (x.unacked, none)

/-- Bytes have been acknowledged: what waited for the window goes on (R77, R78). -/
def ackBytes (seat qp bytes : Nat) (s : State) : State :=
  match qpOf s seat qp with
  | none => s
  | some x => s |> setQp seat qp (windowAck s seat bytes x) |> qpDrain seat qp |> readsEnd seat qp |> pullAll seat qp

/-- An acknowledgement packet (R66, R69): what it acknowledges, then what a NAK asks for; a NAK that names an error ends the queue pair. -/
def roceAck (seat qp bytes : Nat) (kind : AckKind) (s : State) : State :=
  fromQp seat qp (fun _ s =>
    let s := when (kind == .ack || decide (0 < bytes)) (ackBytes seat qp bytes) s
    match kind with
    | .ack => s
    | .rnr => rnrRetry seat qp s
    | .sequence => qpRetry seat qp s
    | .invalidRequest => qpFail seat qp s
    | .remoteAccess => qpFail seat qp s
    | .remoteOperation => qpFail seat qp s) s

/-- The local acknowledgement timeout expires (R65, R69). -/
def ackTimeout (seat qp : Nat) (s : State) : State :=
  match qpLive s seat qp with
  | none => s
  | some x => if x.unacked + x.requested = 0 then s else qpRetry seat qp s

/-- QP_ACK_TIMEOUT. -/
def execQpAckTimeout (seat qp : Nat) (s : State) : Host.Outcome State Fault Refusal := go (running (fun s => ackTimeout seat qp s) s)

/-- A Congestion Notification Packet (R78): at most one decrease in a round. -/
def cnpReceive (seat qp : Nat) (s : State) : State :=
  fromQp seat qp (fun x s =>
    let md := rd s (Reg.FE_CC_MD seat)
    let s := bump (Reg.FE_CNP_RCVD_COUNT seat) s
    if x.decreased ∨ md = 0 then s
    else setQp seat qp { x with window := max 4096 (x.window * (16 - md) / 16), decreased := true } s) s

/-- CNP_RECEIVE. -/
def execCnpReceive (seat qp : Nat) (s : State) : Host.Outcome State Fault Refusal := go (running (fun s => cnpReceive seat qp s) s)

/-! ### Connections (R68, R95) -/

/-- A path MTU (R69): 4,096 unless 1,024 or 2,048 is negotiated. -/
def mtuOf (mtu : Nat) : Nat := if mtu = 1024 ∨ mtu = 2048 then mtu else 4096

/-- A queue pair as a REQ sets it up (R69, R77). -/
def qpNew (s : State) (seat src sub mtu pd : Nat) (ours : Bool) : Qp :=
  ⟨.connecting, false, 0, sub, pd, none, src, mtuOf mtu, winInit s seat, 0, 0, winInit s seat, false, 0, ours, none, 7, 7, 0, [], [], 0, []⟩

/-- Lowest free queue pair of a seat's 16,384. -/
def qpFree (s : State) (seat : Nat) : Option Nat := (List.range 16384).find? fun q => (qpOf s seat q).isNone

/-- A connection request (R68, R95, R96). `pd` is the protection domain of the service that it names: 0 for NVMe over Fabrics (R71), a link's
for replication (R366; log entry 100). The 1,000 strokes slide, and requests that are dropped do not count (log entry 101). -/
def cmReq (seat src sub mtu pd : Nat) (s : State) : State :=
  if !subUp s seat sub || !isSet s (Reg.FE_PORT_STATUS_OPEN seat) then s
  else if isBlocked s seat src then bump (Reg.FE_RX_DROP_COUNT seat) s
  else
    let k := pairKey seat src
    let recent := (fgetD s.fe.cmReqs k []).filter fun t => s.stk.ext < t + 1000
    if rd s (Reg.FE_CM_RATE_COUNT seat) ≤ recent.length then
      { s with fe := { s.fe with cmReqs := fset s.fe.cmReqs k recent } } |> bump (Reg.FE_CM_REFUSED_COUNT seat)
    else
      let s := { s with fe := { s.fe with cmReqs := fset s.fe.cmReqs k (s.stk.ext :: recent) } }
      match qpFree s seat with
      | none => s |> cmSend seat sub [seat, src, 1] |> bump (Reg.FE_CM_REFUSED_COUNT seat)
      | some q => s |> setQp seat q (qpNew s seat src sub mtu pd false) |> cmSend seat sub [seat, src, 0, q]

/-- The agent of a seat hands over to new code (R551 step 2, R552). -/
def handsOver (s : State) (seat : Nat) : Bool :=
  s.upd.st == .activating && s.upd.step == 2 && decide (s.upd.handed.length < s.hw.seats) && seat + 1 + s.upd.handed.length == s.hw.seats

/-- CM_REQ: it waits while its seat's agent hands over (R552). -/
def execCmReq (seat src sub mtu pd : Nat) (s : State) : Host.Outcome State Fault Refusal :=
  go (running (fun s =>
    if handsOver s seat then { s with fe := { s.fe with held := s.fe.held ++ [⟨seat, src, sub, mtu, pd⟩] } } else cmReq seat src sub mtu pd s) s)

/-- Connection requests that waited are served once their seat's agent runs (R552). -/
def heldServe (s : State) : State :=
  let due := s.fe.held.filter fun h => !handsOver s h.seat
  foldS due (fun h s => cmReq h.seat h.src h.sub h.mtu h.pd s) { s with fe := { s.fe with held := s.fe.held.filter fun h => handsOver s h.seat } }

/-- A connection-management message in a state of the queue pair, from a source that is not blocked (R68, R96). -/
def cmStep (seat qp : Nat) (p : Qp → Bool) (f : Qp → State → State) (s : State) : State :=
  match qpOf s seat qp with
  | some x =>
    if !subUp s seat x.subport then s
    else if isBlocked s seat x.src then bump (Reg.FE_RX_DROP_COUNT seat) s
    else if p x then f x s else s
  | none => s

/-- CM_RTU (R68): the connection the other end asked for is ready. -/
def execCmRtu (seat qp : Nat) (s : State) : Host.Outcome State Fault Refusal :=
  go (running (fun s => cmStep seat qp (fun x => !x.ours && x.st == .connecting) (fun x s => setQp seat qp { x with st := .ready } s) s) s)

/-- A queue pair's connection ends: its commands end without a completion (R93), its controller loses the queue. -/
def qpClose (seat qp : Nat) (s : State) : State :=
  let s := s |> qpWorkEnds seat qp |> qpDrop seat qp
  let s := match ctrlOfQp s seat qp with
    | some (c, x) => setCtrl seat c { x with ioQps := x.ioQps.filter (· != qp) } s
    | none => s
  freeQp seat qp s

/-- CM_DREQ (R68): the other end disconnects; it is answered with DREP. -/
def execCmDreq (seat qp : Nat) (s : State) : Host.Outcome State Fault Refusal :=
  go (running (fun s => cmStep seat qp (fun _ => true) (fun x s => s |> cmSend seat x.subport [seat, x.src, 3, qp] |> qpClose seat qp) s) s)

/-- CM_DREP (R68): the answer to this device's DREQ. -/
def execCmDrep (seat qp : Nat) (s : State) : Host.Outcome State Fault Refusal :=
  go (running (fun s => cmStep seat qp (fun x => x.st == .draining) (fun _ s => qpClose seat qp s) s) s)

/-- This device disconnects a queue pair: DREQ, and the queue pair drains until its answer. -/
def qpDisconnect (seat qp : Nat) (s : State) : State :=
  let s := s |> qpWorkEnds seat qp |> qpDrop seat qp
  match qpOf s seat qp with
  | some x => s |> setQp seat qp { x with st := .draining, ctrl := none } |> cmSend seat x.subport [seat, x.src, 2, qp]
  | none => s

/-! ### Memory regions (R70 to R76) -/

/-- Region index of a remote key. -/
def rkeyIndex (rkey : Nat) : Nat := slice rkey 8 18

/-- An incoming request matches the current version of the region its key names (R70, R72). -/
def mrMatch (s : State) (x : Qp) (rkey addr len : Nat) (write : Bool) : Option (Nat × Mr) :=
  match fget s.fe.mrs (rkeyIndex rkey) with
  | none => none
  | some m =>
    let v := m.cur
    if rkey < 67108864 ∧ v.hasKey ∧ v.tag = rkey % 256 ∧ v.pd = x.pd ∧ x.pd ≠ 0 ∧ (if write then v.write else v.read) = true
        ∧ v.base ≤ addr ∧ addr + len ≤ v.base + v.len then some (rkeyIndex rkey, m)
    else none

/-- NAK Remote Access Error (R72): the queue pair enters the error state. -/
def nakAccess (seat qp : Nat) (s : State) : State :=
  s |> qpSend seat qp 0 .rdma [seat, qp, 3] |> bump (Reg.FE_NAK_ACCESS_COUNT seat) |> qpFail seat qp

/-- An RDMA WRITE in progress on a queue pair ends (R76). -/
def writeEnds (seat qp : Nat) (s : State) : State :=
  match qpOf s seat qp with
  | some x => (match x.writing with
    | some (i, e) => s |> setQp seat qp { x with writing := none } |> mrEnd i e
    | none => s)
  | none => s

/-- The first packet of an RDMA WRITE (R72, R73); one left unfinished before it ends. -/
def rdmaWriteFirst (seat qp rkey addr len : Nat) (s : State) : State :=
  fromQp seat qp (fun _ s =>
    let s := writeEnds seat qp s
    match qpOf s seat qp with
    | none => s
    | some x =>
      match mrMatch s x rkey addr len true with
      | none => nakAccess seat qp s
      | some (i, m) => s |> setMr i { m with cur := { m.cur with inflight := m.cur.inflight + 1 } }
          |> setQp seat qp { x with writing := some (i, m.cur.epoch) }) s

/-- RDMA_WRITE_FIRST_PACKET. -/
def execRdmaWriteFirstPacket (seat qp rkey addr len : Nat) (s : State) : Host.Outcome State Fault Refusal :=
  go (running (fun s => rdmaWriteFirst seat qp rkey addr len s) s)

/-- The last packet of an RDMA WRITE has been placed (R76): it is acknowledged. -/
def rdmaWriteLast (seat qp : Nat) (s : State) : State :=
  fromQp seat qp (fun x s => if x.writing.isSome then s |> writeEnds seat qp |> qpSend seat qp 0 .rdma [seat, qp, 0] else s) s

/-- RDMA_WRITE_LAST_PACKET. -/
def execRdmaWriteLastPacket (seat qp : Nat) (s : State) : Host.Outcome State Fault Refusal := go (running (fun s => rdmaWriteLast seat qp s) s)

/-- An RDMA READ request (R72, R73): matched when it arrives, first or again; its responses go as the window allows, and its work ends with
the last of them (R76). -/
def rdmaRead (seat qp rkey addr len : Nat) (s : State) : State :=
  fromQp seat qp (fun x s =>
    match mrMatch s x rkey addr len false with
    | none => nakAccess seat qp s
    | some (i, m) => s |> setMr i { m with cur := { m.cur with inflight := m.cur.inflight + 1 } }
        |> setQp seat qp { x with reading := x.reading ++ [(i, m.cur.epoch)] }
        |> qpSend seat qp len .rdma [seat, qp, 8, rkey, addr, len] |> readsEnd seat qp) s

/-- RDMA_READ_REQUEST: a retransmission is matched again like the first. -/
def execRdmaReadRequest (seat qp rkey addr len : Nat) (_again : Bool) (s : State) : Host.Outcome State Fault Refusal :=
  go (running (fun s => rdmaRead seat qp rkey addr len s) s)

/-- MR_REGISTER (R70 to R72, R75): refused in domain 0, out of range, or while a previous version is unretired; as the region table is the
package's, every seat counts the refusal (log entry 102). -/
def execMrRegister (slot index tag pd base len : Nat) (remRead remWrite : Bool) (s : State) : Host.Outcome State Fault Refusal :=
  go (mbxRun slot Opc.mrRegister (fun s =>
    if pd = 0 ∨ 4096 ≤ pd ∨ 262144 ≤ index ∨ len = 0 then refuse .invalidParam 0 s
    else
      let old := fget s.fe.mrs index
      let v : MrVer := ⟨match old with | some m => (m.cur.epoch + 1) % 65536 | none => 0, true, tag % 256, pd, base, len, remRead, remWrite, 0⟩
      match old with
      | none => okWith [] (setMr index ⟨v, none, none⟩ s)
      | some m => (match m.prev with
        | some _ => refuse .busy 0 (foldS (seatList s) (fun n s => bump (Reg.FE_EPOCH_BUSY_COUNT n) s) s)
        | none => okWith [] (setMr index ⟨v, if m.cur.inflight = 0 then none else some m.cur, none⟩ s))) s)

/-- MR_INVALIDATE (R75, R76): installs a version that matches no key and completes when the previous version retires. -/
def execMrInvalidate (slot index : Nat) (s : State) : Host.Outcome State Fault Refusal :=
  go (mbxBegin slot Opc.mrInvalidate (fun s =>
    match fget s.fe.mrs index with
    | none => (some (.invalidParam, 0, []), s)
    | some m =>
      match m.prev with
      | some _ => (some (.busy, 0, []), foldS (seatList s) (fun n s => bump (Reg.FE_EPOCH_BUSY_COUNT n) s) s)
      | none =>
        let v : MrVer := ⟨(m.cur.epoch + 1) % 65536, false, 0, m.cur.pd, 0, 0, false, false, 0⟩
        if m.cur.inflight = 0 then (some (.ok, 0, []), setMr index ⟨v, none, none⟩ s)
        else (none, setMr index ⟨v, some m.cur, some slot⟩ s)) s)

/-! ### Blocks and inspection -/

/-- SOURCE_BLOCK_EXPIRY (R96): the block of a source ends at its stroke. -/
def execSourceBlockExpiry (seat src : Nat) (s : State) : Host.Outcome State Fault Refusal :=
  go (running (fun s => match fget s.fe.blocked (pairKey seat src) with
    | some t => if t ≤ s.stk.ext then { s with fe := { s.fe with blocked := fdel s.fe.blocked (pairKey seat src) } } else s
    | none => s) s)

/-- The number of a queue pair state (NVQ_QP_STATE). -/
def qpStNum : QpState → Nat
  | .free => 0 | .connecting => 1 | .ready => 2 | .error => 3 | .draining => 4

/-- NVQ_QP_SELECT is written (R99): the inspection registers load from the queue pair; one not in use reads as zero. -/
def qpSelect (seat value : Nat) (s : State) : State :=
  if s.hw.seats ≤ seat then s
  else
    let i := value % 16384
    let s := wr (Reg.NVQ_QP_SELECT_INDEX seat) i s
    let x := (qpOf s seat i).getD ⟨.free, false, 0, 0, 0, none, 0, 0, 0, 0, 0, 0, false, 0, false, none, 0, 0, 0, [], [], 0, []⟩
    s |> wr (Reg.NVQ_QP_STATE_STATE seat) (qpStNum x.st) |> wr (Reg.NVQ_QP_STATE_CLASS seat) x.cls |> wrB (Reg.NVQ_QP_STATE_ADMIN seat) x.admin
      |> wr (Reg.NVQ_QP_STATE_SUBPORT seat) x.subport |> wr (Reg.NVQ_QP_STATE_PD seat) x.pd
      |> wr (Reg.NVQ_QP_CTRL_CONTROLLER seat) (x.ctrl.getD 0) |> wr (Reg.NVQ_QP_WINDOW_KIB seat) (x.window / 1024)
      |> wr (Reg.NVQ_QP_OUTSTANDING_COUNT seat) (countWhere s.nv.cmds fun _ c => c.seat == seat && c.qp == i)

/-- NVQ_QP_SELECT. -/
def execNvqQpSelect (seat value : Nat) (s : State) : Host.Outcome State Fault Refusal := go (running (fun s => qpSelect seat value s) s)

end Sys2Proof.Machine
end

