-- ==== Sys2Proof/Machine/Faults.lean ====
section
/-!
DEFINITION. Machine/Faults.lean: what a fault that ends service does: the head fault, a fenced head, a block with read faults (R195, R321,
R322, R507, R517).
-/

namespace Sys2Proof.Machine

/-- A head fault (R507): the head halts; its front end closes and it sends no more pair frames; it writes no image and raises no fence. -/
def headHalt (s : State) : State :=
  if s.boot.halted then s
  else foldS (seatList s) (fun n s => s |> wr (Reg.FE_PORT_STATUS_OPEN n) 0) { s with boot := { s.boot with halted := true } }

/-- Commands of this head's sides complete with Asymmetric Access Inaccessible (R321). -/
def commandsRefuse (s : State) : State :=
  foldS s.nv.cmds (fun e s => s |> ingestDrop e.1 |> finishCmd e.1 .anaInaccessible 0) s

/-- A failback or handover ends unfinished with its session; a PAIR_HANDOVER that waits for it cannot reach the peer (R329). -/
def failbackStops (s : State) : State :=
  match s.pair.failback with
  | none => s
  | some f =>
    let s := { s with pair := { s.pair with failback := none } }
    match f.slot with
    | some n => mbxComplete n .peerUnreachable 0 [] s
    | none => s

/-- The head becomes FENCED (R318, R321, R322): it serves nothing. -/
def headFenced (s : State) : State :=
  if s.pair.st = .fenced then s
  else
    let s := s |> commandsRefuse |> pairTo .fenced |> failbackStops
    { s with pair := { s.pair with sides := [], claim := none, take := none, step := 0 } } |> anaChanged

/-- The band's rows are queued for collection ahead of the policy (R177, R196). -/
def bandAhead (pool band : Nat) (s : State) : State :=
  groupMod pool (fun g => { g with rows := fmapV g.rows fun n r => if bandOf g n = band ∧ r.st = .programmed then { r with ahead := true } else r }) s

/-- A read fault of the block that holds a member of a row, source BLOCK_READ (R195): lasting, the block is retired and its pages go to
a spare (R177). -/
def blockReadFault (pool row m : Nat) (s : State) : State :=
  match (groupOf s pool).bind fun g => (memberPage g row m).map fun x => (g, x) with
  | none => s
  | some (g, slot, die, block, _) =>
    let seat := slotSeat slot
    let inst := blockNum slot die block
    let r := faultCount seat 0x04 inst none [slot, die, block] s
    if r.2 then r.1 |> blockRetire pool (bandOf g row) m |> faultClear seat 0x04 inst else r.1

end Sys2Proof.Machine
end

