-- ==== Sys2Proof/Machine/ReadOps.lean ====
section
/-!
DEFINITION. Machine/ReadOps.lean: a read unit from its lookup to its placement: source, direct read, bypass, reconstruction, opening,
metadata, status (R146, R150, R189 to R208, R216, R236).
-/

namespace Sys2Proof.Machine

/-! ### Units -/

/-- A unit of a command. -/
def unitOf (s : State) (id idx : Nat) : Option RUnit := fget s.rds.units (pairKey id idx)

/-- Change a unit. -/
def unitMod (id idx : Nat) (f : RUnit → RUnit) (s : State) : State :=
  { s with rds := { s.rds with units := fmod s.rds.units (pairKey id idx) f } }

/-- A unit before its lookup. -/
def unitNew (lba : Nat) : RUnit :=
  { lba := lba, stage := .lookup, blocked := false, ent := none, addr := 0, row := none, dram := false, again := false, rebuilt := false,
    rcd := none, bypass := false, hedged := false, waiting := [], spare := [], here := false }

/-- Bypass reads in flight on a seat (R199). -/
def bypassesOut (s : State) (seat : Nat) : Nat :=
  countWhere s.rds.units fun k u => u.bypass && u.stage != .done && (match cmdOf s (keyHi k) with | some c => c.seat == seat | none => false)

/-! ### Status and completion (R91, R204 to R208) -/

/-- The order in which the failures of a read's units decide its status (R94, R204, R206). -/
def failRank : NvSts → Nat
  | .guardCheck => 0 | .appCheck => 1 | .refCheck => 2 | .internal => 3 | _ => 4

/-- The failure that a status code of a read stands for. -/
def readSts (code : Nat) : NvSts :=
  ([NvSts.guardCheck, .appCheck, .refCheck, .internal].find? fun x => nvCode x == code).getD .unrecoveredRead

/-- A part of a read has failed: its lowest failed LBA is kept, and the status that decides. -/
def readFails (id lba : Nat) (st : NvSts) (s : State) : State :=
  cmdMod id (fun c => { c with failed := some (match c.failed with
    | some (l, x) => (min l lba, if failRank st < failRank (readSts x) then nvCode st else x)
    | none => (lba, nvCode st)) }) s

/-- Time of a command since its take, in 0.25 µs units of 25 ticks. -/
def elapsed (s : State) (c : Cmd) : Nat := (nowTicks s - c.takenAt) / 25

/-- NVQ_RD_P50 and NVQ_RD_P9999 of a seat over the last 10,000 strokes (R208). -/
def readShow (seat : Nat) (s : State) : State :=
  let l := recent s (fgetD s.rds.lats seat [])
  { s with rds := { s.rds with lats := fset s.rds.lats seat l } }
    |> wr (Reg.NVQ_RD_P50_LATENCY seat) (min 1048575 (percentile (l.map (·.1)) 50 100))
    |> wr (Reg.NVQ_RD_P9999_LATENCY seat) (min 1048575 (percentile (l.map (·.1)) 9999 10000))

/-- Note a read time (R208): the percentiles, and the class's histogram. -/
def readTime (c : Cmd) (lat : Nat) (s : State) : State :=
  { s with rds := { s.rds with lats := fset s.rds.lats c.seat ((lat, s.stk.ext) :: fgetD s.rds.lats c.seat []) } }
    |> readShow c.seat |> rateSample c.seat c.p.loop false lat

/-- A unit is done; with the last one the command completes (R205, R206). -/
def unitDone (id idx : Nat) (lat : Option Nat) (s : State) : State :=
  let s := unitMod id idx (fun u => { u with stage := .done, blocked := false }) s
  if s.rds.units.any fun e => keyHi e.1 == id && e.2.stage != .done then s
  else match cmdOf s id with
    | none => s
    | some c =>
      let st := match c.failed with | some (_, x) => readSts x | none => .ok
      s |> readTime c (lat.getD (elapsed s c)) |> finishCmd id st 0

/-- A unit fails. -/
def unitFail (id idx : Nat) (st : NvSts) (lat : Option Nat) (s : State) : State :=
  match cmdOf s id, unitOf s id idx with
  | some c, some u =>
    s |> when (st == .unrecoveredRead) (bump (Reg.NVQ_RD_URE_COUNT c.seat)) |> readFails id u.lba st |> unitDone id idx lat
  | _, _ => s

/-! ### Placing (R204, R205) -/

/-- A unit that reads as zeros: never written or deallocated, or written as zeros (*Read sources*). -/
def unitZero (u : RUnit) : Bool := match u.ent with | some e => entSt e != .mapped | none => false

/-- Metadata of a unit never written: each protection-information byte is 0xFF, every other byte 0x00 (R190). -/
def unwrittenMd (p : NsParams) : Md :=
  if p.pi = 0 then ⟨0, 0, 0, 0⟩ else ⟨0, 2 ^ (if p.guard64 then 64 else 16) - 1, 65535, 2 ^ (if p.guard64 then 48 else 32) - 1⟩

/-- Metadata rebuilt from the stored metadata (R204); without protection information the stored metadata is all of it (R107). -/
def rebuiltMd (p : NsParams) (lba data : Nat) (st : Stored) : Md :=
  if p.pi = 0 then ⟨st.user, 0, 0, 0⟩
  else ⟨st.user, Config.guard p.guard64 data, st.app, if p.pi = 1 then lba % 2 ^ (if p.guard64 then 48 else 32) else st.ref⟩

/-- Data and metadata of an opened unit (R190, R204). -/
def unitData (s : State) (c : Cmd) (u : RUnit) : Nat × Md :=
  match u.ent with
  | some e =>
    (match u.rcd, entSt e with
    | none, .zero => (0, rebuiltMd c.p u.lba 0 ⟨0, 0, 0⟩)
    | none, _ => (0, unwrittenMd c.p)
    | some r, _ => (match fget s.par.exts r.extent, fget s.par.exts u.addr with
      | _, some x => (x.data, rebuiltMd c.p u.lba x.data x.stored)
      | some x, none => (x.data, rebuiltMd c.p u.lba x.data x.stored)
      | none, none => (0, unwrittenMd c.p)))
  | none => (0, unwrittenMd c.p)

/-- Place a unit by RDMA WRITE when the window has room for its next packet (R77, R205). -/
def unitPlace (id idx : Nat) (lat : Option Nat) (s : State) : State :=
  match cmdOf s id, unitOf s id idx with
  | some c, some u =>
    if u.stage ≠ .placing then s
    else (match qpOf s c.seat c.qp with
      | none => s
      | some q =>
        let b := unitBytes c
        if q.outq = [] ∧ txPaused s c.seat c.qp q = false ∧ q.unacked + q.requested + min b q.mtu ≤ q.window then
          let d := unitData s c u
          s |> qpSend c.seat c.qp b .rdma ([c.seat, c.qp, 5, id, idx, d.1] ++ (if b = 4096 then [] else [d.2.user, d.2.guard, d.2.app, d.2.ref]))
            |> unitDone id idx lat
        else s)
  | _, _ => s

/-- Units of a queue pair that wait for the window are placed, oldest command first. -/
def placeAll (seat q : Nat) (s : State) : State :=
  foldS (fkeep s.rds.units fun k u => u.stage == .placing && (match cmdOf s (keyHi k) with | some c => c.seat == seat && c.qp == q | none => false))
    (fun e s => unitPlace (keyHi e.1) (keyLo e.1) none s) s

/-- A unit's plaintext and metadata are there: the checks of R204, then its placement; a Verify places nothing (R207). -/
def unitOpened (id idx : Nat) (lat : Option Nat) (s : State) : State :=
  match cmdOf s id, unitOf s id idx with
  | some c, some u =>
    let d := unitData s c u
    let bare := unitZero u && (match u.ent with | some e => entSt e != .zero | none => true)
    match (if c.p.pi = 0 ∨ bare then none else piCheck c.p c.cap u.lba idx d.1 d.2) with
    | some st => unitFail id idx st lat s
    | none =>
      if c.op = .verify then unitDone id idx lat s
      else s |> unitMod id idx (fun u => { u with stage := .placing }) |> unitPlace id idx lat
  | _, _ => s

/-! ### Dies (R197, R262 to R264) -/

/-- A read of a die has ended (R197): in a suspension, after eight, or when none is left, the operation resumes. -/
def dieServed (slot die : Nat) (s : State) : State :=
  let d := dieOf s slot die
  if !d.suspended then s
  else
    let n := d.served + 1
    let s := dieMod slot die (fun d => { d with served := n }) s
    if 0 < dieReads s slot die || (decide (n < 8) && d.queue.any fun c => c.opcode == opRead) then s
    else s |> dieMod slot die (fun d => { d with suspended := false, served := 0, resumed := nowTicks s }) |> nandSend slot
      { nandCmd opResume die 0 0 .control with epoch := rd s (Reg.BLD_SLOT_FENCE_EPOCH slot) }

/-- What the head predicts of a die from when it sent what runs there and the timings that the blade reported (R197), in µs. -/
def dieWaits (s : State) (slot die : Nat) : Waits :=
  let run := ((portOf s slot).cmds.filter fun e => e.2.die == die && !e.2.late && (e.2.opcode == opProgram || e.2.opcode == opErase)).map Prod.snd
  match run, (slotOf s slot).geom with
  | c :: _, some g =>
    let t := typical g c.slc c.opcode
    let ran := (nowTicks s - max c.sent (dieOf s slot die).resumed) / 100
    let left := t - (nowTicks s - c.sent) / 100
    ⟨left, if c.opcode = opProgram then 1 else 2, left, ran, 0, []⟩
  | _, _ => ⟨0, 0, 0, 0, 0, []⟩

/-- Whether a program or erase that runs on a die is suspended for a read (R197). -/
def suspendWanted (s : State) (seat slot die : Nat) (slc : Bool) (w : Waits) : Bool :=
  let d := dieOf s slot die
  let tR := match (slotOf s slot).geom with | some g => typical g slc opRead | none => 0
  let most := if w.running = 1 then rd s (Reg.NVQ_RD_SUSPEND_PROG_MAX seat) else rd s (Reg.NVQ_RD_SUSPEND_ERASE_MAX seat)
  isSet s (Reg.NVQ_RD_CTRL_SUSPEND_EN seat) && decide (w.running ≠ 0) && !d.suspended && !d.suspending && !d.final && decide (d.suspends < most) &&
    decide (rd s (Reg.NVQ_RD_SUSPEND_THRESH_X16 seat) * tR < w.remaining * 16) && decide (rd s (Reg.NVQ_RD_SUSPEND_MIN_RUN seat) ≤ w.ran)

/-- Ask the bridge to suspend: the command goes ahead of what waits (R263). -/
def dieSuspend (slot die : Nat) (s : State) : State :=
  s |> dieMod slot die (fun d => { d with queue := nandCmd opSuspend die 0 0 .control :: d.queue, suspending := true }) |> diePump slot die 8

/-- Issue a read to a die for a seat, suspending what runs there where R197 asks for it. -/
def readIssue (seat slot : Nat) (c : NandCmd) (s : State) : State :=
  s |> when (suspendWanted s seat slot c.die c.slc (dieWaits s slot c.die)) (dieSuspend slot c.die) |> nandIssue slot c

/-- The seat that serves a command. -/
def servingSeat (s : State) (id : Nat) : Nat := match cmdOf s id with | some c => c.seat | none => 0

/-! ### Members and reconstruction (R200, R203, R216) -/

/-- The extent a unit looked up. -/
def unitExt (s : State) (u : RUnit) : Option Ext := fget s.par.exts u.addr

/-- Codewords of a page that cover an extent (R200). -/
def cwMask (a len : Nat) : Nat :=
  bitsOf ((List.range 8).map fun c => decide (2048 * c < 16 * (addrOff a + len)) && decide (16 * addrOff a < 2048 * (c + 1)))

/-- Read one member of a row for a unit. -/
def memberRead (id idx m level : Nat) (prio : Bool) (s : State) : State :=
  match unitOf s id idx with
  | none => s
  | some u => (match unitExt s u with
    | none => s
    | some e => (match (groupOf s e.pool).bind (fun g => memberPage g e.row m), rowOf s e.pool e.row with
      | some (slot, die, block, page), some r =>
        readIssue (servingSeat s id) slot (readCmd die block page level (cwMask u.addr e.length) prio r.slc (.member id idx m)) s
      | _, _ => s))

/-- Starting level of a member's block (R265). -/
def memberLevel (s : State) (e : Ext) (m : Nat) : Nat :=
  match (groupOf s e.pool).bind fun g => memberPage g e.row m with
  | some (slot, die, block, _) => startLevel s slot die block
  | none => 0

/-- A unit cannot be rebuilt: its row is recorded as lost on its member (R236), after a failed check its LBA joins the lost-extent list
(R195), and it fails as Unrecovered Read Error. -/
def unitLost (id idx : Nat) (lat : Option Nat) (s : State) : State :=
  match cmdOf s id, unitOf s id idx with
  | some c, some u => (match unitExt s u with
    | none => unitFail id idx .unrecoveredRead lat s
    | some e =>
      let m := match groupOf s e.pool with | some g => extMember g e | none => 0
      let s := rowLost e.pool e.row [m] s
      let s := if u.again then { s with map := { s.map with lost := fset s.map.lost (lbaKey c.nsid u.lba) e.pool } } else s
      unitFail id idx .unrecoveredRead lat s)
  | _, _ => s

/-- Start reading k members of a unit's row, in the order given (R200, R203). -/
def membersRead (id idx : Nat) (prio : Bool) (order : List Nat) (s : State) : State :=
  match unitOf s id idx with
  | none => s
  | some u => (match unitExt s u with
    | none => s
    | some e =>
      let k := match groupOf s e.pool with | some g => rowK g e.row | none => 0
      let use := order.take k
      let s := unitMod id idx (fun u => { u with stage := .members, waiting := use, spare := order.drop k }) s
      foldS use (fun m s => memberRead id idx m (memberLevel s e m) prio s) s)

/-- Reconstruct a unit without charge (R195, R196, R203): from k surviving members, lowest first; with fewer the row is lost. -/
def unitRebuild (id idx : Nat) (lat : Option Nat) (s : State) : State :=
  match cmdOf s id, unitOf s id idx with
  | some c, some u => (match unitExt s u, (unitExt s u).bind fun e => groupOf s e.pool with
    | some e, some g =>
      let order := (aliveMembers g e.row).filter (· != extMember g e)
      if order.length < rowK g e.row then unitLost id idx lat s
      else s |> bump (Reg.NVQ_RD_DEGRADED_COUNT c.seat) |> unitMod id idx (fun u => { u with bypass := false, hedged := false }) |> membersRead id idx false order
    | _, _ => unitFail id idx .internal lat s)
  | _, _ => s

/-! ### The direct read (R192, R193, R196, R265) -/

/-- Read-retry levels of a blade in a cell mode (R265): at least one. -/
def levelsOf (s : State) (slot : Nat) (slc : Bool) : Nat :=
  match (slotOf s slot).geom with | some g => max 1 (min 16 (if slc then g.slcLevels else g.levels)) | none => 1

/-- The next level of a page's read, while R196 allows one more re-read on a seat: levels follow the first read's in order, wrapping, and none
is tried twice. -/
def nextRead (s : State) (seat slot : Nat) (c : NandCmd) : Option NandCmd :=
  let n := levelsOf s slot c.slc
  if c.rereads + 1 < n ∧ c.rereads < max 1 (rd s (Reg.NVQ_RD_CTRL_RETRY_MAX seat)) then
    some { c with
      level := (c.start + c.rereads + 1) % n, rereads := c.rereads + 1, bad := 0, left := ((List.range 8).filter fun i => bitOf c.mask i).length }
  else none

/-- Where the page of a unit's extent lies (R144, R177). -/
def unitPage (s : State) (u : RUnit) : Option (Nat × Nat × Nat × Nat × Bool) :=
  match unitExt s u with
  | none => none
  | some e => (match (groupOf s e.pool).bind (fun g => memberPage g e.row (extMember g e)), rowOf s e.pool e.row with
    | some (slot, die, block, page), some r => some (slot, die, block, page, r.slc)
    | _, _ => none)

/-- Another unit of the command has a direct read of this page on its way (R192): in its own stage, or beside its members. -/
def pageShared (s : State) (id idx : Nat) (u : RUnit) : Bool :=
  s.rds.units.any fun e => keyHi e.1 == id && keyLo e.1 != idx && e.2.addr / 1024 == u.addr / 1024 && !e.2.dram &&
    (e.2.stage == .reading || (e.2.hedged && !e.2.here && (e.2.stage == .members || e.2.stage == .opening)))

/-- Put a unit's direct read of its whole page in its die's queue (R192, R193), at the head when it is reissued (R202); a read of the page
that is on its way serves it too. -/
def directRead (id idx level : Nat) (front : Bool) (s : State) : State :=
  match unitOf s id idx, (unitOf s id idx).bind (unitPage s) with
  | some u, some (slot, die, block, page, slc) =>
    let c := readCmd die block page level 255 false slc (.unit id idx)
    if pageShared s id idx u then s
    else if front then
      s |> when (suspendWanted s (servingSeat s id) slot die slc (dieWaits s slot die)) (dieSuspend slot die)
        |> dieMod slot die (fun d => { d with queue := c :: d.queue }) |> diePump slot die 8
    else nandIssue slot c s
  | _, _ => s

/-- Units of a command that a read of this unit's page serves. -/
def pageUnits (s : State) (id idx : Nat) : List Nat :=
  match unitOf s id idx with
  | none => []
  | some u => (s.rds.units.filter fun e => keyHi e.1 == id && e.2.addr / 1024 == u.addr / 1024 && !e.2.dram &&
      (e.2.stage == .reading || (e.2.hedged && !e.2.here && (e.2.stage == .members || e.2.stage == .opening)))).map fun e => keyLo e.1

/-- Name of the data key of an extent (R382). -/
def extKey (s : State) (id : Nat) (e : Ext) : Nat := slotKey 0 (match cmdOf s id with | some c => c.p.domain | none => 0) e.keyGen

/-- A unit's extent is at an opening lane; its key is asked for when it is not in the cache (R194, R382). -/
def toOpening (id idx : Nat) (s : State) : State :=
  let s := unitMod id idx (fun u => { u with stage := .opening }) s
  match unitOf s id idx with
  | none => s
  | some u => (match unitExt s u with
    | some e => if slotHas s (servingSeat s id) (extKey s id e) then s else slotAsk (servingSeat s id) (extKey s id e) s
    | none => s)

/-- The extent of a unit's direct read crosses the keel to the serving seat in class READ (R14). -/
def unitKeel (id idx : Nat) (s : State) : State :=
  match unitOf s id idx with
  | none => s
  | some u => (match unitExt s u, unitPage s u with
    | some e, some p => keelSend (slotSeat p.1) (servingSeat s id) keelRead (16 * e.length) s
    | _, _ => s)

/-- A unit's direct read has brought its page: the unit goes to opening; one whose members are being read beside it keeps both until a result
has passed (R196, R202). -/
def directDone (id idx : Nat) (s : State) : State :=
  match unitOf s id idx with
  | none => s
  | some u =>
    let s := unitKeel id idx s
    if u.stage = .reading then s |> unitMod id idx (fun u => { u with rebuilt := false }) |> toOpening id idx
    else
      let s := unitMod id idx (fun u => { u with here := true }) s
      (match unitExt s u with
        | some e => if slotHas s (servingSeat s id) (extKey s id e) then s else slotAsk (servingSeat s id) (extKey s id e) s
        | none => s)

/-- A unit's direct read has failed for good: a hedged unit waits for its members; any other is reconstructed without charge. `checked`
says that a check failed (all retries, R196) and not only the time (R266). -/
def directLost (id idx : Nat) (checked : Bool) (s : State) : State :=
  match unitOf s id idx with
  | none => s
  | some u =>
    let s := s |> when checked (bump (Reg.NVQ_RD_OPEN_FAIL_COUNT (servingSeat s id)))
      |> unitMod id idx (fun u => { u with again := u.again || checked, hedged := false })
    if u.stage = .reading then unitRebuild id idx none s else s

/-- Candidates for a bypass of a unit (R199): other members of its row that are there, on blades that are not slow, with a wait at or
below the threshold; the least wait first, ties to the lowest member. -/
def bypassMembers (s : State) (seat : Nat) (g : Group) (e : Ext) (limit : Nat) (waits : List (Nat × Nat)) : List Nat :=
  let wait := fun m => match waits.find? fun x => x.1 == m with | some x => x.2 | none => 0
  let slow := fun m => match memberPage g e.row m with
    | some (slot, _) => bitOf (rd s (Reg.NVQ_RD_SLOW_BLADES_SLOTS seat (slot / 32))) (slot % 32)
    | none => true
  (((aliveMembers g e.row).filter fun m => m != extMember g e && !slow m && decide (wait m ≤ limit)).mergeSort fun a b => wait a < wait b || (wait a == wait b && a ≤ b))

/-- Start reading k members of a unit beside or in place of its direct read, when tokens allow it (R196, R201); whether it started. -/
def budgetStart (id idx : Nat) (order : List Nat) (bypass hedge : Bool) (s : State) : Bool × State :=
  match cmdOf s id, unitOf s id idx with
  | some c, some u => (match (unitExt s u).bind fun e => (groupOf s e.pool).map fun g => rowK g e.row with
    | none => (false, s)
    | some k =>
      if k ≤ order.length ∧ (256 * k : Nat) ≤ bypassTokens s c.seat then
        (true, s |> takeBypass c.seat k |> unitMod id idx (fun u => { u with bypass := bypass, hedged := hedge }) |> membersRead id idx bypass order)
      else (false, s))
  | _, _ => (false, s)

/-- Start a bypass of a unit when tokens and the number in flight allow it (R199 to R201); whether it started. -/
def bypassStart (id idx : Nat) (order : List Nat) (hedge : Bool) (s : State) : Bool × State :=
  let seat := servingSeat s id
  if bypassesOut s seat < rd s (Reg.NVQ_RD_BYPASS_MAX_INFLIGHT seat) then
    let r := budgetStart id idx order true hedge s
    if r.1 then (true, bump (Reg.NVQ_RD_BYPASSES_COUNT seat) r.2) else r
  else (false, s)

/-- The rows of the band that a row lies in are queued for relocation: its block needed three or more re-reads (R196). -/
def rowAhead (pool row : Nat) (s : State) : State :=
  match groupOf s pool with
  | some g => bandAhead pool (bandOf g row) s
  | none => s

/-- A codeword of a unit's page failed to decode (R196): a reconstruction starts beside the retries at the first failure while tokens last;
the next level is tried, or the read has failed. -/
def directRetry (id idx slot : Nat) (units : List Nat) (c : NandCmd) (s : State) : State :=
  let seat := servingSeat s id
  let s := if c.rereads = 0 then foldS units (fun i s =>
      match unitOf s id i with
      | some u => (match unitExt s u, (unitExt s u).bind fun e => groupOf s e.pool with
        | some e, some g =>
          if u.stage = .reading ∧ (match cmdOf s id with | some x => x.op == .read | none => false) = true then
            (budgetStart id i ((aliveMembers g e.row).filter (· != extMember g e)) false true s).2
          else s
        | _, _ => s)
      | none => s) s else s
  match nextRead s seat slot c with
  | some n =>
    let s := bump (Reg.NVQ_RD_RETRIES_COUNT seat) s
    let s := if n.rereads = 3 then (match (unitOf s id idx).bind (unitExt s) with | some e => rowAhead e.pool e.row s | none => s) else s
    readIssue seat slot { n with use := .unit id (units.headD idx) } s
  | none => foldS units (fun i s => directLost id i true s) s

/-- A unit's members give no result (R195, R202): where its direct read is on its way or has come, that one is used; a bypass reissues the
direct read it withdrew, at the head of its die's queue; any other reconstruction has failed. -/
def membersGone (id idx : Nat) (lat : Option Nat) (checked : Bool) (s : State) : State :=
  match unitOf s id idx with
  | none => s
  | some u =>
    let plain := fun (st : UStage) => unitMod id idx fun u => { u with
      stage := st, hedged := false, bypass := false, rebuilt := false, here := false, waiting := [], spare := [] }
    if u.hedged then plain (if u.here then .opening else .reading) s
    else if u.bypass then
      let s := plain .reading s
      (match unitPage s u with
        | some (slot, die, block, _, _) => directRead id idx (startLevel s slot die block) true s
        | none => unitRebuild id idx lat s)
    else s |> unitMod id idx (fun u => { u with again := u.again || checked }) |> unitLost id idx lat

/-- A read of a member for a reconstruction has failed (R202): it is replaced by a member not tried; where there is none the members give no
result. -/
def memberFails (id idx m : Nat) (s : State) : State :=
  match unitOf s id idx with
  | none => s
  | some u =>
    if u.stage ≠ .members ∨ !u.waiting.contains m then s
    else match u.spare with
      | x :: rest =>
        let s := unitMod id idx (fun u => { u with waiting := x :: u.waiting.filter (· != m), spare := rest }) s
        (match unitExt s u with | some e => memberRead id idx x (memberLevel s e x) u.bypass s | none => s)
      | [] => membersGone id idx none false s

/-- A member of a unit's reconstruction has arrived: the codewords that cover the extent cross the keel in class READ (R14, R200). -/
def memberArrives (id idx m : Nat) (s : State) : State :=
  let s := match unitOf s id idx with
    | some u => (match unitExt s u with
      | some e => memberKeel e.pool e.row m (servingSeat s id) keelRead
          (2048 * ((List.range 8).filter (bitOf (cwMask u.addr e.length))).length) false s
      | none => s)
    | none => s
  unitMod id idx (fun u => if u.stage = .members then { u with waiting := u.waiting.filter (· != m) } else u) s

/-! ### Lookups (R146, R150, R189) -/

/-- Note the entry and record of a unit as committed in this tick (R189), its row and its readers count (R173, R191). -/
def unitRecord (id idx : Nat) (tenant : Nat) (s : State) : State :=
  match unitOf s id idx with
  | none => s
  | some u =>
    let now := match cmdOf s id, u.ent with | some c, some _ => some (entAt s c.nsid u.lba) | _, _ => u.ent
    let r := match now with | some e => if entSt e = .mapped then recOf s tenant e.handle else none | none => none
    let a := match r with | some x => x.extent | none => 0
    let row := match r.bind fun x => fget s.par.exts x.extent with | some e => some (pairKey e.pool e.row) | none => none
    s |> unitMod id idx (fun u => { u with ent := now, rcd := r, addr := a, row := row, blocked := false })
      |> (fun s => match row with | some k => rowMod (keyHi k) (keyLo k) (fun r => { r with readers := r.readers + 1 }) s | none => s)

/-- Look up one step of a unit: `k` names the page, `line` its line; `found` goes on once the line is served. `arrived` says that a fill
has just brought the line. -/
def lineStep (seat k line id idx : Nat) (arrived : Bool) (found : State → State) (s : State) : State :=
  match fget s.map.dirs k with
  | none => found s
  | some d =>
    if !d.resident then s |> fillWait k id idx |> unitMod id idx (fun u => { u with blocked := true })
    else match lineAddr s seat k line with
      | none => found s
      | some a =>
        if arrived then found s
        else
          let r := tcLookup seat a id idx s
          if r.2 then found r.1 else unitMod id idx (fun u => { u with blocked := true }) r.1

/-- The second half of a unit's lookup: its content record on the record's home seat (R146). -/
def lookupRecord (id idx : Nat) (c : Cmd) (arrived : Bool) (s : State) : State :=
  match (unitOf s id idx).bind (·.ent) with
  | none => s
  | some e =>
    if entSt e ≠ .mapped then unitMod id idx (fun u => { u with blocked := false }) s
    else
      let i := e.handle % 34359738368
      let k := dirKey (recOwner c.p.tenant e.handle) (i / 1024)
      lineStep (recSeat s (recKey c.p.tenant e.handle)) k (i % 1024 / 16) id idx arrived (unitRecord id idx c.p.tenant) s

/-- A zone's descriptors have been searched for a unit (R183): its segment's page and, among the headers of that page, its extent; a block
accepted as zeros has none (R112). -/
def zoneFound (id idx nsid : Nat) (z : Zone) (off : Nat) (s : State) : State :=
  let s := unitMod id idx (fun u => { u with ent := some { entReset with zero := z.zeros.contains off }, blocked := false }) s
  match unitOf s id idx, segPage z.segs off with
  | some u, some p => (match s.par.exts.find? fun x => x.1 / 1024 == p && x.2.nsid == nsid && x.2.lba == u.lba with
    | some (a, e) =>
      if off < z.acc ∧ !z.zeros.contains off ∧ !extPending s a then
        s |> unitMod id idx (fun u => { u with
              ent := some { entReset with handle := 1 }, addr := a, row := some (pairKey e.pool e.row)
              rcd := some ⟨a, e.length, e.mode, e.dict, e.keyGen, 1, 0, 0⟩ })
          |> rowMod e.pool e.row (fun r => { r with readers := r.readers + 1 })
      else s
    | none => s)
  | _, _ => s

/-- A unit's lookup, from the start or as a line arrives (R146, R150, R183, R189). -/
def unitLookup (id idx : Nat) (arrived : Bool) (s : State) : State :=
  match cmdOf s id, unitOf s id idx with
  | some c, some u =>
    if c.p.zoned then
      match zoneOf s c.nsid u.lba with
      | none => unitMod id idx (fun u => { u with ent := some entReset, blocked := false }) s
      | some (zk, z, off) =>
        let d := zoneDir zk (segRank z off - 1)
        lineStep (homeSeat s c.nsid) d.1 d.2 id idx arrived (zoneFound id idx c.nsid z off) s
    else match u.ent with
      | some _ => lookupRecord id idx c arrived s
      | none =>
        lineStep (homeSeat s c.nsid) (dirKey c.nsid (u.lba / pageEnts)) (u.lba % pageEnts / 32) id idx arrived
          (fun s => s |> unitMod id idx (fun u => { u with ent := some (entAt s c.nsid u.lba), blocked := false }) |> lookupRecord id idx c false) s
  | _, _ => s

/-- The lookups of a command's units begin (R189). -/
def readStart (id : Nat) (s : State) : State :=
  match cmdOf s id with
  | none => s
  | some c =>
    let s := foldS (List.range c.count) (fun i s =>
      { s with rds := { s.rds with units := fset s.rds.units (pairKey id i) (unitNew (c.lba + i)) } }) s
    foldS (List.range c.count) (fun i s => unitLookup id i false s) s

/-! ### The source (R190, R191, R197 to R203) -/

/-- The direct read of a unit, or the bypass that replaces it (R197 to R202). -/
def unitDirect (id idx : Nat) (w : Waits) (c : Cmd) (g : Group) (e : Ext) (s : State) : State :=
  match memberPage g e.row (extMember g e) with
  | none => unitRebuild id idx none s
  | some (slot, die, block, _) =>
    let seat := c.seat
    let slc := match fget g.rows e.row with | some r => r.slc | none => false
    let susp := suspendWanted s seat slot die slc w
    let s := if susp then dieSuspend slot die s else s
    let tR := match (slotOf s slot).geom with | some x => typical x slc opRead | none => 0
    let limit := max 1 (rd s (Reg.NVQ_RD_BYPASS_WAIT_X16 seat)) * tR / 16
    let wait := if susp then w.wait - w.remaining + w.suspend else w.wait
    let slow := bitOf (rd s (Reg.NVQ_RD_SLOW_BLADES_SLOTS seat (slot / 32))) (slot % 32)
    let want := c.op == .read && (decide (max 1 (rd s (Reg.NVQ_RD_BYPASS_WAIT_X16 seat)) * tR < wait * 16) || slow)
    let hedge := isSet s (Reg.NVQ_RD_CTRL_HEDGE seat)
    let r := if want && isSet s (Reg.NVQ_RD_CTRL_BYPASS_EN seat) then
        bypassStart id idx (bypassMembers s seat g e limit w.others) hedge s
      else (false, s)
    let s := r.2
    if r.1 && !hedge then s
    else
      let s := if want && !r.1 then bump (Reg.NVQ_RD_BYPASS_DENIED_COUNT seat) s else s
      let s := if r.1 then s else unitMod id idx (fun u => { u with stage := .reading }) s
      directRead id idx (startLevel s slot die block) false s

/-- A unit's lookups have finished: its source (R190, R191, R203). -/
def unitSource (id idx : Nat) (w : Waits) (s : State) : State :=
  match cmdOf s id, unitOf s id idx with
  | some c, some u =>
    if u.stage ≠ .lookup ∨ u.blocked then s
    else match u.ent with
      | none => s
      | some m =>
        if fhas s.map.lost (lbaKey c.nsid u.lba) then unitFail id idx .unrecoveredRead none s
        else match entSt m, u.rcd with
          | .fault, _ => s |> mapFault (homeSeat s c.nsid) [c.nsid, u.lba, entWord m] |> unitFail id idx .internal none
          | .mapped, none => s |> mapFault (homeSeat s c.nsid) [c.nsid, u.lba, entWord m] |> unitFail id idx .internal none
          | .mapped, some r => (match unitExt s u, (unitExt s u).bind fun e => groupOf s e.pool with
            | some e, some g =>
              if !addrValid s u.addr r.length then s |> mapFault (homeSeat s c.nsid) [c.nsid, u.lba, if c.p.zoned then u.addr else entWord m] |> unitFail id idx .internal none
              else if extLost s e then unitFail id idx .unrecoveredRead none s
              else (match fget g.rows e.row with
                | none => s |> mapFault (homeSeat s c.nsid) [c.nsid, u.lba, if c.p.zoned then u.addr else entWord m] |> unitFail id idx .internal none
                | some x =>
                  if rowUnsettled x then
                    s |> bump (Reg.NVQ_RD_DRAM_SERVED_COUNT c.seat) |> unitMod id idx (fun u => { u with dram := true }) |> toOpening id idx
                  else if (aliveMembers g e.row).contains (extMember g e) then unitDirect id idx w c g e s
                  else unitRebuild id idx none s)
            | _, _ => s |> mapFault (homeSeat s c.nsid) [c.nsid, u.lba, if c.p.zoned then u.addr else entWord m] |> unitFail id idx .internal none)
          | _, _ => unitOpened id idx none s
  | _, _ => s

/-! ### Opening (R194, R195) -/

/-- An extent as its header in a page's data describes it. -/
def extSeen (e : Ext) (seen : ExtSeen) : Ext :=
  match seen.header with
  | none => e
  | some h => { e with
      format := h.format, mode := h.mode, payload := h.payload, tenant := h.tenant, keyGen := h.keyGen, handle := h.handle, dict := h.dict
      metaLen := h.metaLen, nonce := h.nonce, nsid := h.nsid, lba := h.lba, sealedAt := h.sealedAt }

/-- A stored frame lies within *Zstandard profile* and decompresses to 4,096 bytes (R114). -/
def frameOk (dict : Option Nat) (f : FrameSeen) : Bool :=
  f.frames == 1 && f.magic == 0xFD2FB528 && f.singleSegment && f.checksum && f.contentSize == 4096 && f.dictId == dict.map (32768 + ·) &&
    f.blocks == 1 && f.last && f.blockType == 2 && f.offsetsOk && f.bytes == 4096

/-- The first of *Opening checks* 2 to 6 that fails for a unit's extent as it is found (R194): HEADER, TAG, FRAME, CHECKSUM, REFTAG. -/
def openCheck (c : Cmd) (u : RUnit) (e : Ext) (key : Nat) (seen : ExtSeen) : Option Nat :=
  let h := extSeen e seen
  match u.rcd, u.ent with
  | some r, some m =>
    if !(h.format == 1 && h.tenant == c.p.tenant && (if c.p.zoned then h.handle % 34359738368 == 0 else h.handle == m.handle) && h.mode == r.mode &&
        h.dict == r.dict && h.keyGen == r.keyGen && extLen h.payload == r.length) then some 2
    else if !(seen.body && extTag key h == e.tag) then some 3
    else if h.mode ≠ 0 ∧ (seen.frame.all (frameOk (if h.mode = 2 then some h.dict else none))) = false then some 4
    else if h.mode ≠ 0 ∧ seen.sumOk = false then some 5
    else if (c.p.zoned || !m.shared) && !(h.nsid == c.nsid && h.lba == u.lba) then some 6
    else none
  | _, _ => some 2

/-- An opening lane has finished a unit's extent (R194, R195): that of its direct read first, where both are there (R202). -/
def unitOpen (id idx : Nat) (lat : Option Nat) (seen : ExtSeen) (s : State) : State :=
  match cmdOf s id, unitOf s id idx with
  | some c, some u =>
    if u.stage ≠ .opening ∧ !u.here then s
    else match unitExt s u, (unitExt s u).bind fun e => groupOf s e.pool with
      | some e, some g =>
        let key := extKey s id e
        if !slotHas s c.seat key then slotAsk c.seat key s
        else
          let fails := openCheck c u e key seen
          let direct := u.here || !u.rebuilt
          let m := extMember g e
          let s := s |> when (fails != some 2) (fun s => s |> slotTouch c.seat key |> bump (Reg.CIP_OPENS c.seat))
            |> when (fails == some 3) (bump (Reg.CIP_TAG_FAIL_COUNT c.seat))
            |> when (fails == some 2 || fails == some 6) (bump (Reg.PAR_TAG_MISMATCH_COUNT c.seat))
          if fails = none then
            s |> when (u.dram && u.again) (engineFault c.seat 0 [c.nsid, u.lba])
              |> when (u.here && u.bypass) (bump (Reg.NVQ_RD_HEDGE_WON_COUNT c.seat))
              |> when (!u.dram && u.again && !direct) (fun s => s |> rowMod e.pool e.row (fun r => { r with ahead := true }) |> blockReadFault e.pool e.row m)
              |> unitMod id idx (fun u => { u with bypass := false, hedged := false, here := false, waiting := [], spare := [] }) |> unitOpened id idx lat
          else
            let settled := match fget g.rows e.row with | some r => !rowUnsettled r | none => true
            let s := bump (Reg.NVQ_RD_OPEN_FAIL_COUNT c.seat) s
            if u.dram ∧ u.again then s |> unitFail id idx .internal lat |> headHalt
            else if u.dram ∧ !settled then unitMod id idx (fun u => { u with again := true }) s
            else if u.dram then
              let s := unitMod id idx (fun u => { u with dram := false, again := false, stage := .reading }) s
              (match unitPage s { u with dram := false } with
                | some (slot, die, block, _, _) => directRead id idx (startLevel s slot die block) false s
                | none => unitRebuild id idx lat s)
            else if u.here then unitMod id idx (fun u => { u with again := true, hedged := false, here := false }) s
            else if direct then s |> unitMod id idx (fun u => { u with again := true }) |> unitRebuild id idx lat
            else membersGone id idx lat true s
      | _, _ => unitFail id idx .internal lat s
  | _, _ => s

/-- The parity engine has a unit's range (R216): the inverse cache, the bytes, then opening; a failed reconstruction is lost. -/
def unitParity (id idx : Nat) (ok : Bool) (s : State) : State :=
  match cmdOf s id, unitOf s id idx with
  | some c, some u =>
    if u.stage ≠ .members ∨ u.waiting ≠ [] then s
    else match unitExt s u, (unitExt s u).bind fun e => groupOf s e.pool with
      | some e, some g =>
        let x := match fget g.rows e.row with | some r => r.geom | none => g.cur
        let key := inverseKey (geomOf g x) e.row (((aliveMembers g e.row).filter (· != extMember g e)).filter fun m => !u.spare.contains m)
        let s := s |> inverseUse c.seat key |> bumpN (Reg.PAR_DEC_BYTES c.seat) (16 * e.length * rowK g e.row)
        if ok then s |> unitMod id idx (fun u => { u with rebuilt := true }) |> toOpening id idx
        else s |> engineFault c.seat 3 [e.pool, e.row] |> membersGone id idx none false
      | _, _ => unitFail id idx .internal none s
  | _, _ => s

end Sys2Proof.Machine
end

