-- ==== Sys2Proof/Machine/LinkOps.lean ====
section
/-!
DEFINITION. Machine/LinkOps.lean: how a NAND command ends, and what the loss of a link or a blade does (R222, R223, R253 to R256, R262 to R267,
R273, R287).
-/

namespace Sys2Proof.Machine

/-! ### Erased bands (R223) -/

/-- An erase of a band is still to come on some member. -/
def erasesOut (s : State) (pool band : Nat) : Bool :=
  s.bld.ports.any fun p =>
    let hit := fun (c : NandCmd) => match c.use with | .erase x b _ => x == pool && b == band && !c.late | _ => false
    (p.2.cmds.any fun e => hit e.2) || p.2.dies.any fun d => d.2.queue.any hit

/-- Blocks of a band's members, numbered. -/
def bandBlocks (g : Group) (band : Nat) : List Nat :=
  match fget g.bands band with
  | none => []
  | some b => (List.range b.blocks.length).filterMap fun m => match memberShare g b m, b.blocks[m]? with
    | some sh, some (d, k) => some (blockNum sh.slot d k)
    | _, _ => none

/-- Every block of a band has been erased or retired: its rows are free, nothing lies in them, and their blocks have one more erase
(R174, R223). -/
def bandFreed (pool band : Nat) (s : State) : State :=
  if erasesOut s pool band then s
  else match groupOf s pool with
    | none => s
    | some g =>
      let left := fun (k : Nat) => !(keyHi k == pool && bandOf g (keyLo k) == band)
      let s := { s with
        par := { s.par with exts := fkeep s.par.exts fun _ e => !(e.pool == pool && bandOf g e.row == band) }
        map := { s.map with heads := fkeep s.map.heads fun _ h => !(h.kind == 1 && h.pool == pool && bandOf g h.row == band) }
        upd := { s.upd with restarts := fmapV s.upd.restarts fun _ r => { r with missed := r.missed.filter left } } }
      groupMod pool (fun g => { g with
        bands := fdel g.bands band
        rows := fkeep g.rows fun n _ => bandOf g n != band
        lostRows := fkeep g.lostRows fun n _ => bandOf g n != band
        copies := fkeep g.copies fun a _ => match fget s.par.exts a with | some e => !(e.pool == pool && bandOf g e.row == band) | none => false
        salvage := fkeep g.salvage fun k _ => bandOf g (keyHi k) != band
        wear := (bandBlocks g band).foldl (fun w k => fset w k (fgetD w k 0 + 1)) g.wear }) s

/-! ### The end of a NAND command -/

/-- A page of a retired block has been read, or rebuilt: its copy goes to the spare (R177). -/
def salvageProgram (pool row m : Nat) (s : State) : State := pageProgram pool row m (.copied pool row m) s

/-- A page of a retired block is no longer to be copied. -/
def salvageEnds (pool row m : Nat) (s : State) : State := groupMod pool (fun g => { g with salvage := fdel g.salvage (pairKey row m) }) s

/-- A page of a retired block cannot be read (R177): it is rebuilt from the other members of its row; where that cannot be done the row is
lost on the member (R236) and a pad page takes its place. -/
def salvageLost (pool row m : Nat) (s : State) : State :=
  match groupOf s pool with
  | none => s
  | some g => (match fget g.rows row, memberBlock g row m with
    | some r, some _ =>
      if rowK g row ≤ ((aliveMembers g row).filter (· != m)).length then s |> rowDecode pool g row [m] r.seat |> salvageProgram pool row m
      else s |> rowLost pool row [m] |> salvageProgram pool row m
    | _, _ => salvageEnds pool row m s)

/-- A page of a retired block failed to decode (R196): the next level, or it cannot be read. -/
def salvageRetry (pool row m slot : Nat) (c : NandCmd) (s : State) : State :=
  match nextRead s (slotSeat slot) slot c with
  | some n => nandIssue slot n s
  | none => salvageLost pool row m s

/-- A command has failed as a time-out of its opcode does (R266, R267). -/
def nandFails (slot : Nat) (c : NandCmd) (s : State) : State :=
  match c.use with
  | .unit id idx => foldS (pageUnits s id idx) (fun i s => directLost id i false s) s
  | .member id idx m => memberFails id idx m s
  | .program pool row m => (match rowOf s pool row with
    | some r => if r.left.contains m then programFailed pool row m s else s
    | none => s)
  | .pad pool band m => blockRetire pool band m s
  | .erase pool band m => s |> blockRetire pool band m |> bandFreed pool band
  | .salvage pool row m => salvageLost pool row m s
  | .copied pool row m => (match groupOf s pool with | some g => blockRetire pool (bandOf g row) m s | none => s)
  | .control => if c.opcode = opSuspend then dieMod slot c.die (fun d => { d with final := true, suspending := false }) s else s

/-- The program or erase that ran on a die has ended: its suspensions are over (R197, R264). -/
def dieEnds (slot die : Nat) (s : State) : State :=
  dieMod slot die (fun d => { d with suspends := 0, suspended := false, suspending := false, served := 0, final := false }) s

/-- A member's page failed to decode (R196, R202): a bypass takes a member not tried, when there is one; otherwise the next level. -/
def memberRetry (id idx m slot : Nat) (c : NandCmd) (s : State) : State :=
  match unitOf s id idx with
  | none => s
  | some u =>
    if u.stage ≠ .members ∨ !u.waiting.contains m then s
    else if u.bypass ∧ u.spare ≠ [] then memberFails id idx m s
    else match nextRead s (servingSeat s id) slot c with
      | some n => s |> bump (Reg.NVQ_RD_RETRIES_COUNT (servingSeat s id))
          |> when (n.rereads == 3) (fun s => match unitExt s u with | some e => rowAhead e.pool e.row s | none => s)
          |> readIssue (servingSeat s id) slot n
      | none => memberFails id idx m s

/-- Note the time of a direct page read of a slot (R198; log entry 46). -/
def slotTime (slot micros : Nat) (s : State) : State :=
  let l := ((4 * micros, s.stk.ext) :: fgetD s.rds.slotLats slot []).filter fun x => s.stk.ext < x.2 + 1000
  { s with rds := { s.rds with slotLats := fset s.rds.slotLats slot l } }

/-- A codeword that covers a unit's extent is among those of a mask (R194). -/
def unitHurt (s : State) (id idx mask : Nat) : Bool :=
  match unitOf s id idx with
  | none => false
  | some u => (match unitExt s u with
    | some e => let cw := cwMask u.addr e.length; (List.range 8).any fun i => bitOf cw i && bitOf mask i
    | none => true)

/-- A command has completed with OK (R262). -/
def nandOk (slot : Nat) (c : NandCmd) (micros : Nat) (s : State) : State :=
  if c.opcode = opRead then
    let bad := if 0 < c.left then 255 else c.bad
    if bad ≠ 0 then (match c.use with
      | .unit id idx =>
        let units := pageUnits s id idx
        let hurt := units.filter fun i => unitHurt s id i bad
        let s := foldS (units.filter fun i => !hurt.contains i) (fun i s => directDone id i s) s
        if hurt = [] then slotTime slot micros s else directRetry id idx slot hurt c s
      | .member id idx m => memberRetry id idx m slot c s
      | .salvage pool row m => salvageRetry pool row m slot c s
      | _ => s)
    else
      let s := setLevel slot c.die c.block c.level s
      (match c.use with
        | .unit id idx => foldS (pageUnits s id idx) (fun i s => directDone id i s) (slotTime slot micros s)
        | .member id idx m => memberArrives id idx m s
        | .salvage pool row m => salvageProgram pool row m s
        | _ => s)
  else if c.opcode = opProgram then
    let s := dieEnds slot c.die s
    (match c.use with
      | .program pool row m => memberOnFlash pool row m s
      | .copied pool row m => salvageEnds pool row m s
      | _ => s)
  else if c.opcode = opErase then
    let s := s |> dieEnds slot c.die |> setLevel slot c.die c.block 0
    (match c.use with
      | .erase pool band _ => bandFreed pool band s
      | _ => s)
  else if c.opcode = opSuspend then
    s |> bump (Reg.NVQ_RD_SUSPENDS_COUNT (slotSeat slot))
      |> dieMod slot c.die (fun d => { d with suspended := true, suspending := false, served := 0, suspends := d.suspends + 1 })
  else s

/-- This head owns the side of a pool with a share on a slot (R322). -/
def ownsOn (s : State) (slot : Nat) : Bool :=
  s.par.groups.any fun g => ownsSide s g.2.side && g.2.geoms.any fun x => x.2.shares.any fun sh => sh.slot == slot && !sh.lost

/-! ### Faults of links and blades (R254, R256, R267, R273, R287) -/

/-- A link is lost (R267, R273): every share of the blade is lost, unless its bridge restarts for an update (R555); every tag is free, every
outstanding command fails uncounted. -/
def linkLost (slot : Nat) (s : State) : State :=
  let p := portOf s slot
  let cmds := (p.cmds.filter fun e => !e.2.late).map (·.2) ++ p.dies.foldl (fun l d => l ++ d.2.queue) []
  let s := foldS p.cmds (fun e s => nandOwnsEnd e.2 s) s |> portMod slot (fun p => { portReset with rxSeq := p.rxSeq })
    |> wrB (portReg Reg.OAR_PORT_STATUS_SESSION slot) false |> wrB (Reg.BLD_SLOT_STATUS_ATTESTED slot) false
    |> slotMod slot (fun x => { x with attesting := none, fencing := none })
    |> when (!fhas s.upd.restarts slot) (slotSharesLost slot)
  foldS cmds (fun c s => nandFails slot c s) s

/-- A port has FAILED (R254). -/
def portFail (slot : Nat) (s : State) : State :=
  if linkState s slot = 4 then s
  else s |> wr (portReg Reg.OAR_PORT_STATUS_STATE slot) 4 |> setLinkUp slot false |> linkLost slot

/-- A fault of a port (R287), source OAR_RETRAIN (1) or OAR_PROTO (2): lasting, the link is lost. -/
def portFault (slot source : Nat) (s : State) : State :=
  let seat := slotSeat slot
  let r := faultCount seat source slot none [slot] s
  if r.2 then r.1 |> portFail slot |> faultClear seat source slot else r.1

/-- The device retrains a link (R254). -/
def oarRetrain (slot : Nat) (s : State) : State :=
  if linkState s slot = 1 ∨ linkState s slot = 4 ∨ linkState s slot = 0 then s
  else s |> oarRetrainBase slot |> portFault slot 0x01

/-- A protocol error of a bridge (R256): the frame is discarded, counted, and the link retrained. -/
def protoError (slot : Nat) (s : State) : State :=
  s |> bump (portReg Reg.OAR_PORT_PROTO_ERR_COUNT slot) |> portFault slot 0x02 |> oarRetrain slot

/-- A fault of a blade's commands, source BLADE_CMD (R287): lasting, its shares are lost. -/
def bladeFault (slot : Nat) (s : State) : State :=
  let seat := slotSeat slot
  let r := faultCount seat 0x03 slot none [slot] s
  if r.2 then r.1 |> slotSharesLost slot |> faultClear seat 0x03 slot else r.1

/-- A completion on CPL (R262 to R267). A command that this head's own fence change has overtaken is issued again under the new epoch
(R279; log entry 60). -/
def nandComplete (slot tag status micros : Nat) (s : State) : State :=
  match fget (portOf s slot).cmds tag with
  | none => protoError slot s
  | some c =>
    let s := s |> portMod slot (fun p => { p with cmds := fdel p.cmds tag }) |> nandOwnsEnd c |> when (c.opcode == opRead && !c.late) (dieServed slot c.die)
    let s := if c.late then bump (portReg Reg.OAR_PORT_LATE_COUNT slot) s
      else match status with
        | 0 => nandOk slot c micros s
        | 3 =>
          let s := bump (portReg Reg.OAR_PORT_FENCED_COUNT slot) s
          let own := (match (slotOf s slot).fencing with | some (o, _) => o == myPort s | none => false) ||
            (isSet s (portReg Reg.OAR_PORT_STATUS_OWNER slot) && c.epoch != rd s (Reg.BLD_SLOT_FENCE_EPOCH slot))
          if own then nandIssue slot { c with left := ((List.range 8).filter fun i => bitOf c.mask i).length, bad := 0 } s
          else if ownsOn s slot then headFenced s else nandFails slot c s
        | 4 => nandFails slot c s
        | 6 => s |> dieMod slot c.die (fun d => { d with reset := true, suspended := false }) |> bladeFault slot |> nandFails slot c
        | _ => s |> when (c.opcode == opProgram || c.opcode == opErase) (dieEnds slot c.die) |> nandFails slot c
    s |> portPump slot

/-- A command's completion is overdue (R266, R267): the tag stays in use. -/
def nandTimeout (slot tag : Nat) (s : State) : State :=
  match fget (portOf s slot).cmds tag with
  | none => s
  | some c =>
    if c.late ∨ nowTicks s < c.due then s
    else s |> portMod slot (fun p => { p with cmds := fset p.cmds tag { c with late := true } })
      |> bump (portReg Reg.OAR_PORT_TIMEOUTS_COUNT slot) |> when (c.opcode == opRead) (dieServed slot c.die) |> bladeFault slot |> nandFails slot c |> portPump slot

/-- A read record on RDATA (R256, R259, R260). -/
def readRecord (slot tag cw : Nat) (raw erased crcOk decodes : Bool) (s : State) : State :=
  match fget (portOf s slot).cmds tag with
  | none => protoError slot s
  | some c =>
    if c.opcode ≠ opRead then protoError slot s
    else
      let ok := !erased && ((!raw && crcOk) || decodes)
      s |> when raw (bump (portReg Reg.OAR_PORT_RAW_CW_COUNT slot))
        |> bumpN (portReg Reg.OAR_PORT_RD_BYTES slot) (16 + (if raw then 2304 else 2064))
        |> when (!ok && !c.late) (bump (portReg Reg.OAR_PORT_DECODE_FAIL_COUNT slot))
        |> portMod slot (fun p => { p with cmds := fset p.cmds tag { c with left := c.left - 1, bad := if ok then c.bad else c.bad ||| 2 ^ (cw % 8) } })

end Sys2Proof.Machine
end

