-- ==== Sys2Proof/Machine/Nvme.lean ====
section
/-!
DEFINITION. Machine/Nvme.lean: the NVMe over Fabrics target: admin commands, the arrival of I/O commands, the command engine, zones and
placement handles (R80 to R94, R179, R180, R183 to R185, R343).
-/

namespace Sys2Proof.Machine

/-! ### Admin commands (R80 to R82, R86, R92) -/

/-- The checks of a capsule (R83, R97) for a command that moves at least so many bytes of data: SGL Descriptor Type Invalid, Data SGL Length
Invalid, Invalid Field in Command, then the status that the NVMe specification names for any other fault. -/
def capCheck (cap : Capsule) (data : Bool) (need : Nat) (mayCarry : Bool) : Option NvSts :=
  if data && !cap.sglTypeOk then some .sglType
  else if data && (if cap.inCapsule then mayCarry && decide (8192 < need) else decide (cap.sglLen < need)) then some .sglLength
  else if decide (16 < cap.sglCount) || decide (data ∧ 2097152 < cap.sglLen) || (cap.inCapsule && !mayCarry) then some .invalidField
  else cap.fault.map .other

/-- A command on a ready admin queue of a controller; the identifier must not be that of a held request (R94), and its capsule must pass its
checks (R83, R97). -/
def adminCmd (seat qp cid need : Nat) (cap : Capsule) (f : Nat → Ctrl → State → State) (s : State) : State :=
  fromQp seat qp (fun x s => match ctrlOfQp s seat qp with
    | some (c, y) =>
      if x.st ≠ .ready ∨ !x.admin then s
      else if y.aers.contains cid then s |> countStatus seat .cidConflict |> nvSend seat qp cid .cidConflict 0
      else (match capCheck cap (decide (need ≠ 0)) need false with
        | some st => nvSend seat qp cid st 0 s
        | none => f c y s)
    | none => s) s

/-- A namespace as a controller may name it: one of its subsystem (R94). -/
def nsFor (s : State) (y : Ctrl) (nsid : Nat) : Option Ns :=
  match nsOf s nsid with
  | some n => if y.subsys = some n.cur.p.subsys then some n else none
  | none => none

/-- Reclaim unit size in bytes: the row's data capacity (R185). -/
def reclaimUnit (s : State) (pool : Nat) : Nat := match groupOf s pool with | some g => 16384 * (curGeom g).k | none => 0

/-- Identify: namespace data (0), controller data (1: subsystem, maximum data transfer, ANATT, DLFEAT, which has bits [2:0] 000b (R180)), the
active namespaces (2). -/
def execNvmeIdentify (seat qp : Nat) (sqe : SqEntry) (cns nsid : Nat) (s : State) : Host.Outcome State Fault Refusal :=
  go (running (fun s => adminCmd seat qp sqe.cid 4096 sqe.cap (fun _ y s =>
    if cns = 0 then (match nsFor s y nsid with
      | some n =>
        let p := n.cur.p
        nvData seat qp sqe.cid 4096 [p.size, p.metaLen, p.pi, b2n p.guard64, p.ana + 1, b2n p.zoned, p.zoneSize, p.atomic, reclaimUnit s p.pool] s
      | none => nvSend seat qp sqe.cid .invalidNs 0 s)
    else if cns = 1 then nvData seat qp sqe.cid 4096 [match y.subsys with | some n => (match fget s.nv.subsys n with | some x => x.nqn | none => 0) | none => 0,
      2097152, 5, 0] s
    else if cns = 2 then nvData seat qp sqe.cid 4096 ((s.nv.ns.filter fun e => some e.2.cur.p.subsys == y.subsys && decide (nsid < e.1)).map Prod.fst) s
    else nvSend seat qp sqe.cid .invalidField 0 s) s) s)

/-- The 64 bytes of a Command Failure Detail entry (R92), as sixteen 32-bit words: identifier and submission queue, status, first failed LBA,
namespace, extended stroke; the rest zero. -/
def detailEntry (d : FailDetail) : List Nat :=
  [d.cid + 65536 * d.sq, d.status, d.lba % 4294967296, d.lba / 4294967296, d.nsid, 0, d.ext % 4294967296, d.ext / 4294967296] ++ List.replicate 8 0

/-- The words of log page 0xC2 (R92). -/
def detailWords (l : List FailDetail) : List Nat := l.flatMap detailEntry

/-- Subsystems that the discovery log shows to a host (R81). -/
def discovered (s : State) (host : Nat) : List Nat := (s.nv.subsys.filter fun e => e.2.hosts.contains host).map fun e => e.2.nqn

/-- Get Log Page: ANA (0x0C, R310), discovery (0x70, R81), Command Failure Detail (0xC2, R92); of pages 1 to 3 the spec gives no content
(log entry 1). -/
def execNvmeGetLogPage (seat qp : Nat) (sqe : SqEntry) (page : Nat) (s : State) : Host.Outcome State Fault Refusal :=
  go (running (fun s => adminCmd seat qp sqe.cid 1 sqe.cap (fun _ y s =>
    if y.subsys.isNone then
      (if page = 0x70 then nvData seat qp sqe.cid sqe.cap.sglLen (discovered s y.host) s else nvSend seat qp sqe.cid .invalidField 0 s)
    else if page = 0x0C then nvData seat qp sqe.cid sqe.cap.sglLen (s.nv.anas.foldl (fun l e => l ++ [e.1 + 1, anaState s e.1]) []) s
    else if page = 0xC2 then nvData seat qp sqe.cid sqe.cap.sglLen (detailWords y.log) s
    else if page = 1 ∨ page = 2 ∨ page = 3 then (let v := openValue s; nvData seat qp sqe.cid sqe.cap.sglLen [v.1] v.2)
    else nvSend seat qp sqe.cid .invalidField 0 s) s) s)

/-- Keep Alive Timer feature (log entry 20). -/
def katoFeature : Nat := 0x0F

/-- Get Features: the value last set, or the default, which the spec does not give. -/
def execNvmeGetFeatures (seat qp : Nat) (sqe : SqEntry) (fid : Nat) (s : State) : Host.Outcome State Fault Refusal :=
  go (running (fun s => adminCmd seat qp sqe.cid 0 sqe.cap (fun _ y s =>
    nvSend seat qp sqe.cid .ok (if fid = katoFeature then y.kato else fgetD y.features fid (Config.feature fid)) s) s) s)

/-- Set Features: the value stands; the Keep Alive Timer feature sets the controller's timeout. -/
def execNvmeSetFeatures (seat qp : Nat) (sqe : SqEntry) (fid value : Nat) (s : State) : Host.Outcome State Fault Refusal :=
  go (running (fun s => adminCmd seat qp sqe.cid 0 sqe.cap (fun c y s =>
    s |> setCtrl seat c (if fid = katoFeature then { y with kato := value, kaCount := y.kaCount + 1 } else { y with features := fset y.features fid value })
      |> nvSend seat qp sqe.cid .ok 0) s) s)

/-- Keep Alive (R86): the timer starts again. -/
def execNvmeKeepAlive (seat qp : Nat) (sqe : SqEntry) (s : State) : Host.Outcome State Fault Refusal :=
  go (running (fun s => adminCmd seat qp sqe.cid 0 sqe.cap (fun c y s => s |> setCtrl seat c { y with kaCount := y.kaCount + 1 } |> nvSend seat qp sqe.cid .ok 0) s) s)

/-- Asynchronous Event Request: completes with an event that waits, or is held until one comes (R310). -/
def execNvmeAsyncEventRequest (seat qp : Nat) (sqe : SqEntry) (s : State) : Host.Outcome State Fault Refusal :=
  go (running (fun s => adminCmd seat qp sqe.cid 0 sqe.cap (fun c y s => match y.events with
    | ev :: rest => s |> setCtrl seat c { y with events := rest } |> nvSend seat qp sqe.cid .ok ev
    | [] => setCtrl seat c { y with aers := y.aers ++ [sqe.cid] } s) s) s)

/-- Abort: a command of one of the controller's queues that the engine has not taken ends; DW0 is 0 when it did, 1 when not. -/
def execNvmeAbort (seat qp : Nat) (sqe : SqEntry) (sq target : Nat) (s : State) : Host.Outcome State Fault Refusal :=
  go (running (fun s => adminCmd seat qp sqe.cid 0 sqe.cap (fun c y s =>
    if sq = qp ∧ y.aers.contains target then
      s |> setCtrl seat c { y with aers := y.aers.filter (· != target) } |> nvSend seat qp target .aborted 0 |> nvSend seat qp sqe.cid .ok 0
    else match s.nv.cmds.find? fun e => e.2.seat == seat && e.2.qp == sq && e.2.cid == target && e.2.stage == .waiting && y.ioQps.contains sq with
      | some e => s |> finishCmd e.1 .aborted 0 |> nvSend seat qp sqe.cid .ok 0
      | none => nvSend seat qp sqe.cid .ok 1 s) s) s)

/-- Property Get. -/
def execNvmePropertyGet (seat qp : Nat) (sqe : SqEntry) (off : Nat) (s : State) : Host.Outcome State Fault Refusal :=
  go (running (fun s => adminCmd seat qp sqe.cid 0 sqe.cap (fun _ y s => nvSend seat qp sqe.cid .ok (fgetD y.props off (Config.property off)) s) s) s)

/-- Property Set. -/
def execNvmePropertySet (seat qp : Nat) (sqe : SqEntry) (off value : Nat) (s : State) : Host.Outcome State Fault Refusal :=
  go (running (fun s => adminCmd seat qp sqe.cid 0 sqe.cap (fun c y s => s |> setCtrl seat c { y with props := fset y.props off value } |> nvSend seat qp sqe.cid .ok 0) s) s)

/-- The number of the well-known discovery NQN in this model. -/
def discoveryNqn : Nat := 0

/-- The subsystem with an NQN. -/
def subsysByNqn (s : State) (nqn : Nat) : Option (Nat × Subsys) := s.nv.subsys.find? fun e => e.2.nqn == nqn

/-- A source address lies in a range allowed for a tenant (R82). -/
def sourceAllowed (s : State) (tenant src : Nat) : Bool :=
  match fget s.nv.tenants tenant with
  | some t => t.ranges.any fun r => decide (r.1 ≤ src) && decide (src ≤ r.2)
  | none => false

/-- Whether a host may connect to an NQN from an address (R81, R82): the subsystem, or the discovery service. -/
def connectTo (s : State) (nqn host src : Nat) : Option (Option Nat) :=
  if nqn = discoveryNqn then some none
  else match subsysByNqn s nqn with
    | some (i, x) => if x.hosts.contains host ∧ sourceAllowed s x.tenant src = true then some (some i) else none
    | none => none

/-- A Connect is refused: counted (R81, R82). -/
def connectRefuse (seat qp cid : Nat) (st : NvSts) (s : State) : State := s |> bump (Reg.FE_CM_REFUSED_COUNT seat) |> nvSend seat qp cid st 0

/-- NVME_CONNECT (R81, R82): without a controller number it creates a controller and its admin queue, with one an I/O queue. Its 1,024 bytes of
data travel in the capsule or by descriptor. -/
def execNvmeConnect (seat qp : Nat) (sqe : SqEntry) (nqn host kato : Nat) (joins : ConnectTo) (s : State) : Host.Outcome State Fault Refusal :=
  go (running (fun s => fromQp seat qp (fun x s =>
    if x.st ≠ .ready ∨ x.ctrl.isSome ∨ x.pd ≠ 0 then s
    else match capCheck sqe.cap true 1024 true with
    | some st => nvSend seat qp sqe.cid st 0 s
    | none => (match connectTo s nqn host x.src with
      | none => connectRefuse seat qp sqe.cid .connectHost s
      | some sub => (match joins.ctrl with
        | none => (match (List.range 4096).find? fun n => (ctrlOf s seat n).isNone with
          | none => connectRefuse seat qp sqe.cid .connectBusy s
          | some n => s |> setCtrl seat n ⟨sub, host, qp, [], kato, 0, [], [], [], [], []⟩
              |> setQp seat qp { x with admin := true, ctrl := some n, qid := joins.qid } |> pinsWake |> nvSend seat qp sqe.cid .ok n)
        | some n => (match ctrlOf s seat n with
          | none => nvSend seat qp sqe.cid .connectParam 0 s
          | some y =>
            if y.host ≠ host ∨ y.subsys ≠ sub then connectRefuse seat qp sqe.cid .connectHost s
            else if sub.isNone ∨ 128 ≤ y.ioQps.length then nvSend seat qp sqe.cid .connectParam 0 s
            else s |> setCtrl seat n { y with ioQps := y.ioQps ++ [qp] }
              |> setQp seat qp { x with admin := false, ctrl := some n, qid := joins.qid } |> pinsWake |> nvSend seat qp sqe.cid .ok n)))) s) s)

/-- A controller is torn down: its queue pairs disconnect, and its log goes (R86, R92). -/
def ctrlTear (seat c : Nat) (s : State) : State :=
  match ctrlOf s seat c with
  | none => s
  | some y =>
    let s := foldS (y.ioQps ++ [y.adminQp]) (fun q s => qpDisconnect seat q s) s
    { s with nv := { s.nv with ctrls := fdel s.nv.ctrls (pairKey seat c) } }

/-- NVME_DISCONNECT: a queue of the controller is torn down; with the admin queue the controller goes. -/
def execNvmeDisconnect (seat qp : Nat) (sqe : SqEntry) (s : State) : Host.Outcome State Fault Refusal :=
  go (running (fun s => fromQp seat qp (fun x s => match ctrlOfQp s seat qp with
    | some (c, y) =>
      if x.st ≠ .ready then s
      else (match capCheck sqe.cap false 0 false with
      | some st => nvSend seat qp sqe.cid st 0 s
      | none =>
        if x.admin then s |> nvSend seat qp sqe.cid .ok 0 |> ctrlTear seat c
        else s |> nvSend seat qp sqe.cid .ok 0 |> setCtrl seat c { y with ioQps := y.ioQps.filter (· != qp) } |> qpDisconnect seat qp)
    | none => s) s) s)

/-- KATO_EXPIRY (R86): the timer of this count of restarts expires; a Keep Alive of the same tick comes first (R59). -/
def execKatoExpiry (seat ctrl kaCount : Nat) (s : State) : Host.Outcome State Fault Refusal :=
  go (running (fun s => match ctrlOf s seat ctrl with
    | some y => if y.kaCount = kaCount ∧ y.kato ≠ 0 then s |> bump (Reg.NVQ_KATO_EXPIRED_COUNT seat) |> ctrlTear seat ctrl else s
    | none => s) s)

/-! ### Arrival of I/O commands (R84, R89, R90, R94, R97) -/

/-- Settings of no namespace. -/
def noParams : NsParams := ⟨0, 0, 0, 0, 0, 0, 0, 0, false, false, 0, false, false, 256, false, 64, 0, 3, false, false, 0⟩

/-- A capsule with nothing in it to check. -/
def plainCap : Capsule := ⟨true, 1, 0, false, none, none, 0, 0, 0, 0, []⟩

/-- NVME_UNSUPPORTED_OPCODE (R82): on any ready queue of a controller. -/
def execNvmeUnsupportedOpcode (seat qp cid _opcode : Nat) (s : State) : Host.Outcome State Fault Refusal :=
  go (running (fun s => fromQp seat qp (fun x s => if x.st = .ready ∧ x.ctrl.isSome then nvSend seat qp cid .invalidOpcode 0 s else s) s) s)

/-! ### The checks of a command at its take (R83, R94) -/

/-- A command moves data over its descriptors, and the bytes that the command itself fixes (R83): its blocks, or 16 for each range. -/
def cmdData (c : Cmd) : Bool × Nat :=
  match c.op with
  | .read => (true, c.count * unitBytes c) | .write => (true, c.count * unitBytes c) | .zoneAppend => (true, c.count * unitBytes c)
  | .deallocate l => (true, 16 * l.length)
  | .zoneReceive => (true, 0) | .ioReceive => (true, 0) | .ioSend _ => (true, 0)
  | .writeZeroes => (false, 0) | .flush => (false, 0) | .verify => (false, 0) | .zoneSend _ => (false, 0)

/-- Data of the command may travel in its capsule: data for the device (R83). -/
def cmdCarries (c : Cmd) : Bool := cmdPulls c || (match c.op with | .deallocate _ => true | .ioSend _ => true | _ => false)

/-- The checks of a capsule at its command's take (R83, R97): at most 2 MiB, and block data in the capsule complete. -/
def capsuleCheck (c : Cmd) : Option NvSts :=
  let d := cmdData c
  if d.1 && !c.cap.sglTypeOk then some .sglType
  else if cmdPulls c && c.cap.inCapsule && c.cap.data.length != c.count then some .sglLength
  else if (cmdPulls c || c.op == .read) && decide (512 < c.count) then (if c.cap.sglLen < d.2 && !c.cap.inCapsule then some .sglLength else some .invalidField)
  else capCheck c.cap d.1 d.2 (cmdCarries c)

/-- A command changes what its namespace holds. -/
def cmdChanges (c : Cmd) : Bool := cmdWrites c || (match c.op with | .deallocate _ => true | .zoneSend _ => true | _ => false)

/-- A command names a range of blocks. -/
def cmdRange (c : Cmd) : Bool := match c.op with | .flush => false | .ioSend _ => false | .ioReceive => false | _ => true

/-- A command of the Zoned Namespace Command Set. -/
def cmdZoned (c : Cmd) : Bool := match c.op with | .zoneAppend => true | .zoneSend _ => true | .zoneReceive => true | _ => false

/-- The conditions of R94 that a command meets at its take, the earliest row first; a command of a set that the namespace does not have is
not served (R82). -/
def cmdCheck (s : State) (c : Cmd) : Option NvSts :=
  match (ctrlOfQp s c.seat c.qp).bind fun x => nsFor s x.2 c.nsid with
  | none => some .invalidNs
  | some n =>
    let p := n.cur.p
    let ana := anaState s p.ana
    let pool := match groupOf s p.pool with | some g => poolReadOnly g | none => true
    if ana = 3 then some .anaInaccessible
    else if ana = 15 then some .anaTransition
    else if cmdWrites c ∧ writesBlocked s p.domain = true then some .nsNotReady
    else if (cmdWrites c && pool) || (cmdChanges c && (n.cur.adm == .readOnly || n.replica)) then some .writeProtected
    else if cmdRange c && ((cmdRanges c).any fun r => decide (p.size < r.1 + r.2) || decide (p.size ≤ r.1)) then some .lbaRange
    else if cmdZoned c ∧ !p.zoned then some .invalidOpcode
    else none

/-- What a waiting command will complete with at its take, or none: it is served. -/
def cmdRefused (s : State) (c : Cmd) : Option NvSts :=
  match capsuleCheck { c with p := (nsCur s c.nsid).getD noParams } with
  | some st => some st
  | none => cmdCheck s c

/-- The status of a command held past the hold limit: the earliest row of R94 that it meets (R425). -/
def heldStatus (s : State) (c : Cmd) : NvSts :=
  match (ctrlOfQp s c.seat c.qp).bind fun x => nsFor s x.2 c.nsid with
  | none => .invalidNs
  | some n => if anaState s n.cur.p.ana = 3 then .anaInaccessible else if anaState s n.cur.p.ana = 15 then .anaTransition else .nsNotReady

/-- A command held past the hold limit completes (R425). -/
def holdFail (id : Nat) (s : State) : State :=
  match cmdOf s id with
  | some c => finishCmd id (heldStatus s c) 0 s
  | none => s

/-- EASY_HOLD_LIMIT (R425): a held command has waited as long as its easy-all allows. -/
def execEasyHoldLimit (cmd : Nat) (s : State) : Host.Outcome State Fault Refusal :=
  go (running (fun s => match cmdOf s cmd with
    | some c => if c.stage = .waiting ∧ holdOver s c = true then holdFail cmd s else s
    | none => s) s)

/-- An I/O command arrives on a ready queue: an identifier already outstanding conflicts (R94); a queue of 1,024 entries refuses the push, which
is tried again as its queue takes it (R89; log entry 104); otherwise it waits for the engine, or fails at once under a hold limit of 0 (R425). -/
def ioArrive (seat qp cid nsid lba count : Nat) (op : CmdOp) (cap : Capsule) (s : State) : State :=
  fromQp seat qp (fun x s =>
    let mine := fkeep s.nv.cmds fun _ c => c.seat == seat && c.qp == qp
    if x.st ≠ .ready ∨ x.admin ∨ x.ctrl.isNone then s
    else if (mine.any fun e => e.2.cid == cid) || s.nv.pushq.any (fun c => c.seat == seat && c.qp == qp && c.cid == cid) then
      s |> countStatus seat .cidConflict |> nvSend seat qp cid .cidConflict 0
    else
      let c : Cmd := {
        seat := seat, qp := qp, cid := cid, op := op, nsid := nsid, lba := lba, count := count, cap := cap, stage := .waiting
        arrived := s.stk.ext, epoch := 0, ownEpoch := 0, p := noParams, left := 0, toPull := 0, failed := none, slots := 0, dirty := 0
        takenAt := 0, groups := [], assigned := none, part := 0 }
      if 1024 ≤ mine.length then { s with nv := { s.nv with pushq := s.nv.pushq ++ [c] } } |> bump (Reg.NVQ_PUSH_REFUSED_COUNT seat)
      else s |> setQp seat qp { x with cls := cmdClass s c } |> cmdPush c |> when (holdOver s c) (holdFail s.nv.nextCmd)) s

/-- NVME_READ. -/
def execNvmeRead (seat qp cid nsid lba count : Nat) (cap : Capsule) (s : State) : Host.Outcome State Fault Refusal :=
  go (running (ioArrive seat qp cid nsid lba count .read cap) s)
/-- NVME_WRITE. -/
def execNvmeWrite (seat qp cid nsid lba count : Nat) (cap : Capsule) (s : State) : Host.Outcome State Fault Refusal :=
  go (running (ioArrive seat qp cid nsid lba count .write cap) s)
/-- NVME_WRITE_ZEROES. -/
def execNvmeWriteZeroes (seat qp cid nsid lba count : Nat) (cap : Capsule) (s : State) : Host.Outcome State Fault Refusal :=
  go (running (ioArrive seat qp cid nsid lba count .writeZeroes cap) s)
/-- NVME_FLUSH. -/
def execNvmeFlush (seat qp : Nat) (sqe : SqEntry) (nsid : Nat) (s : State) : Host.Outcome State Fault Refusal := go (running (ioArrive seat qp sqe.cid nsid 0 0 .flush sqe.cap) s)
/-- Blocks of a list of ranges. -/
def rangesCount (l : List (Nat × Nat)) : Nat := (l.map Prod.snd).sum

/-- NVME_DATASET_MANAGEMENT: its ranges, each by first LBA and length; without the deallocate attribute it asks for nothing. -/
def execNvmeDatasetManagement (seat qp cid nsid : Nat) (ranges : List (Nat × Nat)) (deallocate : Bool) (cap : Capsule) (s : State) :
    Host.Outcome State Fault Refusal :=
  let l := if deallocate then ranges else []
  go (running (ioArrive seat qp cid nsid ((l.head?.map Prod.fst).getD 0) (rangesCount l) (.deallocate l) cap) s)
/-- NVME_VERIFY. -/
def execNvmeVerify (seat qp cid nsid lba count : Nat) (cap : Capsule) (s : State) : Host.Outcome State Fault Refusal :=
  go (running (ioArrive seat qp cid nsid lba count .verify cap) s)
/-- NVME_ZONE_APPEND. -/
def execNvmeZoneAppend (seat qp cid nsid lba count : Nat) (cap : Capsule) (s : State) : Host.Outcome State Fault Refusal :=
  go (running (ioArrive seat qp cid nsid lba count .zoneAppend cap) s)
/-- NVME_ZONE_MGMT_SEND. -/
def execNvmeZoneMgmtSend (seat qp : Nat) (sqe : SqEntry) (nsid lba action : Nat) (s : State) : Host.Outcome State Fault Refusal :=
  go (running (ioArrive seat qp sqe.cid nsid lba 1 (.zoneSend action) sqe.cap) s)
/-- NVME_ZONE_MGMT_RECEIVE. -/
def execNvmeZoneMgmtReceive (seat qp : Nat) (sqe : SqEntry) (nsid lba : Nat) (s : State) : Host.Outcome State Fault Refusal :=
  go (running (ioArrive seat qp sqe.cid nsid lba 1 .zoneReceive sqe.cap) s)
/-- NVME_IO_MGMT_SEND: the value is the placement handle it names. -/
def execNvmeIoMgmtSend (seat qp : Nat) (sqe : SqEntry) (nsid mo value : Nat) (s : State) : Host.Outcome State Fault Refusal :=
  go (running (ioArrive seat qp sqe.cid nsid 0 0 (.ioSend mo) { sqe.cap with handle := some value }) s)
/-- NVME_IO_MGMT_RECEIVE. -/
def execNvmeIoMgmtReceive (seat qp : Nat) (sqe : SqEntry) (nsid mo : Nat) (s : State) : Host.Outcome State Fault Refusal :=
  go (running (ioArrive seat qp sqe.cid nsid mo 0 .ioReceive sqe.cap) s)

/-! ### Eligibility and arbitration (R88, R90, R101, R146, R321) -/

/-- A new command of an owned side waits while the head is ARMED (R321). -/
def armedHold (s : State) (c : Cmd) : Bool :=
  s.pair.st == .armed && (match nsCur s c.nsid with | some p => ownsSide s p.side | none => false)

/-- A waiting command the engine may take now. -/
def takeable (s : State) (c : Cmd) : Bool :=
  !cmdHeld s c && hasToken s c && !armedHold s c && (!cmdRange c || decide (fillWaiters s (homeSeat s c.nsid) < 1024)) &&
    ((cmdRefused s c).isSome || (!shortCatch s c && !shortDirty s c))

/-- The commands a seat's engine may take now. -/
def eligible (s : State) (seat : Nat) : FMap Cmd := (waitingCmds s seat).filter fun e => takeable s e.2

/-- Arbitration before the first take: a new round starts; no queue has been served. -/
def arbReset : Arb := ⟨[0, 0, 0], [16384, 16384, 16384, 16384], [0, 0, 0, 0], 0⟩

/-- A seat's arbitration. -/
def arbOf (s : State) (seat : Nat) : Arb := fgetD s.nv.arb seat arbReset

/-- The class that the shares of a round serve next, in the order HIGH, MEDIUM, LOW; a class with no eligible command forfeits its share. -/
def shareClass (has : Nat → Bool) (sh : List Nat) : Option Nat × List Nat :=
  [0, 1, 2].foldl (fun r i => match r.1 with
    | some _ => r
    | none => if r.2.getD i 0 = 0 then r else if has (i + 1) then (some (i + 1), r.2.set i (r.2.getD i 0 - 1)) else (none, r.2.set i 0)) (none, sh)

/-- The class served next, and the shares left (R88). Where only classes of weight 0 have eligible commands they are served in the order HIGH,
MEDIUM, LOW (log entry 103). -/
def nextClass (weights : List Nat) (has : Nat → Bool) (sh : List Nat) : Option Nat × List Nat :=
  if has 0 then (some 0, sh)
  else match shareClass has sh with
    | (some c, l) => (some c, l)
    | (none, _) => (match shareClass has weights with
      | (some c, l) => (some c, l)
      | (none, l) => ([1, 2, 3].find? fun c => has c && weights.getD (c - 1) 0 == 0, l))

/-- The queue of a class served next (R88): the one in service until it has had its turn, then the next in number, wrapping. -/
def nextQueue (qs : List Nat) (last turn burst : Nat) : Option Nat :=
  if qs.contains last ∧ turn < burst then some last
  else match (qs.filter fun q => decide (last < q)).min? with
    | some q => some q
    | none => qs.min?

/-- The command that a seat's engine takes next, with its class and the arbitration after it (R88). -/
def arbPick (s : State) (seat : Nat) : Option (Nat × Cmd × Nat × Arb) :=
  let l := eligible s seat
  let a := arbOf s seat
  let weights := [rd s (Reg.NVQ_ARB_HIGH seat), rd s (Reg.NVQ_ARB_MEDIUM seat), rd s (Reg.NVQ_ARB_LOW seat)]
  let of := fun cls => l.filter fun e => cmdClass s e.2 == cls
  let r := nextClass weights (fun cls => !(of cls).isEmpty) a.shares
  match r.1 with
  | none => none
  | some cls =>
    let last := a.last.getD cls 16384
    match nextQueue ((of cls).map fun e => e.2.qp) last (a.turn.getD cls 0) (2 ^ rd s (Reg.NVQ_ARB_BURST seat)) with
    | none => none
    | some q => ((of cls).find? fun e => e.2.qp == q).map fun e =>
        (e.1, e.2, cls, ⟨r.2, a.last.set cls q, a.turn.set cls (if q = last then a.turn.getD cls 0 % 2 ^ rd s (Reg.NVQ_ARB_BURST seat) + 1 else 1),
          a.taken + 1⟩)

/-! ### Zones (R124, R183, R184) -/

/-- Zones of the package that are active: open or closed. -/
def activeZones (s : State) : Nat := countWhere s.map.zones fun _ z => z.st == 1 || z.st == 3

/-- A zone; one never opened is empty. -/
def zoneAt (s : State) (zk : Nat) : Zone := fgetD s.map.zones zk ⟨0, 0, 0, 0, [], []⟩

/-- Set a zone. -/
def setZone (zk : Nat) (z : Zone) (s : State) : State := { s with map := { s.map with zones := fset s.map.zones zk z } }

/-- Open a zone on a seat, which becomes its home seat (R124): refused (none) when 65,536 zones are active (R184). -/
def zoneOpen (zk seat : Nat) (s : State) : Option State :=
  let z := zoneAt s zk
  if z.st = 1 then some s
  else if z.st = 3 then some (setZone zk { z with st := 1, home := seat } s)
  else if 65536 ≤ activeZones s then none
  else some (setZone zk { z with st := 1, home := seat } s)

/-- A write to a zone at its take: a full zone, a write away from the write pointer or across the end is refused; an empty or closed zone opens
(R184). A Write advances the write pointer; a Zone Append's LBA is assigned later (R124). -/
def zoneAdmit (c : Cmd) (p : NsParams) (s : State) : Option NvSts × State :=
  let zk := zoneKey c.nsid (c.lba / p.zoneSize)
  let off := c.lba % p.zoneSize
  let z := zoneAt s zk
  if z.st = 2 then (some .zoneFull, s)
  else if c.op = .zoneAppend ∧ off ≠ 0 then (some .invalidField, s)
  else if p.zoneSize < (if c.op = .zoneAppend then z.wp else off) + c.count then (some .zoneBoundary, s)
  else if c.op ≠ .zoneAppend ∧ off ≠ z.wp then (some .zoneWrite, s)
  else match zoneOpen zk c.seat s with
    | none => (some .zonesActive, s)
    | some s =>
      if c.op = .zoneAppend then (none, s)
      else
        let z := zoneAt s zk
        (none, setZone zk { z with wp := z.wp + c.count, st := if z.wp + c.count = p.zoneSize then 2 else z.st } s)

/-- Writes of a zone in progress fail when it is finished or reset (log entry 47). -/
def zoneWritesFail (nsid zone size : Nat) (s : State) : State :=
  foldS (fkeep s.nv.cmds fun _ c => c.nsid == nsid && c.stage != .waiting && cmdWrites c && c.lba / max 1 size == zone)
    (fun e s => ingestError e.1 e.2.lba .writeFault s) s

/-- Seal the zone's open row on its home seat. -/
def zoneSeal (pool nsid zone home : Nat) (s : State) : State :=
  match openRow s pool home (streamZone nsid zone) with
  | some row => rowClose pool row true s
  | none => s

/-- The open row of a zone that is reset becomes free without copying (R184): what it held is no longer dirty. -/
def zoneFree (pool nsid zone home : Nat) (s : State) : State :=
  match openRow s pool home (streamZone nsid zone) with
  | some row => s |> dirtySub home (rowBytes s pool row) |> rowMod pool row (fun r => { r with st := .freed, dram := false, ahead := false })
      |> redundancy
  | none => s

/-- A zone's descriptors are dropped in one commit (R184): its map pages change. -/
def zoneDrop (zk : Nat) (s : State) : State :=
  let pages := (List.range 86).map fun i => (zoneDir zk (i * pageEnts)).1
  { s with map := { s.map with
      zones := fdel s.map.zones zk
      dirs := fmapV s.map.dirs fun k d => if pages.contains k then { d with dirty := true } else d } }

/-- Zone Management Send (R184): close (1), finish (2), open (3), reset (4). -/
def zoneAction (c : Cmd) (p : NsParams) (action : Nat) (s : State) : NvSts × State :=
  let zone := c.lba / p.zoneSize
  let zk := zoneKey c.nsid zone
  let z := zoneAt s zk
  if c.lba % p.zoneSize ≠ 0 then (.invalidField, s)
  else if action = 1 then
    (if z.st = 1 then (.ok, setZone zk { z with st := 3 } s) else if z.st = 3 then (.ok, s) else (.zoneInvalid, s))
  else if action = 2 then
    (if z.st = 2 then (.ok, s)
     else
       let s := s |> zoneWritesFail c.nsid zone p.zoneSize |> zoneSeal p.pool c.nsid zone z.home
       (.ok, setZone zk { zoneAt s zk with st := 2, wp := p.zoneSize } s))
  else if action = 3 then
    (if z.st = 2 then (.zoneInvalid, s) else match zoneOpen zk c.seat s with | some s => (.ok, s) | none => (.zonesActive, s))
  else if action = 4 then
    let s := s |> zoneWritesFail c.nsid zone p.zoneSize |> zoneFree p.pool c.nsid zone z.home |> zoneDrop zk
    (.ok, { s with map := { s.map with
      lost := fkeep s.map.lost fun k _ => !(decide (lbaKey c.nsid c.lba ≤ k) && decide (k < lbaKey c.nsid (c.lba + p.zoneSize))) } })
  else (.invalidField, s)

/-! ### Placement handles (R185) -/

/-- Open reclaim units of a namespace's placement handles: handle, seat, bytes left. -/
def unitsOpen (s : State) (nsid pool : Nat) : List Nat :=
  match groupOf s pool with
  | none => []
  | some g => (s.ing.ruhs.filter fun h => h.1 / 65536 == nsid).foldl (fun l h => g.rows.foldl (fun l r =>
      if r.2.st = .opened ∧ r.2.stream = streamFdp h.2 then
        l ++ [h.1 % 65536, r.2.seat, 16 * (1024 * ((geomOf g r.2.geom).k - r.2.page) - r.2.fill)]
      else l) l) []

/-- I/O Management Send: the handle starts a new reclaim unit, so its open row is sealed on every seat. -/
def unitUpdate (nsid pool handle : Nat) (s : State) : State :=
  foldS (seatList s) (fun n s => match openRow s pool n (streamFdp (ruhOf s nsid handle)) with
    | some row => rowClose pool row true s
    | none => s) s

/-! ### The take (R88, R90, R101, R309, R343) -/

/-- Tokens that a command costs: its data in 4 KiB units, at least 1 (R343). -/
def cmdTokens (c : Cmd) : Nat := if cmdPulls c ∨ c.op = .read then c.count else 1

/-- A taken command matches its entry and its group's ownership version, and keeps both to its completion (R90, R309). -/
def cmdMatch (id : Nat) (n : Ns) (s : State) : State :=
  let o := ownStart (ownKey false n.cur.p.ana) s
  let c := match cmdOf s id with | some c => c.nsid | none => 0
  o.2 |> stStart c |> cmdMod id (fun c => { c with stage := .working, epoch := n.cur.epoch, ownEpoch := o.1, p := n.cur.p, takenAt := nowTicks s })

/-- A write reserves its catch slots and dirty space and asks for its range locks (R101, R103). -/
def writeTake (id : Nat) (c : Cmd) (s : State) : State :=
  s |> cmdMod id (fun x => { x with stage := .locking, slots := needSlots c, dirty := needDirty c }) |> locksAsk id |> lockGo id

/-- Blocks that a deallocation applies to (R180): at most 2^20, none while HARD is set or the pool is READ_ONLY. -/
def deallocCount (s : State) (c : Cmd) (p : NsParams) : Nat :=
  if hardNow s c.seat ∨ (match groupOf s p.pool with | some g => poolReadOnly g | none => true) = true then 0 else min c.count 1048576

/-- The first `n` blocks of a list of ranges, in order (R180). -/
def rangesTake : Nat → List (Nat × Nat) → List (Nat × Nat)
  | _, [] => []
  | n, (a, k) :: t => if min n k = 0 then rangesTake n t else (a, min n k) :: rangesTake (n - k) t

/-- A deallocation (R179, R180): blocks skipped are counted; with none left it completes at once. -/
def deallocTake (id : Nat) (c : Cmd) (p : NsParams) (s : State) : State :=
  let n := deallocCount s c p
  let s := bumpN (Reg.MAP_DEALLOC_SKIPPED_COUNT c.seat) (c.count - n) s
  if n = 0 then finishCmd id .ok 0 s
  else s |> cmdMod id (fun x => { x with count := n, op := .deallocate (rangesTake n (cmdRanges c)), stage := .locking }) |> locksAsk id |> lockGo id

/-- A taken command goes on its way. -/
def cmdGo (id : Nat) (c : Cmd) (p : NsParams) (s : State) : State :=
  match c.op with
  | .read => readStart id s
  | .verify => readStart id s
  | .flush => finishCmd id .ok 0 s
  | .deallocate _ => deallocTake id c p s
  | .zoneSend a => (let r := zoneAction c p a s; finishCmd id r.1 0 r.2)
  | .zoneReceive =>
    let z := zoneAt s (zoneKey c.nsid (c.lba / p.zoneSize))
    s |> nvData c.seat c.qp c.cid c.cap.sglLen [c.lba / p.zoneSize, z.st, z.wp, p.zoneSize] |> dropCmd id
  | .ioSend mo =>
    if mo = 0 then finishCmd id .ok 0 s
    else if mo = 1 ∧ p.fdp then s |> unitUpdate c.nsid p.pool (c.cap.handle.getD 0) |> finishCmd id .ok 0
    else finishCmd id .invalidField 0 s
  | .ioReceive =>
    if p.fdp ∧ c.lba = 1 then s |> nvData c.seat c.qp c.cid c.cap.sglLen (unitsOpen s c.nsid p.pool) |> dropCmd id else finishCmd id .invalidField 0 s
  | _ =>
    if p.zoned then (match zoneAdmit c p s with
      | (some st, s) => finishCmd id st 0 s
      | (none, s) => writeTake id c s)
    else writeTake id c s

/-- The engine of a seat takes one command (R88): counted, its class's bucket charged, its checks made, its work begun. -/
def engineTake (seat : Nat) (s : State) : State :=
  match arbPick s seat with
  | none => s
  | some (id, c, cls, a) =>
    let s := { s with nv := { s.nv with arb := fset s.nv.arb seat a } } |> bumpN (Reg.NVQ_CMDS seat) 1
    let s := match qpOf s seat c.qp with | some x => setQp seat c.qp { x with cls := cls } s | none => s
    let st := cmdRefused s c
    match nsOf s c.nsid with
    | none => finishCmd id (st.getD .invalidNs) 0 s
    | some n =>
      let s := takeTokens seat n.cur.p.loop (cmdTokens c) s
      match st with
      | some st => finishCmd id st 0 s
      | none => s |> cmdMatch id n |> cmdGo id { c with p := n.cur.p } n.cur.p

/-- ENGINE_TAKE. -/
def execEngineTake (seat : Nat) (s : State) : Host.Outcome State Fault Refusal := go (running (engineTake seat) s)

end Sys2Proof.Machine
end

