-- ==== Sys2Proof/Machine/Ingest.lean ====
section
/-!
DEFINITION. Machine/Ingest.lean: the completions and timers of ingest, and dictionaries (R100 to R119, R124, R128 to R135, R146, R157).
-/

namespace Sys2Proof.Machine

/-! ### Dictionaries (R118, R119) -/

/-- Set a field of a dictionary slot on every seat (R137). -/
def dictSet (f : Nat → Nat → Fld) (d v : Nat) (s : State) : State := foldS (seatList s) (fun n s => wr (f n d) v s) s

/-- A slot is empty again: its retirement is complete. -/
def dictEmpty (d : Nat) (s : State) : State :=
  { s with ing := { s.ing with dicts := fdel s.ing.dicts d, retiring := fdel s.ing.retiring d } }
    |> dictSet Reg.CMP_DICT_LOADED d 0 |> dictSet Reg.CMP_DICT_RETIRING d 0 |> dictSet Reg.CMP_DICT_TENANT d 0
    |> dictSet Reg.CMP_DICT_SYSTEM d 0 |> dictSet Reg.CMP_DICT_SIZE d 0

/-- Retirements whose count has reached zero complete (R119). -/
def retireCheck (s : State) : State :=
  foldS ((List.range 256).filter fun d => isSet s (Reg.CMP_DICT_RETIRING 0 d)) (fun d s =>
    if dictRefs s d = 0 then
      let slot := fget s.ing.retiring d
      let s := dictEmpty d s
      match slot with
      | some n => mbxComplete n .ok 0 [] s
      | none => s
    else s) s

/-- The system domain as an owner (R381). -/
def systemTenant : Nat := 4095

/-- DICT_LOAD (R118, R119): its input is in host memory (R416). A loaded slot is immutable: a load into it is refused until its retirement has
completed. -/
def execDictLoad (slot dict tenant size id content : Nat) (system magicOk : Bool) (s : State) : Host.Outcome State Fault Refusal :=
  go (if readsOut s slot then s else mbxRun slot Opc.dictLoad (fun s =>
    if 256 ≤ dict then refuse .invalidParam 1 s
    else if !system && !fhas s.nv.tenants tenant then refuse .invalidParam 2 s
    else if size = 0 ∨ 65536 < size ∨ !magicOk ∨ id ≠ 32768 + dict then refuse .invalidParam 3 s
    else if dictRefs s dict ≠ 0 ∨ isSet s (Reg.CMP_DICT_LOADED 0 dict) = true then refuse .busy 0 s
    else okWith [] ({ s with ing := { s.ing with dicts := fset s.ing.dicts dict content } }
      |> dictSet Reg.CMP_DICT_TENANT dict (if system then systemTenant else tenant) |> dictSet Reg.CMP_DICT_SYSTEM dict (b2n system)
      |> dictSet Reg.CMP_DICT_SIZE dict (ceilDiv size 256) |> dictSet Reg.CMP_DICT_LOADED dict 1)) s)

/-- DICT_RETIRE (R119): new matches stop at once; it completes when the slot's count is zero. -/
def execDictRetire (slot dict : Nat) (s : State) : Host.Outcome State Fault Refusal :=
  go (mbxBegin slot Opc.dictRetire (fun s =>
    if 256 ≤ dict ∨ !isSet s (Reg.CMP_DICT_LOADED 0 dict) then (some (.invalidParam, 1, []), s)
    else if fhas s.ing.retiring dict then (some (.busy, 0, []), s)
    else if dictRefs s dict = 0 then (some (.ok, 0, []), dictEmpty dict s)
    else (none, { s with ing := { s.ing with retiring := fset s.ing.retiring dict slot } } |> dictSet Reg.CMP_DICT_RETIRING dict 1)) s)

/-- Data of the first mapped blocks of a namespace, in LBA order (log entry 48). -/
def sampleBlocks (s : State) (nsid count : Nat) : List Nat :=
  let ents := (s.map.dirs.filter fun d => dirOwner d.1 == nsid).foldl (fun l d =>
    l ++ ((fgetD s.map.pages d.2.page []).filter fun e => entSt e.2 == .mapped).map fun e => e.2.handle) []
  let tenant := match nsCur s nsid with | some p => p.tenant | none => 0
  (ents.filterMap fun h => (recOf s tenant h).bind fun r => (fget s.par.exts r.extent).map (·.data)).take count

/-- DICT_SAMPLE: copies sample blocks of a namespace to host memory. -/
def execDictSample (slot nsid count : Nat) (s : State) : Host.Outcome State Fault Refusal :=
  go (mbxRun slot Opc.dictSample (fun s =>
    match nsOf s nsid with
    | none => refuse .invalidParam 1 s
    | some n => if !ownsSide s n.cur.p.side then refuse .notOwner 0 s
      else needsHost (fun s => okWith [] (toHost slot (sampleBlocks s nsid count) s)) s) s)

/-! ### Locks and landing -/

/-- RANGE_LOCK_GRANT (R103): the lock of a granule that nobody holds goes to the request that came first. -/
def execRangeLockGrant (nsid granule : Nat) (s : State) : Host.Outcome State Fault Refusal :=
  go (running (fun s => match fget s.ing.locks (lockKey nsid granule) with
    | some (none, id :: rest) => lockGo id { s with ing := { s.ing with locks := fset s.ing.locks (lockKey nsid granule) (some id, rest) } }
    | _ => s) s)

/-- A response for a command that has ended: its bytes leave the window (R77). -/
def strayTake (cmd idx : Nat) (s : State) : State :=
  match s.fe.qps.find? fun e => fhas e.2.stray (pairKey cmd idx) with
  | some (k, q) => s |> setQp (keyHi k) (keyLo k) { q with
        requested := q.requested - fgetD q.stray (pairKey cmd idx) 0, stray := fdel q.stray (pairKey cmd idx) }
      |> qpDrain (keyHi k) (keyLo k) |> pullAll (keyHi k) (keyLo k)
  | none => s

/-- Bytes that a queue pair asked for have come. -/
def pulled (seat q bytes : Nat) (s : State) : State :=
  match qpOf s seat q with
  | some x => s |> setQp seat q { x with requested := x.requested - bytes } |> qpDrain seat q
  | none => s

/-- The data of one block arrives by RDMA READ, is lost (the queue pair is in error: R93, R132), or meets an error in the catch buffer. Of a
block that did not fit the window, the first part comes by itself (R77). -/
def readResponse (cmd idx data : Nat) (md : Md) (lost : Bool) (err : IngestErr) (s : State) : State :=
  match cmdOf s cmd, blkOf s cmd idx with
  | some c, some b =>
    let first := c.count - c.toPull
    if b.stage ≠ .wanted ∨ first < idx ∨ (idx = first ∧ c.part = 0) then s
    else if lost then qpFail c.seat c.qp s
    else fromQp c.seat c.qp (fun _ s =>
      if idx = first then
        s |> cmdMod cmd (fun c => { c with part := 0 }) |> blkMod cmd idx (fun b => { b with got := c.part }) |> pulled c.seat c.qp c.part
          |> engineErr cmd (blkLba c idx) c err |> pullAll c.seat c.qp
      else
        s |> blkMod cmd idx (fun b => { b with got := unitBytes c }) |> pulled c.seat c.qp (unitBytes c - b.got)
          |> (fun s => if err = .none then blkLand cmd idx data md s
            else s |> cmdMod cmd (fun c => { c with left := c.left - 1 }) |> blkMod cmd idx (fun b => { b with stage := .landed })
              |> engineErr cmd (blkLba c idx) c err)
          |> pullAll c.seat c.qp) s
  | none, _ => strayTake cmd idx s
  | _, _ => s

/-- RDMA_READ_RESPONSE (R100, R104). -/
def execRdmaReadResponse (cmd idx data : Nat) (md : Md) (lost : Bool) (err : IngestErr) (s : State) : Host.Outcome State Fault Refusal :=
  go (running (readResponse cmd idx data md lost err) s)

/-! ### Fingerprints and jobs -/

/-- A lookup was a miss: the block is stored. -/
def fpMiss (cmd idx : Nat) (s : State) : State := s |> blkMod cmd idx (fun b => { b with looking := false }) |> blkReady cmd idx

/-- A lookup ends (R109, R110, R113): a hit takes a hold, cancels the job and builds a REF record; a stale match is invalidated. The dedup
key comes by slot (R382). -/
def fpDone (cmd idx : Nat) (err : IngestErr) (s : State) : State :=
  match cmdOf s cmd, blkOf s cmd idx with
  | some c, some b =>
    let k := slotKey 1 c.p.domain 0
    if !b.looking then s
    else if err ≠ .none then s |> blkMod cmd idx (fun b => { b with looking := false, job := false }) |> engineErr cmd (blkLba c idx) c err
    else if !slotHas s c.seat k then slotAsk c.seat k s
    else
      let fp := blkFp s c b
      let l := fpSet s c.seat fp
      let s := s |> slotTouch c.seat k |> digSnoop c.seat (4096 + storedLen c.p) |> bump (Reg.CAT_FP_LOOKUPS_COUNT c.seat) |> blkMod cmd idx (fun b => { b with fp := fp })
      match fpFind l fp c.p.tenant with
      | none => fpMiss cmd idx s
      | some (w, e) =>
        if fpValid s c fp e then
          s |> bump (Reg.CAT_FP_HITS_COUNT c.seat) |> fpPut c.seat fp (fpAge l w) |> holdRec (recKey e.tenant e.handle)
            |> when b.job (bump (Reg.CMP_CANCELLED_COUNT c.seat))
            |> blkMod cmd idx (fun b => { b with hold := some e.handle, dict := none, job := false, looking := false })
            |> recAdd cmd idx (delta .ref c.nsid (blkLba c idx) e.handle 0)
        else s |> bump (Reg.CAT_FP_STALE_COUNT c.seat) |> fpPut c.seat fp (l.set w none) |> fpMiss cmd idx
  | _, _ => s

/-- FP_LOOKUP_DONE. -/
def execFpLookupDone (cmd : Nat) (e : LookupEnd) (s : State) : Host.Outcome State Fault Refusal :=
  go (running (fun s => s |> fpDone cmd e.idx e.err |> retireCheck) s)

/-- Longest frame kept (R115): values of CMP_KEEP_LIMIT above 4,080 act as 4,080. -/
def keepLimit (s : State) (seat : Nat) : Nat := min 4080 (rd s (Reg.CMP_KEEP_LIMIT_BYTES seat))

/-- A job ends (R114 to R117): its frame is kept, or the block is stored raw; an engine fault fails the command (R132). -/
def jobEnd (cmd idx : Nat) (verifyOk : Bool) (err : IngestErr) (s : State) : State :=
  match cmdOf s cmd, blkOf s cmd idx with
  | some c, some b =>
    if !b.job then s
    else if err ≠ .none then s |> blkMod cmd idx (fun b => { b with job := false }) |> engineErr cmd (blkLba c idx) c err
    else
      let n := Config.compressedLength b.data (match b.dict with | some d => fgetD s.ing.dicts d 0 | none => 0)
      let s := if keepLimit s c.seat < n then s |> bump (Reg.CMP_OVERFLOW_COUNT c.seat) |> blkRaw cmd idx
        else if isSet s (Reg.CMP_CTRL_VERIFY c.seat) && !verifyOk then
          s |> bump (Reg.CMP_VERIFY_FAIL_COUNT c.seat) |> engineFault c.seat 1 [c.nsid, blkLba c idx] |> blkRaw cmd idx
        else s |> bumpN (Reg.CMP_OUT c.seat) n |> blkMod cmd idx (fun b => { b with job := false, frame := some n })
      blkReady cmd idx s
  | _, _ => s

/-- COMPRESS_JOB_END. -/
def execCompressJobEnd (cmd idx : Nat) (verifyOk : Bool) (err : IngestErr) (s : State) : Host.Outcome State Fault Refusal :=
  go (running (fun s => s |> jobEnd cmd idx verifyOk err |> retireCheck) s)

/-- ZONE_RECORDS_ARRIVE (R124): a sealed block is at its zone's home seat, which appends it and what waited for it. -/
def execZoneRecordsArrive (cmd idx : Nat) (s : State) : Host.Outcome State Fault Refusal :=
  go (running (fun s => match blkOf s cmd idx with
    | some b => if b.stage = .moving then s |> blkMod cmd idx (fun b => { b with stage := .ready }) |> blkAppend cmd idx |> appendRetry else s
    | none => s) s)

/-! ### Acceptance and early seals -/

/-- A group's commit is tried (R128, R129, R131): its entries and then its records are looked up (R146), their pages are resident, and no tag
may run ahead (R157), a wait that is counted once. -/
def groupTry (seat num lat : Nat) (s : State) : State :=
  let s := ftLog s
  match fget s.ing.grps (pairKey seat num) with
  | none => s
  | some g =>
    if !grpReady s seat num g then s
    else match cmdOf s g.cmd with
      | none => s
      | some c =>
        let e := linesAsk seat num (entLines s c g) s
        let r := if e.1 then linesAsk seat num (recLines e.2 c g) e.2 else e
        let s := r.2
        if !r.1 then s
        else if !c.p.zoned && g.recs.any (fun d => (deltaLbas d).any fun x => tagThrottled s c.nsid x) then
          s |> when (!g.throttled) (bump (Reg.MAP_TAG_THROTTLE_COUNT (homeSeat s c.nsid))) |> grpMod seat num (fun g => { g with throttled := true })
        else s |> grpAccept seat num lat |> retireCheck

/-- A row holds an extent of a FLASH_THROUGH group not accepted, appended so many strokes ago or earlier (R129). -/
def rowWaited (s : State) (pool row strokes : Nat) : Bool :=
  s.ing.grps.any fun g => (match cmdOf s g.2.cmd with | some c => c.p.flashThrough | none => false) &&
    g.2.recs.any fun d => d.kind == .extent && (match d.record with
      | some r => (match fget s.par.exts r.extent with | some e => e.pool == pool && e.row == row && decide (e.appended + strokes ≤ s.stk.ext) | none => false)
      | none => false)

/-- FT_EARLY_SEAL (R129): a solo head's open row has held unaccepted FLASH_THROUGH data for CAT_FT_CLOSE strokes (0 acts as 1). -/
def execFtEarlySeal (pool row : Nat) (s : State) : Host.Outcome State Fault Refusal :=
  go (running (fun s => match rowOf s pool row with
    | some r =>
      if r.st = .opened ∧ s.pair.st = .solo ∧ rowWaited s pool row (max 1 (rd s (Reg.CAT_FT_CLOSE_STROKES r.seat))) = true
        then rowClose pool row true s else s
    | none => s) s)

/-- IDLE_EARLY_SEAL (R135): above the soft level, an open row without an append for CAT_SOFT.IDLE strokes. -/
def execIdleEarlySeal (pool row : Nat) (s : State) : Host.Outcome State Fault Refusal :=
  go (running (fun s => match rowOf s pool row with
    | some r => if r.st = .opened ∧ softNow s r.seat = true ∧ r.lastAppend + rd s (Reg.CAT_SOFT_IDLE r.seat) ≤ s.stk.ext
        then rowClose pool row true s else s
    | none => s) s)

end Sys2Proof.Machine
end

