-- ==== Sys2Proof/Machine/Reads.lean ====
section
/-!
DEFINITION. Machine/Reads.lean: the completions of a read (R77, R78, R189 to R208).
-/

namespace Sys2Proof.Machine

/-- MAP_LOOKUP_DONE: the unit's lookups have finished and its source is chosen (R189 to R191, R197 to R203). -/
def execMapLookupDone (cmd idx : Nat) (w : Waits) (s : State) : Host.Outcome State Fault Refusal := go (running (unitSource cmd idx w) s)

/-- PARITY_RECONSTRUCT_DONE (R216): every member asked for has arrived. -/
def execParityReconstructDone (cmd idx : Nat) (ok : Bool) (s : State) : Host.Outcome State Fault Refusal := go (running (unitParity cmd idx ok) s)

/-- EXTENT_OPENED (R194, R195, R204 to R206): `lat` is the command's time so far in 0.25 µs units (R335). -/
def execExtentOpened (cmd idx lat : Nat) (header : Option HeadSeen) (body : Bool) (plain : PlainSeen) (s : State) : Host.Outcome State Fault Refusal :=
  go (running (unitOpen cmd idx (some lat) ⟨header, body, plain.frame, plain.sumOk⟩) s)

/-- PFC_FRAME (R63): with what waited to be placed. -/
def execPfcFrame (seat sub on off : Nat) (pause : Bool) (s : State) : Host.Outcome State Fault Refusal :=
  go (running (fun s => s |> pfcFrame seat sub on off pause |> foldS (subQps s seat sub) (placeAll seat)) s)

/-- ROCE_ACK_RECEIVE (R77, R78): the window opens for data wanted and data to place. -/
def execRoceAckReceive (seat qp : Nat) (a : RoceAck) (s : State) : Host.Outcome State Fault Refusal :=
  go (running (fun s => s |> roceAck seat qp a.bytes a.kind |> placeAll seat qp) s)

end Sys2Proof.Machine
end

