-- ==== Sys2Proof/Machine/SnapOps.lean ====
section
/-!
DEFINITION. Machine/SnapOps.lean: directories that share pages, and the taking of a snapshot's images (R355 to R361).
-/

namespace Sys2Proof.Machine

/-- Snapshot events with their enable register (R374). -/
def snpEvent (ev : Fld) (bit : Nat) (s : State) : State := event ev Reg.SNP_EVENT_EN_ENABLE bit s

/-- A fresh owner number for a directory of a namespace's pages: no owner of the other head has it, and its remainder keeps the
namespace's home seat. -/
def newOwner (nsid : Nat) (s : State) : Nat × State :=
  (imageOwner (32 * s.snp.nextOwner + 16 * mySide s + nsid % 16), { s with snp := { s.snp with nextOwner := s.snp.nextOwner + 1 } })

/-- Note that a snapshot whose directories have all been swept is gone (R362). -/
def snapsGone (s : State) : State :=
  { s with snp := { s.snp with snaps := fkeep s.snp.snaps fun _ x => !x.deleted || x.owners.any fun o => s.map.dirs.any fun d => dirOwner d.1 == o } }

/-- Directory entries of an owner. -/
def dirsOf (s : State) (owner : Nat) : FMap DirEnt := fkeep s.map.dirs fun k _ => dirOwner k == owner

/-- Give `to` a directory that names every page of `src` (R359, R360, R363): the share count of each rises by one. -/
def dirsShare (src dst : Nat) (s : State) : State :=
  foldS (dirsOf s src) (fun e s =>
    { s with map := { s.map with dirs := fset s.map.dirs (dirKey dst (dirIdx e.1)) { e.2 with resident := false, dirty := true } } }
      |> refreshShared e.2.page) s

/-- An owner's directory goes to the release sweep under a number of its own; the owner has none left (R181, R371). -/
def dirsRetire (nsid owner tenant : Nat) (s : State) : State :=
  let l := dirsOf s owner
  if l = [] then s
  else
    let n := newOwner nsid s
    let s := n.2
    let dirs := l.foldl (fun m e => fset m (dirKey n.1 (dirIdx e.1)) e.2) (fkeep s.map.dirs fun k _ => dirOwner k != owner)
    { s with map := { s.map with
        dirs := dirs, releasing := fset s.map.releasing n.1 tenant
        frames := fmapV s.map.frames fun _ k => if dirOwner k = owner then dirKey n.1 (dirIdx k) else k } }

/-- A namespace is gone (R181, R397): it disappears at once, and its references, zones and lost extents go to the release sweep. Commands
already taken complete under the version they matched. -/
def nsRemove (nsid : Nat) (s : State) : State :=
  match nsOf s nsid with
  | none => s
  | some n =>
    let seat := homeSeat s nsid
    let mapped := (dirsOf s nsid).foldl (fun m d => m + countWhere (fgetD s.map.pages d.2.page []) fun _ e => entSt e == .mapped) 0
    { s with
      nv := { s.nv with ns := fdel s.nv.ns nsid }
      ing := { s.ing with ruhs := fkeep s.ing.ruhs fun k _ => k / 65536 != nsid }
      map := { s.map with
        releasing := if dirsOf s nsid = [] then s.map.releasing else fset s.map.releasing nsid n.cur.p.tenant
        backlog := fset s.map.backlog seat (fgetD s.map.backlog seat 0 + mapped)
        zones := fkeep s.map.zones fun k _ => k / 4294967296 != nsid
        lost := fkeep s.map.lost fun k _ => k / 281474976710656 != nsid }
      snp := { s.snp with cgs := fmapV s.snp.cgs fun _ c => { c with members := c.members.filter (· != nsid) } } }

/-- Change a snapshot. -/
def snapMod (id : Nat) (f : Snap → Snap) (s : State) : State := { s with snp := { s.snp with snaps := fmod s.snp.snaps id f } }

/-- Home side of a namespace. -/
def nsSide (s : State) (nsid : Nat) : Option Nat := (nsCur s nsid).map (·.side)

/-- Take the image of one member of a snapshot, unless this head holds it (R360); its home seat's split sequence is noted (R361). -/
def imageTake (id i : Nat) (s : State) : State :=
  match fget s.snp.snaps id with
  | none => s
  | some x =>
    let nsid := x.members.getD i 0
    match nsCur s nsid with
    | none => s
    | some p =>
    if x.owners.getD i 0 ≠ 0 then s
    else
      let n := newOwner nsid s
      let q := rd n.2 (Reg.MAP_DLOG_SEQ (homeSeat s nsid))
      n.2 |> snapMod id (fun x => { x with owners := x.owners.set i n.1, split := x.split.set i q, params := fset x.params i p }) |> dirsShare nsid n.1

/-- Members of a snapshot whose home side is one of these. -/
def membersOn (s : State) (x : Snap) (sides : List Nat) : List Nat :=
  (List.range x.members.length).filter fun i => match nsSide s (x.members.getD i 0) with | some d => sides.contains d | none => false

/-- Images due at stroke `t` of members on some sides, in the map this head holds or replays (R355, R356). -/
def imagesDue (sides : List Nat) (t : Nat) (s : State) : State :=
  foldS (s.snp.snaps.filter fun e => !e.2.deleted && decide (e.2.s ≤ t)) (fun e s =>
    foldS (membersOn s e.2 sides) (fun i s => imageTake e.1 i s) s) s

/-- This head marks a snapshot SKEWED (R357): its edges were out of step with the peer's at S. -/
def skewedNow (s : State) : Bool :=
  isSet s Reg.STK_STATUS_PAIR_RESYNC || decide (200 < (untwos 16 (rd s Reg.STK_PEER_OFFSET_TICKS)).natAbs)

/-- A snapshot is taken (R355, R357, R361): each home seat closes its delta log buffer, and the images of the members whose map this head
holds are taken. -/
def snapTake (late : Bool) (id : Nat) (s : State) : State :=
  match fget s.snp.snaps id with
  | none => s
  | some x =>
    if x.taken ∨ x.deleted then s
    else
      let sides := [0, 1].filter fun d => ownsSide s d || s.pair.recovered.contains d
      let skew := !late && skewedNow s
      let s := foldS (membersOn s x sides) (fun i s => dlogClose (homeSeat s (x.members.getD i 0)) s) s
      let s := foldS (membersOn s x sides) (fun i s => imageTake id i s) s
      s |> snapMod id (fun x => { x with taken := true, skewed := skew, late := late })
        |> snpEvent Reg.SNP_EVENTS_TAKEN 0
        |> when skew (fun s => s |> bump Reg.SNP_SKEWED_COUNT |> snpEvent Reg.SNP_EVENTS_SKEWED 1)
        |> when late (snpEvent Reg.SNP_EVENTS_LATE 2)

/-- The snapshots whose stroke has come are taken, earliest first (step 4 of R57). -/
def snapsEdge (s : State) : State :=
  foldS ((s.snp.snaps.filter fun e => !e.2.taken && !e.2.deleted && e.2.confirmed && decide (e.2.s ≤ s.stk.ext)).mergeSort fun a b => a.2.s ≤ b.2.s)
    (fun e s => snapTake false e.1 s) s

/-- Registrations whose stroke passed before this head could take them (R356). -/
def snapsLate (s : State) : State :=
  foldS ((s.snp.snaps.filter fun e => !e.2.taken && !e.2.deleted && decide (e.2.s ≤ s.stk.ext)).mergeSort fun a b => a.2.s ≤ b.2.s)
    (fun e s => snapTake true e.1 s) s

/-! ### Links and the images they keep (R369, R371) -/

/-- Owner numbers of a link's receiving image: the same on both heads. -/
def linkImage (n count : Nat) : List Nat := (List.range count).map fun i => imageOwner (2147483648 + 256 * n + i)

/-- Members of a link's group. -/
def linkMembers (s : State) (p : LinkParams) : List Nat := match fget s.snp.cgs p.cg with | some c => c.members | none => []

/-- The receiving image is an invisible clone of the replica's last committed image (R369). -/
def imageClone (n : Nat) (l : Link) (s : State) : State :=
  let m := linkMembers s l.p
  let t := match fget s.snp.cgs l.p.cg with | some c => c.tenant | none => 0
  foldS (List.zip m (linkImage n m.length)) (fun e s => s |> dirsRetire e.1 e.2 t |> dirsShare e.1 e.2) s

/-- A commit makes the receiving image what initiators read from the replica (R371). -/
def imageSwap (n : Nat) (l : Link) (s : State) : State :=
  let m := linkMembers s l.p
  let t := match fget s.snp.cgs l.p.cg with | some c => c.tenant | none => 0
  foldS (List.zip m (linkImage n m.length)) (fun e s => s |> dirsRetire e.1 e.1 t |> dirsShare e.2 e.1) s

/-- The receiving image is discarded (R370, R371). -/
def imageDrop (n : Nat) (l : Link) (s : State) : State :=
  let m := linkMembers s l.p
  let t := match fget s.snp.cgs l.p.cg with | some c => c.tenant | none => 0
  foldS (List.zip m (linkImage n m.length)) (fun e s => dirsRetire e.1 e.2 t s) s

/-- Members become replicas that only a link writes, or cease to be (R371). -/
def replicaSet (l : List Nat) (b : Bool) (s : State) : State :=
  foldS l (fun n s => { s with nv := { s.nv with ns := fmod s.nv.ns n fun x => { x with replica := b } } }) s

/-- A link is set up (R365): on the target its members are replicas, and the receiving image a clone of them. -/
def linkInstall (n : Nat) (p : LinkParams) (s : State) : State :=
  let l : Link := ⟨p, [], false, false, 0, none, 0, none, none, s.stk.ext + p.interval, [], 0, 0, 0, 0, 0, 0, 0⟩
  let m := linkMembers s p
  let s := { s with snp := { s.snp with links := fset s.snp.links n { l with image := if p.target then linkImage n m.length else [] } } }
  if p.target then s |> replicaSet m true |> imageClone n l else s

/-- A link is gone; the receiving image of a target goes with it. -/
def linkRemove (n : Nat) (s : State) : State :=
  match fget s.snp.links n with
  | none => s
  | some l =>
    let s := when l.p.target (imageDrop n l) s
    { s with snp := { s.snp with links := fdel s.snp.links n } }

/-- A snapshot is deleted (R362): it leaves every listing, and its directories go to the release sweep. -/
def snapDrop (id : Nat) (s : State) : State :=
  match fget s.snp.snaps id with
  | none => s
  | some x =>
    if !x.taken then { s with snp := { s.snp with snaps := fdel s.snp.snaps id } }
    else
      let s := foldS (x.owners.filter (· != 0)) (fun o s => { s with map := { s.map with releasing := fset s.map.releasing o x.tenant } }) s
      s |> snapMod id (fun x => { x with deleted := true }) |> snapsGone

/-- A snapshot as it is registered (R354). -/
def snapNew (cg tenant t : Nat) (members : List Nat) : Snap :=
  ⟨cg, tenant, t, members, false, false, false, true, 0, none, members.map fun _ => 0, false, members.map fun _ => 0, []⟩

/-- Replay has reached a split sequence of snapshots that the loaded checkpoint does not include (R361): the image is taken at that point,
under the directory's own number. `q` none: replay has ended. -/
def imagesSplit (seat ext : Nat) (q : Option Nat) (s : State) : State :=
  foldS (s.snp.snaps.filter fun e => e.2.taken && !e.2.deleted && decide (ext < e.2.s)) (fun e s =>
    foldS (List.range e.2.members.length) (fun i s =>
      let nsid := e.2.members.getD i 0
      let at_ := e.2.split.getD i 0
      let now : Bool := match q with | some q => at_ == q | none => decide (rd s (Reg.MAP_DLOG_SEQ seat) ≤ at_)
      if homeSeat s nsid = seat ∧ e.2.owners.getD i 0 ≠ 0 ∧ now = true then dirsShare nsid (e.2.owners.getD i 0) s else s) s) s

end Sys2Proof.Machine
end

