-- ==== Sys2Proof/Machine/MapRun.lean ====
section
/-!
DEFINITION. Machine/MapRun.lean: checkpoints, the replay of deltas under R156, recovery of the map, and page fills (R146, R152 to R166, R228).
-/

namespace Sys2Proof.Machine

/-! ### Replay (R153, R156) -/

/-- Tags compare by serial arithmetic on 16 bits (R156). -/
def tagLater (a b : Nat) : Bool := let d := subMod 16 a b; 1 ≤ d && d ≤ 32767

/-- Give an entry the tag its delta records. -/
def entTag (owner lba tag : Nat) (s : State) : State :=
  match dirOf s owner lba with
  | some d =>
    let m := fset (fgetD s.map.pages d.page []) (lba % pageEnts) { entAt s owner lba with replay := tag }
    { s with map := { s.map with pages := fset s.map.pages d.page m } }
  | none => s

/-- A record index that a replayed delta names is no longer free for allocation (R142). -/
def recUsed (tenant handle : Nat) (s : State) : State :=
  let t := tenant * 32 + handle / 34359738368 % 32
  { s with map := { s.map with
      nextRec := fset s.map.nextRec t (max (fgetD s.map.nextRec t 1) (handle % 34359738368 + 1))
      reuse := s.map.reuse.filter (· != recKey tenant handle)
      freed := s.map.freed.filter fun f => f.1 != recKey tenant handle } }

/-- A row that a replayed ROW_OPEN or a received extent names is in use: its band belongs to the seat and stream (R218). -/
def rowReplay (pool row seat stream : Nat) (s : State) : State :=
  match groupOf s pool with
  | none => s
  | some g =>
    if fhas g.rows row then s
    else
      let n := bandOf g row
      let b := fgetD g.bands n (newBand g n seat stream false)
      let r : Row := ⟨.opened, seat, stream, false, b.geom, 0, 0, s.stk.ext, 0, [], [], 0, true, 0, 0, [], false, false, false, false, false⟩
      groupMod pool (fun g => { g with bands := fset g.bands n { b with used := max b.used (row % max 1 g.pages + 1) }, rows := fset g.rows row r }) s

/-- An entry counts as a reference to a handle; a DEALLOCATED one only in a page of a live namespace, which gives its reference up (R181,
R362). -/
def entNames (live : Bool) (h : Nat) (e : MapEnt) : Bool := e.handle == h && (entSt e == .mapped || (live && entSt e == .dealloc))

/-- A page belongs to a namespace, and not to snapshots alone. -/
def pageLive (s : State) (page : Nat) : Bool := s.map.dirs.any fun d => decide (dirOwner d.1 < 4294967296) && d.2.page == page

/-- Pages of a tenant, each once. -/
def tenantPages (s : State) (tenant : Nat) : List Nat :=
  ((s.map.dirs.filter fun d => dirOwner d.1 < 8589934592 && ownerTenant s (dirOwner d.1) == tenant).map fun d => d.2.page).eraseDups

/-- A record takes its recounted REFS, and PINNED goes from the entries that were counted (R154). -/
def countSet (tenant handle n : Nat) (s : State) : State :=
  let k := recKey tenant handle
  match fget s.map.recs k with
  | none => s
  | some r =>
    let clear := fun (m : FMap (FMap MapEnt)) p => fmod m p fun x => fmapV x fun _ e =>
      if entNames (pageLive s p) handle e then { e with pinned := false } else e
    let hit := fun k => (fget s.map.dirs k).any fun d => (tenantPages s tenant).contains d.page &&
      (fgetD s.map.pages d.page []).any fun e => e.2.pinned && entNames (pageLive s d.page) handle e.2
    { s with map := { s.map with
        pages := (tenantPages s tenant).foldl clear s.map.pages
        dirs := fmapV s.map.dirs fun k d => if hit k = true then { d with dirty := true } else d } }
      |> setRec k { r with refs := n } |> recWrite k

/-- Apply a delta as replay does (R156): whole when its tag is later than the entry's, else not at all; the reference-count changes it
implies come with it, and a REF adds its reference itself (R153). The blocks of a DEALLOC had one tag, so each is judged by its own. -/
def deltaReplay (seat : Nat) (d : Delta) (s : State) : State :=
  let tenant := ownerTenant s d.nsid
  let cur := entAt s d.nsid d.lba
  let later := tagLater d.replay cur.replay
  let zoned := match nsCur s d.nsid with | some p => p.zoned | none => false
  match d.kind with
  | .extent => (match d.record with
    | none => s
    | some r =>
      if zoned then zoneCommit d.nsid d.lba r.extent s
      else if later then
        s |> recPage tenant d.value |> setRec (recKey tenant d.value) { r with refs := 1, holds := 0 } |> recWrite (recKey tenant d.value)
          |> recUsed tenant d.value |> commitEnt d.nsid d.lba ⟨d.value, false, false, false, false, 0, 0⟩ |> entTag d.nsid d.lba d.replay
      else s)
  | .ref =>
    if later then
      let r := incRef (recKey tenant d.value) s
      r.1 |> when (!r.2) (recWrite (recKey tenant d.value)) |> commitEnt d.nsid d.lba ⟨d.value, false, false, true, r.2, 0, 0⟩
        |> entTag d.nsid d.lba d.replay
    else s
  | .zero =>
    if zoned then zoneZero d.nsid d.lba s
    else if later then s |> commitEnt d.nsid d.lba ⟨0, true, false, false, false, 0, 0⟩ |> entTag d.nsid d.lba d.replay else s
  | .dealloc =>
    foldS (List.range d.value) (fun i s =>
      if tagLater d.replay (entAt s d.nsid (d.lba + i)).replay then s |> commitDealloc d.nsid (d.lba + i) |> entTag d.nsid (d.lba + i) d.replay
      else s) s
  | .move =>
    (match fget s.map.recs (recKey tenant d.value) with
      | some r =>
        let gen := match d.record with | some x => x.keyGen | none => r.keyGen
        if r.extent = d.old ∧ r.length ≠ 0 then
          s |> setRec (recKey tenant d.value) { r with extent := d.new, keyGen := gen } |> recWrite (recKey tenant d.value)
        else s
      | none => s)
  | .rowOpen => rowReplay d.nsid d.lba seat d.value s
  | .zonePage =>
    (match zoneOf s d.nsid d.lba with
      | some (zk, z, off) =>
        if segPage z.segs off = some d.value then s
        else segsSet zk off { z with segs := (z.segs.filter (fun x => x.2 != off) ++ [(d.value, off)]).mergeSort fun a b => a.2 ≤ b.2 } s
      | none => s)
  | .release =>
    if later ∧ (entSt cur = .dealloc ∨ (entSt cur = .mapped ∧ fhas s.map.releasing d.nsid = true)) then s |> commitEnt d.nsid d.lba entReset |> entTag d.nsid d.lba d.replay else s
  | .countSet => countSet d.nsid d.value d.lba s

/-! ### Checkpoints (R160 to R162, R175) -/

/-- SLC share of raw capacity in 0.00001 % at a fill (*SLC cache size*, R175): it falls by 0.09375 percentage points per point of fill. -/
def slcShare (f : Nat) : Nat := if f ≤ 50 then 400000 else if 90 ≤ f then 25000 else 400000 - 9375 * (f - 50)

/-- The SLC caches take their size from the fill (R175). -/
def slcResize (s : State) : State :=
  foldS s.par.groups (fun g s => groupMod g.1 (fun x => { x with slcSize := slcShare (poolFill s g.1 g.2) }) s) s

/-- Records without their holds, as a checkpoint writes them. -/
def recsSaved (m : FMap Rec) : FMap Rec := fmapV m fun _ r => { r with holds := 0 }

/-- Rows open now, with their write pointers. -/
def openList (s : State) : List (Nat × Nat × Nat × Nat) :=
  s.par.groups.foldl (fun l g => l ++ (g.2.rows.filter fun r => r.2.st == .opened).map fun r => (g.1, r.1, r.2.page, r.2.fill)) []

/-- The map as it stands, as a checkpoint or a takeover freezes it (R160 steps 1 and 4). -/
def imageNow (s : State) : MapImage :=
  ⟨s.map.dirs, s.map.pages, recsSaved s.map.recs, s.map.zones, s.map.nextRec, (seatList s).map fun n => (n, rd s (Reg.MAP_DLOG_SEQ n)),
    openList s, fmapV s.par.groups fun _ g => fmapV g.bands fun _ b => b.used, (seatList s).map fun n => (n, fgetD s.map.pageSeq n 1)⟩

/-- Step 1 of a checkpoint on every seat (R160): the map is frozen as it stands, and the tag limit counts afresh (R157). A checkpoint
still in progress makes this one skipped (R161). At every CHECKPOINT stroke the delta log buffers close (R158) and the SLC caches take their
size (R175). -/
def ckptStart (s : State) : State :=
  let s := foldS (seatList s) (fun n s => dlogClose n s) s
  if s.map.ckpt.isSome then s |> (fun s => foldS (seatList s) (fun n s => bump (Reg.MAP_CKPT_SKIPPED_COUNT n) s) s) |> slcResize
  else
    let s := foldS (seatList s) (fun n s => wr (Reg.MAP_STATUS_CHECKPOINT n) 1 s) s
    { s with map := { s.map with
        ckpt := some ⟨(rd s (Reg.MAP_CKPT_GEN_GEN 0) + 1) % 16777216, s.stk.ext, [], false, imageNow s⟩
        since := [] } }
      |> slcResize

/-- Change the checkpoint in progress. -/
def ckptMod (f : Ckpt → Ckpt) (s : State) : State := { s with map := { s.map with ckpt := s.map.ckpt.map f } }

/-- Records of a record page. -/
def recsOfPage (m : FMap Rec) (k : Nat) : FMap Rec :=
  fkeep (recsSaved m) fun r _ => dirKey (recOwner (r / 1099511627776) (r % 1099511627776)) (r % 1099511627776 % 34359738368 / 1024) == k

/-- A dirty page's contents have not changed since it was frozen. -/
def pageSame (s : State) (im : MapImage) (k : Nat) (d : DirEnt) : Bool :=
  if 8589934592 ≤ dirOwner k then recsOfPage s.map.recs k == recsOfPage im.recs k
  else (fkeep s.map.zones fun z _ => z / 4294967296 == dirOwner k) == (fkeep im.zones fun z _ => z / 4294967296 == dirOwner k) &&
    (match fget im.dirs k with | some x => x.page == d.page | none => false) && fgetD s.map.pages d.page [] == fgetD im.pages d.page []

/-- The header of a frozen page (R159): of a map page, a record page. -/
def imageHead (k : Nat) : PageHead :=
  if 8589934592 ≤ dirOwner k then headOf 3 1024
  else if dirOwner k < 4294967296 then headOver 2 pageEnts (dirOwner k) (dirIdx k * pageEnts) (dirIdx k * pageEnts + (pageEnts - 1))
  else headOf 2 pageEnts

/-- Write one page of a checkpoint (R160 step 3): its header, and its place in the boathouse. -/
def imageWrite (seat : Nat) (h : PageHead) (s : State) : Nat × State :=
  let q := fgetD s.map.pageSeq seat 1
  (Config.boathouse seat q, s |> pageClose seat h |> headsDone seat fun x => x.seq == q)

/-- CKPT_IMAGES_PROGRAMMED (R160 step 3 and 4): every frozen image of the seat is on flash, each at its new LOCATION, with the directory
pages that name them; a page not changed since is clean, and page fills that waited for one may go on (R152). -/
def imagesProgrammed (seat : Nat) (s : State) : State :=
  match s.map.ckpt with
  | none => s
  | some c =>
    if seat < s.hw.seats ∧ fgetD c.stage seat 0 = 0 then
      let mine := (c.image.dirs.filter fun e => e.2.dirty && ownerSeat s (dirOwner e.1) == seat).map Prod.fst
      let s := foldS mine (fun k s =>
        let w := imageWrite seat (imageHead k) s
        { w.2 with map := { w.2.map with dirs := fmod w.2.map.dirs k fun d => { d with loc := some w.1, dirty := !pageSame s c.image k d } } }
          |> ckptMod fun c => { c with image := { c.image with dirs := fmod c.image.dirs k fun d => { d with loc := some w.1 } } }) s
      let tables := (mine.map fun k => (dirOwner k, dirIdx k / 2048)).eraseDups
      let s := foldS tables (fun t s => (imageWrite seat (if t.1 < 4294967296 then
          headOver 4 2048 t.1 (t.2 * 2048 * pageEnts) ((t.2 + 1) * 2048 * pageEnts - 1) else headOf 4 2048) s).2) s
      s |> ckptMod (fun c => { c with stage := fset c.stage seat 1 }) |> wr (Reg.MAP_STATUS_DIRTY_FULL seat) 0
    else s

/-- A seat writes an anchor to its next slot (R162). -/
def anchorWrite (seat root gen ext start : Nat) (intact : Bool) (s : State) : State :=
  let slot := fgetD s.map.nextAnchor seat 0
  { s with map := { s.map with
      anchors := fset s.map.anchors (pairKey seat slot) ⟨root, gen, ext, start, intact⟩
      nextAnchor := fset s.map.nextAnchor seat ((slot + 1) % 64) } } |> ancWrote seat 2

/-- CKPT_ROOT_PROGRAMMED (R160 step 5, R162): the root page holds the seat's next page sequence, and the anchor that names it goes to the
seat's next slot; one that does not read back intact leaves the seat at this step. -/
def rootProgrammed (seat : Nat) (intact : Bool) (s : State) : State :=
  match s.map.ckpt with
  | none => s
  | some c =>
    if fgetD c.stage seat 0 = 1 then
      let w := imageWrite seat (headOf 6 1) s
      let q := fgetD w.2.map.pageSeq seat 1
      let s := ckptMod (fun c => { c with image := { c.image with nextSeq := fset c.image.nextSeq seat q } }) w.2
      let s := match s.map.ckpt with
        | some c => { s with map := { s.map with images := fset s.map.images c.gen c.image } }
        | none => s
      s |> anchorWrite seat w.1 c.gen c.ext (fgetD c.image.logStart seat 0) intact |> when intact (ckptMod fun c => { c with stage := fset c.stage seat 2 })
    else s

/-- A programmed page may still be needed: row data and haul-out pages; in the boathouse, those that a kept checkpoint names or that were
programmed since the oldest of them (R165). -/
def headNeeded (images : FMap MapImage) (h : PageHead) : Bool :=
  let seat := h.seat % 128
  h.kind == 1 || h.kind == 7 || images.all (fun i => i.2.nextSeq == []) ||
    images.any fun i => decide (fgetD i.2.nextSeq seat 1 ≤ h.seq + 1) || i.2.dirs.any fun d => d.2.loc == some (Config.boathouse seat h.seq)

/-- Delta log pages and images that no intact anchor needs any more are dead (R165). -/
def ckptTrim (s : State) : State :=
  let live := s.map.anchors.filter fun a => a.2.intact
  let keep := fun (p : DlogPage) => !p.programmed || live.any fun a => keyHi a.1 == p.seat && decide (a.2.logStart ≤ p.seq)
  let images := fkeep s.map.images fun g _ => live.any fun a => a.2.gen == g
  { s with map := { s.map with
      images := images
      dlog := s.map.dlog.filter keep
      heads := fkeep s.map.heads fun _ h => headNeeded images h } }

/-- A newer on-media format comes into force with the first checkpoint that completes after both heads run images that read it (R548). -/
def mediaRaise (s : State) : State :=
  match s.boot.running, s.pair.peer with
  | some h, some p =>
    if s.pair.st = .paired ∧ s.upd.media < min h.mediaFormat p.reads then
      { s with upd := { s.upd with media := min h.mediaFormat p.reads } } |> wr Reg.UPD_MEDIA_IN_FORCE (min h.mediaFormat p.reads)
    else s
  | _, _ => s

/-- Root page address that a seat's anchor of a generation names (R162). -/
def anchorRoot (s : State) (seat gen : Nat) : Nat :=
  match s.map.anchors.find? fun a => keyHi a.1 == seat && a.2.gen == gen with
  | some a => a.2.root
  | none => 0

/-- CKPT_COMPLETE (R160 step 6): every seat shows the generation; the peer is told (R308); record indices freed before the checkpoint may
be reused (R153), and images that it supersedes are consumed (R498). -/
def ckptDone (s : State) : State :=
  match s.map.ckpt with
  | none => s
  | some c =>
    if (seatList s).all fun n => fgetD c.stage n 0 == 2 then
      let s := foldS (seatList s) (fun n s => s |> wr (Reg.MAP_CKPT_GEN_GEN n) c.gen |> wr (Reg.MAP_CKPT_STROKES_STROKES n) (s.stk.ext - c.ext)
        |> wr (Reg.MAP_CKPT_EXT n) c.ext |> wr (Reg.MAP_STATUS_CHECKPOINT n) 0) s
      let old := s.map.freed.filter fun f => f.2 < c.ext
      let s := { s with
        map := { s.map with ckpt := none, freed := s.map.freed.filter (fun f => c.ext ≤ f.2), reuse := s.map.reuse ++ old.map (·.1) }
        pwr := { s.pwr with images := fmapV s.pwr.images fun k i =>
          { i with consumed := i.consumed || (i.valid && decide (i.start < c.ext) && s.pair.recovered.contains (keyLo k / 2)) } } }
      let s := ckptTrim s
      let roots := (seatList s).map fun n => anchorRoot s n c.gen
      foldS s.pair.sides (fun side s => pairControl (.notice side c.gen c.ext roots ((seatList s).map fun n => fgetD c.image.logStart n 0)) s) s |> mediaRaise
    else s

/-- CKPT_LATE (R161): counted, and logged as a map fault; the checkpoint goes on. -/
def ckptOverdue (s : State) : State :=
  match s.map.ckpt with
  | none => s
  | some c =>
    if !c.late ∧ c.ext + 5000 ≤ s.stk.ext then
      foldS (seatList s) (fun n s => bump (Reg.MAP_CKPT_LATE_COUNT n) s) (ckptMod (fun c => { c with late := true }) s) |> mapFault 0 [c.gen]
    else s

/-! ### The delta log (R158, R173, R307) -/

/-- Types 8 to 12 of *Delta log types*. -/
def syncKind (k : DKind) : Bool := k == .move || k == .rowOpen || k == .zonePage || k == .release || k == .countSet

/-- Send the MAP_SYNC frame of a page (R307): its LOG_PAGE record, its records of types 8 to 12, and the rows of the seat that have become
programmed, as many as the frame holds. -/
def mapSyncSend (seat seq : Nat) (recs : List Delta) (s : State) : State :=
  if !hasSession s then s
  else
    let recs := recs.filter fun d => syncKind d.kind
    let used := 32 + (recs.map dlogBytes).sum
    let mine := (s.map.progRows.filter fun p => match rowOf s p.1 p.2 with | some r => r.seat == seat | none => false).take ((16384 - used) / 32)
    { s with map := { s.map with progRows := s.map.progRows.filter fun p => !mine.contains p } }
      |> pairEnqueue seat clsS (.mapSync seq recs mine) (used + 32 * mine.length)

/-- The oldest page of a kind that a seat has on its way is on flash. -/
def pageOnFlash (seat kind : Nat) (s : State) : State :=
  match s.map.heads.find? fun e => e.2.seat % 128 == seat && e.2.kind == kind && !e.2.done with
  | some e => { s with map := { s.map with heads := fset s.map.heads e.1 { e.2 with done := true } } }
  | none => s

/-- DLOG_PAGE_PROGRAMMED (R158): the seat's oldest page on its way is on flash; its deltas are no longer dirty (R133), and the MOVEs it
holds no longer keep their rows (R173). -/
def dlogProgrammed (seat : Nat) (s : State) : State :=
  match s.map.dlog.find? fun p => p.seat == seat && !p.programmed with
  | none => s
  | some p =>
    let s := { s with
      map := { s.map with dlog := s.map.dlog.map fun x => if x.seat = seat ∧ x.seq = p.seq then { x with programmed := true } else x }
      par := { s.par with groups := fmapV s.par.groups fun _ g => { g with rows := fmapV g.rows fun _ r =>
        if (match fget r.moves seat with | some q => decide (q ≤ p.seq) | none => false) then { r with moves := fdel r.moves seat } else r } } }
    s |> pageOnFlash seat 5 |> dirtySub seat (dlogSize p.recs) |> mapSyncSend seat p.seq p.recs

/-! ### Page fills and lines (R146, R148, R150, R152) -/

/-- Pages a seat's budget holds; none: no limit set. -/
def pageBudget (s : State) : Option Nat := if s.mbx.mapBudget = 0 then none else some (s.mbx.mapBudget / 16384)

/-- The clean resident page that the clock hand of a seat comes to next (R152). -/
def clockVictim (s : State) (seat : Nat) : Option Nat :=
  let h := fgetD s.map.hand seat 0
  let clean := (residentOn s seat).filter fun k => match fget s.map.dirs k with | some d => !d.dirty | none => false
  match clean.find? fun k => decide (h < k) with
  | some k => some k
  | none => clean.head?

/-- A page leaves DRAM: its frame is free and its lines leave the cache. -/
def pageEvict (seat k : Nat) (s : State) : State :=
  let s := match frameOf s seat k with
    | some f => { s with map := { s.map with frames := fdel s.map.frames (pairKey seat f) } } |> tcDropFrame seat f
    | none => s
  { s with map := { s.map with
      dirs := fmod s.map.dirs k fun d => { d with resident := false }
      hand := fset s.map.hand seat k } }

/-- PAGE_FILL_DONE (R146, R152): the page is in DRAM and the lookups that waited for it are issued again; where the budget is full and no
resident page is clean, it waits, and DIRTY_FULL shows it. -/
def pageFilled (seat k : Nat) (s : State) : State :=
  match fget s.map.dirs k with
  | none => s
  | some d =>
    if d.resident ∨ ownerSeat s (dirOwner k) ≠ seat then s
    else
      let full := match pageBudget s with | some n => decide (n ≤ (residentOn s seat).length) | none => false
      match full, clockVictim s seat with
      | true, none => wr (Reg.MAP_STATUS_DIRTY_FULL seat) 1 s
      | f, v =>
        let s := match f, v with | true, some x => pageEvict seat x s | _, _ => s
        let l := fgetD s.map.fills seat []
        let s := { s with map := { s.map with
            dirs := fset s.map.dirs k { d with resident := true }
            fills := fset s.map.fills seat (l.filter fun x => x.1 != k) } }
          |> frameTake seat k |> bump (Reg.MAP_PAGE_FILLS_COUNT seat)
        foldS (l.filter fun x => x.1 == k) (fun x s => unitLookup x.2.1 x.2.2 false s) s

/-- A line that a write's commit waited for has been looked up (R146). -/
def lineLooked (seat line cmd : Nat) (s : State) : State :=
  match fget s.map.frames (pairKey seat (line / 16384)) with
  | none => s
  | some k => { s with ing := { s.ing with grps := fmapV s.ing.grps fun _ g =>
      if g.cmd = cmd then { g with looked := (k, line % 16384 / 256) :: g.looked } else g } }

/-- TC_LINE_FILL (R147, R148, R150, R188): the line enters the cache, the lane is free for the lookup that waited longest for one, and the
blocked lookup goes on. A line found with an uncorrectable error, `ecc`, is dropped and fetched again: the lane stays blocked. -/
def lineFilled (seat lane cycles : Nat) (ecc : Bool) (s : State) : State :=
  let t := tcOf s seat
  match fget t.lanes lane with
  | none => s
  | some l =>
    if 16 ≤ lane then s
    else if ecc then s |> bump (Reg.MAP_TC_ECC_ERR_COUNT seat) |> bumpN (Reg.MAP_TC_FILL_CYCLES_COUNT seat) cycles
    else
      let lanes := fdel t.lanes lane
      let lanes := match lanes.find? fun e => decide (16 ≤ e.1) with
        | some (k, x) => fset (fdel lanes k) lane x
        | none => lanes
      s |> setTc seat { t with lanes := lanes } |> tcInsert seat l.line |> bumpN (Reg.MAP_TC_FILL_CYCLES_COUNT seat) cycles
        |> lineLooked seat l.line l.cmd |> unitLookup l.cmd l.idx true

/-! ### Recovery (R163 to R166, R228, R498 to R500) -/

/-- Generations compare by serial arithmetic on 24 bits (R162). -/
def genLater (a b : Nat) : Bool := let d := subMod 24 a b; 1 ≤ d && d ≤ 8388607

/-- The latest intact generation among a seat's anchors. -/
def latestGen (s : State) (seat : Nat) : Option Nat :=
  s.map.anchors.foldl (fun best a => if keyHi a.1 == seat && a.2.intact then
    match best with
    | some b => if genLater a.2.gen b then some a.2.gen else best
    | none => some a.2.gen
    else best) none

/-- The generation the cox chooses (R163 step 1): the earliest of the seats' reports; or the one recorded by SYS_RECOVER_USE_GEN (R423). -/
def chosenGen (s : State) : Option Nat :=
  match s.mbx.recoverGen with
  | some g => some g
  | none => ((seatList s).filterMap (latestGen s)).foldl (fun best g => match best with
      | some b => if genLater b g then some g else best
      | none => some g) none

/-- A seat's anchor of a generation: the one written last. -/
def anchorOf (s : State) (seat gen : Nat) : Option Anchor :=
  s.map.anchors.foldl (fun best a => if keyHi a.1 == seat && a.2.intact && a.2.gen == gen then
    match best with
    | some b => if b.ext < a.2.ext then some a.2 else best
    | none => some a.2
    else best) none

/-- Bring-up stops in RECOVERY at a step (R478). -/
def bringupStops (step : Nat) (s : State) : State := s |> wr Reg.PKG_BRINGUP_FAILED_STEP step |> wr Reg.MBX_STATUS_SERVICE 2

/-- Restore the allocation summary of a pool: the rows that its bands had allocated (R163 step 2). -/
def poolRestore (used : FMap Nat) (g : Group) : Group :=
  { g with bands := fmapV g.bands fun n b => { b with used := max b.used (fgetD used n 0) } }

/-- Load the directories of a generation and restore pool summaries, and the page sequence, which never goes back (R159, R163 step 2): map
and record pages come on demand. -/
def imageLoad (im : MapImage) (s : State) : State :=
  { s with
    par := { s.par with groups := fmapV s.par.groups fun p g =>
      if s.pair.recovered.contains g.side then poolRestore (fgetD im.pools p []) g else g }
    map := { s.map with
      pageSeq := im.nextSeq.foldl (fun m e => fset m e.1 (max (fgetD m e.1 1) e.2)) s.map.pageSeq
      dirs := fmapV im.dirs fun _ d => { d with resident := false, dirty := false }
      pages := im.pages
      nextPage := max s.map.nextPage (im.pages.foldl (fun n p => max n (p.1 + 1)) 0)
      recs := im.recs
      nextRec := im.nextRec
      zones := im.zones
      reuse := []
      freed := (im.recs.filter fun r => r.2.length == 0).map fun r => (r.1, s.stk.ext)
      since := [] } }

/-- Pages of a seat's delta log from a sequence, as far as they are consecutive and their CRC matches; `bad` lists those whose CRC does not
(R163 step 3). -/
def dlogRun (bad : List Nat) (l : List DlogPage) : Nat → List DlogPage
  | q => (l.foldl (fun (x : Nat × List DlogPage) p => if p.seq = x.1 ∧ !bad.contains p.seq then (x.1 + 1, x.2 ++ [p]) else x) (q, [])).2

/-- Step 3: replay a seat's delta log from its log start; the images of snapshots that the checkpoint of stroke `ext` does not include
are taken at their split sequences (R361). -/
def dlogReplay (bad : List Nat) (ext seat start : Nat) (s : State) : State :=
  let l := dlogRun bad (s.map.dlog.filter fun p => p.seat == seat && p.programmed) start
  let s := foldS l (fun p s => foldS p.recs (fun d s => deltaReplay seat d s) (imagesSplit seat ext (some p.seq) s)) s
  wr (Reg.MAP_DLOG_SEQ seat) (start + l.length) s

/-- The newest image that a seat's anchor store names for a side and that is not consumed (R499). -/
def newestImage (s : State) (seat side : Nat) : Option HaulImage :=
  (s.pwr.images.filter fun i => keyHi i.1 == seat && keyLo i.1 / 2 == side && !i.2.consumed).foldl (fun best i => match best with
    | some b => if b.seq < i.2.seq then some i.2 else best
    | none => some i.2) none

/-- Step 4: an image that carries its mark is applied: its deltas under R156, its extents as dirty data in open rows; one without it is
not applied at all (R166, R499, R500). -/
def imageApply (seat side : Nat) (s : State) : State :=
  match newestImage s seat side with
  | none => s
  | some i =>
    if i.valid then
      let s := foldS i.recs (fun d s => s |> deltaReplay seat d |> dlogAdd seat d) s
      let s := foldS i.rows (fun p s => dirtyAdd seat (rowBytes s p.1 p.2) s) s
      let long := max (rd s Reg.HLD_LAST_DURATION_MICROSECONDS) i.micros
      s |> wr Reg.HLD_STATUS_LAST_IMAGE_VALID 1 |> wr Reg.HLD_LAST_START i.start |> wr Reg.HLD_LAST_DURATION_MICROSECONDS long
        |> wr Reg.HLD_LAST_BYTES (rd s Reg.HLD_LAST_BYTES + i.bytes)
        |> when (decide (800 * (i.budget - 5) + 5000 < long) && !isSet s Reg.HLD_EVENTS_MARGIN_LOW)
            (event Reg.HLD_EVENTS_MARGIN_LOW Reg.HLD_EVENT_EN_ENABLE 2)
    else s |> wr Reg.HLD_STATUS_LAST_IMAGE_INCOMPLETE 1 |> event Reg.HLD_EVENTS_IMAGE_INCOMPLETE Reg.HLD_EVENT_EN_ENABLE 1

/-- The images that the recovery applies. -/
def imagesApplied (s : State) : List HaulImage :=
  (seatList s).foldl (fun l n => s.pair.recovered.foldl (fun l side => match newestImage s n side with
    | some i => if i.valid then l ++ [i] else l
    | none => l) l) []

/-- Rows whose data the applied images hold. -/
def imageRows (s : State) : List (Nat × Nat) := (imagesApplied s).foldl (fun l (i : HaulImage) => l ++ i.rows) []

/-- The write pointers of the open rows that the applied images record (R496). -/
def imagePtrs (s : State) : List (Nat × Nat × Nat × Nat) := (imagesApplied s).foldl (fun l (i : HaulImage) => l ++ i.openRows) []

/-- Dirty regions of a recovery (R227): those of the images' bitmaps; where some seat's image of the side lacks its mark, every region that
holds a row named open in the root page or by a replayed ROW_OPEN. -/
def regionsDirty (s : State) (side pool : Nat) (scanned : List (Nat × Nat)) : List Nat :=
  let lacking := (seatList s).any fun n => match newestImage s n side with | some i => !i.valid | none => true
  let of_ := fun (l : List (Nat × Nat)) => (l.filter fun x => x.1 == pool).map Prod.snd
  (of_ ((imagesApplied s).foldl (fun l (i : HaulImage) => l ++ i.regions) []) ++
    (if lacking then (of_ scanned).map (· / 16384) else [])).eraseDups

/-- Extents of a row that lie in programmed member pages and have no committed record are orphans (R165 step 5). -/
def orphansCount (pool row seat : Nat) (on : List Nat) (s : State) : State :=
  bumpN (Reg.MAP_ORPHANS_COUNT seat) ((rowExts s pool row).filter fun e => !extLive s e.1 e.2 && (match groupOf s pool with
    | some g => on.contains (extMember g e.2)
    | none => false)).length s

/-- Members of a row whose pages the headers on flash show programmed (R163 step 5). -/
def rowMembersOn (s : State) (pool : Nat) (g : Group) (e : Nat × Row) : List Nat :=
  (List.range (geomW (geomOf g e.2.geom))).filter fun m => !e.2.erased.contains m &&
    (e.2.st == .programmed || (s.map.heads.any fun h => h.2.done && h.2.kind == 1 && h.2.pool == pool && h.2.row == e.1 && h.2.mem == m))

/-- Row scan (R163 step 5): the headers of a row's member pages rebuild its write pointer and parity state. A row none of whose pages is on
flash is open, at the pointer that an applied image or the root page recorded; one with every page there is programmed; the members of any other are still to be programmed. -/
def rowScan (im : MapImage) (p : Nat × Nat) (s : State) : State :=
  match groupOf s p.1, rowOf s p.1 p.2 with
  | some g, some r =>
    if !s.pair.recovered.contains g.side ∨ r.st = .freed then s
    else
      let on := rowMembersOn s p.1 g (p.2, r)
      let left := (List.range (geomW (geomOf g r.geom))).filter fun m => !on.contains m && !r.erased.contains m
      let ptr := match (imagePtrs s ++ im.openRows).find? fun x => x.1 == p.1 && x.2.1 == p.2 with | some x => x.2.2 | none => (0, 0)
      let page := ptr.1
      let fill := ptr.2
      let s := orphansCount p.1 p.2 r.seat on s
      if on = [] then rowMod p.1 p.2 (fun r => { r with st := .opened, left := [], page := page, fill := fill, pad := 0 }) s
      else if left = [] then rowMod p.1 p.2 (fun r => { r with st := .programmed, left := [] }) s
      else rowMod p.1 p.2 (fun r => { r with st := .closed, left := left }) s
  | _, _ => s

/-- Rows that the records of a seat's replayed delta log pages and applied images name as opened. -/
def rowsOpened (l : List Delta) : List (Nat × Nat) := (l.filter fun d => d.kind == .rowOpen).map fun d => (d.nsid, d.lba)

/-- All members of a row. -/
def allMembers (g : Group) (row : Nat) : List Nat :=
  List.range (geomW (geomOf g (match fget g.rows row with | some r => r.geom | none => g.cur)))

/-- A SHORT row (R228): nothing of it can be had here; it is recorded as lost until the peer's journal returns its extents (R166). -/
def rowShort (pool : Nat) (g : Group) (row : Nat) (s : State) : State :=
  s |> rowMod pool row (fun r => { r with st := .programmed, left := [], dram := false }) |> rowLost pool row (allMembers g row)

/-- Step 6 (R228): every non-free row of a dirty region by its outcome. -/
def rowResync (bad imgs : List (Nat × Nat)) (pool : Nat) (g : Group) (e : Nat × Row) (s : State) : State :=
  let r := e.2
  let has := imgs.contains (pool, e.1)
  if r.st = .opened then
    if has then s else rowShort pool g e.1 s
  else if r.st = .closed then
    let good := (rowMembersOn s pool g e).length
    if good + r.erased.length = geomW (geomOf g r.geom) then rowMod pool e.1 (fun r => { r with st := .programmed, left := [], verify := true }) s
    else if has ∨ (!bad.contains (pool, e.1) ∧ (geomOf g r.geom).k ≤ good) then
      s |> when (!has) (dirtyAdd r.seat (rowBytes s pool e.1)) |> rowMod pool e.1 (fun r => { r with st := .programmed, left := [], pad := 0, rewrite := true })
        |> bump (Reg.PAR_RESYNC_ROWS_COUNT r.seat) |> rowRewrite pool e.1
    else rowShort pool g e.1 s
  else if r.st = .programmed then
    if bad.contains (pool, e.1) then rowShort pool g e.1 s else rowMod pool e.1 (fun r => { r with verify := true }) s
  else s

/-- Resynchronise the dirty regions of the groups of the recovered sides (R228). -/
def resyncAll (bad imgs scanned : List (Nat × Nat)) (s : State) : State :=
  foldS (s.par.groups.filter fun g => s.pair.recovered.contains g.2.side) (fun g s =>
    let dirty := regionsDirty s g.2.side g.1 scanned
    foldS (g.2.rows.filter fun r => dirty.contains (r.1 / 16384) || rowUnsettled r.2) (fun e s => rowResync bad imgs g.1 g.2 e s) s) s

/-- The last intact boundary record of a pool (R242, R244). -/
def lastBound (s : State) (pool : Nat) : Option Boundary :=
  (s.par.bounds.filter fun b => b.2.intact && b.2.pool == pool).foldl (fun best b => match best with
    | some x => if strokeLater b.2.seq x.seq then some b.2 else best
    | none => some b.2) none

/-- Place of a row in a walk: rows are visited from the start, wrapping once (R240). -/
def walkPos (g : Group) (reverse : Bool) (start row : Nat) : Nat :=
  let n := max 1 (poolRows g)
  if reverse then (start + n - row) % n else (row + n - start) % n

/-- A walk resumes where its last intact record shows it (R244): the rows from there to the point it had reached are converted again. -/
def reshapeResume (s : State) : State :=
  let w := s.par.reshape
  match groupOf s w.pool, lastBound s w.pool with
  | some g, some b =>
    if !s.pair.recovered.contains g.side then s
    else if !b.active then { s with par := { s.par with reshape := { w with st := if w.st = .idle then .idle else .finishing, turning := false } } }
    else
      let pos := walkPos g b.reverse b.start
      let again := fun n (r : Row) => r.geom == b.src && decide (pos b.boundary ≤ pos n)
      let redo := fun n (r : Row) => if again n r then { r with busy := false, st := if r.st = .freed then .programmed else r.st } else r
      s |> groupMod w.pool (fun g => { g with cur := b.tgt, rows := fmapV g.rows redo })
        |> (fun s => { s with par := { s.par with reshape := { w with
          st := if b.reverse then .reverse else .forward, reverse := b.reverse, boundary := b.boundary, start := b.start
          src := b.src, tgt := b.tgt, sinceRec := 0, turning := false, inStroke := 0
          redo := if pos b.boundary < pos w.boundary then some w.boundary else none } } })
  | _, _ => s

/-- Bring-up reaches the join (R471 step 11). -/
def bringupJoins (s : State) : State :=
  if rd s Reg.PKG_BRINGUP_STEP = 9 then { s with pair := { s.pair with joinFrom := some s.stk.ext } } |> wr Reg.PKG_BRINGUP_STEP 11 else s

/-- The map of the recovered sides is loaded; rows still to be written again keep the front end closed (R476). -/
def recoveryEnds (s : State) : State :=
  bringupJoins <| redundancy <| foldS (seatList s) (fun n s => wr (Reg.MAP_STATUS_RECOVERING n) 0 s) <| reshapeResume { s with boot := { s.boot with mapDone := true, rowsDone := true } }

/-- A map in which nothing has been written. -/
def noImage : MapImage := ⟨[], [], [], [], [], [], [], [], []⟩

/-- Rows that step 5 scans (R163): those of the root pages' lists, and those that replayed ROW_OPEN records name. -/
def rowsScanned (s : State) (im : MapImage) (badLog : List (Nat × Nat)) (start : Nat → Nat) : List (Nat × Nat) :=
  let logs := (seatList s).foldl (fun l n =>
    l ++ (dlogRun ((badLog.filter fun b => b.1 == n).map (·.2)) (s.map.dlog.filter fun p => p.seat == n && p.programmed) (start n)).foldl
      (fun l p => l ++ rowsOpened p.recs) []) []
  let images := (imagesApplied s).foldl (fun l (i : HaulImage) => l ++ rowsOpened i.recs) []
  (im.openRows.map (fun x => (x.1, x.2.1)) ++ logs ++ images).eraseDups

/-- Steps 2 to 6 from a generation's image and each seat's log start. -/
def recoverFrom (bad badLog : List (Nat × Nat)) (im : MapImage) (ext : Nat) (start : Nat → Nat) (s : State) : State :=
  let s := imageLoad im s
  let s := foldS (seatList s) (fun n s => dlogReplay ((badLog.filter fun b => b.1 == n).map (·.2)) ext n (start n) s) s
  let s := foldS (seatList s) (fun n s => foldS s.pair.recovered (fun side s => imageApply n side s) s) s
  let s := foldS (seatList s) (fun n s => imagesSplit n ext none s) s
  let imgs := imageRows s
  s |> snapsLate |> foldS (rowsScanned s im badLog start) (rowScan im) |> resyncAll bad imgs (rowsScanned s im badLog start) |> recoveryEnds

/-- MAP_RECOVERY (R163): every seat recovers its homed map, once the sides are known (R472). A
device that has never written an anchor has only its delta log (log entry 49). A generation that some seat does not hold stops bring-up
(R164). `bad` names the rows whose parity does not agree, `badLog` the delta log pages whose CRC does not match, by seat and
sequence. -/
def mapRecover (bad badLog : List (Nat × Nat)) (s : State) : State :=
  if !isSet s (Reg.MAP_STATUS_RECOVERING 0) ∨ s.boot.mapDone ∨ s.boot.halted ∨ serviceMode s = 2 then s
  else match chosenGen s with
    | none => recoverFrom bad badLog noImage 0 (fun _ => 0) s
    | some g =>
      let lacks := (seatList s).filter fun n => (anchorOf s n g).isNone
      match lacks, fget s.map.images g with
      | [], some im =>
        let s := { s with map := { s.map with recovered := some g, noAnchor := false } }
        let s := foldS (seatList s) (fun n s => s |> wr (Reg.MAP_CKPT_GEN_GEN n) g
          |> wr (Reg.MAP_CKPT_EXT n) (match anchorOf s n g with | some a => a.ext | none => 0)) s
        recoverFrom bad badLog im (match anchorOf s 0 g with | some a => a.ext | none => 0) (fun n => match anchorOf s n g with | some a => a.logStart | none => 0) s
      | _, _ =>
        let s := { s with map := { s.map with noAnchor := true } }
        foldS lacks (fun n s => mapFault n [g] s) s |> bringupStops 9

end Sys2Proof.Machine
end

