-- ==== Sys2Proof/Machine/CollectOps.lean ====
section
/-!
DEFINITION. Machine/CollectOps.lean: collection, erasing rows and bands, READ_ONLY pools, and the sweeps (R111, R154, R167 to R178, R181, R182,
R223, R237, R243, R245, R246).
-/

namespace Sys2Proof.Machine

/-- Tokens of 4 KiB that moving an extent costs (R346). -/
def extTokens (e : Ext) : Nat := ceilDiv (16 * e.length) 4096

/-! ### Levels and READ_ONLY pools at a stroke edge (R167, R177, R178) -/

/-- Collection of a pool runs by a seat's level from when free rows fall below that seat's START percent until they are 2 points above it;
URGENT acts as at most START (R167, R187). -/
def gcLevels (pool : Nat) (s : State) : State :=
  groupMod pool (fun g =>
    let free := 100 * freeRows g
    let all := poolRows g
    let start := fun n => rd s (Reg.MAP_GC_START_START n)
    { g with
      gcActive := (seatList s).filter fun n => decide (free < start n * all) || (g.gcActive.contains n && decide (free < (start n + 2) * all))
      gcUrgent := (seatList s).any fun n => decide (free < min (start n) (rd s (Reg.MAP_GC_START_URGENT n)) * all) }) s

/-- Open rows of a pool that hold accepted data are sealed with pad (R178). -/
def poolSeal (pool : Nat) (s : State) : State :=
  match groupOf s pool with
  | none => s
  | some g => foldS (g.rows.filter fun r => r.2.st == .opened && (rowExts s pool r.1).any fun e => extLive s e.1 e.2)
      (fun r s => rowClose pool r.1 true s) s

/-- A pool's change to and from READ_ONLY at a stroke edge (R177, R178). -/
def poolEdge (pool : Nat) (s : State) : State :=
  match groupOf s pool with
  | none => s
  | some g =>
    if g.readOnlyDue ∧ !g.readOnly then
      s |> groupMod pool (fun g => { g with
          readOnly := true, readOnlyDue := false, victim := none, rows := fmapV g.rows fun _ r => { r with onRetired := false } }) |> poolWritesFail pool |> poolSeal pool |> coxRaise
    else if g.readOnly ∧ 5 * g.floor ≤ 4 * g.spareBlocks then
      s |> groupMod pool (fun g => { g with readOnly := false }) |> coxRaise
    else s

/-! ### Victims (R168, R174, R176, R182) -/

/-- Extents of a row that hold it: valid, pending, or lost and still named. -/
def rowHeld (s : State) (pool row : Nat) : FMap Ext := fkeep (rowExts s pool row) fun a e => extLive s a e || extPending s a

/-- Valid units of a row (R168, R170): its extents that a record names, and those of groups not yet accepted. -/
def rowValid (s : State) (pool row : Nat) : Nat := (rowHeld s pool row).foldl (fun n e => n + e.2.length) 0

/-- A sealed row that may become a victim (R168), with no rewrite, rebuild, reshape or secure discard at work on it; it is not chosen while
one that only lost extents still hold is the victim given up last (log entry 52). -/
def eligibleRow (g : Group) (e : Nat × Row) : Bool :=
  (e.2.st == .programmed || e.2.st == .closed) && !e.2.busy && !e.2.rewrite && g.victim != some e.1

/-- Score of a row under AGE_GROUPED (R168). -/
def ageScore (s : State) (pool : Nat) (g : Group) (e : Nat × Row) : Nat :=
  let d := 1024 * (geomOf g e.2.geom).k
  let v := rowValid s pool e.1
  (d - v) * min 16777215 (s.stk.ext - e.2.sealedAt) / (d + v)

/-- The row with the least key; ties go to the lowest row number. -/
def leastRow (l : FMap Row) (key : Nat × Row → Nat) : Option Nat :=
  (l.foldl (fun (best : Option (Nat × Nat)) e =>
    let k := key e
    match best with
    | some b => if k < b.2 then some (e.1, k) else best
    | none => some (e.1, k)) none).map (·.1)

/-- The row with the greatest key; ties go to the lowest row number. -/
def greatestRow (l : FMap Row) (key : Nat × Row → Nat) : Option Nat :=
  (l.foldl (fun (best : Option (Nat × Nat)) e =>
    let k := key e
    match best with
    | some b => if b.2 < k then some (e.1, k) else best
    | none => some (e.1, k)) none).map (·.1)

/-- The policy's victim (R168). -/
def policyVictim (s : State) (pool : Nat) (g : Group) (l : FMap Row) : Option Nat :=
  if g.ageGrouped then greatestRow l (ageScore s pool g) else leastRow l fun e => rowValid s pool e.1

/-- Difference of the highest and lowest erase counts of a pool (R174). -/
def wearSpread (g : Group) : Nat := let w := poolWear g; w.foldl max 0 - w.foldl min (w.headD 0)

/-- Mean erase count of the blocks of a row's band, in units of 2^-40 (R174). -/
def rowWear (g : Group) (row : Nat) : Nat :=
  let l := bandBlocks g (bandOf g row)
  2 ^ 40 * l.foldl (fun n k => n + fgetD g.wear k 0) 0 / max 1 l.length

/-- MAP_WEAR_SPREAD of a seat; 0 acts as 1. -/
def wearLimit (s : State) (seat : Nat) : Nat := max 1 (rd s (Reg.MAP_WEAR_SPREAD_COUNT seat))

/-- Collection may take a row (R178, R187): its seat's GC_ENABLE is set and its pool writable, or it lies on a block retired meanwhile. -/
def rowAllowed (s : State) (g : Group) (r : Row) : Bool := r.onRetired || (isSet s (Reg.MAP_CTRL_GC_ENABLE r.seat) && !g.readOnly)

/-- The next victim, whether wear levelling chose it, and the seats whose spread wear levelling works on: a secure discard's rows, rows on
blocks retired while collection is stopped, rows queued ahead of the policy, SLC rows above the cache's level, the wear rule's row, and
then the policy's (R168, R174, R176, R178, R182, R236). -/
def victimPick (s : State) (pool : Nat) (g : Group) (skip : Option Nat) : Option (Nat × Bool × List Nat) :=
  let ok := g.rows.filter fun e => eligibleRow g e && rowAllowed s g e.2 && skip != some e.1
  let dis := discardRows s pool
  match g.rows.find? fun e => dis.contains e.1 && (e.2.st == .programmed || e.2.st == .closed) && g.victim != some e.1 && skip != some e.1 with
  | some e => some (e.1, false, g.wearing)
  | none => (match ok.find? fun e => (e.2.onRetired && (g.readOnly || !isSet s (Reg.MAP_CTRL_GC_ENABLE e.2.seat))) || (e.2.ahead && !g.readOnly) with
    | some e => some (e.1, false, g.wearing)
    | none =>
      let slc := ok.filter fun e => e.2.slc
      let run := ok.filter fun e => g.gcActive.contains e.2.seat
      if slcOver g && slc != [] then (policyVictim s pool g slc).map fun r => (r, false, g.wearing)
      else
        let d := wearSpread g
        let wearing := (seatList s).filter fun n => decide (wearLimit s n < d) || (g.wearing.contains n && decide (wearLimit s n * 7 ≤ 8 * d))
        let worn := run.filter fun e => wearing.contains e.2.seat
        if worn != [] && (g.wearing == [] || decide (7 ≤ g.sinceWear)) then (leastRow worn fun e => rowWear g e.1).map fun r => (r, true, wearing)
        else (policyVictim s pool g run).map fun r => (r, false, wearing))

/-- GC_VICTIM_SELECT: one victim of a pool at a time, within collection's grant (R168, R346); a victim that holds nothing to copy but
cannot be freed is given up. -/
def victimSelect (pool : Nat) (s : State) : State :=
  match groupOf s pool with
  | none => s
  | some g =>
    let stuck := match g.victim with | some r => rowMovable s pool r == [] && rowHeld s pool r != [] | none => false
    if g.victim.isSome && !stuck then s
    else
      let s := match g.victim with
        | some r => s |> rowMod pool r (fun x => { x with ahead := false }) |> groupMod pool (fun g => { g with victim := none })
        | none => s
      match (groupOf s pool).bind fun x => (victimPick s pool x g.victim).map fun v => (x, v) with
      | none => s
      | some (g, row, wear, wearing) =>
        let seat := match fget g.rows row with | some r => r.seat | none => 0
        if !ownsSide s g.side ∨ !mayRun s seat .gc ∨ groupHeld s pool then s
        else groupMod pool (fun g => { g with victim := some row, wearing := wearing, sinceWear := if wear then 0 else g.sinceWear + 1 }) s

/-! ### Copies (R169 to R172, R230) -/

/-- Collection's first step with an extent: it copies the extent, unchanged, into an open row (R169, R170), within its grant (R24, R346). -/
def gcCopy (pool a : Nat) (tagsOk : Bool) (e : Ext) (g : Group) (s : State) : State :=
  match fget g.rows e.row with
  | none => s
  | some r =>
    if e.pool ≠ pool ∨ g.victim ≠ some e.row ∨ extMovable s a e = false ∨ !rowAllowed s g r ∨ !mayRun s r.seat .gc then s
    else
      let t := if tagsOk then (true, s) else tagMismatch pool g e s
      if !t.1 then t.2
      else match extAppend pool r.seat (moveStream t.2 g r.seat r e) false r.slc e t.2 with
        | (some new, s) => s |> extFetch pool g r e
            |> groupMod pool (fun g => { g with copies := fset g.copies a new, gcMoved := g.gcMoved + 16 * e.length })
            |> charge r.seat .gc (extTokens e)
        | (none, s) => s

/-- GC_MOVE_COMMIT on a victim (R170): an extent not yet copied is copied; the MOVE of one that has been copied commits, if its record
still names the old address, and is dropped otherwise. -/
def gcMove (pool a : Nat) (tagsOk : Bool) (s : State) : State :=
  match fget s.par.exts a, groupOf s pool with
  | some e, some g => (match fget g.copies a with
    | none => gcCopy pool a tagsOk e g s
    | some new =>
      let kept := (discardRows s pool).contains e.row && extMovable s a e
      let s := s |> moveExt a new e |> groupMod pool (fun g => { g with copies := fdel g.copies a })
      { s with map := { s.map with discard := s.map.discard.map fun d => if kept then { d with kept := d.kept + 1 } else d } })
  | _, _ => s

/-! ### The rekey sweep (R394) -/

/-- A generation of a domain is marked SWEEP. -/
def genMarked (s : State) (d g : Nat) : Bool := match domainOf s d with | some x => x.sweep && x.marked.contains g | none => false

/-- An extent of a swept generation: opened under its own key, sealed under the current generation into an open row, its MOVE carrying
the new generation (R394). It waits for a key slot, a nonce or a row. -/
def rekeyMove (pool a : Nat) (s : State) : State :=
  match fget s.par.exts a, groupOf s pool with
  | some e, some g =>
    match fget g.rows e.row with
    | none => s
    | some r =>
      let gen := curGen s e.domain
      let k := slotKey 0 e.domain gen
      let k0 := slotKey 0 e.domain e.keyGen
      if e.pool ≠ pool ∨ !genMarked s e.domain e.keyGen ∨ !extLive s a e ∨ extLost s e ∨ !ownsSide s g.side ∨ !mayRun s r.seat .sweep then s
      else if !slotHas s r.seat k0 then slotAsk r.seat k0 s
      else if !slotHas s r.seat k then slotAsk r.seat k s
      else match takeCounter r.seat e.domain s with
        | (none, s) => bump (if reserveStalls s r.seat e.domain then Reg.CIP_RESERVE_STALL_COUNT r.seat else Reg.CIP_SHARE_STALL_COUNT r.seat) s
        | (some ctr, s) =>
          let s := s |> slotTouch r.seat k0 |> slotTouch r.seat k |> bump (Reg.CIP_OPENS r.seat) |> bump (Reg.CIP_SEALS r.seat)
          let e := { e with keyGen := gen, nonce := nonceOf s r.seat ctr, sealedAt := s.stk.ext }
          let e := { e with tag := extTag k e }
          match extAppend pool r.seat (moveStream s g r.seat r e) false r.slc e s with
          | (some new, s) => s |> moveExtAs (some gen) a new e |> charge r.seat .sweep (extTokens e)
          | (none, s) => s
  | _, _ => s

/-- GC_MOVE_COMMIT: an extent of the victim is copied, one of a swept generation is sealed anew; any other is left where it is. -/
def moveCommit (pool a : Nat) (tagsOk : Bool) (s : State) : State :=
  let victim := match fget s.par.exts a, groupOf s pool with | some e, some g => g.victim == some e.row || fhas g.copies a | _, _ => false
  if victim then gcMove pool a tagsOk s else rekeyMove pool a s

/-- At a stroke edge: a pass has found no record of a domain under its marked generations; and once a checkpoint after that has
completed, LIVE and SWEEP of those generations are cleared and the sweep is over (R394). -/
def rekeyEdge (s : State) : State :=
  foldS s.keys.domains (fun e s =>
    if !e.2.sweep then s
    else match e.2.passAt with
      | none =>
        if s.par.exts.any fun x => x.2.domain == e.1 && e.2.marked.contains x.2.keyGen && (extLive s x.1 x.2 || extPending s x.1) then s
        else domainMod e.1 (fun x => { x with passAt := some s.stk.ext }) s
      | some t =>
        if (seatList s).all fun n => decide (t < rd s (Reg.MAP_CKPT_EXT n)) then
          domainMod e.1 (fun x => { x with
            sweep := false, passAt := none, live := x.live.filter (fun g => !x.marked.contains g), marked := [] }) s
        else s) s

/-! ### Erasing (R173, R182, R223, R243, R246) -/

/-- ROW_ERASE (R173): a victim, a row that the walk has converted, or one that held only dropped zones, becomes free once nothing valid lies in it, its MOVEs are in
programmed delta log pages and no read that looked it up is in flight. A MOVE still in a buffer has the buffer written first (R158). -/
def rowErase (pool row : Nat) (s : State) : State :=
  match groupOf s pool, rowOf s pool row with
  | some g, some r =>
    if r.st ≠ .programmed ∨ r.rewrite ∨ !(g.victim == some row || r.stream % 4 == 3 || r.busy) || rowHeld s pool row != [] then s
    else if r.moves ≠ [] then foldS r.moves (fun m s => dlogClose m.1 s) s
    else if 0 < r.readers then s
    else s |> rowMod pool row (fun r => { r with st := .freed, ahead := false, verify := false, dram := false, busy := false })
      |> groupMod pool (fun g => if g.victim = some row then { g with victim := none, gcRows := g.gcRows + 1 } else g)
      |> redundancy
  | _, _ => s

/-- A band with a converted row may be erased only when an intact record shows the walk past that row (R243). -/
def boundShown (s : State) (pool : Nat) (g : Group) (band : Nat) (b : Band) : Bool :=
  let w := s.par.reshape
  if w.pool ≠ pool ∨ w.st = .idle ∨ b.geom ≠ w.src ∨ w.st = .finishing then true
  else
    let pos := walkPos g w.reverse w.start
    let at_ := match lastBound s pool with | some r => if r.active && r.reverse == w.reverse then pos r.boundary else 0 | none => 0
    (g.rows.filter fun r => bandOf g r.1 == band).all fun r => decide (pos w.boundary ≤ pos r.1) || decide (pos r.1 < at_)

/-- Every row of a band is free, and none lies in a dirty region (R223). -/
def bandReady (s : State) (pool band : Nat) (g : Group) (b : Band) : Bool :=
  let l := g.rows.filter fun r => bandOf g r.1 == band
  l != [] && l.all (fun r => r.2.st == .freed && r.2.readers == 0 && !regionDirty g (r.1 / 16384)) && boundShown s pool g band b

/-- BAND_ERASE (R223): erase the blocks of a band on every member that a share holds. -/
def bandErase (pool band : Nat) (s : State) : State :=
  match groupOf s pool with
  | none => s
  | some g => (match fget g.bands band with
    | none => s
    | some b =>
      if !ownsSide s g.side || erasesOut s pool band || !bandReady s pool band g b then s
      else
        let s := groupMod pool (fun g => { g with bands := fset g.bands band { b with used := bandRows g b } }) s
        let s := foldS (List.range (geomW (geomOf g b.geom))) (fun m s =>
          match memberShare g b m, b.blocks[m]? with
          | some sh, some (die, block) => nandIssue sh.slot { nandCmd opErase die block 0 (.erase pool band m) with slc := b.slc } s
          | _, _ => s) s
        bandFreed pool band s)

/-- A secure discard completes once the last of its rows has been erased (R182). -/
def discardCheck (s : State) : State :=
  match s.map.discard with
  | none => s
  | some d =>
    let left := d.rows.filter fun k => (rowOf s (keyHi k) (keyLo k)).isSome
    if left = [] then mbxComplete d.slot .ok 0 [d.kept] { s with map := { s.map with discard := none } }
    else { s with map := { s.map with discard := some { d with rows := left } } }

/-- A share that no band of a group and no geometry but a removed one needs is released (R246). -/
def reshapeFinish (s : State) : State :=
  let w := s.par.reshape
  if w.st ≠ .finishing then s
  else match groupOf s w.pool with
    | none => s
    | some g =>
      if g.bands.any fun b => b.2.geom == w.src then s
      else
        let s := groupMod w.pool (fun g => { g with geoms := fdel g.geoms w.src }) s
        let s := foldS (geomOf g w.src).shares (fun sh s => if sharesOn s sh.slot = [] then wr (Reg.BLD_SLOT_STATUS_IN_USE sh.slot) 0 s else s) s
        redundancy { s with par := { s.par with reshape := { s.par.reshape with st := .idle } } }

/-- Rows or bands have become free: what waited for them goes on (R167, R222). -/
def roomFound (s : State) : State :=
  foldS s.par.groups (fun g s => rewritesRetry g.1 s) (appendRetry s) |> discardCheck |> reshapeFinish

/-! ### The release sweep (R181, R362) -/

/-- The sweep releases one page of a namespace or image that is gone: while another directory names the page, only the directory entry
goes; otherwise each entry gives up its reference and the page is freed. A snapshot's DEALLOCATED entries hold none (R153, R362). -/
def releasePage (owner k : Nat) (s : State) : State :=
  match fget s.map.dirs k with
  | none => s
  | some d =>
    let tenant := ownerTenant s owner
    let seat := ownerSeat s owner
    let s' := { s with map := { s.map with dirs := fdel s.map.dirs k } }
    let s' := match frameOf s seat k with
      | some f => { s' with map := { s'.map with frames := fdel s'.map.frames (pairKey seat f) } } |> tcDropFrame seat f
      | none => s'
    let ents := (fgetD s.map.pages d.page []).filter fun e => entSt e.2 == .mapped || (entSt e.2 == .dealloc && decide (owner < 4294967296))
    let n := if owner < 4294967296 then ents.length else 0
    let s' := { s' with map := { s'.map with backlog := fset s'.map.backlog seat (fgetD s'.map.backlog seat 0 - n) } }
    if 1 < shareCount s d.page then refreshShared d.page s'
    else
      let s' := foldS ents (fun e s => s |> entRelease tenant e.2
        |> dlogAdd seat (delta .release owner (dirIdx k * pageEnts + e.1) e.2.handle ((e.2.replay + 1) % 65536))) s'
      { s' with map := { s'.map with pages := fdel s'.map.pages d.page } }

/-- An owner is swept: no directory of it is left. -/
def ownerDone (owner : Nat) (s : State) : State :=
  if (s.map.dirs.any fun d => dirOwner d.1 == owner) || s.nv.cmds.any (fun c => c.2.nsid == owner) then s
  else { s with map := { s.map with releasing := fdel s.map.releasing owner } } |> snapsGone

/-- RELEASE_SWEEP (R181): one DEALLOCATED entry of a namespace, or one page of a namespace or image that is gone, within the SWEEP grant. -/
def releaseSweep (owner lba : Nat) (s : State) : State :=
  let seat := ownerSeat s owner
  if !mayRun s seat .sweep then s
  else if fhas s.map.releasing owner then
    s |> releasePage owner (dirKey owner (lba / pageEnts)) |> charge seat .sweep 4 |> ownerDone owner
  else
    let e := entAt s owner lba
    if owner < 4294967296 ∧ entSt e = .dealloc ∧ tagThrottled s owner lba = false then
      let s := commitEnt owner lba entReset s
      s |> dlogAdd seat (delta .release owner lba e.handle (entAt s owner lba).replay) |> charge seat .sweep 1
    else s

/-! ### The recount sweep (R154) -/

/-- References to a handle in a page. -/
def pageNames (s : State) (handle page : Nat) : Nat :=
  countWhere (fgetD s.map.pages page []) fun _ e => entNames (pageLive s page) handle e

/-- REF_RECOUNT_SWEEP (R154): the references to a saturated record in the pages of a complete checkpoint and the changes since; below
saturation the total becomes REFS, PINNED goes from the entries counted, and a COUNT_SET is logged. -/
def recount (tenant handle : Nat) (s : State) : State :=
  let k := recKey tenant handle
  let seat := recSeat s k
  match fget s.map.recs k with
  | none => s
  | some r =>
    if r.refs ≠ refsMax ∨ s.map.images = [] ∨ !mayRun s seat .sweep then s
    else
      let pages := tenantPages s tenant
      let n := pages.foldl (fun n p => n + pageNames s handle p) 0
      let s := charge seat .sweep 1 s
      if refsMax ≤ n then s
      else
        s |> countSet tenant handle n |> freeIdle k |> dlogAdd seat (delta .countSet tenant n handle 0)

/-! ### The background dedup pass (R111) -/

/-- Two records hold the same plaintext in one domain, as their extents opened show it. -/
def samePlain (s : State) (a b : Rec) : Bool :=
  match fget s.par.exts a.extent, fget s.par.exts b.extent with
  | some x, some y => x.domain == y.domain && x.data == y.data && x.stored == y.stored
  | _, _ => false

/-- The logged fingerprints hold two handles of a tenant with one fingerprint. -/
def fpLogged (s : State) (tenant h1 h2 : Nat) : Bool :=
  s.ing.fpLog.any fun a => a.2.2.1 == h1 && a.2.2.2 == tenant && s.ing.fpLog.any fun b => b.2.2.1 == h2 && b.2.2.2 == tenant && b.2.1 == a.2.1

/-- DEDUP_PASS (R111): an entry that names another record with the same plaintext is rewritten to share the record of a handle, through
the same range lock and journal as a host write: a command of no queue carries the REF record. -/
def dedupPass (nsid lba handle : Nat) (s : State) : State :=
  match nsOf s nsid with
  | none => s
  | some n =>
    let p := n.cur.p
    let home := homeSeat s nsid
    let e := entAt s nsid lba
    match recOf s p.tenant e.handle, recOf s p.tenant handle with
    | some a, some b =>
      let free := (fget s.ing.locks (lockKey nsid (lba / 16))).isNone
      if entSt e = .mapped ∧ e.handle ≠ handle ∧ p.dedup ∧ !p.zoned ∧ free = true ∧ isSet s (Reg.MAP_CTRL_DEDUP_PASS home) = true ∧
          mayRun s home .sweep = true ∧ ownsSide s p.side = true ∧ n.cur.adm = .opened ∧ b.refs ≠ 0 ∧
          fpLogged s p.tenant e.handle handle = true ∧ samePlain s a b = true then
        let id := s.nv.nextCmd
        let c : Cmd := ⟨home, 16384, 0, .deallocate [(lba, 1)], nsid, lba, 1, plainCap, .working, s.stk.ext, 0, 0, p, 0, 0, none, 0, 0, 0, [], none, 0⟩
        { s with nv := { s.nv with cmds := fset s.nv.cmds id c, nextCmd := id + 1 } }
          |> cmdMatch id n |> locksAsk id |> holdRec (recKey p.tenant handle) |> grpNew id home 0 1
          |> (fun s => { s with
            ing := { s.ing with
              blks := fset s.ing.blks (pairKey id 0) { blkNew with stage := .done, hold := some handle }
              fpLog := s.ing.fpLog.filter fun x => !(x.2.2.1 == e.handle && x.2.2.2 == p.tenant) } })
          |> recAdd id 0 (delta .ref nsid lba handle 0) |> charge home .sweep 2
      else s
    | _, _ => s

/-! ### The lost sweep (R237) -/

/-- LOST_SWEEP: an LBA whose entry names an extent on an unrecoverable member of a lost row enters the lost-extent list and is logged. -/
def lostSweep (nsid lba : Nat) (s : State) : State :=
  let seat := homeSeat s nsid
  let e := entAt s nsid lba
  let x := if entSt e = .mapped then (recOf s (ownerTenant s nsid) e.handle).bind fun r => fget s.par.exts r.extent else none
  match x with
  | some x =>
    if extLost s x ∧ mayRun s seat .sweep = true ∧ !fhas s.map.lost (lbaKey nsid lba) then
      { s with map := { s.map with lost := fset s.map.lost (lbaKey nsid lba) x.pool } } |> logFw seat 237 [nsid, lba, 1] |> charge seat .sweep 1
    else s
  | none => s

end Sys2Proof.Machine
end

