-- ==== Sys2Proof/Machine/Map.lean ====
section
/-!
DEFINITION. Machine/Map.lean: the commands of the map, of collection and of the sweeps.
-/

namespace Sys2Proof.Machine

/-- PAGE_FILL_DONE (R146, R152). -/
def execPageFillDone (seat dir : Nat) (s : State) : Host.Outcome State Fault Refusal := go (live (pageFilled seat dir) s)

/-- TC_LINE_FILL (R148, R150). -/
def execTcLineFill (seat lane : Nat) (l : LineFill) (s : State) : Host.Outcome State Fault Refusal := go (live (lineFilled seat lane l.cycles l.ecc) s)

/-- CKPT_IMAGES_PROGRAMMED (R160). -/
def execCkptImagesProgrammed (seat : Nat) (s : State) : Host.Outcome State Fault Refusal := go (live (imagesProgrammed seat) s)

/-- CKPT_ROOT_PROGRAMMED (R160, R162). -/
def execCkptRootProgrammed (seat : Nat) (intact : Bool) (s : State) : Host.Outcome State Fault Refusal := go (live (rootProgrammed seat intact) s)

/-- CKPT_COMPLETE (R160, R308). -/
def execCkptComplete (s : State) : Host.Outcome State Fault Refusal := go (live ckptDone s)

/-- CKPT_LATE (R161). -/
def execCkptLate (s : State) : Host.Outcome State Fault Refusal := go (live ckptOverdue s)

/-- DLOG_PAGE_PROGRAMMED (R158, R307). -/
def execDlogPageProgrammed (seat : Nat) (s : State) : Host.Outcome State Fault Refusal := go (live (dlogProgrammed seat) s)

/-- MAP_RECOVERY (R163). -/
def execMapRecovery (bad : BadPages) (s : State) : Host.Outcome State Fault Refusal := go (mapRecover bad.images bad.logs s)

/-- GC_VICTIM_SELECT (R168). -/
def execGcVictimSelect (pool : Nat) (s : State) : Host.Outcome State Fault Refusal := go (live (victimSelect pool) s)

/-- GC_MOVE_COMMIT (R170, R394). -/
def execGcMoveCommit (pool addr : Nat) (tagsOk : Bool) (s : State) : Host.Outcome State Fault Refusal := go (live (moveCommit pool addr tagsOk) s)

/-- ROW_ERASE (R173). -/
def execRowErase (pool row : Nat) (s : State) : Host.Outcome State Fault Refusal := go (live (rowErase pool row) s)

/-- BAND_ERASE (R223). -/
def execBandErase (pool band : Nat) (s : State) : Host.Outcome State Fault Refusal := go (live (fun s => s |> bandErase pool band |> roomFound) s)

/-- RELEASE_SWEEP (R181). -/
def execReleaseSweep (owner lba : Nat) (s : State) : Host.Outcome State Fault Refusal :=
  go (live (fun s => s |> releaseSweep owner lba |> retireCheck) s)

/-- REF_RECOUNT_SWEEP (R154). -/
def execRefRecountSweep (tenant handle : Nat) (s : State) : Host.Outcome State Fault Refusal := go (live (recount tenant handle) s)

/-- DEDUP_PASS (R111). -/
def execDedupPass (nsid lba handle : Nat) (s : State) : Host.Outcome State Fault Refusal := go (live (dedupPass nsid lba handle) s)

/-- LOST_SWEEP (R237). -/
def execLostSweep (nsid lba : Nat) (s : State) : Host.Outcome State Fault Refusal := go (live (lostSweep nsid lba) s)

end Sys2Proof.Machine
end

