-- ==== Sys2Proof/Machine/Stripes.lean ====
section
/-!
DEFINITION. Machine/Stripes.lean: background verification, rebuild, reshape, and the commands on groups (R210 to R213, R228 to R246).
-/

namespace Sys2Proof.Machine

/-! ### Background verification (R228) -/

/-- PARITY_VERIFY: the parity of a COMPLETE row is checked within the SWEEP grant, against the pages that its members returned; where every
data member opens cleanly and parity disagrees, the row is PARITY_BAD: its parity members count as erased and it is collected ahead of the
policy. -/
def parityVerify (pool row : Nat) (opens : Bool) (pages : List (List Nat)) (s : State) : State :=
  match groupOf s pool, rowOf s pool row with
  | some g, some r =>
    if !r.verify ∨ r.st ≠ .programmed ∨ !isSet s (Reg.PAR_CTRL_BG_VERIFY r.seat) ∨ !mayRun s r.seat .sweep ∨ !ownsSide s g.side then s
    else
      let x := geomOf g r.geom
      let s := s |> rowMod pool row (fun r => { r with verify := false }) |> charge r.seat .sweep (4 * geomW x)
      if opens && !parityAgrees x.k x.m row pages then
        let par := (List.range x.m).map fun i => memberOf row (x.k + i) (geomW x)
        s |> bump (Reg.PAR_PARITY_BAD_COUNT r.seat)
          |> rowMod pool row (fun r => { r with ahead := true, erased := r.erased ++ par.filter fun m => !r.erased.contains m })
      else s
  | _, _ => s

/-- PARITY_VERIFY. -/
def execParityVerify (pool row : Nat) (opens : Bool) (pages : List (List Nat)) (s : State) : Host.Outcome State Fault Refusal :=
  go (running (parityVerify pool row opens pages) s)

/-! ### Rebuild (R231 to R235) -/

/-- Members of a band that a rebuild still has to bring to its target. -/
def rebuildMembers (g : Group) (b : Band) : List Nat :=
  let x := geomOf g b.geom
  (List.range (geomW x)).filter fun m => match x.shares[m]? with
    | some sh => sh.lost && !b.onTarget.contains m && (match rebuildOf g sh with | some r => !r.target.lost | none => false)
    | none => false

/-- Rows of a band that are not free. -/
def bandLive (g : Group) (band : Nat) : FMap Row := g.rows.filter fun r => bandOf g r.1 == band && r.2.st != .freed

/-- Order of a band in a rebuild (R232): least surviving redundancy, then rows in a dirty region, then its number. -/
def rebuildRank (g : Group) (e : Nat × Band) : Nat × Nat × Nat :=
  let l := bandLive g e.1
  let worst := l.foldl (fun n r => max n (rowGone g e.2 r.1 r.2)) 0
  ((geomOf g e.2.geom).m - min (geomOf g e.2.geom).m worst, if l.any (fun r => regionDirty g (r.1 / 16384)) then 0 else 1, e.1)

/-- One rank comes before another. -/
def rankLess (a b : Nat × Nat × Nat) : Bool :=
  decide (a.1 < b.1) || (a.1 == b.1 && (decide (a.2.1 < b.2.1) || (a.2.1 == b.2.1 && decide (a.2.2 < b.2.2))))

/-- The band that the rebuild works on, or the next: one whose rows have all been programmed and not all freed (R232). -/
def rebuildBand (g : Group) : Option (Nat × Band) :=
  match g.rebuilds.findSome? fun r => r.band with
  | some n => (fget g.bands n).map fun b => (n, b)
  | none => (g.bands.filter fun e => rebuildMembers g e.2 != [] && bandLive g e.1 != [] && (bandLive g e.1).all fun r => !rowUnsettled r.2).foldl
      (fun best e => match best with
        | some b => if rankLess (rebuildRank g e) (rebuildRank g b) then some e else best
        | none => some e) none

/-- The next row of the rebuild: rows of its band in ascending order. -/
def rebuildRow (g : Group) (n : Nat) : Option Nat :=
  let done := match g.rebuilds.find? fun r => r.band == some n with | some r => r.rows | none => []
  ((bandLive g n).find? fun r => !done.contains r.1).map (·.1)

/-- The block of a band on a rebuild target. -/
def targetBlock (g : Group) (t : Share) (n : Nat) : Nat × Nat := (t.die + n % max 1 g.dies, n / max 1 g.dies)

/-- A band's blocks with those of its members on their targets. -/
def onTargets (g : Group) (n : Nat) (b : Band) (ms : List Nat) : Band :=
  { b with blocks := (List.zip (List.range b.blocks.length) b.blocks).map fun p =>
      if ms.contains p.1 then (match ((geomOf g b.geom).shares[p.1]?).bind (rebuildOf g) with
        | some r => targetBlock g r.target n
        | none => p.2) else p.2 }

/-- A page fails to program on the target (R177, R232): its block is retired, the rows already rebuilt are copied to a spare, and the page is
programmed there. -/
def targetRetire (pool n m : Nat) (s : State) : State :=
  match (groupOf s pool).bind fun g => (fget g.bands n).map fun b => (g, b) with
  | none => s
  | some (g, b) => (match ((geomOf g b.geom).shares[m]?).bind (rebuildOf g) with
    | some r => blockRetireOn pool n m r.target (fkeep g.rows fun row x => bandOf g row == n && x.st == .programmed && r.rows.contains row) s
    | none => s)

/-- A rebuilt share takes the lost one's place in every geometry (R235). -/
def shareReplace (pool : Nat) (r : Rebuild) (s : State) : State :=
  let hit := fun (sh : Share) => sh.lost && sh.slot == r.slot && sh.idx == r.idx
  s |> groupMod pool (fun g => { g with
      bands := fmapV g.bands fun n b =>
        let ms := (List.range b.blocks.length).filter fun m => match (geomOf g b.geom).shares[m]? with | some sh => hit sh | none => false
        { onTargets g n b (ms.filter fun m => !b.onTarget.contains m) with onTarget := b.onTarget.filter fun m => !ms.contains m }
      geoms := fmapV g.geoms fun _ x => { x with shares := x.shares.map fun sh => if hit sh then { r.target with lost := false } else sh }
      rebuilds := g.rebuilds.filter fun x => !(x.slot == r.slot && x.idx == r.idx) })
    |> slotRelease r.slot |> redundancy

/-- Rebuilds with no band left to do have replaced their shares (R235). -/
def rebuildsEnd (pool : Nat) (s : State) : State :=
  match groupOf s pool with
  | none => s
  | some g => foldS g.rebuilds (fun r s =>
      let left := g.bands.any fun e => bandLive g e.1 != [] && (rebuildMembers g e.2).any fun m => match (geomOf g e.2.geom).shares[m]? with
        | some sh => sh.slot == r.slot && sh.idx == r.idx
        | none => false
      if left || r.target.lost then s else shareReplace pool r s) s

/-! ### Catching up after a bridge's restart (R555) -/

/-- Shares of a blade that restart catch up, or are lost (R555). -/
def restartingSet (slot : Nat) (v : Bool) (s : State) : State :=
  { s with par := { s.par with groups := fmapV s.par.groups fun _ g => { g with geoms := fmapV g.geoms fun _ x =>
      { x with shares := x.shares.map fun sh => if sh.slot = slot ∧ !sh.lost then { sh with restarting := v } else sh } } } }

/-- Every row written without a restarting blade has caught up: its shares no longer count as consumed (R555). -/
def caughtUp (slot : Nat) (s : State) : State :=
  match fget s.upd.restarts slot with
  | none => s
  | some r =>
    if r.back ∧ r.missed = [] then
      { s with upd := { s.upd with restarts := fdel s.upd.restarts slot } } |> restartingSet slot false |> redundancy
    else s

/-- The slot and the row that a catch-up does next in a pool: bands in the order of R232, rows ascending. -/
def catchNext (s : State) (pool : Nat) (g : Group) : Option (Nat × Nat) :=
  let l : List (Nat × Nat) := s.upd.restarts.foldl (fun (l : List (Nat × Nat)) e =>
    if e.2.back then l ++ (e.2.missed.filter fun k => keyHi k == pool).map fun k => (e.1, keyLo k) else l) []
  l.foldl (fun (best : Option (Nat × Nat)) x => match best with
    | none => some x
    | some b => (match fget g.bands (bandOf g x.2), fget g.bands (bandOf g b.2) with
      | some p, some q =>
        let rp := rebuildRank g (bandOf g x.2, p)
        let rq := rebuildRank g (bandOf g b.2, q)
        if rankLess rp rq || (!rankLess rq rp && decide (x.2 < b.2)) then some x else best
      | none, some _ => some x
      | _, none => best)) none

/-- A row written without a blade that has restarted is rebuilt onto that blade (R555); a row that is free again is left out. -/
def catchRow (pool slot row : Nat) (checksOk progOk : Bool) (s : State) : State :=
  match groupOf s pool with
  | none => s
  | some g =>
    let drop := fun (s : State) => caughtUp slot
      { s with upd := { s.upd with restarts := fmod s.upd.restarts slot fun r => { r with missed := r.missed.filter (· != pairKey pool row) } } }
    match fget g.rows row, fget g.bands (bandOf g row) with
    | some r, some b =>
      if rowUnsettled r ∨ !ownsSide s g.side ∨ !mayRun s r.seat .rebuild ∨ !isSet s (Reg.PAR_CTRL_REBUILD_EN r.seat) then s
      else
        let ms := (List.range (geomW (geomOf g b.geom))).filter fun m => match memberShare g b m with | some sh => sh.slot == slot | none => false
        let bad := rowHeld s pool row != [] && (!checksOk || decide ((aliveMembers g row).length < rowK g row))
        let s := when (rowHeld s pool row != [] && !checksOk) (bump (Reg.PAR_TAG_MISMATCH_COUNT r.seat)) s
        let s := if bad then rowLost pool row ms s else s
        let s := if progOk then s else foldS ms (fun m s => blockRetire pool (bandOf g row) m s) s
        s |> rowMod pool row (fun r => { r with erased := r.erased.filter fun m => !ms.contains m })
          |> when (rowHeld s pool row != [] && !bad) (rowDecode pool g row ms r.seat)
          |> foldS ms (fun m s => s |> rowHead pool row m |> memberOnFlash pool row m)
          |> charge r.seat .rebuild (4 * (rowK g row + ms.length)) |> drop
    | _, _ => drop s

/-- REBUILD_ROW (R232 to R235): the next row of the rebuild, within its grant: its lost members are reconstructed and programmed on their
targets; a row without live extents gets pad pages; when no set of survivors gives extents that pass, they are lost (R230, R236). -/
def rebuildStep (pool row : Nat) (checksOk progOk : Bool) (s : State) : State :=
  match groupOf s pool with
  | none => s
  | some g => (match rebuildBand g with
    | none => rebuildsEnd pool s
    | some (n, b) => (match rebuildRow g n, fget g.rows row with
      | some next, some r =>
        if next ≠ row ∨ !isSet s (Reg.PAR_CTRL_REBUILD_EN r.seat) ∨ !mayRun s r.seat .rebuild ∨ !ownsSide s g.side then s
        else
          let ms := rebuildMembers g b
          let fresh := !g.rebuilds.any fun x => x.band == some n
          let s := if fresh then groupMod pool (fun g => { g with bands := fset g.bands n (onTargets g n b ms) }) s else s
          let alive := (aliveMembers g row).length
          let bad := rowHeld s pool row != [] && (!checksOk || decide (alive < rowK g row))
          let s := when (rowHeld s pool row != [] && !checksOk) (bump (Reg.PAR_TAG_MISMATCH_COUNT r.seat)) s
          let s := if bad then rowLost pool row ms s else s
          let s := if progOk then s else foldS ms (fun m s => targetRetire pool n m s) s
          let mine := fun (x : Rebuild) => ms.any fun m => match (geomOf g b.geom).shares[m]? with
            | some sh => sh.slot == x.slot && sh.idx == x.idx
            | none => false
          let s := s |> rowMod pool row (fun r => { r with erased := r.erased.filter fun m => !ms.contains m })
            |> groupMod pool (fun g => { g with rebuilds := g.rebuilds.map fun x => if mine x then { x with band := some n, rows := x.rows ++ [row] } else x })
            |> when (rowHeld s pool row != [] && !bad) (rowDecode pool g row ms r.seat)
            |> foldS ms (fun m s => s |> rowHead pool row m |> memberOnFlash pool row m)
            |> charge r.seat .rebuild (4 * (rowK g row + ms.length))
          (match (groupOf s pool).bind fun g => rebuildRow g n with
            | some _ => s
            | none =>
              s |> groupMod pool (fun g => { g with
                  bands := fmod g.bands n fun b => { b with onTarget := b.onTarget ++ ms }
                  rebuilds := g.rebuilds.map fun x => if mine x then { x with band := none, rows := [], done := x.done + 1 } else x })
                |> rebuildsEnd pool)
      | none, _ => groupMod pool (fun g => { g with rebuilds := g.rebuilds.map fun x => { x with band := none, rows := [] } }) s
      | _, _ => s))

/-- REBUILD_ROW (R232 to R235, R555). -/
def execRebuildRow (pool row : Nat) (checksOk progOk : Bool) (s : State) : Host.Outcome State Fault Refusal :=
  go (running (fun s =>
    if groupHeld s pool then s
    else match (groupOf s pool).bind fun g => catchNext s pool g with
    | some (slot, next) => if next = row then catchRow pool slot row checksOk progOk s else rebuildStep pool row checksOk progOk s
    | none => rebuildStep pool row checksOk progOk s) s)

/-! ### Reshape (R239 to R246) -/

/-- Change the reshape. -/
def walkMod (f : Reshape → Reshape) (s : State) : State := { s with par := { s.par with reshape := f s.par.reshape } }

/-- Write a boundary record (R242): to the next slot of the seat that its sequence names. -/
def boundWrite (active : Bool) (s : State) : State :=
  let w := s.par.reshape
  let seq := match lastBound s w.pool with | some b => (b.seq + 1) % 4294967296 | none => 1
  let q := seq % s.hw.seats
  let slot := fgetD s.par.boundNext q 0
  let r : Boundary := ⟨w.pool, w.boundary, w.start, s.stk.ext, seq, w.reverse, active, w.src, w.tgt, true⟩
  { s with par := { s.par with bounds := fset s.par.bounds (pairKey q slot) r, boundNext := fset s.par.boundNext q ((slot + 1) % 8192) } }
    |> ancWrote q 9 |> walkMod (fun w => { w with sinceRec := 0 })
    |> (fun s => foldS (seatList s) (fun n s => wr (Reg.PAR_RESHAPE_SEQ_SEQUENCE n) seq s) s)

/-- Rows of the source geometry that the walk still has to visit. -/
def walkRows (g : Group) (w : Reshape) : FMap Row := g.rows.filter fun r => r.2.geom == w.src && r.2.st != .freed && !r.2.busy

/-- The row that the walk visits next (R240). -/
def walkNext (g : Group) (w : Reshape) : Option Nat :=
  let pos := walkPos g w.reverse w.start
  let key := fun (e : Nat × Row) => if pos w.boundary ≤ pos e.1 then pos e.1 else pos e.1 + poolRows g + 1
  leastRow (walkRows g w) key

/-- The row after a row in the walk's direction; the row space runs from 1 to the number of rows. -/
def rowAfter (g : Group) (reverse : Bool) (row : Nat) : Nat :=
  if reverse then (if row ≤ 1 then poolRows g else row - 1) else (if poolRows g ≤ row then 1 else row + 1)

/-- The walk pauses (R241): RESHAPE_EN is 0, a share of either geometry is lost, or the free rows are down to the reserve. -/
def walkHeld (s : State) (g : Group) (w : Reshape) : Bool :=
  !isSet s (Reg.PAR_CTRL_RESHAPE_EN 0) || groupHeld s w.pool || (geomOf g w.src).shares.any (·.lost) || (geomOf g w.tgt).shares.any (·.lost) ||
    decide (freeRows g ≤ rd s (Reg.MAP_GC_RESERVE_ROWS 0))

/-- Turn the walk after a row (R245): a record, source and target swapped, the opposite direction from that row, and a record of the new
walk. -/
def walkTurn (row : Nat) (s : State) : State :=
  let s := boundWrite true s
  let w := s.par.reshape
  s |> groupMod w.pool (fun g => { g with cur := w.src })
    |> walkMod (fun w => { w with
      st := if w.reverse then .forward else .reverse
      reverse := !w.reverse, src := w.tgt, tgt := w.src, start := row, boundary := row, turning := false, redo := none })
    |> boundWrite true |> (fun s => foldS (seatList s) (fun n s => bump (Reg.PAR_RESHAPE_REVERSALS_COUNT n) s) s)

/-- The walk ends (R246). -/
def walkEnd (s : State) : State := s |> boundWrite false |> walkMod (fun w => { w with st := .finishing, turning := false }) |> reshapeFinish

/-- One row is converted: each valid extent is copied into a row of the target geometry and moved (R241). -/
def rowConvert (pool : Nat) (g : Group) (row : Nat) (s : State) : State :=
  let w := s.par.reshape
  let l := rowMovable s pool row
  let r := l.foldl (fun (x : Bool × State) e => if x.1 then extMove pool e.1 x.2 else x) (true, s)
  let seat := match fget g.rows row with | some r => r.seat | none => 0
  let s := charge seat .reshape (l.foldl (fun n e => n + extTokens e.2) 0) r.2
  if !r.1 then s
  else
    let pos := walkPos g w.reverse w.start
    let again := match w.redo with | some p => decide (pos row ≤ pos p) | none => false
    let s := s |> rowMod pool row (fun r => { r with busy := true })
      |> when again (fun s => foldS (seatList s) (fun n s => bump (Reg.PAR_RESHAPE_REDO_COUNT n) s) s)
      |> walkMod (fun w => { w with
        boundary := rowAfter g w.reverse row, converted := w.converted + 1, sinceRec := w.sinceRec + 1, inStroke := w.inStroke + 1
        redo := if again then w.redo else none })
    if s.par.reshape.turning then walkTurn row s
    else if 64 ≤ s.par.reshape.sinceRec then boundWrite true s else s

/-- Rows per stroke (PAR_RESHAPE_RATE): 0 acts as 1, values above 4 act as 4. -/
def walkRate (s : State) : Nat := max 1 (min 4 (rd s (Reg.PAR_RESHAPE_RATE_ROWS 0)))

/-- RESHAPE_ROW_CONVERT (R240, R241): the next row of the walk; a row still open is sealed first. -/
def walkStep (s : State) : State :=
  let w := s.par.reshape
  match groupOf s w.pool with
  | none => s
  | some g =>
    if !(w.st == .forward || w.st == .reverse || w.st == .waiting) || !ownsSide s g.side then s
    else if walkHeld s g w then
      (if w.st = .waiting then s else s |> boundWrite true |> walkMod fun w => { w with st := .waiting })
    else
      let s := walkMod (fun w => { w with st := if w.reverse then .reverse else .forward }) s
      match walkNext g w with
      | none => walkEnd s
      | some row => (match fget g.rows row with
        | none => s
        | some r =>
          if walkRate s ≤ w.inStroke ∨ !mayRun s r.seat .reshape then s
          else if r.st = .opened then rowClose w.pool row true s
          else if r.st = .closed ∨ r.rewrite then s
          else rowConvert w.pool g row s)

/-- What the walk's reads of the row in progress have found (R230): an extent of `bad`, whose reference tags disagree, counts as an erasure of
its member. -/
def walkSpoiled (bad : List Nat) (s : State) : State :=
  let w := s.par.reshape
  match groupOf s w.pool with
  | none => s
  | some g =>
    if !(w.st == .forward || w.st == .reverse) || !ownsSide s g.side then s
    else match walkNext g w with
      | none => s
      | some row => foldS ((rowMovable s w.pool row).filter fun e => bad.contains e.1 && (fget g.rows row).any fun r => r.st == .programmed)
          (fun e s => (tagMismatch w.pool g e.2 s).2) s

/-- RESHAPE_ROW_CONVERT. -/
def execReshapeRowConvert (s : State) : Host.Outcome State Fault Refusal :=
  go (running (fun s => s |> walkStep |> roomFound) s)

/-! ### Groups by mailbox -/

/-- The limits of R210. -/
def geomOk (k m : Nat) (slots : List Nat) : Bool :=
  decide (2 ≤ k) && decide (k ≤ 45) && decide (1 ≤ m) && decide (m ≤ 4) && decide (k + m ≤ 48) && slots.length == k + m && slots.eraseDups == slots

/-- A share of `dies` dies from a die of a slot, when the blade is attested, has them free and serves no group of the other side (R211,
R212). -/
def shareAt (s : State) (side dies : Nat) (p : Nat × Nat) : Option Share :=
  match (slotOf s p.1).geom with
  | none => none
  | some g =>
    let used := sharesOn s p.1
    if sideOnly s side p.1 && isSet s (Reg.BLD_SLOT_STATUS_ATTESTED p.1) && decide (p.1 < slotCount s) && decide (0 < dies) && decide (p.2 + dies ≤ g.dies) &&
        decide (dies * g.blocks * g.pages ≤ 4294967296) && used.all fun u => decide (p.2 + dies ≤ u.2.1) || decide (u.2.1 + u.2.2 ≤ p.2) then
      ((List.range 4).find? fun i => !used.any fun u => u.1 == i).map fun i => ⟨p.1, i, p.2, false, false⟩
    else none

/-- Shares for a list of places, when every one can be had. -/
def sharesAt (s : State) (side dies : Nat) : List (Nat × Nat) → Option (List Share)
  | [] => some []
  | p :: t => match shareAt s side dies p, sharesAt s side dies t with
    | some x, some l => some (x :: l)
    | _, _ => none

/-- Blocks per die kept as spares (log entry 55): 2 %, rounded up. -/
def sparesOf (blocks : Nat) : Nat := ceilDiv blocks 50

/-- A new group over its shares: the smallest geometry among the blades. -/
def groupNew (s : State) (side k m dies : Nat) (l : List Share) (ageGrouped : Bool) : Group :=
  let gs := l.filterMap fun sh => (slotOf s sh.slot).geom
  let least := fun (f : BladeGeom → Nat) => gs.foldl (fun n g => min n (f g)) (match gs with | g :: _ => f g | [] => 0)
  let blocks := least (·.blocks)
  let usable := blocks - sparesOf blocks
  ⟨side, [(0, ⟨k, m, l⟩)], 0, dies, least (·.pages), least (·.slcPages), usable, [], [], [], [], [], ageGrouped,
    ceilDiv (l.length * dies * usable) 200, l.length * dies * sparesOf blocks, false, false, [], false, 0, [], 400000, 0, 0, none, [], [], false, [], [], []⟩

/-- An ownership entry is created: home and owner side, told to the peer (R309). -/
def ownCreate (pool : Bool) (i side : Nat) (s : State) : State :=
  { s with pair := { s.pair with own := fset s.pair.own (ownKey pool i) ⟨side, side, 0, 0, none⟩ } }
    |> pairControl (.own pool i side 0 (s.stk.ext + 2))

/-- GROUP_CREATE (R210, R211). DETAIL names the parameter refused: 1 the pool, 2 the geometry, 3 the shares. -/
def execGroupCreate (slot pool side k m dies : Nat) (shares : List (Nat × Nat)) (ageGrouped : Bool) (s : State) :
    Host.Outcome State Fault Refusal :=
  go (mbxRun slot Opc.groupCreate (fun s =>
    if 32 ≤ pool ∨ (groupOf s pool).isSome then refuse .invalidParam 1 s
    else if !geomOk k m (shares.map (·.1)) then refuse .invalidParam 2 s
    else if !ownsSide s side then refuse .notOwner 0 s
    else match sharesAt s side dies shares with
      | none => refuse .invalidParam 3 s
      | some l =>
        let g := groupNew s side k m dies l ageGrouped
        let s := { s with par := { s.par with groups := fset s.par.groups pool g } } |> ownCreate true pool side
          |> pairControl (.object (.pool pool side k m dies shares ageGrouped none))
        okWith [] (foldS l (fun sh s => slotAssign sh.slot s) s |> redundancy)) s)

/-- A pool holds data: a namespace lies in it, or an extent that something names. -/
def poolHolds (s : State) (pool : Nat) : Bool :=
  s.nv.ns.any (fun n => n.2.cur.p.pool == pool) || s.par.exts.any (fun e => e.2.pool == pool && (extLive s e.1 e.2 || extPending s e.1))

/-- A group a command names, which this head must own (R415). -/
def onGroup (pool : Nat) (f : Group → State → Sts × Nat × List Nat × State) (s : State) : Sts × Nat × List Nat × State :=
  match groupOf s pool with
  | none => refuse .invalidParam 1 s
  | some g => if ownsSide s g.side then f g s else refuse .notOwner 0 s

/-- GROUP_DELETE (R420). -/
def execGroupDelete (slot pool : Nat) (s : State) : Host.Outcome State Fault Refusal :=
  go (mbxRun slot Opc.groupDelete (onGroup pool fun g s =>
    if poolHolds s pool ∨ (s.par.reshape.st ≠ .idle ∧ s.par.reshape.pool = pool) then refuse .busy 0 s
    else
      let own : List Nat := g.geoms.foldl (fun (l : List Nat) x => l ++ x.2.shares.map fun sh => sh.slot) []
      let slots : List Nat := (own ++ g.rebuilds.map (fun r => r.target.slot) ++ g.spares).eraseDups
      let s := { s with
        par := { s.par with groups := fdel s.par.groups pool, exts := fkeep s.par.exts fun _ e => e.pool != pool }
        pair := { s.pair with own := fdel s.pair.own (ownKey true pool) } } |> pairControl (.object (.poolGone pool))
      okWith [] (foldS slots slotRelease s |> redundancy)) s)

/-- GROUP_SPARE_SET (R231). -/
def execGroupSpareSet (slot pool : Nat) (slots : List Nat) (s : State) : Host.Outcome State Fault Refusal :=
  go (mbxRun slot Opc.groupSpareSet (onGroup pool fun g s =>
    if slots.eraseDups ≠ slots ∨ slots.any (fun n => decide (slotCount s ≤ n) || (curGeom g).shares.any fun sh => sh.slot == n && !sh.lost) = true
    then refuse .invalidParam 2 s
    else
      let s := groupMod pool (fun g => { g with spares := slots }) s
      let s := foldS g.spares slotRelease s
      okWith [] (foldS slots slotAssign s |> targetsFind pool)) s)

/-- GROUP_SHARE_FAIL (R213). -/
def execGroupShareFail (slot pool member : Nat) (s : State) : Host.Outcome State Fault Refusal :=
  go (mbxRun slot Opc.groupShareFail (onGroup pool fun g s =>
    match (curGeom g).shares[member]? with
    | none => refuse .invalidParam 2 s
    | some sh => okWith [] (if sh.lost then s else shareLost pool sh.slot sh.idx s)) s)

/-- GROUP_REBUILD_TARGET (R231, R232). -/
def execGroupRebuildTarget (slot pool member target : Nat) (s : State) : Host.Outcome State Fault Refusal :=
  go (mbxRun slot Opc.groupRebuildTarget (onGroup pool fun g s =>
    match (curGeom g).shares[member]? with
    | none => refuse .invalidParam 2 s
    | some sh =>
      if !sh.lost ∨ (rebuildOf g sh).isSome then refuse .wrongState 0 s
      else if slotCount s ≤ target ∨ !isSet s (Reg.BLD_SLOT_STATUS_ATTESTED target) ∨
          ((curGeom g).shares.any fun x => x.slot == target && !x.lost) = true then refuse .invalidParam 3 s
      else match shareFit s target g with
        | none => refuse .invalidParam 3 s
        | some t => okWith [] (rebuildStart pool sh.slot sh.idx t s)) s)

/-- Shares of a reshape's target: those of the group that it names again, and new ones. -/
def sharesFor (s : State) (g : Group) : List (Nat × Nat) → Option (List Share)
  | [] => some []
  | p :: t =>
    let here := (curGeom g).shares.find? fun sh => sh.slot == p.1 && sh.die == p.2
    match (match here with | some sh => some sh | none => if groupOn g p.1 then none else shareAt s g.side g.dies p), sharesFor s g t with
    | some x, some l => some (x :: l)
    | _, _ => none

/-- A request names a geometry. -/
def sameGeom (x : Geom) (k m : Nat) (shares : List (Nat × Nat)) : Bool :=
  x.k == k && x.m == m && (x.shares.map fun sh => (sh.slot, sh.die)) == shares

/-- A reversal (R245): after the row in progress; at once where the walk is paused or has no row left. -/
def walkReverse (g : Group) (s : State) : State :=
  let w := s.par.reshape
  if w.st = .waiting ∨ walkNext g w = none then walkTurn (rowAfter g (!w.reverse) w.boundary) s
  else walkMod (fun w => { w with turning := true }) s

/-- GROUP_RESHAPE (R239, R245; log entry 53): a start, or the reversal of the walk that runs. -/
def execGroupReshape (slot pool k m : Nat) (shares : List (Nat × Nat)) (s : State) : Host.Outcome State Fault Refusal :=
  go (mbxRun slot Opc.groupReshape (onGroup pool fun g s =>
    let w := s.par.reshape
    if w.st = .finishing ∨ (w.st ≠ .idle ∧ w.pool ≠ pool) then refuse .busy 0 s
    else if w.st ≠ .idle then
      (if sameGeom (geomOf g w.src) k m shares && !w.turning then okWith [] (walkReverse g s) else refuse .wrongState 0 s)
    else if !geomOk k m (shares.map (·.1)) then refuse .invalidParam 2 s
    else match sharesFor s g shares with
      | none => refuse .invalidParam 3 s
      | some l =>
        if 9 * (poolRows g * k * 1024) < 10 * poolValid s pool then refuse .noResource 0 s
        else if 3 ≤ groupState g ∨ g.failed ∨ g.readOnly then refuse .wrongState 0 s
        else
          let t := g.geoms.foldl (fun n x => max n (x.1 + 1)) 0
          let s := groupMod pool (fun g => { g with geoms := fset g.geoms t ⟨k, m, l⟩, cur := t }) s
          let s := foldS l (fun sh s => slotAssign sh.slot s) s
          okWith [] (s |> walkMod (fun _ => ⟨.forward, pool, false, 1, 1, g.cur, t, 0, 0, false, none, 0⟩) |> boundWrite true)) s)

end Sys2Proof.Machine
end

