-- ==== Sys2Proof/Machine/Blades.lean ====
section
/-!
DEFINITION. Machine/Blades.lean: oar links, slots, attestation, fences and the rigging ring (R248 to R290, R555).
-/

namespace Sys2Proof.Machine

/-- A slot of the variant (R248). -/
def isSlot (s : State) (slot : Nat) : Bool := decide (slot < slotCount s)

/-- A port may train (OAR_CTRL.PORT_EN). -/
def portEnabled (s : State) (slot : Nat) : Bool := bitOf (rd s (Reg.OAR_CTRL_PORT_EN (slot / 12))) (slot % 12)

/-! ### Attestation (R272 to R276, R555) -/

/-- Attestation of a blade starts (R274). -/
def attestStart (slot : Nat) (s : State) : State :=
  s |> slotMod slot (fun x => { x with attesting := some s.stk.ext }) |> emit .spdm [slot, 0]

/-- A BLADE_ATTEST command that waits for this slot ends. -/
def attestAnswer (slot : Nat) (ok : Bool) (s : State) : State :=
  match (slotOf s slot).attestSlot with
  | none => s
  | some n => s |> slotMod slot (fun x => { x with attestSlot := none }) |> mbxComplete n (if ok then .ok else .authFail) 0 []

/-- The bridge's update ends without its shares: each is lost (R555). -/
def restartLost (slot : Nat) (s : State) : State :=
  if fhas s.upd.restarts slot then
    { s with upd := { s.upd with restarts := fdel s.upd.restarts slot } } |> slotSharesLost slot
  else s

/-- A blade fails attestation (R213, R272, R275). -/
def attestFailed (slot : Nat) (s : State) : State :=
  s |> slotMod slot (fun x => { x with attesting := none })
    |> wrB (Reg.BLD_SLOT_STATUS_ATTESTED slot) false |> wrB (portReg Reg.OAR_PORT_STATUS_SESSION slot) false
    |> wrB (Reg.BLD_SLOT_STATUS_ATTEST_FAILED slot) true |> coxRaise
    |> restartLost slot |> slotSharesLost slot |> attestAnswer slot false

/-- A target that had been lost serves its rebuild again from the start (R213, R232). -/
def targetBack (slot : Nat) (s : State) : State :=
  foldS s.par.groups (fun e s =>
    if e.2.rebuilds.any fun r => r.target.slot == slot && r.target.lost then
      groupMod e.1 (fun g => { g with
        bands := fmapV g.bands fun _ b => { b with onTarget := b.onTarget.filter fun m => match (geomOf g b.geom).shares[m]? with
          | some sh => (match rebuildOf g sh with | some r => !(r.target.slot == slot && r.target.lost) | none => true)
          | none => true }
        rebuilds := g.rebuilds.map fun r => if r.target.slot = slot ∧ r.target.lost then
          { r with target := { r.target with lost := false }, band := none, rows := [], done := 0 } else r }) s
    else s) s

/-- A blade serves a group of a side that this head owns: as a share, as a rebuild target or as a spare. -/
def servesOwned (s : State) (slot : Nat) : Bool :=
  s.par.groups.any fun g => ownsSide s g.2.side && (g.2.spares.contains slot || g.2.rebuilds.any (fun r => r.target.slot == slot) ||
    g.2.geoms.any fun x => x.2.shares.any fun sh => sh.slot == slot && !sh.lost)

/-- A blade that serves a side of this head's and whose fence does not name it: this head raises the fence (R277; log entry 56). -/
def fenceClaim (slot : Nat) (s : State) : State := if servesOwned s slot then slotAssign slot s else s

/-- A blade passes attestation: the session is open; its geometry, its decoder matrix and its fence register are read (R258, R272, R274,
R277). -/
def attestPassed (slot root : Nat) (g : BladeGeom) (s : State) : State :=
  s |> slotMod slot (fun x => { x with attesting := none, geom := some g, chain := root })
    |> wrB (Reg.BLD_SLOT_STATUS_ATTEST_FAILED slot) false |> wrB (Reg.BLD_SLOT_STATUS_ATTESTED slot) true
    |> wrB (portReg Reg.OAR_PORT_STATUS_SESSION slot) true
    |> wr (Reg.BLD_SLOT_INFO_DIES slot) (min 1024 g.dies) |> wr (Reg.BLD_SLOT_INFO_LEVELS slot) (max 1 (min 16 g.levels))
    |> wr (Reg.BLD_SLOT_FENCE_EPOCH slot) g.epoch |> wr (Reg.BLD_SLOT_INFO_OWNER slot) g.owner
    |> (fun s => let mine := g.owner == myPort s + 1
                 s |> wrB (portReg Reg.OAR_PORT_STATUS_OWNER slot) mine |> wrB (Reg.BLD_SLOT_STATUS_OWNED slot) mine
                   |> wrB (Reg.BLD_SLOT_STATUS_IN_USE slot) (mine && slotAssigned s slot))
    |> attestAnswer slot true |> targetBack slot |> fenceClaim slot
    |> (fun s => foldS s.par.groups (fun e s => when (e.2.spares.contains slot) (targetsFind e.1) s) s) |> portPump slot

/-- BLADE_ATTEST_DONE (R274, R275, R555): the chain ends at an enrolled root, the signature verifies, every measurement is allowed. -/
def attestDone (slot root : Nat) (sigOk : Bool) (measures : List Nat) (g : BladeGeom) (s : State) : State :=
  if (slotOf s slot).attesting.isNone || !linkUp s slot then s
  else if !(s.bld.roots.contains root && sigOk && measures.all fun m => s.bld.allowed.contains m) then attestFailed slot s
  else match fget s.upd.restarts slot with
    | some r =>
      if (slotOf s slot).chain = root ∧ measures.contains r.meas = true then
        { s with upd := { s.upd with restarts := fset s.upd.restarts slot { r with back := true } } } |> attestPassed slot root g |> caughtUp slot
      else s |> restartLost slot |> attestPassed slot root g
    | none => attestPassed slot root g s

/-- BLADE_ATTEST_DONE. -/
def execBladeAttestDone (slot root : Nat) (sigOk : Bool) (measures : List Nat) (g : BladeGeom) (s : State) : Host.Outcome State Fault Refusal :=
  go (live (fun s => s |> attestDone slot root sigOk measures g |> roomFound) s)

/-- The bounds of steps 3 and 4 of *Blade insertion* pass at a stroke edge. -/
def insertionBounds (s : State) : State :=
  foldS (List.range (slotCount s)) (fun n s =>
    let x := slotOf s n
    if isSet s (Reg.BLD_SLOT_STATUS_PWREN n) && decide (s.stk.ext = x.poweredAt + 20000) && !linkUp s n && !isSet s (Reg.BLD_SLOT_STATUS_ATTESTED n) then
      attestFailed n s
    else match x.attesting with
      | some t => if t + 10000 ≤ s.stk.ext then attestFailed n s else s
      | none => s) s

/-- BLADE_HEARTBEAT_TIMEOUT (R276): attestation from the start; its shares are lost meanwhile. -/
def heartbeatTimeout (slot : Nat) (s : State) : State :=
  match (portOf s slot).heartbeat with
  | none => s
  | some t => if t + 1000 ≤ s.stk.ext ∧ linkUp s slot = true then s |> linkLost slot |> attestStart slot |> roomFound else s

/-- BLADE_HEARTBEAT_TIMEOUT. -/
def execBladeHeartbeatTimeout (slot : Nat) (s : State) : Host.Outcome State Fault Refusal := go (live (heartbeatTimeout slot) s)

/-- BLADE_INFO (R420): geometry, timings, attestation and health of a slot. DETAIL 1: no such slot. -/
def execBladeInfo (slot blade : Nat) (s : State) : Host.Outcome State Fault Refusal :=
  go (mbxRun slot Opc.bladeInfo (fun s =>
    if !isSlot s blade then refuse .invalidParam 1 s
    else
      let x := slotOf s blade
      let geo := match x.geom with
        | some g => [g.dies, g.blocks, g.pages, g.slcPages, g.levels, g.tR, g.tProg, g.tErase, g.slcLevels, g.slcR, g.slcProg, g.slcErase]
        | none => List.replicate 12 0
      okWith (geo ++ [rd s (Reg.BLD_SLOT_STATUS_ATTESTED blade), rd s (Reg.BLD_SLOT_STATUS_ATTEST_FAILED blade),
        rd s (Reg.BLD_SLOT_HEALTH_BRIDGE_C blade), rd s (Reg.BLD_SLOT_HEALTH_NAND_C blade), rd s (Reg.BLD_SLOT_HEALTH_POWER blade), x.fw, x.uptime, x.rails, b2n x.button, x.shown]) s) s)

/-- BLADE_ATTEST (R274): attestation runs again; the command waits for its end. -/
def execBladeAttest (slot blade : Nat) (s : State) : Host.Outcome State Fault Refusal :=
  go (mbxBegin slot Opc.bladeAttest (fun s =>
    if !isSlot s blade then (some (.invalidParam, 1, []), s)
    else if !linkUp s blade then (some (.wrongState, 0, []), s)
    else if (slotOf s blade).attesting.isSome ∨ (slotOf s blade).attestSlot.isSome then (some (.busy, 0, []), s)
    else (none, s |> attestStart blade |> slotMod blade fun x => { x with attestSlot := some slot })) s)

/-! ### Training (R250, R254, R276) -/

/-- A frame without payload: an acknowledgement (code 1), a NAK with the last good sequence (2), an IDLE frame (3), a RESUME (4). Each carries
the last sequence received in order and the credits owed (R251 to R254). -/
def oarControl (slot code : Nat) (s : State) : State :=
  let p := portOf s slot
  s |> emit .oar ([slot, 3, code, p.rxSeq] ++ p.owed) |> portMod slot fun p => { p with sinceAck := 0, theirs := owedBack p, owed := [0, 0, 0] }

/-- A port begins to train (R250). -/
def trainStart (slot : Nat) (s : State) : State :=
  if portEnabled s slot then
    s |> wr (portReg Reg.OAR_PORT_STATUS_STATE slot) 1 |> portMod slot fun p => { p with retrain := false, trainAt := s.stk.ext }
  else s

/-- SLOT_PWREN follows presence and PWR_OFF (R270), once the cox runs (R460); a blade newly powered trains its link. -/
def slotPower (slot : Nat) (s : State) : State :=
  let on := isSet s (Reg.BLD_SLOT_STATUS_PDS slot) && !isSet s (Reg.BLD_SLOT_CTRL_PWR_OFF slot) && coxRuns s
  let was := isSet s (Reg.BLD_SLOT_STATUS_PWREN slot)
  s |> setPwren slot on |> when (on && !was && !linkUp s slot) (trainStart slot)

/-- Buffers that this end advertises on RDATA, CPL and MGMT (R252). -/
def ourBuffers : List Nat := [64, 256, 8]

/-- OAR_LINK_TRAINED: the link is UP; each end advertises its buffers. After a retrain RESUME goes first and the session is proved by a
heartbeat; any other link-up is followed by attestation (R252, R254, R274, R276). -/
def linkTrained (slot cmdBuf wdataBuf mgmtBuf : Nat) (s : State) : State :=
  if !isSlot s slot || linkUp s slot || !portEnabled s slot || !coxRuns s || !isSet s (Reg.BLD_SLOT_STATUS_PDS slot) then s
  else
    let p := portOf s slot
    let again := p.retrain && isSet s (portReg Reg.OAR_PORT_STATUS_SESSION slot) && linkState s slot == 1
    let s := s |> portMod slot (fun p => { (if again then p else portReset) with theirs := ourBuffers, owed := [0, 0, 0], advertised := true, retrain := false })
      |> wr (portReg Reg.OAR_PORT_STATUS_STATE slot) 2
      |> wr (creditReg slot 0) (min 255 cmdBuf) |> wr (creditReg slot 1) (min 255 wdataBuf) |> wr (creditReg slot 4) (min 255 mgmtBuf)
      |> setLinkUp slot true |> emit .oar ([slot, 3, 3, (if again then p.rxSeq else 4095)] ++ ourBuffers)
    if again then
      s |> oarControl slot 4 |> portMod slot (fun p => { p with heartbeat := some s.stk.ext }) |> oarPut slot 4 [1]
    else when (isSet s Reg.BLD_CTRL_AUTO_ATTEST || fhas s.upd.restarts slot) (attestStart slot) s

/-- OAR_LINK_TRAINED. -/
def execOarLinkTrained (slot cmdBuf wdataBuf mgmtBuf : Nat) (s : State) : Host.Outcome State Fault Refusal :=
  go (live (linkTrained slot cmdBuf wdataBuf mgmtBuf) s)

/-- OAR_TRAIN_RETRY (R250; log entry 57): a training not done within 200 strokes leaves the link DOWN; 1,000 strokes after an attempt began
comes the next. -/
def trainRetry (slot : Nat) (s : State) : State :=
  let p := portOf s slot
  if !isSlot s slot || !isSet s (Reg.BLD_SLOT_STATUS_PDS slot) || !portEnabled s slot then s
  else if linkState s slot = 1 ∧ !p.retrain ∧ p.trainAt + 200 ≤ s.stk.ext then wr (portReg Reg.OAR_PORT_STATUS_STATE slot) 0 s
  else if linkState s slot = 0 ∧ p.trainAt + 1000 ≤ s.stk.ext then trainStart slot s
  else s

/-- OAR_TRAIN_RETRY. -/
def execOarTrainRetry (slot : Nat) (s : State) : Host.Outcome State Fault Refusal := go (live (trainRetry slot) s)

/-- OAR_LINK_DOWN (R273): a link that drops while presence stays is retrained; that of a bridge restarting for an update, or of a slot
that this head no longer powers, ends. -/
def linkDown (slot : Nat) (s : State) : State :=
  if !linkUp s slot then s
  else if fhas s.upd.restarts slot then
    s |> wr (portReg Reg.OAR_PORT_STATUS_STATE slot) 1 |> setLinkUp slot false |> linkLost slot |> attestAnswer slot false
      |> portMod slot fun p => { p with trainAt := s.stk.ext }
  else if !isSet s (Reg.BLD_SLOT_STATUS_PWREN slot) then
    s |> wr (portReg Reg.OAR_PORT_STATUS_STATE slot) 0 |> setLinkUp slot false |> linkLost slot |> attestAnswer slot false |> roomFound
  else oarRetrain slot s

/-- OAR_LINK_DOWN. -/
def execOarLinkDown (slot : Nat) (s : State) : Host.Outcome State Fault Refusal := go (live (linkDown slot) s)

/-- OAR_RETRAIN_LIMIT (R254): the port is FAILED and the link lost. -/
def retrainLimit (slot : Nat) (s : State) : State :=
  let p := portOf s slot
  if linkState s slot = 1 ∧ p.retrain ∧ p.trainAt + rd s (Reg.OAR_RETRAIN_LIMIT_STROKES (slot / 12)) ≤ s.stk.ext then
    s |> portFail slot |> attestAnswer slot false |> roomFound
  else s

/-- OAR_RETRAIN_LIMIT. -/
def execOarRetrainLimit (slot : Nat) (s : State) : Host.Outcome State Fault Refusal := go (live (retrainLimit slot) s)

/-! ### Frames (R251 to R256) -/

/-- A NAK with the last good sequence (R253). -/
def oarNakSend (slot : Nat) (s : State) : State := oarControl slot 2 s

/-- Channels on which a bridge sends: RDATA, CPL, MGMT, in the order of the credits kept. -/
def rxChannel (chan : Nat) : Option Nat := if chan = 2 then some 0 else if chan = 3 then some 1 else if chan = 4 then some 2 else none

/-- Add one at a place of a list. -/
def listInc (l : List Nat) (i : Nat) : List Nat := l.set i (l.getD i 0 + 1)

/-- Take one from a place of a list. -/
def listDec (l : List Nat) (i : Nat) : List Nat := l.set i (l.getD i 0 - 1)

/-- A MGMT message is delivered: the answer to the session heartbeat lets commands go (R276). -/
def mgmtDeliver (slot : Nat) (m : MgmtMsg) (s : State) : State :=
  match m with
  | .heartbeat true => if (portOf s slot).heartbeat.isSome then s |> portMod slot (fun p => { p with heartbeat := none }) |> portPump slot else s
  | _ => s

/-- OAR_DATA_FRAME (R251 to R253, R256). -/
def dataFrame (slot seq ack chan len : Nat) (credits : List Nat) (crcOk typeOk : Bool) (m : MgmtMsg) (s : State) : State :=
  let p := portOf s slot
  if !linkUp s slot then s
  else if !crcOk then oarNakSend slot s
  else if !typeOk ∨ 4 < chan ∨ 4160 < len then protoError slot s
  else if oarLater seq p.rxSeq = false then s |> oarAcked slot ack |> oarControl slot 1
  else if seq ≠ (p.rxSeq + 1) % 4096 then s |> oarAcked slot ack |> oarNakSend slot
  else match rxChannel chan with
    | none => protoError slot s
    | some i =>
      if p.theirs.getD i 0 = 0 then protoError slot s
      else
        let s := s |> portMod slot (fun p => { p with
            rxSeq := seq, sinceAck := p.sinceAck + 1, theirs := listDec p.theirs i, owed := listInc p.owed i })
          |> oarAcked slot ack |> oarCredits slot credits
        s |> when (decide (8 ≤ (portOf s slot).sinceAck)) (oarControl slot 1) |> when (chan == 4) (mgmtDeliver slot m)

/-- OAR_DATA_FRAME. -/
def execOarDataFrame (slot seq ack chan len : Nat) (credits : List Nat) (crcOk typeOk : Bool) (msg : MgmtMsg) (s : State) :
    Host.Outcome State Fault Refusal := go (live (fun s => s |> dataFrame slot seq ack chan len credits crcOk typeOk msg |> roomFound) s)

/-- OAR_ACK (R253); every frame may return credits (R252). -/
def execOarAck (slot : Nat) (a : OarSeq) (s : State) : Host.Outcome State Fault Refusal :=
  go (live (fun s => when (linkUp s slot) (fun s => s |> oarAcked slot a.seq |> oarCredits slot a.credits) s) s)

/-- Replay the frames after a sequence; after four replays without acknowledgement the link is retrained instead (R253, R254). -/
def replayFrom (slot after : Nat) (s : State) : State :=
  if (portOf s slot).unacked = [] then s
  else if 4 ≤ (portOf s slot).replays then s |> oarRetrain slot |> roomFound
  else s |> oarReplay slot after |> portMod slot fun p => { p with replays := p.replays + 1 }

/-- OAR_NAK (R253). -/
def execOarNak (slot : Nat) (a : OarSeq) (s : State) : Host.Outcome State Fault Refusal :=
  go (live (fun s => when (linkUp s slot) (fun s => s |> oarAcked slot a.seq |> replayFrom slot a.seq |> oarCredits slot a.credits) s) s)

/-- OAR_IDLE (R252). -/
def execOarIdle (slot ack : Nat) (credits : List Nat) (s : State) : Host.Outcome State Fault Refusal :=
  go (live (fun s => when (linkUp s slot) (fun s => s |> oarAcked slot ack |> oarCredits slot credits) s) s)

/-- OAR_RESUME (R254): after a retrain each sender replays from there. -/
def execOarResume (slot : Nat) (a : OarSeq) (s : State) : Host.Outcome State Fault Refusal :=
  go (live (fun s => when (linkUp s slot) (fun s => s |> oarAcked slot a.seq |> oarReplay slot a.seq |> oarCredits slot a.credits) s) s)

/-- OAR_REPLAY_TIMEOUT (R253, R254). -/
def execOarReplayTimeout (slot : Nat) (s : State) : Host.Outcome State Fault Refusal :=
  go (live (fun s => when (linkUp s slot) (fun s =>
    match (portOf s slot).unacked with
    | [] => s
    | f :: _ => replayFrom slot ((f.seq + 4095) % 4096) s) s) s)

/-- OAR_ACK_TIMER (R253). -/
def execOarAckTimer (slot : Nat) (s : State) : Host.Outcome State Fault Refusal :=
  go (live (fun s => when (linkUp s slot && decide (0 < (portOf s slot).sinceAck)) (oarControl slot 1) s) s)

/-- OAR_CREDIT_IDLE (R252). -/
def execOarCreditIdle (slot : Nat) (s : State) : Host.Outcome State Fault Refusal :=
  go (live (fun s => when (linkUp s slot && (portOf s slot).owed != [0, 0, 0]) (oarControl slot 3) s) s)

/-- OAR_READ_RECORD (R259, R260). -/
def execOarReadRecord (slot tag cw _bits : Nat) (raw erased crcOk decodes : Bool) (s : State) : Host.Outcome State Fault Refusal :=
  go (live (fun s => when (linkUp s slot) (readRecord slot tag cw raw erased crcOk decodes) s) s)

/-- OAR_COMPLETION (R262 to R267). -/
def execOarCompletion (slot tag status micros : Nat) (s : State) : Host.Outcome State Fault Refusal :=
  go (live (fun s => when (linkUp s slot) (fun s => s |> nandComplete slot tag status micros |> roomFound) s) s)

/-- OAR_CMD_TIMEOUT (R266). -/
def execOarCmdTimeout (slot tag : Nat) (s : State) : Host.Outcome State Fault Refusal := go (live (fun s => s |> nandTimeout slot tag |> roomFound) s)

/-- FEC counts and the degraded state of every link at a stroke edge (R255): corrections and replays of the last 1,000 strokes. -/
def linkEdge (fec : List FecSample) (s : State) : State :=
  foldS (s.bld.ports.map Prod.fst) (fun n s =>
    let l := fec.filter fun f => f.slot == n
    let corr := l.foldl (fun a f => a + f.corr) 0
    let s := s |> bumpN (portReg Reg.OAR_PORT_FEC_CORR_COUNT n) corr
      |> bumpN (portReg Reg.OAR_PORT_FEC_UNCORR_COUNT n) (l.foldl (fun a f => a + f.uncorr) 0)
    let p := portOf s n
    let fecs := (p.fecs ++ [(corr, p.reps)]).drop ((p.fecs.length + 1) - 1000)
    let excess := decide (1000 * rd s (Reg.OAR_DEGRADE_FEC (n / 12)) < fecs.foldl (fun a x => a + x.1) 0) ||
      decide (rd s (Reg.OAR_DEGRADE_REPLAY (n / 12)) < fecs.foldl (fun a x => a + x.2) 0)
    let below := if excess then 0 else min 10000 (p.below + 1)
    let s := portMod n (fun p => { p with fecs := fecs, reps := 0, below := below }) s
    if excess ∧ linkState s n = 2 then wr (portReg Reg.OAR_PORT_STATUS_STATE n) 3 s
    else if below = 10000 ∧ linkState s n = 3 then wr (portReg Reg.OAR_PORT_STATUS_STATE n) 2 s
    else s) s

/-! ### Presence and power (R269, R270, R273) -/

/-- SLOT_PRESENT_STABLE (R269, R270). -/
def presentStable (slot : Nat) (s : State) : State :=
  if !isSlot s slot || isSet s (Reg.BLD_SLOT_STATUS_PDS slot) then s
  else s |> wr (Reg.BLD_SLOT_STATUS_PDS slot) 1
    |> slotEvent (Reg.BLD_SLOT_STATUS_PDC slot) (Reg.BLD_SLOT_CTRL_PDC_EN slot) slot
    |> when (isSet s Reg.BLD_CTRL_AUTO_POWER) (wr (Reg.BLD_SLOT_CTRL_PWR_OFF slot) 0)
    |> slotPower slot

/-- SLOT_PRESENT_STABLE. -/
def execSlotPresentStable (slot : Nat) (s : State) : Host.Outcome State Fault Refusal := go (live (presentStable slot) s)

/-- SLOT_ABSENT_DETECT (R269, R273). -/
def absentDetect (slot : Nat) (s : State) : State :=
  if !isSlot s slot || !isSet s (Reg.BLD_SLOT_STATUS_PDS slot) then s
  else s |> wr (Reg.BLD_SLOT_STATUS_PDS slot) 0
    |> slotEvent (Reg.BLD_SLOT_STATUS_PDC slot) (Reg.BLD_SLOT_CTRL_PDC_EN slot) slot
    |> when (isSet s Reg.BLD_CTRL_AUTO_POWER) (wr (Reg.BLD_SLOT_CTRL_PWR_OFF slot) 1)
    |> slotPower slot
    |> wr (portReg Reg.OAR_PORT_STATUS_STATE slot) 0 |> setLinkUp slot false
    |> restartLost slot |> linkLost slot |> attestAnswer slot false
    |> portMod slot (fun _ => portReset)
    |> slotMod slot (fun x => { x with levels := [], indReq := none })
    |> wr (Reg.BLD_SLOT_STATUS_ATTEST_FAILED slot) 0 |> wr (Reg.BLD_SLOT_STATUS_STALE slot) 0 |> wr (Reg.BLD_SLOT_STATUS_IND_PENDING slot) 0
    |> wr (portReg Reg.OAR_PORT_STATUS_OWNER slot) 0 |> wr (Reg.BLD_SLOT_STATUS_OWNED slot) 0 |> wr (Reg.BLD_SLOT_INFO_OWNER slot) 0
    |> slotRelease slot |> roomFound

/-- SLOT_ABSENT_DETECT. -/
def execSlotAbsentDetect (slot : Nat) (s : State) : Host.Outcome State Fault Refusal := go (live (absentDetect slot) s)

/-- A write of a field that takes effect at the next stroke boundary (R10). -/
def waitWrite (f : Fld) (v : Nat) (s : State) : State :=
  { s with bus := { s.bus with waiting := fset s.bus.waiting f.key (f, v % 2 ^ f.width) } }

/-- BLD_PWR_OFF_WRITE (R10, R270). -/
def pwrOffWrite (slot : Nat) (off : Bool) (s : State) : State :=
  if !isSlot s slot then s
  else if off && isSet s (Reg.BLD_SLOT_STATUS_PDS slot) && sharesOn s slot != [] then
    wr (Reg.BLD_SLOT_STATUS_POWER_REFUSED slot) 1 (waitWrite (Reg.BLD_SLOT_CTRL_PWR_OFF slot) 0 s)
  else waitWrite (Reg.BLD_SLOT_CTRL_PWR_OFF slot) (b2n off) s

/-- BLD_PWR_OFF_WRITE. -/
def execBldPwrOffWrite (slot : Nat) (off : Bool) (s : State) : Host.Outcome State Fault Refusal := go (pwrOffWrite slot off s)

/-- PWR_OFF comes into force at a stroke edge (R270, R272). -/
def powerEdge (slot : Nat) (s : State) : State :=
  if isSet s (Reg.BLD_SLOT_CTRL_PWR_OFF slot) && isSet s (Reg.BLD_SLOT_STATUS_PWREN slot) && sharesOn s slot != [] then
    s |> wr (Reg.BLD_SLOT_CTRL_PWR_OFF slot) 0 |> wr (Reg.BLD_SLOT_STATUS_POWER_REFUSED slot) 1
  else slotPower slot s

/-! ### Fences (R277 to R279) -/

/-- A bridge acknowledges a fence change: this head may issue commands when the fence names it; a suspended operation has been resumed
by the bridge (R277, R279). -/
def fenceAcked (slot epoch : Nat) (s : State) : State :=
  match (slotOf s slot).fencing with
  | none => s
  | some (owner, e, _) =>
    if e ≠ epoch then s
    else
      let mine := owner == myPort s
      s |> slotMod slot (fun x => { x with fencing := none }) |> wr (Reg.BLD_SLOT_FENCE_EPOCH slot) epoch
        |> wrB (portReg Reg.OAR_PORT_STATUS_OWNER slot) mine |> wrB (Reg.BLD_SLOT_STATUS_OWNED slot) mine
        |> wr (Reg.BLD_SLOT_INFO_OWNER slot) (owner + 1)
        |> portMod slot (fun p => { p with dies := fmapV p.dies fun _ d => { d with suspended := false, served := 0 } })
        |> when (mine && slotAssigned s slot) (wr (Reg.BLD_SLOT_STATUS_IN_USE slot) 1)
        |> portPump slot

/-! ### The rigging ring (R281 to R286) -/

/-- This head as a node of the ring (R282). -/
def ringNode (s : State) : Nat := 0xC0 + mySide s

/-- A ring frame goes out in a direction with its header and payload (R282). -/
def ringPut (ccw : Bool) (dest src type seq hops stamp : Nat) (payload : List Nat) (s : State) : State :=
  emit .ring ([b2n ccw, dest, src, type, seq, payload.length, hops, stamp] ++ payload) s

/-- Begin an exchange on the ring: the next sequence, the stroke count of now, HOPS 200 (R282). -/
def ringSend (ccw : Bool) (slot type : Nat) (payload : List Nat) (s : State) : State :=
  { s with bld := { s.bld with ringSeq := (s.bld.ringSeq + 1) % 256 } }
    |> ringPut ccw slot (ringNode s) type s.bld.ringSeq 200 (strokeCount s) payload

/-- An indicator request goes out clockwise, or is held while the slot is stale (R271, R285, R286). -/
def indSend (slot : Nat) (s : State) : State :=
  if isSet s (Reg.BLD_SLOT_STATUS_STALE slot) then
    s |> wr (Reg.BLD_SLOT_STATUS_IND_PENDING slot) 1 |> slotMod slot (fun x => { x with indReq := none }) |> bump Reg.RING_IND_RETRY_COUNT
  else s |> slotMod slot (fun x => { x with indReq := some 0 })
    |> ringSend false slot 3 [rd s (Reg.BLD_SLOT_CTRL_ATTN_IND slot), rd s (Reg.BLD_SLOT_CTRL_PWR_IND slot)]

/-- BLD_INDICATOR_WRITE (R10, R271): the new states are sent by ring at the next stroke boundary. -/
def execBldIndicatorWrite (slot attn pwr : Nat) (s : State) : Host.Outcome State Fault Refusal :=
  go (if isSlot s slot then s |> waitWrite (Reg.BLD_SLOT_CTRL_ATTN_IND slot) attn |> waitWrite (Reg.BLD_SLOT_CTRL_PWR_IND slot) pwr else s)

/-- RING_IND_ACK (R286). -/
def execRingIndAck (slot : Nat) (s : State) : Host.Outcome State Fault Refusal :=
  go (live (fun s => when (slotOf s slot).indReq.isSome (fun s => s |> slotMod slot (fun x => { x with indReq := none })
    |> wr (Reg.BLD_SLOT_STATUS_IND_PENDING slot) 0) s) s)

/-- RING_IND_ACK_TIMEOUT (R286): counter-clockwise, and then held. -/
def indTimeout (slot : Nat) (s : State) : State :=
  match (slotOf s slot).indReq with
  | none => s
  | some 0 => s |> bump Reg.RING_IND_RETRY_COUNT |> slotMod slot (fun x => { x with indReq := some 1 })
      |> ringSend true slot 3 [rd s (Reg.BLD_SLOT_CTRL_ATTN_IND slot), rd s (Reg.BLD_SLOT_CTRL_PWR_IND slot)]
  | some _ => s |> bump Reg.RING_IND_RETRY_COUNT |> slotMod slot (fun x => { x with indReq := none }) |> wr (Reg.BLD_SLOT_STATUS_IND_PENDING slot) 1

/-- RING_IND_ACK_TIMEOUT. -/
def execRingIndAckTimeout (slot : Nat) (s : State) : Host.Outcome State Fault Refusal := go (live (indTimeout slot) s)

/-- RING_BUTTON (R271, R282, R286): the press is shown, and acknowledged on the opposite lane with the request's SEQ and STAMP. -/
def execRingButton (b : ButtonFrame) (s : State) : Host.Outcome State Fault Refusal :=
  go (live (fun s => when (isSlot s b.slot) (fun s => s |> bump Reg.RING_BUTTON_COUNT
    |> slotEvent (Reg.BLD_SLOT_STATUS_ABP b.slot) (Reg.BLD_SLOT_CTRL_ABP_EN b.slot) b.slot
    |> ringPut b.cw b.slot (ringNode s) 6 b.seq 200 b.stamp []) s) s)

/-- RING_FRAME_RECEIVE (R281, R282): a frame for another node goes on with HOPS decremented, or is dropped. -/
def execRingFrameReceive (cw crcOk : Bool) (dest : Nat) (f : RingRest) (s : State) : Host.Outcome State Fault Refusal :=
  go (if !crcOk then bump Reg.RING_CRC_ERR_COUNT s
    else if dest = ringNode s then s
    else if f.hops ≤ 1 then bump Reg.RING_CRC_ERR_COUNT s
    else ringPut (!cw) dest f.src f.type f.seq (f.hops - 1) f.stamp f.payload s)

/-- Slots polled: present, and powered on this side (R284). -/
def polled (s : State) : List Nat :=
  (List.range (slotCount s)).filter fun n => isSet s (Reg.BLD_SLOT_STATUS_PDS n) && isSet s (Reg.BLD_SLOT_STATUS_PWREN n)

/-- Change the sweep. -/
def sweepMod (f : Sweep → Sweep) (s : State) : State := { s with bld := { s.bld with sweep := s.bld.sweep.map f } }

/-- A sweep ends (R284, R285): slots reached from neither side are stale. -/
def sweepEnd (s : State) : State :=
  match s.bld.sweep with
  | none => s
  | some w =>
    let stale := match w.cwMiss, w.ccwMiss with
      | some a, some b => (polled s).filter fun n => decide (a ≤ n) && decide (n ≤ b)
      | _, _ => []
    { s with bld := { s.bld with sweep := none } }
      |> (fun s => foldS stale (fun n s => wr (Reg.BLD_SLOT_STATUS_STALE n) 1 s) s)
      |> wr Reg.RING_STATUS_SWEEPING 0 |> wrB Reg.RING_STATUS_BROKEN w.cwMiss.isSome
      |> wr Reg.RING_STATUS_BREAK_CW (w.cwMiss.getD 127) |> wr Reg.RING_STATUS_BREAK_CCW (w.ccwMiss.getD 127)
      |> wr Reg.RING_SWEEP_STROKES_STROKES (min 65535 (s.stk.ext + 1 - w.started)) |> wr Reg.RING_SWEEP_LAST w.started

/-- Send the polls that OUTSTANDING allows; at the end of a direction, turn or end (R284). -/
def sweepGoN : Nat → State → State
  | 0, s => s
  | fuel + 1, s => match s.bld.sweep with
    | none => s
    | some w => (match w.todo, w.out with
      | n :: t, out =>
        if out.length < max 1 (rd s Reg.RING_CTRL_OUTSTANDING) then
          sweepGoN fuel (s |> sweepMod (fun w => { w with todo := t, out := w.out ++ [(n, false)] }) |> ringSend w.ccw n 1 [])
        else s
      | [], [] => (match w.cwMiss with
        | some m =>
          if w.ccw then sweepEnd s
          else sweepGoN fuel (sweepMod (fun w => { w with ccw := true, todo := ((polled s).filter fun n => decide (m ≤ n)).reverse }) s)
        | none => sweepEnd s)
      | [], _ => s)

/-- Go on with the sweep. -/
def sweepGo (s : State) : State := sweepGoN 200 s

/-- A SWEEP event starts a sweep (R58, R284). -/
def sweepStart (s : State) : State :=
  if isSet s Reg.RING_CTRL_SWEEP_EN && s.bld.sweep.isNone then
    { s with bld := { s.bld with sweep := some ⟨s.stk.ext, false, polled s, [], none, none⟩ } } |> wr Reg.RING_STATUS_SWEEPING 1 |> sweepGo
  else s

/-- RING_HEALTH_REPLY (R283 to R285). -/
def healthReply (slot : Nat) (h : HealthReply) (s : State) : State :=
  match s.bld.sweep with
  | none => s
  | some w =>
    if w.out.any fun x => x.1 == slot then
      let s := s |> sweepMod (fun w => { w with out := w.out.filter fun x => x.1 != slot })
        |> wr (Reg.BLD_SLOT_HEALTH_BRIDGE_C slot) h.bridgeC |> wr (Reg.BLD_SLOT_HEALTH_NAND_C slot) h.nandC
        |> wr (Reg.BLD_SLOT_HEALTH_POWER slot) h.power |> wr (Reg.BLD_SLOT_LAST slot) s.stk.ext |> wr (Reg.BLD_SLOT_STATUS_STALE slot) 0
        |> slotMod slot (fun x => { x with fw := h.fw, uptime := h.uptime, rails := h.rails, button := h.button, shown := h.shown })
        |> when h.powerFault (slotEvent (Reg.BLD_SLOT_STATUS_PF slot) (Reg.BLD_SLOT_CTRL_PF_EN slot) slot)
      s |> when (isSet s (Reg.BLD_SLOT_STATUS_IND_PENDING slot)) (indSend slot) |> sweepGo
    else s

/-- RING_HEALTH_REPLY. -/
def execRingHealthReply (slot : Nat) (h : HealthReply) (s : State) : Host.Outcome State Fault Refusal := go (live (healthReply slot h) s)

/-- RING_POLL_TIMEOUT (R284, R287): sent once more, then the slot counts as missed and the polls after it are abandoned. -/
def pollTimeout (slot : Nat) (s : State) : State :=
  match s.bld.sweep with
  | none => s
  | some w => (match w.out.find? fun x => x.1 == slot with
    | none => s
    | some (_, false) => s |> sweepMod (fun w => { w with out := w.out.map fun x => if x.1 = slot then (slot, true) else x }) |> ringSend w.ccw slot 1 []
    | some (_, true) =>
      s |> sweepMod (fun w => { w with
          out := w.out.takeWhile fun x => x.1 != slot
          todo := []
          cwMiss := if w.ccw then w.cwMiss else some slot
          ccwMiss := if w.ccw then some slot else w.ccwMiss })
        |> bump Reg.RING_POLL_MISS_COUNT |> faultNote (slotSeat slot) 0x05 slot [slot, b2n w.ccw] |> sweepGo)

/-- RING_POLL_TIMEOUT. -/
def execRingPollTimeout (slot : Nat) (s : State) : Host.Outcome State Fault Refusal := go (live (pollTimeout slot) s)

end Sys2Proof.Machine
end

