-- ==== Sys2Proof/Machine/CoxOps.lean ====
section
/-!
DEFINITION. Machine/CoxOps.lean: the cox role: switch-over, return and the drill (R21, R35, R428 to R432).
A gap lies inside one command: the outputs of *Held outputs* keep their values across it because nothing else happens in it.
-/

namespace Sys2Proof.Machine

/-- Mailbox events; they have no enable register, and those that the spec says are raised reach the cox (R433). -/
def mbxEvent (ev : Fld) (raised : Bool) (s : State) : State := setEvent ev raised s

/-- RUNNING commands whose commit has not reached the shadow start again from the beginning (R428): they have changed nothing yet; reads of
their input are issued anew. -/
def commandsRestart (s : State) : State :=
  foldS (slotsWhere s fun m => m.st == .running && !m.committed) (fun n s =>
    let s := bump Reg.MBX_RESTARTED_COUNT s
    if readsOut s n then
      { s with pci := { s.pci with tags := fmapV s.pci.tags fun _ t => if t.slot = n then { t with abandoned := true } else t } }
        |> issueReads n (ceilDiv (slotAt s n).req.hostLen 4096)
    else s) s

/-- The cox role moves to the other of the two seats (R21, R35). -/
def coxMoves (gap : Nat) (s : State) : State :=
  { s with cox := { s.cox with active := s.cox.standby, standby := s.cox.active } }
    |> wr Reg.MBX_LAST_GAP_CYCLES (min gap 65535) |> bump Reg.MBX_SWITCHOVERS_COUNT |> mbxEvent Reg.MBX_EVENTS_SWITCHOVER false
    |> commandsRestart

/-- The active cox has faulted (R21): the standby takes the role; with no standby ready it is a fault of the whole head (R432). -/
def coxFaults (gap : Nat) (s : State) : State :=
  if !isSet s Reg.MBX_COX_STANDBY_READY then headHalt s
  else s |> coxMoves gap |> wr Reg.MBX_COX_STANDBY_READY 0

/-- The checks of a drill find failing parts of the hand-over path, each a lasting fault of its own (R431). -/
def drillFaults (l : List Nat) (s : State) : State :=
  foldS l (fun p s =>
    let r := faultCount s.cox.active 0x10 p none [p] s
    if r.2 then r.1 |> mbxEvent Reg.MBX_EVENTS_HANDOVER_FAULT true |> faultClear s.cox.active 0x10 p else r.1) s

/-- A drill ends (step 6 of *Cox drill*); the gap back is 0 where the original did not return. -/
def drillEnds (d : Drill) (gap2 : Nat) (s : State) : State :=
  { s with cox := { s.cox with drill := none, lastDrill := some s.stk.ext } }
    |> wr Reg.MBX_COX_DRILL 0 |> bump Reg.MBX_DRILLS_COUNT |> drillFaults d.faults
    |> mbxComplete d.slot .ok 0 [d.gap1, gap2, bitsOf ((List.range 6).map fun p => d.faults.contains p)]

/-- The original cluster has ended its self-test (R21, R432): it takes the role back at the next stroke boundary, or it does not return. -/
def coxReturns (gap : Nat) (passed : Bool) (s : State) : State :=
  if s.cox.active = 0 ∨ isSet s Reg.MBX_COX_STANDBY_READY = true then s
  else if passed then { s with cox := { s.cox with returning := some gap } }
  else
    let s := mbxEvent Reg.MBX_EVENTS_NO_STANDBY true s
    match s.cox.drill with
    | some d => drillEnds d 0 s
    | none => s

/-- At a stroke edge: a drill's switch-over, and the return of the original cluster (R21, *Cox drill*). -/
def coxEdge (s : State) : State :=
  match s.cox.switchDue, s.cox.returning with
  | some gap, _ => { s with cox := { s.cox with switchDue := none } } |> coxMoves gap |> wr Reg.MBX_COX_STANDBY_READY 0
  | none, some gap =>
    let s := { s with cox := { s.cox with returning := none } } |> coxMoves gap |> wr Reg.MBX_COX_STANDBY_READY 1
    (match s.cox.drill with
      | none => s
      | some d => drillEnds d gap s)
  | none, none => s

/-- SYS_COX_DRILL (R431). DETAIL of WRONG_STATE is not defined: 0. -/
def drillStart (slot gap : Nat) (faults : List Nat) (s : State) : Option (Sts × Nat × List Nat) × State :=
  let soon : Bool := s.upd.st == .scheduled && decide (s.upd.at_ ≤ s.stk.ext + 10000)
  let recent : Bool := match s.cox.lastDrill with | some t => decide (s.stk.ext < t + 600000) | none => false
  if s.pair.st ≠ .paired ∨ !isSet s Reg.MBX_COX_STANDBY_READY ∨ soon = true ∨ s.upd.st = .activating then (some (.wrongState, 0, []), s)
  else if recent ∨ s.cox.drill.isSome then (some (.busy, 0, []), s)
  else (none, { s with cox := { s.cox with drill := some ⟨slot, s.stk.ext, gap, faults⟩, switchDue := some gap } } |> wr Reg.MBX_COX_DRILL 1)

/-- The device answers on I3C (R535): not before the cox starts, while a live activation has the mailboxes closed, or from haul-out
detection onward; the gap of a switch-over lies inside one command. -/
def i3cAnswers (s : State) : Bool :=
  isSet s Reg.MBX_STATUS_READY && !isSet s Reg.MBX_STATUS_ACTIVATING && rd s Reg.HLD_STATUS_PHASE == 0 && !s.boot.halted

end Sys2Proof.Machine
end

