-- ==== Sys2Proof/Machine/MgmtOps.lean ====
section
/-!
DEFINITION. Machine/MgmtOps.lean: taking and answering MCTP messages (R531 to R535).
-/

namespace Sys2Proof.Machine

/-- Send an MCTP packet: one in-band interrupt, then the packet (R531). -/
def mctpSend (kind : OutKind) (args : List Nat) (s : State) : State :=
  s |> emit .ibi [0xAE] |> bump Reg.MGT_IBI_COUNT |> emit kind args |> bump Reg.MGT_TX_MSGS_COUNT

/-- A message arrives at the device's address (R532, R535): nothing happens while the device has no address or NACKs it; a message over the
limits, or one that must come inside a secured session and does not, is dropped and counted. -/
def mctpTake (m : MctpIn) (free : Bool) (f : State → State) (s : State) : State :=
  if !isSet s Reg.MGT_STATUS_ADDRESSED ∨ !i3cAnswers s then s
  else
    let s := bump Reg.MGT_RX_MSGS_COUNT s
    if 20480 < m.len ∨ 8 ≤ m.held ∨ (isSet s Reg.MGT_CTRL_REQUIRE_SECURE = true ∧ !m.secure ∧ !free) then bump Reg.MGT_DROPPED_COUNT s
    else f s

end Sys2Proof.Machine
end

