-- ==== Sys2Proof/Machine/PairRun.lean ====
section
/-!
DEFINITION. Machine/PairRun.lean: the pair at work: frames sent and received, the standby view, claims, takeover, failback (R291 to R328).
-/

namespace Sys2Proof.Machine

/-! ### Streams and sessions -/

/-- A session ends: every stream starts afresh at the next join; nothing of the standby groups without LAST is kept (R127, R301). DESIGN
CHOICE: STK_STATUS.PAIR_RESYNC stays as it is, and with no session nothing slews (log entry 23). -/
def sessionEnd (s : State) : State :=
  let s := foldS (seatList s) (fun n s => s
    |> laneMod n (fun l => { laneReset with trainedAt := l.trainedAt, lostAt := l.lostAt, disabled := l.disabled, busy := l.busy, freeAt := l.freeAt })
    |> wr (Reg.PAIR_LANE_TX_SEQ_SEQ n) 0 |> wr (Reg.PAIR_LANE_RX_SEQ_SEQ n) 0 |> wr (Reg.PAIR_LANE_KEY_KEY_ID n) 0
    |> wr (Reg.PAIR_LANE_KEY_FRAMES n) 0) s
  { s with
    pair := { s.pair with step := 0, peerCurrent := false, noticed := false, ownAt := [], windows := none }
    ing := { s.ing with grps := fmapV s.ing.grps fun _ g => { g with frame := none, acked := false } }
    stk := { s.stk with peerLead := 0, peerSteered := false } }
    |> wr Reg.PAIR_HB_MISSED_COUNT 0 |> failbackStops

/-- Class of a frame (R299). -/
def loadCls : PairLoad → Nat
  | .control _ => clsC
  | .journal _ => clsM
  | .mapSync .. => clsS
  | .bulk .. => clsS

/-- TYPE of a frame. -/
def loadType : PairLoad → Nat
  | .control _ => 4
  | .journal _ => 5
  | .mapSync .. => 8
  | .bulk .. => 9

/-- Number of a kind of CONTROL frame, for the record of what is sent. -/
def ctlWords : Ctl → List Nat
  | .own p i o e t => [0, b2n p, i, o, e, t]
  | .notice side g e r l => [1, side, g, e] ++ r ++ l
  | .failback f c => [2, f, b2n c]
  | .anchors => [3]
  | .fences e => [4, e]
  | .object _ => [5]
  | .viewCurrent => [6]
  | .rekey k c => [7, k, b2n c]
  | .windows c s g t => [8, c, s, g, t]
  | .snap i g t r => [9, i, g, t, b2n r]
  | .erase d t => [10, d, t]
  | .roll d g t => [11, d, g, t]
  | .update t c => [12, t, b2n c]
  | .updateDone r m => [13, r, m]

/-- What a frame carries, for the record of what is sent. -/
def loadWords : PairLoad → List Nat
  | .control c => ctlWords c
  | .journal r => [r.length]
  | .mapSync p r rows => [p, r.length, rows.length]
  | .bulk r o => [r.length, o.length]

/-- Groups whose LAST record a frame holds (R128). -/
def loadLast : PairLoad → List Nat
  | .journal r => (r.filter (·.last)).map (·.group)
  | _ => []

/-- Groups with a record in a frame. -/
def loadGroups : PairLoad → List Nat
  | .journal r => (r.map (·.group)).eraseDups
  | _ => []

/-! ### Sending (R295 to R304) -/

/-- Windows admit these classes, own class first (R296, R297). -/
def admitted (w : Nat) : List Nat := if w = 0 then [0, 1] else if w = 1 then [1] else if w = 2 then [2, 1] else []

/-- Rekey threshold in frames (R301). -/
def rekeyAt (s : State) : Nat := 2 ^ max 20 (min 31 (rd s Reg.PAIR_REKEY_LOG2))

/-- A frame starts at a tick on the lane that carries a seat's stream: bytes, lane time and the key's count (R293, R300, R301, R303); at its
2^32nd frame the key is spent. A rerouted frame crosses the keel to that lane's seat, in class CTRL if it is a C frame, else in class
WRITE (R295). -/
def frameStarts (seat cls bytes tick : Nat) (s : State) : State :=
  let via := rd s (Reg.PAIR_LANE_STATUS_VIA seat)
  let n := rd s (Reg.PAIR_LANE_KEY_FRAMES seat) + 1
  let s := s |> wr (Reg.PAIR_LANE_KEY_FRAMES seat) n |> bumpN (Reg.PAIR_LANE_TX_BYTES via) (bytes + 80)
    |> laneMod via (fun l => { l with busy := l.busy + laneTime bytes, freeAt := tick + laneTime bytes })
    |> laneMod seat (fun l => { l with owed := false, refuse := none })
    |> keelSend seat via (if cls = clsC then keelCtrl else keelWrite) (bytes + 80)
    |> when (decide (4294967296 ≤ n)) (pairEvent Reg.PAIR_EVENTS_REKEY_LATE 9)
  if rekeyAt s ≤ n ∧ (lane9 s seat).rekey.isNone then
    let k := rd s (Reg.PAIR_LANE_KEY_KEY_ID seat) + 1
    s |> laneMod seat (fun l => { l with rekey := some k }) |> pairEnqueue seat clsC (.control (.rekey k false)) 64
  else s

/-- No frame starts under a key that has sealed 2^32 frames (R301). -/
def keySpent (s : State) (seat : Nat) : Bool := decide (4294967296 ≤ rd s (Reg.PAIR_LANE_KEY_FRAMES seat))

/-- The header of a frame (R299): TYPE, CLASS, LENGTH, STREAM, FLAGS, KEY_ID, SEQ, ACK, REFUSE_SEQ, STROKE, SEND_TICK, STATE, COUNTER. -/
def frameHead (s : State) (seat cls typ bytes seq flags : Nat) : List Nat :=
  let l := lane9 s seat
  let via := b2n (rd s (Reg.PAIR_LANE_STATUS_VIA seat) != seat)
  [typ, cls, bytes, seat + 128 * mySide s, via + flags + (match l.refuse with | some _ => 4 | none => 0), rd s (Reg.PAIR_LANE_KEY_KEY_ID seat), seq,
    subMod 32 (rd s (Reg.PAIR_LANE_RX_SEQ_SEQ seat)) 1, l.refuse.getD 0, strokeCount s, seatTick s seat, pairStNum s.pair.st,
    rd s (Reg.PAIR_LANE_KEY_FRAMES seat) + 1]

/-- The header of HELLO and EXCHANGE (R299): no sequence, acknowledgement, key or counter. -/
def openHead (s : State) (seat typ bytes : Nat) : List Nat :=
  [typ, 0, bytes, seat + 128 * mySide s, 0, 0, 0, 0, 0, strokeCount s, seatTick s seat, pairStNum s.pair.st, 0]

/-- Send HELLO (1) or EXCHANGE (2). The spec gives neither's length: an open value. -/
def openSend (seat typ : Nat) (words : List Nat) (s : State) : State :=
  let bytes := (openValue s).1 % 16385
  (openValue s).2 |> bumpN (Reg.PAIR_LANE_TX_BYTES seat) (bytes + 80)
    |> laneMod seat (fun l => { l with busy := l.busy + laneTime bytes, freeAt := l.freeAt + laneTime bytes })
    |> emit .pair (openHead s seat typ bytes ++ words)

/-- Start an unsequenced frame at a tick: HEARTBEAT (3), ACK (6), NAK (7). -/
def pairBare (seat cls typ tick : Nat) (words : List Nat) (s : State) : State :=
  if keySpent s seat ∨ s.boot.halted then s
  else
    let bytes := if typ = 3 then 64 else 0
    let h := frameHead s seat cls typ bytes 0 0
    s |> frameStarts seat cls bytes tick |> emit .pair (h ++ words)

/-- An ACK or a NAK waits for the lane (R302, R303). -/
def bareQueue (seat typ : Nat) (s : State) : State :=
  if !hasSession s then s else laneMod seat (fun l => { l with bare := if l.bare.contains typ then l.bare else l.bare ++ [typ] }) s

/-- Retransmit the frame that has waited longest (R295, R304); at its last permitted retransmission the lane fails. -/
def frameAgain (seat tick : Nat) (f : PairFrame) (s : State) : State :=
  let via := rd s (Reg.PAIR_LANE_STATUS_VIA seat)
  let h := frameHead s seat (loadCls f.load) (loadType f.load) f.bytes f.seq 2
  let s := s |> laneMod seat (fun l => { l with
      again := l.again.drop 1
      unacked := l.unacked.map fun x => if x.seq = f.seq then { x with resent := x.resent + 1, waited := 0 } else x })
    |> bump (Reg.PAIR_LANE_RETX_COUNT seat) |> frameStarts seat (loadCls f.load) f.bytes tick |> emit .pair (h ++ loadWords f.load)
  if max 1 (rd s (Reg.PAIR_RETX_LIMIT seat)) ≤ f.resent + 1 then
    s |> laneFails via |> laneMod seat (fun l => { l with unacked := l.unacked.map fun x => { x with resent := 0 } })
  else s

/-- Start a new frame: it takes the next sequence (R302), and groups whose LAST record it holds wait for its acknowledgement. -/
def frameNew (seat cls tick : Nat) (load : PairLoad) (bytes : Nat) (s : State) : State :=
  let q := rd s (Reg.PAIR_LANE_TX_SEQ_SEQ seat)
  let h := frameHead s seat cls (loadType load) bytes q 0
  let s := s |> laneMod seat (fun l => { l with
      queue := l.queue.set cls ((l.queue.getD cls []).drop 1), unacked := l.unacked ++ [⟨q, load, bytes, 0, 0⟩] })
    |> wr (Reg.PAIR_LANE_TX_SEQ_SEQ seat) ((q + 1) % 4294967296) |> frameStarts seat cls bytes tick |> emit .pair (h ++ loadWords load)
  foldS (loadLast load) (fun g s => grpMod seat g (fun g => { g with frame := some (q, seat) }) s) s

/-- A frame that a stream has ready. -/
inductive PairNext where
  | bare (typ : Nat)
  | again (f : PairFrame)
  | fresh (load : PairLoad) (bytes : Nat)
  deriving DecidableEq, Repr

/-- The next frame of a class that a seat's stream may start (R301, R302, R304): an ACK or NAK, the frame to be sent again first, or a new one
while fewer than 1,024 are unacknowledged. Frames are sent again in their order, and no new one before them. -/
def streamNext (s : State) (seat cls : Nat) : Option PairNext :=
  let l := lane9 s seat
  if keySpent s seat then none
  else match (if cls = clsM then l.bare else []) with
    | t :: _ => some (.bare t)
    | [] => (match l.unacked.find? fun f => l.again.head? == some f.seq with
      | some f => if loadCls f.load = cls then some (.again f) else none
      | none => if 1024 ≤ l.unacked.length then none else (l.queue.getD cls []).head?.map fun x => .fresh x.1 x.2)

/-- Payload bytes of a frame that is ready. -/
def nextBytes : PairNext → Nat
  | .bare _ => 0
  | .again f => f.bytes
  | .fresh _ n => n

/-- Start a frame that is ready. -/
def nextStart (seat cls tick : Nat) (x : PairNext) (s : State) : State :=
  match x with
  | .bare t => s |> laneMod seat (fun l => { l with bare := l.bare.drop 1 }) |> pairBare seat cls t tick []
  | .again f => frameAgain seat tick f s
  | .fresh load n => frameNew seat cls tick load n s

/-- A frame that does not fit waits for a later window: one wait is counted once (R297). -/
def frameDefer (seat cls w : Nat) (s : State) : State :=
  let at_ := some (s.stk.ext, w, cls)
  if (lane9 s seat).late = at_ then s
  else s |> laneMod seat (fun l => { l with late := at_ }) |> bump (Reg.PAIR_LANE_LATE_COUNT seat)

/-- Streams that a lane carries, in the order in which it serves a class: round robin from the one after the last (R295). -/
def laneStreams (s : State) (lane cls : Nat) : List Nat :=
  let last := (lane9 s lane).turns.getD cls 0
  ((List.range s.hw.seats).map fun d => (last + 1 + d) % s.hw.seats).filter fun n => rd s (Reg.PAIR_LANE_STATUS_VIA n) == lane

/-- PAIR_FRAME_SEND (R295, R297): at a tick at which the lane is free, it starts the next frame that its window admits and that fits before
the window's end: the window's own class first. -/
def frameSend (lane tick : Nat) (s : State) : State :=
  if !hasSession s ∨ s.boot.halted ∨ !laneUp s lane ∨ tick < (lane9 s lane).freeAt then s
  else
    let w := windowAt s tick
    let ready : List (Nat × Nat × PairNext) := (admitted w.1).filterMap fun cls =>
      (laneStreams s lane cls).findSome? fun n => (streamNext s n cls).map fun x => (cls, n, x)
    let fits := fun (x : Nat × Nat × PairNext) => decide (tick + laneTime (nextBytes x.2.2) ≤ w.2)
    let s := foldS (ready.takeWhile fun x => !fits x) (fun x s => frameDefer x.2.1 x.1 w.1 s) s
    match ready.find? fits with
    | some (cls, n, x) => s |> laneMod lane (fun l => { l with turns := l.turns.set cls n }) |> nextStart n cls tick x
    | none => s

/-- Send the HEARTBEAT of every seat whose lane works (R316). -/
def heartbeatsSend (s : State) : State :=
  if !hasSession s ∨ s.boot.halted then s
  else foldS (seatList s) (fun n s =>
    if laneUp s n then
      pairBare n 0 3 0 [pairStNum s.pair.st, s.stk.ext, bitsOf [s.pair.sides.contains 0, s.pair.sides.contains 1], rd s (Reg.MAP_CKPT_GEN_GEN 0),
        s.pair.term, b2n s.pair.hold, s.pair.own.foldl (fun n o => n + o.2.epoch) 0, b2n s.stk.active.isSome] s
    else s) s

/-- Newest on-media format version that the running image reads. -/
def readsMedia (s : State) : Nat := match s.boot.running with | some h => h.mediaFormat | none => 0

/-- Own pair-protocol version. -/
def myVersion (s : State) : Nat × Nat := match s.boot.running with | some h => (h.pairMajor, h.pairMinor) | none => (0, 0)

/-- Stroke inputs that are locked here (Pair agreement). -/
def lockedInputs (s : State) : Nat := rd s Reg.STK_STATUS_A_LOCKED + rd s Reg.STK_STATUS_B_LOCKED

/-- HELLO in every C window until a join has begun (step 1 of *Join steps*), and EXCHANGE until answered (R299). -/
def hellosSend (s : State) : State :=
  let open_ := s.pair.joinFrom.isSome && (s.pair.st == .alone || s.pair.st == .fenced || s.pair.st == .solo)
  if !open_ ∨ s.pair.refusedAt.isSome ∨ s.boot.halted ∨ 4 ≤ s.pair.step then s
  else foldS (seatList s) (fun n s =>
    if laneUp s n then
      (if s.pair.step = 3 then openSend n 2 [] s
       else openSend n 1 [s.hw.seats, rd s Reg.PKG_ID_STEPPING, mySide s, (myVersion s).1, (myVersion s).2, s.upd.media, readsMedia s,
       pairStNum s.pair.st, bitsOf [s.pair.sides.contains 0, s.pair.sides.contains 1], s.pair.term, lockedInputs s, b2n s.stk.wasReference] s)
    else s) s

/-! ### Receiving (R301 to R305) -/

/-- A frame's stroke stamp against this head's count (R55). -/
def strokeStamp (stamp : Nat) (s : State) : State :=
  let d := subMod 32 stamp (strokeCount s)
  if d ≤ 1 ∨ d = 4294967295 then s
  else s |> bump Reg.STK_PAIR_MISMATCH_COUNT |> event Reg.STK_EVENTS_PAIR_MISMATCH Reg.STK_EVENT_EN_ENABLE 6 |> wr Reg.STK_STATUS_PAIR_RESYNC 1

/-- A frame opens under the current key, the one before it while it still counts, or the next one once announced (R301). -/
def rxKeyOk (s : State) (seat keyId : Nat) : Bool :=
  let l := lane9 s seat
  keyId == l.rxKey || (l.rxNext && keyId == (l.rxKey + 1) % 65536) ||
    (keyId == subMod 16 l.rxKey 1 && (match l.rxOld with | some t => decide (s.stk.ext < t) | none => false))

/-- The tag and key of a frame (R302): one that fails is discarded and counted; the answer says whether it opened. A frame arrives only on a
lane that is trained; one of another seat's stream crosses the keel to that seat, in class CTRL if it is a C frame, else in class
WRITE (R295). -/
def rxOpen (seat : Nat) (f : PHdr) (s : State) : Bool × State :=
  if !hasSession s || (lane9 s f.lane).trainedAt.isNone then (false, s)
  else if !f.auth || !rxKeyOk s seat f.keyId then
    (false, s |> bump (Reg.PAIR_LANE_AUTH_FAIL_COUNT f.lane) |> pairFault f.lane 0x0A)
  else
    let s := s |> bumpN (Reg.PAIR_LANE_RX_BYTES f.lane) (f.bytes + 80) |> strokeStamp f.stroke
      |> keelSend f.lane seat (if f.cls = clsC then keelCtrl else keelWrite) (f.bytes + 80)
    let l := lane9 s seat
    (true, if f.keyId = l.rxKey ∨ !l.rxNext then s
      else if f.keyId = (l.rxKey + 1) % 65536 then
        laneMod seat (fun l => { l with rxKey := f.keyId, rxOld := some (s.stk.ext + 16), rxNext := false }) s
      else s)

/-- Both heads count a refusal and log a pair fault (R305). -/
def refusalNote (seat seq : Nat) (s : State) : State :=
  s |> bump Reg.PAIR_REFUSED_COUNT |> pairEvent Reg.PAIR_EVENTS_REFUSED 7 |> logE seat 2 0x0B false [seat, seq]

/-- The peer refuses a frame: every group with a record in it fails as an engine fault and is never accepted (R132, R305). -/
def refused (seat seq : Nat) (s : State) : State :=
  match (lane9 s seat).unacked.find? fun f => f.seq == seq with
  | none => s
  | some f =>
    let s := refusalNote seat seq s
    foldS (loadGroups f.load) (fun n s => match fget s.ing.grps (pairKey seat n) with
      | some g => ingestError g.cmd (match cmdOf s g.cmd with | some c => blkLba c g.lo | none => 0) .internal s
      | none => s) s

/-- Sequences compare by serial arithmetic on 32 bits: `a` is not later than `b`. -/
def seqUpTo (a b : Nat) : Bool := !strokeLater a b

/-- A cumulative acknowledgement, a refusal in the same header first (R303, R305): the groups it covers may be accepted (R128). The answer
is what the acknowledged frames carried. -/
def ackTake (seat : Nat) (f : PHdr) (s : State) : List PairLoad × State :=
  let s := match f.refuse with | some q => refused seat q s | none => s
  let l := lane9 s seat
  let done := l.unacked.filter fun x => seqUpTo x.seq f.ack
  let s := laneMod seat (fun l => { l with
      unacked := l.unacked.filter fun x => !seqUpTo x.seq f.ack
      again := l.again.filter fun q => !seqUpTo q f.ack }) s
  let grps := fmapV s.ing.grps fun k g =>
    let got : Bool := match g.frame with | some (q, _) => seqUpTo q f.ack | none => false
    if keyHi k = seat ∧ got = true then { g with acked := true } else g
  let s := { s with ing := { s.ing with grps := grps } }
  (done.map (·.load), s)

/-- The sequence of an authentic sequenced frame (R302): whether it is accepted. -/
def seqTake (seat lane seq : Nat) (s : State) : Bool × State :=
  let e := rd s (Reg.PAIR_LANE_RX_SEQ_SEQ seat)
  let back := subMod 32 e seq
  if seq = e then
    (true, s |> wr (Reg.PAIR_LANE_RX_SEQ_SEQ seat) ((e + 1) % 4294967296) |> laneMod seat (fun l => { l with owed := true, naked := none }))
  else if 1 ≤ back ∧ back ≤ 1024 then (false, s |> bump (Reg.PAIR_LANE_DUP_COUNT seat) |> laneMod seat (fun l => { l with owed := true }))
  else if strokeLater seq e then
    (false, if (lane9 s seat).naked = some e then s else s |> bareQueue seat 7 |> laneMod seat (fun l => { l with naked := some e }))
  else (false, s |> bump (Reg.PAIR_LANE_CRC_ERR_COUNT lane) |> pairFault lane 0x0B)

/-- A delivered frame is refused (R305): its sequence is consumed, nothing in it applies, and every group it touches is thrown away. -/
def frameRefuse (seat seq : Nat) (groups : List Nat) (s : State) : State :=
  s |> laneMod seat (fun l => { l with
      refuse := some seq, owed := true
      held := fkeep l.held fun g _ => !groups.contains g
      dropped := (l.dropped ++ groups).eraseDups })
    |> refusalNote seat seq

/-! ### The standby view (R126, R127, R230, R306 to R308) -/

/-- A view with nothing in it. -/
def viewReset : Standby := ⟨0, 0, 0, 0, [], [], 0, []⟩

/-- The view of a seat of the other head. -/
def viewAt (s : State) (seat : Nat) : Standby := fgetD s.pair.view seat viewReset

/-- Change a view. -/
def viewMod (seat : Nat) (f : Standby → Standby) (s : State) : State :=
  { s with pair := { s.pair with view := fset s.pair.view seat (f (viewAt s seat)) } }

/-- Home side of the object a record is about (R126, R158). -/
def deltaSide (s : State) (d : Delta) : Nat :=
  match d.kind with
  | .rowOpen => (match groupOf s d.nsid with | some g => g.side | none => 1 - mySide s)
  | .countSet => handleSide d.value
  | .move => handleSide d.value
  | .release => (match nsCur s d.nsid with | some p => p.side | none => handleSide d.value)
  | _ => (match nsCur s d.nsid with | some p => p.side | none => 1 - mySide s)

/-- The journal check of R230: an EXTENT record's NSID, LBA and KEY_GEN are those of the extent's header. -/
def journalTags (d : Delta) : Bool :=
  match d.kind, d.record, d.ext with
  | .extent, some r, some e => e.nsid == d.nsid && e.lba == d.lba && e.keyGen == r.keyGen
  | _, _, _ => true

/-- A record has one of the formats of *Journal records* (R126). -/
def journalForm (d : Delta) : Bool :=
  match d.kind with
  | .extent => d.record.isSome && d.ext.isSome
  | .ref => true
  | .zero => true
  | .dealloc => true
  | _ => false

/-- A record has one of the formats of *Map sync records*: the delta log types 8 to 12 (R307). -/
def syncForm (d : Delta) : Bool :=
  match d.kind with
  | .extent => false
  | .ref => false
  | .zero => false
  | .dealloc => false
  | _ => true

/-- Groups of a stream start in the order of their numbers (R305); a record of a group that has ended fails the rule. -/
def orderOk : Option Nat → List Nat → List Delta → Bool
  | _, _, [] => true
  | top, live, d :: t =>
    let old := live.contains d.group
    let fresh := match top with | some g => strokeLater d.group g | none => true
    (old || fresh) && orderOk (if old then top else some d.group) (if d.last then live.filter (· != d.group) else if old then live else d.group :: live) t

/-- The newest group number that a list of records starts. -/
def lastGroupOf (top : Option Nat) (recs : List Delta) : Option Nat :=
  recs.foldl (fun top d => match top with | some g => if strokeLater d.group g then some d.group else some g | none => some d.group) top

/-- Records that fail the journal check count as tag mismatches on the seat that detects them (R230). -/
def tagsCount (seat : Nat) (recs : List Delta) (s : State) : State :=
  bumpN (Reg.PAR_TAG_MISMATCH_COUNT seat) (recs.filter fun d => !journalTags d).length s

/-- One group's changes enter the standby view in one step (R127). -/
def viewApply (seat : Nat) (recs : List Delta) (s : State) : State :=
  viewMod seat (fun v => { v with
    overlay := v.overlay ++ recs.map fun d => (s.stk.ext, { offWire d with ext := none })
    exts := recs.foldl (fun m d => match d.record, d.ext with | some r, some e => fset m r.extent e | _, _ => m) v.exts }) s

/-- A JOURNAL frame's records (R127, R305): held by group until LAST; records of groups thrown away are discarded. -/
def journalTake (seat : Nat) (recs : List Delta) (s : State) : State :=
  let s := laneMod seat (fun l => { l with lastGroup := lastGroupOf l.lastGroup recs }) s
  foldS recs (fun d s =>
    let l := lane9 s seat
    if l.dropped.contains d.group then laneMod seat (fun l => { l with dropped := if d.last then l.dropped.filter (· != d.group) else l.dropped }) s
    else
      let g := fgetD l.held d.group [] ++ [d]
      if d.last then s |> laneMod seat (fun l => { l with held := fdel l.held d.group }) |> viewApply seat g
      else laneMod seat (fun l => { l with held := fset l.held d.group g }) s) s

/-- The row and symbol that an address of a pool names through its band table. -/
def addrPlace (g : Group) (a : Nat) : Option (Nat × Nat) :=
  g.bands.findSome? fun e =>
    ((List.range (geomW (geomOf g e.2.geom))).find? fun m => match memberShare g e.2 m, e.2.blocks[m]? with
      | some sh, some (d, k) => sh.slot == addrSlot a && d == addrDie a && k == addrBlock a
      | _, _ => false).map fun m =>
        let row := e.1 * g.pages + addrPage a
        (row, symOf row m (geomW (geomOf g e.2.geom)))

/-- A ROW_OPEN of the other head: a row known as in use has been erased with its band since (R223). -/
def standbyRow (pool row seat stream : Nat) (s : State) : State :=
  match groupOf s pool with
  | none => s
  | some g =>
    let n := bandOf g row
    let s := match fget g.rows row with
      | some r =>
        if rowUnsettled r then s
        else
          let gone := fun (e : Ext) => e.pool == pool && bandOf g e.row == n
          { s with par := { s.par with exts := fkeep s.par.exts fun _ e => !gone e } }
            |> groupMod pool fun g => { g with bands := fdel g.bands n, rows := fkeep g.rows fun r _ => bandOf g r != n }
      | none => s
    rowReplay pool row seat stream s

/-- The extent that a MOVE has copied lies at its new address too (R170). -/
def standbyMove (d : Delta) (s : State) : State :=
  match fget s.par.exts d.old with
  | none => s
  | some e => (match (groupOf s e.pool).bind fun g => addrPlace g d.new with
    | some (row, sym) => { s with par := { s.par with exts := fset s.par.exts d.new { e with row := row, sym := sym } } }
    | none => s)

/-- A row of the other head has become programmed (R307, R308): its extents lie on flash, and their journal data goes. -/
def standbyProgrammed (seat pool row : Nat) (s : State) : State :=
  let here := fun (e : Ext) => e.pool == pool && e.row == row
  let l := (viewAt s seat).exts.filter fun e => here e.2
  let s := { s with par := { s.par with exts := l.foldl (fun m e => fset m e.1 e.2) s.par.exts } }
  s |> viewMod seat (fun v => { v with exts := fkeep v.exts fun _ e => !here e })
    |> rowMod pool row (fun r => { r with st := .programmed, left := [], dram := false })

/-- A MAP_SYNC frame (R307). -/
def syncTake (seat page : Nat) (recs : List Delta) (rows : List (Nat × Nat)) (s : State) : State :=
  let s := viewMod seat (fun v => { v with page := page, sync := v.sync ++ recs.map fun d => (s.stk.ext, d) }) s
  let s := foldS recs (fun d s => match d.kind with
    | .rowOpen => standbyRow d.nsid d.lba seat d.value s
    | .move => standbyMove d s
    | _ => s) s
  foldS rows (fun p s => foldS (seatList s) (fun n s => standbyProgrammed n p.1 p.2 s) s) s

/-- Records of a view that concern sides, oldest first: the overlay, then the map sync records (R324). -/
def viewRecords (s : State) (v : Standby) (sides : List Nat) (before : Nat) : List (Nat × Delta) :=
  (v.overlay ++ v.sync).filter fun x => sides.contains (deltaSide s x.2) && decide (x.1 < before)

/-- Records of a view are applied; the images of snapshots that fall between them are taken where they fall (R355, R356). -/
def viewFold (seat : Nat) (sides : List Nat) (l : List (Nat × Delta)) (s : State) : State :=
  foldS l (fun x s => imagesDue sides x.1 s |> (fun s => if x.2.kind = .rowOpen then s else deltaReplay seat x.2 s)) s

/-- What a checkpoint of the other head has put on flash stands in the boathouse (R308; log entry 61): it is applied to the map of that
side, and let go. -/
def noticeTake (side gen ext : Nat) (roots logStart : List Nat) (s : State) : State :=
  foldS (List.zip (List.range logStart.length) logStart) (fun x s =>
    let s := viewFold x.1 [side] (viewRecords s (viewAt s x.1) [side] ext) s
    let stay := fun (y : Nat × Delta) => !(deltaSide s y.2 == side && decide (y.1 < ext))
    viewMod x.1 (fun v => { v with gen := gen, ext := ext, logStart := x.2, root := roots.getD x.1 0, overlay := v.overlay.filter stay, sync := v.sync.filter stay }) s)
    { s with pair := { s.pair with noticed := true } }
    |> imagesDue [side] ext

/-! ### Objects that both heads keep (R309, R427, R474; log entry 59) -/

/-- Tell the peer of an object. -/
def objectTell (o : CfgObj) (s : State) : State := pairControl (.object o) s

/-- Take an object that the peer has told. -/
def objectTake (o : CfgObj) (s : State) : State :=
  match o with
  | .ns n p => (match nsOf s n with
    | some _ => (stInstall n p .opened s).1
    | none => setNs n ⟨⟨0, p, .opened, 0⟩, none, s.stk.ext, none, false⟩ s)
  | .nsGone n => nsRemove n s
  | .pool pool side k m dies shares aged floor =>
    if (groupOf s pool).isSome then groupMod pool (fun g => { g with ageGrouped := aged, floor := floor.getD g.floor }) s
    else { s with par := { s.par with groups := fset s.par.groups pool (groupNew s side k m dies
      ((shares.foldl (fun (l : List Share) p => l ++ [⟨p.1, countWhere (l.map fun x => (x.slot, x)) (fun n _ => n == p.1), p.2, false, false⟩]) [])) aged) } }
  | .poolGone pool => { s with par := { s.par with groups := fdel s.par.groups pool } }
  | .tenant t d sp r => pinsWake { s with nv := { s.nv with tenants := fset s.nv.tenants t ⟨r, d, sp⟩ } }
  | .tenantGone t => { s with nv := { s.nv with tenants := fdel s.nv.tenants t } }
  | .subsys i t nqn h => { s with nv := { s.nv with subsys := fset s.nv.subsys i ⟨t, nqn, h⟩ } }
  | .domain d t ns share gen live =>
    let x := fgetD s.keys.domains d ⟨t, ns, gen, false, false, false, share, live, [], none, s.stk.ext, none, d, true, none⟩
    let x := { x with secret := x.secret || x.gen != gen, fk := if x.secret then x.fk else 8192 * gen + d }
    { s with keys := { s.keys with domains := fset s.keys.domains d { x with gen := gen, live := live } } }
  | .domainGone d => { s with keys := { s.keys with domains := fdel s.keys.domains d } }
  | .cg c t m => { s with
      snp := { s.snp with cgs := fset s.snp.cgs c ⟨t, m⟩ }
      nv := { s.nv with ns := fmapV s.nv.ns fun n x => if m.contains n then { x with cg := some c } else if x.cg = some c then { x with cg := none } else x } }
  | .cgGone c => { s with
      snp := { s.snp with cgs := fdel s.snp.cgs c }
      nv := { s.nv with ns := fmapV s.nv.ns fun _ x => if x.cg = some c then { x with cg := none } else x } }
  | .snap id cg t m =>
    if fhas s.snp.snaps id then s
    else
      let tenant := match fget s.snp.cgs cg with | some c => c.tenant | none => 0
      { s with snp := { s.snp with snaps := fset s.snp.snaps id (snapNew cg tenant t m) } }
  | .snapGone id => snapDrop id s
  | .link n p epoch base cur =>
    let s := if fhas s.snp.links n then s else linkInstall n p s
    (match fget s.snp.links n with
      | none => s
      | some l =>
        let s := if p.target ∧ l.epoch ≠ epoch then
            foldS (seatList s) (fun i s => viewFold i [0, 1] (viewRecords s (viewAt s i) [0, 1] (s.stk.ext + 1)) s) s |> imageSwap n l
          else s
        { s with snp := { s.snp with links := fset s.snp.links n { l with epoch := epoch, base := base, cur := cur.map (·.1), snap := cur.map (·.2) } } })
  | .linkGone n promoted =>
    let m := match fget s.snp.links n with | some l => if l.p.target then linkMembers s l.p else [] | none => []
    s |> linkRemove n |> when promoted (replicaSet m false)

/-- A link as the other head is told of it. -/
def linkObj (n : Nat) (l : Link) : CfgObj := .link n l.p l.epoch l.base (match l.cur, l.snap with | some e, some i => some (e, i) | _, _ => none)

/-- Every object of the tables (R474). -/
def tableObjs (s : State) : List CfgObj :=
  (s.nv.tenants.map fun e => CfgObj.tenant e.1 e.2.domain e.2.sprint e.2.ranges) ++
  (s.nv.subsys.map fun e => CfgObj.subsys e.1 e.2.tenant e.2.nqn e.2.hosts) ++
  (s.keys.domains.map fun e => CfgObj.domain e.1 e.2.tenant e.2.ns e.2.shareFk e.2.gen e.2.live) ++
  (s.par.groups.map fun e => CfgObj.pool e.1 e.2.side (curGeom e.2).k (curGeom e.2).m e.2.dies
    ((curGeom e.2).shares.map fun sh => (sh.slot, sh.die)) e.2.ageGrouped (some e.2.floor)) ++
  (s.nv.ns.map fun e => CfgObj.ns e.1 e.2.cur.p) ++
  (s.snp.cgs.map fun e => CfgObj.cg e.1 e.2.tenant e.2.members) ++
  ((s.snp.snaps.filter fun e => !e.2.deleted).map fun e => CfgObj.snap e.1 e.2.cg e.2.s e.2.members) ++
  (s.snp.links.map fun e => linkObj e.1 e.2)

/-- Ownership entries go to the joining head (R309). -/
def ownsTell (s : State) : State :=
  foldS s.pair.own (fun e s => pairControl (.own (decide (4096 ≤ e.1)) (e.1 % 4096) e.2.owner e.2.epoch (s.stk.ext + 2)) s) s

/-- An ownership entry from the peer, to be installed at a stroke (R309); one not known here is created. -/
def ownTake (k owner epoch stroke : Nat) (s : State) : State :=
  if fhas s.pair.own k then { s with pair := { s.pair with ownAt := s.pair.ownAt ++ [(k, owner, epoch, stroke)] } }
  else { s with pair := { s.pair with own := fset s.pair.own k ⟨owner, owner, epoch, 0, none⟩ } }

/-- Ownership changes whose stroke has come (R309); one that an unretired version holds back is tried at the next stroke (R75, R326). -/
def ownDue (s : State) : State :=
  foldS s.pair.ownAt (fun x s =>
    if x.2.2.2 ≤ s.stk.ext then
      let r := ownInstall x.1 x.2.1 x.2.2.1 s
      let same := match fget s.pair.own x.1 with | some o => o.owner == x.2.1 && o.epoch == x.2.2.1 | none => true
      if same then { s with pair := { s.pair with ownAt := s.pair.ownAt.filter (· != x) } }
      else if r.2 then { r.1 with pair := { r.1.pair with ownAt := r.1.pair.ownAt.filter (· != x) } } |> anaChanged
      else r.1
    else s) s

/-! ### Claims (R315 to R322) -/

/-- Send a claim to every attested blade, under a term later than every one held (R320). -/
def claimStart (boot : Bool) (s : State) : State :=
  let term := newEpoch s % 4294967296
  let asked := attestedSlots s
  let s := { s with pair := { s.pair with term := term, retryAt := none, claim := some ⟨term, s.stk.ext, [], asked, boot⟩ } }
  foldS asked (fun n s => s |> oarPut n 4 [3, term, mySide s, s.stk.ext] |> emit .claim [n, term, mySide s]) s

/-- The head arms a takeover (R317): by its own count, or by hearing a peer that is ARMED. -/
def arm (byHearing : Bool) (s : State) : State :=
  if s.pair.st ≠ .paired then s
  else { s with pair := { s.pair with undecided := 0, byHearing := byHearing } } |> pairTo .armed |> pairEvent Reg.PAIR_EVENTS_ARMED 3 |> anaChanged |> claimStart false

/-- Members of a group that satisfy a condition on their slot. -/
def members (g : Group) (p : Nat → Bool) : Nat := ((curGeom g).shares.filter fun sh => p sh.slot).length

/-- In every group more than half of the members accepted (R321). -/
def claimWins (s : State) (c : Claim) : Bool :=
  s.par.groups.all fun g => decide ((curGeom g.2).shares.length < 2 * members g.2 fun n => fget c.replies n == some (mySide s))

/-- In some group more than half of the members name the other side (R321). -/
def claimLoses (s : State) (c : Claim) : Bool :=
  s.par.groups.any fun g => decide ((curGeom g.2).shares.length < 2 * members g.2 fun n => fget c.replies n == some (1 - mySide s))

/-- Raise the fences of slots to a port at an epoch (R278, R322). -/
def fencesRaise (l : List Nat) (port epoch : Nat) (s : State) : State := foldS l (fun n s => fenceRaise n port epoch s) s

/-- Slots that serve pools of sides. -/
def sideSlots (s : State) (sides : List Nat) : List Nat :=
  (s.par.groups.foldl (fun (l : List Nat) g => if sides.contains g.2.side then
    l ++ g.2.geoms.foldl (fun (l : List Nat) x => l ++ (x.2.shares.filter fun sh => !sh.lost).map fun sh => sh.slot) [] ++
      g.2.rebuilds.map (fun r => r.target.slot) ++ g.2.spares else l) []).eraseDups

/-- Replay of a side taken over (R324, R325): each seat's overlay, its map sync records, the log pages read from flash; then every open
row of the side is written again from the journal's data, and groups without LAST are gone. -/
def takeReplay (sides : List Nat) (log : List (Nat × List Delta)) (s : State) : State :=
  let s := foldS (seatList s) (fun n s =>
    let s := viewFold n sides (viewRecords s (viewAt s n) sides (s.stk.ext + 1)) s
    foldS (log.filter fun x => x.1 == n) (fun x s => foldS x.2 (fun d s => match d.kind with
      | .rowOpen => standbyRow d.nsid d.lba n d.value s
      | .move => s |> standbyMove d |> deltaReplay n d
      | _ => deltaReplay n d s) s) s) s
  let s := foldS (seatList s) (fun n s =>
    let l := (viewAt s n).exts.filter fun e => match groupOf s e.2.pool with | some g => sides.contains g.side | none => false
    let s := foldS l (fun e s => rowReplay e.2.pool e.2.row n streamHot { s with par := { s.par with exts := fset s.par.exts e.1 e.2 } }) s
    viewMod n (fun v => { v with overlay := [], sync := [], exts := [] }) s) s
  let before := s.snp.snaps
  let s := s |> imagesDue sides s.stk.ext |> snapsLate
  let s := when (before != s.snp.snaps) (snpEvent Reg.SNP_EVENTS_LATE 2) s
  foldS (s.par.groups.filter fun g => sides.contains g.2.side) (fun g s =>
    foldS (g.2.rows.filter fun r => rowUnsettled r.2) (fun r s => s
      |> rowMod g.1 r.1 (fun r => { r with st := .programmed, left := [], verify := true }) |> bump (Reg.PAR_RESYNC_ROWS_COUNT r.2.seat)
      |> rowRewrite g.1 r.1) s) s

/-- Some fence change to this head's port is still to be acknowledged. -/
def fencesOut (s : State) : Bool := (List.range (slotCount s)).any fun n => (slotOf s n).fencing.isSome

/-- A takeover whose fences are complete is finished (steps 4 to 6 of *Takeover timeline*; log entry 62). -/
def takeDone (log : List (Nat × List Delta)) (s : State) : State :=
  match s.pair.take with
  | none => s
  | some t =>
    if fencesOut s then s
    else { takeReplay t.sides log s with pair := { (takeReplay t.sides log s).pair with take := none } }
      |> wr Reg.PAIR_TAKEOVER_STROKES_STROKES (s.stk.ext - t.heard) |> bump Reg.PAIR_TAKEOVERS_COUNT |> anaChanged

/-- The claim is WON (R321 to R323). -/
def claimWon (c : Claim) (s : State) : State :=
  let mine := if c.boot then [mySide s] else s.pair.sides
  let theirs := if c.boot then [] else [0, 1].filter fun x => !s.pair.sides.contains x
  let heard := s.pair.lastHeard
  let s := { s with pair := { s.pair with claim := none, undecided := 0, retryAt := none, sides := (mine ++ theirs).mergeSort (· ≤ ·) } }
    |> sessionEnd |> pairTo .solo |> pairEvent Reg.PAIR_EVENTS_CLAIM_WON 4
  let s := if theirs = [] then s
    else
      let s := { s with pair := { s.pair with take := some ⟨theirs, heard⟩ } }
      foldS s.pair.own (fun e s => if theirs.contains e.2.owner then (ownInstall e.1 (mySide s) (e.2.epoch + 1) s).1 else s) s
  s |> fencesRaise (attestedSlots s) (myPort s) c.term |> anaChanged |> ftLog |> takeDone []

/-- The claim is LOST (R321). -/
def claimLost (s : State) : State :=
  { s with pair := { s.pair with claim := none, undecided := 0, retryAt := none } }
    |> pairEvent Reg.PAIR_EVENTS_CLAIM_LOST 5 |> headFenced |> sessionEnd
    |> when (rd s Reg.PKG_BRINGUP_STEP != 13) (wr Reg.PKG_BRINGUP_FAILED_STEP 11)

/-- The claim is UNDECIDED (R321): again after 10 strokes (side 0) or 100 (side 1); after RETRIES claims every 10,000. -/
def claimUndecided (s : State) : State :=
  let n := s.pair.undecided + 1
  let most := max 1 (rd s Reg.PAIR_CLAIM_RETRIES)
  let slow := decide (most ≤ n)
  let wait := if slow then 10000 else if mySide s = 0 then 10 else 100
  { s with pair := { s.pair with claim := none, undecided := n, retryAt := some (s.stk.ext + wait) } }
    |> when (n == most) (pairEvent Reg.PAIR_EVENTS_CLAIM_UNDECIDED 6)

/-- Decide a claim from the replies so far (R321). -/
def claimDecide (s : State) : State :=
  match s.pair.claim with
  | none => s
  | some c =>
    if claimLoses s c then claimLost s
    else if claimWins s c then claimWon c s
    else if c.asked.all fun n => fhas c.replies n then claimUndecided s
    else s

/-- A bridge's reply to the claim (R319, R321): the record it holds, whose term this head has now seen (R320). A record that names this
head without being this claim counts for neither side. -/
def witnessReply (slot term side : Nat) (accepted : Bool) (s : State) : State :=
  match s.pair.claim with
  | none => s
  | some c =>
    if !c.asked.contains slot ∨ fhas c.replies slot ∨ (accepted ∧ term ≠ c.term) then s
    else
      let v := if accepted then mySide s else if side = mySide s then 2 else side
      { s with pair := { s.pair with
          claim := some { c with replies := fset c.replies slot v }
          term := if strokeLater term s.pair.term then term else s.pair.term } } |> claimDecide

/-- The close of a C window (R317, R318). -/
def windowClose (s : State) : State :=
  if !hasSession s then s
  else
    let n := if s.pair.heard then 0 else min 65535 (rd s Reg.PAIR_HB_MISSED_COUNT + 1)
    let s := { s with pair := { s.pair with heard := false } } |> wr Reg.PAIR_HB_MISSED_COUNT n
    if n ≠ 1000 then s
    else match s.pair.st with
      | .paired =>
        if s.pair.sides = [] then s |> headFenced |> sessionEnd
        else if (match s.pair.peer with | some p => p.owned == [] | none => false) = true then s |> sessionEnd |> pairTo .solo |> ftLog
        else s |> arm false |> claimDecide
      | .returning => s |> headFenced |> sessionEnd
      | .joining =>
        if s.pair.sides = [] then s |> headFenced |> sessionEnd
        else s |> sessionEnd |> pairTo .alone |> fun s =>
          { s with pair := { s.pair with joinFrom := some s.stk.ext, helloSeen := false, sides := [], peer := none } }
      | .solo => { sessionEnd s with pair := { (sessionEnd s).pair with peer := none, failback := none } }
      | _ => s

/-! ### Failback and handover (R326 to R328) -/

/-- Open rows of sides that hold data are sealed early (step 1 of *Failback timeline*, step 6 of *Join steps*). -/
def sidesSeal (sides : List Nat) (s : State) : State :=
  foldS (s.par.groups.filter fun g => sides.contains g.2.side) (fun g s => foldS (g.2.rows.filter fun r => r.2.st == .opened) (fun r s =>
    if rowExts s g.1 r.1 = [] then s else rowClose g.1 r.1 true s) s) s

/-- F reached (step 1). -/
def failbackEdge (s : State) : State :=
  match s.pair.failback with
  | none => s
  | some f =>
    if f.step = 0 ∧ f.f ≤ s.stk.ext then
      { s with pair := { s.pair with failback := some { f with step := 1 } } } |> when (!f.incoming) (sidesSeal f.sides) |> anaChanged
    else s

/-- A survivor whose returning peer's view is current names F, while neither head holds failback (R326, R327). -/
def failbackTry (s : State) : State :=
  let held := s.pair.hold || (match s.pair.peer with | some p => p.hold | none => false)
  if s.pair.st = .solo ∧ 7 ≤ s.pair.step ∧ s.pair.peerCurrent ∧ !held ∧ s.pair.failback.isNone ∧ s.pair.take.isNone then
    let f := s.stk.ext + 100
    { s with pair := { s.pair with failback := some ⟨f, [1 - mySide s], 0, none, false⟩ } } |> pairControl (.failback f false)
  else s

/-- A hold set before F has been reached withdraws F (R327). -/
def failbackHeld (s : State) : State :=
  match s.pair.failback with
  | some f =>
    if f.step = 0 ∧ f.slot.isNone ∧ s.stk.ext < f.f then
      { s with pair := { s.pair with failback := none } } |> pairControl (.failback f.f true)
    else s
  | none => s

/-- Nothing of the sides that move is in flight: commands, rows, groups, acknowledgements (step 2). -/
def drained (s : State) (sides : List Nat) : Bool :=
  !(s.nv.cmds.any fun c => c.2.stage != .waiting && sides.contains c.2.p.side) &&
  s.par.groups.all (fun g => !sides.contains g.2.side || g.2.rows.all fun r => !rowUnsettled r.2 || (rowExts s g.1 r.1 == [] && r.2.st == .opened)) &&
  (seatList s).all fun n => let l := lane9 s n; !(l.unacked.any fun f => loadCls f.load == clsM) && (l.queue.getD 1 []) == []

/-- FAILBACK_FENCE (R326 step 2): the fences of the sides go to the returning head's port, and the ownership entries change. -/
def failbackFence (s : State) : State :=
  match s.pair.failback with
  | none => s
  | some f =>
    if f.step ≠ 1 ∨ f.incoming ∨ !drained s f.sides then s
    else
      let head := 1 - mySide s
      let e := newEpoch s
      let s := { s with pair := { s.pair with term := e, failback := some { f with step := 2 } } }
      let slots := (sideSlots s f.sides).filter fun n => isSet s (Reg.BLD_SLOT_STATUS_ATTESTED n)
      let s := fencesRaise slots head e s
      let moved := s.pair.own.filter fun o => f.sides.contains o.2.home
      let s := foldS moved (fun o s => s |> pairControl (.own (decide (4096 ≤ o.1)) (o.1 % 4096) head (o.2.epoch + 1) (s.stk.ext + 2))
        |> fun s => { s with pair := { s.pair with ownAt := s.pair.ownAt ++ [(o.1, head, (o.2.epoch + 1) % 65536, s.stk.ext + 2)] } }) s
      if slots = [] then pairControl (.fences e) s else s

/-- The bridges of the sides have acknowledged: the returning head is told (step 3). -/
def failbackFenced (epoch : Nat) (s : State) : State :=
  match s.pair.failback with
  | some f => if f.step = 2 ∧ !f.incoming ∧ !fencesOut s then pairControl (.fences epoch) s else s
  | none => s

/-- Anchors that name the map as it stands, at a generation later than any this head holds or has been told (step 3). -/
def anchorsWrite (s : State) : State :=
  let top := s.map.anchors.foldl (fun n a => if genLater a.2.gen n then a.2.gen else n) (rd s (Reg.MAP_CKPT_GEN_GEN 0))
  let top := s.pair.view.foldl (fun n v => if genLater v.2.gen n then v.2.gen else n) top
  let gen := (top + 1) % 16777216
  let roots := (seatList s).map fun n => (n, Config.boathouse n (fgetD s.map.pageSeq n 1))
  let s := foldS (seatList s) (fun n s => (imageWrite n (headOf 6 1) s).2) s
  let s := { s with map := { s.map with images := fset s.map.images gen (imageNow s) } }
  foldS roots (fun r s => s |> anchorWrite r.1 r.2 gen s.stk.ext (rd s (Reg.MAP_DLOG_SEQ r.1)) true |> wr (Reg.MAP_CKPT_GEN_GEN r.1) gen) s

/-- A failback or handover has ended (step 4). -/
def failbackEnds (f : Failback) (s : State) : State :=
  { s with pair := { s.pair with failback := none, returningTo := [], peerCurrent := false } }
    |> pairTo .paired |> pairEvent Reg.PAIR_EVENTS_FAILBACK_DONE 10 |> bump Reg.PAIR_FAILBACKS_COUNT |> anaChanged
    |> (fun s => match f.slot with | some n => mbxComplete n .ok 0 [] s | none => s)

/-- The returning head takes its sides (steps 3 and 4): it applies its overlay, is the fence owner, and writes anchors. -/
def failbackIn (epoch : Nat) (s : State) : State :=
  match s.pair.failback with
  | none => s
  | some f =>
    if !f.incoming then s
    else
      let s := takeReplay f.sides [] s
      let s := foldS (sideSlots s f.sides) (fun n s => s |> wr (Reg.BLD_SLOT_FENCE_EPOCH n) epoch
        |> slotMod n (fun x => { x with anchorEpoch := epoch }) |> ancWrote 0 5
        |> wrB (portReg Reg.OAR_PORT_STATUS_OWNER n) true |> wrB (Reg.BLD_SLOT_STATUS_OWNED n) true |> wr (Reg.BLD_SLOT_INFO_OWNER n) (myPort s + 1)
        |> when (slotAssigned s n) (wr (Reg.BLD_SLOT_STATUS_IN_USE n) 1)) s
      let s := { s with pair := { s.pair with
        sides := (s.pair.sides ++ f.sides.filter fun x => !s.pair.sides.contains x).mergeSort (· ≤ ·)
        term := if strokeLater epoch s.pair.term then epoch else s.pair.term } }
      s |> anchorsWrite |> pairControl .anchors |> failbackEnds f

/-- The survivor hears that the anchors are written (step 4): the sides have moved. -/
def failbackOut (s : State) : State :=
  match s.pair.failback with
  | some f =>
    if f.incoming ∨ f.step ≠ 2 then s
    else { s with pair := { s.pair with sides := s.pair.sides.filter fun x => !f.sides.contains x } } |> failbackEnds f
  | none => s

/-- F named or withdrawn by the peer (R326, R328). -/
def failbackTake (f : Nat) (cancel : Bool) (s : State) : State :=
  if cancel then { s with pair := { s.pair with failback := none } }
  else
    let sides := if s.pair.st = .returning then s.pair.returningTo else match s.pair.peer with | some p => p.owned | none => []
    { s with pair := { s.pair with failback := some ⟨f, sides, 0, none, true⟩ } }

/-! ### Joining (R312 to R315) -/

/-- A join is refused (R312, R478). -/
def joinRefuse (s : State) : State :=
  { s with pair := { s.pair with refusedAt := some s.stk.ext, step := 0, peer := none } } |> pairEvent Reg.PAIR_EVENTS_INCOMPATIBLE 8
    |> when (rd s Reg.PKG_BRINGUP_STEP != 13) (wr Reg.PKG_BRINGUP_FAILED_STEP 11)

/-- The refusals of R312 that HELLO shows. -/
def helloBad (s : State) (h : Hello) : Bool :=
  let v := myVersion s
  h.seats != s.hw.seats || h.side == mySide s || h.major != v.1 || decide (h.minor + 1 < v.2) || decide (v.2 + 1 < h.minor) ||
    decide (readsMedia s < h.media) || decide (h.reads < s.upd.media)

/-- PAIR_HELLO (R312, R314 steps 1 to 3): its stroke stamp is judged as every frame's is (R55). -/
def helloTake (seat : Nat) (h : Hello) (s : State) : State :=
  let s := when (laneUp s seat) (strokeStamp h.stroke) s
  let ready := s.pair.joinFrom.isSome && laneUp s seat && s.pair.step < 3 &&
    (s.pair.st == .alone || s.pair.st == .fenced || s.pair.st == .solo || (s.pair.st == .paired && (match s.pair.peer with | some p => p.owned == [] | none => false)))
  if !ready then s
  else
    let s := if s.pair.st = .paired then s |> sessionEnd |> pairTo .solo |> ftLog else s
    let s := { s with pair := { s.pair with helloSeen := true } } |> wr Reg.PAIR_VERSION_PEER_MINOR h.minor |> wr Reg.PAIR_VERSION_PEER_MAJOR h.major
    if helloBad s h then joinRefuse s
    else { s with pair := { s.pair with
        peer := some ⟨h.seats, h.side, h.media, h.st, h.owned, 0, h.term, false, 0, h.reads, h.minor, h.locked, h.wasReference⟩
        step := 3, claim := none, retryAt := none
        term := if strokeLater h.term s.pair.term then h.term else s.pair.term } }

/-- A stream sends the records of the groups that are not accepted (R126), when a session opens. -/
def journalAll (s : State) : State :=
  foldS s.ing.grps (fun g s => foldS g.2.recs (fun d s => journalAdd (keyHi g.1) d s) s) s

/-- Records packed into frames of at most 16 KiB. -/
def packRecs : List Delta → Nat → List Delta → List (List Delta) → List (List Delta)
  | [], _, cur, out => if cur = [] then out else out ++ [cur]
  | d :: t, n, cur, out =>
    if 16384 < n + deltaBytes d then packRecs t (deltaBytes d) [d] (out ++ [cur]) else packRecs t (n + deltaBytes d) (cur ++ [d]) out

/-- Send records as BULK frames on the stream of seat 0. -/
def bulkSend (recs : List Delta) (s : State) : State :=
  foldS (packRecs recs 0 [] []) (fun l s => pairEnqueue 0 clsS (.bulk l []) ((l.map deltaBytes).sum) s) s

/-- What a standby view still holds of the peer's sides goes back to it at the join (R166), with the extents whose rows are not known
programmed. -/
def viewBack (s : State) : List Delta :=
  (s.pair.view.map fun v => v.2.overlay.map fun x =>
    { x.2 with ext := x.2.record.bind fun r => fget v.2.exts r.extent }).flatten

/-- PAIR_EXCHANGE (R301, R314 step 3; R312, R379): attestation and the key exchange have ended. -/
def exchangeTake (ok sameOwner : Bool) (s : State) : State :=
  if s.pair.step ≠ 3 then s
  else if !ok then s |> keyEvent Reg.KEY_EVENTS_AUTH_FAIL 5 |> joinRefuse
  else if !sameOwner then joinRefuse s
  else
    let peer := s.pair.peer
    let back := viewBack s
    let s := sessionEnd s
    let s := { s with pair := { s.pair with step := 4, peer := peer, view := [], heard := true } }
    let s := foldS (seatList s) (fun n s => s |> wr (Reg.PAIR_LANE_KEY_KEY_ID n) 1 |> laneMod n fun l => { l with rxKey := 1 }) s
    s |> when (s.pair.st != .solo) (pairTo .joining) |> bulkSend back |> journalAll

/-- The floor that a taken stroke must reach (R54). -/
def joinFloor (s : State) : Nat := match newestFloor s with | some f => f.2.value | none => 0

/-- Whether this head, joining, is the stroke reference (Pair agreement): the head with more locked inputs; with equally many the head in
service, else the reference at the previous join, else side 0 (log entry 63). -/
def isReference (s : State) (peerServes : Bool) : Bool :=
  let p := match s.pair.peer with | some p => (p.locked, p.wasReference) | none => (0, false)
  if lockedInputs s ≠ p.1 then decide (p.1 < lockedInputs s)
  else if s.pair.st = .solo then true
  else if peerServes then false
  else if s.stk.wasReference ≠ p.2 then s.stk.wasReference
  else mySide s == 0

/-- Every blade of a side's pools that is attested names this head (R313, R472). -/
def fenceMine (s : State) (side : Nat) : Bool :=
  (sideSlots s [side]).all fun n => !isSet s (Reg.BLD_SLOT_STATUS_ATTESTED n) || isSet s (portReg Reg.OAR_PORT_STATUS_OWNER n)

/-- Step 5 of *Join steps* (R313): the sides each head serves. -/
def sidesDecide (peerServes : Bool) (s : State) : State :=
  if s.pair.st = .solo then s
  else
    let sides := if peerServes then [] else s.pair.recovered.filter (fenceMine s)
    let s := { s with pair := { s.pair with sides := sides, recovered := s.pair.recovered.filter sides.contains } }
    if sides = [] then { s with pair := { s.pair with returningTo := [mySide s] } } |> pairTo .returning
    else s

/-- Extents of sides accepted here whose rows are not programmed, as journal records (step 6). -/
def heldRecords (s : State) (sides : List Nat) : List Delta :=
  s.par.exts.foldl (fun (l : List Delta) e =>
    let row := rowOf s e.2.pool e.2.row
    let mine := match groupOf s e.2.pool with | some g => sides.contains g.side | none => false
    if mine && (match row with | some r => rowUnsettled r | none => false) && extLive s e.1 e.2 then
      let r := fget s.map.recs (recKey e.2.tenant e.2.handle)
      l ++ [{ delta .extent e.2.nsid e.2.lba 0 (entAt s e.2.nsid e.2.lba).replay with last := true, record := r, ext := some e.2 }]
    else l) []

/-- Step 6 of *Join steps*: owning heads seal, send as BULK what is not on flash and the tables, and take a checkpoint. -/
def joinOwner (s : State) : State :=
  let s := bulkSend (heldRecords s s.pair.sides) s
  let s := { s with pair := { s.pair with joinGen := rd s (Reg.MAP_CKPT_GEN_GEN 0) } }
  if s.pair.sides = [] then s
  else s |> pairEnqueue 0 clsS (.bulk [] (tableObjs s)) (min 16384 (64 * (tableObjs s).length)) |> ownsTell |> sidesSeal s.pair.sides |> ckptStart

/-- The follower of two heads that are not in service steps its phase to the reference's (R54): its tick becomes the peer's, and no phase error
is left. -/
def phaseStep (b : Beat) (s : State) : State :=
  { s with stk := { s.stk with steer := 0, peerLead := 0 } } |> setTicks (b.sendTick + b.flight) |> wr Reg.STK_PEER_OFFSET_TICKS 0
    |> wr Reg.STK_PEER_OFFSET_STROKES 0 |> wr Reg.STK_STATUS_PAIR_RESYNC 0

/-- Steps 4 to 6 of *Join steps*, on a heartbeat of the open session (R54, R313): the extended stroke is agreed; a joining head waits while
the serving head's stroke is below its floor. -/
def joinAgree (b : Beat) (s : State) : State :=
  let serves := b.st == .solo || b.st == .paired
  if s.pair.step ≠ 4 then s
  else if serves ∧ s.pair.st ≠ .solo ∧ b.ext < joinFloor s then s
  else
    let ref := isReference s serves
    let ext := if s.pair.st = .solo then s.stk.ext else if serves then b.ext else max s.stk.ext b.ext
    { s with stk := { s.stk with ext := ext, wasReference := ref }, pair := { s.pair with step := 6 } }
      |> when (!ref && !serves && s.pair.st != .solo) (phaseStep b) |> wrB Reg.STK_STATUS_REFERENCE ref |> sidesDecide serves |> joinOwner

/-- BULK frames or a notice of the join are still to be sent or acknowledged. -/
def joinFramesOut (s : State) : Bool :=
  (seatList s).any fun n =>
    let l := lane9 s n
    let hit := fun (x : PairLoad) => match x with | .bulk .. => true | .control (.notice ..) => true | _ => false
    (l.unacked.any fun f => hit f.load) || l.queue.any fun q => q.any fun x => hit x.1

/-- Step 7 of *Join steps*: notices and BULK are acknowledged. -/
def joinDone (s : State) : State :=
  match s.pair.peer with
  | none => s
  | some p =>
    let own := s.pair.sides != []
    let ckpt := !own || (s.map.ckpt.isNone && rd s (Reg.MAP_CKPT_GEN_GEN 0) != s.pair.joinGen)
    if s.pair.step ≠ 6 ∨ joinFramesOut s ∨ !ckpt ∨ (p.owned ≠ [] ∧ !s.pair.noticed) ∨ p.st = .joining ∧ p.owned = [] then s
    else
      let s := { s with pair := { s.pair with step := 7 } }
      if !own then pairControl .viewCurrent s
      else if p.st = .returning then pairTo .solo s
      else pairTo .paired s

/-- The offset that a heartbeat shows (R56): by its send tick and the time it took, the peer's edge against this head's nearest, and the peer's
count against this head's. Resynchronisation ends when the difference is 0 strokes and at most 2 ticks (R55). -/
def offsetTake (b : Beat) (s : State) : State :=
  let off : Int := (s.stk.tick : Int) - (b.sendTick + b.flight : Nat)
  let strokes : Int := (b.ext : Int) - (s.stk.ext : Int)
  let lead := strokes * (rd s Reg.STK_PERIOD_TICKS : Nat) - off
  { s with stk := { s.stk with peerLead := lead, peerSteered := b.steered } }
    |> wr Reg.STK_PEER_OFFSET_TICKS (twos 16 (phaseNorm s off)) |> wr Reg.STK_PEER_OFFSET_STROKES (twos 16 (max (-32768) (min 32767 strokes)))
    |> when (isSet s Reg.STK_STATUS_PAIR_RESYNC && strokes == 0 && decide (off.natAbs ≤ 2)) (wr Reg.STK_STATUS_PAIR_RESYNC 0)

/-- A heartbeat has arrived (R316 to R318, R321, R55, R56). -/
def heartbeatTake (b : Beat) (s : State) : State :=
  let armed := s.pair.st == .armed
  let s := { s with pair := { s.pair with
      heard := true, lastHeard := s.stk.ext
      term := if strokeLater b.term s.pair.term then b.term else s.pair.term
      peer := s.pair.peer.map fun p => { p with st := b.st, owned := b.owned, gen := b.gen, term := b.term, hold := b.hold, epochSum := b.epochSum } } }
    |> strokeStamp (b.ext % 4294967296) |> offsetTake b
  let s := when b.hold failbackHeld s
  let back : Bool := match s.pair.backAt with | some t => decide (s.stk.ext ≤ t + 1) | none => false
  let s := if armed ∧ b.st ≠ .solo ∧ b.st ≠ .fenced ∧ (b.st ≠ .armed ∨ s.pair.byHearing = false) then
      { s with pair := { s.pair with claim := none, undecided := 0, retryAt := none, backAt := some s.stk.ext } } |> wr Reg.PAIR_HB_MISSED_COUNT 0 |> pairTo .paired |> anaChanged
    else if s.pair.st = .paired ∧ b.st = .armed ∧ s.pair.sides ≠ [] ∧ back = false then s |> arm true |> claimDecide
    else s
  s |> joinAgree b |> joinDone

end Sys2Proof.Machine
end

