-- ==== Sys2Proof/Machine/Rating.lean ====
section
/-!
DEFINITION. Machine/Rating.lean: the commands of the Rating engine (R347 to R351).
-/

namespace Sys2Proof.Machine

/-- RATE_COMPUTE (R347): from tick `start`, at most 200, the engine computes the enabled loops in ascending index for as many core
cycles as `cycles`, at most those left until the next edge at 15 a tick; the loops that do not fit are missed. A disabled engine and
a frozen loop set compute nothing (R349, R351). -/
def execRateCompute (seat start cycles : Nat) (s : State) : Host.Outcome State Fault Refusal :=
  go (
    let r := rateSeat s seat
    let p := rd s Reg.STK_PERIOD_TICKS
    if r.computed ∨ 200 < start ∨ p ≤ start ∨ !isSet s (Reg.RATE_CTRL_ENABLE seat) ∨ isSet s (Reg.RATE_STATUS_FROZEN seat) = true then s
    else
      let x := computeLoops (min cycles ((p - start) * 15)) (enabledLoops r) r 0
      let used := x.2.1
      s |> setRate seat { x.1 with computed := true, lastEnd := if used = 0 then 0 else start + ceilDiv used 15, firstMiss := x.2.2.head? }
        |> bumpN (Reg.RATE_MISSES_COUNT seat) x.2.2.length)

/-- The seats a rating command names. -/
def seatsNamed (s : State) : Option Nat → List Nat
  | some n => [n]
  | none => seatList s

/-- A seat parameter that names no seat of the package. -/
def seatBad (s : State) : Option Nat → Bool
  | some n => decide (s.hw.seats ≤ n)
  | none => false

/-- The settings of a loop as the boathouse holds them (R349). -/
def savedCfg (r : RateSeat) (i : Nat) : LoopCfg := fgetD r.saved i (fgetD r.loops i loopReset).cfg

/-- RATE_SETPOINT_SET (R342, R349): written to the boathouse, in force from the next stroke edge. DETAIL names the parameter. -/
def execRateSetpointSet (slot : Nat) (seat : Option Nat) (loop sp slope : Nat) (s : State) : Host.Outcome State Fault Refusal :=
  go (mbxRun slot Opc.rateSetpointSet (fun s =>
    if seatBad s seat then refuse .invalidParam 1 s
    else if 4096 ≤ loop then refuse .invalidParam 2 s
    else if 262143 < sp then refuse .invalidParam 3 s
    else if 1048575 < slope then refuse .invalidParam 4 s
    else okWith [] (foldS (seatsNamed s seat) (fun n s =>
      let r := rateSeat s n
      setRate n { r with setNext := r.setNext ++ [(loop, sp, slope)]
                         saved := fset r.saved loop { savedCfg r loop with sp := sp, slope := slope } } s) s)) s)

/-- RATE_OPEN_SET (R343, R349): for a disabled loop. -/
def execRateOpenSet (slot : Nat) (seat : Option Nat) (loop rate : Nat) (s : State) : Host.Outcome State Fault Refusal :=
  go (mbxRun slot Opc.rateOpenSet (fun s =>
    if seatBad s seat then refuse .invalidParam 1 s
    else if 4096 ≤ loop then refuse .invalidParam 2 s
    else if 4095 < rate then refuse .invalidParam 3 s
    else if (seatsNamed s seat).any fun n => (loopOf s n loop).cfg.enable then refuse .wrongState 0 s
    else okWith [] (foldS (seatsNamed s seat) (fun n s =>
      let r := rateSeat s n
      setRate n { r with openNext := r.openNext ++ [(loop, rate)]
                         saved := fset r.saved loop { savedCfg r loop with openRate := rate } } s) s)) s)

/-- RATE_LOOPS_STAGE (R349, R426): entries from host memory are added to the staged table of an easy-all of the seat's loop set, once
the set is quiesced; a later entry of an index replaces an earlier one. -/
def execRateLoopsStage (slot seat : Nat) (entries : List (Nat × LoopCfg)) (s : State) : Host.Outcome State Fault Refusal :=
  go (if readsOut s slot then s else
    match fget s.mbx.easy (easyKey ⟨.loopSet, seat⟩) with
    | none => mbxRun slot Opc.rateLoopsStage (refuse .wrongState 0) s
    | some e =>
      if e.slot.isSome then s
      else mbxRun slot Opc.rateLoopsStage (fun s =>
        if e.commit.isSome then refuse .busy 0 s
        else if entries.any fun x => decide (4096 ≤ x.1) then refuse .invalidParam 2 s
        else
          let r := rateSeat s seat
          okWith [] (setRate seat { r with staged := foldS entries (fun x t => fset t x.1 x.2) r.staged } s)) s)

/-- Words of a loop's entry and flags as RATE_TABLE_GET copies them. -/
def loopWords (i : Nat) (l : Loop) : List Nat :=
  [i, b2n l.cfg.enable + 2 * l.cfg.target + 8 * (l.cfg.coefs.length - 1) + 32 * b2n l.cfg.write + 64 * b2n (unlimited l) + 256 * l.cfg.input,
    l.cfg.quant, l.cfg.decay, l.cfg.minCount, l.cfg.sp, l.cfg.slope, l.cfg.min, l.cfg.max, l.cfg.openRate, l.cfg.nominal, l.cfg.depth,
    b2n l.accSat + 2 * b2n l.outSat + 4 * b2n l.missed] ++ (l.cfg.coefs.map fun c => c.map (twos 20)).flatten

/-- RATE_TABLE_GET: the entries that are not at their reset value, in ascending index. -/
def execRateTableGet (slot seat : Nat) (s : State) : Host.Outcome State Fault Refusal :=
  go (mbxRun slot Opc.rateTableGet (fun s =>
    if s.hw.seats ≤ seat then refuse .invalidParam 1 s
    else needsHost (fun s => okWith [] (toHost slot ((rateSeat s seat).loops.map fun e => loopWords e.1 e.2).flatten s)) s) s)

/-- RATE_LOOP_SELECT (R351): the live window shows the loop from then on. -/
def execRateLoopSelect (seat value : Nat) (s : State) : Host.Outcome State Fault Refusal :=
  go (wr (Reg.RATE_LOOP_SELECT_INDEX seat) value s)

/-- A write to RATE_LOOP_FLAGS clears the loop's own flags; a read of RATE_LOOP_MISSES clears its own counter (R351). -/
def loopFlagsClear (seat mask : Nat) (s : State) : State :=
  loopMod seat (rd s (Reg.RATE_LOOP_SELECT_INDEX seat)) (fun l => { l with
    accSat := l.accSat && !bitOf mask 0, outSat := l.outSat && !bitOf mask 1, missed := l.missed && !bitOf mask 2 }) s

/-- Events of the selected loop set its flags again (R11, R351). -/
def loopFlagsSet (seat mask : Nat) (s : State) : State :=
  loopMod seat (rd s (Reg.RATE_LOOP_SELECT_INDEX seat)) (fun l => { l with
    accSat := l.accSat || bitOf mask 0, outSat := l.outSat || bitOf mask 1, missed := l.missed || bitOf mask 2 }) s

/-- A read of RATE_LOOP_MISSES clears the selected loop's counter (R351). -/
def loopMissesClear (seat : Nat) (s : State) : State :=
  loopMod seat (rd s (Reg.RATE_LOOP_SELECT_INDEX seat)) (fun l => { l with misses := 0 }) s

end Sys2Proof.Machine
end

