-- ==== Sys2Proof/Machine/Snapshots.lean ====
section
/-!
DEFINITION. Machine/Snapshots.lean: consistency groups and the snapshot commands (R352 to R364).
-/

namespace Sys2Proof.Machine

/-! ### Consistency groups (R352) -/

/-- Snapshots of a group that have been neither deleted nor cancelled. -/
def groupSnaps (s : State) (cg : Nat) : FMap Snap := fkeep s.snp.snaps fun _ x => x.cg == cg && !x.deleted

/-- Links of a group. -/
def groupLinks (s : State) (cg : Nat) : FMap Link := fkeep s.snp.links fun _ l => l.p.cg == cg

/-- A namespace may be a member: of the tenant, not zoned, in no group. -/
def memberOk (s : State) (tenant nsid : Nat) : Bool :=
  match nsOf s nsid with
  | some n => n.cur.p.tenant == tenant && !n.cur.p.zoned && n.cg.isNone
  | none => false

/-- Store a group, the groups its namespaces name, and tell the peer. -/
def groupStore (cg tenant : Nat) (members : List Nat) (s : State) : State :=
  s |> objectTake (.cg cg tenant members) |> objectTell (.cg cg tenant members)

/-- CG_CREATE (R352). DETAIL names the parameter refused: 1 the group, 2 the tenant, 3 the members. -/
def execCgCreate (slot cg tenant : Nat) (members : List Nat) (s : State) : Host.Outcome State Fault Refusal :=
  go (mbxRun slot Opc.cgCreate (fun s =>
    if 4096 ≤ cg ∨ fhas s.snp.cgs cg = true then refuse .invalidParam 1 s
    else if !fhas s.nv.tenants tenant then refuse .invalidParam 2 s
    else if members = [] ∨ 256 < members.length ∨ members.eraseDups ≠ members ∨ !members.all (memberOk s tenant) then refuse .invalidParam 3 s
    else okWith [] (groupStore cg tenant members s)) s)

/-- CG_MEMBER_SET (R352): BUSY while a snapshot of the group is pending or an epoch of it is in transfer. -/
def execCgMemberSet (slot cg nsid : Nat) (add : Bool) (s : State) : Host.Outcome State Fault Refusal :=
  go (mbxRun slot Opc.cgMemberSet (fun s =>
    match fget s.snp.cgs cg with
    | none => refuse .invalidParam 1 s
    | some c =>
      let bad := if add then !memberOk s c.tenant nsid || decide (256 ≤ c.members.length) else !c.members.contains nsid || c.members == [nsid]
      if bad then refuse .invalidParam 2 s
      else if (groupSnaps s cg).any (fun x => !x.2.taken) || (groupLinks s cg).any (fun l => l.2.cur.isSome) then refuse .busy 0 s
      else okWith [] (groupStore cg c.tenant (if add then c.members ++ [nsid] else c.members.filter (· != nsid)) s)) s)

/-- CG_DELETE: BUSY while the group has snapshots or a link. -/
def execCgDelete (slot cg : Nat) (s : State) : Host.Outcome State Fault Refusal :=
  go (mbxRun slot Opc.cgDelete (fun s =>
    if !fhas s.snp.cgs cg then refuse .invalidParam 1 s
    else if groupSnaps s cg ≠ [] ∨ groupLinks s cg ≠ [] then refuse .busy 0 s
    else okWith [] (s |> objectTake (.cgGone cg) |> objectTell (.cgGone cg))) s)

/-! ### Registration (R354) -/

/-- Namespace images held or pending: one per member of every snapshot. -/
def imageCount (s : State) : Nat := (s.snp.snaps.filter fun e => !e.2.deleted).foldl (fun n e => n + e.2.members.length) 0

/-- The first status of R354 that applies to a registration of a group at extended stroke `t`. -/
def snapCheck (s : State) (cg t : Nat) : Sts :=
  match fget s.snp.cgs cg with
  | none => .invalidParam
  | some c =>
    let pend := (groupSnaps s cg).filter fun x => !x.2.taken
    if t < s.stk.ext + 20 ∨ s.stk.ext + 2147483648 < t ∨ pend.any (fun x => x.2.s == t) then .invalidParam
    else if 16 ≤ pend.length ∨ 1048576 < imageCount s + c.members.length then .noResource
    else if s.pair.st = .alone ∨ s.pair.st = .joining ∨ s.pair.st = .armed ∨ s.pair.st = .fenced then .wrongState
    else .ok

/-- Register a snapshot: in the paired state it is sent to the peer and confirmed by its acknowledgement. The answer is its identifier. -/
def snapRegister (cg t : Nat) (slot : Option Nat) (s : State) : Nat × State :=
  let id := (2 * s.snp.nextSnap + mySide s) % 4294967296
  let c := fgetD s.snp.cgs cg ⟨0, []⟩
  let paired := s.pair.st == .paired
  let x := { snapNew cg c.tenant t c.members with confirmed := !paired, asked := s.stk.ext, slot := if paired then slot else none }
  (id, { s with snp := { s.snp with snaps := fset s.snp.snaps id x, nextSnap := s.snp.nextSnap + 1 } }
    |> when paired (pairControl (.snap id cg t false)))

/-- SNAP_CREATE (R354). -/
def execSnapCreate (slot cg t : Nat) (s : State) : Host.Outcome State Fault Refusal :=
  go (mbxBegin slot Opc.snapCreate (fun s =>
    match snapCheck s cg t with
    | .ok =>
      let r := snapRegister cg t (some slot) s
      if s.pair.st = .paired then (none, r.2) else (some (.ok, 0, [r.1]), r.2)
    | st => (some (st, if st = .invalidParam then (if fhas s.snp.cgs cg then 2 else 1) else 0, []), s)) s)

/-- The peer has acknowledged a registration: both heads hold it. -/
def snapConfirm (id : Nat) (s : State) : State :=
  match fget s.snp.snaps id with
  | none => s
  | some x =>
    if x.confirmed then s
    else
      let s := snapMod id (fun x => { x with confirmed := true, slot := none }) s
      match x.slot with
      | some n => mbxComplete n .ok 0 [id] s
      | none => s

/-- A link whose epoch was to use a snapshot that was never registered has no epoch in transfer. -/
def epochCancel (id : Nat) (s : State) : State :=
  { s with snp := { s.snp with links := fmapV s.snp.links fun _ l => if l.snap = some id then { l with snap := none, cur := none } else l } }

/-- Registrations that the peer has not acknowledged within 10 strokes are registered on neither head (R354). -/
def snapsWait (s : State) : State :=
  foldS (s.snp.snaps.filter fun e => !e.2.confirmed && decide (e.2.asked + 10 ≤ s.stk.ext)) (fun e s =>
    let s := { s with snp := { s.snp with snaps := fdel s.snp.snaps e.1 } } |> pairControl (.snap e.1 e.2.cg e.2.s true) |> epochCancel e.1
    match e.2.slot with
    | some n => mbxComplete n .peerUnreachable 0 [] s
    | none => s) s

/-- A registration or its removal from the peer (R354, R362). -/
def snapTold (id cg t : Nat) (remove : Bool) (s : State) : State :=
  if remove then (match fget s.snp.snaps id with
    | some x => if x.taken then s else { s with snp := { s.snp with snaps := fdel s.snp.snaps id } }
    | none => s)
  else objectTake (.snap id cg t (match fget s.snp.cgs cg with | some c => c.members | none => [])) s

/-! ### Deletion, clones and space (R362 to R364) -/

/-- A snapshot that is listed. -/
def snapOf (s : State) (id : Nat) : Option Snap :=
  match fget s.snp.snaps id with
  | some x => if x.deleted then none else some x
  | none => none

/-- A link needs a snapshot: as its base, or for the epoch in transfer. -/
def snapNeeded (s : State) (id : Nat) : Bool := s.snp.links.any fun l => l.2.base == some id || l.2.snap == some id

/-- SNAP_DELETE (R358, R362): a registration that still awaits the peer is left to its own end first (R412). -/
def execSnapDelete (slot snap : Nat) (s : State) : Host.Outcome State Fault Refusal :=
  go (match snapOf s snap with
    | none => mbxRun slot Opc.snapDelete (refuse .invalidParam 1) s
    | some x =>
      if !x.confirmed then s
      else mbxRun slot Opc.snapDelete (fun s =>
        if snapNeeded s snap then refuse .busy 0 s
        else if x.taken then okWith [] (s |> snapDrop snap |> objectTell (.snapGone snap))
        else okWith [] (s |> snapDrop snap |> pairControl (.snap snap x.cg x.s true))) s)

/-- SNAP_LIST: identifier, S, state, SKEWED and LATE of each snapshot of a group, to host memory. -/
def execSnapList (slot cg : Nat) (s : State) : Host.Outcome State Fault Refusal :=
  go (mbxRun slot Opc.snapList (fun s =>
    if !fhas s.snp.cgs cg then refuse .invalidParam 1 s
    else needsHost (fun s => okWith [] (toHost slot
      ((groupSnaps s cg).map fun e => [e.1, e.2.s, b2n e.2.taken, b2n e.2.skewed, b2n e.2.late]).flatten s)) s) s)

/-- SNAP_CLONE (R363): a writable namespace of the snapshot's tenant and home side with a copy of the member's directory. -/
def execSnapClone (slot snap member nsid : Nat) (s : State) : Host.Outcome State Fault Refusal :=
  go (mbxRun slot Opc.snapClone (fun s =>
    match snapOf s snap with
    | none => refuse .invalidParam 1 s
    | some x =>
      if !x.taken then refuse .wrongState 0 s
      else if x.members.length ≤ member then refuse .invalidParam 2 s
      else if nsid = 0 ∨ 4294967295 ≤ nsid ∨ (nsOf s nsid).isSome ∨ fhas s.map.releasing nsid = true then refuse .invalidParam 3 s
      else match fget x.params member with
        | none => refuse .notOwner 0 s
        | some p =>
          if loopTaken s p.loop then refuse .invalidParam 1 s
          else if !ownsSide s p.side then refuse .notOwner 0 s
          else okWith [] (s |> setNs nsid ⟨⟨0, p, .opened, 0⟩, none, s.stk.ext, none, false⟩
            |> dirsShare (x.owners.getD member 0) nsid |> objectTell (.ns nsid p))) s)

/-- Pages that only this snapshot's directories name. -/
def exclusivePages (s : State) (x : Snap) : List Nat :=
  let mine := fun k => x.owners.contains (dirOwner k) && dirOwner k != 0
  (((s.map.dirs.filter fun d => mine d.1).map fun d => d.2.page).eraseDups).filter fun p => s.map.dirs.all fun d => d.2.page != p || mine d.1

/-- SNAP_INFO (R364): state, SKEWED, LATE and exclusive pages: pages whose share count is 1 and which only this snapshot names. -/
def execSnapInfo (slot snap : Nat) (s : State) : Host.Outcome State Fault Refusal :=
  go (mbxRun slot Opc.snapInfo (fun s =>
    match snapOf s snap with
    | none => refuse .invalidParam 1 s
    | some x => okWith [b2n x.taken, b2n x.skewed, b2n x.late, ((exclusivePages s x).filter fun p => shareCount s p == 1).length] s) s)

/-- References that the deletion of a snapshot would give up, by record (R362). -/
def exclusiveRefs (s : State) (x : Snap) : FMap Nat :=
  foldS (exclusivePages s x) (fun p m =>
    foldS (fgetD s.map.pages p []) (fun e m =>
      if entSt e.2 = .mapped ∧ !e.2.pinned then fset m (recKey x.tenant e.2.handle) (fgetD m (recKey x.tenant e.2.handle) 0 + 1) else m) m) []

/-- SNAP_SPACE (R364): the stored bytes of every record whose REFS would reach 0. The sweep ends within the command, so nothing else runs
during it and the sum is exact: the flag word is 0 (log entry 64). -/
def execSnapSpace (slot snap : Nat) (s : State) : Host.Outcome State Fault Refusal :=
  go (mbxRun slot Opc.snapSpace (fun s =>
    match snapOf s snap with
    | none => refuse .invalidParam 1 s
    | some x =>
      if !x.taken then refuse .wrongState 0 s
      else okWith [(exclusiveRefs s x).foldl (fun n e => match fget s.map.recs e.1 with
        | some r => if r.refs = e.2 ∧ r.refs ≠ refsMax then n + 16 * r.length else n
        | none => n) 0, 0] s) s)

end Sys2Proof.Machine
end

