-- ==== Sys2Proof/Machine/Replication.lean ====
section
/-!
DEFINITION. Machine/Replication.lean: replication links: their sessions, epochs, batches and ends (R365 to R373).
-/

namespace Sys2Proof.Machine

/-! ### Links and parts -/

/-- A link. -/
def linkOf (s : State) (n : Nat) : Option Link := fget s.snp.links n

/-- Change a link. -/
def linkMod (n : Nat) (f : Link → Link) (s : State) : State := { s with snp := { s.snp with links := fmod s.snp.links n f } }

/-- A part before it has connected. -/
def partReset : Part := ⟨none, 0, false, false, 0, 0, none, false, false, 0, 0, false, [], false, 0, [], [], [], [], none⟩

/-- A part of a link. -/
def partOf (l : Link) (k : Nat) : Part := fgetD l.parts k partReset

/-- Change a part. -/
def partMod (n k : Nat) (f : Part → Part) (s : State) : State := linkMod n (fun l => { l with parts := fset l.parts k (f (partOf l k)) }) s

/-- Parts that this head runs for a source link: the sides it owns that have members (R366). -/
def partsRun (s : State) (l : Link) : List Nat :=
  [0, 1].filter fun d => ownsSide s d && (linkMembers s l.p).any fun n => nsSide s n == some d

/-- Types of *Replication messages*; 13 is a chain of RDMA WRITEs. -/
def replHelloT : Nat := 1
/-- KEX. -/
def replKexT : Nat := 2
/-- OPEN. -/
def replOpenT : Nat := 3
/-- OFFER. -/
def replOfferT : Nat := 4
/-- WANT. -/
def replWantT : Nat := 5
/-- READY. -/
def replReadyT : Nat := 6
/-- BATCH_END. -/
def replEndT : Nat := 7
/-- BATCH_ACK. -/
def replAckT : Nat := 8
/-- BATCH_NAK. -/
def replNakT : Nat := 9
/-- DONE. -/
def replDoneT : Nat := 10
/-- COMMIT. -/
def replCommitT : Nat := 11
/-- ABORT. -/
def replAbortT : Nat := 12
/-- The armed chain of RDMA WRITEs (R368). -/
def replWriteT : Nat := 13

/-- The part's queue pair is ready. -/
def partUp (s : State) (p : Part) : Bool :=
  match p.qp with
  | some (seat, q) => (match qpOf s seat q with | some x => x.st == .ready | none => false)
  | none => false

/-- Send a message of a part: a 32-byte header, its payload and a 16-byte tag (R366). -/
def replSend (n k typ len : Nat) (words : List Nat) (s : State) : State :=
  match linkOf s n with
  | none => s
  | some l =>
    match partUp s (partOf l k), (partOf l k).qp with
    | true, some (seat, q) => s |> linkMod n (fun l => { l with bytes := l.bytes + 48 + len }) |> qpSend seat q (48 + len) .repl (n :: k :: typ :: words)
    | _, _ => s

/-- An authentic message of a part has arrived (R373). -/
def partHeard (n k : Nat) (s : State) : State := partMod n k (fun p => { p with heard := s.stk.ext }) s

/-- Close a part's queue pair: its session and what was in flight on it are gone (R373). -/
def partClose (n k : Nat) (s : State) : State :=
  match linkOf s n with
  | none => s
  | some l =>
    let p := partOf l k
    let s := match p.qp with
      | some (seat, q) => (match qpOf s seat q with
        | some x => if x.st = .connecting then freeQp seat q s else qpDisconnect seat q s
        | none => s)
      | none => s
    partMod n k (fun p => { p with qp := none, keyed := false, offering := false, armed := false, wanted := [], opened := false,
                                   offered := [], held := [], received := [] }) s

/-- The protection domain of a link's queue pairs, which holds nothing else (R366): after domain 0, one for each link (log entry 77). -/
def linkPd (n : Nat) : Nat := n + 1

/-- The source asks for a part's connection, on the sub-port host software named, at one of the partner's addresses (R366, R372). -/
def partConnect (n k : Nat) (s : State) : State :=
  match linkOf s n with
  | none => s
  | some l =>
    let seat := l.p.subport / 4
    let p := partOf l k
    let src := l.p.addrs.getD (p.addr % max 1 l.p.addrs.length) 0
    match qpFree s seat with
    | none => s
    | some q => s |> setQp seat q (qpNew s seat src (l.p.subport % 4) 4096 (linkPd n) true)
        |> partMod n k (fun p => { p with qp := some (seat, q), addr := p.addr + 1 }) |> cmSend seat (l.p.subport % 4) [seat, src, 4, q]

/-- A link fails (R365, R370): both ends show FAILED; a target discards the receiving image. -/
def linkFail (n : Nat) (s : State) : State :=
  match linkOf s n with
  | none => s
  | some l =>
    if l.failed then s
    else
      let s := foldS l.parts (fun e s => partClose n e.1 s) s
      s |> when l.p.target (imageDrop n l) |> linkMod n (fun l => { l with failed := true, cur := none })
        |> snpEvent Reg.SNP_EVENTS_LINK_FAILED 5

/-- A batch or a READY is refused (R368, R370). -/
def replRefused (n : Nat) (s : State) : State :=
  s |> linkMod n (fun l => { l with refused := l.refused + 1 }) |> snpEvent Reg.SNP_EVENTS_REFUSED 6

/-- State of a link as SNP_LINK_STATE shows it. -/
def replLinkState (s : State) (l : Link) : Nat :=
  if l.failed then 6
  else if l.parts.any fun p => p.2.waiting then 4
  else if (l.pauseAsked || !isSet s Reg.SNP_CTRL_REPL_EN) && !l.parts.any (fun p => p.2.offering) then 5
  else if l.cur.isSome then 3
  else if l.parts != [] && l.parts.all (fun p => p.2.keyed) then 2
  else 1

/-- Current extended stroke minus S of the base, saturating (SNP_LINK_LAG). -/
def linkLag (s : State) (l : Link) : Nat :=
  min 4294967295 (match l.base.bind fun i => fget s.snp.snaps i with | some x => s.stk.ext - x.s | none => 0)

/-- Tell the peer of a link as it stands. -/
def linkTell (n : Nat) (s : State) : State :=
  match linkOf s n with
  | some l => objectTell (linkObj n l) s
  | none => s

/-! ### The source: epochs (R367, R371, R372) -/

/-- A directory page's entries under an owner; none where the owner names no page. -/
def ownerPage (s : State) (owner idx : Nat) : Option Nat := (fget s.map.dirs (dirKey owner idx)).map (·.page)

/-- What an entry becomes in a delta (R367): 0 DATA, 1 ZERO, 2 UNMAPPED. -/
def deltaKind (e : MapEnt) : Nat := match entSt e with | .mapped => 0 | .zero => 1 | _ => 2

/-- The fingerprint of a record in the fingerprint log (R111). -/
def fpOfRec (s : State) (tenant handle : Nat) : Option Nat :=
  (s.ing.fpLog.find? fun x => x.2.2.1 == handle && x.2.2.2 == tenant).map fun x => x.2.1

/-- The fingerprint of a mapped entry of a member (R108, R367): from the fingerprint log when the record is there; else its extent is opened
under the member's tenant. -/
def entFp (s : State) (p : NsParams) (e : MapEnt) : Nat :=
  match fpOfRec s p.tenant e.handle with
  | some fp => fp
  | none => (match (recOf s p.tenant e.handle).bind fun r => fget s.par.exts r.extent with
    | some x => Config.fingerprint (match domainOf s p.domain with | some d => d.fk | none => 0) x.data x.stored.user x.stored.app x.stored.ref
    | none => 0)

/-- Delta of one member between two directories, in ascending LBA order; pages that both name are skipped. -/
def memberDelta (s : State) (i : Nat) (p : NsParams) (base new : Nat) : List DeltaEnt :=
  let idxs := ((dirsOf s base ++ dirsOf s new).map fun e => dirIdx e.1).eraseDups.mergeSort (· ≤ ·)
  (idxs.map fun x =>
    if ownerPage s base x = ownerPage s new x then []
    else
      let ents := fun o => match ownerPage s o x with | some g => fgetD s.map.pages g [] | none => []
      let lbas := ((ents base ++ ents new).map (·.1)).eraseDups.mergeSort (· ≤ ·)
      (lbas.filter fun y =>
        let a := fgetD (ents base) y entReset
        let b := fgetD (ents new) y entReset
        entSt a != entSt b || a.handle != b.handle).map fun y =>
          let b := fgetD (ents new) y entReset
          (⟨i, x * pageEnts + y, deltaKind b, if deltaKind b = 0 then entFp s p b else 0⟩ : DeltaEnt)).flatten

/-- Delta of a part between the base snapshot and the new one, in member order (R367). -/
def partDelta (s : State) (l : Link) (k : Nat) : List DeltaEnt :=
  match l.snap.bind fun i => fget s.snp.snaps i with
  | none => []
  | some x =>
    let old := fun n => match l.base.bind fun i => fget s.snp.snaps i with
      | some b => (match b.members.idxOf? n with | some j => b.owners.getD j 0 | none => 0)
      | none => 0
    ((List.range x.members.length).map fun i => match fget x.params i with
      | some p => if p.side = k then memberDelta s i p (old (x.members.getD i 0)) (x.owners.getD i 0) else []
      | none => []).flatten

/-- Batches of a delta. -/
def batchCount (d : List DeltaEnt) : Nat := ceilDiv d.length 4096

/-- Entries of a batch. -/
def batchOf (d : List DeltaEnt) (b : Nat) : List DeltaEnt := (d.drop (4096 * b)).take 4096

/-- Offer a part's next batch, or send DONE after the last; a paused link stops at the end of a batch (R367). -/
def partOffer (n k : Nat) (s : State) : State :=
  match linkOf s n with
  | none => s
  | some l =>
    let p := partOf l k
    match l.cur, p.delta with
    | some e, some d =>
      if !p.keyed ∨ !p.opened ∨ p.offering ∨ p.done then s
      else if batchCount d ≤ p.batch then s |> partMod n k (fun p => { p with done := true }) |> replSend n k replDoneT 0 [e]
      else if l.pauseAsked ∨ !isSet s Reg.SNP_CTRL_REPL_EN then s
      else
        let b := batchOf d p.batch
        s |> partMod n k (fun p => { p with offering := true, wanted := [], armed := false })
          |> linkMod n (fun l => { l with offeredN := l.offeredN + (b.filter fun x => x.kind == 0).length })
          |> replSend n k replOfferT (48 * b.length) ([e, p.batch] ++ (b.map fun x => [x.member, x.lba, x.kind, x.fp]).flatten)
    | _, _ => s

/-- Parts that this head runs and has not set up wait for their connection; parts it no longer runs are closed (R366, R372); parts that a
pause stopped go on once it has ended (SNP_CTRL.REPL_EN). -/
def partsEdge (s : State) : State :=
  foldS (s.snp.links.filter fun e => !e.2.p.target && !e.2.failed) (fun e s =>
    let run := partsRun s e.2
    let s := foldS (run.filter fun k => !fhas e.2.parts k) (fun k s =>
      partMod e.1 k (fun _ => { partReset with waiting := true, heard := s.stk.ext, retryAt := s.stk.ext }) s) s
    let s := foldS (e.2.parts.filter fun x => !run.contains x.1) (fun x s =>
      s |> partClose e.1 x.1 |> linkMod e.1 (fun l => { l with parts := fdel l.parts x.1 })) s
    foldS (e.2.parts.filter fun x => run.contains x.1) (fun x s => partOffer e.1 x.1 s) s) s

/-- Open the epoch on the target (R367, R372), at the batch after the last it has applied. -/
def epochOpen (n k : Nat) (s : State) : State :=
  match linkOf s n with
  | none => s
  | some l =>
    let p := partOf l k
    match l.cur, p.delta with
    | some e, some d =>
      if !p.keyed ∨ p.opened then s
      else
        let parts := ([0, 1].filter fun x => (linkMembers s l.p).any fun m => nsSide s m == some x).length
        let t := match l.snap.bind fun i => fget s.snp.snaps i with | some x => x.s | none => 0
        s |> partMod n k (fun p => { p with opened := true, done := false, batch := match p.applied with | some b => b + 1 | none => 0 })
          |> replSend n k replOpenT 24 [e, t, parts, batchCount d] |> partOffer n k
    | _, _ => s

/-- A read for replication: charged to the class bucket of the member's rating class as an initiator's read is, it crosses the keel to the
link's seat in class BACK (R367). -/
def replRead (l : Link) (ns bytes : Nat) (s : State) : State :=
  match nsCur s ns with
  | some q => s |> takeTokens (homeSeat s ns) q.loop 1 |> keelSend (homeSeat s ns) (l.p.subport / 4) keelBack bytes
  | none => s

/-- A DATA entry of a delta whose record is not in the fingerprint log, as it is read to be fingerprinted (R367). -/
def deltaRead (l : Link) (e : DeltaEnt) (s : State) : State :=
  match (l.snap.bind fun i => fget s.snp.snaps i).bind fun x => (fget x.params e.member).map fun p => (x, p) with
  | some (x, p) =>
    if e.kind = 0 ∧ (fpOfRec s p.tenant (entAt s (x.owners.getD e.member 0) e.lba).handle).isNone then replRead l (x.members.getD e.member 0) 4096 s else s
  | none => s

/-- REPL_DELTA_COMPUTE (R367): once the epoch's snapshot is taken. -/
def deltaCompute (n k : Nat) (s : State) : State :=
  match linkOf s n with
  | none => s
  | some l =>
    let taken : Bool := match l.snap.bind fun i => fget s.snp.snaps i with | some x => x.taken | none => false
    if l.p.target ∨ l.failed ∨ l.cur.isNone ∨ !taken ∨ (partOf l k).delta.isSome ∨ !(partsRun s l).contains k then s
    else
      let d := partDelta s l k
      s |> partMod n k (fun p => { p with delta := some d }) |> foldS d (deltaRead l) |> epochOpen n k

/-- The epoch in transfer is over on the source: nothing of it is kept. -/
def epochClear (l : Link) : Link :=
  { l with cur := none, snap := none, parts := fmapV l.parts fun _ p => { p with
      delta := none, opened := false, done := false, batch := 0, refusals := 0, offering := false, wanted := [], armed := false, applied := none } }

/-- Delete a snapshot that no link needs any more (R371). -/
def snapLetGo (id : Nat) (s : State) : State :=
  if snapNeeded s id then s else s |> snapDrop id |> objectTell (.snapGone id)

/-- COMMIT on the source (R371, R372): the epoch's snapshot is the new base; the old base goes unless RETAIN keeps it. -/
def epochCommitted (n e : Nat) (s : State) : State :=
  match linkOf s n with
  | none => s
  | some l =>
    if l.p.target ∨ l.cur ≠ some e then s
    else
      let s := s |> linkMod n (fun l => { epochClear l with epoch := e, base := l.snap }) |> snpEvent Reg.SNP_EVENTS_EPOCH_DONE 3 |> linkTell n
      match l.base with
      | some b => if l.p.retain then s else snapLetGo b s
      | none => s

/-- Start an epoch (R367): a snapshot of the group is registered 20 strokes ahead. The head that runs the lowest part acts for both. -/
def epochStart (n : Nat) (s : State) : State :=
  match linkOf s n with
  | none => s
  | some l =>
    let lead := [0, 1].find? fun d => (linkMembers s l.p).any fun m => nsSide s m == some d
    let mine : Bool := match lead with | some d => ownsSide s d | none => false
    let skip := linkMod n fun l => { l with skipped := l.skipped + 1 }
    if !mine then s
    else if l.cur.isSome ∨ (l.parts.any fun p => p.2.waiting) = true ∨ snapCheck s l.p.cg (s.stk.ext + 20) ≠ .ok then skip s
    else
      let r := snapRegister l.p.cg (s.stk.ext + 20) none s
      r.2 |> linkMod n (fun l => { epochClear l with cur := some (l.epoch + 1), snap := some r.1 }) |> linkTell n

/-- REPL_INTERVAL_EDGE (R367). -/
def intervalEdge (n : Nat) (s : State) : State :=
  match linkOf s n with
  | none => s
  | some l =>
    if l.p.target ∨ l.failed ∨ s.stk.ext < l.next then s
    else s |> linkMod n (fun l => { l with next := s.stk.ext + max 1 l.p.interval }) |> epochStart n

/-! ### The source: batches (R368, R370) -/

/-- Payload of the record of an entry (R368): the frame as stored, or the block raw where its dictionary is not paired (log entry 65). -/
def recordBytes (s : State) (l : Link) (e : DeltaEnt) : Nat :=
  let x := (l.snap.bind fun i => fget s.snp.snaps i).bind fun x => (fget x.params e.member).bind fun p =>
    (recOf s p.tenant (entAt s (x.owners.getD e.member 0) e.lba).handle).bind fun r => fget s.par.exts r.extent
  let n := match x with | some y => if y.mode = 2 then 4096 + y.metaLen else y.payload | none => 4096
  ceilDiv (32 + n + 16) 16 * 16

/-- WANT (R368, R369): the entries are opened, charged to the member's class bucket, and the chain is armed. -/
def wantTake (n k epoch batch : Nat) (want : List Nat) (s : State) : State :=
  match linkOf s n with
  | none => s
  | some l =>
    let p := partOf l k
    let ents := match p.delta with | some d => batchOf d p.batch | none => []
    if l.p.target ∨ l.cur ≠ some epoch ∨ p.batch ≠ batch ∨ !p.offering then s
    else
      let w := want.filter fun i => match ents[i]? with | some e => e.kind == 0 | none => false
      let s := foldS w (fun i s => match (ents[i]?).bind fun e => ((linkMembers s l.p)[e.member]?).map fun ns => (e, ns) with
        | some (e, ns) => replRead l ns (recordBytes s l e) s
        | none => s) s
      partMod n k (fun p => { p with wanted := w, armed := true }) s

/-- One RDMA WRITE of a part's chain: it goes out as the congestion window allows, behind what was posted before it (R77, R368). -/
def replWrite (n k len : Nat) (words : List Nat) (s : State) : State :=
  match (linkOf s n).bind fun l => (partOf l k).qp with
  | some (seat, q) => qpSend seat q len .repl (n :: k :: replWriteT :: words) s
  | none => s

/-- READY (R368): the armed chain fires and BATCH_END follows it; any other is answered with ABORT and counted. -/
def readyTake (n k epoch batch len : Nat) (s : State) : State :=
  match linkOf s n with
  | none => s
  | some l =>
    if l.p.target then s
    else
      let p := partOf l k
      let ents := match p.delta with | some d => batchOf d p.batch | none => []
      if !p.armed ∨ l.cur ≠ some epoch ∨ p.batch ≠ batch ∨ l.p.window < len then s |> replSend n k replAbortT 4 [epoch, batch, 1] |> replRefused n
      else
        let size := fun (i : Nat) => match ents[i]? with | some e => recordBytes s l e | none => 0
        s |> linkMod n (fun l => { l with sentN := l.sentN + p.wanted.length, bytes := l.bytes + (p.wanted.map size).sum })
          |> foldS p.wanted (fun i s => replWrite n k (size i) [epoch, batch, i] s)
          |> partMod n k (fun p => { p with armed := false, wanted := [] }) |> replSend n k replEndT 0 [epoch, batch]

/-- BATCH_ACK (R369): the next batch. -/
def batchAcked (n k epoch batch : Nat) (s : State) : State :=
  match linkOf s n with
  | none => s
  | some l =>
    let p := partOf l k
    if l.p.target ∨ l.cur ≠ some epoch ∨ p.batch ≠ batch ∨ !p.offering then s
    else s |> partMod n k (fun p => { p with batch := p.batch + 1, refusals := 0, offering := false }) |> partOffer n k

/-- BATCH_NAK (R370): the batch is sent again; after the third refusal the link fails. -/
def batchNaked (n k epoch batch : Nat) (s : State) : State :=
  match linkOf s n with
  | none => s
  | some l =>
    let p := partOf l k
    if l.p.target ∨ l.cur ≠ some epoch ∨ p.batch ≠ batch ∨ !p.offering then s
    else
      let s := s |> replRefused n |> partMod n k (fun p => { p with refusals := p.refusals + 1, offering := false })
      if 3 ≤ p.refusals + 1 then linkFail n s else partOffer n k s

/-! ### The target (R368 to R371) -/

/-- The command of no queue that carries one entry of a batch through this head's ingest (R369). -/
def replCmd (s : State) (p : NsParams) (nsid owner lba : Nat) (o : Nat) : Cmd :=
  ⟨homeSeat s nsid, 16384, 0, .deallocate [(lba, 1)], owner, lba, 1, plainCap, .working, s.stk.ext, 0, o, p, 0, 0, none, 0, 0, 0, [], none, 0⟩

/-- The batch after the last one applied. -/
def nextBatch (p : Part) : Nat := match p.applied with | some b => b + 1 | none => 0

/-- OPEN (R367). -/
def openTake (n k epoch parts batches : Nat) (s : State) : State :=
  match linkOf s n with
  | none => s
  | some l =>
    if !l.p.target ∨ l.failed ∨ !(partOf l k).keyed ∨ (l.cur.isSome ∧ l.cur ≠ some epoch) then s
    else s |> linkMod n (fun l => { l with cur := some epoch, nparts := parts })
      |> partMod n k (fun p => { p with batches := batches, opened := true, done := false })

/-- The handle that the fingerprint cache of a member's home seat names for a DATA entry, under the conditions of R110. -/
def haveHandle (s : State) (l : Link) (e : DeltaEnt) : Option Nat :=
  match (linkMembers s l.p)[e.member]? with
  | none => none
  | some ns => (match nsCur s ns with
    | none => none
    | some p => (match fpFind (fpSet s (homeSeat s ns) e.fp) e.fp p.tenant with
      | some (_, x) => if fpValid s (replCmd s p ns 0 e.lba 0) e.fp x then some x.handle else none
      | none => none))

/-- OFFER (R368): WANT names the DATA entries this head lacks, READY its window; a batch already applied is acknowledged again (R372). -/
def offerTake (n k epoch batch : Nat) (ents : List DeltaEnt) (s : State) : State :=
  match linkOf s n with
  | none => s
  | some l =>
    let p := partOf l k
    if !l.p.target ∨ l.failed ∨ l.cur ≠ some epoch ∨ !p.keyed ∨ p.applying ≠ [] then s
    else
      if batch < nextBatch p then replSend n k replAckT 0 [epoch, batch] s
      else if batch ≠ nextBatch p then s
      else
        let held := (List.range ents.length).foldl (fun (m : FMap Nat) i => match (ents[i]?).bind fun e => if e.kind = 0 then haveHandle s l e else none with
          | some h => fset m i h
          | none => m) []
        let want := (List.range ents.length).filter fun i => (match ents[i]? with | some e => e.kind == 0 | none => false) && !fhas held i
        s |> partMod n k (fun p => { p with offered := ents, held := held, received := [] })
          |> linkMod n (fun l => { l with offeredN := l.offeredN + (ents.filter fun x => x.kind == 0).length })
          |> replSend n k replWantT 512 ([epoch, batch] ++ want) |> replSend n k replReadyT 16 [epoch, batch, l.p.window]

/-- An offered entry lies within its replica member (R369). -/
def entryIn (s : State) (l : Link) (e : DeltaEnt) : Bool :=
  match (linkMembers s l.p)[e.member]? with
  | some ns => (match nsCur s ns with | some p => decide (e.lba < p.size) | none => false)
  | none => false

/-- The fingerprint of a record under the replica tenant's dedup key (R369). -/
def recordFp (s : State) (l : Link) (e : DeltaEnt) (data : Nat) (st : Stored) : Nat :=
  match ((linkMembers s l.p)[e.member]?).bind fun ns => nsCur s ns with
  | some p => Config.fingerprint (match domainOf s p.domain with | some d => d.fk | none => 0) data st.user st.app st.ref
  | none => 0

/-- Every check of R369 on the records of a batch: each is genuine and matches its offer; every entry lies within its member; every DATA
entry has a record or a handle. -/
def batchGood (s : State) (l : Link) (p : Part) (recs : List ReplRec) : Bool :=
  (recs.all fun r => r.ok && match p.offered[r.entry]? with
    | some e => e.kind == 0 && recordFp s l e r.data r.stored == e.fp
    | none => false) &&
  p.offered.all (entryIn s l) &&
  (List.range p.offered.length).all fun i => match p.offered[i]? with
    | some e => e.kind != 0 || fhas p.held i || fhas p.received i || recs.any fun r => r.entry == i
    | none => false

/-- Handles kept for HAVE entries that no longer pass R110 (R369). -/
def heldBad (s : State) (l : Link) (p : Part) : List Nat :=
  (p.held.filter fun h => match p.offered[h.1]? with
    | some e => (match ((linkMembers s l.p)[e.member]?).bind fun ns => (nsCur s ns).map fun q => (ns, q) with
      | some (ns, q) => !fpValid s (replCmd s q ns 0 e.lba 0) e.fp ⟨e.fp / 2 ^ 96, h.2, q.tenant, 0⟩
      | none => true)
    | none => true).map (·.1)

/-- A record lands in this head's ingest (R100, R369): its lookup and its job start as for a host block. -/
def replLand (id : Nat) (data : Nat) (st : Stored) (s : State) : State :=
  match cmdOf s id with
  | none => s
  | some c =>
    let zero := isSet s (Reg.CAT_CTRL_ZERO_DETECT c.seat) && data == 0 && st == ⟨0, 0, 0⟩
    let job := c.p.compress && !zero && isSet s (Reg.CMP_CTRL_ENABLE c.seat)
    let b : Blk := { blkNew with stage := .landed, data := data, stored := st, zero := zero, looking := c.p.dedup && !zero, job := job
                                 dict := if job then dictFor s c.p else none }
    let b := { b with fp := if b.looking then 0 else blkFp s c b }
    let s := { s with ing := { s.ing with blks := fset s.ing.blks (pairKey id 0) b } } |> when job (bumpN (Reg.CMP_JOBS c.seat) 1)
      |> when (!b.looking) (digSnoop c.seat (4096 + storedLen c.p))
    if zero then s |> bump (Reg.CAT_ZERO_BLOCKS_COUNT c.seat) |> recAdd id 0 (delta .zero c.nsid c.lba 0 0)
    else blkReady id 0 s

/-- One entry of a batch goes into the receiving image (R369): DATA through ingest, a HAVE entry as a REF to the handle kept, ZERO and
UNMAPPED as ZERO and DEALLOC. -/
def entryApply (l : Link) (k i : Nat) (e : DeltaEnt) (n : Nat) (s : State) : State :=
  match (linkMembers s l.p)[e.member]? with
  | none => s
  | some ns => (match nsCur s ns with
    | none => s
    | some p =>
      let id := s.nv.nextCmd
      let owner := l.image.getD e.member 0
      let o := ownStart (ownKey false p.ana) s
      let s := o.2
      let s := { s with nv := { s.nv with cmds := fset s.nv.cmds id (replCmd s p ns owner e.lba o.1), nextCmd := id + 1 } }
        |> partMod n k (fun q => { q with applying := q.applying ++ [id] }) |> grpNew id (homeSeat s ns) 0 1
      let plain := fun (b : Blk) (s : State) => { s with ing := { s.ing with blks := fset s.ing.blks (pairKey id 0) b } }
      let pt := partOf l k
      if e.kind = 1 then s |> plain { blkNew with stage := .done } |> recAdd id 0 (delta .zero owner e.lba 0 0)
      else if e.kind = 2 then s |> plain { blkNew with stage := .done } |> recAdd id 0 (delta .dealloc owner e.lba 1 0)
      else match fget pt.held i with
        | some h => s |> plain { blkNew with stage := .done, hold := some h } |> holdRec (recKey p.tenant h) |> recAdd id 0 (delta .ref owner e.lba h 0)
        | none => (match fget pt.received i with
          | some r => replLand id r.1 r.2 s
          | none => s))

/-- A batch is refused (R370): nothing of it is applied; the third refusal fails the link. -/
def batchRefuse (n k epoch batch : Nat) (s : State) : State :=
  match linkOf s n with
  | none => s
  | some l =>
    let r := (partOf l k).refusals + 1
    let s := s |> partMod n k (fun p => { p with offered := [], held := [], received := [], applying := [], refusals := r }) |> replSend n k replNakT 0 [epoch, batch]
      |> replRefused n
    if 3 ≤ r then linkFail n s else s

/-- BATCH_END (R369): the checks, a second WANT for HAVE entries that no longer hold, and the apply. -/
def batchEnd (n k epoch batch : Nat) (recs : List ReplRec) (s : State) : State :=
  match linkOf s n with
  | none => s
  | some l =>
    let p := partOf l k
    if !l.p.target ∨ l.failed ∨ l.cur ≠ some epoch ∨ batch ≠ nextBatch p ∨ p.offered = [] ∨ p.applying ≠ [] then s
    else
      let s := linkMod n (fun l => { l with sentN := l.sentN + recs.length, bytes := l.bytes + (recs.map (·.bytes)).sum }) s
      if !batchGood s l p recs then batchRefuse n k epoch batch s
      else
        let s := partMod n k (fun p => { p with received := recs.foldl (fun m r => fset m r.entry (r.data, r.stored)) p.received }) s
        match heldBad s l p with
        | [] =>
          (match linkOf s n with
            | none => s
            | some l => foldS (List.zip (List.range (partOf l k).offered.length) (partOf l k).offered) (fun e s => entryApply l k e.1 e.2 n s) s)
        | bad => s |> partMod n k (fun p => { p with held := fkeep p.held fun i _ => !bad.contains i })
            |> replSend n k replWantT 512 ([epoch, batch] ++ bad) |> replSend n k replReadyT 16 [epoch, batch, l.p.window]

/-- An entry stands in the receiving image as its batch has it. -/
def entryDone (s : State) (l : Link) (e : DeltaEnt) : Bool :=
  let x := entSt (entAt s (l.image.getD e.member 0) e.lba)
  if e.kind = 0 then x == .mapped || x == .zero else if e.kind = 1 then x == .zero else x == .unmapped || x == .dealloc

/-- A part's batch whose every group has been accepted is acknowledged (R369); one that this head's ingest could not take is refused. -/
def partCheck (n k : Nat) (s : State) : State :=
  match linkOf s n with
  | none => s
  | some l =>
    let p := partOf l k
    if p.applying = [] then s
    else
      let left := p.applying.filter fun i => (cmdOf s i).isSome
      if left ≠ [] then s
      else match l.cur with
        | none => partMod n k (fun p => { p with applying := [] }) s
        | some e =>
          let b := nextBatch p
          if p.offered.all (entryDone s l) then
            s |> partMod n k (fun p => { p with applied := some b, refusals := 0, offered := [], held := [], received := [], applying := [] })
              |> replSend n k replAckT 0 [e, b]
          else batchRefuse n k e b s

/-- Every batch that waits for its groups is looked at again. -/
def replCheck (s : State) : State :=
  foldS (s.snp.links.filter fun e => e.2.p.target) (fun e s => foldS e.2.parts (fun p s => partCheck e.1 p.1 s) s) s

/-- DONE (R371): with every part done and every batch applied, the receiving image becomes what initiators read. -/
def doneTake (n k epoch : Nat) (s : State) : State :=
  match linkOf s n with
  | none => s
  | some l =>
    if !l.p.target ∨ l.failed ∨ l.cur ≠ some epoch then s
    else
      let s := partMod n k (fun p => { p with done := true }) s
      match linkOf s n with
      | none => s
      | some l =>
        let ready := (l.parts.filter fun p => p.2.done && p.2.applying == [] && decide (p.2.batches ≤ nextBatch p.2)).length
        if ready < l.nparts then s
        else
          let s := s |> imageSwap n l |> linkMod n (fun l => { l with epoch := epoch, cur := none })
          let s := foldS l.parts (fun p s => s |> replSend n p.1 replCommitT 0 [epoch]
            |> partMod n p.1 (fun p => { p with applied := none, opened := false, done := false, batches := 0, refusals := 0 })) s
          s |> snpEvent Reg.SNP_EVENTS_EPOCH_DONE 3 |> linkTell n

/-! ### Sessions (R365, R366, R372, R373, R401) -/

/-- The queue pair on which a source's part has reached this target: one from the partner's addresses that serves nothing else. -/
def partQp (s : State) (l : Link) : Option (Nat × Nat) :=
  let used := s.snp.links.foldl (fun (m : List (Nat × Nat)) e => m ++ e.2.parts.filterMap fun p => p.2.qp) []
  (s.fe.qps.find? fun e => e.2.st == .ready && !e.2.ours && e.2.ctrl.isNone && l.p.addrs.contains e.2.src && !used.contains (keyHi e.1, keyLo e.1)).map
    fun e => (keyHi e.1, keyLo e.1)

/-- An authentic message of a link, with so many bytes of payload, has arrived on a part (R366, R373). -/
def replHeard (n k len : Nat) (s : State) : State := s |> partHeard n k |> linkMod n (fun l => { l with bytes := l.bytes + 48 + len })

/-- HELLO (R365, R372). -/
def replHello (n k : Nat) (h : ReplHello) (s : State) : State :=
  match linkOf s n with
  | none => s
  | some l =>
    let bad := !h.sameMajor || !h.geometry
    if l.failed then s
    else if l.p.target then
      let s := match (partOf l k).qp with
        | some _ => partClose n k s
        | none => s
      match partQp s l with
      | none => s
      | some q =>
        let s := s |> partMod n k (fun p => { p with qp := some q, keyed := false, waiting := false }) |> replHeard n k 32
        let ap := match (partOf l k).applied with | some b => b + 1 | none => 0
        if bad then s |> replSend n k replHelloT 32 [1] |> partClose n k else replSend n k replHelloT 32 [0, l.epoch, ap] s
    else if !partUp s (partOf l k) then s
    else
      let s := replHeard n k 32 s
      if h.refused ∨ bad then
        s |> logFw 0 365 [n] |> linkFail n |> linkMod n (fun l => { l with status := stsCode .incompatible })
      else
        let s := match l.cur with | some e => if h.committed = e then epochCommitted n e s else s | none => s
        s |> partMod n k (fun p => { p with applied := h.applied }) |> replSend n k replKexT 0 []

/-- KEX (R366, R401): the exchange has ended; a part that was cut off resumes the open epoch (R372). -/
def replKex (n k : Nat) (ok : Bool) (s : State) : State :=
  match linkOf s n with
  | none => s
  | some l =>
    let p := partOf l k
    if l.failed ∨ !partUp s p then s
    else if !ok then s |> keyEvent Reg.KEY_EVENTS_AUTH_FAIL 5 |> partClose n k |> partMod n k (fun p => { p with waiting := true, retryAt := s.stk.ext + 10000 })
    else
      let again := p.delta.isSome || p.applied.isSome
      let s := s |> replHeard n k 0 |> partMod n k (fun p => { p with keyed := true, waiting := false })
      if p.keyed then s
      else if l.p.target then replSend n k replKexT 0 [] s
      else s |> when (l.cur.isSome && again) (linkMod n fun l => { l with resumes := l.resumes + 1 }) |> epochOpen n k

/-- REPL_LINK_TIMEOUT (R373): silence puts the part in WAITING. -/
def linkTimeout (n k : Nat) (s : State) : State :=
  match linkOf s n with
  | none => s
  | some l =>
    let p := partOf l k
    if l.failed ∨ !fhas l.parts k ∨ p.waiting ∨ s.stk.ext < p.heard + l.p.timeout then s
    else s |> partClose n k |> partMod n k (fun p => { p with waiting := true, retryAt := s.stk.ext + 10000 })
      |> snpEvent Reg.SNP_EVENTS_LINK_WAITING 4

/-- REPL_RECONNECT (R373): the source tries again every 10,000 strokes, at the partner's other address (R372). -/
def linkReconnect (n k : Nat) (s : State) : State :=
  match linkOf s n with
  | none => s
  | some l =>
    let p := partOf l k
    if l.failed ∨ l.p.target ∨ !p.waiting ∨ s.stk.ext < p.retryAt then s
    else s |> partClose n k |> partMod n k (fun p => { p with retryAt := s.stk.ext + 10000 }) |> partConnect n k

/-- ABORT (R366): the epoch or the link ends. -/
def replAbort (n : Nat) (whole : Bool) (s : State) : State :=
  match linkOf s n with
  | none => s
  | some l =>
    if whole then linkFail n s
    else if l.p.target then
      s |> when l.cur.isSome (imageClone n l)
        |> linkMod n (fun l => { l with cur := none, parts := fmapV l.parts fun _ p => { p with
            applied := none, opened := false, done := false, offered := [], held := [], received := [], applying := [], batches := 0, refusals := 0 } })
    else
      let s := s |> linkMod n epochClear |> linkTell n
      match l.snap with
      | some i => snapLetGo i s
      | none => s

/-- The link and part that use a queue pair. -/
def qpPart (s : State) (seat q : Nat) : Option (Nat × Nat) :=
  s.snp.links.findSome? fun e => (e.2.parts.find? fun p => p.2.qp == some (seat, q)).map fun p => (e.1, p.1)

/-! ### The commands -/

/-- CM_REP (R68): the connection this device asked for is accepted; it answers RTU and is ready. A link's part sends its HELLO (R372). -/
def execCmRep (seat qp : Nat) (s : State) : Host.Outcome State Fault Refusal :=
  go (running (cmStep seat qp (fun x => x.ours && x.st == .connecting) (fun x s =>
    let s := s |> setQp seat qp { x with st := .ready } |> cmSend seat x.subport [seat, x.src, 5, qp]
    match qpPart s seat qp with
    | some (n, k) => (match linkOf s n with
      | some l => replSend n k replHelloT 32 [0, l.epoch, 0] s
      | none => s)
    | none => s)) s)

/-- CM_REJ (R68): the connection this device asked for is refused. -/
def execCmRej (seat qp : Nat) (s : State) : Host.Outcome State Fault Refusal :=
  go (running (cmStep seat qp (fun x => x.ours && x.st == .connecting) (fun _ s =>
    let s := match qpPart s seat qp with
      | some (n, k) => partMod n k (fun p => { p with qp := none, waiting := true, retryAt := s.stk.ext + 10000 }) s
      | none => s
    freeQp seat qp s)) s)

/-- GROUP_ACCEPT (R128); a batch of a replication target may be complete with it (R369). -/
def execGroupAccept (seat num lat : Nat) (s : State) : Host.Outcome State Fault Refusal :=
  go (running (fun s => s |> groupTry seat num lat |> replCheck) s)

/-- Values that stand for a default: interval 600,000 strokes, window 64 MiB, timeout 20,000 strokes. -/
def linkDefaults (p : LinkParams) : LinkParams :=
  { p with interval := if p.interval = 0 then 600000 else p.interval
           window := if p.window = 0 then 67108864 else p.window
           timeout := if p.timeout = 0 then 20000 else p.timeout }

/-- REPL_LINK_CREATE (R365, R366). DETAIL names the parameter refused: 1 link, 2 group, 3 addresses, 4 window, 5 sub-port. -/
def execReplLinkCreate (slot link : Nat) (p : LinkParams) (s : State) : Host.Outcome State Fault Refusal :=
  go (mbxRun slot Opc.replLinkCreate (fun s =>
    let p := linkDefaults p
    let m := linkMembers s p
    if 256 ≤ s.snp.links.length then refuse .noResource 0 s
    else if 256 ≤ link ∨ fhas s.snp.links link = true then refuse .invalidParam 1 s
    else if m = [] ∨ (groupLinks s p.cg).any (fun l => l.2.p.target == p.target) = true then refuse .invalidParam 2 s
    else if p.target ∧ (m.map (nsSide s)).eraseDups.length ≠ 1 then refuse .invalidParam 2 s
    else if p.addrs = [] ∨ 2 < p.addrs.length then refuse .invalidParam 3 s
    else if p.window < 4194304 ∨ 1073741824 < p.window then refuse .invalidParam 4 s
    else if 4 * s.hw.seats ≤ p.subport then refuse .invalidParam 5 s
    else if p.target ∧ !(m.all fun n => match nsSide s n with | some d => ownsSide s d | none => false) then refuse .notOwner 0 s
    else
      let s := s |> linkInstall link p |> linkTell link
      let l := (linkOf s link).getD ⟨p, [], false, false, 0, none, 0, none, none, 0, [], 0, 0, 0, 0, 0, 0, 0⟩
      okWith [] (if p.target then s else foldS (partsRun s l) (fun k s =>
        s |> partMod link k (fun _ => { partReset with heard := s.stk.ext }) |> partConnect link k) s)) s)

/-- A link a command names. -/
def onLink (link : Nat) (f : Link → State → Sts × Nat × List Nat × State) (s : State) : Sts × Nat × List Nat × State :=
  match linkOf s link with
  | some l => f l s
  | none => refuse .invalidParam 1 s

/-- REPL_EPOCH_NOW (R366, R367): the interval edge is the next stroke. -/
def execReplEpochNow (slot link : Nat) (s : State) : Host.Outcome State Fault Refusal :=
  go (mbxRun slot Opc.replEpochNow (onLink link fun l s =>
    if l.p.target ∨ l.failed then refuse .wrongState 0 s
    else if l.cur.isSome then refuse .busy 0 s
    else okWith [] (linkMod link (fun l => { l with next := s.stk.ext + 1 }) s)) s)

/-- REPL_PAUSE: at the end of the batch in transfer, and its withdrawal. -/
def execReplPause (slot link : Nat) (pause : Bool) (s : State) : Host.Outcome State Fault Refusal :=
  go (mbxRun slot Opc.replPause (onLink link fun l s =>
    let s := linkMod link (fun l => { l with pauseAsked := pause }) s
    okWith [] (if pause ∨ l.p.target then s else foldS l.parts (fun p s => partOffer link p.1 s) s)) s)

/-- REPL_STATUS_GET: link state, epochs, lag, the status of a failed link, and the next batch of each part. -/
def execReplStatusGet (slot link : Nat) (s : State) : Host.Outcome State Fault Refusal :=
  go (mbxRun slot Opc.replStatusGet (onLink link fun l s =>
    okWith ([replLinkState s l, l.epoch, (match l.cur with | some e => e | none => 0), linkLag s l, l.status] ++
      (l.parts.map fun p => [p.1, if l.p.target then nextBatch p.2 else p.2.batch]).flatten) s) s)

/-- End a link: its queue pairs close, and the peer is told. -/
def linkEnd (link : Nat) (promoted : Bool) (s : State) : State :=
  match linkOf s link with
  | none => s
  | some l =>
    let s := foldS l.parts (fun p s => partClose link p.1 s) s
    s |> objectTake (.linkGone link promoted) |> objectTell (.linkGone link promoted)

/-- REPL_PROMOTE (R371): the receiving image is discarded and the last committed image becomes writable. -/
def execReplPromote (slot link : Nat) (s : State) : Host.Outcome State Fault Refusal :=
  go (mbxRun slot Opc.replPromote (onLink link fun l s =>
    if !l.p.target then refuse .wrongState 0 s
    else if !((linkMembers s l.p).all fun n => match nsSide s n with | some d => ownsSide s d | none => false) then refuse .notOwner 0 s
    else okWith [] (linkEnd link true s)) s)

/-- REPL_LINK_DELETE: the link ends; its snapshots become ordinary ones. -/
def execReplLinkDelete (slot link : Nat) (s : State) : Host.Outcome State Fault Refusal :=
  go (mbxRun slot Opc.replLinkDelete (onLink link fun _ s => okWith [] (linkEnd link false s)) s)

/-- REPL_INTERVAL_EDGE. -/
def execReplIntervalEdge (link : Nat) (s : State) : Host.Outcome State Fault Refusal := go (running (intervalEdge link) s)

/-- REPL_DELTA_COMPUTE. -/
def execReplDeltaCompute (link part : Nat) (s : State) : Host.Outcome State Fault Refusal := go (running (deltaCompute link part) s)

/-- REPL_HELLO. -/
def execReplHello (link part : Nat) (h : ReplHello) (s : State) : Host.Outcome State Fault Refusal := go (running (replHello link part h) s)

/-- REPL_KEX. -/
def execReplKex (link part : Nat) (ok : Bool) (s : State) : Host.Outcome State Fault Refusal := go (running (replKex link part ok) s)

/-- A message after HELLO and KEX is sealed under the session keys of its part (R366): without them it is no authentic message. -/
def onSession (link part len : Nat) (f : State → State) (s : State) : State :=
  match linkOf s link with
  | some l => if (partOf l part).keyed then f (replHeard link part len s) else s
  | none => s

/-- REPL_OPEN. -/
def execReplOpen (link part epoch _t parts batches : Nat) (s : State) : Host.Outcome State Fault Refusal :=
  go (running (onSession link part 24 (openTake link part epoch parts batches)) s)

/-- REPL_OFFER. -/
def execReplOffer (link part epoch batch : Nat) (ents : List DeltaEnt) (s : State) : Host.Outcome State Fault Refusal :=
  go (running (onSession link part (48 * ents.length) (offerTake link part epoch batch ents)) s)

/-- REPL_WANT. -/
def execReplWant (link part epoch batch : Nat) (want : List Nat) (s : State) : Host.Outcome State Fault Refusal :=
  go (running (onSession link part 512 (wantTake link part epoch batch want)) s)

/-- REPL_READY. -/
def execReplReady (link part epoch batch len : Nat) (s : State) : Host.Outcome State Fault Refusal :=
  go (running (onSession link part 16 (readyTake link part epoch batch len)) s)

/-- REPL_BATCH_END. -/
def execReplBatchEnd (link part epoch batch : Nat) (recs : List ReplRec) (s : State) : Host.Outcome State Fault Refusal :=
  go (running (onSession link part 0 (fun s => s |> batchEnd link part epoch batch recs |> replCheck)) s)

/-- REPL_BATCH_ACK. -/
def execReplBatchAck (link part epoch batch : Nat) (s : State) : Host.Outcome State Fault Refusal :=
  go (running (onSession link part 0 (batchAcked link part epoch batch)) s)

/-- REPL_BATCH_NAK. -/
def execReplBatchNak (link part epoch batch : Nat) (s : State) : Host.Outcome State Fault Refusal :=
  go (running (onSession link part 0 (batchNaked link part epoch batch)) s)

/-- REPL_DONE. -/
def execReplDone (link part epoch : Nat) (s : State) : Host.Outcome State Fault Refusal := go (running (onSession link part 0 (doneTake link part epoch)) s)

/-- REPL_COMMIT. -/
def execReplCommit (link part epoch : Nat) (s : State) : Host.Outcome State Fault Refusal :=
  go (running (onSession link part 0 (epochCommitted link epoch)) s)

/-- REPL_ABORT. -/
def execReplAbort (link part _reason : Nat) (whole : Bool) (s : State) : Host.Outcome State Fault Refusal :=
  go (running (onSession link part 4 (replAbort link whole)) s)

/-- REPL_LINK_TIMEOUT. -/
def execReplLinkTimeout (link part : Nat) (s : State) : Host.Outcome State Fault Refusal := go (running (linkTimeout link part) s)

/-- REPL_RECONNECT. -/
def execReplReconnect (link part : Nat) (s : State) : Host.Outcome State Fault Refusal := go (running (linkReconnect link part) s)

/-- SNP_LINK_SELECT (R374): the link registers load from the selected link; a link that does not exist reads as zero. -/
def snpLinkSelect (value : Nat) (s : State) : State :=
  let n := value % 256
  let s := wr Reg.SNP_LINK_SELECT_LINK n s
  let l := linkOf s n
  let f := fun (g : Link → Nat) => match l with | some l => g l | none => 0
  let run := match l with | some l => if l.p.target then l.parts.map (·.1) else partsRun s l | none => []
  let low := fun (g : Part → Nat) => f fun l => match run with | k :: _ => g (partOf l k) | [] => 0
  s |> wr Reg.SNP_LINK_STATE_STATE (f (replLinkState s)) |> wr Reg.SNP_LINK_STATE_TARGET (f fun l => b2n l.p.target)
    |> wrB Reg.SNP_LINK_STATE_PART1 (run.contains 1) |> wrB Reg.SNP_LINK_STATE_PART0 (run.contains 0)
    |> wr Reg.SNP_LINK_STATE_GROUP (f fun l => l.p.cg) |> wr Reg.SNP_LINK_EPOCH_EPOCH (f fun l => l.epoch)
    |> wr Reg.SNP_LINK_BATCH_BATCH (low fun p => match p.applied with
        | some b => max p.batch (b + 1)
        | none => p.batch)
    |> wr Reg.SNP_LINK_LAG_STROKES (f (linkLag s)) |> wr Reg.SNP_LINK_TIMEOUT_STROKES (f fun l => l.p.timeout)
    |> wr Reg.SNP_LINK_OFFERED_COUNT (f fun l => min 4294967295 l.offeredN) |> wr Reg.SNP_LINK_SENT_COUNT (f fun l => min 4294967295 l.sentN)
    |> wr Reg.SNP_LINK_BYTES (f fun l => min 18446744073709551615 l.bytes) |> wr Reg.SNP_LINK_SKIPPED_COUNT (f fun l => min 4294967295 l.skipped)
    |> wr Reg.SNP_LINK_REFUSED_COUNT (f fun l => min 4294967295 l.refused) |> wr Reg.SNP_LINK_RESUMES_COUNT (f fun l => min 4294967295 l.resumes)

/-- SNP_LINK_SELECT. -/
def execSnpLinkSelect (value : Nat) (s : State) : Host.Outcome State Fault Refusal := go (snpLinkSelect value s)

end Sys2Proof.Machine
end

