-- ==== Sys2Proof/Machine/Trust.lean ====
section
/-!
DEFINITION. Machine/Trust.lean: the key commands, crypto-erase, key slots and digest results (R375 to R407).
-/

namespace Sys2Proof.Machine

/-- A signature, attestation or exchange has failed (R401, R403). -/
def authFail (s : State) : State := keyEvent Reg.KEY_EVENTS_AUTH_FAIL 5 s

/-- A request that the owner must have signed once an owner is enrolled (R379). -/
def ownerAllows (s : State) (ownerOk : Bool) : Bool := s.hw.owner.isNone || ownerOk

/-! ### Key slots and reservations (R382, R396) -/

/-- KEY_SLOT_FILL: the key store serves a miss, and the requests that stalled on it go on. The key of an erased domain can no longer be
unwrapped, except for what still drains (R397). -/
def execKeySlotFill (seat kind domain gen : Nat) (s : State) : Host.Outcome State Fault Refusal :=
  go (live (fun s =>
    let k := slotKey kind domain gen
    let known : Bool := match domainOf s domain with | some x => x.secret || x.erase.isSome | none => false
    if (fgetD s.keys.asked seat []).contains k ∧ known = true then
      { s with keys := { s.keys with asked := fset s.keys.asked seat ((fgetD s.keys.asked seat []).filter (· != k)) } }
        |> slotFill seat k |> sealRetry seat
    else s) s)

/-- NONCE_RESERVE_DONE: the mark rises, and the seals that waited for it go on. -/
def execNonceReserveDone (seat domain gen : Nat) (s : State) : Host.Outcome State Fault Refusal :=
  go (live (fun s => s |> reserveDone seat domain gen |> sealRetry seat) s)

/-! ### Key domains (R381, R391 to R394) -/

/-- A new domain: generation, dedup key and erase secret of its own (R380). -/
def domainNew (d tenant gen : Nat) (ns share : Bool) (s : State) : State :=
  let x : Domain := ⟨tenant, ns, gen, false, false, false, share, [gen], [], none, s.stk.ext, none, 8192 * gen + d, true, none⟩
  { s with keys := { s.keys with domains := fset s.keys.domains d x } } |> ancWrote 0 7 |> objectTell (.domain d tenant ns share gen [gen])

/-- The lowest free number of a namespace domain (R381). -/
def freeDomain (s : State) : Option Nat := ((List.range 4096).map (4096 + ·)).find? fun d => !fhas s.keys.domains d

/-- KEY_DOMAIN_CREATE (R381): a tenant's domain bears the tenant's number; it may be made again once the one before it has been erased.
DETAIL: 1 tenant, 2 scope. -/
def execKeyDomainCreate (slot tenant : Nat) (ns share : Bool) (s : State) : Host.Outcome State Fault Refusal :=
  go (mbxRun slot Opc.keyDomainCreate (fun s =>
    if 4096 ≤ tenant ∨ (tenant ≠ 4095 ∧ !fhas s.nv.tenants tenant) then refuse .invalidParam 1 s
    else if 8192 ≤ s.keys.domains.length then refuse .noResource 0 s
    else if ns then
      match freeDomain s with
      | some d => okWith [d] (domainNew d tenant 0 true share s)
      | none => refuse .noResource 0 s
    else match domainOf s tenant with
      | none => okWith [tenant] (domainNew tenant tenant 0 false share s)
      | some x =>
        if x.secret ∨ x.erasePending ∨ x.erase.isSome then refuse .wrongState 2 s
        else okWith [tenant] (domainNew tenant tenant ((x.gen + 1) % 65536) false share s)) s)

/-- A domain a command names. -/
def onDomain (domain : Nat) (f : Domain → State → Sts × Nat × List Nat × State) (s : State) : Sts × Nat × List Nat × State :=
  match domainOf s domain with
  | some x => f x s
  | none => refuse .invalidParam 1 s

/-- KEY_ROLL (R392, R393). -/
def execKeyRoll (slot domain : Nat) (s : State) : Host.Outcome State Fault Refusal :=
  go (mbxRun slot Opc.keyRoll (onDomain domain fun x s =>
    if !x.secret ∨ x.erase.isSome then refuse .wrongState 0 s
    else
      let r := rollRequest domain s
      if r.2 then refuse .keyGenExhausted 0 r.1 else okWith [] r.1) s)

/-- KEY_REKEY_SWEEP (R394): SWEEP is set for each generation of the range other than the current one; a generation that is not LIVE has
no record to sweep. -/
def execKeyRekeySweep (slot domain first last : Nat) (s : State) : Host.Outcome State Fault Refusal :=
  go (mbxRun slot Opc.keyRekeySweep (onDomain domain fun x s =>
    if last < first ∨ 65536 ≤ last then refuse .invalidParam 2 s
    else if !x.secret ∨ x.erase.isSome then refuse .wrongState 0 s
    else if x.sweep then refuse .busy 0 s
    else okWith [] (domainMod domain (fun x => { x with
      sweep := true, passAt := none, marked := x.live.filter fun g => decide (first ≤ g) && decide (g ≤ last) && g != x.gen }) s)) s)

/-- State bits of a domain as KEY_DOMAIN_STATE shows them. -/
def domainBits (x : Domain) : Nat := bitsOf [true, x.ns, x.blocked, x.sweep, x.erasePending, x.shareFk]

/-- KEY_STATUS_GET (R403): state, current generation and number of live generations. -/
def execKeyStatusGet (slot domain : Nat) (s : State) : Host.Outcome State Fault Refusal :=
  go (mbxRun slot Opc.keyStatusGet (onDomain domain fun x s => okWith [domainBits x, x.gen, x.live.length] s) s)

/-- KEY_DOMAIN_SELECT (R405): the domain registers load; a domain not in use reads as zero. -/
def keyDomainSelect (value : Nat) (s : State) : State :=
  let x := domainOf s (value % 8192)
  let f := fun (g : Domain → Nat) => match x with | some x => g x | none => 0
  s |> wr Reg.KEY_DOMAIN_SELECT_DOMAIN value
    |> wr Reg.KEY_DOMAIN_STATE_VALID (f fun _ => 1) |> wr Reg.KEY_DOMAIN_STATE_SCOPE (f fun x => b2n x.ns)
    |> wr Reg.KEY_DOMAIN_STATE_BLOCKED (f fun x => b2n x.blocked) |> wr Reg.KEY_DOMAIN_STATE_SWEEP (f fun x => b2n x.sweep)
    |> wr Reg.KEY_DOMAIN_STATE_ERASE_PENDING (f fun x => b2n x.erasePending)
    |> wr Reg.KEY_DOMAIN_STATE_SHARE_FK (f fun x => b2n x.shareFk) |> wr Reg.KEY_DOMAIN_STATE_CUR_GEN (f fun x => x.gen)
    |> wr Reg.KEY_DOMAIN_LIVE_GENS_COUNT (f fun x => x.live.length) |> wr Reg.KEY_DOMAIN_ROLL (f fun x => x.rolledAt)
    |> wr Reg.KEY_DOMAIN_TENANT_TENANT (f fun x => x.tenant)

/-- KEY_DOMAIN_SELECT. -/
def execKeyDomainSelect (value : Nat) (s : State) : Host.Outcome State Fault Refusal := go (keyDomainSelect value s)

/-- A roll of a domain that the peer has sent (R392): of two rolls of one generation less than four strokes apart, side 0's is installed;
otherwise the earlier. -/
def rollTold (d g t : Nat) (s : State) : State :=
  match domainOf s d with
  | none => s
  | some x =>
    let mine : Bool := match x.roll with
      | some (g', t') => g' == g && (if t < t' + 4 ∧ t' < t + 4 then mySide s == 0 else decide (t' ≤ t))
      | none => false
    if mine ∨ x.live.contains g then s else domainMod d (fun x => { x with roll := some (g, t) }) s

/-- A lower KEY_SEAL_LIMIT takes effect: domains of which some seat has used more than its share roll at once (R405). -/
def limitRolls (s : State) : State :=
  foldS s.keys.domains (fun e s =>
    if (seatList s).any fun n => match fget s.keys.ctrs (ctrKey n e.1 e.2.gen) with | some c => decide (sealShare s < c.seals) | none => false then
      (rollRequest e.1 s).1
    else s) s

/-! ### Crypto-erase (R397, R398) -/

/-- Domain of a namespace that exists, or that a snapshot holds an image of. -/
def memberDomain (s : State) (x : Snap) (nsid : Nat) : Option Nat :=
  match nsCur s nsid with
  | some p => some p.domain
  | none => (x.params.find? fun e => x.members.getD e.1 0 == nsid).map fun e => e.2.domain

/-- What belongs to an erased domain is gone: a roll or a sweep in progress, its links, its snapshots, its namespaces and clones. A snapshot
or a link belongs to it when one of its members does. `tell`: the other head is told. -/
def domainFalls (d : Nat) (tell : Bool) (s : State) : State :=
  let s := domainMod d (fun x => { x with roll := none, sweep := false, marked := [], passAt := none }) s
  let inD := fun n => match nsCur s n with | some p => p.domain == d | none => false
  let links := s.snp.links.filter fun e => (linkMembers s e.2.p).any inD
  let snaps := s.snp.snaps.filter fun e => !e.2.deleted && e.2.members.any fun n => memberDomain s e.2 n == some d
  let nss := (s.nv.ns.filter fun e => e.2.cur.p.domain == d).map (·.1)
  let say := fun o => when tell (objectTell o)
  let s := foldS links (fun e s => s |> (fun s => foldS e.2.parts (fun p s => partClose e.1 p.1 s) s) |> linkRemove e.1 |> say (.linkGone e.1 false)) s
  let s := foldS snaps (fun e s => s |> snapDrop e.1 |> say (.snapGone e.1)) s
  foldS nss (fun n s => s |> nsRemove n |> say (.nsGone n)) s

/-- At a stroke edge, erasures whose stroke E has come take effect. -/
def erasesDue (s : State) : State :=
  foldS s.keys.domains (fun e s => match e.2.erase with
    | some (t, _) => if t ≤ s.stk.ext ∧ e.2.secret = true then domainFalls e.1 true s else s
    | none => s) s

/-- KEY_DOMAIN_ERASE: effective from the next stroke edge; a second erase of the domain completes and does nothing (R398). -/
def execKeyDomainErase (slot domain : Nat) (s : State) : Host.Outcome State Fault Refusal :=
  go (mbxBegin slot Opc.keyDomainErase (fun s =>
    match domainOf s domain with
    | none => (some (.invalidParam, 1, []), s)
    | some x =>
      if !x.secret ∨ x.erase.isSome then (some (.ok, 0, []), s)
      else (none, domainMod domain (fun x => { x with erase := some (s.stk.ext + 1, some slot) }) s)) s)

/-- Clear every key slot of a domain on every seat. -/
def slotsClear (d : Nat) (s : State) : State :=
  let keep := fun (l : List Nat) => l.filter fun k => k / 65536 % 8192 != d
  { s with keys := { s.keys with slots := fmapV s.keys.slots fun _ l => keep l, asked := fmapV s.keys.asked fun _ l => keep l } }

/-- Both heads have overwritten the secret. -/
def eraseEnds (d : Nat) (s : State) : State :=
  match domainOf s d with
  | none => s
  | some x =>
    let s := s |> domainMod d (fun x => { x with erase := none, erasePending := false }) |> bump Reg.KEY_ERASES_COUNT
      |> keyEvent Reg.KEY_EVENTS_ERASED 2
    match x.erase with
    | some (_, some slot) => mbxComplete slot .ok 0 [] s
    | _ => s

/-- The peer cannot be reached: the command completes, and the absent head overwrites its copy at its next join. -/
def eraseWaitsPeer (d : Nat) (s : State) : State :=
  match domainOf s d with
  | none => s
  | some x =>
    let s := s |> domainMod d (fun x => { x with erase := none, erasePending := true }) |> keyEvent Reg.KEY_EVENTS_ERASE_PEER_PENDING 3
    match x.erase with
    | some (_, some slot) => mbxComplete slot .ok 0 [] s
    | _ => s

/-- Erasures told to a peer that has gone since (R397); checked at stroke edges. -/
def erasesWait (s : State) : State :=
  foldS s.keys.domains (fun e s => match e.2.erase with
    | some (_, some _) => if !e.2.secret ∧ !hasSession s then eraseWaitsPeer e.1 s else s
    | _ => s) s

/-- KEY_ERASE_APPLY: once the commands taken before E have drained, the slots are cleared, the secret is overwritten and the peer is
told. On the head that was told, the slots are cleared. -/
def execKeyEraseApply (domain : Nat) (s : State) : Host.Outcome State Fault Refusal :=
  go (live (fun s => match domainOf s domain with
    | none => s
    | some x => (match x.erase with
      | none => s
      | some (t, slot) =>
        if s.stk.ext < t ∨ s.nv.cmds.any (fun c => c.2.p.domain == domain && c.2.stage != .waiting) = true then s
        else if x.secret then
          let s := s |> slotsClear domain |> domainMod domain (fun x => { x with secret := false }) |> ancWrote 0 7
          if hasSession s then pairControl (.erase domain t) s else eraseWaitsPeer domain s
        else if slot.isNone then s |> slotsClear domain |> domainMod domain (fun x => { x with erase := none })
        else s)) s)

/-- An erase that the peer has sent: this head's copy is overwritten. -/
def eraseTold (d t : Nat) (s : State) : State :=
  match domainOf s d with
  | none => s
  | some x =>
    if !x.secret then s
    else s |> domainFalls d false |> domainMod d (fun x => { x with secret := false, erase := some (min t s.stk.ext, none) })
      |> ancWrote 0 7 |> bump Reg.KEY_ERASES_COUNT |> keyEvent Reg.KEY_EVENTS_ERASED 2

/-- The peer has acknowledged an erase. -/
def eraseAcked (d : Nat) (s : State) : State :=
  match domainOf s d with
  | some x => if !x.secret ∧ (x.erasePending ∨ (match x.erase with | some (_, some _) => true | _ => false) = true) then eraseEnds d s else s
  | none => s

/-- Erasures that the joining head has still to make (R397). -/
def erasesTell (s : State) : State :=
  foldS s.keys.domains (fun e s => if e.2.erasePending then pairControl (.erase e.1 s.stk.ext) s else s) s

/-! ### Enrolment (R377 to R379, R401 to R403, R274) -/

/-- KEY_OWNER_ENROL (R378). -/
def execKeyOwnerEnrol (slot : Nat) (hash : List Nat) (sigOk : Bool) (s : State) : Host.Outcome State Fault Refusal :=
  go (mbxRun slot Opc.keyOwnerEnrol (fun s =>
    if s.hw.owner.isSome then refuse .wrongState 0 s
    else if !sigOk then refuse .authFail 0 (authFail s)
    else okWith [] { s with hw := { s.hw with owner := some hash } }) s)

/-- KEY_SVN_COMMIT (R403): the fused minimum rises to the running image's security version. -/
def execKeySvnCommit (slot : Nat) (vendorOk ownerOk : Bool) (s : State) : Host.Outcome State Fault Refusal :=
  go (mbxRun slot Opc.keySvnCommit (fun s =>
    if !vendorOk ∨ !ownerAllows s ownerOk then refuse .authFail 0 (authFail s)
    else
      let svn := match s.boot.running with | some h => h.svn | none => 0
      okWith [] { s with hw := { s.hw with svnMin := max s.hw.svnMin svn } }) s)

/-- KEY_PARTNER_ENROL (R401): the list sent is the list in force. -/
def execKeyPartnerEnrol (slot : Nat) (hashes : List Nat) (ownerOk : Bool) (s : State) : Host.Outcome State Fault Refusal :=
  go (mbxRun slot Opc.keyPartnerEnrol (fun s =>
    if !ownerAllows s ownerOk then refuse .authFail 0 (authFail s)
    else okWith [] { s with keys := { s.keys with partners := hashes } }) s)

/-- KEY_BLADE_ROOT_ENROL (R274): the lists sent are the lists in force. -/
def execKeyBladeRootEnrol (slot : Nat) (roots allowed : List Nat) (ownerOk : Bool) (s : State) : Host.Outcome State Fault Refusal :=
  go (mbxRun slot Opc.keyBladeRootEnrol (fun s =>
    if !ownerAllows s ownerOk then refuse .authFail 0 (authFail s)
    else okWith [] { s with bld := { s.bld with roots := roots, allowed := allowed } }) s)

/-- Type of the message that carries a dedup key over a link (R402). -/
def replFkT : Nat := 14

/-- KEY_FK_SHARE (R402): the dedup key goes over a link whose source group the head owns; the target refuses it unless its replica domain
holds no content record. DETAIL: 1 domain, 2 link. -/
def execKeyFkShare (slot domain link : Nat) (targetEmpty : Bool) (s : State) : Host.Outcome State Fault Refusal :=
  go (mbxRun slot Opc.keyFkShare (onDomain domain fun x s =>
    match linkOf s link with
    | none => refuse .invalidParam 2 s
    | some l =>
      if !x.shareFk ∨ !x.secret ∨ l.p.target then refuse .wrongState 0 s
      else match partsRun s l with
        | [] => refuse .notOwner 0 s
        | k :: _ =>
          if !partUp s (partOf l k) then refuse .peerUnreachable 0 s
          else
            let s := replSend link k replFkT 48 [domain, x.fk] s
            if targetEmpty then okWith [] s else refuse .wrongState 0 s) s)

/-! ### Digest contexts (R383 to R387, R406) -/

/-- A digest context that is free. -/
def ctxFree : DigCtx := ⟨0, 0, false, false, false, 0, false, 0, []⟩

/-- A context of a seat. -/
def ctxOf (s : State) (seat n : Nat) : DigCtx := fgetD s.keys.ctxs (pairKey seat n) ctxFree

/-- Set a context. -/
def setCtx (seat n : Nat) (c : DigCtx) (s : State) : State := { s with keys := { s.keys with ctxs := fset s.keys.ctxs (pairKey seat n) c } }

/-- Words of the result that a read through BAR0 returns (R386, R406). -/
def ctxWord (c : DigCtx) (w : Nat) : Nat :=
  if c.st = 2 ∧ c.hostRead ∧ !c.compareOnly then c.result.getD w 0 else 0

/-- DIG_CTX_SELECT (R406): the context registers load. -/
def digCtxSelect (seat value : Nat) (s : State) : State :=
  let n := value % 64
  let c := ctxOf s seat n
  s |> wr (Reg.DIG_CTX_SELECT_CONTEXT seat) n |> wr (Reg.DIG_CTX_STATE_STATE seat) c.st |> wr (Reg.DIG_CTX_STATE_ALG seat) c.alg
    |> wrB (Reg.DIG_CTX_STATE_NO_PREEMPT seat) (seat == 0 && n == 0) |> wrB (Reg.DIG_CTX_STATE_COMPARE_ONLY seat) c.compareOnly
    |> wrB (Reg.DIG_CTX_STATE_EQUAL seat) c.equal |> wrB (Reg.DIG_CTX_STATE_ERROR seat) c.error
    |> wr (Reg.DIG_CTX_STATE_SOURCE seat) c.source |> wrB (Reg.DIG_CTX_STATE_HOST_READ seat) c.hostRead |> wr (Reg.DIG_CTX_COUNT seat) c.count

/-- DIG_CTX_SELECT. -/
def execDigCtxSelect (seat value : Nat) (s : State) : Host.Outcome State Fault Refusal := go (digCtxSelect seat value s)

/-- A read of DIG_RESULT word `w` (R386, R406): a context that is open has its ERROR bit set and the read counted. -/
def digRead (seat w : Nat) (s : State) : Nat × State :=
  let n := rd s (Reg.DIG_CTX_SELECT_CONTEXT seat)
  let c := ctxOf s seat n
  (ctxWord c w, if c.st = 1 then s |> setCtx seat n { c with error := true } |> wrB (Reg.DIG_CTX_STATE_ERROR seat) true
      |> bump (Reg.DIG_EARLY_READ_COUNT seat)
    else s)

/-- DIG_RESULT_READ. -/
def execDigResultRead (seat word : Nat) (s : State) : Host.Outcome State Fault Refusal :=
  go (
    let r := digRead seat word s
    emit .busRead [0, addrOfBit (Reg.DIG_RESULT_WORD seat word).key, r.1] r.2)

end Sys2Proof.Machine
end

