-- ==== Sys2Proof/Machine/Update.lean ====
section
/-!
DEFINITION. Machine/Update.lean: staged updates, activation and bridge updates (R539 to R557), and the header checks that a staged image
shares with a boot image (R465).
-/

namespace Sys2Proof.Machine

/-! ### Header checks (R463, R465, R469, R547) -/

/-- Bit of this variant in VARIANTS. -/
def variantBit (s : State) : Nat := if s.hw.seats = 2 then 0 else if s.hw.seats = 4 then 1 else 2

/-- The first check of R465 that a header fails, as its reason of *Boot refusals*; `most` is the longest body. -/
def headerRefusal (most : Nat) (h : ImageHeader) (c : HeaderChecks) (s : State) : Option Nat :=
  let slotOk : Bool := match c.vendorSlot with | some n => decide (n < 4) && !bitOf s.hw.rootRevoked n | none => false
  if !c.format then some 0x01
  else if !bitOf h.variants (variantBit s) ∨ rd s Reg.PKG_ID_STEPPING < h.minStepping then some 0x02
  else if h.bodyLen < 17 ∨ most < h.bodyLen then some 0x03
  else if !slotOk ∨ !c.vendorSig then some 0x04
  else if s.hw.owner.isSome ∧ !c.ownerSig then some 0x05
  else if h.svn < s.hw.svnMin then some 0x06
  else if !c.unwrap then some 0x07
  else none

/-- PAIR_MINOR differs by at most one. -/
def minorNear (a b : Nat) : Bool := decide (a ≤ b + 1) && decide (b ≤ a + 1)

/-- The rule of R547 that an image breaks, as its reason of *Update refusals*; the minor version, which has no reason of its own there,
refuses as PAIR_MAJOR. -/
def compatRefusal (u : StagedHeader) (s : State) : Option Nat :=
  match s.boot.running with
  | none => some 0x12
  | some r =>
    let peerOk : Bool := match s.pair.peer with | some p => minorNear u.h.pairMinor p.minor | none => true
    if u.h.pairMajor ≠ r.pairMajor ∨ !minorNear u.h.pairMinor r.pairMinor ∨ !peerOk then some 0x10
    else if u.h.mediaFormat < s.upd.media then some 0x11
    else if u.h.svn < s.hw.svnMin then some 0x06
    else if r.version < u.fromMin then some 0x12
    else none

/-! ### State of the staged image -/

/-- Number of an update state. -/
def updNum : UpdState → Nat
  | .empty => 0 | .receiving => 1 | .verifying => 2 | .verified => 3 | .scheduled => 4 | .activating => 5 | .refused => 6

/-- Show the update in its registers (R557). -/
def updShow (s : State) : State :=
  let u := s.upd
  let f := fun (g : StagedHeader → Nat) => match u.header with | some h => g h | none => 0
  s |> wr Reg.UPD_STATUS_STATE (updNum u.st) |> wrB Reg.UPD_STATUS_PEER_VERIFIED u.peerVerified |> wr Reg.UPD_STATUS_STEP u.step
    |> wr Reg.UPD_STATUS_SEAT (if u.step = 2 then s.hw.seats - 1 - u.handed.length else 0)
    |> wr Reg.UPD_IMAGE_ID_ID (f (·.imageId)) |> wr Reg.UPD_PIECES_RECEIVED u.pieces.length |> wr Reg.UPD_PIECES_TOTAL (f (·.pieces))
    |> wr Reg.UPD_VERSION_VERSION (f (·.h.version)) |> wr Reg.UPD_MEDIA_IN_FORCE u.media |> wr Reg.UPD_MEDIA_STAGED (f (·.h.mediaFormat))
    |> wr Reg.UPD_ACT (if u.st = .scheduled ∨ u.st = .activating then u.at_ else 0)

/-- Change the update. -/
def updMod (f : Upd → Upd) (s : State) : State := updShow { s with upd := f s.upd }

/-- Update events with their enable register (R557). -/
def updEvent (ev : Fld) (bit : Nat) (s : State) : State := event ev Reg.UPD_EVENT_EN_ENABLE bit s

/-- The image is refused (R545, R546). -/
def updRefuse (reason : Nat) (s : State) : State :=
  s |> updMod (fun u => { u with st := .refused }) |> wr Reg.UPD_STATUS_REASON reason |> updEvent Reg.UPD_EVENTS_REFUSED 1

/-- No image is staged: the staging area is free (R546, R551). -/
def updEmpty (s : State) : State :=
  s |> updMod (fun u => { u with
      st := .empty, header := none, pieces := [], at_ := 0, first := false, soloOk := false, step := 0, handed := [], edges := 0
      peerVerified := false, checking := none })
    |> wr Reg.UPD_STATUS_REASON 0

/-- Pieces of an image with a body of this length (R539). -/
def pieceCount (bodyLen : Nat) : Nat := ceilDiv (16384 + bodyLen) 16384

/-- Length of a piece (R541). -/
def pieceLen (u : StagedHeader) (p : Nat) : Nat := min 16384 (16384 + u.h.bodyLen - 16384 * p)

/-! ### Pieces (R541 to R544) -/

/-- PIECE_ACK. -/
def pieceAck (p : PieceMsg) (status : Nat) (s : State) : State := mctpSend .mgmt [0x7F, 2, status, p.imageId, p.piece] s

/-- Take a PIECE (R542 to R546, *Piece status*). A piece 0 with nothing staged starts the header checks; it is answered when they end. -/
def pieceTake (p : PieceMsg) (s : State) : State :=
  if !p.intact then pieceAck p 6 s
  else match s.upd.header with
    | none =>
      if p.piece ≠ 0 then pieceAck p 2 s
      else if p.length ≠ 16384 then pieceAck p 6 s
      else (match s.upd.checking with
        | none => { s with upd := { s.upd with checking := some p.imageId } }
        | some i => if i = p.imageId then s else pieceAck p 4 s)
    | some u =>
      if u.imageId ≠ p.imageId then pieceAck p (if p.piece = 0 then 4 else 2) s
      else if s.upd.st = .refused then pieceAck p 3 s
      else if u.pieces ≤ p.piece ∨ p.length ≠ pieceLen u p.piece then pieceAck p 6 s
      else if s.upd.st = .verifying ∨ s.upd.st = .activating then pieceAck p 4 s
      else if s.upd.pieces.contains p.piece then s |> bump Reg.UPD_DUP_COUNT |> pieceAck p 1
      else
        let l := (s.upd.pieces ++ [p.piece]).mergeSort (· ≤ ·)
        s |> updMod (fun x => { x with pieces := l, st := if l.length = u.pieces then .verifying else x.st }) |> pieceAck p 0

/-- UPD_PIECE. -/
def execUpdPiece (m : MctpIn) (p : PieceMsg) (s : State) : Host.Outcome State Fault Refusal := go (mctpTake m false (pieceTake p) s)

/-- UPD_QUERY (R544): state, reason and the bitmap. -/
def execUpdQuery (m : MctpIn) (imageId : Nat) (s : State) : Host.Outcome State Fault Refusal :=
  go (mctpTake m false (fun s =>
    let l := match s.upd.header with | some u => if u.imageId = imageId then s.upd.pieces else [] | none => []
    mctpSend .mgmt ([0x7F, 4, 0, imageId, updNum s.upd.st, rd s Reg.UPD_STATUS_REASON] ++ l) s) s)

/-- UPD_HEADER_CHECKED (R543): the checks of a staged header end; the area is reserved in the system pool of a side the head owns. -/
def execUpdHeaderChecked (u : StagedHeader) (c : HeaderChecks) (spaceOk : Bool) (s : State) : Host.Outcome State Fault Refusal :=
  go (live (fun s =>
    let p : PieceMsg := ⟨u.imageId, 0, 16384, true⟩
    if s.upd.checking ≠ some u.imageId then s
    else
      let s := { s with upd := { s.upd with checking := none } }
      let bad := match headerRefusal 268419072 u.h c s with
        | some r => some r
        | none => if u.pieces ≠ pieceCount u.h.bodyLen then some 0x01 else compatRefusal u s
      match bad with
      | some r => s |> updMod (fun x => { x with header := some u, pieces := [] }) |> updRefuse r |> pieceAck p 3
      | none =>
        if s.pair.sides = [] ∨ !spaceOk then pieceAck p 5 s
        else s |> updMod (fun x => { x with header := some u, pieces := [0], st := .receiving, peerVerified := false, peerDone := false })
          |> updEvent Reg.UPD_EVENTS_HEADER_ACCEPTED 0 |> pieceAck p 0) s)

/-! ### Verification (R545) -/

/-- UPD_VERIFY_RUN. -/
def execUpdVerifyRun (v : VerifyResult) (s : State) : Host.Outcome State Fault Refusal :=
  go (live (fun s =>
    if s.upd.st ≠ .verifying ∨ !mayRun s 0 .sweep then s
    else
      let s := s |> charge 0 .sweep (4 * s.upd.pieces.length) |> digFeed 0 8 (match s.upd.header with | some u => u.h.bodyLen | none => 0)
      match v with
      | .ok => s |> updMod (fun u => { u with st := .verified }) |> updEvent Reg.UPD_EVENTS_VERIFIED 2
      | .chunkTag l => s |> updMod (fun u => { u with st := .receiving, pieces := u.pieces.filter fun p => !l.contains p })
        |> updEvent Reg.UPD_EVENTS_VERIFY_FAILED 3
      | .refuse r => updRefuse r s) s)

/-! ### Commands (R549, R550, R556) -/

/-- Every piece of an accepted header has been received. -/
def updComplete (s : State) : Bool := match s.upd.header with | some u => s.upd.pieces.length == u.pieces | none => false

/-- UPD_STATUS_GET. -/
def execUpdStatusGet (slot : Nat) (s : State) : Host.Outcome State Fault Refusal :=
  go (mbxRun slot Opc.updStatusGet (fun s =>
    let f := fun (g : StagedHeader → Nat) => match s.upd.header with | some h => g h | none => 0
    okWith [updNum s.upd.st, rd s Reg.UPD_STATUS_REASON, f (·.imageId), f (·.h.version), runVersion s, s.upd.pieces.length, f (·.pieces),
      rd s Reg.UPD_ACT] s) s)

/-- The preconditions of R549 but the time and the peer's word. -/
def updReady (soloOk : Bool) (s : State) : Bool :=
  (s.pair.st == .paired || (soloOk && s.pair.st == .solo)) && s.cox.drill.isNone

/-- UPD_ACTIVATE (R549). -/
def execUpdActivate (slot t : Nat) (soloOk peerConfirms : Bool) (s : State) : Host.Outcome State Fault Refusal :=
  go (mbxRun slot Opc.updActivate (fun s =>
    if t < s.stk.ext + 1000 then refuse .invalidParam 1 s
    else if s.upd.st ≠ .verified ∨ !updReady soloOk s then refuse .wrongState 0 s
    else
      let s := updMod (fun u => { u with peerVerified := s.pair.st == .paired && peerConfirms }) s
      if s.pair.st = .paired ∧ !peerConfirms then refuse .peerUnreachable 0 s
      else okWith [] (s |> updMod (fun u => { u with
          st := .scheduled, at_ := t, first := true, soloOk := soloOk, peerDone := false, edges := 0 })
        |> when (s.pair.st == .paired) (pairControl (.update t false)))) s)

/-- A schedule ends without an activation. -/
def updUnschedule (s : State) : State :=
  if s.upd.st = .scheduled then updMod (fun u => { u with st := .verified, at_ := 0, first := false, edges := 0, peerDone := false }) s else s

/-- UPD_CANCEL (R550). -/
def execUpdCancel (slot : Nat) (s : State) : Host.Outcome State Fault Refusal :=
  go (mbxRun slot Opc.updCancel (fun s =>
    if s.upd.st ≠ .scheduled then refuse .wrongState 0 s
    else okWith [] (s |> updUnschedule |> when (s.pair.st == .paired) (pairControl (.update s.upd.at_ true)))) s)

/-- UPD_DISCARD (R546). -/
def execUpdDiscard (slot : Nat) (s : State) : Host.Outcome State Fault Refusal :=
  go (mbxRun slot Opc.updDiscard (fun s =>
    if s.upd.st = .scheduled ∨ s.upd.st = .verifying ∨ s.upd.st = .activating then refuse .busy 0 s else okWith [] (updEmpty s)) s)

/-- UPD_EXPORT: the embedded boot image of a VERIFIED image. -/
def execUpdExport (slot : Nat) (s : State) : Host.Outcome State Fault Refusal :=
  go (mbxRun slot Opc.updExport (fun s =>
    match s.upd.header with
    | some u =>
      if s.upd.st ≠ .verified ∧ s.upd.st ≠ .scheduled then refuse .wrongState 0 s
      else needsHost (fun s => okWith [] (toHost slot [u.imageId, u.h.version, u.h.digest] s)) s
    | none => refuse .wrongState 0 s) s)

/-- UPD_BITMAP_GET. -/
def execUpdBitmapGet (slot : Nat) (s : State) : Host.Outcome State Fault Refusal :=
  go (mbxRun slot Opc.updBitmapGet (needsHost fun s => okWith [] (toHost slot s.upd.pieces s)) s)

/-- UPD_VERIFY. -/
def execUpdVerify (slot : Nat) (s : State) : Host.Outcome State Fault Refusal :=
  go (mbxRun slot Opc.updVerify (fun s =>
    if s.upd.st = .verifying then refuse .busy 0 s
    else if !updComplete s ∨ (s.upd.st ≠ .receiving ∧ s.upd.st ≠ .verified) then refuse .wrongState 0 s
    else okWith [] (updMod (fun u => { u with st := .verifying }) s)) s)

/-! ### The peer's schedule (R549 to R551) -/

/-- A schedule, or its withdrawal, from the peer: the peer activates first. -/
def updTold (t : Nat) (cancel : Bool) (s : State) : State :=
  if cancel then updUnschedule s
  else if s.upd.st = .verified then
    updMod (fun u => { u with st := .scheduled, at_ := t, first := false, peerVerified := true, peerDone := false, edges := 0 }) s
  else s

/-- The peer's activation has completed. -/
def updPeerDone (reads minor : Nat) (s : State) : State :=
  { s with pair := { s.pair with peer := s.pair.peer.map fun p => { p with reads := reads, minor := minor } } }
    |> updMod (fun u => { u with peerDone := true, edges := if u.st = .scheduled then 0 else u.edges })

/-! ### Activation (R551 to R553) -/

/-- The schedule's steps begin, when the preconditions still hold (step 1). -/
def actBegin (s : State) : State :=
  let ok : Bool := match s.upd.header with | some u => (compatRefusal u s).isNone | none => false
  if updReady s.upd.soloOk s && ok then updMod (fun u => { u with st := .activating, step := 1, handed := [], edges := 0, old := s.boot.running }) s
  else s |> updUnschedule |> updEvent Reg.UPD_EVENTS_ABANDONED 5

/-- An activation ends without completing: the image stays VERIFIED, and the peer's schedule is withdrawn. -/
def actEnds (s : State) : State :=
  s |> pairControl (.update s.upd.at_ true)
    |> updMod (fun u => { u with st := .verified, step := 0, handed := [], edges := 0, at_ := 0, first := false, peerDone := false, old := none })

/-- Abandoned without rollback (R553). -/
def actAbandon (s : State) : State := s |> actEnds |> updEvent Reg.UPD_EVENTS_ABANDONED 5

/-- Rollback (R553): the seats already handed over return to the old code, and the cox role to seat 0. -/
def actRollback (s : State) : State :=
  let s := if s.upd.step = 4 ∨ s.upd.step = 5 then
      { s with boot := { s.boot with running := s.upd.old } } |> when (s.cox.active != 0) (coxMoves 0)
        |> wr Reg.MBX_STATUS_ACTIVATING 0 |> wr Reg.MBX_STATUS_READY 1 |> wr Reg.MBX_COX_STANDBY_READY 1
    else s
  s |> actEnds |> updEvent Reg.UPD_EVENTS_ROLLED_BACK 6

/-- Measurement 4 after a component (R552). -/
def measExtend (m d : Nat) : Nat := Config.digest 1 (m * 2 ^ 384 + d)

/-- Bridges of the blades whose fences this head holds. -/
def bridgesHeld (s : State) : List Nat := (List.range (slotCount s)).filter fun n => isSet s (Reg.BLD_SLOT_STATUS_OWNED n)

/-- Step 7: the completion goes to the peer, the staging area is free. -/
def actComplete (s : State) : State :=
  let done := s.upd.peerDone
  let both := match s.upd.header with | some u => bitOf u.components 1 | none => false
  let fw := match s.upd.header with | some u => u.bridge | none => 0
  let v := match s.boot.running with | some h => (h.mediaFormat, h.pairMinor) | none => (0, 0)
  let s := s |> pairControl (.updateDone v.1 v.2) |> updEmpty
    |> updMod (fun u => { u with peerDone := done, old := none, bridges := if both then bridgesHeld s else [], fwMeas := fw })
  s |> wr Reg.UPD_BRIDGES_PENDING_COUNT s.upd.bridges.length |> bump Reg.UPD_ACTIVATIONS_COUNT |> updEvent Reg.UPD_EVENTS_ACTIVATED 4

/-- One edge of the step in progress (*Activation timeline*). -/
def actStep (act : ActProgress) (s : State) : State :=
  let u := s.upd
  let next := fun n => updMod fun u => { u with step := n, edges := 0 }
  let lost := s.pair.st != .paired && !(u.soloOk && s.pair.st == .solo)
  if u.step < 4 && (lost || 0 < rd s Reg.HLD_STATUS_PHASE) then actAbandon s
  else match act with
    | .failed =>
      if u.step = 1 then actAbandon s
      else if u.step < 6 then actRollback s
      else if u.step = 6 then s |> mbxEvent Reg.MBX_EVENTS_NO_STANDBY true |> next 7
      else actComplete s
    | .running => if u.step = 7 then actComplete s else updMod (fun u => { u with edges := u.edges + 1 }) s
    | .done =>
      if u.step = 1 then next 2 s
      else if u.step = 2 then
        let s := updMod (fun u => { u with handed := u.handed ++ [s.hw.seats - 1 - u.handed.length] }) s
        if s.upd.handed.length = s.hw.seats then next 3 s else s
      else if u.step = 3 then
        -- Step 4: the role passes to seat 1, which runs the new cox.
        { s with boot := { s.boot with running := match u.header with | some x => some x.h | none => s.boot.running } }
          |> when (s.cox.active == 0) (coxMoves 0) |> wr Reg.MBX_COX_STANDBY_READY 0 |> wr Reg.MBX_STATUS_READY 0
          |> wr Reg.MBX_STATUS_ACTIVATING 1 |> next 4
      else if u.step = 4 then
        s |> wr Reg.MBX_STATUS_READY 1 |> wr Reg.MBX_STATUS_ACTIVATING 0
          |> wr Reg.UPD_LAST_GAP_MICROSECONDS ((u.edges + 1) * rd s Reg.STK_PERIOD_TICKS / 100) |> next 5
      else if u.step = 5 then
        if 99 ≤ u.edges then next 6 s else updMod (fun u => { u with edges := u.edges + 1 }) s
      else if u.step = 6 then
        let m := match u.header with
          | some x =>
            let m := if bitOf x.components 0 then measExtend u.meas4 x.h.digest else u.meas4
            if bitOf x.components 1 then measExtend m x.bridge else m
          | none => u.meas4
        s |> when (s.cox.active != 0) (coxMoves 0) |> wr Reg.MBX_COX_STANDBY_READY 1 |> updMod (fun u => { u with meas4 := m }) |> next 7
      else actComplete s

/-- The update at a stroke edge: the schedule's start on the first head at T, on the second 100 strokes after the first has completed; then
the step in progress, and what waited for it (R552). -/
def updEdge (act : ActProgress) (s : State) : State :=
  let u := s.upd
  if u.st = .scheduled then
    if u.first then (if u.at_ ≤ s.stk.ext then actBegin s else s)
    else if u.peerDone then
      let s := updMod (fun u => { u with edges := u.edges + 1 }) s
      if 100 ≤ s.upd.edges then actBegin s else s
    else s
  else if u.st = .activating then s |> actStep act |> heldServe
  else s

/-! ### Bridges (R554, R555) -/

/-- Show how many blades are still to be updated (R555). -/
def bridgesShow (s : State) : State :=
  let n := s.upd.bridges.length + s.upd.restarts.length
  if n = rd s Reg.UPD_BRIDGES_PENDING_COUNT then s
  else s |> wr Reg.UPD_BRIDGES_PENDING_COUNT n |> when (n == 0) (updEvent Reg.UPD_EVENTS_BRIDGES_DONE 7)

/-- Every group with a share on a blade is HEALTHY, and no other bridge of it restarts. -/
def bridgeFree (s : State) (slot : Nat) : Bool :=
  s.par.groups.all fun g =>
    let on := fun n => g.2.geoms.any fun x => x.2.shares.any fun sh => sh.slot == n
    !on slot || (groupState g.2 == 1 && !s.upd.restarts.any fun r => on r.1)

/-- BRIDGE_UPDATE (R554). -/
def execBridgeUpdate (slot : Nat) (measurementListed : Bool) (s : State) : Host.Outcome State Fault Refusal :=
  go (live (fun s =>
    if !s.upd.bridges.contains slot ∨ !s.upd.peerDone ∨ s.upd.st = .activating then s
    else if !measurementListed then
      s |> updMod (fun u => { u with bridges := u.bridges.filter (· != slot) }) |> logFw 0 554 [slot] |> bridgesShow
    else if !bridgeFree s slot ∨ !isSet s (portReg Reg.OAR_PORT_STATUS_SESSION slot) ∨ !isSet s (Reg.BLD_SLOT_STATUS_OWNED slot) then s
    else
      let r : BridgeRestart := ⟨s.stk.ext, s.upd.fwMeas, false, []⟩
      s |> updMod (fun u => { u with bridges := u.bridges.filter (· != slot), restarts := fset u.restarts slot r })
        |> restartingSet slot true |> redundancy |> emit .oar [slot, 4, s.upd.fwMeas]) s)

/-- BRIDGE_RESTART_TIMEOUT (R555). -/
def execBridgeRestartTimeout (slot : Nat) (s : State) : Host.Outcome State Fault Refusal :=
  go (live (fun s => match fget s.upd.restarts slot with
    | some r => if r.started + 32000 ≤ s.stk.ext ∧ !r.back then s |> restartLost slot |> bridgesShow else s
    | none => s) s)

end Sys2Proof.Machine
end

