-- ==== Sys2Proof/Machine/Namespaces.lean ====
section
/-!
DEFINITION. Machine/Namespaces.lean: namespaces, subsystems, ANA groups, tenants and secure discard (R82, R90, R181, R182, R309, R381, R420).
-/

namespace Sys2Proof.Machine

/-! ### Namespaces -/

/-- A dictionary slot that a tenant's namespace may use (R118). -/
def dictUsable (s : State) (tenant d : Nat) : Bool :=
  d == 256 || (decide (d < 256) && isSet s (Reg.CMP_DICT_LOADED 0 d) && !isSet s (Reg.CMP_DICT_RETIRING 0 d) &&
    (isSet s (Reg.CMP_DICT_SYSTEM 0 d) || rd s (Reg.CMP_DICT_TENANT 0 d) == tenant))

/-- The first parameter of NS_CREATE that is out of range or does not fit the others, numbered in the order of *Command catalogue*
(1 tenant to 18 temperature; 0 the namespace number). -/
def nsBad (s : State) (p : NsParams) : Option Nat :=
  let domOk : Bool := match domainOf s p.domain with | some x => x.secret && x.erase.isNone && x.tenant == p.tenant | none => false
  let subOk : Bool := match fget s.nv.subsys p.subsys with | some x => x.tenant == p.tenant | none => false
  let poolOk : Bool := match groupOf s p.pool with | some g => g.side == p.side | none => false
  if !fhas s.nv.tenants p.tenant ∨ !domOk then some 1
  else if !subOk then some 2
  else if 2 ≤ p.side then some 3
  else if fget s.nv.anas p.ana ≠ some p.side then some 4
  else if !poolOk then some 5
  else if p.size = 0 ∨ 281474976710656 < p.size then some 6
  else if !([0, 8, 16, 64].contains p.metaLen) then some 7
  else if 3 < p.pi ∨ (p.pi ≠ 0 ∧ p.metaLen ≠ piLen p ∧ p.metaLen ≠ 64) then some 8
  else if p.zoned ∧ !([65536, 262144, 524288].contains p.zoneSize) then some 10
  else if !dictUsable s p.tenant p.dict then some 13
  else if 256 < p.atomic then some 15
  else if 4096 ≤ p.loop ∨ loopTaken s p.loop = true then some 16
  else if 4 ≤ p.cls then some 17
  else none

/-- NS_CREATE. -/
def execNsCreate (slot nsid : Nat) (p : NsParams) (s : State) : Host.Outcome State Fault Refusal :=
  go (mbxRun slot Opc.nsCreate (fun s =>
    if nsid = 0 ∨ 4294967295 ≤ nsid ∨ (nsOf s nsid).isSome ∨ fhas s.map.releasing nsid = true then refuse .invalidParam 0 s
    else match nsBad s p with
      | some n => refuse .invalidParam n s
      | none =>
        if !ownsSide s p.side then refuse .notOwner 0 s
        else if (match groupOf s p.pool with | some g => g.readOnly | none => false) then refuse .readOnly 0 s
        else okWith [] (s |> setNs nsid ⟨⟨0, p, .opened, 0⟩, none, s.stk.ext, none, false⟩ |> objectTell (.ns nsid p))) s)

/-- A namespace a command names, which this head must own (R415). -/
def onNs (nsid : Nat) (f : Ns → State → Sts × Nat × List Nat × State) (s : State) : Sts × Nat × List Nat × State :=
  match nsOf s nsid with
  | none => refuse .invalidParam 1 s
  | some n => if ownsSide s n.cur.p.side then f n s else refuse .notOwner 0 s

/-- NS_DELETE (R181): BUSY while it is in a consistency group. -/
def execNsDelete (slot nsid : Nat) (s : State) : Host.Outcome State Fault Refusal :=
  go (mbxRun slot Opc.nsDelete (onNs nsid fun n s =>
    if n.cg.isSome then refuse .busy 0 s
    else okWith [] (s |> nsRemove nsid |> objectTell (.nsGone nsid) |> retireCheck)) s)

/-- Entries of a namespace in a state that counts as used space. -/
def usedEntries (s : State) (nsid : Nat) : Nat :=
  (dirsOf s nsid).foldl (fun n d => n + countWhere (fgetD s.map.pages d.2.page []) fun _ e => entSt e == .mapped || entSt e == .dealloc) 0

/-- NS_INFO: admission, size, used blocks, metadata bytes, version epoch, and whether a previous version is unretired. -/
def execNsInfo (slot nsid : Nat) (s : State) : Host.Outcome State Fault Refusal :=
  go (mbxRun slot Opc.nsInfo (fun s =>
    match nsOf s nsid with
    | none => refuse .invalidParam 1 s
    | some n =>
      let adm := match n.cur.adm with | .opened => 0 | .held => 1 | .readOnly => 2
      okWith [adm, n.cur.p.size, usedEntries s nsid, n.cur.p.metaLen, n.cur.epoch, b2n n.prev.isSome] s) s)

/-! ### Subsystems and ANA groups -/

/-- Store a subsystem and tell the peer. -/
def subsysStore (sub : Nat) (x : Subsys) (s : State) : State :=
  { s with nv := { s.nv with subsys := fset s.nv.subsys sub x } } |> objectTell (.subsys sub x.tenant x.nqn x.hosts)

/-- SUBSYS_CREATE (R81). DETAIL: 1 the number, 2 tenant, 3 NQN. -/
def execSubsysCreate (slot sub nqn tenant : Nat) (s : State) : Host.Outcome State Fault Refusal :=
  go (mbxRun slot Opc.subsysCreate (fun s =>
    if 4096 ≤ sub ∨ fhas s.nv.subsys sub = true then refuse .invalidParam 1 s
    else if 4096 ≤ s.nv.subsys.length then refuse .noResource 0 s
    else if !fhas s.nv.tenants tenant then refuse .invalidParam 2 s
    else if nqn = 0 ∨ s.nv.subsys.any (fun e => e.2.nqn == nqn) = true then refuse .invalidParam 3 s
    else okWith [] (subsysStore sub ⟨tenant, nqn, []⟩ s)) s)

/-- SUBSYS_HOSTS_SET (R82). -/
def execSubsysHostsSet (slot sub : Nat) (hosts : List Nat) (s : State) : Host.Outcome State Fault Refusal :=
  go (mbxRun slot Opc.subsysHostsSet (fun s =>
    match fget s.nv.subsys sub with
    | none => refuse .invalidParam 1 s
    | some x => okWith [] (subsysStore sub { x with hosts := hosts } s)) s)

/-- ANA_GROUP_CREATE (R309): home side; NOT_OWNER for a side that the peer owns. -/
def execAnaGroupCreate (slot ana side : Nat) (s : State) : Host.Outcome State Fault Refusal :=
  go (mbxRun slot Opc.anaGroupCreate (fun s =>
    if ana = 0 ∨ 4096 ≤ ana ∨ fhas s.nv.anas ana = true then refuse .invalidParam 1 s
    else if 2 ≤ side then refuse .invalidParam 2 s
    else if !ownsSide s side then refuse .notOwner 0 s
    else okWith [] ({ s with nv := { s.nv with anas := fset s.nv.anas ana side } } |> ownCreate false ana side)) s)

/-! ### Tenants -/

/-- Store a tenant and tell the peer. -/
def tenantStore (t : Nat) (x : Tenant) (s : State) : State :=
  { s with nv := { s.nv with tenants := fset s.nv.tenants t x } } |> objectTell (.tenant t x.domain x.sprint x.ranges)

/-- TENANT_CREATE: with its key domain, which bears its number (R381). A domain still being erased keeps the number busy. -/
def execTenantCreate (slot tenant : Nat) (sprint : Bool) (s : State) : Host.Outcome State Fault Refusal :=
  go (mbxRun slot Opc.tenantCreate (fun s =>
    if 4095 ≤ tenant ∨ fhas s.nv.tenants tenant = true then refuse .invalidParam 1 s
    else match domainOf s tenant with
      | none => okWith [] (s |> domainNew tenant tenant 0 false false |> tenantStore tenant ⟨[], tenant, sprint⟩)
      | some x =>
        if x.erasePending ∨ x.erase.isSome then refuse .busy 0 s
        else if x.secret then okWith [] (tenantStore tenant ⟨[], tenant, sprint⟩ s)
        else okWith [] (s |> domainNew tenant tenant ((x.gen + 1) % 65536) false false |> tenantStore tenant ⟨[], tenant, sprint⟩)) s)

/-- TENANT_DELETE: BUSY while the tenant has namespaces; its subsystems go with it, and its key domain is erased only by command. -/
def execTenantDelete (slot tenant : Nat) (s : State) : Host.Outcome State Fault Refusal :=
  go (mbxRun slot Opc.tenantDelete (fun s =>
    if !fhas s.nv.tenants tenant then refuse .invalidParam 1 s
    else if s.nv.ns.any (fun n => n.2.cur.p.tenant == tenant) = true then refuse .busy 0 s
    else okWith [] ({ s with nv := { s.nv with
        tenants := fdel s.nv.tenants tenant, subsys := fkeep s.nv.subsys fun _ x => x.tenant != tenant } }
      |> objectTell (.tenantGone tenant))) s)

/-- TENANT_ADDR_SET (R82). -/
def execTenantAddrSet (slot tenant : Nat) (ranges : List (Nat × Nat)) (s : State) : Host.Outcome State Fault Refusal :=
  go (mbxRun slot Opc.tenantAddrSet (fun s =>
    match fget s.nv.tenants tenant with
    | none => refuse .invalidParam 1 s
    | some x =>
      if ranges.any (fun r => decide (r.2 < r.1)) then refuse .invalidParam 2 s
      else okWith [] (tenantStore tenant { x with ranges := ranges } s)) s)

/-! ### Secure discard (R182) -/

/-- Deallocate and release every entry of a namespace, and drop its zones' descriptors. -/
def entriesRelease (nsid : Nat) (s : State) : State :=
  let seat := homeSeat s nsid
  let s := foldS (dirsOf s nsid) (fun d s =>
    foldS (fgetD s.map.pages d.2.page []) (fun e s =>
      let lba := dirIdx d.1 * pageEnts + e.1
      if entSt e.2 = .mapped ∨ entSt e.2 = .dealloc then
        let s := commitEnt nsid lba entReset s
        dlogAdd seat (delta .release nsid lba e.2.handle (entAt s nsid lba).replay) s
      else s) s) s
  { s with map := { s.map with zones := fmapV s.map.zones fun k z =>
      if k / 4294967296 = nsid then { z with st := 0, wp := 0, acc := 0, segs := [], zeros := [] } else z } }

/-- The directories of a snapshot image are released at once. -/
def imageRelease (id : Nat) (s : State) : State :=
  match fget s.snp.snaps id with
  | none => s
  | some x =>
    let s := snapDrop id s
    foldS (x.owners.filter (· != 0)) (fun o s => foldS (dirsOf s o) (fun d s => releasePage o d.1 s) s |> ownerDone o) s

/-- An extent whose header names the target, live or dead. -/
def extOf (target : Nat) (tenant : Bool) (e : Ext) : Bool := if tenant then e.tenant == target else e.nsid == target

/-- Rows of a pool in the bands that hold an extent of the target: a band is what an erase reaches. -/
def discardSet (s : State) (pool : Nat) (g : Group) (target : Nat) (tenant : Bool) : List Nat :=
  let bands := ((s.par.exts.filter fun e => e.2.pool == pool && extOf target tenant e.2).map fun e => bandOf g e.2.row).eraseDups
  (g.rows.filter fun r => bands.contains (bandOf g r.1)).map (·.1)

/-- A secure discard starts: entries released, open rows of the bands sealed, their rows queued for collection, the target's haul-out
images erased. -/
def discardStart (slot target : Nat) (tenant : Bool) (s : State) : State :=
  let nss := (s.nv.ns.filter fun n => if tenant then n.2.cur.p.tenant == target else n.1 == target).map (·.1)
  let s := foldS nss entriesRelease s
  let s := if tenant then foldS (s.snp.snaps.filter fun e => e.2.tenant == target && e.2.taken && !e.2.deleted) (fun e s => imageRelease e.1 s) s else s
  let sets := s.par.groups.map fun g => (g.1, discardSet s g.1 g.2 target tenant)
  let s := foldS sets (fun x s => foldS x.2 (fun r s => s |> rowClose x.1 r true |> rowMod x.1 r (fun r => { r with ahead := true, busy := true })) s) s
  let rows := sets.foldl (fun (l : List Nat) x => l ++ x.2.map (pairKey x.1)) []
  { s with
    map := { s.map with discard := some ⟨slot, target, tenant, rows, 0⟩ }
    pwr := { s.pwr with images := fkeep s.pwr.images fun _ i => !(i.recs.any fun d => nss.contains d.nsid) } }

/-- NS_SECURE_DISCARD and TENANT_SECURE_DISCARD: in service mode only; complete after the last erase. -/
def discardRun (slot target : Nat) (tenant ok : Bool) (s : State) : Option (Sts × Nat × List Nat) × State :=
  if serviceMode s = 0 then (some (.wrongState, 0, []), s)
  else if !ok then (some (.invalidParam, 1, []), s)
  else if s.map.discard.isSome then (some (.busy, 0, []), s)
  else (none, discardStart slot target tenant s)

/-- NS_SECURE_DISCARD. -/
def execNsSecureDiscard (slot nsid : Nat) (s : State) : Host.Outcome State Fault Refusal :=
  go (s |> mbxBegin slot Opc.nsSecureDiscard (fun s =>
    match nsOf s nsid with
    | some n => if ownsSide s n.cur.p.side then discardRun slot nsid false true s else (some (.notOwner, 0, []), s)
    | none => discardRun slot nsid false false s) |> discardCheck)

/-- TENANT_SECURE_DISCARD. -/
def execTenantSecureDiscard (slot tenant : Nat) (s : State) : Host.Outcome State Fault Refusal :=
  go (s |> mbxBegin slot Opc.tenantSecureDiscard (discardRun slot tenant true (fhas s.nv.tenants tenant)) |> discardCheck)

/-- A secure discard is aborted (R414): the rows already collected stay erased. -/
def discardAbort (s : State) : State :=
  match s.map.discard with
  | none => s
  | some d =>
    let s := foldS d.rows (fun k s => rowMod (keyHi k) (keyLo k) (fun r => { r with ahead := false, busy := false }) s) s
    { s with map := { s.map with discard := none } }

end Sys2Proof.Machine
end

