-- ==== Sys2Proof/Machine/Pair.lean ====
section
/-!
DEFINITION. Machine/Pair.lean: the pair's commands: lanes, frames sent and received, claims, takeover, failback and the pair mailbox
commands (R293 to R331).
-/

namespace Sys2Proof.Machine

/-! ### Lanes (R295) -/

/-- PAIR_LANE_TRAINED: the lane carries frames; a failed lane starts its 1,000 strokes. -/
def execPairLaneTrained (seat : Nat) (s : State) : Host.Outcome State Fault Refusal :=
  go (if s.hw.seats ≤ seat ∨ !coxRuns s ∨ (lane9 s seat).trainedAt.isSome then s
    else s |> laneMod seat (fun l => { l with trainedAt := some s.stk.ext, lostAt := none })
      |> when (rd s (Reg.PAIR_LANE_STATUS_STATE seat) != 3) (wr (Reg.PAIR_LANE_STATUS_STATE seat) 2) |> showRoutes)

/-- PAIR_LANE_TRAINING_LOST: the lane carries no frame, and fails unless it trains again within 100 strokes. -/
def execPairLaneTrainingLost (seat : Nat) (s : State) : Host.Outcome State Fault Refusal :=
  go (if (lane9 s seat).trainedAt.isNone then s
    else s |> laneMod seat (fun l => { l with trainedAt := none, lostAt := if rd s (Reg.PAIR_LANE_STATUS_STATE seat) = 2 then some s.stk.ext else none })
      |> when (rd s (Reg.PAIR_LANE_STATUS_STATE seat) == 2) (wr (Reg.PAIR_LANE_STATUS_STATE seat) 1) |> showRoutes)

/-- PAIR_LANE_FAIL: 100 strokes untrained. -/
def execPairLaneFail (seat : Nat) (s : State) : Host.Outcome State Fault Refusal :=
  go (match (lane9 s seat).lostAt with
    | some t => if t + 100 ≤ s.stk.ext then laneFails seat s else s
    | none => s)

/-- PAIR_LANE_RETURN: 1,000 strokes trained since it failed: the stream returns to its lane. -/
def execPairLaneReturn (seat : Nat) (s : State) : Host.Outcome State Fault Refusal :=
  go (match (lane9 s seat).trainedAt with
    | some t =>
      if rd s (Reg.PAIR_LANE_STATUS_STATE seat) = 3 ∧ !(lane9 s seat).disabled ∧ t + 1000 ≤ s.stk.ext then
        s |> wr (Reg.PAIR_LANE_STATUS_STATE seat) 2 |> showRoutes |> pairEvent Reg.PAIR_EVENTS_LANE_RESTORED 2
      else s
    | none => s)

/-! ### Frames -/

/-- PAIR_FRAME_SEND (R297). -/
def execPairFrameSend (lane tick : Nat) (s : State) : Host.Outcome State Fault Refusal := go (running (frameSend lane tick) s)

/-- PAIR_HELLO (R312, R314). -/
def execPairHello (seat : Nat) (h : Hello) (s : State) : Host.Outcome State Fault Refusal := go (running (helloTake seat h) s)

/-- PAIR_EXCHANGE (R301, R314 step 3): from the first join on, the anchor store holds the pair KEK (R381, R473). -/
def execPairExchange (seat : Nat) (ok : Bool) (x : ExchangeSeen) (s : State) : Host.Outcome State Fault Refusal :=
  go (running (fun s =>
    if !laneUp s seat then s
    else
      let s := s |> strokeStamp x.stroke |> exchangeTake ok x.sameOwner
      if s.pair.step = 4 ∧ ok ∧ x.sameOwner then s |> when (!isSet s Reg.KEY_STATUS_PAIR_KEK) (ancWrote 0 6) |> wr Reg.KEY_STATUS_PAIR_KEK 1 |> erasesTell else s) s)

/-- PAIR_HEARTBEAT (R302, R316). -/
def execPairHeartbeat (seat : Nat) (auth : Bool) (b : Beat) (s : State) : Host.Outcome State Fault Refusal :=
  go (running (fun s =>
    if !hasSession s ∨ !laneUp s seat then s
    else if !auth then s |> bump (Reg.PAIR_LANE_AUTH_FAIL_COUNT seat) |> pairFault seat 0x0A
    else s |> bumpN (Reg.PAIR_LANE_RX_BYTES seat) 144 |> heartbeatTake b) s)

/-- What the peer's acknowledgement of a frame of this head completes. -/
def loadAcked (l : PairLoad) (s : State) : State :=
  match l with
  | .control (.snap id _ _ false) => snapConfirm id s
  | .control (.erase d _) => eraseAcked d s
  | _ => s

/-- The header of a sealed frame (R301 to R303): whether it opened, its refusal and acknowledgement taken. -/
def headerTake (seat : Nat) (f : PHdr) (s : State) : Bool × State :=
  let r := rxOpen seat f s
  if r.1 then
    let a := ackTake seat f r.2
    (true, foldS a.1 loadAcked a.2)
  else r

/-- A sequenced frame: what it delivers when it is accepted (R302). -/
def streamTake (seat : Nat) (f : PHdr) (body : State → State) (s : State) : State :=
  live (fun s =>
    let r := headerTake seat f s
    if r.1 then
      let q := seqTake seat f.lane f.seq r.2
      if q.1 then body q.2 else q.2
    else r.2) s

/-- A delivered CONTROL frame. -/
def ctlTake (seat : Nat) (c : Ctl) (s : State) : State :=
  match c with
  | .own pool i owner epoch stroke => ownTake (if pool then 4096 + i else i) owner epoch stroke s
  | .notice side gen ext r l => noticeTake side gen ext r l s
  | .failback f cancel => failbackTake f cancel s
  | .anchors => failbackOut s
  | .fences e => failbackIn e s
  | .object o => objectTake o s
  | .viewCurrent => { s with pair := { s.pair with peerCurrent := true } }
  | .rekey k false =>
    if k = ((lane9 s seat).rxKey + 1) % 65536 then
      s |> laneMod seat (fun l => { l with rxNext := true }) |> pairEnqueue seat clsC (.control (.rekey k true)) 64
    else s
  | .rekey k true =>
    if (lane9 s seat).rekey = some k then
      s |> wr (Reg.PAIR_LANE_KEY_KEY_ID seat) (k % 65536) |> wr (Reg.PAIR_LANE_KEY_FRAMES seat) 0 |> laneMod seat (fun l => { l with rekey := none })
    else s
  | .windows c sw g t => { s with pair := { s.pair with windows := some (c, sw, g, t) } }
  | .snap id cg t r => snapTold id cg t r s
  | .erase d t => eraseTold d t s
  | .roll d g t => rollTold d g t s
  | .update t cancel => updTold t cancel s
  | .updateDone r m => updPeerDone r m s

/-- PAIR_CONTROL (R299, R301, R308, R309, R326). -/
def execPairControl (seat : Nat) (f : PHdr) (c : Ctl) (s : State) : Host.Outcome State Fault Refusal := go (streamTake seat f (ctlTake seat c) s)

/-- PAIR_JOURNAL (R126, R127, R305). -/
def execPairJournal (seat : Nat) (f : PHdr) (recs : List Delta) (s : State) : Host.Outcome State Fault Refusal :=
  go (streamTake seat f (fun s =>
    let l := lane9 s seat
    if f.valid && recs.all journalForm && recs.all journalTags && orderOk l.lastGroup (l.dropped ++ l.held.map (·.1)) recs then journalTake seat recs s
    else s |> tagsCount seat recs |> frameRefuse seat f.seq (recs.map (·.group)).eraseDups) s)

/-- PAIR_ACK (R303). -/
def execPairAck (seat : Nat) (f : PHdr) (s : State) : Host.Outcome State Fault Refusal := go (running (fun s => (headerTake seat f s).2) s)

/-- PAIR_NAK (R304). -/
def execPairNak (seat : Nat) (f : PHdr) (s : State) : Host.Outcome State Fault Refusal :=
  go (running (fun s =>
    let r := headerTake seat f s
    if r.1 then r.2 |> bump (Reg.PAIR_LANE_NAK_COUNT seat) |> resendAll seat else r.2) s)

/-- PAIR_MAP_SYNC (R307, R305). -/
def execPairMapSync (seat : Nat) (f : PHdr) (page : Nat) (recs : List Delta) (rows : List (Nat × Nat)) (s : State) : Host.Outcome State Fault Refusal :=
  go (streamTake seat f (fun s => if f.valid && recs.all syncForm then syncTake seat page recs rows s else frameRefuse seat f.seq [] s) s)

/-- Records that come back to the side they are about (R166): applied under R156; an extent named now whose row is not known here is
appended anew. -/
def bulkOwn (seat : Nat) (recs : List Delta) (s : State) : State :=
  foldS recs (fun d s =>
    let s := deltaReplay seat d s
    match d.record, d.ext with
    | some r, some e =>
      if !fhas s.par.exts r.extent && extLive { s with par := { s.par with exts := fset s.par.exts r.extent e } } r.extent e then
        { s with par := { s.par with exts := fset s.par.exts r.extent e } } |> rowReplay e.pool e.row seat streamHot
          |> rowMod e.pool e.row (fun r => if rowUnsettled r then { r with st := .programmed, left := [], verify := true } else r)
          |> rowRewrite e.pool e.row
      else s
    | _, _ => s) s

/-- PAIR_BULK (R314 step 6, R326): records of sides this head owns or has recovered come home; the others build the standby view. -/
def execPairBulk (seat : Nat) (f : PHdr) (recs : List Delta) (objs : List CfgObj) (s : State) : Host.Outcome State Fault Refusal :=
  go (streamTake seat f (fun s =>
    if !(f.valid && recs.all journalTags) then s |> tagsCount seat recs |> frameRefuse seat f.seq (recs.map (·.group)).eraseDups
    else
      let s := foldS objs objectTake s
      let own := recs.filter fun d => (s.pair.sides ++ s.pair.recovered).contains (deltaSide s d)
      let other := recs.filter fun d => !(s.pair.sides ++ s.pair.recovered).contains (deltaSide s d)
      s |> bulkOwn seat own |> viewApply seat other) s)

/-- PAIR_ACK_TIMER (R303): an ACK frame waits for the lane. -/
def execPairAckTimer (seat : Nat) (s : State) : Host.Outcome State Fault Refusal :=
  go (if hasSession s && (lane9 s seat).owed then bareQueue seat 6 s else s)

/-- PAIR_RETX_TIMEOUT (R304): the first unacknowledged frame has waited through PAIR_RETX.STROKES edges. -/
def execPairRetxTimeout (seat : Nat) (s : State) : Host.Outcome State Fault Refusal :=
  go (running (fun s => match (lane9 s seat).unacked with
    | f :: _ => if max 1 (rd s (Reg.PAIR_RETX_STROKES seat)) ≤ f.waited ∧ !(lane9 s seat).again.contains f.seq then resendAll seat s else s
    | [] => s) s)

/-- C_WINDOW_CLOSE (R317, R318). -/
def execCWindowClose (s : State) : Host.Outcome State Fault Refusal := go (running windowClose s)

/-! ### Claims and fences (R279, R315, R321, R322) -/

/-- WITNESS_REPLY (R321). -/
def execWitnessReply (slot term side : Nat) (accepted : Bool) (s : State) : Host.Outcome State Fault Refusal :=
  go (running (witnessReply slot term side accepted) s)

/-- CLAIM_TIMEOUT (R321): PAIR_CLAIM.TIMEOUT strokes without a decision. -/
def execClaimTimeout (s : State) : Host.Outcome State Fault Refusal :=
  go (running (fun s => match s.pair.claim with
    | some c => if c.started + max 1 (rd s Reg.PAIR_CLAIM_TIMEOUT) ≤ s.stk.ext then claimUndecided s else s
    | none => s) s)

/-- CLAIM_RETRY (R321): a new claim with a new term. -/
def execClaimRetry (s : State) : Host.Outcome State Fault Refusal :=
  go (running (fun s => match s.pair.retryAt with
    | some t =>
      if t ≤ s.stk.ext ∧ s.pair.claim.isNone ∧ (s.pair.st = .armed ∨ s.pair.st = .alone) then
        s |> claimStart (s.pair.st == .alone) |> claimDecide
      else s
    | none => s) s)

/-- What a fence acknowledged or given up lets go on: the takeover, or the failback. -/
def fencesGoOn (epoch : Nat) (log : List (Nat × List Delta)) (s : State) : State := s |> takeDone log |> failbackFenced epoch

/-- FENCE_ACK (R279). -/
def execFenceAck (slot epoch : Nat) (log : List (Nat × List Delta)) (s : State) : Host.Outcome State Fault Refusal :=
  go (match (slotOf s slot).fencing with
    | some f => if f.2.1 = epoch then s |> fenceAcked slot epoch |> fencesGoOn epoch log else s
    | none => s)

/-- PAIR_FENCE_TIMEOUT (R322): the blade's shares are declared failed. -/
def execPairFenceTimeout (slot : Nat) (log : List (Nat × List Delta)) (s : State) : Host.Outcome State Fault Refusal :=
  go (match (slotOf s slot).fencing with
    | some f =>
      if f.2.2 + rd s Reg.PAIR_FENCE_TIMEOUT_STROKES ≤ s.stk.ext then
        s |> slotMod slot (fun x => { x with fencing := none }) |> slotSharesLost slot |> fencesGoOn f.2.1 log
      else s
    | none => s)

/-! ### Joining (R312, R315) -/

/-- PAIR_JOIN_WAIT_EXPIRY (R315): no HELLO since bring-up reached the join. -/
def execPairJoinWaitExpiry (s : State) : Host.Outcome State Fault Refusal :=
  go (running (fun s => match s.pair.joinFrom with
    | some t =>
      if s.pair.st = .alone ∧ t + rd s Reg.PAIR_JOIN_WAIT_STROKES ≤ s.stk.ext ∧ !s.pair.helloSeen ∧ s.pair.claim.isNone ∧
          s.pair.retryAt.isNone then
        s |> claimStart true |> claimDecide
      else s
    | none => s) s)

/-- PAIR_JOIN_RETRY (R312): 10,000 strokes after the refusal. -/
def execPairJoinRetry (s : State) : Host.Outcome State Fault Refusal :=
  go (match s.pair.refusedAt with
    | some t => if t + 10000 ≤ s.stk.ext then { s with pair := { s.pair with refusedAt := none } } else s
    | none => s)

/-- FAILBACK_FENCE (R326 step 2). -/
def execFailbackFence (s : State) : Host.Outcome State Fault Refusal := go (running failbackFence s)

/-! ### Pair commands (R327 to R329) -/

/-- PAIR_STATUS_GET: state, owned sides, lanes, failback stroke, last takeover duration. -/
def execPairStatusGet (slot : Nat) (s : State) : Host.Outcome State Fault Refusal :=
  go (mbxRun slot Opc.pairStatusGet (fun s => okWith ([pairStNum s.pair.st, bitsOf [s.pair.sides.contains 0, s.pair.sides.contains 1]] ++
    (seatList s).map (fun n => rd s (Reg.PAIR_LANE_STATUS_STATE n)) ++
    [(match s.pair.failback with | some f => f.f | none => 0), rd s Reg.PAIR_TAKEOVER_STROKES_STROKES]) s) s)

/-- PAIR_FAILBACK_HOLD (R327). -/
def execPairFailbackHold (slot : Nat) (hold : Bool) (s : State) : Host.Outcome State Fault Refusal :=
  go (mbxRun slot Opc.pairFailbackHold (fun s => okWith [] ({ s with pair := { s.pair with hold := hold } } |> when hold failbackHeld)) s)

/-- PAIR_HANDOVER (R328): it completes when step 4 of *Failback timeline* ends; a head that owns nothing has nothing to hand over. -/
def execPairHandover (slot : Nat) (s : State) : Host.Outcome State Fault Refusal :=
  go (mbxBegin slot Opc.pairHandover (fun s =>
    if s.pair.st ≠ .paired then (some (.wrongState, 0, []), s)
    else if s.pair.failback.isSome then (some (.busy, 0, []), s)
    else if s.pair.sides = [] then (some (.ok, 0, []), s)
    else
      let f := s.stk.ext + 100
      (none, { s with pair := { s.pair with failback := some ⟨f, s.pair.sides, 0, some slot, false⟩ } } |> pairControl (.failback f false))) s)

/-- PAIR_GO_SOLO (R315): the head claims now; the command does not wait for the outcome. -/
def execPairGoSolo (slot : Nat) (s : State) : Host.Outcome State Fault Refusal :=
  go (mbxRun slot Opc.pairGoSolo (fun s =>
    if s.pair.st ≠ .alone then refuse .wrongState 0 s
    else okWith [] (if s.pair.claim.isSome then s else s |> claimStart true |> claimDecide)) s)

/-- The parameter of a layout that lies outside its bounds (R298). -/
def windowsBad (s : State) (c sw g t : Nat) : Option Nat :=
  if c < 150 ∨ 1000 < c then some 1
  else if sw < 150 ∨ 4000 < sw then some 2
  else if g < 100 ∨ 1000 < g then some 3
  else if 5000 < 150 + c + sw + g then some 1
  else if t < s.stk.ext + 100 then some 4
  else none

/-- PAIR_WINDOWS_SET (R298): both heads apply the layout at the stroke. -/
def execPairWindowsSet (slot c sw g t : Nat) (s : State) : Host.Outcome State Fault Refusal :=
  go (mbxRun slot Opc.pairWindowsSet (fun s =>
    if s.pair.st ≠ .paired then refuse .peerUnreachable 0 s
    else match windowsBad s c sw g t with
      | some n => refuse .invalidParam n s
      | none => okWith [] ({ s with pair := { s.pair with windows := some (c, sw, g, t) } } |> pairControl (.windows c sw g t))) s)

/-- A layout whose stroke has come is applied (R298). -/
def windowsDue (s : State) : State :=
  match s.pair.windows with
  | some (c, sw, g, t) =>
    if t ≤ s.stk.ext then
      { s with pair := { s.pair with windows := none } } |> wr Reg.PAIR_WIN_LAYOUT_C c |> wr Reg.PAIR_WIN_LAYOUT_S sw |> wr Reg.PAIR_WIN_LAYOUT_GUARD g
    else s
  | none => s

/-- PAIR_LANE_SET (R295): ENABLE 0 fails the lane; ENABLE 1 lets it return. -/
def execPairLaneSet (slot lane : Nat) (enable : Bool) (s : State) : Host.Outcome State Fault Refusal :=
  go (mbxRun slot Opc.pairLaneSet (fun s =>
    if s.hw.seats ≤ lane then refuse .invalidParam 1 s
    else okWith [] (s |> laneMod lane (fun l => { l with disabled := !enable }) |> when (!enable) (laneFails lane))) s)

end Sys2Proof.Machine
end

