-- ==== Sys2Proof/Machine/Mailbox.lean ====
section
/-!
DEFINITION. Machine/Mailbox.lean: the control face: doorbells, lanes, aborts, easy-all, parameters, service mode, and the health and
power commands of the catalogue (R408 to R427, R431, R482, R491, R520, R525, R526).
-/

namespace Sys2Proof.Machine

/-! ### Doorbells, lanes and order (R410 to R418) -/

/-- MBX_DOORBELL (R410, R418, R444). -/
def execMbxDoorbell (slot : Nat) (r : MbxReq) (s : State) : Host.Outcome State Fault Refusal :=
  go (
    let m := slotAt s slot
    if 64 ≤ slot ∨ (!isSet s Reg.MBX_STATUS_READY && !isSet s Reg.MBX_STATUS_ACTIVATING) then s
    else if m.st = .posted ∨ m.st = .running then bump Reg.MBX_DOORBELL_REFUSED_COUNT s
    else
      let s := { s with mbx := { s.mbx with nextOrder := s.mbx.nextOrder + 1 } }
        |> setSlot slot { m with st := .posted, req := r, lane := laneOf s slot, order := s.mbx.nextOrder, postedAt := s.stk.ext,
                                 poisoned := false, committed := false, orphan := false, cut := false } |> mbxBusy slot true
      if m.poisoned then mbxComplete slot .invalidParam 4294967295 [] s else s)

/-- The posted command of a lane that starts next: the first in doorbell order, once no command of the lane runs, one that outlives a reset
included (R411, R417). -/
def laneNext (s : State) (lane : Nat) : Option Nat :=
  if s.mbx.slots.any fun e => e.2.st == .running && e.2.lane == lane then none
  else ((s.mbx.slots.filter fun e => e.2.st == .posted && e.2.lane == lane).foldl (fun (b : Option (Nat × MbxSlot)) e => match b with
    | some x => if e.2.order < x.2.order then some e else b
    | none => some e) none).map (·.1)

/-- An earlier command that changes the same object has not completed (R412). -/
def objectBusy (s : State) (m : MbxSlot) : Bool :=
  m.req.object.isSome && s.mbx.slots.any fun e =>
    (e.2.st == .posted || e.2.st == .running) && decide (e.2.order < m.order) && e.2.req.object == m.req.object

/-- No command starts: in a live activation (R418), from haul-out detection on (R494), on a head that has halted. -/
def startsClosed (s : State) : Bool :=
  !isSet s Reg.MBX_STATUS_READY || isSet s Reg.MBX_STATUS_ACTIVATING || rd s Reg.HLD_STATUS_PHASE != 0 || s.boot.halted

/-- MBX_COMMAND_START (R411, R412, R416): a command whose input lies in host memory issues its reads. -/
def execMbxCommandStart (lane : Nat) (s : State) : Host.Outcome State Fault Refusal :=
  go (if startsClosed s then s
    else match laneNext s lane with
      | none => s
      | some n =>
        let m := slotAt s n
        if objectBusy s m then s
        else
          let s := setSlot n { m with st := .running } s
          if !readsHost m.req.opcode then s
          else if s.pci.bme then issueReads n (ceilDiv m.req.hostLen 4096) s
          else mbxComplete n .hostMemory 0 [] s)

/-- MBX_COMMAND_TIMEOUT (R414). -/
def execMbxCommandTimeout (slot : Nat) (s : State) : Host.Outcome State Fault Refusal :=
  go (
    let m := slotAt s slot
    if m.st = .posted ∧ m.req.timeout ≠ 0 ∧ m.postedAt + m.req.timeout ≤ s.stk.ext then mbxComplete slot .timeout 0 [] s else s)

/-- Commands that *Command catalogue* marks abortable. -/
def abortable (opc : Nat) : Bool := opc == Opc.nsSecureDiscard || opc == Opc.tenantSecureDiscard || opc == Opc.dictRetire

/-- MBX_ABORT (R414): a secure discard leaves the rows already collected erased; a dictionary slot stays retiring. -/
def mbxAbort (slot : Nat) (s : State) : State :=
  let m := slotAt s slot
  if m.st = .posted then mbxComplete slot .aborted 0 [] s
  else if m.st = .running ∧ abortable m.req.opcode = true then
    { s with ing := { s.ing with retiring := fkeep s.ing.retiring fun _ n => n != slot } }
      |> when (match s.map.discard with | some d => d.slot == slot | none => false) discardAbort |> mbxComplete slot .aborted 0 []
  else s

/-- MBX_ABORT. -/
def execMbxAbort (slot : Nat) (s : State) : Host.Outcome State Fault Refusal := go (mbxAbort slot s)

/-- MBX_INVALID_OPCODE (R420). -/
def execMbxInvalidOpcode (slot : Nat) (s : State) : Host.Outcome State Fault Refusal :=
  go (
    let m := slotAt s slot
    if m.st = .running ∧ catalogue.contains m.req.opcode = false then mbxComplete slot .invalidOpcode 0 [] s else s)

/-- SYS_INFO: seats, stepping, running version, pair protocol, on-media format, side, pair state, service mode, and the limits of slots,
namespaces' queue pairs and pools. -/
def execSysInfo (slot : Nat) (s : State) : Host.Outcome State Fault Refusal :=
  go (mbxRun slot Opc.sysInfo (fun s => okWith [s.hw.seats, rd s Reg.PKG_ID_STEPPING, runVersion s, (myVersion s).1, (myVersion s).2,
    readsMedia s, mySide s, pairStNum s.pair.st, serviceMode s, 12 * s.hw.seats, 16384, 32] s) s)

/-! ### Parameters (R421; log entry 66) -/

/-- What a parameter sets. -/
inductive ParamKind where
  | haulPool (side : Nat)
  | nsDict | nsSolo | nsLoop | nsClass | nsTemp | nsCompress | nsDedup | nsAtomic | nsPool
  | tenantSprint
  | poolPolicy | poolFloor
  | breakout
  /-- A sub-port's MAC address, VLAN tag or one of its eight addresses (R62). -/
  | subport
  deriving DecidableEq, Repr

/-- The descriptor of a parameter (R421): kind, function class, width in bits, range, whether it is immediate. -/
structure Param where
  kind : ParamKind
  cls : Nat
  width : Nat
  lo : Nat
  hi : Nat
  immediate : Bool

/-- The parameter of an identifier: bits [15:12] the function class (R421). The numbers of the settings are this model's (log entry 66). -/
def paramOf (id : Nat) : Option Param :=
  if id = 0x0000 then some ⟨.haulPool 0, 0, 5, 0, 31, true⟩
  else if id = 0x0001 then some ⟨.haulPool 1, 0, 5, 0, 31, true⟩
  else if id = 0x1000 then some ⟨.nsDict, 1, 9, 0, 256, false⟩
  else if id = 0x1001 then some ⟨.nsSolo, 1, 1, 0, 1, false⟩
  else if id = 0x1002 then some ⟨.nsLoop, 1, 12, 0, 4095, false⟩
  else if id = 0x1003 then some ⟨.nsClass, 1, 2, 0, 3, false⟩
  else if id = 0x1004 then some ⟨.nsTemp, 1, 1, 0, 1, false⟩
  else if id = 0x1005 then some ⟨.nsCompress, 1, 1, 0, 1, false⟩
  else if id = 0x1006 then some ⟨.nsDedup, 1, 1, 0, 1, false⟩
  else if id = 0x1007 then some ⟨.nsAtomic, 1, 9, 0, 256, false⟩
  else if id = 0x1008 then some ⟨.nsPool, 1, 5, 0, 31, false⟩
  else if id = 0x2000 then some ⟨.tenantSprint, 2, 1, 0, 1, false⟩
  else if id = 0x3000 then some ⟨.poolPolicy, 3, 1, 0, 1, false⟩
  else if id = 0x3001 then some ⟨.poolFloor, 3, 32, 0, 4294967295, true⟩
  else if id = 0x4000 then some ⟨.breakout, 4, 2, 0, 2, false⟩
  else if 0x4100 ≤ id ∧ id < 0x4140 ∧ id % 16 < 10 then
    some ⟨.subport, 4, if id % 16 = 0 then 48 else if id % 16 = 1 then 13 else 128, 0,
      if id % 16 = 0 then 281474976710655 else if id % 16 = 1 then 4096 else 2 ^ 128 - 1, false⟩
  else none

/-- Function class of an object, as *Easy-all classes* numbers it. -/
def clsOf (o : EasyObj) : Nat := easyNum o.cls + 1

/-- The object exists. -/
def objExists (s : State) (o : EasyObj) : Bool :=
  match o.cls with
  | .ns => (nsOf s o.num).isSome
  | .tenant => fhas s.nv.tenants o.num
  | .group => (groupOf s o.num).isSome
  | .port => decide (o.num < s.hw.seats)
  | .loopSet => decide (o.num < s.hw.seats)

/-- Home side of an object that has one (R415). -/
def objSide (s : State) (o : EasyObj) : Option Nat :=
  match o.cls with
  | .ns => (nsCur s o.num).map (·.side)
  | .group => (groupOf s o.num).map (·.side)
  | _ => none

/-- The object belongs to a side that this head does not own (R415). -/
def objForeign (s : State) (o : EasyObj) : Bool := match objSide s o with | some d => !ownsSide s d | none => false

/-- Key of a parameter's value; a package setting has no object. -/
def paramKey (o : EasyObj) (id : Nat) : Nat := if id < 4096 then id else easyKey o * 65536 + id

/-- A class of settings fits an object: package settings fit any. -/
def paramFits (o : EasyObj) (p : Param) : Bool := p.cls == 0 || p.cls == clsOf o

/-- The system pool named for a side. -/
def haulPoolOf (s : State) (side : Nat) : Option Nat :=
  if side = 0 then (if isSet s Reg.HLD_SYSTEM_POOL_SIDE0_VALID then some (rd s Reg.HLD_SYSTEM_POOL_SIDE0) else none)
  else if isSet s Reg.HLD_SYSTEM_POOL_SIDE1_VALID then some (rd s Reg.HLD_SYSTEM_POOL_SIDE1) else none

/-- A namespace's settings with one changed. -/
def nsSetting (k : ParamKind) (v : Nat) (p : NsParams) : NsParams :=
  match k with
  | .nsDict => { p with dict := v }
  | .nsSolo => { p with flashThrough := v == 0 }
  | .nsLoop => { p with loop := v }
  | .nsClass => { p with cls := v }
  | .nsTemp => { p with cold := v == 1 }
  | .nsCompress => { p with compress := v == 1 }
  | .nsDedup => { p with dedup := v == 1 }
  | .nsAtomic => { p with atomic := v }
  | .nsPool => { p with pool := v }
  | _ => p

/-- A namespace's setting as a number. -/
def nsValue (k : ParamKind) (p : NsParams) : Nat :=
  match k with
  | .nsDict => p.dict
  | .nsSolo => b2n (!p.flashThrough)
  | .nsLoop => p.loop
  | .nsClass => p.cls
  | .nsTemp => b2n p.cold
  | .nsCompress => b2n p.compress
  | .nsDedup => b2n p.dedup
  | .nsAtomic => p.atomic
  | .nsPool => p.pool
  | _ => 0

/-- The value of a parameter in force. -/
def paramValue (s : State) (o : EasyObj) (id : Nat) (p : Param) : Nat :=
  match p.kind with
  | .haulPool side => (haulPoolOf s side).getD 0
  | .tenantSprint => (match fget s.nv.tenants o.num with | some t => b2n t.sprint | none => 0)
  | .poolPolicy => (match groupOf s o.num with | some g => b2n g.ageGrouped | none => 0)
  | .poolFloor => (match groupOf s o.num with | some g => g.floor | none => 0)
  | .breakout => rd s (Reg.FE_PORT_CFG_BREAKOUT o.num)
  | .subport => fgetD s.mbx.params (paramKey o id) 0
  | k => (match nsCur s o.num with | some n => nsValue k n | none => 0)

/-- Put a value in force. -/
def paramApply (o : EasyObj) (id v : Nat) (s : State) : State :=
  match (paramOf id).map Param.kind with
  | some (.haulPool 0) => s |> wr Reg.HLD_SYSTEM_POOL_SIDE0 v |> wr Reg.HLD_SYSTEM_POOL_SIDE0_VALID 1
  | some (.haulPool _) => s |> wr Reg.HLD_SYSTEM_POOL_SIDE1 v |> wr Reg.HLD_SYSTEM_POOL_SIDE1_VALID 1
  | some .tenantSprint => pinsWake { s with nv := { s.nv with tenants := fmod s.nv.tenants o.num fun t => { t with sprint := v == 1 } } }
  | some .poolPolicy => groupMod o.num (fun g => { g with ageGrouped := v == 1 }) s
  | some .poolFloor => groupMod o.num (fun g => { g with floor := v, readOnlyDue := g.readOnlyDue || (!g.readOnly && decide (g.spareBlocks < v)) }) s
  | some .breakout => s |> wr (Reg.FE_PORT_CFG_BREAKOUT o.num) v |> when (isSet s (Reg.FE_PORT_STATUS_OPEN o.num)) (linksUp o.num)
  | some .subport => { s with mbx := { s.mbx with params := fset s.mbx.params (paramKey o id) v } }
  | _ => s

/-- The data members that a system pool needs (R491). -/
def haulMembers (s : State) : Nat := ceilDiv (5 * s.hw.seats) 4

/-- A value that a parameter may not take. -/
def valueBad (s : State) (p : Param) (v : Nat) : Bool :=
  decide (v < p.lo) || decide (p.hi < v) ||
    (match p.kind with
      | .haulPool side => (match groupOf s v with | some g => g.side != side || decide ((curGeom g).k < haulMembers s) | none => true)
      | _ => false)

/-- SYS_PARAM_GET (R421): DETAIL 2 names the object, 3 the identifier. -/
def execSysParamGet (slot : Nat) (o : EasyObj) (id : Nat) (s : State) : Host.Outcome State Fault Refusal :=
  go (mbxRun slot Opc.sysParamGet (fun s =>
    match paramOf id with
    | none => refuse .invalidParam 3 s
    | some p =>
      if !paramFits o p then refuse .invalidParam 3 s
      else if p.cls ≠ 0 ∧ !objExists s o then refuse .invalidParam 2 s
      else okWith [paramValue s o id p] s) s)

/-- Name of a parameter. The names are this model's (log entry 66). -/
def paramName (id : Nat) : ParamKind → String
  | .haulPool side => if side = 0 then "SYSTEM_POOL_SIDE0" else "SYSTEM_POOL_SIDE1"
  | .nsDict => "DICTIONARY_SLOT" | .nsSolo => "SOLO_POLICY" | .nsLoop => "RATING_CLASS" | .nsClass => "PRIORITY_CLASS"
  | .nsTemp => "TEMPERATURE" | .nsCompress => "COMPRESSION" | .nsDedup => "DEDUP" | .nsAtomic => "ATOMIC_WRITE_SIZE" | .nsPool => "POOL"
  | .tenantSprint => "SPRINT" | .poolPolicy => "COLLECTION_POLICY" | .poolFloor => "SPARE_FLOOR" | .breakout => "BREAKOUT"
  | .subport => if id % 16 = 0 then "MAC_ADDRESS" else if id % 16 = 1 then "VLAN_TAG" else "IP_ADDRESS"

/-- Type of a parameter: 0 a number, 1 a code, 2 a flag. -/
def paramType : ParamKind → Nat
  | .nsSolo => 1 | .nsClass => 1 | .nsTemp => 1 | .poolPolicy => 1 | .breakout => 1
  | .nsCompress => 2 | .nsDedup => 2 | .tenantSprint => 2
  | _ => 0

/-- Unit of a parameter: 0 none, 1 logical blocks, 2 flash blocks. -/
def paramUnit : ParamKind → Nat
  | .nsAtomic => 1
  | .poolFloor => 2
  | _ => 0

/-- Reset value of a parameter: what it holds before it has been set. -/
def paramReset : ParamKind → Nat
  | .breakout => (Reg.FE_PORT_CFG_BREAKOUT 0).reset
  | _ => 0

/-- SYS_PARAM_DESCRIBE (R421): identifier, class, type, width, range, unit, reset value, whether immediate; then the name's characters. -/
def execSysParamDescribe (slot id : Nat) (s : State) : Host.Outcome State Fault Refusal :=
  go (mbxRun slot Opc.sysParamDescribe (fun s =>
    match paramOf id with
    | none => refuse .invalidParam 1 s
    | some p => okWith ([id, p.cls, paramType p.kind, p.width, p.lo, p.hi, paramUnit p.kind, paramReset p.kind, b2n p.immediate] ++
        (paramName id p.kind).toList.map Char.toNat) s) s)

/-- The first pair that cannot be set: unknown or of another class. -/
def pairUnknown (o : EasyObj) (pairs : List (Nat × Nat)) : Option Nat :=
  (pairs.find? fun x => match paramOf x.1 with | some p => !paramFits o p | none => true).map (·.1)

/-- SYS_PARAM_SET (R421): immediate parameters, in force from the next stroke edge. -/
def execSysParamSet (slot : Nat) (o : EasyObj) (pairs : List (Nat × Nat)) (s : State) : Host.Outcome State Fault Refusal :=
  go (mbxRun slot Opc.sysParamSet (fun s =>
    match pairUnknown o pairs with
    | some id => refuse .invalidParam id s
    | none =>
      if pairs.any (fun x => match paramOf x.1 with | some p => !p.immediate | none => false) = true then refuse .wrongState 0 s
      else if pairs.any (fun x => decide (4096 ≤ x.1)) = true ∧ !objExists s o then refuse .invalidParam 2 s
      else if pairs.any (fun x => decide (4096 ≤ x.1)) = true ∧ objForeign s o = true then refuse .notOwner 0 s
      else match pairs.find? fun x => match paramOf x.1 with | some p => valueBad s p x.2 | none => false with
        | some x => refuse .invalidParam x.1 s
        | none => okWith [] { s with mbx := { s.mbx with
            paramsNext := pairs.foldl (fun m x => fset m (paramKey o x.1) x.2) s.mbx.paramsNext } }) s)

/-- The object of a parameter's key. -/
def keyObj (k : Nat) : EasyObj :=
  let e := k / 65536
  ⟨match keyHi e with | 0 => .ns | 1 => .tenant | 2 => .group | 3 => .port | _ => .loopSet, keyLo e⟩

/-- Settings of a tenant or of a pool are told to the peer with it (R426). -/
def settingsTell (o : EasyObj) (s : State) : State :=
  match o.cls with
  | .tenant => (match fget s.nv.tenants o.num with
    | some t => objectTell (.tenant o.num t.domain t.sprint t.ranges) s
    | none => s)
  | .group => (match groupOf s o.num with
    | some g => objectTell (.pool o.num g.side (curGeom g).k (curGeom g).m g.dies ((curGeom g).shares.map fun sh => (sh.slot, sh.die)) g.ageGrouped (some g.floor)) s
    | none => s)
  | _ => s

/-- Immediate parameters take effect at a stroke edge (R421). -/
def paramsEdge (s : State) : State :=
  foldS s.mbx.paramsNext (fun e s => s |> paramApply (keyObj e.1) (e.1 % 65536) e.2 |> when (decide (4096 ≤ e.1 % 65536)) (settingsTell (keyObj e.1))) { s with mbx := { s.mbx with paramsNext := [] } }

/-! ### Easy-all (R424 to R427) -/

/-- Namespaces that a namespace or tenant easy-all holds. -/
def easyNs (s : State) (o : EasyObj) : List Nat :=
  match o.cls with
  | .ns => [o.num]
  | .tenant => (s.nv.ns.filter fun n => n.2.cur.p.tenant == o.num).map (·.1)
  | _ => []

/-- An easy-all is in progress on the object, or on one that contains it or lies in it (R427). -/
def easyBusy (s : State) (o : EasyObj) : Bool :=
  fhas s.mbx.easy (easyKey o) ||
    (match o.cls with
      | .ns => (match nsCur s o.num with | some p => fhas s.mbx.easy (easyKey ⟨.tenant, p.tenant⟩) | none => false)
      | .tenant => (easyNs s o).any fun n => fhas s.mbx.easy (easyKey ⟨.ns, n⟩)
      | _ => false)

/-- Change an easy-all in progress. -/
def easyMod (o : EasyObj) (f : EasyAll → EasyAll) (s : State) : State :=
  { s with mbx := { s.mbx with easy := fmod s.mbx.easy (easyKey o) f } }

/-- Install a version of each namespace with an admission. -/
def easyInstall (adm : Admission) (l : List Nat) (s : State) : State :=
  foldS l (fun n s => match nsCur s n with | some p => (stInstall n p adm s).1 | none => s) s

/-- SYS_EASY_ALL (R424, R425, R427): DETAIL 2 names the object. -/
def execSysEasyAll (slot : Nat) (o : EasyObj) (hold : Nat) (s : State) : Host.Outcome State Fault Refusal :=
  go (mbxBegin slot Opc.sysEasyAll (fun s =>
    if !objExists s o then (some (.invalidParam, 2, []), s)
    else if 65535 < hold then (some (.invalidParam, 3, []), s)
    else if objForeign s o then (some (.notOwner, 0, []), s)
    else if easyBusy s o then (some (.busy, 0, []), s)
    else if 16 ≤ s.mbx.easy.length then (some (.noResource, 0, []), s)
    else if (easyNs s o).any (fun n => match nsOf s n with | some x => x.prev.isSome | none => false) = true then
      (some (.busy, 0, []), foldS (seatList s) (fun i s => bump (Reg.FE_EPOCH_BUSY_COUNT i) s) s)
    else
      let h := if hold = 65535 then rd s Reg.MBX_EASY_CTRL_HOLD else hold
      let s := { s with mbx := { s.mbx with easy := fset s.mbx.easy (easyKey o) ⟨h, [], some slot, 0, s.stk.ext, none⟩ } }
      (none, s |> easyInstall .held (easyNs s o)
        |> when (o.cls == .port) (wr (Reg.FE_PORT_STATUS_HELD o.num) 1)
        |> when (o.cls == .loopSet) (wr (Reg.RATE_STATUS_FROZEN o.num) 1))) s)

/-- What the object's function had in progress has ended (R424): previous versions retired, the commands of the port done, the row in
progress of each background activity of the pool done. -/
def easyQuiet (s : State) (o : EasyObj) : Bool :=
  match o.cls with
  | .ns => (easyNs s o).all fun n => match nsOf s n with | some x => x.prev.isNone | none => true
  | .tenant => (easyNs s o).all fun n => match nsOf s n with | some x => x.prev.isNone | none => true
  | .group => (match groupOf s o.num with | some g => g.victim.isNone | none => true)
  | .port => !(s.nv.cmds.any fun c => c.2.seat == o.num && c.2.stage != .waiting)
  | .loopSet => true

/-- EASY_ALL_QUIESCED (R424). -/
def execEasyAllQuiesced (o : EasyObj) (s : State) : Host.Outcome State Fault Refusal :=
  go (match fget s.mbx.easy (easyKey o) with
    | some e => (match e.slot with
      | some n => if easyQuiet s o then s |> easyMod o (fun e => { e with slot := none, completed := s.stk.ext }) |> mbxComplete n .ok 0 [] else s
      | none => s)
    | none => s)

/-- A command on an object whose easy-all has completed and is not committing: one on an object still being quiesced waits (R412). -/
def onEasy (slot opc : Nat) (o : EasyObj) (body : EasyAll → State → Option (Sts × Nat × List Nat) × State) (s : State) : State :=
  match fget s.mbx.easy (easyKey o) with
  | none => mbxRun slot opc (refuse .wrongState 0) s
  | some e =>
    if e.slot.isSome then s
    else if e.commit.isSome then mbxRun slot opc (refuse .busy 0) s
    else mbxBegin slot opc (body e) s

/-- SYS_STAGE (R426): later values replace earlier ones of the same identifier. Loop tables are staged by RATE_LOOPS_STAGE (R349). -/
def execSysStage (slot : Nat) (o : EasyObj) (pairs : List (Nat × Nat)) (s : State) : Host.Outcome State Fault Refusal :=
  go (onEasy slot Opc.sysStage o (fun e s =>
    if 1024 < pairs.length then (some (.invalidParam, 3, []), s)
    else match pairs.find? fun x => match paramOf x.1 with | some p => p.cls != clsOf o || p.immediate | none => true with
      | some x => (some (.invalidParam, x.1, []), s)
      | none => (some (.ok, 0, []), easyMod o (fun _ => { e with staged := pairs.foldl (fun m x => fset m x.1 x.2) e.staged }) s)) s)

/-- A namespace's settings with a staged set applied. -/
def stagedNs (staged : FMap Nat) (p : NsParams) : NsParams :=
  staged.foldl (fun p x => match paramOf x.1 with | some q => nsSetting q.kind x.2 p | none => p) p

/-- The setting that a failing place of the namespace checks stands for. -/
def placeParam (n : Nat) : Nat := if n = 13 then 0x1000 else if n = 15 then 0x1007 else if n = 16 then 0x1002 else if n = 17 then 0x1003 else 0x1008

/-- The first failing identifier of a staged set, validated with the settings that stay in force (R426). -/
def stagedBad (s : State) (o : EasyObj) (staged : FMap Nat) : Option Nat :=
  match staged.find? fun x => match paramOf x.1 with | some p => valueBad s p x.2 | none => true with
  | some x => some x.1
  | none =>
    match o.cls with
    | .ns => (match nsCur s o.num with
      | some p => (nsBad s (stagedNs staged p)).map placeParam
      | none => none)
    | .loopSet => if tableOk s o.num then none else some 0x5000
    | _ => none

/-- SYS_ROW_ALL (R426): a valid set commits at the next stroke edge; `invalid` is a failing identifier that the settings held here do not
show. What the pair shares is told to the peer. -/
def execSysRowAll (slot : Nat) (o : EasyObj) (invalid : Option Nat) (s : State) : Host.Outcome State Fault Refusal :=
  go (onEasy slot Opc.sysRowAll o (fun e s =>
    match stagedBad s o e.staged, invalid with
    | some id, _ => (some (.invalidParam, id, []), s)
    | none, some id => (some (.invalidParam, id, []), s)
    | none, none =>
      let s := easyMod o (fun e => { e with commit := some slot }) s
      match o.cls with
      | .ns => (none, match nsCur s o.num with | some p => objectTell (.ns o.num (stagedNs e.staged p)) s | none => s)
      | .loopSet => (none, setRate o.num { rateSeat s o.num with commit := true } s)
      | _ => (none, s)) s)

/-- The function is released with admission OPEN, under its settings in force (R427). -/
def easyRelease (o : EasyObj) (s : State) : State :=
  { s with mbx := { s.mbx with easy := fdel s.mbx.easy (easyKey o) } }
    |> easyInstall .opened (easyNs s o)
    |> when (o.cls == .port) (wr (Reg.FE_PORT_STATUS_HELD o.num) 0)
    |> when (o.cls == .loopSet) (fun s => s |> wr (Reg.RATE_STATUS_FROZEN o.num) 0 |> setRate o.num { rateSeat s o.num with staged := [] })

/-- A commit at its stroke edge (R426): one new version with the staged settings, admission OPEN. -/
def easyCommit (o : EasyObj) (e : EasyAll) (slot : Nat) (s : State) : State :=
  let s := { s with mbx := { s.mbx with easy := fdel s.mbx.easy (easyKey o) } }
  let s := foldS e.staged (fun x s => paramApply o x.1 x.2 s) s
  let s := foldS (easyNs s o) (fun n s => match nsCur s n with
    | some p => (stInstall n (if o.cls = .ns then stagedNs e.staged p else p) .opened s).1
    | none => s) s
  s |> when (o.cls == .port) (wr (Reg.FE_PORT_STATUS_HELD o.num) 0)
    |> when (o.cls == .loopSet) (wr (Reg.RATE_STATUS_FROZEN o.num) 0)
    |> settingsTell o |> mbxComplete slot .ok 0 []

/-- Commits due at a stroke edge. -/
def easyEdge (s : State) : State :=
  foldS s.mbx.easy (fun e s => match e.2.commit with
    | some n => easyCommit (keyObj (e.1 * 65536)) e.2 n s
    | none => s) s

/-- SYS_EASY_ABORT (R427). -/
def execSysEasyAbort (slot : Nat) (o : EasyObj) (s : State) : Host.Outcome State Fault Refusal :=
  go (onEasy slot Opc.sysEasyAbort o (fun _ s => (some (.ok, 0, []), easyRelease o s)) s)

/-- SYS_EASY_LIST: class, object and number of staged settings of each. -/
def execSysEasyList (slot : Nat) (s : State) : Host.Outcome State Fault Refusal :=
  go (mbxRun slot Opc.sysEasyList (fun s =>
    okWith ((s.mbx.easy.map fun e => [keyHi e.1 + 1, keyLo e.1, e.2.staged.length]).flatten) s) s)

/-- EASY_ALL_EXPIRY (R427): MBX_EASY_CTRL.LIMIT × 100 strokes without a commit. -/
def execEasyAllExpiry (o : EasyObj) (s : State) : Host.Outcome State Fault Refusal :=
  go (match fget s.mbx.easy (easyKey o) with
    | some e =>
      if e.slot.isNone ∧ e.commit.isNone ∧ e.completed + 100 * max 1 (rd s Reg.MBX_EASY_CTRL_LIMIT) ≤ s.stk.ext then
        s |> easyRelease o |> mbxEvent Reg.MBX_EVENTS_EASY_EXPIRED false |> logFw 0 427 [clsOf o, o.num]
      else s
    | none => s)

/-! ### Hold-up, service mode, drill, recovery, budget -/

/-- A seat's cap in bytes for a budget in ms (R133): 8 GB/s × (B − 5 ms) × 0.8. -/
def capFor (ms : Nat) : Nat := 6400000 * (ms - 5)

/-- The system pools of the sides this head owns that are named; one that cannot serve fails the declaration (R491). -/
def haulPoolsBad (s : State) : Bool :=
  s.pair.sides.any fun d => match haulPoolOf s d with
    | some pool => (match groupOf s pool with | some g => g.failed || g.readOnly | none => true)
    | none => false

/-- SYS_HOLDUP_DECLARE (R133, R134, R491): `bandsOk`: the bands of two image slots of every seat could be reserved. -/
def execSysHoldupDeclare (slot ms : Nat) (redundant bandsOk : Bool) (s : State) : Host.Outcome State Fault Refusal :=
  go (mbxRun slot Opc.sysHoldupDeclare (fun s =>
    if ms < 6 ∨ 10000 < ms then refuse .invalidParam 1 s
    else if !bandsOk ∨ haulPoolsBad s then refuse .noResource 0 s
    else
      let s := foldS (seatList s) (fun n s => s |> wr (Reg.CAT_CAP n) (capFor ms) |> wr (Reg.CAT_STATUS_BUDGET_DEFAULT n) 0) s
      okWith [] (s |> wr Reg.HLD_BUDGET_MS ms |> wrB Reg.HLD_BUDGET_SUPPLY_REDUNDANT redundant |> wr Reg.HLD_CAP (capFor ms * s.hw.seats)
        |> durability Reg.PKG_DURABILITY_BUDGET_DECLARED true |> durability Reg.PKG_DURABILITY_SUPPLY_DECLARED redundant)) s)

/-- Set FE_PORT_STATUS.OPEN on every seat. -/
def frontEnd (b : Bool) (s : State) : State := foldS (seatList s) (fun n s => wrB (Reg.FE_PORT_STATUS_OPEN n) b s) s

/-- SYS_SERVICE_ENTER (R422): TEST (3) from normal service. -/
def execSysServiceEnter (slot mode : Nat) (s : State) : Host.Outcome State Fault Refusal :=
  go (mbxRun slot Opc.sysServiceEnter (fun s =>
    if mode ≠ 3 then refuse .invalidParam 1 s
    else if serviceMode s ≠ 0 then refuse .wrongState 0 s
    else okWith [] (s |> wr Reg.MBX_STATUS_SERVICE 3 |> frontEnd false |> anaChanged)) s)

/-- SYS_SERVICE_EXIT (R422): TEST ends and the front end reopens; from RECOVERY, bring-up restarts at recovery, step 9. -/
def execSysServiceExit (slot : Nat) (s : State) : Host.Outcome State Fault Refusal :=
  go (mbxRun slot Opc.sysServiceExit (fun s =>
    if serviceMode s = 3 then okWith [] (s |> wr Reg.MBX_STATUS_SERVICE 0 |> frontEnd true |> anaChanged)
    else if serviceMode s = 2 then
      okWith [] ({ s with boot := { s.boot with mapDone := false, rowsDone := false } } |> wr Reg.MBX_STATUS_SERVICE 1
        |> wr Reg.PKG_BRINGUP_STEP 9 |> wr Reg.PKG_BRINGUP_FAILED_STEP 0)
    else refuse .wrongState 0 s) s)

/-- SYS_COX_DRILL (R431). -/
def execSysCoxDrill (slot gap : Nat) (faults : List Nat) (s : State) : Host.Outcome State Fault Refusal :=
  go (mbxBegin slot Opc.sysCoxDrill (drillStart slot gap faults) s)

/-- Intact anchor generations of a seat. -/
def anchorGens (s : State) (seat : Nat) : List Nat := ((s.map.anchors.filter fun a => keyHi a.1 == seat && a.2.intact).map fun a => a.2.gen).eraseDups

/-- SYS_RECOVER_SCAN: RECOVERY only; each seat's number, count and generations. -/
def execSysRecoverScan (slot : Nat) (s : State) : Host.Outcome State Fault Refusal :=
  go (mbxRun slot Opc.sysRecoverScan (fun s =>
    if serviceMode s ≠ 2 then refuse .wrongState 0 s
    else okWith (((seatList s).map fun n => [n, (anchorGens s n).length] ++ anchorGens s n).flatten) s) s)

/-- SYS_RECOVER_USE_GEN (R423): RECOVERY only; `pagesOk`: every page that recovery from the generation needs can be read. -/
def execSysRecoverUseGen (slot gen : Nat) (pagesOk : Bool) (s : State) : Host.Outcome State Fault Refusal :=
  go (mbxRun slot Opc.sysRecoverUseGen (fun s =>
    if serviceMode s ≠ 2 then refuse .wrongState 0 s
    else if !(seatList s).all (fun n => (anchorGens s n).contains gen) then refuse .invalidParam 1 s
    else if !pagesOk then refuse .mediaLost 0 s
    else okWith [] { s with mbx := { s.mbx with recoverGen := some gen } }) s)

/-- SYS_MAP_BUDGET (R152). -/
def execSysMapBudget (slot bytes : Nat) (s : State) : Host.Outcome State Fault Refusal :=
  go (mbxRun slot Opc.sysMapBudget (fun s => okWith [] { s with mbx := { s.mbx with mapBudget := bytes } }) s)

/-! ### Health (R520, R525, R526) -/

/-- Words of a logbook entry. -/
def logWords (e : LogEntry) : List Nat := [e.seq, e.ext, e.tick, e.seat, e.cls, b2n e.raised, e.code] ++ e.payload

/-- LOG_COPY (R525): the entries after an extended stroke, oldest first, as many 64-byte entries as the buffer holds. -/
def execLogCopy (slot after : Nat) (s : State) : Host.Outcome State Fault Refusal :=
  go (mbxRun slot Opc.logCopy (needsHost fun s =>
    let l := (s.health.log.reverse.filter fun e => decide (after < e.ext)).take ((slotAt s slot).req.hostLen / 64)
    okWith [l.length] (toHost slot ((l.map logWords).flatten) s)) s)

/-- FAULT_GET (R520): seat, instance and window count of each entry of a source, or of one instance. -/
def execFaultGet (slot source : Nat) (inst : Option Nat) (s : State) : Host.Outcome State Fault Refusal :=
  go (mbxRun slot Opc.faultGet (fun s =>
    if source = 0 ∨ 0x14 < source then refuse .invalidParam 1 s
    else
      let l := s.health.faults.filter fun e => faultSource e.1 == source && (match inst with | some i => faultInst e.1 == i | none => true)
      okWith ((l.map fun e => [faultSeat e.1, faultInst e.1, windowCount e.2]).flatten) s) s)

/-- Show a seat's triggers (R537). -/
def showTriggers (seat : Nat) (s : State) : State :=
  let k := fun (t : Nat) => match fget s.health.trigs (pairKey seat t) with | some g => trigKind g.arm.cond | none => 0
  wrB (Reg.PFR_STATUS_ARMED seat) ((List.range 8).any fun t => k t != 0) s

/-- The parameter of PFR_ARM that is out of range: 1 seat, 2 trigger, 3 condition, 4 registers. -/
def armBad (s : State) (seat trig : Nat) (a : PfrArm) : Option Nat :=
  if s.hw.seats ≤ seat then some 1
  else if 8 ≤ trig then some 2
  else if (match a.cond with
      | .event bit => decide (cfgBase ≤ bit / 8) || seatOfBit bit != seat
      | .fault src _ => src == 0 || decide (0x14 < src)
      | .linked n t => decide (s.hw.seats ≤ n) || n == seat || decide (8 ≤ t)
      | _ => false) = true then some 3
  else if 48 < a.regs.length then some 4
  else none

/-- PFR_ARM (R526): the trigger's firings start afresh. -/
def execPfrArm (slot seat trig : Nat) (a : PfrArm) (s : State) : Host.Outcome State Fault Refusal :=
  go (mbxRun slot Opc.pfrArm (fun s =>
    match armBad s seat trig a with
    | some n => refuse .invalidParam n s
    | none =>
      let last : Bool := match a.cond with | .fault _ l => l | _ => false
      okWith [] ({ s with health := { s.health with trigs := fset s.health.trigs (pairKey seat trig) ⟨a, 0, none⟩ } }
        |> wr (Reg.PFR_TRIG_KIND seat trig) (trigKind a.cond) |> wrB (Reg.PFR_TRIG_LASTING_ONLY seat trig) last
        |> wr (Reg.PFR_TRIG_REGS seat trig) a.regs.length |> wr (Reg.PFR_TRIG_FIRED seat trig) 0 |> showTriggers seat)) s)

/-! ### Power (R420, R482) -/

/-- PWR_TIMERS_SET (R482): the same values on every seat. -/
def execPwrTimersSet (slot unit paddle easy : Nat) (s : State) : Host.Outcome State Fault Refusal :=
  go (mbxRun slot Opc.pwrTimersSet (fun s =>
    if 18 ≤ unit then refuse .invalidParam 1 s
    else if 65535 < paddle then refuse .invalidParam 2 s
    else if 65535 < easy then refuse .invalidParam 3 s
    else okWith [] (foldS (seatList s) (fun n s => s |> wr (Reg.PWR_UNIT_CFG_PADDLE_IDLE n unit) paddle |> wr (Reg.PWR_UNIT_CFG_EASY_IDLE n unit) easy) s)) s)

/-- PWR_STATE_GET: state, wake source and refusals of each unit of each seat. -/
def execPwrStateGet (slot : Nat) (s : State) : Host.Outcome State Fault Refusal :=
  go (mbxRun slot Opc.pwrStateGet (fun s => okWith (((seatList s).map fun n => ((List.range 18).map fun u =>
    [rd s (Reg.PWR_UNIT_STATE_STATE n u), rd s (Reg.PWR_UNIT_STATE_WAKE_SRC n u), rd s (Reg.PWR_UNIT_REFUSED_COUNT n u)]).flatten).flatten) s) s)

end Sys2Proof.Machine
end

