-- ==== Sys2Proof/Machine/Reset.lean ====
section
/-!
DEFINITION. Machine/Reset.lean: the two kinds of reset that commands of several chapters reach: the full reset (R458 to R460) and the reset
of the function (R10, R417, R450 to R454).
-/

namespace Sys2Proof.Machine

/-! ### The reset of the function -/

/-- Whether a field goes back to its reset value in a reset of the function: writable and counting fields without the suffix S (R10). -/
def lostOnFlr (s : State) (key : Nat) : Bool :=
  match regAt s (addrOfBit key) with
  | none => false
  | some r =>
    let at_ := if r.row.wide then 0 else key % 32
    match r.row.fields.find? fun d => d.lsb == at_ with
    | some d => d.acc == .rw || d.acc == .w1c || d.acc == .rc
    | none => false

/-- The mailboxes at a reset of the function (R417): POSTED commands are discarded; RUNNING ones run to their end, those that still read
their input without effect; every other slot is FREE. -/
def mailboxesReset (s : State) : State :=
  let s := foldS (slotsWhere s fun m => m.st == .posted) (fun n s => s |> mbxBusy n false |> setSlot n freeSlot) s
  let s := { s with mbx := { s.mbx with slots := (fmapV s.mbx.slots fun _ m => if m.st = .running then { m with orphan := true } else freeSlot) } }
  let s := foldS (slotsWhere s fun m => m.st == .running) (fun n s => when (readsOut s n || (slotAt s n).cut) (mbxComplete n .hostMemory 0 []) s) s
  { s with mbx := { s.mbx with slots := fkeep s.mbx.slots fun _ m => m.st == .running } }
    |> wr Reg.MBX_DONE_LO_SLOTS 0 |> wr Reg.MBX_DONE_HI_SLOTS 0

/-- The function's state is reset (R454): fields that are not sticky, with what was staged or waiting for them (R8), the mailboxes, and the
function's own configuration. -/
def functionReset (s : State) : State :=
  let s := mailboxesReset s
  let p := s.pci
  { s with
      regs := fkeep s.regs fun k _ => !lostOnFlr s k
      bus := { s.bus with
        staged := fkeep s.bus.staged fun k _ => !lostOnFlr s (8 * keyHi k)
        waiting := fkeep s.bus.waiting fun k _ => !lostOnFlr s k }
      pci := { p with bme := false, msixEnable := false, unmasked := [], pendingVecs := [], d3 := false, intDisable := false, doe := false
                      aer := { p.aer with report := 0 } } }

/-! ### The full reset -/

/-- Registers that show what the anchor store or a blade keeps: the dictionary slots (R118, R474), the pair KEK (R473), the nonce ring's pointer
(R396), and, while power stays, the photo-finish record counts (R528) and PKG_SUPPLY (R579). -/
def keptRegs (s : State) (power : Bool) (m : FMap Nat) : FMap Nat :=
  fkeep m fun k _ =>
    let off := addrOfBit k % 0x400000
    let seat := decide (0x400000 ≤ addrOfBit k) && decide (addrOfBit k < cfgBase)
    k == Reg.KEY_STATUS_PAIR_KEK.key
      || (seat && 0xA0100 ≤ off && off < 0xA0100 + 4 * 256)
      || (List.range s.hw.seats).any (fun n => k == (Reg.CIP_RING_PTR_SLOT n).key)
      || (!power && ((List.range s.hw.seats).any fun n => k == (Reg.PFR_STATUS_RECORDS n).key || k == (Reg.PFR_STATUS_FULL n).key))
      || (!power && (k == Reg.PKG_SUPPLY_LOW.key || k == Reg.PKG_SUPPLY_BROWNOUT.key))

/-- What a group keeps over a full reset: everything on its blades; not what the head held of it in DRAM. -/
def groupKept (g : Group) : Group :=
  { g with
      victim := none, gcActive := [], gcUrgent := false, readOnlyDue := false, sinceWear := 0, wearing := [], copies := []
      rows := fmapV g.rows fun _ r => { r with readers := 0, dram := false, busy := false, moves := [] }
      rebuilds := g.rebuilds.map fun r => { r with rows := [] } }

/-- A steering entry as the boathouse keeps it: its settings, opened, with no command under it. -/
def nsKept (n : Ns) : Ns := { n with cur := { n.cur with adm := .opened, inflight := 0 }, prev := none }

/-- A loop of a seat as it starts again from its boathouse table (R350). -/
def rateKept (r : RateSeat) : RateSeat :=
  let start := fun (c : LoopCfg) =>
    let secs := c.coefs.map fun l => (⟨l, 0, 0, 0, 0⟩ : Section)
    let secs := match secs.reverse with
      | x :: t => ({ x with y1 := 1024, y2 := 1024 } :: t).reverse
      | [] => []
    { loopReset with
        cfg := c, sections := secs, spEff := c.sp, out := 1024, tokens := if c.target ≠ 0 ∨ c.unlimited then 0 else ((256 * c.depth : Nat) : Int) }
  { rateReset with saved := r.saved, loops := fmapV r.saved fun _ c => start c }

/-- The staged image after a full reset: it stays in its staging area; a schedule is gone, and a complete image is verified again (R546). -/
def updKept (u : Upd) : Upd :=
  let full : Bool := match u.header with | some h => u.pieces.length == h.pieces | none => false
  { u with
      st := if u.header = none then .empty else if u.st = .refused then .refused else if full then .verifying else .receiving
      at_ := 0, first := false, soloOk := false, step := 0, handed := [], edges := 0, bridges := [], peerVerified := false, peerDone := false
      old := none, checking := none, meas4 := 0 }

/-- A link keeps its settings, its last committed epoch and its snapshots; its parts connect again (R373). -/
def linkKept (l : Link) : Link :=
  { l with parts := fmapV l.parts fun _ p => { p with
      qp := none, keyed := false, waiting := false, heard := 0, retryAt := 0, delta := none, opened := false, done := false, refusals := 0
      offering := false, wanted := [], armed := false, offered := [], held := [], received := [], applying := [] } }

/-- The state as a full reset leaves it (R458): what is fused, in the anchor stores and on the blades stays, and, while power stays, the
straps as sampled (R459) and the photo-finish records; everything else is as after power-up. -/
def resetState (power : Bool) (s : State) : State :=
  let z := State.reset
  { z with
      regs := keptRegs s power s.regs
      hw := { s.hw with straps := if power then Straps.low else s.hw.straps }
      stk := { z.stk with floors := s.stk.floors, wasReference := s.stk.wasReference }
      health := { z.health with recs := if power then [] else s.health.recs }
      boot := { z.boot with sampled := s.boot.sampled && !power }
      pwr := { z.pwr with images := s.pwr.images }
      dram := fmapV s.dram fun _ c => { c with copying := [], cursor := 0 }
      upd := updKept s.upd
      nv := { z.nv with ns := fmapV s.nv.ns fun _ n => nsKept n, subsys := s.nv.subsys, tenants := s.nv.tenants, anas := s.nv.anas }
      ing := { z.ing with dicts := s.ing.dicts, fpLog := s.ing.fpLog, ruhs := s.ing.ruhs }
      map := { s.map with
        dirs := [], pages := [], recs := [], nextRec := [], reuse := [], since := [], zones := [], dbuf := [], progRows := [], ckpt := none
        dlog := s.map.dlog.filter (·.programmed), tc := [], fills := [], hand := [], frames := [], discard := none, recovered := none
        noAnchor := false }
      par := { z.par with
        groups := fmapV s.par.groups fun _ g => groupKept g, exts := s.par.exts, reshape := s.par.reshape, bounds := s.par.bounds
        boundNext := s.par.boundNext }
      bld := { z.bld with
        slots := (s.bld.slots.filter fun e => e.2.anchorEpoch != 0).map fun e =>
          (e.1, ⟨none, 0, none, none, none, e.2.anchorEpoch, [], none, 0, 0, 0, 0, false, 0⟩)
        roots := s.bld.roots, allowed := s.bld.allowed }
      pair := { Pair.reset with own := fmapV s.pair.own fun _ o => { o with inflight := 0, prev := none } }
      rate := fmapV s.rate fun _ r => rateKept r
      snp := { s.snp with snaps := fkeep s.snp.snaps (fun _ x => x.confirmed || x.taken), links := fmapV s.snp.links fun _ l => linkKept l }
      keys := { z.keys with
        domains := fmapV s.keys.domains fun _ d => { d with roll := none, erase := d.erase.map fun e => (e.1, none) }
        ctrs := s.keys.ctrs, rings := s.keys.rings, ringSeq := s.keys.ringSeq, ownerChain := s.keys.ownerChain, partners := s.keys.partners }
      pending := s.pending
      out := s.out
      freeCount := s.freeCount }

/-- Bits of PKG_RESET_CAUSE (R479). -/
def causeShow (c : ResetCause) (s : State) : State :=
  s |> wrB Reg.PKG_RESET_CAUSE_POWER_ON (c == .powerUp) |> wrB Reg.PKG_RESET_CAUSE_PERST (c == .perst)
    |> wrB Reg.PKG_RESET_CAUSE_HOT_RESET (c == .hotReset) |> wrB Reg.PKG_RESET_CAUSE_LINK_DOWN (c == .linkDown)

/-- A full reset (R458, R460): no slot is powered, every transmitter is quiet, and the boot ROM waits for `PERST_N`. -/
def fullReset (c : ResetCause) (s : State) : State :=
  let powered := (List.range (slotCount s)).filter fun n => isSet s (Reg.BLD_SLOT_STATUS_PWREN n)
  resetState (c == .powerUp) s |> causeShow c |> updShow
    |> foldS powered (fun n s => emit .pin [16 + n, 0] s) |> emit .pin [1, 1] |> emit .pin [0, 0]

/-- FULL_RESET (R458): power-up, or a reset at scope FULL. -/
def execFullReset (cause : ResetCause) (s : State) : Host.Outcome State Fault Refusal :=
  go (if cause = .powerUp ∨ rd s Reg.PCI_RESET_SCOPE_SCOPE = 0 then fullReset cause s else s)

end Sys2Proof.Machine
end

