-- ==== Sys2Proof/Machine/Memory.lean ====
section
/-!
DEFINITION. Machine/Memory.lean: DRAM channels, the chip-loss code, remapping and patrol scrub (R503 to R510), and reads of the anchor store
(R511 to R516).
-/

namespace Sys2Proof.Machine

/-- DRAM events of a seat, with their enable register (R515). -/
def drmEvent (seat : Nat) (ev : Nat → Fld) (bit : Nat) (s : State) : State := event (ev seat) (Reg.DRM_EVENT_EN_ENABLE seat) bit s

/-- A channel before its first training. -/
def chanReset : DramCh := ⟨0, [], [], 0⟩

/-- A channel of a seat. -/
def chanOf (s : State) (seat ch : Nat) : DramCh := fgetD s.dram (pairKey seat ch) chanReset

/-- Change a channel. -/
def chanMod (seat ch : Nat) (f : DramCh → DramCh) (s : State) : State :=
  { s with dram := fset s.dram (pairKey seat ch) (f (chanOf s seat ch)) }

/-- The mark of subchannel and rank in DRM_CH_MARK: m = 2 × subchannel + rank (R515). -/
def markDevice (seat ch m : Nat) : Fld :=
  match m with
  | 0 => Reg.DRM_CH_MARK_DEVICE0 seat ch | 1 => Reg.DRM_CH_MARK_DEVICE1 seat ch
  | 2 => Reg.DRM_CH_MARK_DEVICE2 seat ch | _ => Reg.DRM_CH_MARK_DEVICE3 seat ch

/-- Its valid bit. -/
def markValid (seat ch m : Nat) : Fld :=
  match m with
  | 0 => Reg.DRM_CH_MARK_VALID0 seat ch | 1 => Reg.DRM_CH_MARK_VALID1 seat ch
  | 2 => Reg.DRM_CH_MARK_VALID2 seat ch | _ => Reg.DRM_CH_MARK_VALID3 seat ch

/-- Show the number of remap entries in use and whether the table is full (R509). -/
def remapShow (seat ch : Nat) (s : State) : State :=
  let n := (chanOf s seat ch).remap.length
  s |> wr (Reg.DRM_CH_REMAPS_COUNT seat ch) n |> wrBit (Reg.DRM_STATUS_REMAP_FULL seat) ch (decide (32 ≤ n))

/-- The channel has failed: a head fault (R504, R507). -/
def channelFails (seat : Nat) (s : State) : State := s |> drmEvent seat Reg.DRM_EVENTS_CHANNEL_FAIL 5 |> headHalt

/-- A line qualifies for remapping (R509): its copy to the lowest free spare starts. -/
def remapStart (seat ch line : Nat) (s : State) : State :=
  let c := chanOf s seat ch
  let busy := c.remap.map (·.2) ++ c.copying.map (·.spare)
  if !isSet s (Reg.DRM_CTRL_AUTO_REMAP seat) ∨ fhas c.remap line = true ∨ c.copying.any (fun x => x.line == line) = true then s
  else match (List.range 32).find? fun n => !busy.contains n with
    | some n => chanMod seat ch (fun c => { c with copying := c.copying ++ [⟨line, n⟩] }) s
    | none => s

/-- The redirection comes into force once its entry is in the anchor store (R509). -/
def remapDone (seat ch : Nat) (s : State) : State :=
  match (chanOf s seat ch).copying with
  | [] => s
  | x :: t =>
    let s := s |> chanMod seat ch (fun c => { c with copying := t, remap := fset c.remap x.line x.spare }) |> ancWrote seat 3 |> remapShow seat ch
      |> drmEvent seat Reg.DRM_EVENTS_REMAPPED 3
    when ((chanOf s seat ch).remap.length == 32) (drmEvent seat Reg.DRM_EVENTS_REMAP_FULL 4) s

/-- DRAM_REMAP_COPY_DONE (R509). -/
def execDramRemapCopyDone (seat channel : Nat) (s : State) : Host.Outcome State Fault Refusal := go (live (remapDone seat channel) s)

/-- DRAM_CA_RETRY (R504): up to four retries of an access, each counted; all four failed, the channel has failed. -/
def caRetry (seat ch retries : Nat) (ok : Bool) (s : State) : State :=
  let inst := 2 * seat + ch
  let one := fun (_ : Nat) (s : State) =>
    let r := faultCount seat 0x09 inst none [] s
    if r.2 then r.1 |> channelFails seat |> faultClear seat 0x09 inst else r.1
  let n := min 4 retries
  let s := s |> bumpN (Reg.DRM_CH_RETRY_COUNT seat ch) n |> foldS (List.range n) one
  if !ok ∧ !s.boot.halted then channelFails seat s else s

/-- DRAM_CA_RETRY. -/
def execDramCaRetry (seat channel retries : Nat) (ok : Bool) (s : State) : Host.Outcome State Fault Refusal := go (live (caRetry seat channel retries ok) s)

/-- Whether the code corrects a burst with errors in these devices (R506). -/
def burstCorrects (s : State) (h : LineHit) : Bool :=
  let m := 2 * h.sub + h.rank
  if isSet s (markValid h.seat h.channel m) then h.devices.all fun d => d == rd s (markDevice h.seat h.channel m)
  else h.devices.length ≤ 1

/-- The device of a subchannel that caused at least twelve of a rank's events (R507), numbered 16 × subchannel + device. -/
def markChoice (e : FaultEntry) : Option Nat := (e.devices.find? fun d => decide (12 ≤ d.2.sum)).map (·.1)

/-- A corrected burst (R506, R507): counted for its rank, its device and its line. -/
def lineCorrected (h : LineHit) (s : State) : State :=
  match h.devices with
  | [] => s
  | d :: _ =>
    let rank := (2 * h.seat + h.channel) * 2 + h.rank
    let s := s |> bump (Reg.DRM_CH_CORR_COUNT h.seat h.channel) |> drmEvent h.seat Reg.DRM_EVENTS_CORRECTED 0
    let r := faultCount h.seat 0x06 rank (some (16 * h.sub + d)) [h.sub, d] s
    let s := if r.2 then
        let s := r.1
        let mark := (fget s.health.faults (faultKey h.seat 0x06 rank)).bind markChoice
        let s := match mark with
          | some k =>
            let m := 2 * (k / 16) + h.rank
            if isSet s (Reg.DRM_CTRL_AUTO_MARK h.seat) && !isSet s (markValid h.seat h.channel m) then
              s |> wr (markDevice h.seat h.channel m) (k % 16) |> wr (markValid h.seat h.channel m) 1 |> drmEvent h.seat Reg.DRM_EVENTS_MARKED 2
            else s
          | none => s
        faultClear h.seat 0x06 rank s
      else r.1
    let line := (2 * h.seat + h.channel) * 4294967296 + h.line
    let r := faultCount h.seat 0x07 line none [] s
    if r.2 then r.1 |> remapStart h.seat h.channel h.line |> faultClear h.seat 0x07 line else r.1

/-- Codes of the consumers in a fault entry's detail. -/
def userCode : DramUser → Nat
  | .pcieRead => 0 | .cleanPage _ => 1 | .dirtyPage => 2 | .rowCopy _ _ => 3 | .fpSet _ => 4 | .standbyView _ => 5 | .dataPlane _ _ => 6
  | .firmware => 7 | .scrub => 8

/-- A poisoned completion is sent (R446). -/
def poisonSent (s : State) : State :=
  s |> emit .pcieStatus [1] |> bump Reg.PCI_POISON_SENT_COUNT |> setEvent Reg.PCI_EVENTS_POISON_SENT false

/-- An extent read from a row's DRAM copy meets the error (R508): with the row programmed the read goes on from flash; a row that is not yet
programmed on every member loses accepted data, a head fault (R507). -/
def unitFromFlash (id idx : Nat) (s : State) : State :=
  match cmdOf s id, unitOf s id idx with
  | some _, some u => (match unitExt s u, (unitExt s u).bind fun e => groupOf s e.pool with
    | some e, some g =>
      if u.stage ≠ .opening ∨ !u.dram then s
      else if (match fget g.rows e.row with | some r => rowUnsettled r | none => false) then headHalt s
      else
        let s := unitMod id idx (fun u => { u with dram := false, again := false, stage := .reading }) s
        (match unitPage s { u with dram := false } with
          | some (slot, die, block, _, _) => directRead id idx (startLevel s slot die block) false s
          | none => unitRebuild id idx none s)
    | _, _ => s)
  | _, _ => s

/-- What a consumer does about an uncorrectable line (*Uncorrectable consumers*, R508). A bus-error exception of a core (firmware) and a line
that only the scrub read change nothing the model holds. -/
def consumerActs (seat : Nat) (u : DramUser) (s : State) : State :=
  match u with
  | .pcieRead => poisonSent s
  | .cleanPage k => pageEvict seat k s
  | .dirtyPage => headHalt s
  | .rowCopy id idx => unitFromFlash id idx s
  | .fpSet n => { s with ing := { s.ing with fps := fdel s.ing.fps (fpKey seat n) } }
  | .standbyView n => viewMod n (fun v => { v with overlay := [], sync := [], exts := [] }) s
  | .dataPlane id idx => (match unitOf s id idx with
    | some u => if u.stage = .done then s else unitFail id idx .internal none s
    | none => (match cmdOf s id with | some c => ingestError id (blkLba c idx) .internal s | none => s))
  | .firmware => s
  | .scrub => s

/-- An uncorrectable read (R508). -/
def lineUncorrected (h : LineHit) (s : State) : State :=
  let inst := 2 * h.seat + h.channel
  let s := s |> bump (Reg.DRM_CH_UNCORR_COUNT h.seat h.channel) |> drmEvent h.seat Reg.DRM_EVENTS_UNCORRECTABLE 1
  let r := faultCount h.seat 0x08 inst none [h.line, userCode h.user] s
  let s := if r.2 then r.1 |> channelFails h.seat |> faultClear h.seat 0x08 inst else r.1
  live (fun s => s |> consumerActs h.seat h.user |> live (remapStart h.seat h.channel h.line)) s

/-- A line of DRAM is read with an error. -/
def lineHit (h : LineHit) (s : State) : State :=
  if s.hw.seats ≤ h.seat ∨ 2 ≤ h.channel ∨ h.devices = [] then s
  else if burstCorrects s h then lineCorrected h s else lineUncorrected h s

/-- Lines of a channel: 64 bytes each. -/
def chanLines (s : State) (seat ch : Nat) : Nat := rd s (Reg.DRM_CH_CFG_GIB seat ch) * 16777216

/-- The patrol scrub of a channel at a SCRUB event (R510): the next lines, with the errors met; a channel in EASY is not woken. -/
def scrubChannel (hits : List LineHit) (seat ch : Nat) (s : State) : State :=
  if !bitOf (rd s (Reg.DRM_STATUS_TRAINED seat)) ch ∨ !isSet s (Reg.DRM_CTRL_SCRUB_EN seat) then s
  else if rd s (Reg.PWR_UNIT_STATE_STATE seat 12) = 2 then bump (Reg.DRM_SCRUB_SKIPPED_COUNT seat) s
  else
    let n := (chanOf s seat ch).cursor + max 1 (rd s (Reg.DRM_SCRUB_LINES seat))
    let lines := max 1 (chanLines s seat ch)
    let s := chanMod seat ch (fun c => { c with cursor := n % lines }) s |> when (decide (lines ≤ n)) (bump (Reg.DRM_SCRUB_PASSES_COUNT seat))
    foldS (hits.filter fun h => h.seat == seat && h.channel == ch) (fun h s => live (lineHit h) s) s

/-- Tokens of 4 KiB that the patrol scrub of a seat wants at a SCRUB event: its lines on both channels (R346, R510). -/
def scrubTokens (s : State) (seat : Nat) : Nat :=
  if isSet s (Reg.DRM_CTRL_SCRUB_EN seat) then ceilDiv (2 * 64 * max 1 (rd s (Reg.DRM_SCRUB_LINES seat))) 4096 else 0

/-- SCRUB (R58, R510): the scrub of a seat runs within its grant (R24, R346). -/
def scrubEdge (hits : List LineHit) (s : State) : State :=
  foldS (seatList s) (fun n s =>
    if mayRun s n .scrub then s |> charge n .scrub (scrubTokens s n) |> scrubChannel hits n 0 |> scrubChannel hits n 1 else s) s

/-! ### The anchor store -/

/-- The region an anchor-store offset lies in (*Anchor store layout*, R513). -/
def ancRegion (off : Nat) : Option Nat :=
  if off < 0x4000 then some 0 else if off < 0x4100 then some 1 else if off < 0x4900 then some 2 else if off < 0x4E00 then some 3
  else if off < 0x5000 then some 4 else if off < 0x8000 then some 5 else if off < 0x8100 then some 6
  else if 0x10000 ≤ off ∧ off < 0x50000 then some 7 else if 0x80000 ≤ off ∧ off < 0x100000 then some 8
  else if 0x100000 ≤ off ∧ off < 0x140000 then some 9 else none

/-- Regions of the stroke seat only. -/
def ancStrokeSeat (r : Nat) : Bool := r == 0 || r == 1 || r == 5 || r == 6 || r == 7

/-- A 64-bit word whose cells of 16 bits in `bad` read as zero (R511). -/
def cellsZeroed (bad w : Nat) : Nat :=
  ((List.range 4).filter fun c => !bitOf bad c).foldl (fun a c => a + w / 2 ^ (16 * c) % 65536 * 2 ^ (16 * c)) 0

/-- ANC_READ_ADDR is written (R516): the word it names is loaded; regions 6, 7 and 8 read as zero, and so do reserved ones (R513). The spec
gives the records no byte layout, so another word is an open value (log entry 30). -/
def ancWord (seat value bad : Nat) (s : State) : State :=
  let off := value / 8 % 524288 * 8
  let s := wr (Reg.ANC_READ_ADDR_WORD seat) (off / 8) s
  match ancRegion off with
  | none => wr (Reg.ANC_READ seat) 0 s
  | some r =>
    if r = 6 ∨ r = 7 ∨ r = 8 ∨ (seat ≠ 0 ∧ ancStrokeSeat r = true) then wr (Reg.ANC_READ seat) 0 s
    else { s with freeCount := s.freeCount + 1 } |> wr (Reg.ANC_READ seat) (cellsZeroed bad (Config.anchorWord seat off s.freeCount))

/-- A read of a word finds cells that the check bits correct and cells that they only detect (bit masks of the word's four cells): each is
counted, and each of the second kind is an event of source ANC_ECC and reads as zero (R511, R517). -/
def ancRead (seat value corrected bad : Nat) (s : State) : State :=
  let count (m : Nat) := ((List.range 4).filter (bitOf m)).length
  let s := s |> bumpN (Reg.ANC_ECC_CORR_COUNT seat) (count corrected) |> bumpN (Reg.ANC_ECC_UNCORR_COUNT seat) (count bad)
    |> when (count corrected != 0) (event (Reg.ANC_EVENTS_ECC_CORR seat) (Reg.ANC_EVENT_EN_ENABLE seat) 0)
    |> when (count bad != 0) (event (Reg.ANC_EVENTS_ECC_UNCORR seat) (Reg.ANC_EVENT_EN_ENABLE seat) 1)
    |> foldS ((List.range 4).filter (bitOf bad)) (fun c s => faultNote seat 0x0D seat [seat, value / 8 % 524288 * 8 + 2 * c] s)
  ancWord seat value bad s

/-- ANC_READ_ADDR. -/
def execAncReadAddr (seat value corrected bad : Nat) (s : State) : Host.Outcome State Fault Refusal :=
  go (if seat < s.hw.seats then ancRead seat value corrected bad s else s)

end Sys2Proof.Machine
end

