-- ==== Sys2Proof/Machine/Boot.lean ====
section
/-!
DEFINITION. Machine/Boot.lean: the boot ROM, the download of an image and bring-up to the opening of the front end (R458 to R478, R404, R440,
R578).
-/

namespace Sys2Proof.Machine

/-! ### Boot events (R440, R462) -/

/-- INTA follows the enabled boot events while the boot ROM runs (R440). -/
def intxShow (s : State) : State :=
  let want := !coxRuns s && !s.pci.intDisable && (List.range 8).any fun i =>
    bitOf (rd s Reg.PCI_INTX_STATUS_EVENT) i && bitOf (rd s Reg.PCI_INTX_EN_ENABLE) i
  if want = s.pci.inta then s
  else { s with pci := { s.pci with inta := want } } |> upstream .intx [if want then 1 else 0]

/-- A boot event is signalled (R462). -/
def bootEvent (bit : Nat) (s : State) : State := s |> wrBit Reg.PCI_INTX_STATUS_EVENT bit true |> intxShow

/-- Phase of the boot ROM (R479). -/
def bootPhase (s : State) : Nat := rd s Reg.PKG_BOOT_STATUS_PHASE

/-- Set the phase. -/
def setPhase (p : Nat) (s : State) : State := wr Reg.PKG_BOOT_STATUS_PHASE p s

/-! ### Start (R51, R404, R459, R461, R578) -/

/-- The boot ROM waits for an image from offset 0. -/
def bootWait (s : State) : State :=
  { s with boot := { s.boot with header := none } } |> setPhase 1 |> wr Reg.PKG_BRINGUP_STEP 2 |> wr Reg.PKG_BOOT_OFFSET_BYTES 0 |> bootEvent 0

/-- Floor slots whose record is torn are ignored (R51, R511). -/
def floorsTorn (torn : List Nat) (s : State) : State :=
  let l := torn.filter fun n => fhas s.stk.floors n
  { s with stk := { s.stk with floors := fmapV s.stk.floors fun k f => { f with intact := f.intact && !l.contains k } } }
    |> foldS l (fun _ s => s |> bump (Reg.ANC_TORN_COUNT 0) |> event (Reg.ANC_EVENTS_TORN 0) (Reg.ANC_EVENT_EN_ENABLE 0) 2)

/-- Writes of the new floor: `fails` of them do not read back, then one does; none goes to the slot of the newest intact one (R51). -/
def floorWrites (value : Nat) (fails : Nat) (s : State) : State × Bool :=
  match newestFloor s with
  | none => (s, false)
  | some (p, f) =>
    let s := foldS (List.range (min fails 15)) (fun i s => writeFloor value (p + 1 + i) (f.seq + 1 + i) false s) s
    if fails < 15 then (writeFloor value (p + 1 + fails) (f.seq + 1 + fails) true s, true) else (s, false)

/-- Bring-up cannot complete its first step (R478); the logbook opens only with the stroke seat's DRAM, so the fault is nowhere logged. -/
def stepOneFails (s : State) : State := wr Reg.PKG_BRINGUP_FAILED_STEP 1 s

/-- Step 1 of *Bring-up steps*: the floor is read and the next one written, the stroke unit released, then the known-answer tests run. No edge
counts until a floor has read back (R51); a floor that cannot be read or written, and a test strap, halt the boot ROM (R478, R578). The spec
gives no extended stroke for a device without an intact floor: it is an open value. -/
def bootStart (b : BootRom) (s : State) : State :=
  let s := if s.boot.sampled then s else { s with hw := { s.hw with straps := b.straps }, boot := { s.boot with sampled := true } }
  if s.hw.straps.test ≠ 0 then setPhase 7 s
  else
    let s := s |> floorsTorn b.torn |> wr (Reg.ANC_STATUS_READY 0) 1
    let start := fun e (s : State) => { s with stk := { s.stk with ext := e, activeSince := e, preferAt := e, sinceRelease := 0, mid := false } } |> setTicks 0
    match highestFloor s with
    | none =>
      let o := openValue s
      o.2 |> start o.1 |> stepOneFails |> setPhase 7
    | some e =>
      let r := floorWrites (e + 65536) b.floorFails (start e s)
      let s := { r.1 with stk := { r.1.stk with released := r.2 } }
      if !r.2 then s |> stepOneFails |> setPhase 7
      else if !b.katOk then
        s |> wr Reg.KEY_STATUS_SELFTEST_FAIL 1 |> event Reg.KEY_EVENTS_SELFTEST_FAIL Reg.KEY_EVENT_EN_ENABLE 6 |> stepOneFails |> setPhase 6 |> bootEvent 4
      else s |> wr Reg.KEY_STATUS_READY 1 |> wr (Reg.CIP_STATUS_SELFTEST_OK 0) 1 |> bootWait

/-- PERST_DEASSERT (R452, R459, R461): after a full reset the boot ROM starts, unless a brown-out still holds the device; after a reset of the
control face the link trains again. -/
def execPerstDeassert (b : BootRom) (s : State) : Host.Outcome State Fault Refusal :=
  go (
    if !s.pci.perst then s
    else
      let s := { s with pci := { s.pci with perst := false } }
      if s.pci.face ∨ s.hw.brownout ∨ s.stk.released ∨ bootPhase s ≠ 0 then s else bootStart b s)

/-! ### The download (R465 to R470) -/

/-- The boot ROM takes an image. -/
def downloading (s : State) : Bool := 1 ≤ bootPhase s && bootPhase s ≤ 4

/-- Name of the key slot of a boot image's own key, beside those of data and dedup keys. -/
def imageKeySlot : Nat := slotKey 2 0 0

/-- Context 0 and the image-key slot are freed (R468). -/
def bootCtxFree (s : State) : State :=
  { s with keys := { s.keys with
      ctxs := fdel s.keys.ctxs (pairKey 0 0), slots := fset s.keys.slots 0 ((fgetD s.keys.slots 0 []).filter (· != imageKeySlot)) } }
    |> wr (Reg.DIG_STATUS_BOOT_CTX 0) 0

/-- The download is refused (R468). -/
def bootRefuse (reason : Nat) (s : State) : State :=
  if downloading s then
    s |> bootCtxFree |> wr Reg.PKG_BOOT_STATUS_ERROR reason |> bump Reg.PKG_BOOT_STATUS_ATTEMPTS |> bootEvent 3 |> bootWait
  else s

/-- Chunks whose last byte lies in the first `n` bytes of a body of `len` bytes (R464, R466). -/
def chunksIn (len n : Nat) : Nat := if len ≤ n then ceilDiv len 16400 else n / 16400

/-- Bytes of the body are hashed by context 0, and each chunk is opened with its last byte (R383, R466). -/
def bodyTake (h : ImageHeader) (off len : Nat) (tagsOk : Bool) (s : State) : State :=
  let c := ctxOf s 0 0
  let chunks := chunksIn h.bodyLen (off + len - 16384) - chunksIn h.bodyLen (off - 16384)
  let s := s |> setCtx 0 0 { c with count := c.count + len } |> wr (Reg.DIG_BYTES 0) (rd s (Reg.DIG_BYTES 0) + len) |> digBoot
    |> wr (Reg.CIP_OPENS 0) (rd s (Reg.CIP_OPENS 0) + chunks)
  if chunks ≠ 0 ∧ !tagsOk then s |> bump (Reg.CIP_TAG_FAIL_COUNT 0) |> bootRefuse 0x0A
  else if off + len = 16384 + h.bodyLen then s |> setPhase 4 |> wr Reg.PKG_BRINGUP_STEP 5
  else s

/-- BOOT_WINDOW_WRITE (R465, R466): only at the running offset, not past what may be written. -/
def windowWrite (off len : Nat) (tagsOk : Bool) (s : State) : State :=
  let at_ := rd s Reg.PKG_BOOT_OFFSET_BYTES
  if !downloading s ∨ len = 0 then s
  else
    let top := match s.boot.header with | some h => 16384 + h.bodyLen | none => 16384
    if off ≠ at_ ∨ top < at_ + len then bootRefuse 0x08 s
    else
      let s := { s with boot := { s.boot with lastWrite := s.stk.ext } } |> wr Reg.PKG_BOOT_OFFSET_BYTES (at_ + len)
      match s.boot.header with
      | some h => bodyTake h off len tagsOk s
      | none => s |> setPhase 2 |> when (at_ + len == 16384) (wr Reg.PKG_BRINGUP_STEP 3)

/-- BOOT_WINDOW_WRITE. -/
def execBootWindowWrite (off len : Nat) (tagsOk : Bool) (s : State) : Host.Outcome State Fault Refusal := go (windowWrite off len tagsOk s)

/-- BOOT_HEADER_CHECKED (R465): the first check that fails refuses the download; otherwise the image key is in its slot, context 0 is opened to
compare, and the body may be written. -/
def headerChecked (h : ImageHeader) (c : HeaderChecks) (s : State) : State :=
  if bootPhase s ≠ 2 ∨ rd s Reg.PKG_BOOT_OFFSET_BYTES ≠ 16384 then s
  else match headerRefusal 67092480 h c s with
    | some r => bootRefuse r s
    | none =>
      { s with boot := { s.boot with header := some h } } |> slotFill 0 imageKeySlot |> setCtx 0 0 ⟨1, 1, true, false, false, 1, false, 0, []⟩
        |> wr (Reg.DIG_STATUS_BOOT_CTX 0) 1 |> setPhase 3 |> wr Reg.PKG_BRINGUP_STEP 4 |> bootEvent 1

/-- BOOT_HEADER_CHECKED. -/
def execBootHeaderChecked (h : ImageHeader) (c : HeaderChecks) (s : State) : Host.Outcome State Fault Refusal := go (headerChecked h c s)

/-- The image has passed (R467, R471 step 6): the cox starts on seat 0; slots with a blade are powered (R460). -/
def coxStarts (h : ImageHeader) (s : State) : State :=
  let s := s |> setCtx 0 0 { ctxOf s 0 0 with st := 3, equal := true } |> wr (Reg.DIG_STATUS_BOOT_CTX 0) 0 |> bump (Reg.DIG_CMP_EQUAL_COUNT 0)
    |> bootEvent 2
  let s := { s with boot := { s.boot with running := some h, measured := some h, header := none } } |> setPhase 5 |> intxShow
    |> wr Reg.PKG_BOOT_VERSION_VERSION h.version |> wr Reg.PKG_BOOT_SVN_SVN h.svn
    |> wr Reg.MBX_STATUS_READY 1 |> wr Reg.MBX_STATUS_SERVICE 1 |> wr Reg.PKG_BRINGUP_STEP 6
  foldS (List.range (slotCount s)) (fun n s => slotPower n s) s

/-- BOOT_IMAGE_VERIFIED (R467): the comparator's result, and whether the image stands in SRAM without error. -/
def imageVerified (equal sramOk : Bool) (s : State) : State :=
  match s.boot.header with
  | none => s
  | some h =>
    if bootPhase s ≠ 4 then s
    else if !sramOk then s |> bootEvent 6 |> bootRefuse 0x0E
    else if !equal then s |> bump (Reg.DIG_CMP_NOT_EQUAL_COUNT 0) |> bootRefuse 0x0B
    else coxStarts h s

/-- BOOT_IMAGE_VERIFIED. -/
def execBootImageVerified (equal : Bool) (sramOk : Bool) (s : State) : Host.Outcome State Fault Refusal := go (imageVerified equal sramOk s)

/-- A write of PKG_BOOT_CTRL.RESTART refuses the download in progress (R468). -/
def bootRestart (s : State) : State := if rd s Reg.PKG_BOOT_OFFSET_BYTES = 0 then s else bootRefuse 0x0D s

/-- BOOT_RESTART. -/
def execBootRestart (s : State) : Host.Outcome State Fault Refusal := go (bootRestart s)

/-- BOOT_DOWNLOAD_TIMEOUT (R468): no body write for 100,000 strokes since the last write, for the first one since that which completed the
header (log entry 17). -/
def execBootDownloadTimeout (s : State) : Host.Outcome State Fault Refusal :=
  go (if bootPhase s = 3 ∧ s.boot.lastWrite + 100000 ≤ s.stk.ext then bootRefuse 0x0C s else s)

/-- A function-level reset while the boot ROM takes an image: the partial image is discarded (R455, R470). -/
def bootDiscard (s : State) : State :=
  if downloading s then
    { s with boot := { s.boot with header := none, restarted := true } } |> bootCtxFree |> setPhase 1 |> wr Reg.PKG_BRINGUP_STEP 2
      |> wr Reg.PKG_BOOT_OFFSET_BYTES 0
  else s

/-- At the end of that reset the boot ROM says so. -/
def bootRestarted (s : State) : State :=
  if s.boot.restarted then { s with boot := { s.boot with restarted := false } } |> bootEvent 5 |> bootEvent 0 else intxShow s

/-! ### Bring-up (R471 to R478) -/

/-- Code of the FIRMWARE entry for a step of bring-up that could not complete, with the step (R478). -/
def bringupLog : Nat := 471

/-- Bring-up stops at a step, with what failed. -/
def stepFails (step : Nat) (what : List Nat) (s : State) : State := s |> logFw 0 bringupLog (step :: what) |> bringupStops step

/-- CLUSTER_SELF_TEST_DONE (R471 step 6): the seats that passed, seat 0 first. -/
def selfTestDone (passed : List Bool) (s : State) : State :=
  if rd s Reg.PKG_BRINGUP_STEP ≠ 6 ∨ serviceMode s ≠ 1 ∨ s.boot.halted then s
  else
    let up := (seatList s).filter fun n => passed.getD n false
    let s := { s with boot := { s.boot with seatsUp := up } }
    let s := foldS up (fun n s => s |> wr (Reg.ANC_STATUS_READY n) 1 |> wr (Reg.CIP_STATUS_SELFTEST_OK n) 1
      |> wr (Reg.KEEL_LINK_STATUS_LINK_UP n) (bitsOf ((seatList s).map fun m => m != n && up.contains m))) s
    let s := wrB Reg.MBX_COX_STANDBY_READY (up.contains 1) s
    if up.length = s.hw.seats then wr Reg.PKG_BRINGUP_STEP 7 s
    else stepFails 6 ((seatList s).filter fun n => !up.contains n) s

/-- CLUSTER_SELF_TEST_DONE. -/
def execClusterSelfTestDone (passed : List Bool) (s : State) : Host.Outcome State Fault Refusal := go (selfTestDone passed s)

/-- Steps 7 and 8 run at the same time; step 9 follows both. -/
def stepsJoin (s : State) : State :=
  wr Reg.PKG_BRINGUP_STEP (if s.boot.dramDone then (if s.boot.bladesDone then 9 else 8) else 7) s

/-- A DIMM within the limits of R503, equal to the first channel's. -/
def dimmOk (first : Option Dimm) (d : Dimm) : Bool :=
  d.trained && [32, 64, 128, 256].contains d.gib &&
    (match first with | some f => f.gib == d.gib && f.dualRank == d.dualRank | none => false)

/-- A channel enters service (R505): with the remap table and the marks of its DIMM, or with none for another DIMM. -/
def chanTrained (d : Dimm) (s : State) : State :=
  let same := (chanOf s d.seat d.channel).tableSerial == d.serial
  let s := s |> wr (Reg.DRM_CH_SERIAL_SERIAL d.seat d.channel) d.serial |> wr (Reg.DRM_CH_CFG_GIB d.seat d.channel) d.gib
    |> wrB (Reg.DRM_CH_CFG_DUAL_RANK d.seat d.channel) d.dualRank |> wrBit (Reg.DRM_STATUS_TRAINED d.seat) d.channel true
  let s := if same then s
    else s |> chanMod d.seat d.channel (fun c => { c with tableSerial := d.serial, remap := [] })
      |> foldS (List.range 4) (fun m s => s |> wr (markDevice d.seat d.channel m) 0 |> wr (markValid d.seat d.channel m) 0)
  remapShow d.seat d.channel s

/-- BRINGUP_DRAM_TRAINED (R471 step 7, R503 to R505): the logbook, in the stroke seat's DRAM, opens with that seat's channels (R521). -/
def dramTrained (dimms : List Dimm) (s : State) : State :=
  let step := rd s Reg.PKG_BRINGUP_STEP
  if (step ≠ 7 ∧ step ≠ 8) ∨ s.boot.dramDone ∨ serviceMode s ≠ 1 then s
  else
    let at_ := fun seat ch => dimms.find? fun d => d.seat == seat && d.channel == ch
    let all := ((seatList s).map fun n => [(n, 0), (n, 1)]).flatten
    let first := at_ 0 0
    let good := all.filterMap fun p => (at_ p.1 p.2).bind fun d => if dimmOk first d then some d else none
    let bad := all.filter fun p => !good.any fun d => d.seat == p.1 && d.channel == p.2
    let s := foldS good chanTrained s
    let s := when (!bad.any fun p => p.1 == 0) (wr Reg.LOG_STATUS_READY 1) s
    if bad = [] then stepsJoin { s with boot := { s.boot with dramDone := true } }
    else stepFails 7 (bad.map fun p => 2 * p.1 + p.2) s

/-- BRINGUP_DRAM_TRAINED. -/
def execBringupDramTrained (dimms : List Dimm) (s : State) : Host.Outcome State Fault Refusal := go (live (dramTrained dimms) s)

/-- BRINGUP_DISCOVERY_DONE (R471 step 8): the shares of a blade that is absent or has not passed attestation are lost (R213). -/
def discoveryDone (s : State) : State :=
  let step := rd s Reg.PKG_BRINGUP_STEP
  if (step ≠ 7 ∧ step ≠ 8) ∨ s.boot.bladesDone ∨ serviceMode s ≠ 1 then s
  else
    let s := foldS (List.range (slotCount s)) (fun n s => when (!isSet s (Reg.BLD_SLOT_STATUS_ATTESTED n)) (slotSharesLost n) s) s
    stepsJoin { s with boot := { s.boot with bladesDone := true } }

/-- BRINGUP_DISCOVERY_DONE. -/
def execBringupDiscoveryDone (s : State) : Host.Outcome State Fault Refusal := go (live discoveryDone s)

/-- Slots of a side that the anchor store names: fenced by this head before (R472). -/
def recordedSlots (s : State) (side : Nat) : List Nat := (sideSlots s [side]).filter fun n => (slotOf s n).anchorEpoch != 0

/-- Every attested bridge of a side names this head at the recorded epoch or an earlier one (R472). -/
def sideMine (s : State) (side : Nat) : Bool :=
  let l := recordedSlots s side
  l != [] && l.all fun n => !isSet s (Reg.BLD_SLOT_STATUS_ATTESTED n) ||
    (rd s (Reg.BLD_SLOT_INFO_OWNER n) == myPort s + 1 && !strokeLater (rd s (Reg.BLD_SLOT_FENCE_EPOCH n)) (slotOf s n).anchorEpoch)

/-- SIDE_RECOVERY (R472 to R474): the sides to recover; then the map of each is recovered on its home seats. A head that recovers no side
skips steps 9 and 10. -/
def sideRecovery (r : RecoveryInfo) (s : State) : State :=
  if rd s Reg.PKG_BRINGUP_STEP ≠ 9 ∨ serviceMode s ≠ 1 ∨ !s.boot.dramDone ∨ !s.boot.bladesDone ∨ s.boot.mapDone ∨ isSet s (Reg.MAP_STATUS_RECOVERING 0) then s
  else
    let mine := if isSet s Reg.KEY_STATUS_PAIR_KEK then [0, 1].filter (sideMine s) else []
    let got := mine.filter fun d => r.readable.contains d
    let s := foldS (mine.filter fun d => !r.readable.contains d) (fun d s => logFw 0 bringupLog [9, d, stsCode .mediaLost] s) s
    if got ≠ [] ∧ readsMedia s < r.mediaFormat then stepFails 9 [r.mediaFormat, stsCode .incompatible] s
    else
      let s := { s with pair := { s.pair with recovered := got } }
        |> wr Reg.PKG_BRINGUP_RECOVERED (bitsOf [got.contains 0, got.contains 1]) |> countersResume
      if got = [] then recoveryEnds s
      else { s with upd := { s.upd with media := r.mediaFormat } } |> updShow
        |> foldS (seatList s) (fun n s => wr (Reg.MAP_STATUS_RECOVERING n) 1 s)

/-- SIDE_RECOVERY. -/
def execSideRecovery (r : RecoveryInfo) (s : State) : Host.Outcome State Fault Refusal := go (live (sideRecovery r) s)

/-- Join step 7 has passed, or the head is SOLO (R476). -/
def joined (s : State) : Bool := s.pair.step == 7 || s.pair.st == .solo

/-- The front end may open (R476). -/
def mayOpen (s : State) : Bool :=
  joined s && s.boot.mapDone && s.boot.rowsDone && !isSet s Reg.PKG_BRINGUP_HOLD_OPEN && !(pendingSnaps s).any (fun t => decide (t ≤ s.stk.ext)) &&
    !(s.par.groups.any fun g => ownsSide s g.2.side && g.2.rows.any fun r => r.2.rewrite)

/-- FRONT_END_OPEN (R476): the first stroke of service. -/
def frontEndOpens (s : State) : State :=
  if serviceMode s = 1 ∧ (rd s Reg.PKG_BRINGUP_STEP = 11 ∨ rd s Reg.PKG_BRINGUP_STEP = 12) ∧ mayOpen s = true then
    s |> frontEnd true |> foldS (seatList s) linksUp |> wr Reg.PKG_BRINGUP_STEP 13 |> wr Reg.PKG_OPEN s.stk.ext |> wr Reg.MBX_STATUS_SERVICE 0 |> anaChanged
  else s

/-- FRONT_END_OPEN. -/
def execFrontEndOpen (s : State) : Host.Outcome State Fault Refusal := go (live frontEndOpens s)

/-- At a stroke edge: the head waits in step 12 once it has joined. -/
def stepTwelve (s : State) : State := if rd s Reg.PKG_BRINGUP_STEP = 11 ∧ joined s = true then wr Reg.PKG_BRINGUP_STEP 12 s else s

end Sys2Proof.Machine
end

