-- ==== Sys2Proof/Machine/Endpoint.lean ====
section
/-!
DEFINITION. Machine/Endpoint.lean: the PCIe function: link, resets, Bus Master Enable, completions, power management and DOE discovery
(R434 to R457, and the resets of R458).
-/

namespace Sys2Proof.Machine

/-- A PCI event bit; PCI_EVENTS has no enable register and the spec raises none of its bits to the cox (R457). -/
def pciEvent (ev : Fld) (s : State) : State := setEvent ev false s

/-- Messages whose condition has ended are sent, oldest first, one for each vector (R439, R448, R453). -/
def msgsFlush (s : State) : State :=
  let due := s.pci.pendingVecs.filter (msixOpen s)
  foldS due (fun v s => upstream (.msix false) [v] s) { s with pci := { s.pci with pendingVecs := s.pci.pendingVecs.filter fun v => !msixOpen s v } }

/-- A configuration write, or one to the MSI-X table behind a BAR: while the endpoint answers with Request Retry Status it has no effect
(R452, R454, R461). -/
def configured (f : State → State) (s : State) : State := if s.pci.retry then s else f s

/-- The link is up. -/
def pcieUp (s : State) : Bool := rd s Reg.PCI_LINK_STATE_SPEED != 0

/-- Tags of the requests outstanding, for which a FLR waits. -/
def tagsOut (s : State) : List Nat := (s.pci.tags.filter fun e => !e.2.reserved).map Prod.fst

/-! ### Link (R434, R447, R450, R452) -/

/-- PCIE_LINK_UP (R434): speed 1 to 6, lanes, flit mode. After a full reset the endpoint is then ready (R461). -/
def execPcieLinkUp (speed width : Nat) (flit : Bool) (s : State) : Host.Outcome State Fault Refusal :=
  go (
    if s.pci.perst then s
    else
      s |> wr Reg.PCI_LINK_STATE_SPEED speed |> wr Reg.PCI_LINK_STATE_WIDTH width |> wrB Reg.PCI_LINK_STATE_FLIT flit |> wr Reg.PCI_LINK_STATE_PM 0
        |> (fun s => if s.pci.face ∨ s.pci.flr then s else { s with pci := { s.pci with retry := false } })
        |> when (decide (speed < 4) || decide (width < 4)) (pciEvent Reg.PCI_EVENTS_LINK_DEGRADED))

/-- The link goes down: its state reads zero. -/
def linkDrops (s : State) : State :=
  s |> wr Reg.PCI_LINK_STATE_SPEED 0 |> wr Reg.PCI_LINK_STATE_WIDTH 0 |> wr Reg.PCI_LINK_STATE_FLIT 0 |> wr Reg.PCI_LINK_STATE_PM 0

/-- A reset of the control face (R417, R452): the function is reset, its requests are gone, and configuration requests are retried until
the cox has restored it. -/
def faceReset (s : State) : State :=
  let s := functionReset s
  { s with pci := { s.pci with tags := [], flr := false, retry := true, face := true } }
    |> wr Reg.PCI_OUTSTANDING_COUNT 0 |> linkDrops |> intxShow |> pciEvent Reg.PCI_EVENTS_FACE_RESET

/-- A reset of the link acts at the scope in force (R450, R451). -/
def scopedReset (c : ResetCause) (s : State) : State :=
  if rd s Reg.PCI_RESET_SCOPE_SCOPE = 1 then faceReset s else fullReset c s

/-- PERST_ASSERT (R451): the scope is sampled at this edge. -/
def execPerstAssert (s : State) : Host.Outcome State Fault Refusal :=
  go (if s.pci.perst then s
    else
      let s := scopedReset .perst s
      { s with pci := { s.pci with perst := true } })

/-- PCIE_HOT_RESET (R450). -/
def execPcieHotReset (s : State) : Host.Outcome State Fault Refusal := go (if s.pci.perst then s else scopedReset .hotReset s)

/-- PCIE_LINK_DOWN (R450): a link that was up goes down. -/
def execPcieLinkDown (s : State) : Host.Outcome State Fault Refusal :=
  go (if s.pci.perst ∨ !pcieUp s then s else scopedReset .linkDown s)

/-- FACE_RESTORE_DONE (R452). -/
def execFaceRestoreDone (s : State) : Host.Outcome State Fault Refusal :=
  go (if s.pci.face ∧ !s.pci.perst ∧ pcieUp s = true then { s with pci := { s.pci with face := false, retry := false } } else s)

/-- PCIE_L1_ENTRY (R447): substate 0 L1, 1 L1.1, 2 L1.2; not while a request is outstanding upstream. -/
def execPcieL1Entry (sub : Nat) (s : State) : Host.Outcome State Fault Refusal :=
  go (if pcieUp s ∧ rd s Reg.PCI_LINK_STATE_PM = 0 ∧ sub < 3 ∧ tagsOut s = [] then
    s |> wr Reg.PCI_LINK_STATE_PM (1 + sub) |> bump Reg.PCI_L1_ENTRIES_COUNT else s)

/-- PCIE_L1_EXIT (R447): what falls due in L1 wakes the link itself, for its exit latency is no time of the model (`upstream`). -/
def execPcieL1Exit (s : State) : Host.Outcome State Fault Refusal := go (wr Reg.PCI_LINK_STATE_PM 0 s)

/-! ### Bus Master Enable, function-level reset, power (R448, R453 to R455, R470) -/

/-- No new request goes out, and what is outstanding will be discarded (R453). -/
def requestsStop (s : State) : State :=
  { s with pci := { s.pci with bme := false, tags := fmapV s.pci.tags fun _ t => { t with abandoned := true } } }

/-- Clearing Bus Master Enable (R416, R453): commands that still read their input end. -/
def bmeClears (s : State) : State :=
  let l := (slotsWhere s fun m => m.st == .running).filter (readsOut s)
  foldS l (fun n s => mbxComplete n .hostMemory 0 [] s) (requestsStop s)

/-- A function-level reset meets the commands that run (R417, R454): those that still read their input stop, and each will be logged at its
end. -/
def slotsCut (s : State) : State :=
  { s with mbx := { s.mbx with slots := fmapV s.mbx.slots fun n m =>
      if m.st = .running then { m with orphan := true, cut := m.cut || readsOut s n } else m } }

/-- BME_CLEAR. -/
def execBmeClear (s : State) : Host.Outcome State Fault Refusal := go (configured bmeClears s)

/-- BME_SET (R453): pending messages are sent. -/
def execBmeSet (s : State) : Host.Outcome State Fault Refusal :=
  go (configured (fun s => msgsFlush { s with pci := { s.pci with bme := true } }) s)

/-- MSIX_UNMASK (R439): a vector is unmasked, or MSI-X enabled. -/
def execMsixUnmask (vector : Option Nat) (s : State) : Host.Outcome State Fault Refusal :=
  go (configured (fun s => match vector with
    | none => msgsFlush { s with pci := { s.pci with msixEnable := true } }
    | some v => msgsFlush { s with pci := { s.pci with unmasked := if s.pci.unmasked.contains v then s.pci.unmasked else v :: s.pci.unmasked } }) s)

/-- PM_D3HOT (R448). -/
def execPmD3hot (s : State) : Host.Outcome State Fault Refusal := 
  go (configured (fun s => { s with pci := { s.pci with d3 := true } }) s)

/-- PM_D0 (R448): held messages are sent. -/
def execPmD0 (s : State) : Host.Outcome State Fault Refusal := 
  go (configured (fun s => msgsFlush { s with pci := { s.pci with d3 := false } }) s)

/-- PCIE_FLR (R454, R455): as a clear of Bus Master Enable; configuration requests are retried until it ends, and the commands that read their
input end with the reset of the function. -/
def execPcieFlr (s : State) : Host.Outcome State Fault Refusal :=
  go (configured (fun s =>
    let s := s |> slotsCut |> requestsStop |> bootDiscard
    { s with pci := { s.pci with flr := true, retry := true } }) s)

/-- FLR_WAIT_DONE (R454, R455): every completion has arrived, or a time-out or the cap has ended the wait; the function's state is reset. -/
def flrEnds (micros : Nat) (timedOut : Bool) (s : State) : State :=
  if !s.pci.flr ∨ (!timedOut ∧ tagsOut s ≠ []) then s
  else
    let n := (tagsOut s).length
    let s := { s with pci := { s.pci with tags := fmapV s.pci.tags fun _ t => { t with reserved := true } } } |> lower Reg.PCI_OUTSTANDING_COUNT n
      |> when timedOut (pciEvent Reg.PCI_EVENTS_FLR_TIMED_OUT) |> functionReset
    { s with pci := { s.pci with flr := false, retry := s.pci.face } } |> wr Reg.PCI_FLR_WAIT_MICROSECONDS micros
      |> pciEvent Reg.PCI_EVENTS_FLR_DONE |> bootRestarted

/-- FLR_WAIT_DONE. -/
def execFlrWaitDone (micros : Nat) (timedOut : Bool) (s : State) : Host.Outcome State Fault Refusal := go (flrEnds micros timedOut s)

/-- FLR_TAG_RELEASE (R455): one second after the FLR. -/
def execFlrTagRelease (tag : Nat) (s : State) : Host.Outcome State Fault Refusal :=
  go (match fget s.pci.tags tag with
    | some t => if t.reserved then { s with pci := { s.pci with tags := fdel s.pci.tags tag } } else s
    | none => s)

/-! ### Completions and poison (R444 to R446, R455) -/

/-- A read of a command's input has failed (R445): the command ends, its other reads will be discarded. -/
def inputFails (slot : Nat) (s : State) : State :=
  { s with pci := { s.pci with tags := fmapV s.pci.tags fun _ t => if t.slot = slot then { t with abandoned := true } else t } }
    |> (fun s => if (slotAt s slot).st = .running then mbxComplete slot .hostMemory 0 [] s else s)

/-- A poisoned write or completion has arrived (R444, R445): an advisory non-fatal error. That a poisoned completion is one too, as a poisoned
write is, is the PCIe specification's (log entry 107). -/
def poisonReceived (s : State) : State :=
  s |> bump Reg.PCI_POISON_RCVD_COUNT |> pciEvent Reg.PCI_EVENTS_POISON_RCVD |> aerUncorr .poisoned true true

/-- PCIE_COMPLETION (R445, R453, R455). One that no request waits for is an Unexpected Completion (R443), but not one whose tag a FLR has kept
(R455). -/
def completion (tag : Nat) (r : CplResult) (s : State) : State :=
  match fget s.pci.tags tag with
  | none => aerUncorr .unexpectedCompletion true true s
  | some t =>
    let s := { s with pci := { s.pci with tags := fdel s.pci.tags tag } }
      |> when (!t.reserved) (lower Reg.PCI_OUTSTANDING_COUNT 1) |> when (r == .poisoned) poisonReceived
    if t.abandoned ∨ t.reserved then bump Reg.PCI_DISCARDED_COUNT s
    else if r = .data then s
    else inputFails t.slot s

/-- PCIE_COMPLETION. -/
def execPcieCompletion (tag : Nat) (r : CplResult) (s : State) : Host.Outcome State Fault Refusal := go (completion tag r s)

/-- PCIE_COMPLETION_TIMEOUT (R445, R454, R455): in a FLR the tag stays reserved, and the last one ends its wait. -/
def completionTimeout (tag : Nat) (s : State) : State :=
  match fget s.pci.tags tag with
  | none => s
  | some t =>
    if t.reserved then s
    else
      let s := s |> lower Reg.PCI_OUTSTANDING_COUNT 1 |> aerUncorr .completionTimeout false false
      let s := { s with pci := { s.pci with tags := if s.pci.flr then fset s.pci.tags tag { t with reserved := true } else fdel s.pci.tags tag } }
        |> (fun s => when (s.pci.flr && tagsOut s == []) (pciEvent Reg.PCI_EVENTS_FLR_TIMED_OUT) s)
      if t.abandoned then s else inputFails t.slot s

/-- PCIE_COMPLETION_TIMEOUT. -/
def execPcieCompletionTimeout (tag : Nat) (s : State) : Host.Outcome State Fault Refusal := go (completionTimeout tag s)

/-- PCIE_POISONED_WRITE (R436, R444): a write to a slot's host-owned bytes marks the slot; one to the boot window fails the download. -/
def poisonedWrite (bar off : Nat) (s : State) : State :=
  let s := poisonReceived s
  let b := off % 65536
  if bar = 2 ∧ off < 4194304 ∧ (b < 64 ∨ (128 ≤ b ∧ b < 32768)) then setSlot (off / 65536) { slotAt s (off / 65536) with poisoned := true } s
  else if bar = 2 ∧ 67108864 ≤ off ∧ off < 134217728 then bootRefuse 0x09 s
  else s

/-- PCIE_POISONED_WRITE. -/
def execPciePoisonedWrite (bar off : Nat) (s : State) : Host.Outcome State Fault Refusal := go (poisonedWrite bar off s)

/-! ### Scope (R451) and DOE (R449) -/

/-- PCI_RESET_SCOPE_WRITE (R451): FACE only while MBX_STATUS.READY is 1. -/
def scopeWrite (value : Nat) (s : State) : State :=
  if value % 2 = 0 then wr Reg.PCI_RESET_SCOPE_SCOPE 0 s
  else if isSet s Reg.MBX_STATUS_READY then wr Reg.PCI_RESET_SCOPE_SCOPE 1 s else s

/-- PCI_RESET_SCOPE_WRITE. -/
def execPciResetScopeWrite (value : Nat) (s : State) : Host.Outcome State Fault Refusal := go (configured (scopeWrite value) s)

/-- DOE_REQUEST (R449): an object of a protocol, 0 Discovery, 1 CMA/SPDM, 2 Secured CMA/SPDM. Discovery is answered with the protocols; an SPDM
object stays in progress until its request is answered (R399). -/
def execDoeRequest (protocol bytes : Nat) (s : State) : Host.Outcome State Fault Refusal :=
  go (if s.pci.retry ∨ s.pci.doe ∨ 65536 < bytes ∨ 2 < protocol then s
    else if protocol = 0 then emit .doe [0, 0, 1, 2] s
    else { s with pci := { s.pci with doe := true } })

/-- DOE_ABORT (R449): the object in progress is discarded; sessions stay open. -/
def execDoeAbort (s : State) : Host.Outcome State Fault Refusal :=
  go (configured (fun s => { s with pci := { s.pci with doe := false } }) s)

end Sys2Proof.Machine
end

