-- ==== Sys2Proof/Machine/Power.lean ====
section
/-!
DEFINITION. Machine/Power.lean: power units (R480 to R486), temperature (R488 to R490), haul-out (R493 to R498) and the supply (R572, R573).
-/

namespace Sys2Proof.Machine

/-! ### Units (R480 to R486) -/

/-- Units that the stroke seat alone has: KEY and STK. -/
def strokeSeatUnit (u : Nat) : Bool := u == 15 || u == 16

/-- A unit of a seat (*Power units*). -/
def isUnit (s : State) (seat u : Nat) : Bool := decide (seat < s.hw.seats) && decide (u < unitCount) && (seat == 0 || !strokeSeatUnit u)

/-- Units that may enter EASY. -/
def easyAllowed (u : Nat) : Bool := !([1, 9, 10, 11, 13, 16].contains u)

/-- The unit is held in ROW: by a pin of its seat, or by haul-out (R487, R494): the source responsible. -/
def unitHeld (s : State) (seat : Nat) : Option Nat :=
  if rd s Reg.HLD_STATUS_PHASE ≠ 0 then some wakeHaulout else if seatPinned s seat then some wakePin else none

/-- An attempt is refused (R483); the idle timer starts again outside the model. -/
def unitRefuse (seat u source : Nat) (s : State) : State :=
  s |> bump (Reg.PWR_UNIT_REFUSED_COUNT seat u) |> wr (Reg.PWR_UNIT_STATE_REFUSED_BY seat u) source

/-- An entry is aborted by an access before its commit point (R484). -/
def unitAbort (seat u source : Nat) (s : State) : State :=
  s |> bump (Reg.PWR_UNIT_ABORTED_COUNT seat u) |> wr (Reg.PWR_UNIT_STATE_ABORTED_BY seat u) source

/-- UNIT_PADDLE_ENTRY: the idle time of PADDLE has passed; `work` is what arrived since the timer started, `abort` an access before the
clock gate closed (R482 to R484). -/
def paddleEntry (seat u : Nat) (work abort : Option Nat) (s : State) : State :=
  if !isUnit s seat u ∨ u = 16 ∨ !isSet s (Reg.PWR_CTRL_AUTO seat) ∨ rd s (Reg.PWR_UNIT_CFG_PADDLE_IDLE seat u) = 0 ∨ unitState s seat u ≠ 0 then s
  else match unitHeld s seat, work, abort with
    | some h, _, _ => unitRefuse seat u h s
    | none, some w, _ => unitRefuse seat u w s
    | none, none, some a => unitAbort seat u a s
    | none, none, none => wr (Reg.PWR_UNIT_STATE_STATE seat u) 1 s

/-- UNIT_PADDLE_ENTRY. -/
def execUnitPaddleEntry (seat unit : Nat) (work abort : Option Nat) (s : State) : Host.Outcome State Fault Refusal :=
  go (live (paddleEntry seat unit work abort) s)

/-- What keeps a unit out of EASY: the condition of *Power units* for CAT and DIG, or a pin of another seat (R483, R487). -/
def easyHeld (s : State) (seat u : Nat) : Option Nat :=
  if u = 3 ∧ slotsUsed s seat ≠ 0 then some u
  else if u = 4 ∧ s.keys.ctxs.any (fun e => keyHi e.1 == seat && e.2.st != 0) = true then some u
  else if sharedUnits.contains u = true ∧ anyPinned s = true then some wakePin
  else none

/-- What a unit loses in EASY (*Power units*): the key-slot cache, the inverse cache, the lines of the translation cache. -/
def easyLoses (seat u : Nat) (s : State) : State :=
  match u with
  | 6 => { s with keys := { s.keys with slots := fdel s.keys.slots seat } } |> wr (Reg.CIP_SLOTS_USED_COUNT seat) 0
  | 7 => { s with par := { s.par with inverses := fdel s.par.inverses seat } }
  | 8 => setTc seat { tcOf s seat with sets := [] } s
  | _ => s

/-- UNIT_EASY_ENTRY (R482 to R484): from PADDLE. -/
def easyEntry (seat u : Nat) (work abort : Option Nat) (s : State) : State :=
  if !isUnit s seat u ∨ !easyAllowed u ∨ !isSet s (Reg.PWR_CTRL_AUTO seat) ∨ rd s (Reg.PWR_UNIT_CFG_EASY_IDLE seat u) = 0 ∨ unitState s seat u ≠ 1 then s
  else match (unitHeld s seat).orElse (fun _ => easyHeld s seat u), work, abort with
    | some h, _, _ => unitRefuse seat u h s
    | none, some w, _ => unitRefuse seat u w s
    | none, none, some a => unitAbort seat u a s
    | none, none, none => s |> wr (Reg.PWR_UNIT_STATE_STATE seat u) 2 |> easyLoses seat u

/-- UNIT_EASY_ENTRY. -/
def execUnitEasyEntry (seat unit : Nat) (work abort : Option Nat) (s : State) : Host.Outcome State Fault Refusal :=
  go (live (easyEntry seat unit work abort) s)

/-- UNIT_WAKE (R485, R486): the first access, its source in the codes of *Wake sources*, and the cycles that it stalled. -/
def execUnitWake (seat unit source cycles : Nat) (s : State) : Host.Outcome State Fault Refusal :=
  go (if isUnit s seat unit then unitWake seat unit source cycles s else s)

/-! ### Haul-out (R493 to R498) -/

/-- Hold-up events with their enable register (R502). -/
def hldEvent (ev : Fld) (bit : Nat) (s : State) : State := event ev Reg.HLD_EVENT_EN_ENABLE bit s

/-- Key of an image slot: seat, then 2 × side + slot (R498). -/
def imageKey (seat side slot : Nat) : Nat := pairKey seat (2 * side + slot)

/-- The slot that does not hold the latest valid image (R498). -/
def imageSlot (s : State) (seat side : Nat) : Nat :=
  let at_ := fun n => match fget s.pwr.images (imageKey seat side n) with
    | some i => if i.valid ∧ !i.consumed then some i.seq else none
    | none => none
  match at_ 0, at_ 1 with
  | some a, some b => if a < b then 0 else 1
  | some _, none => 1
  | _, _ => 0

/-- What a seat hauls out for a side (R496): deltas not in a programmed delta log page, and the rows of its dirty set. -/
def imageDeltas (s : State) (seat side : Nat) : List Delta :=
  let pages := (s.map.dlog.filter fun p => p.seat == seat && !p.programmed).foldl (fun (l : List Delta) p => l ++ p.recs) []
  (pages ++ (fgetD s.map.dbuf seat []).reverse).filter fun d => deltaSide s d == side

/-- Rows of a seat's dirty set that lie in pools of a side. -/
def imageRowsOf (s : State) (seat side : Nat) : List (Nat × Nat) :=
  s.par.groups.foldl (fun (l : List (Nat × Nat)) g =>
    if g.2.side = side then l ++ (g.2.rows.filter fun r => r.2.seat == seat && rowUnsettled r.2).map fun r => (g.1, r.1) else l) []

/-- A seat fixes its dirty set for a side and names the image it is about to write (step 2); before the map is recovered nothing is dirty, and it
writes none (R498). -/
def imageBegin (seat side : Nat) (s : State) : State :=
  let recs := imageDeltas s seat side
  let rows := imageRowsOf s seat side
  if !s.boot.mapDone ∧ recs = [] ∧ rows = [] then s
  else
    let slot := imageSlot s seat side
    let seq := 1 + (s.pwr.images.filter fun i => keyHi i.1 == seat).foldl (fun n i => max n i.2.seq) 0
    let bytes := dlogSize recs + rows.foldl (fun n p => n + rowBytes s p.1 p.2) 0
    let i : HaulImage := ⟨seq, s.stk.ext, rd s (Reg.MAP_CKPT_GEN_GEN seat), bytes, false, false, false, 0, rd s Reg.HLD_BUDGET_MS, recs, rows,
      (s.par.groups.foldl (fun (l : List (Nat × Nat)) g => if g.2.side = side then
        l ++ ((g.2.rows.filter fun r => rowUnsettled r.2).map fun r => (g.1, r.1 / 16384)).eraseDups else l) []),
      (openList s).filter fun x => rows.contains (x.1, x.2.1)⟩
    { s with pwr := { s.pwr with
        images := fset s.pwr.images (imageKey seat side slot) i, writing := s.pwr.writing ++ [imageKey seat side slot] } }
      |> foldS (List.range (1 + ceilDiv bytes 16384)) (fun _ s => pageClose seat (headOf 7 0) s) |> ancWrote seat 4

/-- Erases that run on dies of the system pools are suspended (step 2). -/
def erasesSuspend (s : State) : State :=
  let pools := ([0, 1].filter (ownsSide s)).filterMap (haulPoolOf s)
  foldS pools (fun p s => match groupOf s p with
    | none => s
    | some g => foldS (curGeom g).shares (fun sh s => foldS (List.range g.dies) (fun n s =>
        let d := sh.die + n
        let x := dieOf s sh.slot d
        when ((dieWaits s sh.slot d).running == 2 && !x.suspended && !x.suspending) (dieSuspend sh.slot d) s) s) s) s

/-- Haul-out is done (step 5, R490, R495): the transmitters are quiet and the head halts. -/
def haulDone (s : State) : State :=
  { s with boot := { s.boot with halted := true } } |> wr Reg.HLD_STATUS_PHASE 4 |> linksQuiet |> emit .pin [1, 1]

/-- An update scheduled or in progress is abandoned, whatever its step (R494). -/
def updStops (s : State) : State :=
  if s.upd.st = .scheduled then s |> updUnschedule |> updEvent Reg.UPD_EVENTS_ABANDONED 5
  else if s.upd.st = .activating then
    actAbandon s
  else s

/-- Drive or release `THERM_ALERT_N` (R488). -/
def alertPin (b : Bool) (s : State) : State :=
  if s.pwr.alertLow = b then s else { s with pwr := { s.pwr with alertLow := b } } |> emit .pin [0, b2n b]

/-- Steps 1 and 2 of *Haul-out steps*: every unit wakes, service stops, catch slots of unaccepted commands are discarded, the standby view
and mirror copies are dropped, delta log buffers close, each seat fixes what it writes, and erases in its way are suspended. -/
def haulStart (thermal : Bool) (s : State) : State :=
  if rd s Reg.HLD_STATUS_PHASE ≠ 0 ∨ s.boot.halted ∨ s.hw.brownout then s
  else
    let s := foldS (seatList s) (fun n s => foldS (List.range unitCount) (fun u s => unitWake n u wakeHaulout 0 s) s) s
    let s := s |> wr Reg.HLD_STATUS_PHASE 1 |> wrB Reg.HLD_STATUS_CAUSE_THERMAL thermal
      |> when thermal (fun s => s |> alertPin true |> hldEvent Reg.HLD_EVENTS_THERMAL_TRIP 3)
    let s := foldS (seatList s) (fun n s => pfrFireWhere n 0 (· == .haulout) s) s
    let s := s |> frontEnd false |> pushesDrop (fun _ => true) |> logsDrop |> foldS s.nv.cmds (fun e s => s |> ingestDrop e.1 |> dropCmd e.1) |> updStops
    let s := { s with pair := { s.pair with view := [] } } |> foldS (seatList s) dlogClose
    let s := foldS (seatList s) (fun n s => foldS ([0, 1].filter (ownsSide s)) (fun d s => imageBegin n d s) s) s |> erasesSuspend
    if s.pwr.writing = [] then haulDone s else wr Reg.HLD_STATUS_PHASE 2 s

/-- PWR_WARN_DETECT (R493): the pin has been low for HLD_FILTER ticks. -/
def execPwrWarnDetect (ticks : Nat) (s : State) : Host.Outcome State Fault Refusal :=
  go (if max 1 (rd s Reg.HLD_FILTER_TICKS) ≤ ticks then s |> wr Reg.HLD_STATUS_WARN 1 |> haulStart false else s)

/-- PWR_WARN_GLITCH (R493): a shorter pulse. -/
def execPwrWarnGlitch (ticks : Nat) (s : State) : Host.Outcome State Fault Refusal :=
  go (if ticks < max 1 (rd s Reg.HLD_FILTER_TICKS) then hldEvent Reg.HLD_EVENTS_GLITCH 0 s else s)

/-- THERMAL_TRIP (R490): a seat has read at or above 110 °C for sixteen strokes. -/
def execThermalTrip (seat : Nat) (s : State) : Host.Outcome State Fault Refusal :=
  go (if 16 ≤ fgetD s.pwr.hotStrokes seat 0 then haulStart true s else s)

/-- The image of a seat and side that is being written. -/
def writingKey (s : State) (seat side : Nat) : Option Nat := s.pwr.writing.find? fun k => keyHi k == seat && keyLo k / 2 == side

/-- HAULOUT_IMAGE_PROGRAMMED (step 4): every other page of the image has programmed. -/
def imageProgrammed (seat side : Nat) (s : State) : State :=
  match writingKey s seat side with
  | none => s
  | some k =>
    let s := { s with pwr := { s.pwr with images := fmod s.pwr.images k fun i => { i with programmed := true } } }
    if s.pwr.writing.all fun k => match fget s.pwr.images k with | some i => i.programmed | none => true then wr Reg.HLD_STATUS_PHASE 3 s else s

/-- HAULOUT_IMAGE_PROGRAMMED. -/
def execHauloutImageProgrammed (seat side : Nat) (s : State) : Host.Outcome State Fault Refusal := go (live (imageProgrammed seat side) s)

/-- HAULOUT_MARK_PROGRAMMED (R497): only after the image's other pages; the last mark ends haul-out. `micros` is the time since T0. -/
def markProgrammed (seat side micros : Nat) (s : State) : State :=
  match writingKey s seat side with
  | none => s
  | some k =>
    let done : Bool := match fget s.pwr.images k with | some i => i.programmed | none => false
    if !done then s
    else
      let s := { s with pwr := { s.pwr with
        images := fmod s.pwr.images k fun i => { i with valid := true, micros := micros }, writing := s.pwr.writing.filter (· != k) } }
        |> headsDone seat (fun h => h.kind == 7)
      if s.pwr.writing = [] then haulDone s else s

/-- HAULOUT_MARK_PROGRAMMED. -/
def execHauloutMarkProgrammed (seat side micros : Nat) (s : State) : Host.Outcome State Fault Refusal := go (live (markProgrammed seat side micros) s)

/-! ### Temperature at a stroke edge (R488 to R490) -/

/-- The reading of one seat: registers, throttling, strokes at the trip level. -/
def tempTake (seat t : Nat) (s : State) : State :=
  let n := fgetD s.pwr.tempNum seat 0 + 1
  let sum := fgetD s.pwr.tempSum seat 0 + t
  let lim := min 103 (rd s (Reg.PWR_THERM_CFG_THROTTLE seat))
  let was := isSet s (Reg.PWR_STATUS_THROTTLING seat)
  let now := decide (lim ≤ t) || (was && decide (lim ≤ t + 3))
  let hot := if 110 ≤ t then fgetD s.pwr.hotStrokes seat 0 + 1 else 0
  { s with pwr := { s.pwr with
      tempNum := fset s.pwr.tempNum seat n, tempSum := fset s.pwr.tempSum seat sum
      hotStrokes := if hot = 0 then fdel s.pwr.hotStrokes seat else fset s.pwr.hotStrokes seat hot } }
    |> wr (Reg.PWR_TEMP_HOT_C seat) t |> wr (Reg.PWR_TEMP_MAX_C seat) (max t (rd s (Reg.PWR_TEMP_MAX_C seat)))
    |> wr (Reg.PWR_TEMP_MEAN_C seat) (sum / n) |> wrB (Reg.PWR_STATUS_THROTTLING seat) now
    |> when now (bump (Reg.PWR_THROTTLE_STROKES_COUNT seat))

/-- A seat reads at or above its alert level. -/
def alerting (s : State) (seat t : Nat) : Bool := decide (rd s (Reg.PWR_THERM_CFG_ALERT seat) ≤ t)

/-- The readings of a stroke (R488): a seat that reaches ALERT is an event of source THERMAL, raised to the cox; the pin is low while any
seat is at ALERT, and rises when every seat reads below ALERT − 3. After a trip it stays low (R490). -/
def tempsEdge (temps : List Nat) (s : State) : State :=
  let l := (seatList s).filterMap fun n => temps[n]?.map fun t => (n, t)
  let s := foldS l (fun p s =>
    let a := alerting s p.1 p.2
    let crossed := a && !isSet s (Reg.PWR_STATUS_ALERT p.1)
    s |> tempTake p.1 p.2 |> when crossed (fun s => s |> faultNote p.1 0x12 p.1 [p.2] |> coxRaise) |> wrB (Reg.PWR_STATUS_ALERT p.1) a) s
  let now := (seatList s).any fun n => isSet s (Reg.PWR_STATUS_ALERT n)
  let near := (seatList s).any fun n => decide (rd s (Reg.PWR_THERM_CFG_ALERT n) ≤ rd s (Reg.PWR_TEMP_HOT_C n) + 3)
  if now then alertPin true s
  else if near ∨ isSet s Reg.HLD_STATUS_CAUSE_THERMAL = true then s else alertPin false s

/-! ### Supply (R572, R573) -/

/-- SUPPLY_LOW (R572). -/
def execSupplyLow (rail : Nat) (s : State) : Host.Outcome State Fault Refusal :=
  go (if 7 ≤ rail ∨ bitOf (rd s Reg.PKG_SUPPLY_LOW) rail = true then s else s |> wrBit Reg.PKG_SUPPLY_LOW rail true |> logFw 0 572 [rail])

/-- BROWNOUT (R572, R573): a full reset at once, from which the device leaves as from a power-up; PKG_SUPPLY keeps its value (R579). -/
def brownOut (rail : Nat) (s : State) : State :=
  if 7 ≤ rail then s
  else
    let low := rd s Reg.PKG_SUPPLY_LOW
    let out := rd s Reg.PKG_SUPPLY_BROWNOUT
    let perst := s.pci.perst
    let z := fullReset .powerUp s
    { z with
        hw := { z.hw with railsOut := if s.hw.railsOut.contains rail then s.hw.railsOut else rail :: s.hw.railsOut, brownout := true }
        pci := { z.pci with perst := perst } }
      |> wr Reg.PKG_SUPPLY_LOW low |> wr Reg.PKG_SUPPLY_BROWNOUT out |> wrBit Reg.PKG_SUPPLY_LOW rail true |> wrBit Reg.PKG_SUPPLY_BROWNOUT rail true

/-- BROWNOUT. -/
def execBrownout (rail : Nat) (s : State) : Host.Outcome State Fault Refusal := go (brownOut rail s)

/-- SUPPLY_RESTORED (R572): the rail is in its range; after a brown-out, once every rail is and `PERST_N` is deasserted, the straps are
sampled and the boot ROM starts. -/
def supplyBack (rail : Nat) (b : BootRom) (s : State) : State :=
  if 7 ≤ rail then s
  else
    let s := { s with hw := { s.hw with railsOut := s.hw.railsOut.filter (· != rail) } } |> wrBit Reg.PKG_SUPPLY_LOW rail false
    if s.hw.brownout ∧ s.hw.railsOut = [] ∧ rd s Reg.PKG_SUPPLY_LOW = 0 then
      let s := { s with hw := { s.hw with brownout := false } }
      if s.pci.perst then s else bootStart b s
    else s

/-- SUPPLY_RESTORED. -/
def execSupplyRestored (rail : Nat) (b : BootRom) (s : State) : Host.Outcome State Fault Refusal := go (supplyBack rail b s)

end Sys2Proof.Machine
end

