-- ==== Sys2Proof/Machine/Health.lean ====
section
/-!
DEFINITION. Machine/Health.lean: the photo-finish recorder's registers, the I3C target, and the MCTP and PLDM messages (R526 to R538).
-/

namespace Sys2Proof.Machine

/-! ### Photo-finish recorder (R526 to R530, R537) -/

/-- PFR_CLEAR (R529): every record of the seat is cleared. -/
def pfrClear (seat : Nat) (s : State) : State :=
  { s with health := { s.health with recs := fkeep s.health.recs fun k _ => keyHi k != seat } }
    |> wr (Reg.PFR_STATUS_RECORDS seat) 0 |> wr (Reg.PFR_STATUS_FULL seat) 0

/-- PFR_CLEAR. -/
def execPfrClear (seat : Nat) (s : State) : Host.Outcome State Fault Refusal := go (if seat < s.hw.seats then pfrClear seat s else s)

/-- PFR_DISARM (R537): every trigger of the seat is disarmed. -/
def pfrDisarm (seat : Nat) (s : State) : State :=
  let s := { s with health := { s.health with trigs := fkeep s.health.trigs fun k _ => keyHi k != seat } }
  showTriggers seat (foldS (List.range 8) (fun t s =>
    s |> wr (Reg.PFR_TRIG_KIND seat t) 0 |> wr (Reg.PFR_TRIG_LASTING_ONLY seat t) 0 |> wr (Reg.PFR_TRIG_REGS seat t) 0
      |> wr (Reg.PFR_TRIG_FIRED seat t) 0) s)

/-- PFR_DISARM. -/
def execPfrDisarm (seat : Nat) (s : State) : Host.Outcome State Fault Refusal := go (if seat < s.hw.seats then pfrDisarm seat s else s)

/-- PFR_SOFT_TRIGGER (R526): bit t fires trigger t where its kind is SOFTWARE. -/
def pfrSoft (seat mask : Nat) (s : State) : State :=
  foldS (List.range 8) (fun t s =>
    match fget s.health.trigs (pairKey seat t) with
    | some g => if bitOf mask t && g.arm.cond == .software then pfrFire seat t 0 s else s
    | none => s) s

/-- PFR_SOFT_TRIGGER. -/
def execPfrSoftTrigger (seat mask : Nat) (s : State) : Host.Outcome State Fault Refusal :=
  go (if seat < s.hw.seats then pfrSoft seat mask s else s)

/-- PFR_LINKED_FIRE (R527): the firing of a trigger of another seat arrives. -/
def execPfrLinkedFire (seat fromSeat fromTrig : Nat) (s : State) : Host.Outcome State Fault Refusal :=
  go (if seat < s.hw.seats then pfrFireWhere seat (fromSeat + 256 * fromTrig) (· == .linked fromSeat fromTrig) s else s)

/-- The words of a record below its CRC (*Photo-finish record*, R528). -/
def recWords (i : Nat) (r : PfrRec) : List Nat :=
  [r.ext % 4294967296, r.ext / 4294967296 % 4294967296, r.tick, r.trigger + 256 * r.kind + 65536 * r.values.length, i, r.cause, r.logSeq, 0]
    ++ (List.range 48).map (fun n => r.values.getD n 0) ++ [0, 0, 0, 0, 0, 0]

/-- The 64 words of a record: its CRC covers the 248 bytes before it, and MARK is 1. -/
def recImage (i : Nat) (r : PfrRec) : List Nat :=
  let w := recWords i r
  w ++ [Config.crc32c (w.foldr (fun x n => x % 4294967296 + 4294967296 * n) 0) % 4294967296, 1]

/-- A write of PFR_SELECT (R537): PFR_RECORD loads from the record; one not made reads as zero. -/
def pfrSelect (seat record : Nat) (s : State) : State :=
  let n := record % 2048
  let w := match fget s.health.recs (pairKey seat n) with | some r => recImage n r | none => []
  foldS (List.range 64) (fun i s => wr (Reg.PFR_RECORD_WORD seat i) (w.getD i 0) s) (wr (Reg.PFR_SELECT_RECORD seat) n s)

/-- PFR_SELECT. -/
def execPfrSelect (seat record : Nat) (s : State) : Host.Outcome State Fault Refusal :=
  go (if seat < s.hw.seats then pfrSelect seat record s else s)

/-! ### I3C target (R531, R535) -/

/-- I3C_ENTDAA (R531): a target that has no dynamic address takes the one assigned. -/
def execI3cEntdaa (address : Nat) (s : State) : Host.Outcome State Fault Refusal :=
  go (if !i3cAnswers s ∨ isSet s Reg.MGT_STATUS_ADDRESSED = true then s
    else s |> wr Reg.MGT_STATUS_ADDRESSED 1 |> wr Reg.MGT_STATUS_DYN_ADDR address)

/-- I3C_SETMRL (R531): up to 256 bytes. -/
def execI3cSetmrl (bytes : Nat) (s : State) : Host.Outcome State Fault Refusal :=
  go (if !i3cAnswers s ∨ 256 < bytes then s else { s with health := { s.health with mrl := bytes } })

/-- I3C_SETMWL (R531): up to 256 bytes. -/
def execI3cSetmwl (bytes : Nat) (s : State) : Host.Outcome State Fault Refusal :=
  go (if !i3cAnswers s ∨ 256 < bytes then s else { s with health := { s.health with mwl := bytes } })

/-! ### MCTP control (R532). Answers: message type 0, command, completion code, then the fields. -/

/-- MCTP_SET_ENDPOINT_ID: EIDs 0 and 255 are not endpoint addresses (completion code 2). -/
def execMctpSetEndpointId (m : MctpIn) (eid : Nat) (s : State) : Host.Outcome State Fault Refusal :=
  go (mctpTake m true (fun s =>
    if eid = 0 ∨ 255 ≤ eid then mctpSend .mgmt [0, 1, 2] s else s |> wr Reg.MGT_STATUS_EID eid |> mctpSend .mgmt [0, 1, 0, 0, eid]) s)

/-- MCTP_GET_ENDPOINT_ID. -/
def execMctpGetEndpointId (m : MctpIn) (s : State) : Host.Outcome State Fault Refusal :=
  go (mctpTake m true (fun s => mctpSend .mgmt [0, 2, 0, rd s Reg.MGT_STATUS_EID] s) s)

/-- The UUID (R532): derived from the hash of the DevID public key; the labels are this model's. -/
def deviceUuid : Nat := Config.derive (Config.digest 1 (Config.derive 0 1)) 2

/-- MCTP_GET_ENDPOINT_UUID. -/
def execMctpGetEndpointUuid (m : MctpIn) (s : State) : Host.Outcome State Fault Refusal :=
  go (mctpTake m true (mctpSend .mgmt [0, 3, 0, deviceUuid]) s)

/-- An answer that ends in a value the spec leaves open (log entry 1). -/
def answerOpen (fields : List Nat) (s : State) : State := mctpSend .mgmt (fields ++ [(openValue s).1]) (openValue s).2

/-- MCTP_GET_VERSION_SUPPORT: the versions are not stated. -/
def execMctpGetVersionSupport (m : MctpIn) (s : State) : Host.Outcome State Fault Refusal :=
  go (mctpTake m true (answerOpen [0, 4, 0]) s)

/-- MCTP_GET_MESSAGE_TYPE_SUPPORT: *MCTP message types*. -/
def execMctpGetMessageTypeSupport (m : MctpIn) (s : State) : Host.Outcome State Fault Refusal :=
  go (mctpTake m true (mctpSend .mgmt [0, 5, 0, 0, 1, 5, 6, 0x7F]) s)

/-! ### PLDM (R533). Answers: message type 1, PLDM type, command, completion code, then the fields. -/

/-- PLDM_GET_TID. -/
def execPldmGetTid (m : MctpIn) (s : State) : Host.Outcome State Fault Refusal :=
  go (mctpTake m false (fun s => mctpSend .mgmt [1, 0, 2, 0, s.health.tid] s) s)

/-- PLDM_SET_TID: 0 and 255 are not terminus identifiers. -/
def execPldmSetTid (m : MctpIn) (tid : Nat) (s : State) : Host.Outcome State Fault Refusal :=
  go (mctpTake m false (fun s =>
    if tid = 0 ∨ 255 ≤ tid then mctpSend .mgmt [1, 0, 1, 2] s
    else { s with health := { s.health with tid := tid } } |> mctpSend .mgmt [1, 0, 1, 0]) s)

/-- PLDM_GET_PLDM_VERSION: of types 0 and 2; the versions are not stated. -/
def execPldmGetPldmVersion (m : MctpIn) (type : Nat) (s : State) : Host.Outcome State Fault Refusal :=
  go (mctpTake m false (fun s => if type = 0 ∨ type = 2 then answerOpen [1, 0, 3, 0, type] s else mctpSend .mgmt [1, 0, 3, 0x83] s) s)

/-- PLDM_GET_PLDM_TYPES. -/
def execPldmGetPldmTypes (m : MctpIn) (s : State) : Host.Outcome State Fault Refusal :=
  go (mctpTake m false (mctpSend .mgmt [1, 0, 4, 0, 0, 2]) s)

/-- PLDM_GET_PLDM_COMMANDS: the codes of DSP0240 and DSP0248 for the commands of R533. -/
def execPldmGetPldmCommands (m : MctpIn) (type : Nat) (s : State) : Host.Outcome State Fault Refusal :=
  go (mctpTake m false (fun s =>
    if type = 0 then mctpSend .mgmt [1, 0, 5, 0, 1, 2, 3, 4, 5] s
    else if type = 2 then mctpSend .mgmt [1, 0, 5, 0, 0x04, 0x11, 0x12, 0x21, 0x50, 0x51] s
    else mctpSend .mgmt [1, 0, 5, 0x83] s) s)

/-! ### Sensors -/

/-- Sensors that the variant has, in the order of *Sensors* (R533). -/
def sensorList (s : State) : List Nat :=
  (List.range s.hw.seats).map (1 + ·) ++ [0x10, 0x11, 0x20, 0x21, 0x22] ++ (List.range 32).map (0x30 + ·)
    ++ (List.range (slotCount s)).map (0x100 + ·) ++ (List.range (slotCount s)).map (0x200 + ·) ++ [0x300]

/-- A sensor of the variant. -/
def hasSensor (s : State) (n : Nat) : Bool := (sensorList s).contains n

/-- State sensors; every other sensor is numeric. -/
def stateSensor (n : Nat) : Bool := (0x20 ≤ n && n ≤ 0x22) || (0x30 ≤ n && n ≤ 0x4F) || (0x200 ≤ n && n ≤ 0x25F)

/-- State of a slot: 0 absent, 1 attesting, 2 attested, 3 attestation failed, 4 stale, 5 in use; the order is that of *Sensors*. -/
def bladeState (s : State) (n : Nat) : Nat :=
  if !isSet s (Reg.BLD_SLOT_STATUS_PDS n) then 0
  else if isSet s (Reg.BLD_SLOT_STATUS_STALE n) then 4
  else if isSet s (Reg.BLD_SLOT_STATUS_IN_USE n) then 5
  else if isSet s (Reg.BLD_SLOT_STATUS_ATTEST_FAILED n) then 3
  else if isSet s (Reg.BLD_SLOT_STATUS_ATTESTED n) then 2
  else 1

/-- State of a pool: *Group states*, and 8 more while it is READ_ONLY. -/
def poolSensor (s : State) (pool : Nat) : Nat :=
  match groupOf s pool with
  | some g => groupState g + 8 * b2n g.readOnly
  | none => 0

/-- Reading of a sensor (*Sensors*). -/
def sensorValue (s : State) (n : Nat) : Nat :=
  if n = 0x10 then rd s Reg.PKG_POWER_QUARTER_W / 4
  else if n = 0x11 then 100 * readFld s .ro Reg.HLD_DIRTY / max 1 (rd s Reg.HLD_CAP)
  else if n = 0x20 then readFld s .ro Reg.PKG_DURABILITY_HOLDS
  else if n = 0x21 then pairStNum s.pair.st
  else if n = 0x22 then
    if isSet s Reg.STK_STATUS_A_LOCKED && isSet s Reg.STK_STATUS_B_LOCKED then 0
    else if isSet s Reg.STK_STATUS_A_LOCKED || isSet s Reg.STK_STATUS_B_LOCKED then 1 else 2
  else if n = 0x300 then rd s Reg.FLT_LASTING_COUNT
  else if n < 0x10 then rd s (Reg.PWR_TEMP_HOT_C (n - 1))
  else if n < 0x100 then poolSensor s (n - 0x30)
  else if n < 0x200 then rd s (Reg.BLD_SLOT_HEALTH_NAND_C (n - 0x100))
  else bladeState s (n - 0x200)

/-- Thresholds of a numeric sensor: warning, critical, fatal; *Sensors* states them for SEAT_TEMP alone. -/
def sensorLimits (s : State) (n : Nat) : List Nat :=
  if n < 0x10 then [rd s (Reg.PWR_THERM_CFG_ALERT (n - 1)), rd s (Reg.PWR_THERM_CFG_THROTTLE (n - 1)), 110] else []

/-- What an event reports: the thresholds at or below a numeric sensor's reading, or the state. -/
def sensorZone (s : State) (n : Nat) : Nat :=
  if stateSensor n then sensorValue s n else ((sensorLimits s n).filter fun t => decide (t ≤ sensorValue s n)).length

/-- PLDM_GET_PDR_REPOSITORY_INFO: one record for each sensor. -/
def execPldmGetPdrRepositoryInfo (m : MctpIn) (s : State) : Host.Outcome State Fault Refusal :=
  go (mctpTake m false (fun s => mctpSend .mgmt [1, 2, 0x50, 0, (sensorList s).length] s) s)

/-- PLDM_GET_PDR: record handles count from 1 in the order of *Sensors*; 0 names the first. The answer gives the next handle (0 after the
last), the sensor and whether it is a state sensor. -/
def execPldmGetPdr (m : MctpIn) (handle : Nat) (s : State) : Host.Outcome State Fault Refusal :=
  go (mctpTake m false (fun s =>
    let h := max 1 handle
    match (sensorList s)[h - 1]? with
    | some n => mctpSend .mgmt [1, 2, 0x51, 0, if h < (sensorList s).length then h + 1 else 0, n, b2n (stateSensor n)] s
    | none => mctpSend .mgmt [1, 2, 0x51, 0x82] s) s)

/-- PLDM_GET_SENSOR_READING. -/
def execPldmGetSensorReading (m : MctpIn) (sensor : Nat) (s : State) : Host.Outcome State Fault Refusal :=
  go (mctpTake m false (fun s =>
    if hasSensor s sensor && !stateSensor sensor then mctpSend .mgmt [1, 2, 0x11, 0, sensorValue s sensor] s
    else mctpSend .mgmt [1, 2, 0x11, 0x80] s) s)

/-- PLDM_GET_STATE_SENSOR_READINGS. -/
def execPldmGetStateSensorReadings (m : MctpIn) (sensor : Nat) (s : State) : Host.Outcome State Fault Refusal :=
  go (mctpTake m false (fun s =>
    if hasSensor s sensor && stateSensor sensor then mctpSend .mgmt [1, 2, 0x21, 0, sensorValue s sensor] s
    else mctpSend .mgmt [1, 2, 0x21, 0x80] s) s)

/-- PLDM_GET_SENSOR_THRESHOLDS. -/
def execPldmGetSensorThresholds (m : MctpIn) (sensor : Nat) (s : State) : Host.Outcome State Fault Refusal :=
  go (mctpTake m false (fun s =>
    if hasSensor s sensor && !stateSensor sensor then mctpSend .mgmt ([1, 2, 0x12, 0] ++ sensorLimits s sensor) s
    else mctpSend .mgmt [1, 2, 0x12, 0x80] s) s)

/-! ### Events (R534) -/

/-- Slots with a blade, one bit per slot. -/
def presentSlots (s : State) : Nat := bitsOf ((List.range (slotCount s)).map fun n => isSet s (Reg.BLD_SLOT_STATUS_PDS n))

/-- What the sensors report now, and, under 0, which slots hold a blade (the repository's content). -/
def sensorsNow (s : State) : FMap Nat := (0, presentSlots s) :: (sensorList s).map fun n => (n, sensorZone s n)

/-- PLDM_SET_EVENT_RECEIVER: from now on, changes are sent. -/
def execPldmSetEventReceiver (m : MctpIn) (receiver : Nat) (s : State) : Host.Outcome State Fault Refusal :=
  go (mctpTake m false (fun s =>
    { s with health := { s.health with receiver := some receiver, sensors := sensorsNow s } }
      |> wr Reg.MGT_STATUS_RECEIVER 1 |> mctpSend .mgmt [1, 2, 0x04, 0]) s)

/-- Send the oldest event kept. -/
def eventOut (s : State) : State :=
  match s.health.events with
  | e :: t =>
    if i3cAnswers s then
      { s with health := { s.health with events := { e with sent := e.sent + 1, at_ := s.stk.ext } :: t } }
        |> mctpSend .pldmEvent [e.num, e.sensor, e.value]
    else s
  | [] => s

/-- Send the oldest event where it has not been sent: events go in order, one at a time. -/
def eventNext (s : State) : State :=
  match s.health.events with
  | e :: _ => if e.sent = 0 then eventOut s else s
  | [] => s

/-- A sensor has changed: its event joins those kept; beyond 64, the oldest is discarded. -/
def eventAdd (sensor value : Nat) (s : State) : State :=
  let h := s.health
  let full : Bool := decide (64 ≤ h.events.length)
  { s with health := { h with
      events := (if full then h.events.drop 1 else h.events) ++ [⟨h.eventNum, sensor, value, 0, 0⟩], eventNum := h.eventNum + 1 } }
    |> when full (bump Reg.MGT_EVENTS_LOST_COUNT) |> eventNext

/-- At a stroke edge: every sensor that reports something else than last told is an event, while events are sent (MGT_CTRL.EVENTS_EN). -/
def sensorsEdge (s : State) : State :=
  if s.health.receiver.isNone then s
  else
    let old := s.health.sensors
    let now := sensorsNow s
    let changed := now.filter fun e => !old.contains e
    { s with health := { s.health with sensors := now } }
      |> when (isSet s Reg.MGT_CTRL_EVENTS_EN) (foldS changed (fun e s => eventAdd e.1 e.2 s))

/-- PLDM_EVENT_RETRY (R534): of the events kept, the oldest `answered` have been answered and leave; the oldest that remains is repeated
1 s after it was last sent, up to three times, and then given up. -/
def execPldmEventRetry (answered : Nat) (s : State) : Host.Outcome State Fault Refusal :=
  go (
    let s := eventNext { s with health := { s.health with events := s.health.events.drop answered } }
    match s.health.events with
    | e :: t =>
      if s.stk.ext < e.at_ + 10000 then s
      else if 4 ≤ e.sent then eventNext { s with health := { s.health with events := t } }
      else eventOut s
    | [] => s)

end Sys2Proof.Machine
end

