-- ==== Sys2Proof/Machine/Spdm.lean ====
section
/-!
DEFINITION. Machine/Spdm.lean: the SPDM responder over DOE and MCTP (R399, R400, R449). Message and error codes are those of DSP0274.
-/

namespace Sys2Proof.Machine

/-- Send an SPDM answer on the transport of its request: code, then its fields. Over DOE it ends the object in progress. -/
def spdmSend (mctp : Bool) (fields : List Nat) (s : State) : State :=
  if mctp then mctpSend .mgmt (5 :: fields) s
  else { s with pci := { s.pci with doe := false } } |> emit .doe (1 :: fields)

/-- An ERROR answer. -/
def spdmError (mctp : Bool) (code : Nat) (s : State) : State := spdmSend mctp [0x7F, code] s

/-- The connection on a transport. -/
def connOf (s : State) (mctp : Bool) : SpdmConn := fgetD s.keys.conns (b2n mctp) ⟨0, 0, none⟩

/-- Change the connection on a transport. -/
def setConn (mctp : Bool) (c : SpdmConn) (s : State) : State :=
  { s with keys := { s.keys with conns := fset s.keys.conns (b2n mctp) c } }

/-- A request arrives: over DOE in the object in progress; over MCTP at the device's address. -/
def spdmTake (mctp : Bool) (f : State → State) (s : State) : State :=
  if mctp then
    if isSet s Reg.MGT_STATUS_ADDRESSED && i3cAnswers s then f (bump Reg.MGT_RX_MSGS_COUNT s) else s
  else if s.pci.doe then f s
  else s

/-- What has been said grows by a request and its answer, given as one number. -/
def transcriptAdd (t x : Nat) : Nat := Config.digest 1 (t * 2 ^ 384 + x)

/-- A request that comes after NEGOTIATE_ALGORITHMS; before it the answer is UnexpectedRequest. -/
def spdmAgreed (mctp : Bool) (f : SpdmConn → State → State) (s : State) : State :=
  spdmTake mctp (fun s => if (connOf s mctp).stage = 3 then f (connOf s mctp) s else spdmError mctp 4 s) s

/-! ### Negotiation -/

/-- SPDM_GET_VERSION: starts a connection afresh; version 1.3. -/
def execSpdmGetVersion (mctp : Bool) (s : State) : Host.Outcome State Fault Refusal :=
  go (spdmTake mctp (fun s => s |> setConn mctp ⟨1, transcriptAdd 0 0x84, none⟩ |> spdmSend mctp [0x04, 0x13]) s)

/-- SPDM_GET_CAPABILITIES. -/
def execSpdmGetCapabilities (mctp : Bool) (s : State) : Host.Outcome State Fault Refusal :=
  go (spdmTake mctp (fun s =>
    let c := connOf s mctp
    if c.stage ≠ 1 then spdmError mctp 4 s
    else s |> setConn mctp { c with stage := 2, transcript := transcriptAdd c.transcript 0xE1 } |> spdmSend mctp [0x61]) s)

/-- SPDM_NEGOTIATE_ALGORITHMS: `supported` tells that the request offers ECDSA P-384, SHA-384, ECDHE P-384 and AES-256-GCM. -/
def execSpdmNegotiateAlgorithms (mctp supported : Bool) (s : State) : Host.Outcome State Fault Refusal :=
  go (spdmTake mctp (fun s =>
    let c := connOf s mctp
    if c.stage ≠ 2 then spdmError mctp 4 s
    else if !supported then spdmError mctp 1 s
    else s |> setConn mctp { c with stage := 3, transcript := transcriptAdd c.transcript 0xE3 } |> spdmSend mctp [0x63]) s)

/-! ### Identity and measurements -/

/-- The number of DevID in the model's key derivation. -/
def devId : Nat := Config.derive 0 1

/-- Measurement 3 (R400): version and security version of the image measured at the last boot. -/
def manifestValue (s : State) : Nat := match s.boot.measured with | some h => h.version * 65536 + h.svn | none => 0

/-- Measurement 2: digest of that image. -/
def imageDigest (s : State) : Nat := match s.boot.measured with | some h => h.digest | none => 0

/-- The alias key (R380): of DevID and measurements 2 and 3, at each boot. -/
def aliasKey (s : State) : Nat := Config.derive devId (Config.digest 1 (imageDigest s * 2 ^ 64 + manifestValue s))

/-- The boot ROM still runs: measurements 2 to 4 are absent (R449). -/
def bootRomRuns (s : State) : Bool := s.boot.measured.isNone

/-- Measurement 5: owner hash, where one is enrolled, revocation bits and minimum security version, as one number. -/
def fuseValue (s : State) : Nat :=
  ((s.hw.owner.getD []).foldr (fun w n => w % 4294967296 + 4294967296 * n) 0 * 16 + s.hw.rootRevoked) * 65536 + s.hw.svnMin

/-- Measurement 6: seat count, stepping, side, on-media format version, as one number. -/
def configValue (s : State) : Nat :=
  ((s.hw.seats * 256 + rd s Reg.PKG_ID_STEPPING) * 2 + b2n s.hw.straps.side) * 65536 + s.upd.media

/-- A measurement by its index (*Device measurements*). Measurement 1 is the digest of the boot ROM, whose contents the spec does not give. -/
def measurement (s : State) (i : Nat) : Option Nat :=
  if i = 1 then some (Config.digest 1 0)
  else if i = 5 then some (fuseValue s)
  else if i = 6 then some (configValue s)
  else if bootRomRuns s then none
  else if i = 2 then some (imageDigest s)
  else if i = 3 then some (manifestValue s)
  else if i = 4 then some s.upd.meas4
  else none

/-- The measurements present, as index and value. -/
def measurements (s : State) : List (Nat × Nat) := (List.range 7).filterMap fun i => (measurement s i).map fun v => (i, v)

/-- A certificate chain: slot 0 from the Azoakar root through DevID to the alias key; slot 1 the owner's. -/
def certChain (s : State) (slot : Nat) : Option Nat :=
  if slot = 0 then some (Config.derive devId (aliasKey s)) else if slot = 1 then s.keys.ownerChain else none

/-- SPDM_GET_DIGESTS: one digest for each slot that holds a chain. -/
def execSpdmGetDigests (mctp : Bool) (s : State) : Host.Outcome State Fault Refusal :=
  go (spdmAgreed mctp (fun c s =>
    let l := [0, 1].filterMap fun n => (certChain s n).map fun x => Config.digest 1 x
    s |> setConn mctp { c with transcript := transcriptAdd c.transcript (l.foldl (fun t x => t * 2 ^ 384 + x) 0x81) }
      |> spdmSend mctp (0x01 :: l)) s)

/-- SPDM_GET_CERTIFICATE: a slot without a chain is an invalid request. -/
def execSpdmGetCertificate (mctp : Bool) (certSlot : Nat) (s : State) : Host.Outcome State Fault Refusal :=
  go (spdmAgreed mctp (fun c s =>
    match certChain s certSlot with
    | some x => s |> setConn mctp { c with transcript := transcriptAdd c.transcript (x * 256 + 0x82) } |> spdmSend mctp [0x02, certSlot, x]
    | none => spdmError mctp 1 s) s)

/-- Answer with a signature by the alias key over what has been said; R400 then signs the same digest. -/
def spdmSigned (mctp : Bool) (c : SpdmConn) (t : Nat) (fields : List Nat) (s : State) : State :=
  s |> setConn mctp { c with transcript := t, signed := some t } |> spdmSend mctp (fields ++ [Config.sign (aliasKey s) t])

/-- SPDM_CHALLENGE. -/
def execSpdmChallenge (mctp : Bool) (certSlot nonce : Nat) (s : State) : Host.Outcome State Fault Refusal :=
  go (spdmAgreed mctp (fun c s =>
    match certChain s certSlot with
    | some x => spdmSigned mctp c (transcriptAdd c.transcript ((nonce * 256 + certSlot) * 256 + 0x83)) [0x03, certSlot, Config.digest 1 x] s
    | none => spdmError mctp 1 s) s)

/-- SPDM_GET_MEASUREMENTS (R400): index 0 the number of measurements, 0xFF all of them, else the one named; the answer is signed. -/
def execSpdmGetMeasurements (mctp : Bool) (index nonce : Nat) (s : State) : Host.Outcome State Fault Refusal :=
  go (spdmAgreed mctp (fun c s =>
    let all := measurements s
    let l := if index = 0xFF then all else all.filter fun e => e.1 == index
    let t := transcriptAdd c.transcript (l.foldl (fun t e => (t * 256 + e.1) * 2 ^ 384 + e.2) (nonce * 65536 + index * 256 + 0xE0))
    if index = 0 then spdmSigned mctp c t [0x60, all.length] s
    else if l.isEmpty then spdmError mctp 1 s
    else spdmSigned mctp c t (0x60 :: (l.map fun e => [e.1, e.2]).flatten) s) s)

/-- SPDM_SET_CERTIFICATE (R399): slot 1 takes a chain that ends in the alias key. -/
def execSpdmSetCertificate (mctp : Bool) (certSlot chain : Nat) (endsInAlias : Bool) (s : State) : Host.Outcome State Fault Refusal :=
  go (spdmAgreed mctp (fun _ s =>
    if certSlot = 1 ∧ endsInAlias = true then { s with keys := { s.keys with ownerChain := some chain } } |> spdmSend mctp [0x6E, 1]
    else spdmError mctp 1 s) s)

/-- SPDM_VENDOR_DEFINED_REQUEST (R400): with Azoakar's identifier, the ML-DSA-87 signature over the digest that the last ECDSA signature
covered; with another, or before one, an error. -/
def execSpdmVendorDefinedRequest (mctp ours : Bool) (s : State) : Host.Outcome State Fault Refusal :=
  go (spdmAgreed mctp (fun c s =>
    if !ours then spdmError mctp 7 s
    else match c.signed with
      | some t => spdmSend mctp [0x7E, Config.sign (Config.derive (aliasKey s) 87) t] s
      | none => spdmError mctp 4 s) s)

/-! ### Sessions -/

/-- Show whether a secured session is open on MCTP. -/
def secureShow (s : State) : State := wrB Reg.MGT_STATUS_SECURE (s.keys.sessions.any fun e => e.2.mctp && e.2.established) s

/-- An SPDM session opened or closed (R405). -/
def sessionEvent (s : State) : State := keyEvent Reg.KEY_EVENTS_SPDM_SESSION 4 (secureShow s)

/-- SPDM_KEY_EXCHANGE (R399): at most four sessions at once; a fifth receives SessionLimitExceeded (0x0A). -/
def execSpdmKeyExchange (mctp : Bool) (s : State) : Host.Outcome State Fault Refusal :=
  go (spdmAgreed mctp (fun c s =>
    if 4 ≤ s.keys.sessions.length then spdmError mctp 0x0A s
    else
      let n := s.keys.nextSession
      let t := transcriptAdd c.transcript (n * 256 + 0xE4)
      { s with keys := { s.keys with sessions := fset s.keys.sessions n ⟨mctp, false⟩, nextSession := n + 1 } }
        |> setConn mctp { c with transcript := t } |> spdmSend mctp [0x64, n, Config.sign (aliasKey s) t]) s)

/-- A request inside a session of its transport; an unknown session receives InvalidSession (0x02). -/
def inSession (mctp : Bool) (session : Nat) (f : SpdmSession → State → State) (s : State) : State :=
  spdmTake mctp (fun s => match fget s.keys.sessions session with
    | some x => if x.mctp = mctp then f x s else spdmError mctp 2 s
    | none => spdmError mctp 2 s) s

/-- A session ends. -/
def sessionDrop (session : Nat) (s : State) : State := { s with keys := { s.keys with sessions := fdel s.keys.sessions session } }

/-- SPDM_FINISH: `ok` tells that the requester's verify data is right; otherwise the session is given up (DecryptError, 0x06). -/
def execSpdmFinish (mctp : Bool) (session : Nat) (ok : Bool) (s : State) : Host.Outcome State Fault Refusal :=
  go (inSession mctp session (fun x s =>
    if x.established then spdmError mctp 4 s
    else if ok then
      { s with keys := { s.keys with sessions := fset s.keys.sessions session { x with established := true } } }
        |> sessionEvent |> spdmSend mctp [0x65, session]
    else s |> sessionDrop session |> spdmError mctp 6) s)

/-- SPDM_HEARTBEAT. -/
def execSpdmHeartbeat (mctp : Bool) (session : Nat) (s : State) : Host.Outcome State Fault Refusal :=
  go (inSession mctp session (fun x s => if x.established then spdmSend mctp [0x68, session] s else spdmError mctp 4 s) s)

/-- SPDM_END_SESSION. -/
def execSpdmEndSession (mctp : Bool) (session : Nat) (s : State) : Host.Outcome State Fault Refusal :=
  go (inSession mctp session (fun x s =>
    if x.established then s |> sessionDrop session |> sessionEvent |> spdmSend mctp [0x6C, session] else spdmError mctp 4 s) s)

end Sys2Proof.Machine
end

