-- ==== Sys2Proof/Machine/KeelCox.lean ====
section
/-!
DEFINITION. Machine/KeelCox.lean: the keel (R14 to R19) and the fault and return of the active cox (R20, R21).
-/

namespace Sys2Proof.Machine

/-! ### Keel links (R17) -/

/-- One end of a link that has failed. -/
def keelEnd (x y : Nat) (detour : Bool) (s : State) : State :=
  s |> wrBit (Reg.KEEL_LINK_STATUS_LINK_UP x) y false |> wrBit (Reg.KEEL_LINK_STATUS_DETOUR x) y detour

/-- Traffic of every failed link takes two hops where a seat joins its ends (R17); a seat with no link at all is not yet trained. -/
def keelRoutes (s : State) : State :=
  foldS (seatList s) (fun x s => foldS (seatList s) (fun y s =>
    wrBit (Reg.KEEL_LINK_STATUS_DETOUR x) y (x != y && !keelUp s x y && (detourSeat s x y).isSome) s) s) s

/-- KEEL_LINK_FAIL (R17): the only link of a two-seat package is a fault of the head; any other goes into detour. -/
def keelLinkFail (x y : Nat) (s : State) : State :=
  if x = y ∨ s.hw.seats ≤ x ∨ s.hw.seats ≤ y ∨ !keelUp s x y then s
  else if s.hw.seats = 2 then s |> keelEnd 0 1 false |> keelEnd 1 0 false |> headHalt
  else
    { s with keel := { s.keel with detoured := s.keel.detoured || (detourSeat s x y).isSome } } |> keelEnd x y false |> keelEnd y x false |> keelRoutes

/-- KEEL_LINK_FAIL. -/
def execKeelLinkFail (x y : Nat) (s : State) : Host.Outcome State Fault Refusal := go (keelLinkFail x y s)

/-- KEEL_CRC_RETRANSMISSION (R17, R517): each is an event of source KEEL_RETRY of the link. -/
def execKeelCrcRetransmission (seat peer count : Nat) (s : State) : Host.Outcome State Fault Refusal :=
  go (if s.hw.seats ≤ seat ∨ s.hw.seats ≤ peer then s
    else s |> bumpN (Reg.KEEL_LINK_RETRY_COUNT seat) count |> foldS (List.range count) fun _ s => faultNote seat 0x0C peer [] s)

/-! ### Fairness (R15, R16, R19) -/

/-- Whether some pair that waited throughout has been served outside its bound (R16): 3 % of its entitled share, 10 % with a link in detour. The
share is its weight over the weights of all pairs that had requests waiting, of all the bytes delivered. -/
def keelUnfair (s : State) (dest : Nat) : Bool :=
  let p := keelPort s dest
  let total := (p.served.map Prod.snd).sum
  let weights := (p.asked.map (keelWeight s dest)).sum
  let pct := if s.keel.detoured || keelDetour s then 10 else 3
  p.throughout.any fun k =>
    let due := keelWeight s dest k * total
    let got := fgetD p.served k 0 * weights
    decide (pct * due < 100 * (due - got)) || decide (pct * due < 100 * (got - due))

/-- A destination's next interval: nothing delivered yet; the pairs with requests waiting have had them throughout. -/
def keelPortNext (p : KeelPort) : KeelPort := { p with served := [], asked := p.turns, throughout := p.turns }

/-- A KEEL_FAIR event (R16, R19): bytes delivered are shown, and an interval outside its bound is counted and logged. DESIGN CHOICE: a write of
KEEL_WEIGHT that takes effect at this edge counts for the interval that ends (log entry 27). -/
def keelFair (s : State) : State :=
  let s := foldS (seatList s) (fun n s =>
    let served := (keelPort s n).served
    let s := foldS (seatList s) (fun o s =>
      wr (Reg.KEEL_SERVED_UNITS n o) (((served.filter fun x => x.1 / 4 == o).map Prod.snd).sum / 4096) s) s
    s |> when (keelUnfair s n) (fun s => s |> bump (Reg.KEEL_FAIR_EXCESS_COUNT n) |> logFw n 19 [n])
      |> when (fhas s.keel.ports n) (keelMod n keelPortNext)) s
  { s with keel := { s.keel with detoured := false } }

/-! ### Cox (R21, R432, R553) -/

/-- COX_FAULT: from step 4 of an activation on, the fault of the new cox rolls the activation back; otherwise the standby takes the role. -/
def coxFault (gap : Nat) (s : State) : State :=
  if !coxRuns s then s
  else if s.upd.step = 4 ∨ s.upd.step = 5 then actRollback s
  else coxFaults gap s

/-- COX_FAULT. -/
def execCoxFault (gap : Nat) (s : State) : Host.Outcome State Fault Refusal := go (live (coxFault gap) s)

/-- COX_RETURN: the original cluster has ended its self-test. During an activation the update gives the role back (R551). -/
def execCoxReturn (gap : Nat) (passed : Bool) (s : State) : Host.Outcome State Fault Refusal :=
  go (live (fun s => if !coxRuns s ∨ 4 ≤ s.upd.step then s else coxReturns gap passed s) s)

end Sys2Proof.Machine
end

