-- ==== Sys2Proof/Machine/Stroke.lean ====
section
/-!
DEFINITION. Machine/Stroke.lean: the stroke unit: its inputs, holdover and slew, the floor, and the periodic schedule (R36 to R60).
-/

namespace Sys2Proof.Machine

/-! ### Inputs -/

/-- The other input. -/
def otherInput : Input → Input
  | .a => .b
  | .b => .a

/-- State of an input. -/
def inputOf (s : State) : Input → StkInput
  | .a => s.stk.inA
  | .b => s.stk.inB

/-- Change the state of an input. -/
def inputMod (i : Input) (f : StkInput → StkInput) (s : State) : State :=
  match i with
  | .a => { s with stk := { s.stk with inA := f s.stk.inA } }
  | .b => { s with stk := { s.stk with inB := f s.stk.inB } }

/-- The bit that shows an input's lock. -/
def lockFld : Input → Fld
  | .a => Reg.STK_STATUS_A_LOCKED
  | .b => Reg.STK_STATUS_B_LOCKED

/-- An input is locked. -/
def inputLocked (s : State) (i : Input) : Bool := isSet s (lockFld i)

/-- The preferred input (STK_CTRL.PREFER). -/
def preferred (s : State) : Input := if isSet s Reg.STK_CTRL_PREFER then .b else .a

/-- Number of an input. -/
def inputNum : Input → Nat
  | .a => 0
  | .b => 1

/-- A stroke event with its enable bit. -/
def stkEvent (ev : Fld) (bit : Nat) (s : State) : State := event ev Reg.STK_EVENT_EN_ENABLE bit s

/-- A valid interval (R36). -/
def intervalValid (t : Nat) : Bool := decide (5000 ≤ t) && decide (t ≤ 100000)

/-- An interval differs from the one before it by at most 1/1,024 of the earlier (R37). -/
def intervalNear (t before : Nat) : Bool := decide (1024 * (t - before) ≤ before) && decide (1024 * (before - t) ≤ before)

/-- The run of an input after an interval (R37): an invalid interval ends it; a valid one that breaks the bound is the first of the next. -/
def runAfter (x : StkInput) (t : Nat) : Nat :=
  if !intervalValid t then 0
  else if x.run = 0 then 1
  else if intervalNear t (x.ivals.headD 0) then x.run + 1 else 1

/-- The input's period in 1/256 tick: the mean of its last 16 intervals (R42). -/
def inputPeriod (x : StkInput) : Nat := 256 * x.ivals.sum / max 1 x.ivals.length

/-- STK_PERIOD in 1/256 tick. -/
def period (s : State) : Nat := 256 * rd s Reg.STK_PERIOD_TICKS + rd s Reg.STK_PERIOD_FRACTION

/-- Set STK_PERIOD. -/
def setPeriod (p : Nat) (s : State) : State := s |> wr Reg.STK_PERIOD_TICKS (p / 256) |> wr Reg.STK_PERIOD_FRACTION (p % 256)

/-- The most a synthesised period is corrected: 0.1 % of it in whole ticks (R41). -/
def periodStep (s : State) : Nat := rd s Reg.STK_PERIOD_TICKS / 1000

/-- Two periods differ by more than 1/1,024 of the second (R50). -/
def periodFar (p q : Nat) : Bool := decide (q < 1024 * (p - q)) || decide (q < 1024 * (q - p))

/-- An input has become active (R50): a period other than the one in force, or than a ramp's target, is a change of the hub's period. -/
def periodCheck (i : Input) (s : State) : State :=
  let p := inputPeriod (inputOf s i)
  match s.stk.ramp with
  | none =>
    if periodFar p (period s) then { s with stk := { s.stk with ramp := some p } } |> stkEvent Reg.STK_EVENTS_PERIOD_CHANGED 5
    else setPeriod p s
  | some t => { s with stk := { s.stk with ramp := some p } } |> when (periodFar p t) (stkEvent Reg.STK_EVENTS_PERIOD_CHANGED 5)

/-- An input takes the role. -/
def takeRole (i : Input) (s : State) : State :=
  { s with stk := { s.stk with active := some i, activeSince := s.stk.ext, switchTo := none } } |> wr Reg.STK_STATUS_ACTIVE (inputNum i)

/-- A switch between inputs (R39, R40): the skew between them moves the target phase, so it joins the phase error not yet removed (R41); a slew
measures its offset again. -/
def switchRole (i : Input) (s : State) : State :=
  let skew := phaseNorm s ((inputOf s i).lead - (inputOf s (otherInput i)).lead)
  let s := takeRole i s
  { s with stk := { s.stk with steer := phaseNorm s (s.stk.steer + skew), slew := if s.stk.slew = .idle then .idle else .measuring } }
    |> bump Reg.STK_SWITCH_COUNT_COUNT |> stkEvent Reg.STK_EVENTS_SWITCHED 2 |> periodCheck i

/-- An input locks while none is active (R48). -/
def firstActive (i : Input) (s : State) : State :=
  let s := takeRole i s
  { s with stk := { s.stk with slew := .measuring } }
    |> wr Reg.STK_STATUS_HOLDOVER 0 |> stkEvent Reg.STK_EVENTS_RELOCKED 4 |> wr Reg.STK_STATUS_SLEWING 1 |> periodCheck i

/-- An input loses its lock (R38, R39). With none left, nothing steers the synthesiser: each period is the last STK_PERIOD (R47). -/
def lockLost (i : Input) (s : State) : State :=
  if !inputLocked s i then s
  else
    let s := wr (lockFld i) 0 s
    let s := match i with
      | .a => s |> stkEvent Reg.STK_EVENTS_A_LOST 0 |> bump Reg.STK_LOCKLOSS_A_COUNT |> durability Reg.PKG_DURABILITY_STROKE_A_OK false
      | .b => s |> stkEvent Reg.STK_EVENTS_B_LOST 1 |> bump Reg.STK_LOCKLOSS_B_COUNT |> durability Reg.PKG_DURABILITY_STROKE_B_OK false
    if s.stk.active ≠ some i then s
    else if inputLocked s (otherInput i) then switchRole (otherInput i) s
    else { s with stk := { s.stk with active := none, slew := .idle, ramp := none, switchTo := none, steer := 0 } } |> wr Reg.STK_STATUS_SLEWING 0

/-- An input locks (R37). -/
def lockTaken (i : Input) (s : State) : State :=
  let s := s |> wr (lockFld i) 1 |> inputMod i (fun x => { x with lockedAt := s.stk.ext })
  { s with stk := { s.stk with lockSeen := true } }
    |> durability (match i with | .a => Reg.PKG_DURABILITY_STROKE_A_OK | .b => Reg.PKG_DURABILITY_STROKE_B_OK) true

/-- The interval that an edge ends is judged: the run, the interval register, the edge's phase; then lock or loss of lock. DESIGN CHOICE: an
interval of 2^20 ticks or more is shown modulo 2^20 (log entry 97). -/
def edgeJudge (i : Input) (interval : Nat) (lead : Int) (s : State) : State :=
  let x := inputOf s i
  let run := runAfter x interval
  let s := s |> inputMod i (fun x => { x with run := run, ivals := (interval :: x.ivals).take 16, lead := lead })
    |> wr (match i with | .a => Reg.STK_INTERVAL_A_TICKS | .b => Reg.STK_INTERVAL_B_TICKS) interval
  if inputLocked s i then (if run ≤ 1 then lockLost i s else s)
  else if 16 ≤ run then lockTaken i s else s

/-- The edge of the active input: the offset of a slew is measured (R48), or the edge steers the synthesiser (R41, R42). -/
def edgeSteer (i : Input) (lead : Int) (s : State) : State :=
  if s.stk.ramp.isSome then { s with stk := { s.stk with ramp := some (inputPeriod (inputOf s i)) } }
  else
    let s := setPeriod (inputPeriod (inputOf s i)) s
    let off := phaseNorm s lead
    match s.stk.slew with
    | .measuring =>
      if off.natAbs ≤ 2 then { s with stk := { s.stk with slew := .idle } } |> wr Reg.STK_STATUS_SLEWING 0
      else { s with stk := { s.stk with slew := .running off } }
    | .running _ => s
    | .idle => { s with stk := { s.stk with steer := off } }

/-- With no active input, a locked one takes the role: the preferred one where both have locked in this tick (R39). -/
def roleFill (s : State) : State :=
  if s.stk.active.isSome then s
  else if inputLocked s (preferred s) then firstActive (preferred s) s
  else if inputLocked s (otherInput (preferred s)) then firstActive (otherInput (preferred s)) s
  else s

/-- STK_SKEW while both inputs are locked: the edge of B minus the edge of A. DESIGN CHOICE: outside 16-bit two's complement it wraps (log
entry 97). -/
def skewShow (s : State) : State :=
  if inputLocked s .a && inputLocked s .b then wr Reg.STK_SKEW_TICKS (twos 16 (phaseNorm s (s.stk.inA.lead - s.stk.inB.lead))) s else s

/-- STROKE_INPUT_EDGE (R36 to R42): one edge, or one of each input in the same tick. -/
def inputEdges (l : List (Input × Nat × Int)) (s : State) : State :=
  let was := s.stk.active
  let lock := fun (e : Input × Nat × Int) => decide (16 ≤ runAfter (inputOf s e.1) e.2.1)
  let s := foldS (l.filter lock ++ l.filter fun e => !lock e) (fun e s => edgeJudge e.1 e.2.1 e.2.2 s) s
  let s := foldS l (fun e s => if was = some e.1 ∧ s.stk.active = some e.1 then edgeSteer e.1 e.2.2 s else s) s
  s |> roleFill |> skewShow

/-- STROKE_INPUT_EDGE. -/
def execStrokeInputEdge (i : Input) (interval : Nat) (lead : Int) (other : Option OtherEdge) (s : State) : Host.Outcome State Fault Refusal :=
  go (if s.stk.released then
      inputEdges ((i, interval, lead) :: match other with | some o => [(otherInput i, o.interval, o.lead)] | none => []) s
    else s)

/-- STROKE_INPUT_TIMEOUT (R38): no edge for 1.25 times the input's period. -/
def execStrokeInputTimeout (i : Input) (s : State) : Host.Outcome State Fault Refusal := go (lockLost i s)

/-- HOLDOVER_ENTRY (R47): `elapsed` ticks since the last input edge after which some input was still locked. -/
def execHoldoverEntry (elapsed : Nat) (s : State) : Host.Outcome State Fault Refusal :=
  go (if !s.stk.released ∨ inputLocked s .a ∨ inputLocked s .b ∨ isSet s Reg.STK_STATUS_HOLDOVER ∨ 256 * elapsed ≤ 3 * period s then s
    else s |> wr Reg.STK_STATUS_HOLDOVER 1 |> wr Reg.STK_HOLDOVER_STROKES_COUNT 0 |> stkEvent Reg.STK_EVENTS_HOLDOVER_ENTERED 3)

/-- STK_SWITCH_NOW (R39): acts where the input that is not active is locked. -/
def switchNow (s : State) : State :=
  match s.stk.active with
  | some i => if inputLocked s (otherInput i) then { s with stk := { s.stk with switchTo := some (otherInput i) } } else s
  | none => s

/-- STK_SWITCH_NOW. -/
def execStkSwitchNow (s : State) : Host.Outcome State Fault Refusal := go (switchNow s)

/-- STROKE_REVERT (R40): the preferred input has been locked for 10,000 strokes since the latest of its lock, the other input's becoming
active, and the stroke edge after a write of PREFER that names it. -/
def execStrokeRevert (s : State) : Host.Outcome State Fault Refusal :=
  go (
    let p := preferred s
    if isSet s Reg.STK_CTRL_REVERT && s.stk.active == some (otherInput p) && inputLocked s p
        && decide (max (max (inputOf s p).lockedAt s.stk.activeSince) s.stk.preferAt + 10000 ≤ s.stk.ext) then
      { s with stk := { s.stk with switchTo := some p } }
    else s)

/-- STROKE_NO_LOCK (R53): one event of source STROKE, instance 0. -/
def execStrokeNoLock (s : State) : Host.Outcome State Fault Refusal :=
  go (if s.stk.released && !s.stk.lockSeen && decide (100000 ≤ s.stk.sinceRelease) then
      { s with stk := { s.stk with lockSeen := true } } |> faultNote 0 0x14 0 []
    else s)

/-! ### The schedule (R58, R514) -/

/-- A field of the schedule as it will stand at the next stroke edge. -/
def schedNext (s : State) (f : Fld) : Nat := match fget s.bus.waiting f.key with | some w => w.2 | none => rd s f

/-- STK_SCHED_WRITE (R58): a write is tested against the other register as it will stand; the fixed entries ignore it. -/
def schedWrite (i : Nat) (phase : Bool) (value : Nat) (s : State) : State :=
  if i < 4 ∨ 8 ≤ i then s
  else
    let v := if !phase && i == 5 then max 5000 value else value
    let iv := if phase then schedNext s (Reg.STK_SCHED_INTERVAL_STROKES i) else v
    let ph := if phase then v else schedNext s (Reg.STK_SCHED_PHASE_STROKES i)
    if iv ≠ 0 ∧ iv ≤ ph then stkEvent Reg.STK_EVENTS_SCHED_REFUSED 8 s
    else waitWrite (if phase then Reg.STK_SCHED_PHASE_STROKES i else Reg.STK_SCHED_INTERVAL_STROKES i) v s

/-- STK_SCHED_WRITE. -/
def execStkSchedWrite (index : Nat) (phase : Bool) (value : Nat) (s : State) : Host.Outcome State Fault Refusal := go (schedWrite index phase value s)

/-- Whether periodic event `i` fires at this edge (R58). -/
def fires (s : State) (i : Nat) : Bool :=
  let iv := rd s (Reg.STK_SCHED_INTERVAL_STROKES i)
  iv != 0 && s.stk.ext % iv == rd s (Reg.STK_SCHED_PHASE_STROKES i)

/-! ### What the synthesiser does at an edge (R41, R48 to R51, R56) -/

/-- Bring a number of ticks nearer to zero. -/
def towardZero (x : Int) (step : Nat) : Int := if 0 ≤ x then x - (min step x.natAbs : Nat) else x + (min step x.natAbs : Nat)

/-- A switch that is due (R39, R40). -/
def switchEdge (s : State) : State :=
  match s.stk.switchTo with
  | none => s
  | some i => if inputLocked s i && s.stk.active == some (otherInput i) then switchRole i s else { s with stk := { s.stk with switchTo := none } }

/-- A ramp moves the period by at most 0.1 %, and at least 1 tick, toward its target, and ends within 1/1,024 of it (R50). -/
def rampEdge (s : State) : State :=
  match s.stk.ramp with
  | none => s
  | some t =>
    let p := period s
    let d := 256 * max 1 (periodStep s)
    let q := if p ≤ t then p + min d (t - p) else p - min d (p - t)
    if periodFar q t then setPeriod q s else { s with stk := { s.stk with ramp := none } } |> setPeriod t

/-- A slew takes its share of the offset off this period (R48). -/
def slewEdge (s : State) : State :=
  match s.stk.slew with
  | .running left =>
    let l := towardZero left (max 1 (periodStep s))
    if l.natAbs ≤ 2 then { s with stk := { s.stk with slew := .idle } } |> wr Reg.STK_STATUS_SLEWING 0
    else { s with stk := { s.stk with slew := .running l } }
  | _ => s



/-- What is left of the phase error after this period. In resynchronisation the follower slews toward the reference's count and phase at the
bound of R48, whatever its inputs (R55); without an active input it follows a reference that has one (R56); else it keeps to its active input
(R41), or to STK_PERIOD where it has none (R47). -/
def steerEdge (s : State) : State :=
  let follows := !isSet s Reg.STK_STATUS_REFERENCE && hasSession s
  let lead (x : Int) (s : State) : State := { s with stk := { s.stk with steer := x, peerLead := x } }
  if follows && isSet s Reg.STK_STATUS_PAIR_RESYNC then lead (towardZero s.stk.peerLead (max 1 (periodStep s))) s
  else if s.stk.active.isSome then { s with stk := { s.stk with steer := towardZero s.stk.steer (periodStep s) } }
  else if follows && s.stk.peerSteered then lead (towardZero s.stk.peerLead (periodStep s)) s
  else { s with stk := { s.stk with steer := 0 } }

/-- The floor at a stroke edge (R51, R52): due from M − 2^15 on, written again at each edge until a write reads back; late at M. -/
def floorEdge (ok : Bool) (s : State) : State :=
  match newestFloor s with
  | none => s
  | some (p, f) =>
    if s.stk.ext + 32768 < f.value then s
    else
      let last := s.stk.floors.foldl (fun (b : Nat × Nat) e => if b.2 < e.2.seq then (e.1, e.2.seq) else b) (p, f.seq)
      let n := if (last.1 + 1) % 16 = p then p + 1 else last.1 + 1
      let s := writeFloor (s.stk.ext + 65536) n (last.2 + 1) ok s
      if ok then wr Reg.STK_STATUS_FLOOR_LATE 0 s
      else if f.value ≤ s.stk.ext ∧ !isSet s Reg.STK_STATUS_FLOOR_LATE then
        s |> wr Reg.STK_STATUS_FLOOR_LATE 1 |> stkEvent Reg.STK_EVENTS_FLOOR_LATE 7 |> faultNote 0 0x14 1 []
      else s

end Sys2Proof.Machine
end

