-- ==== Sys2Proof/Machine/Edge.lean ====
section
/-!
DEFINITION. Machine/Edge.lean: what happens at a stroke edge, in the order of *Stroke-edge order* (R57), and the fault window, the logbook's
rates and the other things that are evaluated once a stroke.
-/

namespace Sys2Proof.Machine

/-! ### Writes that take effect at the edge (R10) -/

/-- What a slot's control fields do as they come into force (R270, R271). -/
def slotTakes (keys : List Nat) (n : Nat) (s : State) : State :=
  s |> when (keys.contains (Reg.BLD_SLOT_CTRL_ATTN_IND n).key || keys.contains (Reg.BLD_SLOT_CTRL_PWR_IND n).key) (fun s => running (indSend n) s)
    |> when (keys.contains (Reg.BLD_SLOT_CTRL_PWR_OFF n).key) (fun s => running (powerEdge n) s)

/-- The congestion windows are held at FE_CC_WMAX as it stands (R77). -/
def windowsHold (s : State) : State :=
  { s with fe := { s.fe with qps := s.fe.qps.map fun e => (e.1, { e.2 with window := min e.2.window (winMax s (keyHi e.1)) }) } }

/-- The waiting writes come into force. -/
def writesTake (s : State) : State :=
  let l := s.bus.waiting
  if l.isEmpty then s
  else
    let keys := l.map (·.1)
    let s := foldS l (fun e s => wr e.2.1 e.2.2 s) { s with bus := { s.bus with waiting := [] } }
    let s := if keys.contains Reg.STK_CTRL_PREFER.key then { s with stk := { s.stk with preferAt := s.stk.ext } } else s
    s |> when (keys.contains Reg.KEY_SEAL_LIMIT_LOG2.key) limitRolls |> windowsHold |> foldS (List.range (slotCount s)) (slotTakes keys)

/-! ### Expiries due at the edge (step 3) -/

/-- What is due at this edge: the cox, settings and easy-alls, registrations and installs of the pair, erasures, the groups that have waited for
their bound. -/
def duesTake (s : State) : State :=
  s |> insertionBounds |> coxEdge |> easyEdge |> paramsEdge |> snapsWait |> ownDue |> rollsDue |> foldS (seatList s) sealRetry |> windowsDue |> failbackEdge |> failbackTry
    |> joinDone |> erasesDue |> erasesWait

/-! ### Periodic events (step 5) -/

/-- What a background activity may want: everything it can get while it has work, else nothing. -/
def demandOf (b : Bool) : Nat := if b then 16777215 else 0

/-- Demand of GC, REBUILD, RESHAPE, SCRUB and SWEEP on a seat (R346). SCRUB is the patrol scrub: the spec describes no media scrub. -/
def demands (seat : Nat) (s : State) : List Nat :=
  let gs := s.par.groups
  [demandOf (gs.any fun g => g.2.gcActive.contains seat || g.2.victim.isSome || g.2.copies != [] || slcOver g.2 || g.2.rows.any fun r => r.2.ahead || r.2.onRetired),
   demandOf (gs.any fun g => !g.2.rebuilds.isEmpty || !g.2.resync.isEmpty),
   demandOf (s.par.reshape.st == .forward || s.par.reshape.st == .reverse), if fires s 4 then scrubTokens s seat else 0,
   demandOf (!s.map.pages.isEmpty || !s.map.releasing.isEmpty || s.upd.st == .verifying)]

/-- RATE (R58): settings, buckets and the background grant of a seat. -/
def ratePeriod (seat : Nat) (s : State) : State := s |> rateSettings seat |> bucketsEdge seat |> bgEdge seat (demands seat s)

/-- The buckets of one entry as the index advances to `cur` (R518). -/
def bucketClear (cur : Nat) (e : FaultEntry) : FaultEntry :=
  { e with buckets := e.buckets.set cur 0, devices := fmapV e.devices fun _ b => b.set cur 0 }

/-- FAULT_BUCKET (R518, R520): the bucket that becomes current is cleared, and an entry left empty is freed. -/
def bucketAdvance (s : State) : State :=
  let cur := (rd s Reg.FLT_BUCKET_CURRENT + 1) % 8
  let m := fkeep (fmapV s.health.faults fun _ e => bucketClear cur e) fun _ e => windowCount e != 0
  foldS (seatList s) showEntries ({ s with health := { s.health with faults := m } } |> wr Reg.FLT_BUCKET_CURRENT cur)

/-- The seats have a map to checkpoint (R160): before recovery has rebuilt it there is none (log entry 25). -/
def mapReady (s : State) : Bool := s.pair.sides != [] || rd s Reg.PKG_BRINGUP_STEP == 13

/-- The periodic events of this edge in the order of *Periodic events* (R58). -/
def periodics (e : EdgeInfo) (s : State) : State :=
  s |> foldS (seatList s) ratePeriod
    |> when (fires s 3) keelFair
    |> when (fires s 4) (scrubEdge e.scrub)
    |> when (fires s 5 && mapReady s) (fun s => running ckptStart s)
    |> when (fires s 6) (fun s => running sweepStart s)
    |> when (fires s 7) bucketAdvance

/-! ### Slow blades (R198) -/

/-- The 99th percentile of a list of times. -/
def p99 (l : List Nat) : Nat := (l.mergeSort (· ≤ ·)).getD ((99 * l.length + 99) / 100 - 1) 0

/-- The middle of a list of times, the lower one of an even number. -/
def medianOf (l : List Nat) : Nat := (l.mergeSort (· ≤ ·)).getD ((l.length - 1) / 2) 0

/-- Blades of the pool of a slot: those of the group's geometries and rebuild targets. -/
def poolSlots (s : State) (slot : Nat) : List Nat :=
  let on : Group → List Nat := fun g =>
    (g.geoms.foldl (fun (l : List Nat) (x : Nat × Geom) => l ++ x.2.shares.map Share.slot) [] ++ g.rebuilds.map fun (r : Rebuild) => r.target.slot).eraseDups
  match s.par.groups.find? fun g => (on g.2).contains slot with
  | some g => on g.2
  | none => []

/-- A slot's times of the last 1,000 strokes exceed the ratio of its pool's median, or its link is degraded. -/
def slotOver (s : State) (seat slot : Nat) : Bool :=
  let times := fun n => (fgetD s.rds.slotLats n []).map (·.1)
  let figures := (poolSlots s slot).filterMap fun n => if times n = [] then none else some (p99 (times n))
  linkState s slot == 3 ||
    (times slot != [] && figures != [] && decide (max 16 (rd s (Reg.NVQ_RD_SLOW_RATIO_X16 seat)) * medianOf figures < 16 * p99 (times slot)))

/-- The slow mark of a slot on a seat: set while over; cleared after 10,000 strokes below in a row. -/
def slowMark (seat slot : Nat) (s : State) : State :=
  let f := Reg.NVQ_RD_SLOW_BLADES_SLOTS seat (slot / 32)
  let k := pairKey seat slot
  if slotOver s seat slot then { s with rds := { s.rds with below := fdel s.rds.below k } } |> wrBit f (slot % 32) true
  else if bitOf (rd s f) (slot % 32) then
    let n := fgetD s.rds.below k 0 + 1
    if 10000 ≤ n then { s with rds := { s.rds with below := fdel s.rds.below k } } |> wrBit f (slot % 32) false
    else { s with rds := { s.rds with below := fset s.rds.below k n } }
  else s

/-- Slow blades at a stroke edge: slots with a time to judge, a degraded link or a mark. -/
def slowEdge (s : State) : State :=
  let lats := fkeep (fmapV s.rds.slotLats fun _ l => l.filter fun x => decide (s.stk.ext < x.2 + 1000)) fun _ l => !l.isEmpty
  let s := { s with rds := { s.rds with slotLats := lats } }
  foldS (seatList s) (fun n s =>
    let m := (List.range 3).map fun i => rd s (Reg.NVQ_RD_SLOW_BLADES_SLOTS n i)
    let l := (List.range (slotCount s)).filter fun k => fhas lats k || linkState s k == 3 || bitOf (m.getD (k / 32) 0) (k % 32)
    foldS l (slowMark n) s) s

/-! ### Once a stroke -/

/-- The stroke counts of the lanes: frames that wait for their acknowledgement, and the lane's occupancy over the stroke (R304, R331). -/
def lanesEdge (s : State) : State :=
  foldS (s.pair.lanes.map (·.1)) (fun n s =>
    let l := lane9 s n
    s |> wr (Reg.PAIR_LANE_BUSY_LOAD n) (min 1023 (1024 * l.busy / max 1 (rd s Reg.STK_PERIOD_TICKS)))
      |> laneMod n (fun l => { l with busy := 0, freeAt := 0, unacked := l.unacked.map fun f => { f with waited := f.waited + 1 } })) s

/-- Occupancy of each command engine over the stroke: 192 core cycles a command (R88, R99); strokes with HARD set at the edge (R135). -/
def enginesEdge (s : State) : State :=
  let s := foldS ((seatList s).filter (hardNow s)) (fun n s => bump (Reg.CAT_HARD_STROKES_COUNT n) s) s
  foldS (s.nv.arb.map (·.1)) (fun n s =>
    let a := arbOf s n
    { s with nv := { s.nv with arb := fset s.nv.arb n { a with taken := 0 } } }
      |> wr (Reg.NVQ_BUSY_LOAD n) (min 1023 (1024 * 192 * a.taken / max 1 (15 * rd s Reg.STK_PERIOD_TICKS)))) s

/-- The logbook's rates start afresh: one SUPPRESSED entry for each seat and class that lost entries (R524). -/
def logEdge (s : State) : State :=
  let lost := s.health.logLost
  foldS lost (fun e s => logE (keyHi e.1) 6 (keyLo e.1) false [keyHi e.1, e.2] s)
    { s with health := { s.health with logCount := [], logLost := [] } }

/-- Triggers of kind STROKE (R526): at T, and every P strokes after it. -/
def strokeTriggers (s : State) : State :=
  foldS (seatList s) (fun n s => foldS (List.range 8) (fun t s =>
    match fget s.health.trigs (pairKey n t) with
    | some g => (match g.arm.cond with
      | .stroke at_ p =>
        if (g.fired = 0 ∧ at_ ≤ s.stk.ext) ∨ (p ≠ 0 ∧ at_ < s.stk.ext ∧ (s.stk.ext - at_) % p = 0) then pfrFire n t 0 s else s
      | _ => s)
    | none => s) s) s

/-- Storage service at the edge (steps 2 to 6), while the head runs and has not detected haul-out (R494). -/
def serviceEdge (e : EdgeInfo) (s : State) : State :=
  s |> duesTake |> snapsEdge |> updEdge e.act |> bridgesShow |> rekeyEdge |> foldS (s.par.groups.map (·.1)) (fun p s => s |> gcLevels p |> poolEdge p) |> targetsTake
    |> heartbeatsSend |> hellosSend |> partsEdge |> ftLog |> stepTwelve |> walkSpoiled e.spoiled |> redundancy

/-- Step 1: the extended stroke advances by one, and the tick counter returns to 0 (R43). -/
def countEdge (s : State) : State :=
  let s := { s with stk := { s.stk with ext := (s.stk.ext + 1) % 18446744073709551616, sinceRelease := s.stk.sinceRelease + 1 } }
  s |> setTicks 0 |> when (isSet s Reg.STK_STATUS_HOLDOVER) (bump Reg.STK_HOLDOVER_STROKES_COUNT)
    |> when (rd s Reg.PKG_BRINGUP_STEP != 13) (bump Reg.PKG_BRINGUP_STROKES_STROKES)

/-- The synthesiser at the edge. -/
def synthEdge (s : State) : State := s |> switchEdge |> rampEdge |> slewEdge |> steerEdge

/-- What goes on after a head fault as well: temperature, power, haul-out's end (R488, R495, R574). -/
def packageEdge (e : EdgeInfo) (s : State) : State :=
  s |> tempsEdge e.temps |> wr Reg.PKG_POWER_QUARTER_W e.power
    |> when (rd s Reg.HLD_STATUS_PHASE == 4) (wr Reg.HLD_STATUS_PHASE 5)
    |> wrB Reg.FLT_STATUS_FROZEN (rd s (Reg.STK_SCHED_INTERVAL_STROKES 7) == 0)

/-- Steps 1 and 2 of a stroke edge (R57): the count, the writes that wait for it, the floor and the synthesiser; the keel's stroke ends. -/
def edgeFirst (e : EdgeInfo) (s : State) : State :=
  s |> live (keelEdge e.keel) |> foldS (seatList s) digServe |> countEdge |> writesTake |> logEdge |> floorEdge e.floorOk |> synthEdge

/-- What is left of step 3 of a stroke edge, and steps 4 to 6 (R57). -/
def edgeRest (e : EdgeInfo) (s : State) : State :=
  s |> live lanesEdge |> running (serviceEdge e) |> live (periodics e)
    |> live (fun s => s |> enginesEdge |> linkEdge e.fec |> slowEdge |> foldS (seatList s) rateLatch |> foldS (s.ing.lats.map (·.1)) acceptShow |> foldS (s.rds.lats.map (·.1)) readShow)
    |> packageEdge e |> strokeTriggers |> sensorsEdge

/-- A stroke edge (R57): whole, or in two parts, between which commands are the arrivals and expiries of the edge's tick. -/
def strokeEdge (e : EdgeInfo) (s : State) : State :=
  match e.part, s.stk.mid with
  | .counts, false => edgeFirst e { s with stk := { s.stk with mid := true } }
  | .counts, true => s
  | .rest, false => s
  | .whole, false => s |> edgeFirst e |> edgeRest e
  | _, true => edgeRest e { s with stk := { s.stk with mid := false } }

/-- STROKE_EDGE: the synthesiser runs once the boot ROM has released it (R53). -/
def execStrokeEdge (e : EdgeInfo) (s : State) : Host.Outcome State Fault Refusal := go (if s.stk.released then strokeEdge e s else s)

end Sys2Proof.Machine
end

