-- ==== Sys2Proof/Machine/RegAccess.lean ====
section
/-!
DEFINITION. Machine/RegAccess.lean: reads and writes of registers (R6 to R11, R18, R34, R461). A requester is 0 for the host through BAR0, and
1 + n for the firmware of seat n (R7). What a register does beyond its access code is the operation of its own row.
-/

namespace Sys2Proof.Machine

/-! ### Where an access goes -/

/-- The seat of an address in a seat window, and its offset there. -/
def seatAddr (a : Nat) : Option (Nat × Nat) :=
  if 0x400000 ≤ a ∧ a < cfgBase then some (a / 0x400000 - 1, a % 0x400000) else none

/-- The register of slot i ≥ S in the BLD_ block reads as zero (R289). -/
def absentSlotReg (s : State) (a : Nat) : Bool :=
  decide (0x21000 ≤ a) && decide (a < 0x21000 + 32 * 96) && decide (slotCount s ≤ (a - 0x21000) / 32)

/-- The register an access reaches. -/
def target (s : State) (a : Nat) : Option RegRef := if absentSlotReg s a then none else regAt s a

/-- How an access is served. -/
inductive Served where
  /-- The register acts. -/
  | acts
  /-- Reads as zero, writes ignored (R461). -/
  | zero
  /-- The same, and logged (R6, R34). -/
  | bad
  /-- A PCIe status in place of data: 0 Unsupported Request, 2 Request Retry Status. -/
  | status (n : Nat)
  /-- Firmware that does not run yet makes no access. -/
  | nobody
  deriving DecidableEq, Repr

/-- How an access of a requester to an address is served (R6, R34, R448, R452, R461). -/
def served (s : State) (a req : Nat) : Served :=
  if req ≠ 0 then (if !coxRuns s ∨ s.boot.halted then .nobody else if a % 4 ≠ 0 ∨ !inBlock s a then .bad else .acts)
  else if cfgBase ≤ a then (if s.pci.retry then .status 2 else .acts)
  else if s.pci.retry ∨ s.pci.d3 then .status 0
  else if a % 4 ≠ 0 then .bad
  else if !coxRuns s ∧ 0x20000 ≤ a then .zero
  else if !inBlock s a then .bad
  else .acts

/-! ### Reads -/

/-- A code that a read clears. -/
def readClears (acc : Acc) : Bool := acc == .rc || acc == .rcs

/-- The counter of the selected link that a register shows (R374) changes with it. -/
def linkCounterSet (a : Nat) (g : Nat → Nat) (s : State) : State :=
  let f := fun (h : Link → Link) => linkMod (rd s Reg.SNP_LINK_SELECT_LINK) h s
  if a = addrOfBit Reg.SNP_LINK_OFFERED_COUNT.key then f fun l => { l with offeredN := g l.offeredN }
  else if a = addrOfBit Reg.SNP_LINK_SENT_COUNT.key then f fun l => { l with sentN := g l.sentN }
  else if a = addrOfBit Reg.SNP_LINK_SKIPPED_COUNT.key then f fun l => { l with skipped := g l.skipped }
  else if a = addrOfBit Reg.SNP_LINK_REFUSED_COUNT.key then f fun l => { l with refused := g l.refused }
  else if a = addrOfBit Reg.SNP_LINK_RESUMES_COUNT.key then f fun l => { l with resumes := g l.resumes }
  else s

/-- What a read of a register does besides returning it: RC fields clear (R10, R11), a low half latches its high half (R7), and what the
register's own rule says. -/
def readEffect (a req : Nat) (r : RegRef) (s : State) : State :=
  let s := if r.row.wide ∧ !r.high then (match r.row.fields with
      | d :: _ => { s with bus := { s.bus with latches := fset s.bus.latches (pairKey a req) (readFld s d.acc (fldOf r d) / 4294967296) } }
      | [] => s)
    else s
  let s := if a = addrOfBit Reg.STK_EXT.key then wr Reg.STK_TICK_LATCHED_TICK s.stk.tick s else s
  let s := if r.high then s else r.row.fields.foldl (fun s d => if readClears d.acc then clear (fldOf r d) s else s) s
  match seatAddr a with
  | some (n, off) => if off = 0x1A0128 then loopMissesClear n s else s
  | none => linkCounterSet a (fun _ => 0) s

/-- The value a read returns: a high half returns what the requester's last low read latched, and the live half where there was none (R7). -/
def readValue (req : Nat) (r : RegRef) (s : State) : Nat :=
  if r.high then (match fget s.bus.latches (pairKey r.low req) with
    | some v => v
    | none => readWord s r)
  else readWord s r

/-- One read: the value, and the state after it. DIG_RESULT has its own rule (R386), and so have the registers of R443. -/
def regRead (a req : Nat) (s : State) : Nat × State :=
  match target s a with
  | none => (aerRead s a, s)
  | some r => (match seatAddr a with
    | some (n, off) =>
      if 0x90140 ≤ off ∧ off < 0x90170 then digRead n ((off - 0x90140) / 4) s else (readValue req r s, readEffect a req r s)
    | none => (readValue req r s, readEffect a req r s))

/-- A read as it is served. -/
def busRead (a req : Nat) (s : State) : State :=
  match served s a req with
  | .acts => emit .busRead [req, a, (regRead a req s).1] (regRead a req s).2
  | .zero => emit .busRead [req, a, 0] s
  | .bad => s |> logAccess 0 false 4 a |> emit .busRead [req, a, 0]
  | .status n => if cfgBase ≤ a then emit .pcieStatus [n] s else unsupported false s
  | .nobody => s

/-! ### Writes -/

/-- An RWS field that does not wait for the stroke boundary: MBX_LANE_MAP applies to the doorbells after it (R411). -/
def takesNow (a : Nat) : Bool := decide (0x40020 ≤ a) && decide (a < 0x40040)

/-- A write of one field by its access code (R10). The locks of RWL are those of MGT_CTRL. DESIGN CHOICE: a write of an RC field is ignored:
*Access codes* gives only what its read does (log entry 10). -/
def fieldWrite (a : Nat) (acc : Acc) (f : Fld) (v : Nat) (s : State) : State :=
  match acc with
  | .ro => s
  | .rc => s
  | .rcs => s
  | .wo => s
  | .rw => wr f v s
  | .rws => if takesNow a then wr f v s else waitWrite f v s
  | .w1c => wr f (rd s f - (rd s f &&& v)) s
  | .w1cs => wr f (rd s f - (rd s f &&& v)) s
  | .rwl => if isSet s Reg.MGT_CTRL_LOCK then s else wr f v s

/-- Whether an event of an event register is raised to the cox: by its enable register, which follows it where there is one; PKG_DURABILITY
always raises (R29). -/
def eventRaised (s : State) (a bit : Nat) : Bool :=
  a == addrOfBit Reg.PKG_DURABILITY_CHANGED.key ||
    match regAt s (a + 4) with
    | some e => (match e.row.fields with
      | [d] => d.acc == .rws && d.lsb == 0 && bitOf (rd s (fldOf e d)) bit
      | _ => false)
    | none => false

/-- The W1C fields of a register that events of this cycle set again: a bit with its event, a wider field by or. -/
def fieldsAgain (a : Nat) (r : RegRef) (events : Nat) (s : State) : State :=
  r.row.fields.foldl (fun s d =>
    let e := events / 2 ^ d.lsb % 2 ^ d.width
    if (d.acc != .w1c && d.acc != .w1cs) || e == 0 then s
    else if d.width = 1 then setEvent (fldOf r d) (eventRaised s a d.lsb) s
    else wr (fldOf r d) (rd s (fldOf r d) ||| e) s) s

/-- Events of the same cycle as a write that clears them prevail (R11): the bits of the word `events` that lie in W1C fields are set again, those
of RATE_LOOP_FLAGS in the selected loop, which shows them. -/
def eventsAfter (a : Nat) (r : RegRef) (events : Nat) (s : State) : State :=
  if events = 0 then s
  else if a = addrOfBit Reg.PCI_INTX_STATUS_EVENT.key then foldS (List.range 8) (fun i s => when (bitOf events i) (wrBit Reg.PCI_INTX_STATUS_EVENT i true) s) s
  else match seatAddr a with
    | some (n, off) => if off = 0x1A0124 then loopFlagsSet n events s else fieldsAgain a r events s
    | none => fieldsAgain a r events s

/-- Registers of the package-common window and of configuration space whose write has an operation of its own; none where the access codes
say everything. -/
def pkgHook (a v : Nat) (s : State) : Option State :=
  if a = addrOfBit Reg.STK_CTRL_PREFER.key then
    some (s |> waitWrite Reg.STK_CTRL_PREFER (v % 2) |> waitWrite Reg.STK_CTRL_REVERT (v / 2 % 2) |> when (bitOf v 2) switchNow)
  else if 0x10100 ≤ a ∧ a < 0x10140 then some (schedWrite ((a - 0x10100) / 8) ((a - 0x10100) % 8 == 4) v s)
  else if a = addrOfBit Reg.SNP_LINK_SELECT_LINK.key then some (snpLinkSelect v s)
  else if a = addrOfBit Reg.KEY_DOMAIN_SELECT_DOMAIN.key then some (keyDomainSelect v s)
  else if a = addrOfBit Reg.MBX_ABORT_SLOT.key then some (mbxAbort (v % 64) s)
  else if a = addrOfBit Reg.PKG_BOOT_CTRL_RESTART.key then some (when (bitOf v 0) bootRestart s)
  else if a = addrOfBit Reg.PCI_RESET_SCOPE_SCOPE.key then some (scopeWrite v s)
  else if a = addrOfBit (Reg.FLT_SRC_N_N 0).key ∨ addrOfBit (Reg.FLT_SRC_N_N 21).key ≤ a ∧ a ≤ addrOfBit (Reg.FLT_SRC_N_N 31).key then some s
  else if 0x21000 ≤ a ∧ a < 0x21000 + 32 * 96 ∧ a % 32 = 4 then
    some (pwrOffWrite ((a - 0x21000) / 32) (bitOf v 10) s)
  else none

/-- The same for the registers of a seat window. -/
def seatHook (n off v : Nat) (s : State) : Option State :=
  if 0x10100 ≤ off ∧ off < 0x10120 then
    let o := (off - 0x10100) / 4
    some (s |> waitWrite (Reg.KEEL_WEIGHT_CTRL n o) (v % 256) |> waitWrite (Reg.KEEL_WEIGHT_READ n o) (v / 256 % 256)
      |> waitWrite (Reg.KEEL_WEIGHT_WRITE n o) (v / 65536 % 256) |> waitWrite (Reg.KEEL_WEIGHT_BACK n o) (v / 16777216 % 256))
  else if off = 0x40200 then some (qpSelect n v s)
  else if off = 0x1A0124 then some (loopFlagsClear n v s)
  else if off = 0x90100 then some (digCtxSelect n v s)
  else if off = 0x1F0004 then
    some (s |> when (bitOf v 0) (pfrClear n) |> when (bitOf v 1) (pfrDisarm n) |> pfrSoft n (v / 256 % 256))
  else if off = 0x1F0100 then some (pfrSelect n v s)
  else if off = addrOfBit (Reg.ANC_READ_ADDR_WORD 0).key % 0x400000 then some (ancRead n v 0 0 s)
  else none

/-- The operation of a register's own. -/
def hook (a v : Nat) (s : State) : Option State :=
  match seatAddr a with
  | some (n, off) => seatHook n off v s
  | none => pkgHook a v s

/-- The fields of a control register of a slot other than PWR_OFF (R289): BLD_SLOT_CTRL. -/
def slotCtrlFields (r : RegRef) (v : Nat) (s : State) : State :=
  r.row.fields.foldl (fun s d => if d.lsb = 10 then s else waitWrite (fldOf r d) (v / 2 ^ d.lsb) s) s

/-- A write of a 32-bit register, or of either half of a 64-bit one (R8): a low half is staged, a high half applies both. -/
def regWrite (a req v events : Nat) (s : State) : State :=
  match target s a with
  | none => aerWrite a v s
  | some r =>
    if r.row.wide then (match r.row.fields with
      | [] => s
      | d :: _ =>
        let f := fldOf r d
        if d.acc = .ro ∨ readClears d.acc then s
        else if !r.high then { s with bus := { s.bus with staged := fset s.bus.staged (pairKey r.low req) v } }
        else
          let low := match fget s.bus.staged (pairKey r.low req) with | some x => x | none => rd s f % 4294967296
          { s with bus := { s.bus with staged := fdel s.bus.staged (pairKey r.low req) } } |> fieldWrite a d.acc f (v * 4294967296 + low))
    else
      let s := match hook a v s with
        | some t => if seatAddr a = none ∧ 0x21000 ≤ a ∧ a < 0x21000 + 32 * 96 then slotCtrlFields r v t else t
        | none => r.row.fields.foldl (fun s d => fieldWrite a d.acc (fldOf r d) (v / 2 ^ d.lsb) s) s
      let s := eventsAfter a r events s
      if a = addrOfBit Reg.PCI_INTX_STATUS_EVENT.key ∨ a = addrOfBit Reg.PCI_INTX_EN_ENABLE.key then intxShow s else s

/-- A write as it is served. -/
def busWrite (a req v events : Nat) (s : State) : State :=
  match served s a req with
  | .acts => regWrite a req v events s
  | .zero => s
  | .bad => logAccess 0 true 4 a s
  | .status n => if cfgBase ≤ a then emit .pcieStatus [n] s else unsupported true s
  | .nobody => s

/-! ### The rows -/

/-- LOW_HALF_READ (R7), and a read of any register by the same path: the low half of a 64-bit quantity latches its high half. -/
def execLowHalfRead (addr req : Nat) (s : State) : Host.Outcome State Fault Refusal := go (busRead addr req s)

/-- LOW_HALF_WRITE (R8). -/
def execLowHalfWrite (addr value req : Nat) (s : State) : Host.Outcome State Fault Refusal := go (busWrite addr req value 0 s)

/-- HIGH_HALF_WRITE (R8). -/
def execHighHalfWrite (addr value req : Nat) (s : State) : Host.Outcome State Fault Refusal := go (busWrite addr req value 0 s)

/-- An event of the same cycle as the read of its counter is counted after the clear (R11). -/
def countAfter (a : Nat) (s : State) : State :=
  match target s a with
  | none => s
  | some r =>
    let s := r.row.fields.foldl (fun s d => if readClears d.acc then bump (fldOf r d) s else s) s
    match seatAddr a with
    | some (n, off) =>
      if off = 0x1A0128 then loopMod n (rd s (Reg.RATE_LOOP_SELECT_INDEX n)) (fun l => { l with misses := min (l.misses + 1) 4294967295 }) s else s
    | none => linkCounterSet a (fun n => min (n + 1) 4294967295) s

/-- READ_CLEAR_COUNTER (R11). -/
def execReadClearCounter (addr req : Nat) (event : Bool) (s : State) : Host.Outcome State Fault Refusal :=
  go (s |> busRead addr req |> when (event && served s addr req == .acts) (countAfter addr))

/-- REGISTER_WRITE (R10, R11, R19). -/
def execRegisterWrite (addr value req events : Nat) (s : State) : Host.Outcome State Fault Refusal := go (busWrite addr req value events s)

/-- BAR0_BAD_ACCESS (R6, R34): an access of another size than an aligned 32-bit word, or outside every block. -/
def badAccess (addr size : Nat) (write : Bool) (s : State) : State :=
  if cfgBase ≤ addr then s
  else if s.pci.retry ∨ s.pci.d3 then unsupported write s
  else if size = 4 ∧ addr % 4 = 0 ∧ inBlock s addr = true then s
  else s |> logAccess 0 write size addr |> when (!write) (emit .busRead [0, addr, 0])

/-- BAR0_BAD_ACCESS. -/
def execBar0BadAccess (addr size : Nat) (write : Bool) (s : State) : Host.Outcome State Fault Refusal := go (badAccess addr size write s)

/-- The power unit whose block lies at an offset of a seat window (R34, R480); SEAT_ and PWR_ belong to none. -/
def blockUnit (off : Nat) : Option Nat :=
  (([(0x10000, none), (0x20000, some 13), (0x40000, some 1), (0x80000, some 2), (0x90000, some 3), (0xA0000, some 4), (0xB0000, some 5),
    (0xC0000, some 6), (0x100000, some 8), (0x140000, some 7), (0x180000, some 9), (0x1A0000, some 10), (0x1C0000, some 11), (0x1D0000, none),
    (0x1E0000, some 12), (0x1F0000, some 14), (0x200000, some 17)] : List (Nat × Option Nat)).find? fun x => decide (off < x.1)).bind Prod.snd

/-- SEAT_WINDOW_ACCESS (R18): an access to another seat's window crosses the keel in class CTRL; a target unit in PADDLE or EASY wakes for it
(R485, R486) and stalls it for `stall` cycles. -/
def seatAccess (seat off : Nat) (write : Option Nat) (req stall : Nat) (s : State) : State :=
  let a := 0x400000 * (seat + 1) + off % 0x400000
  let origin := req - 1
  let s := if seat < s.hw.seats ∧ off % 0x400000 < 0x200000 ∧ served s a req = .acts then
      s |> keelSend origin seat keelCtrl 4
        |> (fun s => match blockUnit (off % 0x400000) with
          | some u => unitWake seat u (if origin = seat then 0 else 32 + origin) stall s
          | none => s)
    else s
  match write with
  | some v => busWrite a req v 0 s
  | none => busRead a req s

/-- SEAT_WINDOW_ACCESS. -/
def execSeatWindowAccess (seat off : Nat) (write : Option Nat) (a : WindowAccess) (s : State) : Host.Outcome State Fault Refusal :=
  go (seatAccess seat off write a.req a.stall s)

end Sys2Proof.Machine
end

