-- ==== Sys2Proof/Machine/Dispatch.lean ====
section
/-!
DEFINITION. Machine/Dispatch.lean: one arm per command, each one direct call of its meaning.
-/

namespace Sys2Proof.Machine

/-- The effect of a command on everything but the queue of waiting commands. -/
def exec (i : Instr) (s : State) : Host.Outcome State Fault Refusal :=
  match i with
  | .lowHalfRead addr req => Sys2Proof.Machine.execLowHalfRead addr req s
  | .lowHalfWrite addr value req => Sys2Proof.Machine.execLowHalfWrite addr value req s
  | .highHalfWrite addr value req => Sys2Proof.Machine.execHighHalfWrite addr value req s
  | .readClearCounter addr req event => Sys2Proof.Machine.execReadClearCounter addr req event s
  | .registerWrite addr value req events => Sys2Proof.Machine.execRegisterWrite addr value req events s
  | .bar0BadAccess addr size write => Sys2Proof.Machine.execBar0BadAccess addr size write s
  | .seatWindowAccess seat off write a => Sys2Proof.Machine.execSeatWindowAccess seat off write a s
  | .keelLinkFail x y => Sys2Proof.Machine.execKeelLinkFail x y s
  | .coxFault gap => Sys2Proof.Machine.execCoxFault gap s
  | .coxReturn gap passed => Sys2Proof.Machine.execCoxReturn gap passed s
  | .strokeInputEdge inp interval lead other => Sys2Proof.Machine.execStrokeInputEdge inp interval lead other s
  | .strokeInputTimeout inp => Sys2Proof.Machine.execStrokeInputTimeout inp s
  | .holdoverEntry elapsed => Sys2Proof.Machine.execHoldoverEntry elapsed s
  | .stkSwitchNow => Sys2Proof.Machine.execStkSwitchNow s
  | .strokeRevert => Sys2Proof.Machine.execStrokeRevert s
  | .strokeEdge e => Sys2Proof.Machine.execStrokeEdge e s
  | .strokeNoLock => Sys2Proof.Machine.execStrokeNoLock s
  | .stkSchedWrite index phase value => Sys2Proof.Machine.execStkSchedWrite index phase value s
  | .feFrameReceive seat sub len src svc => Sys2Proof.Machine.execFeFrameReceive seat sub len src svc s
  | .pfcFrame seat sub on off pause => Sys2Proof.Machine.execPfcFrame seat sub on off pause s
  | .subportLinkDown seat sub => Sys2Proof.Machine.execSubportLinkDown seat sub s
  | .rocePacketReceive seat qp len op ce sinceCnp => Sys2Proof.Machine.execRocePacketReceive seat qp len op ce sinceCnp s
  | .roceAckReceive seat qp a => Sys2Proof.Machine.execRoceAckReceive seat qp a s
  | .qpAckTimeout seat qp => Sys2Proof.Machine.execQpAckTimeout seat qp s
  | .cmReq seat src sub mtu pd => Sys2Proof.Machine.execCmReq seat src sub mtu pd s
  | .cmRep seat qp => Sys2Proof.Machine.execCmRep seat qp s
  | .cmRtu seat qp => Sys2Proof.Machine.execCmRtu seat qp s
  | .cmRej seat qp => Sys2Proof.Machine.execCmRej seat qp s
  | .cmDreq seat qp => Sys2Proof.Machine.execCmDreq seat qp s
  | .cmDrep seat qp => Sys2Proof.Machine.execCmDrep seat qp s
  | .rdmaWriteFirstPacket seat qp rkey addr len => Sys2Proof.Machine.execRdmaWriteFirstPacket seat qp rkey addr len s
  | .rdmaWriteLastPacket seat qp => Sys2Proof.Machine.execRdmaWriteLastPacket seat qp s
  | .rdmaReadRequest seat qp rkey addr len again => Sys2Proof.Machine.execRdmaReadRequest seat qp rkey addr len again s
  | .cnpReceive seat qp => Sys2Proof.Machine.execCnpReceive seat qp s
  | .nvmeIdentify seat qp sqe cns nsid => Sys2Proof.Machine.execNvmeIdentify seat qp sqe cns nsid s
  | .nvmeGetLogPage seat qp sqe page => Sys2Proof.Machine.execNvmeGetLogPage seat qp sqe page s
  | .nvmeGetFeatures seat qp sqe fid => Sys2Proof.Machine.execNvmeGetFeatures seat qp sqe fid s
  | .nvmeSetFeatures seat qp sqe fid value => Sys2Proof.Machine.execNvmeSetFeatures seat qp sqe fid value s
  | .nvmeKeepAlive seat qp sqe => Sys2Proof.Machine.execNvmeKeepAlive seat qp sqe s
  | .nvmeAsyncEventRequest seat qp sqe => Sys2Proof.Machine.execNvmeAsyncEventRequest seat qp sqe s
  | .nvmeAbort seat qp sqe sq target => Sys2Proof.Machine.execNvmeAbort seat qp sqe sq target s
  | .nvmePropertyGet seat qp sqe off => Sys2Proof.Machine.execNvmePropertyGet seat qp sqe off s
  | .nvmePropertySet seat qp sqe off value => Sys2Proof.Machine.execNvmePropertySet seat qp sqe off value s
  | .nvmeConnect seat qp sqe nqn host kato joins => Sys2Proof.Machine.execNvmeConnect seat qp sqe nqn host kato joins s
  | .nvmeDisconnect seat qp sqe => Sys2Proof.Machine.execNvmeDisconnect seat qp sqe s
  | .nvmeRead seat qp cid nsid lba count cap => Sys2Proof.Machine.execNvmeRead seat qp cid nsid lba count cap s
  | .nvmeWrite seat qp cid nsid lba count cap => Sys2Proof.Machine.execNvmeWrite seat qp cid nsid lba count cap s
  | .nvmeWriteZeroes seat qp cid nsid lba count cap => Sys2Proof.Machine.execNvmeWriteZeroes seat qp cid nsid lba count cap s
  | .nvmeFlush seat qp sqe nsid => Sys2Proof.Machine.execNvmeFlush seat qp sqe nsid s
  | .nvmeDatasetManagement seat qp cid nsid ranges deallocate cap => Sys2Proof.Machine.execNvmeDatasetManagement seat qp cid nsid ranges deallocate cap s
  | .nvmeVerify seat qp cid nsid lba count cap => Sys2Proof.Machine.execNvmeVerify seat qp cid nsid lba count cap s
  | .nvmeZoneAppend seat qp cid nsid lba count cap => Sys2Proof.Machine.execNvmeZoneAppend seat qp cid nsid lba count cap s
  | .nvmeZoneMgmtSend seat qp sqe nsid lba action => Sys2Proof.Machine.execNvmeZoneMgmtSend seat qp sqe nsid lba action s
  | .nvmeZoneMgmtReceive seat qp sqe nsid lba => Sys2Proof.Machine.execNvmeZoneMgmtReceive seat qp sqe nsid lba s
  | .nvmeIoMgmtSend seat qp sqe nsid mo value => Sys2Proof.Machine.execNvmeIoMgmtSend seat qp sqe nsid mo value s
  | .nvmeIoMgmtReceive seat qp sqe nsid mo => Sys2Proof.Machine.execNvmeIoMgmtReceive seat qp sqe nsid mo s
  | .nvmeUnsupportedOpcode seat qp cid opcode => Sys2Proof.Machine.execNvmeUnsupportedOpcode seat qp cid opcode s
  | .katoExpiry seat ctrl kaCount => Sys2Proof.Machine.execKatoExpiry seat ctrl kaCount s
  | .engineTake seat => Sys2Proof.Machine.execEngineTake seat s
  | .sourceBlockExpiry seat src => Sys2Proof.Machine.execSourceBlockExpiry seat src s
  | .nvqQpSelect seat value => Sys2Proof.Machine.execNvqQpSelect seat value s
  | .rangeLockGrant nsid granule => Sys2Proof.Machine.execRangeLockGrant nsid granule s
  | .rdmaReadResponse cmd idx data md lost err => Sys2Proof.Machine.execRdmaReadResponse cmd idx data md lost err s
  | .fpLookupDone cmd e => Sys2Proof.Machine.execFpLookupDone cmd e s
  | .compressJobEnd cmd idx verifyOk err => Sys2Proof.Machine.execCompressJobEnd cmd idx verifyOk err s
  | .zoneRecordsArrive cmd idx => Sys2Proof.Machine.execZoneRecordsArrive cmd idx s
  | .groupAccept seat num lat => Sys2Proof.Machine.execGroupAccept seat num lat s
  | .ftEarlySeal pool row => Sys2Proof.Machine.execFtEarlySeal pool row s
  | .idleEarlySeal pool row => Sys2Proof.Machine.execIdleEarlySeal pool row s
  | .pageFillDone seat dir => Sys2Proof.Machine.execPageFillDone seat dir s
  | .tcLineFill seat lane l => Sys2Proof.Machine.execTcLineFill seat lane l s
  | .ckptImagesProgrammed seat => Sys2Proof.Machine.execCkptImagesProgrammed seat s
  | .ckptRootProgrammed seat intact => Sys2Proof.Machine.execCkptRootProgrammed seat intact s
  | .ckptComplete => Sys2Proof.Machine.execCkptComplete s
  | .ckptLate => Sys2Proof.Machine.execCkptLate s
  | .dlogPageProgrammed seat => Sys2Proof.Machine.execDlogPageProgrammed seat s
  | .mapRecovery bad => Sys2Proof.Machine.execMapRecovery bad s
  | .gcVictimSelect pool => Sys2Proof.Machine.execGcVictimSelect pool s
  | .gcMoveCommit pool addr tagsOk => Sys2Proof.Machine.execGcMoveCommit pool addr tagsOk s
  | .rowErase pool row => Sys2Proof.Machine.execRowErase pool row s
  | .bandErase pool band => Sys2Proof.Machine.execBandErase pool band s
  | .releaseSweep owner lba => Sys2Proof.Machine.execReleaseSweep owner lba s
  | .refRecountSweep tenant handle => Sys2Proof.Machine.execRefRecountSweep tenant handle s
  | .dedupPass nsid lba handle => Sys2Proof.Machine.execDedupPass nsid lba handle s
  | .lostSweep nsid lba => Sys2Proof.Machine.execLostSweep nsid lba s
  | .mapLookupDone cmd idx w => Sys2Proof.Machine.execMapLookupDone cmd idx w s
  | .parityReconstructDone cmd idx ok => Sys2Proof.Machine.execParityReconstructDone cmd idx ok s
  | .extentOpened cmd idx lat header body plain => Sys2Proof.Machine.execExtentOpened cmd idx lat header body plain s
  | .parityVerify pool row opens pages => Sys2Proof.Machine.execParityVerify pool row opens pages s
  | .rebuildRow pool row checksOk progOk => Sys2Proof.Machine.execRebuildRow pool row checksOk progOk s
  | .reshapeRowConvert => Sys2Proof.Machine.execReshapeRowConvert s
  | .oarLinkTrained slot cmdBuf wdataBuf mgmtBuf => Sys2Proof.Machine.execOarLinkTrained slot cmdBuf wdataBuf mgmtBuf s
  | .oarTrainRetry slot => Sys2Proof.Machine.execOarTrainRetry slot s
  | .oarDataFrame slot seq ack chan len credits crcOk typeOk msg => Sys2Proof.Machine.execOarDataFrame slot seq ack chan len credits crcOk typeOk msg s
  | .oarAck slot a => Sys2Proof.Machine.execOarAck slot a s
  | .oarNak slot a => Sys2Proof.Machine.execOarNak slot a s
  | .oarIdle slot ack credits => Sys2Proof.Machine.execOarIdle slot ack credits s
  | .oarResume slot a => Sys2Proof.Machine.execOarResume slot a s
  | .oarReplayTimeout slot => Sys2Proof.Machine.execOarReplayTimeout slot s
  | .oarAckTimer slot => Sys2Proof.Machine.execOarAckTimer slot s
  | .oarCreditIdle slot => Sys2Proof.Machine.execOarCreditIdle slot s
  | .oarRetrainLimit slot => Sys2Proof.Machine.execOarRetrainLimit slot s
  | .oarReadRecord slot tag cw bits raw erased crcOk decodes => Sys2Proof.Machine.execOarReadRecord slot tag cw bits raw erased crcOk decodes s
  | .oarCompletion slot tag status micros => Sys2Proof.Machine.execOarCompletion slot tag status micros s
  | .oarCmdTimeout slot tag => Sys2Proof.Machine.execOarCmdTimeout slot tag s
  | .slotPresentStable slot => Sys2Proof.Machine.execSlotPresentStable slot s
  | .slotAbsentDetect slot => Sys2Proof.Machine.execSlotAbsentDetect slot s
  | .bldPwrOffWrite slot off => Sys2Proof.Machine.execBldPwrOffWrite slot off s
  | .bldIndicatorWrite slot attn pwr => Sys2Proof.Machine.execBldIndicatorWrite slot attn pwr s
  | .bladeAttestDone slot root sigOk measures g => Sys2Proof.Machine.execBladeAttestDone slot root sigOk measures g s
  | .bladeHeartbeatTimeout slot => Sys2Proof.Machine.execBladeHeartbeatTimeout slot s
  | .fenceAck slot epoch log => Sys2Proof.Machine.execFenceAck slot epoch log s
  | .ringFrameReceive cw crcOk dest f => Sys2Proof.Machine.execRingFrameReceive cw crcOk dest f s
  | .ringHealthReply slot h => Sys2Proof.Machine.execRingHealthReply slot h s
  | .ringPollTimeout slot => Sys2Proof.Machine.execRingPollTimeout slot s
  | .ringIndAck slot => Sys2Proof.Machine.execRingIndAck slot s
  | .ringButton b => Sys2Proof.Machine.execRingButton b s
  | .pairLaneFail seat => Sys2Proof.Machine.execPairLaneFail seat s
  | .pairLaneReturn seat => Sys2Proof.Machine.execPairLaneReturn seat s
  | .pairFrameSend seat tick => Sys2Proof.Machine.execPairFrameSend seat tick s
  | .pairHello seat h => Sys2Proof.Machine.execPairHello seat h s
  | .pairExchange seat ok x => Sys2Proof.Machine.execPairExchange seat ok x s
  | .pairHeartbeat seat auth b => Sys2Proof.Machine.execPairHeartbeat seat auth b s
  | .pairControl seat f c => Sys2Proof.Machine.execPairControl seat f c s
  | .pairJournal seat f recs => Sys2Proof.Machine.execPairJournal seat f recs s
  | .pairAck seat f => Sys2Proof.Machine.execPairAck seat f s
  | .pairNak seat f => Sys2Proof.Machine.execPairNak seat f s
  | .pairMapSync seat f page recs rows => Sys2Proof.Machine.execPairMapSync seat f page recs rows s
  | .pairBulk seat f recs objs => Sys2Proof.Machine.execPairBulk seat f recs objs s
  | .pairAckTimer seat => Sys2Proof.Machine.execPairAckTimer seat s
  | .pairRetxTimeout seat => Sys2Proof.Machine.execPairRetxTimeout seat s
  | .cWindowClose => Sys2Proof.Machine.execCWindowClose s
  | .witnessReply slot term side accepted => Sys2Proof.Machine.execWitnessReply slot term side accepted s
  | .claimTimeout => Sys2Proof.Machine.execClaimTimeout s
  | .claimRetry => Sys2Proof.Machine.execClaimRetry s
  | .pairFenceTimeout slot log => Sys2Proof.Machine.execPairFenceTimeout slot log s
  | .pairJoinWaitExpiry => Sys2Proof.Machine.execPairJoinWaitExpiry s
  | .pairJoinRetry => Sys2Proof.Machine.execPairJoinRetry s
  | .failbackFence => Sys2Proof.Machine.execFailbackFence s
  | .pairStatusGet slot => Sys2Proof.Machine.execPairStatusGet slot s
  | .pairFailbackHold slot hold => Sys2Proof.Machine.execPairFailbackHold slot hold s
  | .pairHandover slot => Sys2Proof.Machine.execPairHandover slot s
  | .pairGoSolo slot => Sys2Proof.Machine.execPairGoSolo slot s
  | .pairWindowsSet slot c sw guard stroke => Sys2Proof.Machine.execPairWindowsSet slot c sw guard stroke s
  | .pairLaneSet slot lane enable => Sys2Proof.Machine.execPairLaneSet slot lane enable s
  | .rateCompute seat start cycles => Sys2Proof.Machine.execRateCompute seat start cycles s
  | .rateSetpointSet slot seat loop sp slope => Sys2Proof.Machine.execRateSetpointSet slot seat loop sp slope s
  | .rateOpenSet slot seat loop rate => Sys2Proof.Machine.execRateOpenSet slot seat loop rate s
  | .rateLoopsStage slot seat entries => Sys2Proof.Machine.execRateLoopsStage slot seat entries s
  | .rateTableGet slot seat => Sys2Proof.Machine.execRateTableGet slot seat s
  | .rateLoopSelect seat value => Sys2Proof.Machine.execRateLoopSelect seat value s
  | .snapCreate slot cg t => Sys2Proof.Machine.execSnapCreate slot cg t s
  | .snapDelete slot snap => Sys2Proof.Machine.execSnapDelete slot snap s
  | .snapList slot cg => Sys2Proof.Machine.execSnapList slot cg s
  | .snapClone slot snap member nsid => Sys2Proof.Machine.execSnapClone slot snap member nsid s
  | .snapInfo slot snap => Sys2Proof.Machine.execSnapInfo slot snap s
  | .snapSpace slot snap => Sys2Proof.Machine.execSnapSpace slot snap s
  | .cgCreate slot cg tenant members => Sys2Proof.Machine.execCgCreate slot cg tenant members s
  | .cgMemberSet slot cg nsid add => Sys2Proof.Machine.execCgMemberSet slot cg nsid add s
  | .cgDelete slot cg => Sys2Proof.Machine.execCgDelete slot cg s
  | .replLinkCreate slot link p => Sys2Proof.Machine.execReplLinkCreate slot link p s
  | .replEpochNow slot link => Sys2Proof.Machine.execReplEpochNow slot link s
  | .replPause slot link pause => Sys2Proof.Machine.execReplPause slot link pause s
  | .replStatusGet slot link => Sys2Proof.Machine.execReplStatusGet slot link s
  | .replPromote slot link => Sys2Proof.Machine.execReplPromote slot link s
  | .replLinkDelete slot link => Sys2Proof.Machine.execReplLinkDelete slot link s
  | .replIntervalEdge link => Sys2Proof.Machine.execReplIntervalEdge link s
  | .replDeltaCompute link part => Sys2Proof.Machine.execReplDeltaCompute link part s
  | .replHello link part h => Sys2Proof.Machine.execReplHello link part h s
  | .replKex link part ok => Sys2Proof.Machine.execReplKex link part ok s
  | .replOpen link part epoch t parts batches => Sys2Proof.Machine.execReplOpen link part epoch t parts batches s
  | .replOffer link part epoch batch ents => Sys2Proof.Machine.execReplOffer link part epoch batch ents s
  | .replWant link part epoch batch want => Sys2Proof.Machine.execReplWant link part epoch batch want s
  | .replReady link part epoch batch len => Sys2Proof.Machine.execReplReady link part epoch batch len s
  | .replBatchEnd link part epoch batch recs => Sys2Proof.Machine.execReplBatchEnd link part epoch batch recs s
  | .replBatchAck link part epoch batch => Sys2Proof.Machine.execReplBatchAck link part epoch batch s
  | .replBatchNak link part epoch batch => Sys2Proof.Machine.execReplBatchNak link part epoch batch s
  | .replDone link part epoch => Sys2Proof.Machine.execReplDone link part epoch s
  | .replCommit link part epoch => Sys2Proof.Machine.execReplCommit link part epoch s
  | .replAbort link part reason whole => Sys2Proof.Machine.execReplAbort link part reason whole s
  | .replLinkTimeout link part => Sys2Proof.Machine.execReplLinkTimeout link part s
  | .replReconnect link part => Sys2Proof.Machine.execReplReconnect link part s
  | .snpLinkSelect value => Sys2Proof.Machine.execSnpLinkSelect value s
  | .keySlotFill seat kind domain gen => Sys2Proof.Machine.execKeySlotFill seat kind domain gen s
  | .nonceReserveDone seat domain gen => Sys2Proof.Machine.execNonceReserveDone seat domain gen s
  | .keyEraseApply domain => Sys2Proof.Machine.execKeyEraseApply domain s
  | .digResultRead seat word => Sys2Proof.Machine.execDigResultRead seat word s
  | .digCtxSelect seat value => Sys2Proof.Machine.execDigCtxSelect seat value s
  | .keyDomainSelect value => Sys2Proof.Machine.execKeyDomainSelect value s
  | .spdmGetVersion mctp => Sys2Proof.Machine.execSpdmGetVersion mctp s
  | .spdmGetCapabilities mctp => Sys2Proof.Machine.execSpdmGetCapabilities mctp s
  | .spdmNegotiateAlgorithms mctp supported => Sys2Proof.Machine.execSpdmNegotiateAlgorithms mctp supported s
  | .spdmGetDigests mctp => Sys2Proof.Machine.execSpdmGetDigests mctp s
  | .spdmGetCertificate mctp certSlot => Sys2Proof.Machine.execSpdmGetCertificate mctp certSlot s
  | .spdmChallenge mctp certSlot nonce => Sys2Proof.Machine.execSpdmChallenge mctp certSlot nonce s
  | .spdmGetMeasurements mctp index nonce => Sys2Proof.Machine.execSpdmGetMeasurements mctp index nonce s
  | .spdmKeyExchange mctp => Sys2Proof.Machine.execSpdmKeyExchange mctp s
  | .spdmFinish mctp session ok => Sys2Proof.Machine.execSpdmFinish mctp session ok s
  | .spdmHeartbeat mctp session => Sys2Proof.Machine.execSpdmHeartbeat mctp session s
  | .spdmEndSession mctp session => Sys2Proof.Machine.execSpdmEndSession mctp session s
  | .spdmSetCertificate mctp certSlot chain endsInAlias => Sys2Proof.Machine.execSpdmSetCertificate mctp certSlot chain endsInAlias s
  | .spdmVendorDefinedRequest mctp ours => Sys2Proof.Machine.execSpdmVendorDefinedRequest mctp ours s
  | .keyOwnerEnrol slot hash sigOk => Sys2Proof.Machine.execKeyOwnerEnrol slot hash sigOk s
  | .keyDomainCreate slot tenant ns share => Sys2Proof.Machine.execKeyDomainCreate slot tenant ns share s
  | .keyDomainErase slot domain => Sys2Proof.Machine.execKeyDomainErase slot domain s
  | .keyRoll slot domain => Sys2Proof.Machine.execKeyRoll slot domain s
  | .keyRekeySweep slot domain first last => Sys2Proof.Machine.execKeyRekeySweep slot domain first last s
  | .keyStatusGet slot domain => Sys2Proof.Machine.execKeyStatusGet slot domain s
  | .keySvnCommit slot vendorOk ownerOk => Sys2Proof.Machine.execKeySvnCommit slot vendorOk ownerOk s
  | .keyFkShare slot domain link targetEmpty => Sys2Proof.Machine.execKeyFkShare slot domain link targetEmpty s
  | .keyPartnerEnrol slot hashes ownerOk => Sys2Proof.Machine.execKeyPartnerEnrol slot hashes ownerOk s
  | .keyBladeRootEnrol slot roots allowed ownerOk => Sys2Proof.Machine.execKeyBladeRootEnrol slot roots allowed ownerOk s
  | .mbxDoorbell slot r => Sys2Proof.Machine.execMbxDoorbell slot r s
  | .mbxAbort slot => Sys2Proof.Machine.execMbxAbort slot s
  | .mbxCommandStart lane => Sys2Proof.Machine.execMbxCommandStart lane s
  | .mbxCommandTimeout slot => Sys2Proof.Machine.execMbxCommandTimeout slot s
  | .sysInfo slot => Sys2Proof.Machine.execSysInfo slot s
  | .sysEasyAll slot obj hold => Sys2Proof.Machine.execSysEasyAll slot obj hold s
  | .easyAllQuiesced obj => Sys2Proof.Machine.execEasyAllQuiesced obj s
  | .sysStage slot obj pairs => Sys2Proof.Machine.execSysStage slot obj pairs s
  | .sysRowAll slot obj invalid => Sys2Proof.Machine.execSysRowAll slot obj invalid s
  | .sysEasyAbort slot obj => Sys2Proof.Machine.execSysEasyAbort slot obj s
  | .sysEasyList slot => Sys2Proof.Machine.execSysEasyList slot s
  | .easyHoldLimit cmd => Sys2Proof.Machine.execEasyHoldLimit cmd s
  | .easyAllExpiry obj => Sys2Proof.Machine.execEasyAllExpiry obj s
  | .sysParamGet slot obj id => Sys2Proof.Machine.execSysParamGet slot obj id s
  | .sysParamSet slot obj pairs => Sys2Proof.Machine.execSysParamSet slot obj pairs s
  | .sysParamDescribe slot id => Sys2Proof.Machine.execSysParamDescribe slot id s
  | .sysHoldupDeclare slot ms redundant bandsOk => Sys2Proof.Machine.execSysHoldupDeclare slot ms redundant bandsOk s
  | .sysServiceEnter slot mode => Sys2Proof.Machine.execSysServiceEnter slot mode s
  | .sysServiceExit slot => Sys2Proof.Machine.execSysServiceExit slot s
  | .sysCoxDrill slot gap faults => Sys2Proof.Machine.execSysCoxDrill slot gap faults s
  | .sysRecoverScan slot => Sys2Proof.Machine.execSysRecoverScan slot s
  | .sysRecoverUseGen slot gen pagesOk => Sys2Proof.Machine.execSysRecoverUseGen slot gen pagesOk s
  | .sysMapBudget slot bytes => Sys2Proof.Machine.execSysMapBudget slot bytes s
  | .nsCreate slot nsid p => Sys2Proof.Machine.execNsCreate slot nsid p s
  | .nsDelete slot nsid => Sys2Proof.Machine.execNsDelete slot nsid s
  | .nsSecureDiscard slot nsid => Sys2Proof.Machine.execNsSecureDiscard slot nsid s
  | .nsInfo slot nsid => Sys2Proof.Machine.execNsInfo slot nsid s
  | .subsysCreate slot sub nqn tenant => Sys2Proof.Machine.execSubsysCreate slot sub nqn tenant s
  | .subsysHostsSet slot sub hosts => Sys2Proof.Machine.execSubsysHostsSet slot sub hosts s
  | .anaGroupCreate slot ana side => Sys2Proof.Machine.execAnaGroupCreate slot ana side s
  | .mrRegister slot index tag pd base len remRead remWrite => Sys2Proof.Machine.execMrRegister slot index tag pd base len remRead remWrite s
  | .mrInvalidate slot index => Sys2Proof.Machine.execMrInvalidate slot index s
  | .tenantCreate slot tenant sprint => Sys2Proof.Machine.execTenantCreate slot tenant sprint s
  | .tenantDelete slot tenant => Sys2Proof.Machine.execTenantDelete slot tenant s
  | .tenantAddrSet slot tenant ranges => Sys2Proof.Machine.execTenantAddrSet slot tenant ranges s
  | .tenantSecureDiscard slot tenant => Sys2Proof.Machine.execTenantSecureDiscard slot tenant s
  | .dictLoad slot dict tenant size id content system magicOk => Sys2Proof.Machine.execDictLoad slot dict tenant size id content system magicOk s
  | .dictRetire slot dict => Sys2Proof.Machine.execDictRetire slot dict s
  | .dictSample slot nsid count => Sys2Proof.Machine.execDictSample slot nsid count s
  | .groupCreate slot pool side k m dies shares ageGrouped => Sys2Proof.Machine.execGroupCreate slot pool side k m dies shares ageGrouped s
  | .groupDelete slot pool => Sys2Proof.Machine.execGroupDelete slot pool s
  | .groupSpareSet slot pool slots => Sys2Proof.Machine.execGroupSpareSet slot pool slots s
  | .groupShareFail slot pool member => Sys2Proof.Machine.execGroupShareFail slot pool member s
  | .groupRebuildTarget slot pool member target => Sys2Proof.Machine.execGroupRebuildTarget slot pool member target s
  | .groupReshape slot pool k m shares => Sys2Proof.Machine.execGroupReshape slot pool k m shares s
  | .bladeInfo slot blade => Sys2Proof.Machine.execBladeInfo slot blade s
  | .bladeAttest slot blade => Sys2Proof.Machine.execBladeAttest slot blade s
  | .logCopy slot after => Sys2Proof.Machine.execLogCopy slot after s
  | .faultGet slot source inst => Sys2Proof.Machine.execFaultGet slot source inst s
  | .pfrArm slot seat trig a => Sys2Proof.Machine.execPfrArm slot seat trig a s
  | .pwrTimersSet slot unit paddle easy => Sys2Proof.Machine.execPwrTimersSet slot unit paddle easy s
  | .pwrStateGet slot => Sys2Proof.Machine.execPwrStateGet slot s
  | .mbxInvalidOpcode slot => Sys2Proof.Machine.execMbxInvalidOpcode slot s
  | .pcieLinkUp speed width flit => Sys2Proof.Machine.execPcieLinkUp speed width flit s
  | .perstAssert => Sys2Proof.Machine.execPerstAssert s
  | .perstDeassert b => Sys2Proof.Machine.execPerstDeassert b s
  | .pcieHotReset => Sys2Proof.Machine.execPcieHotReset s
  | .pcieLinkDown => Sys2Proof.Machine.execPcieLinkDown s
  | .faceRestoreDone => Sys2Proof.Machine.execFaceRestoreDone s
  | .pcieFlr => Sys2Proof.Machine.execPcieFlr s
  | .flrWaitDone micros timedOut => Sys2Proof.Machine.execFlrWaitDone micros timedOut s
  | .bmeClear => Sys2Proof.Machine.execBmeClear s
  | .bmeSet => Sys2Proof.Machine.execBmeSet s
  | .pmD3hot => Sys2Proof.Machine.execPmD3hot s
  | .pmD0 => Sys2Proof.Machine.execPmD0 s
  | .pciePoisonedWrite bar off => Sys2Proof.Machine.execPciePoisonedWrite bar off s
  | .pcieCompletion tag r => Sys2Proof.Machine.execPcieCompletion tag r s
  | .pcieCompletionTimeout tag => Sys2Proof.Machine.execPcieCompletionTimeout tag s
  | .pcieL1Entry sub => Sys2Proof.Machine.execPcieL1Entry sub s
  | .pcieL1Exit => Sys2Proof.Machine.execPcieL1Exit s
  | .msixUnmask vector => Sys2Proof.Machine.execMsixUnmask vector s
  | .pciResetScopeWrite value => Sys2Proof.Machine.execPciResetScopeWrite value s
  | .doeRequest protocol bytes => Sys2Proof.Machine.execDoeRequest protocol bytes s
  | .doeAbort => Sys2Proof.Machine.execDoeAbort s
  | .fullReset cause => Sys2Proof.Machine.execFullReset cause s
  | .bootWindowWrite off len tagsOk => Sys2Proof.Machine.execBootWindowWrite off len tagsOk s
  | .bootHeaderChecked h c => Sys2Proof.Machine.execBootHeaderChecked h c s
  | .bootImageVerified equal sramOk => Sys2Proof.Machine.execBootImageVerified equal sramOk s
  | .bootRestart => Sys2Proof.Machine.execBootRestart s
  | .bootDownloadTimeout => Sys2Proof.Machine.execBootDownloadTimeout s
  | .bringupDramTrained dimms => Sys2Proof.Machine.execBringupDramTrained dimms s
  | .bringupDiscoveryDone => Sys2Proof.Machine.execBringupDiscoveryDone s
  | .sideRecovery r => Sys2Proof.Machine.execSideRecovery r s
  | .frontEndOpen => Sys2Proof.Machine.execFrontEndOpen s
  | .unitPaddleEntry seat unit work abort => Sys2Proof.Machine.execUnitPaddleEntry seat unit work abort s
  | .unitEasyEntry seat unit work abort => Sys2Proof.Machine.execUnitEasyEntry seat unit work abort s
  | .unitWake seat unit source cycles => Sys2Proof.Machine.execUnitWake seat unit source cycles s
  | .thermalTrip seat => Sys2Proof.Machine.execThermalTrip seat s
  | .pwrWarnDetect ticks => Sys2Proof.Machine.execPwrWarnDetect ticks s
  | .pwrWarnGlitch ticks => Sys2Proof.Machine.execPwrWarnGlitch ticks s
  | .hauloutImageProgrammed seat side => Sys2Proof.Machine.execHauloutImageProgrammed seat side s
  | .hauloutMarkProgrammed seat side micros => Sys2Proof.Machine.execHauloutMarkProgrammed seat side micros s
  | .dramCaRetry seat channel retries ok => Sys2Proof.Machine.execDramCaRetry seat channel retries ok s
  | .dramRemapCopyDone seat channel => Sys2Proof.Machine.execDramRemapCopyDone seat channel s
  | .pfrClear seat => Sys2Proof.Machine.execPfrClear seat s
  | .pfrDisarm seat => Sys2Proof.Machine.execPfrDisarm seat s
  | .pfrSoftTrigger seat mask => Sys2Proof.Machine.execPfrSoftTrigger seat mask s
  | .pfrLinkedFire seat fromSeat fromTrig => Sys2Proof.Machine.execPfrLinkedFire seat fromSeat fromTrig s
  | .pfrSelect seat record => Sys2Proof.Machine.execPfrSelect seat record s
  | .ancReadAddr seat value corrected bad => Sys2Proof.Machine.execAncReadAddr seat value corrected bad s
  | .i3cEntdaa address => Sys2Proof.Machine.execI3cEntdaa address s
  | .i3cSetmrl bytes => Sys2Proof.Machine.execI3cSetmrl bytes s
  | .i3cSetmwl bytes => Sys2Proof.Machine.execI3cSetmwl bytes s
  | .mctpSetEndpointId m eid => Sys2Proof.Machine.execMctpSetEndpointId m eid s
  | .mctpGetEndpointId m => Sys2Proof.Machine.execMctpGetEndpointId m s
  | .mctpGetEndpointUuid m => Sys2Proof.Machine.execMctpGetEndpointUuid m s
  | .mctpGetVersionSupport m => Sys2Proof.Machine.execMctpGetVersionSupport m s
  | .mctpGetMessageTypeSupport m => Sys2Proof.Machine.execMctpGetMessageTypeSupport m s
  | .pldmGetTid m => Sys2Proof.Machine.execPldmGetTid m s
  | .pldmSetTid m tid => Sys2Proof.Machine.execPldmSetTid m tid s
  | .pldmGetPldmVersion m type => Sys2Proof.Machine.execPldmGetPldmVersion m type s
  | .pldmGetPldmTypes m => Sys2Proof.Machine.execPldmGetPldmTypes m s
  | .pldmGetPldmCommands m type => Sys2Proof.Machine.execPldmGetPldmCommands m type s
  | .pldmGetPdrRepositoryInfo m => Sys2Proof.Machine.execPldmGetPdrRepositoryInfo m s
  | .pldmGetPdr m handle => Sys2Proof.Machine.execPldmGetPdr m handle s
  | .pldmGetSensorReading m sensor => Sys2Proof.Machine.execPldmGetSensorReading m sensor s
  | .pldmGetStateSensorReadings m sensor => Sys2Proof.Machine.execPldmGetStateSensorReadings m sensor s
  | .pldmGetSensorThresholds m sensor => Sys2Proof.Machine.execPldmGetSensorThresholds m sensor s
  | .pldmSetEventReceiver m receiver => Sys2Proof.Machine.execPldmSetEventReceiver m receiver s
  | .pldmEventRetry answered => Sys2Proof.Machine.execPldmEventRetry answered s
  | .updPiece m p => Sys2Proof.Machine.execUpdPiece m p s
  | .updQuery m imageId => Sys2Proof.Machine.execUpdQuery m imageId s
  | .updHeaderChecked u c spaceOk => Sys2Proof.Machine.execUpdHeaderChecked u c spaceOk s
  | .updVerifyRun v => Sys2Proof.Machine.execUpdVerifyRun v s
  | .updStatusGet slot => Sys2Proof.Machine.execUpdStatusGet slot s
  | .updActivate slot t soloOk peerConfirms => Sys2Proof.Machine.execUpdActivate slot t soloOk peerConfirms s
  | .updCancel slot => Sys2Proof.Machine.execUpdCancel slot s
  | .updDiscard slot => Sys2Proof.Machine.execUpdDiscard slot s
  | .updExport slot => Sys2Proof.Machine.execUpdExport slot s
  | .updBitmapGet slot => Sys2Proof.Machine.execUpdBitmapGet slot s
  | .updVerify slot => Sys2Proof.Machine.execUpdVerify slot s
  | .bridgeUpdate slot measurementListed => Sys2Proof.Machine.execBridgeUpdate slot measurementListed s
  | .bridgeRestartTimeout slot => Sys2Proof.Machine.execBridgeRestartTimeout slot s
  | .supplyLow rail => Sys2Proof.Machine.execSupplyLow rail s
  | .brownout rail => Sys2Proof.Machine.execBrownout rail s
  | .keelCrcRetransmission seat peer count => Sys2Proof.Machine.execKeelCrcRetransmission seat peer count s
  | .oarLinkDown slot => Sys2Proof.Machine.execOarLinkDown slot s
  | .ringIndAckTimeout slot => Sys2Proof.Machine.execRingIndAckTimeout slot s
  | .pairLaneTrained seat => Sys2Proof.Machine.execPairLaneTrained seat s
  | .pairLaneTrainingLost seat => Sys2Proof.Machine.execPairLaneTrainingLost seat s
  | .supplyRestored rail b => Sys2Proof.Machine.execSupplyRestored rail b s
  | .flrTagRelease tag => Sys2Proof.Machine.execFlrTagRelease tag s
  | .clusterSelfTestDone passed => Sys2Proof.Machine.execClusterSelfTestDone passed s

end Sys2Proof.Machine
end

