-- ==== Sys2Proof/Safety.lean ====
section
/-!
DEFINITION. Safety.lean: what a safe run is: every step answers a next state. No command of this block faults, and none is refused. Beside
it stand the terms in which statements speak of a step: the parts of the state, and the registers that a command leaves alone.
-/

namespace Sys2Proof

open Sys2Proof.Machine

/-- A step answers a next state. -/
def Advances (s : State) : Prop := ∃ t, step s = .next t

/-- `k` steps from a state all answer a next state. -/
def SafeFor : Nat → State → Prop
  | 0, _ => True
  | k + 1, s => ∃ t, step s = .next t ∧ SafeFor k t

/-- The parts of the state beside the queue, as the frames of the commands name them. -/
inductive Area where
  /-- The register file. -/
  | regs
  /-- Half-register accesses and writes that wait for the edge. -/
  | bus
  /-- Straps, fuses and supply. -/
  | hw
  /-- The stroke unit. -/
  | stk
  /-- The keel. -/
  | keel
  /-- The cox role. -/
  | cox
  /-- Faults, logbook, recorder, sensors and the management bus. -/
  | health
  /-- The mailbox. -/
  | mbx
  /-- The PCIe function. -/
  | pci
  /-- Boot and bring-up. -/
  | boot
  /-- Power units. -/
  | pwr
  /-- DRAM channels. -/
  | dram
  /-- Updates. -/
  | upd
  /-- The front end. -/
  | fe
  /-- The NVMe target. -/
  | nv
  /-- Ingest. -/
  | ing
  /-- The map. -/
  | map
  /-- Reads. -/
  | rds
  /-- Stripes and parity groups. -/
  | par
  /-- Oar ports, slots and the ring. -/
  | bld
  /-- The pair. -/
  | pair
  /-- The Rating engines. -/
  | rate
  /-- Snapshots and links. -/
  | snp
  /-- Keys. -/
  | keys
  /-- What has been sent. -/
  | out
  /-- The open values taken. -/
  | freeCount
  deriving DecidableEq, Repr

/-- Two states agree in a part. -/
def Area.same (r t : State) : Area → Prop
  | .regs => t.regs = r.regs
  | .bus => t.bus = r.bus
  | .hw => t.hw = r.hw
  | .stk => t.stk = r.stk
  | .keel => t.keel = r.keel
  | .cox => t.cox = r.cox
  | .health => t.health = r.health
  | .mbx => t.mbx = r.mbx
  | .pci => t.pci = r.pci
  | .boot => t.boot = r.boot
  | .pwr => t.pwr = r.pwr
  | .dram => t.dram = r.dram
  | .upd => t.upd = r.upd
  | .fe => t.fe = r.fe
  | .nv => t.nv = r.nv
  | .ing => t.ing = r.ing
  | .map => t.map = r.map
  | .rds => t.rds = r.rds
  | .par => t.par = r.par
  | .bld => t.bld = r.bld
  | .pair => t.pair = r.pair
  | .rate => t.rate = r.rate
  | .snp => t.snp = r.snp
  | .keys => t.keys = r.keys
  | .out => t.out = r.out
  | .freeCount => t.freeCount = r.freeCount

/-- Nothing but the named parts differs between two states. -/
def Frame (l : List Area) (r t : State) : Prop := ∀ p, p ∉ l → p.same r t

/-- The registers in which the block records what happens to it: the blocks LOG_, FLT_ and PFR_, and of the PCIe function the count of messages
held and the link's power state, which a message wakes (R439, R447, R521 to R538). A command that raises an event, counts a fault or writes a logbook entry may change them. -/
def isRecord (key : Nat) : Bool :=
  let a := key / 8
  key == Reg.PCI_MSG_HELD_COUNT.key || key == Reg.PCI_LINK_STATE_PM.key || (decide (a < 0x400000) && (a / 0x10000 == 6 || a / 0x10000 == 11))
    || (decide (0x400000 ≤ a) && a % 0x400000 / 0x10000 == 31)

/-- Every register field but those named reads the same in two states. -/
def RegsOnly (l : List Fld) (r t : State) : Prop := ∀ f : Fld, (∀ g ∈ l, f.key ≠ g.key) → rd t f = rd r f

/-- Every register field but those named, and but the records, reads the same in two states. -/
def RegsKept (l : List Fld) (r t : State) : Prop :=
  ∀ f : Fld, (∀ g ∈ l, f.key ≠ g.key) → isRecord f.key = false → rd t f = rd r f

/-- The canonical form of the state: the register file and the floor slots list each key once, in order, and there are sixteen floor slots
(R51). -/
def Canonical (s : State) : Prop :=
  FSorted s.regs ∧ FSorted s.stk.floors ∧ ∀ e ∈ s.stk.floors, e.1 < 16

/-- The head runs: it is not halted (R507), and no haul-out has been detected (R494). -/
def Runs (s : State) : Prop := s.boot.halted = false ∧ rd s Reg.HLD_STATUS_PHASE = 0

/-- The mailbox command of a slot is RUNNING with this opcode, has made no change yet, and was not overtaken by a reset of the control face
(R408, R417). -/
def CmdReady (slot opc : Nat) (s : State) : Prop := cmdRuns s slot opc = true ∧ (slotAt s slot).orphan = false

/-- The mailbox command of a slot has completed (R413): its slot is DONE with this status and detail, the TAG of the request, the length of the
result in bytes and the stroke of the completion, and the result words have gone out. -/
def Answers (slot : Nat) (st : Sts) (detail : Nat) (words : List Nat) (s t : State) : Prop :=
  slotAt t slot = { slotAt s slot with
    st := .done, status := stsCode st, rtag := (slotAt s slot).req.tag, resultLen := 4 * words.length, detail := detail,
    doneStroke := s.stk.ext, committed := false } ∧
  (words ≠ [] → ⟨.mbxResult, slot :: words⟩ ∈ t.out)

/-- A queue pair takes packets: its sub-port has link, and its source is not blocked (R65, R96). -/
def Hears (seat qp : Nat) (s : State) : Prop :=
  (qpOf s seat qp).all (fun x => subUp s seat x.subport && !isBlocked s seat x.src) = true

/-- A command identifier that is free on a ready admin queue of a controller (R81, R94). -/
def AdminAt (seat qp cid c : Nat) (y : Ctrl) (s : State) : Prop :=
  Runs s ∧ Hears seat qp s ∧ (qpOf s seat qp).map (fun x => (x.st, x.admin)) = some (.ready, true) ∧ ctrlOfQp s seat qp = some (c, y) ∧ feOpen s seat = true ∧
    y.aers.contains cid = false

/-- A ready I/O queue with room, a command identifier that is free on it, and a namespace whose commands are not held (R89, R94, R425). -/
def IoAt (seat qp cid nsid : Nat) (s : State) : Prop :=
  Runs s ∧ Hears seat qp s ∧ (qpLive s seat qp).map (fun x => (x.st, x.admin, x.ctrl.isSome)) = some (.ready, false, true) ∧
    (fkeep s.nv.cmds fun _ c => c.seat == seat && c.qp == qp).length < 1024 ∧
    (∀ e ∈ s.nv.cmds, e.2.seat = seat → e.2.qp = qp → e.2.cid ≠ cid) ∧
    (∀ c ∈ s.nv.pushq, c.seat = seat → c.qp = qp → c.cid ≠ cid) ∧
    raw s (Reg.FE_PORT_STATUS_HELD seat) = 0 ∧ (nsOf s nsid).map (fun n => n.cur.adm) ≠ some .held

/-- A command has arrived and waits in its queue for the engine (R88, R89); no register changes and nothing is sent. -/
def Arrived (seat qp cid nsid lba count : Nat) (op : CmdOp) (cap : Capsule) (s t : State) : Prop :=
  cmdOf t s.nv.nextCmd = some {
    seat := seat, qp := qp, cid := cid, op := op, nsid := nsid, lba := lba, count := count, cap := cap, stage := .waiting
    arrived := s.stk.ext, epoch := 0, ownEpoch := 0, p := noParams, left := 0, toPull := 0, failed := none, slots := 0, dirty := 0
    takenAt := 0, groups := [], assigned := none, part := 0 } ∧
  (∀ k, k ≠ s.nv.nextCmd → cmdOf t k = cmdOf s k) ∧ t.nv.nextCmd = s.nv.nextCmd + 1 ∧ Frame [.nv, .fe] s t

/-- An SPDM request can arrive on a transport: over MCTP the device has an address and answers there; over DOE an object is in progress (R399,
R449, R531). -/
def SpdmReady (mctp : Bool) (s : State) : Prop :=
  (mctp = true → isSet s Reg.MGT_STATUS_ADDRESSED = true ∧ i3cAnswers s = true) ∧ (mctp = false → s.pci.doe = true)

/-- An SPDM answer has gone out on the transport of its request (R399, R449, R531). -/
def SpdmAnswers (mctp : Bool) (fields : List Nat) (s t : State) : Prop :=
  t.out = (if mctp then ⟨.mgmt, 5 :: fields⟩ :: ⟨.ibi, [0xAE]⟩ :: s.out else ⟨.doe, 1 :: fields⟩ :: s.out) ∧ (mctp = false → t.pci.doe = false)

/-- An MCTP message is taken (R532, R535): the device has an address and answers there, the message is within the limits, and it comes inside a
secured session where one is required, unless it is an MCTP control message (`free`). -/
def MessageTaken (m : MctpIn) (free : Bool) (s : State) : Prop :=
  isSet s Reg.MGT_STATUS_ADDRESSED = true ∧ i3cAnswers s = true ∧ m.len ≤ 20480 ∧ m.held < 8 ∧
    (isSet s Reg.MGT_CTRL_REQUIRE_SECURE = true → m.secure = true ∨ free = true)

/-- A message has been counted and answered with these fields, behind one in-band interrupt (R531 to R533); of the registers only the three
counts and those named have changed. -/
def MessageAnswered (fields : List Nat) (l : List Fld) (s t : State) : Prop :=
  t.out = ⟨.mgmt, fields⟩ :: ⟨.ibi, [0xAE]⟩ :: s.out ∧
    RegsOnly (Reg.MGT_RX_MSGS_COUNT :: Reg.MGT_IBI_COUNT :: Reg.MGT_TX_MSGS_COUNT :: l) s t ∧
    rd t Reg.MGT_RX_MSGS_COUNT = min (rd s Reg.MGT_RX_MSGS_COUNT + 1) (2 ^ Reg.MGT_RX_MSGS_COUNT.width - 1)

/-- Every entry of a table but those named is the same in two tables. -/
def Others {V : Type} (l : List Nat) (m n : FMap V) : Prop := ∀ k, k ∉ l → fget n k = fget m k

/-- Nothing waits on a queue pair to be sent, its sub-port has link, its priority is not paused, and its window lets these bytes go (R63, R65,
R77). -/
def SendsNow (seat qp bytes : Nat) (s : State) : Prop :=
  ∀ x, qpOf s seat qp = some x →
    x.outq = [] ∧ portUp s seat x.subport = true ∧ txPaused s seat qp x = false ∧ bytes ≤ x.window - (x.unacked + x.requested)

/-- Messages have gone out on a queue pair, these bytes in all: they count as sent and not acknowledged, and its sub-port counts their frames
(R77, R98). -/
def SentOn (seat qp bytes : Nat) (msgs : List Out) (s t : State) : Prop :=
  t.out = msgs ++ s.out ∧ t.fe = { s.fe with qps := t.fe.qps } ∧ Others [pairKey seat qp] s.fe.qps t.fe.qps ∧
    ∀ x, qpOf s seat qp = some x → qpOf t seat qp = some { x with unacked := x.unacked + bytes } ∧ RegsOnly [Reg.FE_TX_BYTES seat x.subport] s t

/-- A command completes: exec answers a next state, of which `P` holds. -/
def Completes (c : Instr) (s : State) (P : State → Prop) : Prop := ∃ t, exec c s = .next t ∧ P t

end Sys2Proof
end

