-- ==== Sys2Proof/Frames.lean ====
section
/-!
DEFINITION. Frames.lean: the areas of the state that each command may change, by command. What a command leaves alone is every other area.
-/

namespace Sys2Proof

/-- The areas of the state that a command may change. -/
def areasOf : Instr → List Area
  | .lowHalfRead .. | .readClearCounter .. => [.regs, .bus, .health, .pci, .rate, .snp, .keys, .out, .freeCount]
  | .lowHalfWrite .. | .highHalfWrite .. | .registerWrite .. =>
    [.regs, .bus, .stk, .health, .mbx, .pci, .boot, .ing, .map, .par, .rate, .keys, .out, .freeCount]
  | .bar0BadAccess .. | .ancReadAddr .. => [.regs, .health, .pci, .out, .freeCount]
  | .seatWindowAccess .. => [.regs, .bus, .stk, .keel, .health, .mbx, .pci, .boot, .ing, .map, .par, .rate, .snp, .keys, .out, .freeCount]
  | .keelLinkFail .. => [.regs, .keel, .boot]
  | .coxFault .. => [.regs, .cox, .health, .pci, .boot, .upd, .pair, .out]
  | .coxReturn .. | .sysCoxDrill .. => [.regs, .cox, .health, .mbx, .pci, .out]
  | .strokeInputEdge .. | .strokeInputTimeout .. | .strokeNoLock => [.regs, .stk, .health, .pci, .out]
  | .holdoverEntry .. | .ringButton .. | .pairLaneReturn .. | .pcieLinkUp .. | .pwrWarnGlitch .. | .keelCrcRetransmission .. =>
    [.regs, .health, .pci, .out]
  | .stkSwitchNow | .strokeRevert => [.stk]
  | .strokeEdge .. =>
    [.regs, .bus, .stk, .keel, .cox, .health, .mbx, .pci, .boot, .pwr, .dram, .upd, .fe, .nv, .ing, .map, .rds, .par, .bld, .pair, .rate, .snp, .keys, .out, .freeCount]
  | .stkSchedWrite .. => [.regs, .bus, .health, .pci, .out]
  | .feFrameReceive .. | .subportLinkDown .. | .nvqQpSelect .. | .rateLoopSelect .. | .snpLinkSelect .. | .digCtxSelect ..
  | .keyDomainSelect .. | .pcieL1Entry .. | .pcieL1Exit | .pciResetScopeWrite .. | .unitPaddleEntry .. | .unitWake .. | .pfrSelect ..
  | .i3cEntdaa .. => [.regs]
  | .pfcFrame .. => [.regs, .health, .mbx, .pci, .fe, .nv, .ing, .rds, .par, .pair, .rate, .out]
  | .rocePacketReceive .. | .qpAckTimeout .. | .cmDreq .. | .cmDrep .. | .rdmaWriteFirstPacket .. | .rdmaReadRequest ..
  | .nvmeDisconnect .. | .katoExpiry .. => [.regs, .health, .mbx, .pci, .fe, .nv, .ing, .map, .rds, .par, .pair, .out]
  | .roceAckReceive .. => [.regs, .health, .mbx, .pci, .fe, .nv, .ing, .map, .rds, .par, .pair, .rate, .out]
  | .cmReq .. | .nvmeIdentify .. | .nvmeGetFeatures .. | .nvmePropertyGet .. | .nvmeUnsupportedOpcode .. => [.regs, .fe, .out]
  | .cmRep .. | .replOffer .. | .replBatchAck .. => [.regs, .fe, .snp, .out]
  | .cmRtu .. | .cnpReceive .. => [.regs, .fe]
  | .cmRej .. => [.regs, .fe, .snp]
  | .rdmaWriteLastPacket .. | .mrRegister .. | .mrInvalidate .. => [.regs, .health, .mbx, .pci, .fe, .out]
  | .nvmeGetLogPage .. => [.regs, .fe, .out, .freeCount]
  | .nvmeSetFeatures .. | .nvmeKeepAlive .. | .nvmeAsyncEventRequest .. | .nvmePropertySet .. | .nvmeConnect .. | .frontEndOpen =>
    [.regs, .fe, .nv, .out]
  | .nvmeAbort .. | .nvmeRead .. | .nvmeWrite .. | .nvmeWriteZeroes .. | .nvmeFlush .. | .nvmeDatasetManagement .. | .nvmeVerify ..
  | .nvmeZoneAppend .. | .nvmeZoneMgmtSend .. | .nvmeZoneMgmtReceive .. | .nvmeIoMgmtSend .. | .nvmeIoMgmtReceive ..
  | .easyHoldLimit .. => [.regs, .fe, .nv, .ing, .rds, .par, .pair, .out]
  | .engineTake .. => [.regs, .keel, .health, .pci, .upd, .fe, .nv, .ing, .map, .rds, .par, .bld, .pair, .rate, .keys, .out]
  | .sourceBlockExpiry .. => [.fe]
  | .rangeLockGrant .. | .keySlotFill .. | .nonceReserveDone .. =>
    [.regs, .keel, .health, .pci, .upd, .fe, .nv, .ing, .map, .rds, .par, .bld, .pair, .keys, .out]
  | .rdmaReadResponse .. | .fpLookupDone .. | .compressJobEnd .. =>
    [.regs, .keel, .health, .mbx, .pci, .upd, .fe, .nv, .ing, .map, .rds, .par, .bld, .pair, .keys, .out]
  | .zoneRecordsArrive .. => [.regs, .keel, .health, .pci, .upd, .fe, .nv, .ing, .map, .rds, .par, .bld, .pair, .out]
  | .groupAccept .. => [.regs, .health, .mbx, .pci, .fe, .nv, .ing, .map, .rds, .par, .pair, .rate, .snp, .out]
  | .ftEarlySeal .. | .idleEarlySeal .. => [.regs, .keel, .pci, .upd, .ing, .map, .par, .bld, .pair, .out]
  | .pageFillDone .. => [.regs, .map, .rds, .par]
  | .tcLineFill .. => [.regs, .ing, .map, .rds, .par]
  | .ckptImagesProgrammed .. | .ckptRootProgrammed .. => [.regs, .map]
  | .ckptComplete => [.regs, .pwr, .upd, .map, .pair]
  | .ckptLate => [.regs, .health, .pci, .map, .out]
  | .dlogPageProgrammed .. => [.regs, .ing, .map, .par, .pair]
  | .mapRecovery .. => [.regs, .keel, .health, .pci, .boot, .upd, .ing, .map, .par, .bld, .pair, .snp, .out]
  | .gcVictimSelect .. => [.par]
  | .gcMoveCommit .. => [.regs, .keel, .health, .pci, .upd, .ing, .map, .par, .bld, .pair, .rate, .keys, .out]
  | .rowErase .. => [.regs, .health, .pci, .map, .par, .out]
  | .bandErase .. | .bladeAttestDone .. => [.regs, .keel, .health, .mbx, .pci, .upd, .fe, .nv, .ing, .map, .rds, .par, .bld, .pair, .out]
  | .releaseSweep .. => [.regs, .health, .mbx, .pci, .ing, .map, .rate, .snp, .out]
  | .refRecountSweep .. => [.regs, .ing, .map, .rate]
  | .dedupPass .. => [.regs, .nv, .ing, .map, .pair, .rate]
  | .lostSweep .. => [.regs, .health, .map, .rate]
  | .mapLookupDone .. => [.regs, .health, .pci, .dram, .fe, .nv, .ing, .map, .rds, .par, .bld, .pair, .rate, .keys, .out]
  | .parityReconstructDone .. => [.regs, .health, .pci, .fe, .nv, .ing, .map, .rds, .par, .bld, .pair, .rate, .keys, .out]
  | .extentOpened .. => [.regs, .health, .pci, .boot, .dram, .fe, .nv, .ing, .map, .rds, .par, .bld, .pair, .rate, .keys, .out]
  | .parityVerify .. => [.regs, .par, .rate]
  | .rebuildRow .. => [.regs, .keel, .health, .pci, .upd, .ing, .map, .par, .bld, .pair, .rate, .out]
  | .reshapeRowConvert | .oarDataFrame .. | .oarNak .. | .oarReplayTimeout .. | .oarRetrainLimit .. | .oarCmdTimeout ..
  | .slotAbsentDetect .. | .bladeHeartbeatTimeout .. | .oarLinkDown .. =>
    [.regs, .keel, .health, .mbx, .pci, .upd, .fe, .nv, .ing, .map, .rds, .par, .bld, .pair, .rate, .out]
  | .oarLinkTrained .. | .slotPresentStable .. | .ringHealthReply .. | .ringPollTimeout .. => [.regs, .health, .pci, .bld, .out]
  | .oarTrainRetry .. | .ringIndAck .. => [.regs, .bld]
  | .oarAck .. | .oarIdle .. | .oarResume .. | .ringIndAckTimeout .. => [.regs, .bld, .out]
  | .oarAckTimer .. | .oarCreditIdle .. => [.bld, .out]
  | .oarReadRecord .. => [.regs, .keel, .health, .pci, .upd, .fe, .nv, .ing, .map, .rds, .par, .bld, .pair, .rate, .out]
  | .oarCompletion .. => [.regs, .keel, .health, .mbx, .pci, .upd, .fe, .nv, .ing, .map, .rds, .par, .bld, .pair, .rate, .keys, .out]
  | .bldPwrOffWrite .. => [.regs, .bus]
  | .bldIndicatorWrite .. => [.bus]
  | .fenceAck .. | .pairFenceTimeout .. => [.regs, .keel, .health, .pci, .upd, .fe, .nv, .ing, .map, .par, .bld, .pair, .snp, .out]
  | .ringFrameReceive .. | .mctpSetEndpointId .. | .mctpGetEndpointId .. | .mctpGetEndpointUuid .. | .mctpGetMessageTypeSupport ..
  | .pldmGetTid .. | .pldmGetPldmTypes .. | .pldmGetPldmCommands .. | .pldmGetPdrRepositoryInfo .. | .pldmGetPdr ..
  | .pldmGetSensorReading .. | .pldmGetStateSensorReadings .. | .pldmGetSensorThresholds .. | .updQuery .. => [.regs, .out]
  | .pairLaneFail .. | .claimTimeout => [.regs, .health, .pci, .pair, .out]
  | .pairFrameSend .. => [.regs, .keel, .health, .pci, .ing, .pair, .out]
  | .pairHello .. => [.regs, .stk, .health, .mbx, .pci, .nv, .ing, .map, .pair, .out]
  | .pairExchange .. => [.regs, .stk, .health, .mbx, .pci, .ing, .pair, .out]
  | .pairHeartbeat .. | .cWindowClose | .witnessReply .. | .claimRetry | .pairJoinWaitExpiry | .pairGoSolo .. =>
    [.regs, .stk, .keel, .health, .mbx, .pci, .upd, .fe, .nv, .ing, .map, .rds, .par, .bld, .pair, .snp, .out]
  | .pairControl .. | .pairBulk .. | .replBatchEnd .. =>
    [.regs, .keel, .health, .mbx, .pci, .upd, .fe, .nv, .ing, .map, .rds, .par, .bld, .pair, .snp, .keys, .out]
  | .pairJournal .. | .pairAck .. | .pairNak .. | .pairMapSync .. =>
    [.regs, .keel, .health, .mbx, .pci, .fe, .nv, .ing, .map, .rds, .par, .pair, .snp, .keys, .out]
  | .pairAckTimer .. | .pairRetxTimeout .. | .pairJoinRetry => [.pair]
  | .failbackFence => [.regs, .bld, .pair, .out]
  | .pairStatusGet .. | .rateTableGet .. | .snapList .. | .snapInfo .. | .snapSpace .. | .replStatusGet .. | .keyStatusGet ..
  | .mbxDoorbell .. | .mbxCommandStart .. | .mbxCommandTimeout .. | .sysInfo .. | .easyAllQuiesced .. | .sysStage .. | .sysEasyList ..
  | .sysParamGet .. | .sysParamSet .. | .sysParamDescribe .. | .sysHoldupDeclare .. | .sysRecoverScan .. | .sysRecoverUseGen ..
  | .sysMapBudget .. | .nsInfo .. | .dictSample .. | .bladeInfo .. | .logCopy .. | .faultGet .. | .pfrArm .. | .pwrTimersSet ..
  | .pwrStateGet .. | .mbxInvalidOpcode .. | .bmeClear | .updStatusGet .. | .updExport .. | .updBitmapGet .. =>
    [.regs, .health, .mbx, .pci, .out]
  | .pairFailbackHold .. | .pairHandover .. | .pairWindowsSet .. | .pairLaneSet .. => [.regs, .health, .mbx, .pci, .pair, .out]
  | .rateCompute .. => [.regs, .rate]
  | .rateSetpointSet .. | .rateOpenSet .. | .rateLoopsStage .. => [.regs, .health, .mbx, .pci, .rate, .out]
  | .snapCreate .. => [.regs, .health, .mbx, .pci, .pair, .snp, .out]
  | .snapDelete .. => [.regs, .health, .mbx, .pci, .map, .pair, .snp, .out]
  | .snapClone .. => [.regs, .health, .mbx, .pci, .nv, .map, .pair, .out]
  | .cgCreate .. | .cgMemberSet .. | .cgDelete .. => [.regs, .health, .mbx, .pci, .nv, .ing, .map, .par, .pair, .snp, .keys, .out]
  | .replLinkCreate .. => [.regs, .health, .mbx, .pci, .fe, .nv, .map, .pair, .snp, .out]
  | .replEpochNow .. => [.regs, .health, .mbx, .pci, .snp, .out]
  | .replPause .. | .keyFkShare .. => [.regs, .health, .mbx, .pci, .fe, .snp, .out]
  | .replPromote .. | .replLinkDelete .. => [.regs, .health, .mbx, .pci, .fe, .nv, .ing, .map, .rds, .par, .pair, .snp, .keys, .out]
  | .replIntervalEdge .. => [.regs, .pair, .snp]
  | .replDeltaCompute .. => [.regs, .keel, .fe, .rate, .snp, .out]
  | .replHello .. | .replKex .. | .replBatchNak .. | .replAbort .. | .replLinkTimeout .. | .replReconnect .. =>
    [.regs, .health, .mbx, .pci, .fe, .nv, .ing, .map, .rds, .par, .pair, .snp, .out]
  | .replOpen .. => [.snp]
  | .replWant .. => [.keel, .rate, .snp]
  | .replReady .. => [.regs, .health, .pci, .fe, .snp, .out]
  | .replDone .. => [.regs, .health, .pci, .fe, .map, .pair, .snp, .out]
  | .replCommit .. => [.regs, .health, .pci, .map, .pair, .snp, .out]
  | .keyEraseApply .. | .keyDomainCreate .. | .keyRoll .. => [.regs, .health, .mbx, .pci, .pair, .keys, .out]
  | .digResultRead .. => [.regs, .keys, .out]
  | .spdmGetVersion .. | .spdmGetCapabilities .. | .spdmNegotiateAlgorithms .. | .spdmGetDigests .. | .spdmGetCertificate ..
  | .spdmChallenge .. | .spdmGetMeasurements .. | .spdmKeyExchange .. | .spdmSetCertificate .. => [.regs, .pci, .keys, .out]
  | .spdmFinish .. | .spdmEndSession .. => [.regs, .health, .pci, .keys, .out]
  | .spdmHeartbeat .. | .spdmVendorDefinedRequest .. | .bmeSet | .pmD0 | .msixUnmask .. => [.regs, .pci, .out]
  | .keyOwnerEnrol .. | .keySvnCommit .. => [.regs, .hw, .health, .mbx, .pci, .out]
  | .keyDomainErase .. | .keyRekeySweep .. | .keyPartnerEnrol .. => [.regs, .health, .mbx, .pci, .keys, .out]
  | .keyBladeRootEnrol .. | .bladeAttest .. => [.regs, .health, .mbx, .pci, .bld, .out]
  | .mbxAbort .. => [.regs, .health, .mbx, .pci, .ing, .map, .par, .out]
  | .sysEasyAll .. => [.regs, .health, .mbx, .pci, .nv, .out]
  | .sysRowAll .. => [.regs, .health, .mbx, .pci, .pair, .rate, .out]
  | .sysEasyAbort .. | .easyAllExpiry .. => [.regs, .health, .mbx, .pci, .nv, .rate, .out]
  | .sysServiceEnter .. => [.regs, .health, .mbx, .pci, .fe, .nv, .out]
  | .sysServiceExit .. => [.regs, .health, .mbx, .pci, .boot, .fe, .nv, .out]
  | .nsCreate .. | .subsysCreate .. | .subsysHostsSet .. | .anaGroupCreate .. | .tenantDelete .. | .tenantAddrSet .. =>
    [.regs, .health, .mbx, .pci, .nv, .pair, .out]
  | .nsDelete .. => [.regs, .health, .mbx, .pci, .nv, .ing, .map, .pair, .snp, .out]
  | .nsSecureDiscard .. | .tenantSecureDiscard .. =>
    [.regs, .keel, .health, .mbx, .pci, .pwr, .upd, .ing, .map, .par, .bld, .pair, .snp, .out]
  | .tenantCreate .. => [.regs, .health, .mbx, .pci, .nv, .pair, .keys, .out]
  | .dictLoad .. | .dictRetire .. => [.regs, .health, .mbx, .pci, .ing, .out]
  | .groupCreate .. | .groupSpareSet .. | .groupRebuildTarget .. | .groupReshape .. =>
    [.regs, .health, .mbx, .pci, .par, .bld, .pair, .out]
  | .groupDelete .. => [.regs, .health, .mbx, .pci, .par, .pair, .out]
  | .groupShareFail .. => [.regs, .health, .mbx, .pci, .ing, .map, .par, .bld, .pair, .out]
  | .perstAssert | .pcieHotReset | .pcieLinkDown | .fullReset .. | .brownout .. =>
    [.regs, .bus, .hw, .stk, .keel, .cox, .health, .mbx, .pci, .boot, .pwr, .dram, .upd, .fe, .nv, .ing, .map, .rds, .par, .bld, .pair, .rate, .snp, .keys, .out]
  | .perstDeassert .. | .supplyRestored .. => [.regs, .hw, .stk, .health, .pci, .boot, .out, .freeCount]
  | .faceRestoreDone | .pmD3hot | .doeAbort | .flrTagRelease .. => [.pci]
  | .pcieFlr => [.regs, .mbx, .pci, .boot, .keys]
  | .flrWaitDone .. => [.regs, .bus, .health, .mbx, .pci, .boot, .out]
  | .pciePoisonedWrite .. => [.regs, .health, .mbx, .pci, .boot, .keys, .out, .freeCount]
  | .pcieCompletion .. | .pcieCompletionTimeout .. => [.regs, .health, .mbx, .pci, .out, .freeCount]
  | .doeRequest .. => [.pci, .out]
  | .bootWindowWrite .. | .bootHeaderChecked .. | .bootRestart | .bootDownloadTimeout => [.regs, .pci, .boot, .keys, .out]
  | .bootImageVerified .. => [.regs, .pci, .boot, .bld, .keys, .out]
  | .bringupDramTrained .. => [.regs, .health, .boot, .dram]
  | .bringupDiscoveryDone => [.regs, .health, .pci, .boot, .ing, .map, .par, .bld, .pair, .out]
  | .sideRecovery .. => [.regs, .health, .pci, .boot, .upd, .par, .pair, .keys, .out]
  | .unitEasyEntry .. => [.regs, .map, .par, .keys]
  | .thermalTrip .. | .pwrWarnDetect .. => [.regs, .health, .pci, .boot, .pwr, .upd, .fe, .nv, .ing, .map, .rds, .par, .bld, .pair, .out]
  | .hauloutImageProgrammed .. => [.regs, .pwr]
  | .hauloutMarkProgrammed .. => [.regs, .boot, .pwr, .map, .out]
  | .dramCaRetry .. => [.regs, .health, .pci, .boot, .out]
  | .dramRemapCopyDone .. => [.regs, .health, .pci, .dram, .out]
  | .pfrClear .. | .pfrDisarm .. | .supplyLow .. => [.regs, .health]
  | .pfrSoftTrigger .. | .pfrLinkedFire .. | .pldmSetTid .. | .pldmSetEventReceiver .. | .pldmEventRetry .. => [.regs, .health, .out]
  | .i3cSetmrl .. | .i3cSetmwl .. => [.health]
  | .mctpGetVersionSupport .. | .pldmGetPldmVersion .. => [.regs, .out, .freeCount]
  | .updPiece .. => [.regs, .upd, .out]
  | .updHeaderChecked .. => [.regs, .health, .pci, .upd, .out]
  | .updVerifyRun .. => [.regs, .health, .pci, .upd, .rate, .keys, .out]
  | .updActivate .. | .updCancel .. => [.regs, .health, .mbx, .pci, .upd, .pair, .out]
  | .updDiscard .. | .updVerify .. => [.regs, .health, .mbx, .pci, .upd, .out]
  | .bridgeUpdate .. => [.regs, .health, .pci, .upd, .par, .out]
  | .bridgeRestartTimeout .. => [.regs, .health, .pci, .upd, .ing, .map, .par, .bld, .pair, .out]
  | .pairLaneTrained .. | .pairLaneTrainingLost .. => [.regs, .pair]
  | .clusterSelfTestDone .. => [.regs, .health, .boot]

end Sys2Proof
end

