-- ==== Sys2Proof/Certificates/Slice0/Obligations.lean ====
section
/-!
DEFINITION. Certificates/Slice0/Obligations.lean: the statements for the provers. First those over all commands, then, chapter by chapter, what
each command does and that it completes: every clause names a command, says under which conditions on the state and the operands it has
its own effect, and what the next state then holds. `Canonical`, `Frame`, `RegsOnly` and the other terms stand in Safety.lean.
-/

open Sys2Proof Sys2Proof.Machine

/-- A step runs the command at the front of the queue on the state with the queue's rest: the per-command statements reach a run through this
one alone. -/
def Obligations.StepRunsFrontCommand : Prop :=
  ∀ (c : Instr) (rest : List Instr) (s : State), s.pending = c :: rest → step s = exec c { s with pending := rest }

/-- Every command answers a next state, in every state: no command faults and none is refused. With no command waiting, one tick passes (the
model's choice, log entry 5): the tick counters of R43 run and nothing else changes. -/
def Obligations.EveryCommandAnswers : Prop :=
  (∀ (c : Instr) (s : State), ∃ t, exec c s = .next t) ∧
  (∀ s : State, s.pending = [] → step s =
    .next { s with stk := { s.stk with tick := (s.stk.tick + 1) % 1048576, seatTicks := s.stk.seatTicks.map fun t => (t + 1) % 1048576 } })

/-- A step takes one command from the front of the queue and adds none; what has been sent stays sent; no open value is taken twice. -/
def Obligations.StepTakesOneCommand : Prop :=
  ∀ s t : State, step s = .next t → t.pending = s.pending.tail ∧ s.out <:+ t.out ∧ s.freeCount ≤ t.freeCount

/-- R1: no step changes the number of seats, whatever it resets, so the variant is that of State.reset in every run. -/
def Obligations.VariantStays : Prop :=
  ∀ s t : State, step s = .next t → t.hw.seats = s.hw.seats

/-- The frame of every command: it changes nothing outside the areas that its rows of the spec give it (`areasOf`), and never the queue. -/
def Obligations.FrameOfEveryCommand : Prop :=
  ∀ (c : Instr) (s t : State), exec c s = .next t → Frame (areasOf c) s t ∧ t.pending = s.pending

/-- R51: every step keeps the canonical form: the register file and the floor slots of the anchor store list each key once, in rising order, and
there are no floor slots but the sixteen. -/
def Obligations.StepKeepsCanonical : Prop :=
  ∀ s t : State, Canonical s → step s = .next t → Canonical t

/-- R35, R51, R458, R461: the state after reset is canonical; no command waits, nothing has been sent, every register shows its reset value, the boot ROM waits for
`PERST_N`, no mailbox is ready, the reset scope is FULL and the cox role stands at seat 0 with seat 1 as its standby. -/
def Obligations.ResetOfTheMachine : Prop :=
  Canonical State.reset ∧ State.reset.pending = [] ∧ State.reset.out = [] ∧
  (∀ f : Fld, rd State.reset f = f.reset % 2 ^ f.width) ∧
  State.reset.pci.perst = true ∧ rd State.reset Reg.PKG_BOOT_STATUS_PHASE = 0 ∧ isSet State.reset Reg.MBX_STATUS_READY = false ∧
  rd State.reset Reg.PCI_RESET_SCOPE_SCOPE = 0 ∧ State.reset.stk.released = false ∧
  (State.reset.cox.active, State.reset.cox.standby) = (0, 1)

/-- R35: after reset COX_ACTIVE reads 1 on seat 0 alone and COX_STANDBY on seat 1 alone. A step either leaves the two bits where they are, or
exchanges them, or is a reset. Where they stand on two seats they do so after every step, so that no read returns both as 1 on one seat, or
COX_ACTIVE as 1 on two seats (no write ever waits for a read-only field). -/
def Obligations.CoxRoleIsOne : Prop :=
  (∀ n, n < State.reset.hw.seats →
    readFld State.reset .ro (Reg.SEAT_ID_COX_ACTIVE n) = b2n (n == 0) ∧ readFld State.reset .ro (Reg.SEAT_ID_COX_STANDBY n) = b2n (n == 1)) ∧
  (∀ s t, step s = .next t →
    (t.cox.active, t.cox.standby) = (s.cox.active, s.cox.standby) ∨ (t.cox.active, t.cox.standby) = (s.cox.standby, s.cox.active) ∨
    (t.cox.active, t.cox.standby) = (0, 1)) ∧
  (∀ s t, s.cox.active ≠ s.cox.standby → step s = .next t → t.cox.active ≠ t.cox.standby) ∧
  (∀ s n m, s.cox.active ≠ s.cox.standby → n < s.hw.seats → m < s.hw.seats → s.hw.seats ≤ 8 →
    fget s.bus.waiting (Reg.SEAT_ID_COX_ACTIVE n).key = none → fget s.bus.waiting (Reg.SEAT_ID_COX_ACTIVE m).key = none →
    fget s.bus.waiting (Reg.SEAT_ID_COX_STANDBY n).key = none →
    ¬(readFld s .ro (Reg.SEAT_ID_COX_ACTIVE n) = 1 ∧ readFld s .ro (Reg.SEAT_ID_COX_STANDBY n) = 1) ∧
    (readFld s .ro (Reg.SEAT_ID_COX_ACTIVE n) = 1 → readFld s .ro (Reg.SEAT_ID_COX_ACTIVE m) = 1 → n = m))

/-- R9: reserved bits read as zero, in every register and both halves of a 64-bit one; an offset inside a defined block that names no register
reads as zero and ignores writes (from `cfgBase` on lies the function's configuration space, which is no block of R9). That software must write zero to reserved bits asks nothing of the device. -/
def Obligations.ReservedBitsReadZero : Prop :=
  (∀ s addr r i, target s addr = some r → r.row.wide = false →
    (∀ d ∈ r.row.fields, i < d.lsb ∨ d.lsb + d.width ≤ i) → (readWord s r).testBit i = false) ∧
  (∀ s addr r i, target s addr = some r → r.row.wide = true →
    (∀ d ∈ r.row.fields, d.width ≤ (if r.high then 32 + i else i)) → (readWord s r).testBit i = false) ∧
  (∀ s addr req, served s addr req = .acts → target s addr = none → addr < cfgBase →
    Completes (.lowHalfRead addr req) s fun t => t = { s with out := ⟨.busRead, [req, addr, 0]⟩ :: s.out }) ∧
  (∀ s addr value req events, served s addr req = .acts → target s addr = none → addr < cfgBase →
    Completes (.registerWrite addr value req events) s fun t => t = s)

/-- R23: a function-level reset, from its start to its end, leaves every storage area as it is and resets the endpoint's state and the mailboxes;
`PERST_N` does the same with the scope FACE, and resets the whole device with the scope FULL, which it is at power-up. -/
def Obligations.FunctionResetSparesStorage : Prop :=
  (∀ s t, exec .pcieFlr s = .next t → Frame [.regs, .health, .mbx, .pci, .boot, .keys, .out] s t ∧ (downloading s = false → t.keys = s.keys ∧ t.boot = s.boot)) ∧
  (∀ s t micros timedOut, exec (.flrWaitDone micros timedOut) s = .next t → Frame [.regs, .bus, .health, .mbx, .pci, .boot, .out] s t ∧
    (s.pci.flr = true → t.pci.flr = false →
      t.mbx.slots.all (fun x => x.2.st == .running && x.2.orphan) = true ∧
      (t.pci.bme, t.pci.msixEnable, t.pci.unmasked, t.pci.pendingVecs, t.pci.d3, t.pci.doe) = (false, false, [], [], false, false))) ∧
  (∀ s t, s.pci.perst = false → rd s Reg.PCI_RESET_SCOPE_SCOPE = 1 → exec .perstAssert s = .next t →
    Frame [.regs, .bus, .health, .mbx, .pci, .out] s t ∧ t.mbx.slots.all (fun x => x.2.st == .running && x.2.orphan) = true ∧
    (t.pci.bme, t.pci.msixEnable, t.pci.unmasked, t.pci.pendingVecs, t.pci.d3, t.pci.doe) = (false, false, [], [], false, false)) ∧
  (∀ s t, s.pci.perst = false → rd s Reg.PCI_RESET_SCOPE_SCOPE = 0 → exec .perstAssert s = .next t →
    t.pci = State.reset.pci ∧ (t.mbx, t.fe, t.rds, t.cox, t.bus) = (State.reset.mbx, State.reset.fe, State.reset.rds, State.reset.cox, State.reset.bus) ∧
    (t.nv.cmds, t.nv.ctrls, t.ing.blks, t.ing.grps, t.map.pages, t.map.recs, t.pair.st) =
      (State.reset.nv.cmds, State.reset.nv.ctrls, State.reset.ing.blks, State.reset.ing.grps, State.reset.map.pages, State.reset.map.recs, State.reset.pair.st)) ∧
  rd State.reset Reg.PCI_RESET_SCOPE_SCOPE = 0

/-- R7, R8, R10, R18: a low read returns the low half and latches the high one for its requester alone. A write stages its low half where
the field can be written, and changes nothing where the field is read-only; a write of the high half applies both halves, and the staged
half is used up. An access through a seat window crosses the keel with class CTRL, wakes the unit it needs, and reads and writes that
seat's register. -/
def Obligations.WideRegisterAccessCompletes : Prop :=
  (∀ s (addr req : Nat) (r : RegRef) (d : FieldDef) (l : List FieldDef), served s addr req = .acts → target s addr = some r → r.row.wide = true → r.high = false → r.row.fields = d :: l →
    (seatAddr addr).all (fun p => decide (p.2 < 0x90140) || decide (0x90170 ≤ p.2)) = true →
    Completes (.lowHalfRead addr req) s fun t =>
      fget t.bus.latches (pairKey addr req) = some (readFld s d.acc (fldOf r d) / 4294967296) ∧
      Others [pairKey addr req] s.bus.latches t.bus.latches ∧ t.out = ⟨.busRead, [req, addr, readWord s r]⟩ :: s.out) ∧
  (∀ s (addr value req : Nat) (r : RegRef) (d : FieldDef) (l : List FieldDef), served s addr req = .acts → target s addr = some r → r.row.wide = true → r.high = false → r.row.fields = d :: l →
    Completes (.lowHalfWrite addr value req) s fun t =>
      (t = (if d.acc = .ro ∨ readClears d.acc = true then s else
        { s with bus := { s.bus with staged := fset s.bus.staged (pairKey r.low req) value } }))) ∧
  (∀ s (addr value req : Nat) (r : RegRef) (d : FieldDef) (l : List FieldDef), Canonical s → served s addr req = .acts → target s addr = some r → r.row.wide = true → r.high = true → r.row.fields = d :: l →
    FSorted s.bus.staged →
    Completes (.highHalfWrite addr value req) s fun t =>
      (d.acc = .ro ∨ readClears d.acc = true → t = s) ∧
      (d.acc = .rw → fget t.bus.staged (pairKey r.low req) = none ∧ rd t (fldOf r d) = (value * 4294967296 + (fget s.bus.staged (pairKey
        r.low req)).getD (rd s (fldOf r d) % 4294967296)) % 2 ^ d.width)) ∧
  (∀ s (seat off req stall a : Nat) (r : RegRef), a = 0x400000 * (seat + 1) + off → off < 0x200000 → served s a req = .acts → target s a = some r → r.row.wide = false →
    r.row.fields.all (fun d => !readClears d.acc) = true → (off < 0x90140 ∨ 0x90170 ≤ off) → off ≠ 0x1A0128 → a < cfgBase →
    (blockUnit off).all (fun u => unitState s seat u == 0) = true →
    Completes (.seatWindowAccess seat off none ⟨req, stall⟩) s fun t =>
      t.out = ⟨.busRead, [req, a, readWord (keelSend (req - 1) seat keelCtrl 4 s) r]⟩ :: s.out ∧
      t.keel = (keelSend (req - 1) seat keelCtrl 4 s).keel ∧ Frame [.out, .keel] s t) ∧
  (∀ s (seat off req stall a u : Nat) (r : RegRef), Canonical s → a = 0x400000 * (seat + 1) + off → off < 0x200000 → served s a req = .acts → target s a = some r → r.row.wide = false →
    r.row.fields.all (fun d => !readClears d.acc) = true → (off < 0x90140 ∨ 0x90170 ≤ off) → off ≠ 0x1A0128 → a < cfgBase →
    blockUnit off = some u → unitState s seat u ≠ 0 →
    Completes (.seatWindowAccess seat off none ⟨req, stall⟩) s fun t =>
      unitState t seat u = 0 ∧ rd t (Reg.PWR_UNIT_STATE_WAKE_SRC seat u) = (if req - 1 = seat then 0 else 32 + (req - 1)) % 256 ∧
      rd t (Reg.PWR_UNIT_WAKES_COUNT seat u) = min (rd s (Reg.PWR_UNIT_WAKES_COUNT seat u) + 1) 4294967295 ∧
      rd t (Reg.PWR_UNIT_STALL_COUNT seat u) = min (rd s (Reg.PWR_UNIT_STALL_COUNT seat u) + stall) 4294967295 ∧
      t.keel = (keelSend (req - 1) seat keelCtrl 4 s).keel ∧
      RegsOnly [Reg.PWR_UNIT_STATE_STATE seat u, Reg.PWR_UNIT_STATE_WAKE_SRC seat u, Reg.PWR_UNIT_WAKES_COUNT seat u,
        Reg.PWR_UNIT_STALL_COUNT seat u] s t ∧
      Frame [.regs, .out, .keel] s t) ∧
  (∀ s (seat off value req stall a : Nat) (r : RegRef), Canonical s → a = 0x400000 * (seat + 1) + off → off < 0x200000 → served s a req = .acts → target s a = some r → r.row.wide = false →
    r.row.fields.Pairwise (fun x y => x.lsb ≠ y.lsb) → (hook a value (keelSend (req - 1) seat keelCtrl 4 s)).isNone = true → a < cfgBase →
    (blockUnit off).all (fun u => unitState s seat u == 0) = true →
    Completes (.seatWindowAccess seat off (some value) ⟨req, stall⟩) s fun t =>
      (∀ d ∈ r.row.fields, d.acc = .rw → rd t (fldOf r d) = value / 2 ^ d.lsb % 2 ^ d.width) ∧
      (∀ d ∈ r.row.fields, d.acc = .rws → fget t.bus.waiting (fldOf r d).key = some (fldOf r d, value / 2 ^ d.lsb % 2 ^ d.width)) ∧
      (∀ d ∈ r.row.fields, d.acc = .ro ∨ d.acc = .rws ∨ readClears d.acc = true → rd t (fldOf r d) = rd s (fldOf r d)) ∧
      RegsOnly (r.row.fields.map (fldOf r)) s t ∧ t.keel = (keelSend (req - 1) seat keelCtrl 4 s).keel)

/-- R6, R10, R11, R34: a read of a counter clears it, and an event of the same cycle is counted after the clear; a write changes each
field by its access code: at once (RW), at the next stroke boundary (RWS), where a bit is one (W1C), or not at all; an access of another
size than a word reads zero and changes no register but the logbook's. -/
def Obligations.RegisterAccessCompletes : Prop :=
  (∀ s (addr req : Nat) (event : Bool) (r : RegRef) (d : FieldDef), Canonical s → served s addr req = .acts → target s addr = some r → r.row.wide = false → r.row.fields = [d] → readClears d.acc = true →
    d.reset r.idx = 0 → 0 < d.width →
    (seatAddr addr).all (fun p => (decide (p.2 < 0x90140) || decide (0x90170 ≤ p.2)) && p.2 != 0x1A0128) = true →
    addr ≠ addrOfBit Reg.STK_EXT.key →
    Completes (.readClearCounter addr req event) s fun t =>
      rd t (fldOf r d) = b2n event ∧ RegsOnly [fldOf r d] s t ∧ t.out = ⟨.busRead, [req, addr, readWord s r]⟩ :: s.out) ∧
  (∀ s (addr value req : Nat) (r : RegRef), Canonical s → served s addr req = .acts → target s addr = some r → r.row.wide = false →
    r.row.fields.Pairwise (fun x y => x.lsb ≠ y.lsb) → (hook addr value s).isNone = true → takesNow addr = false →
    Completes (.registerWrite addr value req 0) s fun t =>
      (∀ d ∈ r.row.fields, d.acc = .rw → rd t (fldOf r d) = value / 2 ^ d.lsb % 2 ^ d.width) ∧
      (∀ d ∈ r.row.fields, d.acc = .rws → fget t.bus.waiting (fldOf r d).key = some (fldOf r d, value / 2 ^ d.lsb % 2 ^ d.width)) ∧
      (∀ d ∈ r.row.fields, d.acc = .w1c ∨ d.acc = .w1cs → rd t (fldOf r d) = rd s (fldOf r d) - (rd s (fldOf r d) &&& value / 2 ^ d.lsb)) ∧
      (∀ d ∈ r.row.fields, d.acc = .ro ∨ d.acc = .rws ∨ readClears d.acc = true → rd t (fldOf r d) = rd s (fldOf r d)) ∧
      RegsOnly (r.row.fields.map (fldOf r)) s t) ∧
  (∀ s (addr size : Nat) (write : Bool), Canonical s → addr < cfgBase → s.pci.retry = false → s.pci.d3 = false → (size ≠ 4 ∨ addr % 4 ≠ 0) →
    Completes (.bar0BadAccess addr size write) s fun t =>
      t.out = (if write then s.out else ⟨.busRead, [0, addr, 0]⟩ :: s.out) ∧ RegsKept [] s t ∧ Frame [.regs, .health, .out] s t)

/-- R16, R17: a keel link that fails is no longer up at either end, and traffic between its seats goes through the lowest seat whose links
to both work; a retransmission is counted. -/
def Obligations.KeelCommandsComplete : Prop :=
  (∀ s (x y : Nat), Canonical s → s.boot.halted = false → x < s.hw.seats → y < s.hw.seats → x ≠ y → keelUp s x y = true → 2 < s.hw.seats → s.hw.seats ≤ 8 →
    Completes (.keelLinkFail x y) s fun t =>
      keelUp t x y = false ∧ bitOf (rd t (Reg.KEEL_LINK_STATUS_DETOUR x)) y = (detourSeat s x y).isSome ∧
      t.keel.detoured = (s.keel.detoured || (detourSeat s x y).isSome) ∧
      RegsOnly ([Reg.KEEL_LINK_STATUS_LINK_UP x, Reg.KEEL_LINK_STATUS_LINK_UP y] ++ (seatList s).map Reg.KEEL_LINK_STATUS_DETOUR) s t) ∧
  (∀ s (seat peer count : Nat), Canonical s → seat < s.hw.seats → peer < s.hw.seats →
    Completes (.keelCrcRetransmission seat peer count) s fun t =>
      rd t (Reg.KEEL_LINK_RETRY_COUNT seat) = min (rd s (Reg.KEEL_LINK_RETRY_COUNT seat) + count) 4294967295 ∧
      RegsKept [Reg.KEEL_LINK_RETRY_COUNT seat] s t ∧ Frame [.regs, .health, .pci, .out] s t)

/-- R37 to R40, R53: the sixteenth valid and consistent interval locks an input; an interval that breaks the run, or no edge in time,
takes the lock away; a switch that is asked for, or due by REVERT, waits for the next stroke edge; no lock in the first 100,000 strokes is
one fault. -/
def Obligations.StrokeInputCommandsComplete : Prop :=
  (∀ s (i : Input) (interval : Nat) (lead : Int), Canonical s → s.stk.released = true → inputLocked s i = false → 16 ≤ runAfter (inputOf s i) interval →
    Completes (.strokeInputEdge i interval lead none) s fun t =>
      inputLocked t i = true ∧ t.stk.lockSeen = true ∧ (inputOf t i).run = runAfter (inputOf s i) interval ∧ (inputOf t i).lead = lead) ∧
  (∀ s (i : Input) (interval : Nat) (lead : Int), Canonical s → s.stk.released = true → inputLocked s i = true → runAfter (inputOf s i) interval ≤ 1 →
    Completes (.strokeInputEdge i interval lead none) s fun t =>
      inputLocked t i = false ∧ t.stk.active ≠ some i) ∧
  (∀ s (i : Input), Canonical s → inputLocked s i = true →
    Completes (.strokeInputTimeout i) s fun t =>
      inputLocked t i = false ∧ t.stk.active ≠ some i ∧
      (s.stk.active = some i → t.stk.active = (if inputLocked s (otherInput i) then some (otherInput i) else none)) ∧
      (s.stk.active ≠ some i → t.stk = s.stk)) ∧
  (∀ s (i : Input), s.stk.active = some i → inputLocked s (otherInput i) = true →
    Completes .stkSwitchNow s fun t =>
      t.stk = { s.stk with switchTo := some (otherInput i) } ∧ Frame [.stk] s t) ∧
  (∀ s, isSet s Reg.STK_CTRL_REVERT = true → s.stk.active = some (otherInput (preferred s)) → inputLocked s (preferred s) = true →
    (inputOf s (preferred s)).lockedAt + 10000 ≤ s.stk.ext → s.stk.activeSince + 10000 ≤ s.stk.ext → s.stk.preferAt + 10000 ≤ s.stk.ext →
    Completes .strokeRevert s fun t =>
      t.stk = { s.stk with switchTo := some (preferred s) } ∧ Frame [.stk] s t) ∧
  (∀ s, Canonical s → s.stk.released = true → s.stk.lockSeen = false → 100000 ≤ s.stk.sinceRelease →
    Completes .strokeNoLock s fun t =>
      t.stk = { s.stk with lockSeen := true } ∧ RegsKept [] s t)

/-- R43, R47, R57, R58: a stroke edge advances the extended stroke by one and sets every seat's tick to zero, once, whether it runs whole
or in its two parts; holdover is entered after three periods without an edge; a write of the schedule waits for the edge, and is refused
where the phase does not lie below the interval. -/
def Obligations.StrokeClockCommandsComplete : Prop :=
  (∀ s (e : EdgeInfo), s.stk.released = true → s.stk.mid = false → e.part = .whole → s.stk.ext < 18446744073709551615 →
    Completes (.strokeEdge e) s fun t =>
      t.stk.ext = s.stk.ext + 1 ∧ ((t.stk.tick, t.stk.seatTicks) = (0, s.stk.seatTicks.map fun _ => 0)) ∧ t.stk.mid = false) ∧
  (∀ s (e : EdgeInfo), s.stk.released = true → s.stk.mid = false → e.part = .counts → s.stk.ext < 18446744073709551615 →
    Completes (.strokeEdge e) s fun t =>
      t.stk.ext = s.stk.ext + 1 ∧ ((t.stk.tick, t.stk.seatTicks) = (0, s.stk.seatTicks.map fun _ => 0)) ∧ t.stk.mid = true) ∧
  (∀ s (e : EdgeInfo), s.stk.released = true → s.stk.mid = true →
    Completes (.strokeEdge e) s fun t =>
      (t.stk.ext, t.stk.tick, t.stk.seatTicks) = (s.stk.ext, s.stk.tick, s.stk.seatTicks) ∧
      t.stk.mid = (if e.part = .counts then true else false)) ∧
  (∀ s (elapsed : Nat), Canonical s → s.stk.released = true → inputLocked s .a = false → inputLocked s .b = false → isSet s Reg.STK_STATUS_HOLDOVER = false →
    3 * period s < 256 * elapsed →
    Completes (.holdoverEntry elapsed) s fun t =>
      (rd t Reg.STK_STATUS_HOLDOVER, rd t Reg.STK_HOLDOVER_STROKES_COUNT, rd t Reg.STK_EVENTS_HOLDOVER_ENTERED) = (1, 0, 1) ∧
      RegsKept [Reg.STK_STATUS_HOLDOVER, Reg.STK_HOLDOVER_STROKES_COUNT, Reg.STK_EVENTS_HOLDOVER_ENTERED] s t ∧ t.stk = s.stk) ∧
  (∀ s (i v : Nat), 4 ≤ i → i < 8 → (i ≠ 5 ∨ 5000 ≤ v) → (v = 0 ∨ schedNext s (Reg.STK_SCHED_PHASE_STROKES i) < v) →
    Completes (.stkSchedWrite i false v) s fun t =>
      t = waitWrite (Reg.STK_SCHED_INTERVAL_STROKES i) v s) ∧
  (∀ s (i v : Nat), 4 ≤ i → i < 8 → (schedNext s (Reg.STK_SCHED_INTERVAL_STROKES i) = 0 ∨ v < schedNext s (Reg.STK_SCHED_INTERVAL_STROKES i)) →
    Completes (.stkSchedWrite i true v) s fun t =>
      t = waitWrite (Reg.STK_SCHED_PHASE_STROKES i) v s) ∧
  (∀ s (i v : Nat), Canonical s → 4 ≤ i → i < 8 → schedNext s (Reg.STK_SCHED_INTERVAL_STROKES i) ≠ 0 → schedNext s (Reg.STK_SCHED_INTERVAL_STROKES i) ≤ v →
    Completes (.stkSchedWrite i true v) s fun t =>
      rd t Reg.STK_EVENTS_SCHED_REFUSED = 1 ∧ RegsKept [Reg.STK_EVENTS_SCHED_REFUSED] s t ∧ t.bus = s.bus)

/-- R21: when the active cox faults and a standby is ready, the roles change places and the switch-over is counted; when the original
cluster has passed its self-test, it waits for the stroke edge that gives it the role back. -/
def Obligations.CoxCommandsComplete : Prop :=
  (∀ s (gap : Nat), Canonical s → s.boot.halted = false → coxRuns s = true → s.upd.step < 4 → isSet s Reg.MBX_COX_STANDBY_READY = true →
    (∀ e ∈ s.mbx.slots, e.2.st ≠ .running) →
    Completes (.coxFault gap) s fun t =>
      (t.cox.active, t.cox.standby) = (s.cox.standby, s.cox.active) ∧ rd t Reg.MBX_LAST_GAP_CYCLES = min gap 65535 ∧
      rd t Reg.MBX_SWITCHOVERS_COUNT = min (rd s Reg.MBX_SWITCHOVERS_COUNT + 1) (2 ^ Reg.MBX_SWITCHOVERS_COUNT.width - 1) ∧
      (isSet t Reg.MBX_COX_STANDBY_READY, rd t Reg.MBX_EVENTS_SWITCHOVER) = (false, 1)) ∧
  (∀ s (gap : Nat), s.boot.halted = false → coxRuns s = true → s.upd.step < 4 → s.cox.active ≠ 0 → isSet s Reg.MBX_COX_STANDBY_READY = false →
    Completes (.coxReturn gap true) s fun t =>
      t.cox = { s.cox with returning := some gap } ∧ Frame [.cox] s t)

/-- R62, R63, R65, R66, R67, R69, R77, R78: a frame is counted and, when too long or of a service not supported, dropped; PFC sets the
pause of the priorities that are enabled; a sub-port that loses link is down; a packet is counted, and a marked one answered with a CNP;
an acknowledgement opens the window; a timeout or a NAK counts a retry until the number the pair allows, then the queue pair fails; a CNP
lowers the window once in a round. -/
def Obligations.FramesComplete : Prop :=
  (∀ s (seat sub len src : Nat) (svc : FrameSvc), Canonical s → Runs s → feOpen s seat = true → sub < subPorts s seat → len ≤ 9216 → svc ≠ .unsupported → isBlocked s seat src = false →
    Completes (.feFrameReceive seat sub len src svc) s fun t =>
      rd t (Reg.FE_RX_BYTES seat sub) = min (rd s (Reg.FE_RX_BYTES seat sub) + len) (2 ^ (Reg.FE_RX_BYTES seat sub).width - 1) ∧
      subUp t seat sub = true ∧ RegsOnly [Reg.FE_RX_BYTES seat sub, Reg.FE_PORT_STATUS_LINK_UP seat, Reg.FE_PORT_STATUS_FEC_LOCK seat] s t ∧
      Frame [.regs] s t) ∧
  (∀ s (seat sub len src : Nat) (svc : FrameSvc), Canonical s → Runs s → feOpen s seat = true → sub < subPorts s seat → (9216 < len ∨ svc = .unsupported ∨ isBlocked s seat src = true) →
    Completes (.feFrameReceive seat sub len src svc) s fun t =>
      rd t (Reg.FE_RX_DROP_COUNT seat) = min (rd s (Reg.FE_RX_DROP_COUNT seat) + 1) (2 ^ (Reg.FE_RX_DROP_COUNT seat).width - 1) ∧
      RegsOnly [Reg.FE_RX_BYTES seat sub, Reg.FE_RX_DROP_COUNT seat, Reg.FE_PORT_STATUS_LINK_UP seat, Reg.FE_PORT_STATUS_FEC_LOCK seat] s t
        ∧
      Frame [.regs] s t) ∧
  (∀ s (seat sub on off : Nat), Runs s → subUp s seat sub = true → FSorted s.fe.paused → (∀ e ∈ s.fe.qps, e.2.outq = [] ∧ e.2.reading = []) →
    (∀ e ∈ s.nv.cmds, e.2.toPull = 0) → (∀ e ∈ s.rds.units, e.2.stage ≠ .placing) →
    Completes (.pfcFrame seat sub on off false) s fun t =>
      fgetD t.fe.paused (pairKey seat sub) 0 = (fgetD s.fe.paused (pairKey seat sub) 0 ||| (on &&& rd s (Reg.FE_PFC_EN_PRIO seat))) &&&
        (255 - off % 256) ∧
      Others [pairKey seat sub] s.fe.paused t.fe.paused ∧ Frame [.fe] s t) ∧
  (∀ s (seat sub : Nat), Canonical s → Runs s → subUp s seat sub = true →
    Completes (.subportLinkDown seat sub) s fun t =>
      subUp t seat sub = false ∧ bitOf (rd t (Reg.FE_PORT_STATUS_FEC_LOCK seat)) sub = false ∧
      RegsOnly [Reg.FE_PORT_STATUS_LINK_UP seat, Reg.FE_PORT_STATUS_FEC_LOCK seat] s t ∧ Frame [.regs] s t) ∧
  (∀ s (seat qp len sinceCnp : Nat) (op : RoceOp) (ce : Bool) (x : Qp), Canonical s → Runs s → op.supported = true → qpLive s seat qp = some x → x.outq = [] → x.subport < 4 → subUp s seat x.subport = true →
    isBlocked s seat x.src = false →
    Completes (.rocePacketReceive seat qp len op ce sinceCnp) s fun t =>
      rd t (Reg.FE_RX_BYTES seat x.subport) = min (rd s (Reg.FE_RX_BYTES seat x.subport) + len) (2 ^ (Reg.FE_RX_BYTES seat x.subport).width
        - 1) ∧
      (ce = true ∧ rd s (Reg.FE_CNP_INTERVAL_TICKS seat) ≤ sinceCnp → txPaused s seat qp x = false → t.out = ⟨.rdma, [seat, qp, 7]⟩ ::
        s.out ∧ rd t (Reg.FE_CNP_SENT_COUNT seat) = min (rd s (Reg.FE_CNP_SENT_COUNT seat) + 1) (2 ^ (Reg.FE_CNP_SENT_COUNT seat).width -
        1)) ∧
      (ce = true ∧ rd s (Reg.FE_CNP_INTERVAL_TICKS seat) ≤ sinceCnp → txPaused s seat qp x = true → t.out = s.out ∧ qpOf t seat qp = some
        { x with outq := [(0, ⟨.rdma, [seat, qp, 7]⟩)] }) ∧
      (ce = false ∨ sinceCnp < rd s (Reg.FE_CNP_INTERVAL_TICKS seat) → t.out = s.out ∧ t.fe = s.fe) ∧
      RegsOnly [Reg.FE_RX_BYTES seat x.subport, Reg.FE_CNP_SENT_COUNT seat, Reg.FE_TX_BYTES seat x.subport] s t ∧
      Others [pairKey seat qp] s.fe.qps t.fe.qps ∧ Frame [.regs, .fe, .out] s t) ∧
  (∀ s (seat qp len sinceCnp : Nat) (op : RoceOp) (ce : Bool) (x : Qp), Runs s → op.supported = false → qpLive s seat qp = some x → subUp s seat x.subport = true → isBlocked s seat x.src = false →
    Completes (.rocePacketReceive seat qp len op ce sinceCnp) s fun t =>
      (qpOf t seat qp).map Qp.st = some .error ∧ (x.outq = [] → txPaused s seat qp x = false → ⟨.rdma, [seat, qp, 2]⟩ ∈ t.out)) ∧
  (∀ s (seat qp bytes : Nat) (x : Qp), Runs s → qpLive s seat qp = some x → subUp s seat x.subport = true → isBlocked s seat x.src = false → x.outq = [] →
    (∀ e ∈ s.nv.cmds, e.2.qp ≠ qp) →
    Completes (.roceAckReceive seat qp ⟨bytes, .ack⟩) s fun t =>
      ((qpOf t seat qp).map (fun y => (y.unacked, y.retries, y.rnrs)) = some (x.unacked - bytes, 0, 0)) ∧
      (bytes < x.roundLeft → (qpOf t seat qp).map (fun y => (y.window, y.roundLeft)) = some (x.window, x.roundLeft - bytes)) ∧
      (x.roundLeft ≤ bytes → x.decreased = false → (qpOf t seat qp).map Qp.window = some (min (winMax s seat) (x.window + 256 * rd s
        (Reg.FE_CC_AI seat)))) ∧
      (x.roundLeft ≤ bytes → x.decreased = true → (qpOf t seat qp).map Qp.window = some x.window) ∧
      Others [pairKey seat qp] s.fe.qps t.fe.qps ∧ (x.reading = [] → Frame [.fe] s t)) ∧
  (∀ s (seat qp : Nat) (kind : AckKind) (x : Qp), Canonical s → Runs s → qpLive s seat qp = some x → subUp s seat x.subport = true → isBlocked s seat x.src = false →
    (kind = .rnr ∧ x.rnrs < x.rnrMax ∨ kind = .sequence ∧ x.retries < x.retryMax) → (∀ e ∈ s.nv.cmds, e.2.qp ≠ qp) →
    Completes (.roceAckReceive seat qp ⟨0, kind⟩) s fun t =>
      qpOf t seat qp = some (if kind = .rnr then { x with rnrs := x.rnrs + 1 } else { x with retries := x.retries + 1 }) ∧
      Others [pairKey seat qp] s.fe.qps t.fe.qps ∧ RegsOnly [Reg.FE_TX_BYTES seat x.subport] s t ∧ Frame [.regs, .fe] s t) ∧
  (∀ s (seat qp : Nat) (kind : AckKind) (x : Qp), Runs s → qpLive s seat qp = some x → subUp s seat x.subport = true → isBlocked s seat x.src = false →
    (kind = .invalidRequest ∨ kind = .remoteAccess ∨ kind = .remoteOperation ∨ kind = .rnr ∧ x.rnrMax ≤ x.rnrs ∨ kind = .sequence ∧
      x.retryMax ≤ x.retries) →
    Completes (.roceAckReceive seat qp ⟨0, kind⟩) s fun t =>
      (qpOf t seat qp).map Qp.st = some .error) ∧
  (∀ s (seat qp : Nat) (x : Qp), Canonical s → Runs s → qpLive s seat qp = some x → x.unacked + x.requested ≠ 0 → x.retries < x.retryMax →
    Completes (.qpAckTimeout seat qp) s fun t =>
      qpOf t seat qp = some { x with retries := x.retries + 1 } ∧ Others [pairKey seat qp] s.fe.qps t.fe.qps ∧
      RegsOnly [Reg.FE_TX_BYTES seat x.subport] s t ∧ Frame [.regs, .fe] s t) ∧
  (∀ s (seat qp : Nat) (x : Qp), Runs s → qpLive s seat qp = some x → x.unacked + x.requested ≠ 0 → x.retryMax ≤ x.retries →
    Completes (.qpAckTimeout seat qp) s fun t =>
      (qpOf t seat qp).map Qp.st = some .error) ∧
  (∀ s (seat qp : Nat) (x : Qp), Canonical s → Runs s → qpLive s seat qp = some x → subUp s seat x.subport = true → isBlocked s seat x.src = false →
    x.decreased = false → rd s (Reg.FE_CC_MD seat) ≠ 0 →
    Completes (.cnpReceive seat qp) s fun t =>
      qpOf t seat qp = some { x with window := max 4096 (x.window * (16 - rd s (Reg.FE_CC_MD seat)) / 16), decreased := true } ∧
      rd t (Reg.FE_CNP_RCVD_COUNT seat) = min (rd s (Reg.FE_CNP_RCVD_COUNT seat) + 1) (2 ^ (Reg.FE_CNP_RCVD_COUNT seat).width - 1) ∧
      RegsOnly [Reg.FE_CNP_RCVD_COUNT seat] s t ∧ Frame [.regs, .fe] s t)

/-- R68, R70 to R76, R95, R96, R99: a connection request within the rate gets the lowest free queue pair, which becomes ready with the
RTU; a REP makes this device's own connection ready; DREQ, DREP and REJ free the queue pair; an RDMA WRITE that matches its region is in
flight from its first packet to its last; an RDMA READ that matches is answered when the window lets its response go, and is in flight
until then; a blocked source is released at its stroke; the inspection registers load. -/
def Obligations.ConnectionsComplete : Prop :=
  (∀ s (seat src sub mtu pd q : Nat), Canonical s → Runs s → handsOver s seat = false → subUp s seat sub = true → isSet s (Reg.FE_PORT_STATUS_OPEN seat) = true →
    isBlocked s seat src = false →
    ((fgetD s.fe.cmReqs (pairKey seat src) []).filter fun n => s.stk.ext < n + 1000).length < rd s (Reg.FE_CM_RATE_COUNT seat) → q < 16384 →
    qpOf s seat q = none → (∀ p < q, qpOf s seat p ≠ none) →
    Completes (.cmReq seat src sub mtu pd) s fun t =>
      ((qpOf t seat q).map (fun x => (x.st, x.src, x.subport, x.mtu, x.pd, x.window)) = some (.connecting, src, sub, if mtu = 1024 ∨ mtu =
        2048 then mtu else 4096, pd, winInit s seat)) ∧
      t.out = ⟨.cm, [seat, src, 0, q]⟩ :: s.out ∧ RegsOnly [Reg.FE_TX_BYTES seat sub] s t ∧ Others [pairKey seat q] s.fe.qps t.fe.qps ∧
      Frame [.regs, .fe, .out] s t) ∧
  (∀ s (seat src sub mtu pd : Nat), Runs s → handsOver s seat = true →
    Completes (.cmReq seat src sub mtu pd) s fun t =>
      t = { s with fe := { s.fe with held := s.fe.held ++ [⟨seat, src, sub, mtu, pd⟩] } }) ∧
  (∀ s (seat qp : Nat) (x : Qp), Runs s → qpOf s seat qp = some x → subUp s seat x.subport = true → isBlocked s seat x.src = false → x.ours = true → x.st = .connecting →
    Completes (.cmRep seat qp) s fun t =>
      (qpOf t seat qp).map Qp.st = some .ready ∧ ⟨.cm, [seat, x.src, 5, qp]⟩ ∈ t.out) ∧
  (∀ s (seat qp : Nat) (x : Qp), Runs s → qpOf s seat qp = some x → subUp s seat x.subport = true → isBlocked s seat x.src = false → x.ours = false →
    x.st = .connecting →
    Completes (.cmRtu seat qp) s fun t =>
      qpOf t seat qp = some { x with st := .ready } ∧ Others [pairKey seat qp] s.fe.qps t.fe.qps ∧ Frame [.fe] s t) ∧
  (∀ s (seat qp : Nat) (x : Qp), Runs s → qpOf s seat qp = some x → subUp s seat x.subport = true → isBlocked s seat x.src = false → x.ours = true → x.st = .connecting →
    FSorted s.fe.qps →
    Completes (.cmRej seat qp) s fun t =>
      t.fe.qps = fdel s.fe.qps (pairKey seat qp) ∧ t.regs = s.regs ∧ Frame [.fe, .snp] s t) ∧
  (∀ s (seat qp : Nat) (x : Qp), Runs s → qpOf s seat qp = some x → subUp s seat x.subport = true → isBlocked s seat x.src = false → FSorted s.fe.qps →
    Completes (.cmDreq seat qp) s fun t =>
      t.fe.qps = fdel s.fe.qps (pairKey seat qp) ∧ ⟨.cm, [seat, x.src, 3, qp]⟩ ∈ t.out) ∧
  (∀ s (seat qp : Nat) (x : Qp), Runs s → qpOf s seat qp = some x → subUp s seat x.subport = true → isBlocked s seat x.src = false → x.st = .draining →
    FSorted s.fe.qps →
    Completes (.cmDrep seat qp) s fun t =>
      t.fe.qps = fdel s.fe.qps (pairKey seat qp)) ∧
  (∀ s (seat qp rkey addr len i : Nat) (x : Qp) (m : Mr), Runs s → qpLive s seat qp = some x → subUp s seat x.subport = true → isBlocked s seat x.src = false →
    mrMatch s x rkey addr len true = some (i, m) → x.writing.all (fun e => e.1 != i) = true →
    Completes (.rdmaWriteFirstPacket seat qp rkey addr len) s fun t =>
      fget t.fe.mrs i = some { m with cur := { m.cur with inflight := m.cur.inflight + 1 } } ∧
      qpOf t seat qp = some { x with writing := some (i, m.cur.epoch) } ∧ Others [pairKey seat qp] s.fe.qps t.fe.qps ∧
      (x.writing = none → Others [i] s.fe.mrs t.fe.mrs ∧ Frame [.fe] s t)) ∧
  (∀ s (seat qp rkey addr len : Nat) (x : Qp), Runs s → qpLive s seat qp = some x → subUp s seat x.subport = true → isBlocked s seat x.src = false →
    mrMatch s x rkey addr len true = none →
    Completes (.rdmaWriteFirstPacket seat qp rkey addr len) s fun t =>
      (qpOf t seat qp).map Qp.st = some .error ∧ (x.outq = [] → txPaused s seat qp x = false → ⟨.rdma, [seat, qp, 3]⟩ ∈ t.out) ∧
      (x.writing = none → x.reading = [] → t.fe.mrs = s.fe.mrs)) ∧
  (∀ s (seat qp i : Nat) (x : Qp) (m : Mr), Canonical s → Runs s → qpLive s seat qp = some x → subUp s seat x.subport = true → isBlocked s seat x.src = false →
    x.writing = some (i, m.cur.epoch) → fget s.fe.mrs i = some m → x.outq = [] →
    Completes (.rdmaWriteLastPacket seat qp) s fun t =>
      fget t.fe.mrs i = some { m with cur := { m.cur with inflight := m.cur.inflight - 1 } } ∧
      (txPaused s seat qp x = false → qpOf t seat qp = some { x with writing := none } ∧ t.out = ⟨.rdma, [seat, qp, 0]⟩ :: s.out) ∧
      (txPaused s seat qp x = true → qpOf t seat qp = some { x with writing := none, outq := [(0, ⟨.rdma, [seat, qp, 0]⟩)] } ∧ t.out =
        s.out) ∧
      RegsOnly [Reg.FE_TX_BYTES seat x.subport] s t ∧ Frame [.regs, .fe, .out] s t) ∧
  (∀ s (seat qp rkey addr len i : Nat) (again : Bool) (x : Qp) (m : Mr), Canonical s → Runs s → qpLive s seat qp = some x → subUp s seat x.subport = true → isBlocked s seat x.src = false →
    mrMatch s x rkey addr len false = some (i, m) → x.outq = [] → x.reading = [] → txPaused s seat qp x = false →
    Completes (.rdmaReadRequest seat qp rkey addr len again) s fun t =>
      (len ≤ x.window - (x.unacked + x.requested) → t.out = ⟨.rdma, [seat, qp, 8, rkey, addr, len]⟩ :: s.out ∧ qpOf t seat qp = some
        { x with unacked := x.unacked + len } ∧ fget t.fe.mrs i = some m) ∧
      (x.window - (x.unacked + x.requested) < len → t.out = s.out ∧ (qpOf t seat qp).map Qp.reading = some [(i, m.cur.epoch)] ∧ fget
        t.fe.mrs i = some { m with cur := { m.cur with inflight := m.cur.inflight + 1 } }) ∧
      RegsOnly [Reg.FE_TX_BYTES seat x.subport] s t ∧ Others [pairKey seat qp] s.fe.qps t.fe.qps ∧ Others [i] s.fe.mrs t.fe.mrs ∧
      Frame [.regs, .fe, .out] s t) ∧
  (∀ s (slot index tag pd base len : Nat) (remRead remWrite : Bool), CmdReady slot Opc.mrRegister s → 0 < pd → pd < 4096 → index < 262144 → 0 < len → fget s.fe.mrs index = none →
    Completes (.mrRegister slot index tag pd base len remRead remWrite) s fun t =>
      Answers slot .ok 0 [] s t ∧ fget t.fe.mrs index = some ⟨⟨0, true, tag % 256, pd, base, len, remRead, remWrite, 0⟩, none, none⟩ ∧
      Others [index] s.fe.mrs t.fe.mrs ∧ Frame [.regs, .mbx, .fe, .pci, .out] s t) ∧
  (∀ s (slot index : Nat) (m : Mr), CmdReady slot Opc.mrInvalidate s → fget s.fe.mrs index = some m → m.prev = none →
    Completes (.mrInvalidate slot index) s fun t =>
      ((fget t.fe.mrs index).map (fun m => m.cur.hasKey) = some false) ∧
      (m.cur.inflight = 0 → Answers slot .ok 0 [] s t ∧ (fget t.fe.mrs index).map Mr.prev = some none) ∧
      (m.cur.inflight ≠ 0 → (slotAt t slot).st = .running ∧ (fget t.fe.mrs index).map Mr.prev = some (some m.cur) ∧ (fget t.fe.mrs
        index).map Mr.slot = some (some slot)) ∧
      Others [index] s.fe.mrs t.fe.mrs) ∧
  (∀ s (seat src n : Nat), Runs s → fget s.fe.blocked (pairKey seat src) = some n → n ≤ s.stk.ext → FSorted s.fe.blocked →
    Completes (.sourceBlockExpiry seat src) s fun t =>
      t = { s with fe := { s.fe with blocked := fdel s.fe.blocked (pairKey seat src) } }) ∧
  (∀ s (seat value : Nat) (x : Qp), Canonical s → Runs s → seat < s.hw.seats → qpOf s seat (value % 16384) = some x →
    Completes (.nvqQpSelect seat value) s fun t =>
      rd t (Reg.NVQ_QP_SELECT_INDEX seat) = value % 16384 ∧ rd t (Reg.NVQ_QP_STATE_STATE seat) = qpStNum x.st ∧
      rd t (Reg.NVQ_QP_STATE_PD seat) = x.pd % 2 ^ (Reg.NVQ_QP_STATE_PD seat).width ∧
      rd t (Reg.NVQ_QP_CTRL_CONTROLLER seat) = x.ctrl.getD 0 % 2 ^ (Reg.NVQ_QP_CTRL_CONTROLLER seat).width ∧
      rd t (Reg.NVQ_QP_WINDOW_KIB seat) = x.window / 1024 % 2 ^ (Reg.NVQ_QP_WINDOW_KIB seat).width ∧
      RegsOnly [Reg.NVQ_QP_SELECT_INDEX seat, Reg.NVQ_QP_STATE_STATE seat, Reg.NVQ_QP_STATE_CLASS seat, Reg.NVQ_QP_STATE_ADMIN seat,
        Reg.NVQ_QP_STATE_SUBPORT seat, Reg.NVQ_QP_STATE_PD seat, Reg.NVQ_QP_CTRL_CONTROLLER seat, Reg.NVQ_QP_WINDOW_KIB seat,
        Reg.NVQ_QP_OUTSTANDING_COUNT seat] s t ∧
      Frame [.regs] s t)

/-- R80, R81, R86, R91, R92, R94, R310: on a ready admin queue of a controller, Identify, Get Log Page, Get and Set Features, Keep Alive,
Abort, Property Get and Property Set complete with success; an Asynchronous Event Request with no event waiting is held; a capsule whose
SGL names another descriptor type is refused. An answer goes out at once where nothing waits before it and the window and the priority let
it. What the spec gives no content for (SMART and other standard pages) is one open value (log entry 1, the model's choice). -/
def Obligations.AdminCommandsComplete : Prop :=
  (∀ s (seat qp cid nsid c sub : Nat) (cap : Capsule) (y : Ctrl) (x : Subsys), Canonical s → AdminAt seat qp cid c y s → capCheck cap true 4096 false = none → y.subsys = some sub → fget s.nv.subsys sub = some x →
    Completes (.nvmeIdentify seat qp ⟨cid, cap⟩ 1 nsid) s fun t =>
      t = (s |> qpSend seat qp 4096 .nvmeData ([seat, qp, cid, x.nqn, 2097152, 5, 0]) |> qpSend seat qp 16 .nvme [seat, qp, cid, 0, 0]) ∧
      (SendsNow seat qp (4096 + 16) s → SentOn seat qp (4096 + 16) [⟨.nvme, [seat, qp, cid, 0, 0]⟩, ⟨.nvmeData, [seat, qp, cid, x.nqn,
        2097152, 5, 0]⟩] s t) ∧
      Frame [.regs, .fe, .out] s t) ∧
  (∀ s (seat qp cid nsid c : Nat) (cap : Capsule) (y : Ctrl), Canonical s → AdminAt seat qp cid c y s → capCheck cap true 4096 false = none → nsFor s y nsid = none →
    Completes (.nvmeIdentify seat qp ⟨cid, cap⟩ 0 nsid) s fun t =>
      t = qpSend seat qp 16 .nvme [seat, qp, cid, 0x00B, 0] s ∧
      (SendsNow seat qp 16 s → SentOn seat qp 16 [⟨.nvme, [seat, qp, cid, 0x00B, 0]⟩] s t) ∧ Frame [.regs, .fe, .out] s t) ∧
  (∀ s (seat qp cid cns nsid c : Nat) (cap : Capsule) (y : Ctrl), Canonical s → AdminAt seat qp cid c y s → cap.sglTypeOk = false →
    Completes (.nvmeIdentify seat qp ⟨cid, cap⟩ cns nsid) s fun t =>
      t = qpSend seat qp 16 .nvme [seat, qp, cid, 0x011, 0] s ∧
      (SendsNow seat qp 16 s → SentOn seat qp 16 [⟨.nvme, [seat, qp, cid, 0x011, 0]⟩] s t) ∧ Frame [.regs, .fe, .out] s t) ∧
  (∀ s (seat qp cid c : Nat) (cap : Capsule) (y : Ctrl), Canonical s → AdminAt seat qp cid c y s → capCheck cap true 1 false = none → y.subsys.isSome = true →
    Completes (.nvmeGetLogPage seat qp ⟨cid, cap⟩ 0xC2) s fun t =>
      t = (s |> qpSend seat qp cap.sglLen .nvmeData (seat :: qp :: cid :: y.log.flatMap detailEntry) |> qpSend seat qp 16 .nvme [seat, qp,
        cid, 0, 0]) ∧
      (SendsNow seat qp (cap.sglLen + 16) s → SentOn seat qp (cap.sglLen + 16) [⟨.nvme, [seat, qp, cid, 0, 0]⟩, ⟨.nvmeData, seat :: qp ::
        cid :: y.log.flatMap detailEntry⟩] s t) ∧
      Frame [.regs, .fe, .out] s t) ∧
  (∀ s (seat qp cid c : Nat) (cap : Capsule) (y : Ctrl), Canonical s → AdminAt seat qp cid c y s → capCheck cap true 1 false = none → y.subsys.isSome = true →
    Completes (.nvmeGetLogPage seat qp ⟨cid, cap⟩ 0x0C) s fun t =>
      (t = (s |> qpSend seat qp cap.sglLen .nvmeData (seat :: qp :: cid :: s.nv.anas.flatMap (fun e => [e.1 + 1, anaState s e.1])) |>
        qpSend seat qp 16 .nvme [seat, qp, cid, 0, 0])) ∧
      (SendsNow seat qp (cap.sglLen + 16) s → SentOn seat qp (cap.sglLen + 16) [⟨.nvme, [seat, qp, cid, 0, 0]⟩, ⟨.nvmeData, seat :: qp ::
        cid :: s.nv.anas.flatMap (fun e => [e.1 + 1, anaState s e.1])⟩] s t) ∧
      Frame [.regs, .fe, .out] s t) ∧
  (∀ s (seat qp cid fid c v : Nat) (cap : Capsule) (y : Ctrl), Canonical s → AdminAt seat qp cid c y s → capCheck cap false 0 false = none →
    (fget y.features fid = some v ∧ fid ≠ 0x0F ∨ fid = 0x0F ∧ v = y.kato) →
    Completes (.nvmeGetFeatures seat qp ⟨cid, cap⟩ fid) s fun t =>
      t = qpSend seat qp 16 .nvme [seat, qp, cid, 0, v] s ∧
      (SendsNow seat qp 16 s → SentOn seat qp 16 [⟨.nvme, [seat, qp, cid, 0, v]⟩] s t) ∧ Frame [.regs, .fe, .out] s t) ∧
  (∀ s (seat qp cid fid value c : Nat) (cap : Capsule) (y : Ctrl), Canonical s → AdminAt seat qp cid c y s → capCheck cap false 0 false = none →
    Completes (.nvmeSetFeatures seat qp ⟨cid, cap⟩ fid value) s fun t =>
      (fid ≠ 0x0F → ctrlOf t seat c = some { y with features := fset y.features fid value }) ∧
      (fid = 0x0F → ctrlOf t seat c = some { y with kato := value, kaCount := y.kaCount + 1 }) ∧
      (SendsNow seat qp 16 s → SentOn seat qp 16 [⟨.nvme, [seat, qp, cid, 0, 0]⟩] s t) ∧ Others [pairKey seat c] s.nv.ctrls t.nv.ctrls ∧
      Frame [.regs, .fe, .nv, .out] s t) ∧
  (∀ s (seat qp cid c : Nat) (cap : Capsule) (y : Ctrl), Canonical s → AdminAt seat qp cid c y s → capCheck cap false 0 false = none →
    Completes (.nvmeKeepAlive seat qp ⟨cid, cap⟩) s fun t =>
      ctrlOf t seat c = some { y with kaCount := y.kaCount + 1 } ∧
      (SendsNow seat qp 16 s → SentOn seat qp 16 [⟨.nvme, [seat, qp, cid, 0, 0]⟩] s t) ∧ Others [pairKey seat c] s.nv.ctrls t.nv.ctrls ∧
      Frame [.regs, .fe, .nv, .out] s t) ∧
  (∀ s (seat qp cid c : Nat) (cap : Capsule) (y : Ctrl), Canonical s → AdminAt seat qp cid c y s → capCheck cap false 0 false = none →
    Completes (.nvmeAsyncEventRequest seat qp ⟨cid, cap⟩) s fun t =>
      (y.events = [] → ctrlOf t seat c = some { y with aers := y.aers ++ [cid] } ∧ t.out = s.out ∧ t.fe = s.fe ∧ t.regs = s.regs) ∧
      (y.events ≠ [] → ctrlOf t seat c = some { y with events := y.events.tail } ∧ (SendsNow seat qp 16 s → SentOn seat qp 16 [⟨.nvme,
        [seat, qp, cid, 0, y.events.headD 0]⟩] s t)) ∧
      Others [pairKey seat c] s.nv.ctrls t.nv.ctrls ∧ Frame [.regs, .fe, .nv, .out] s t) ∧
  (∀ s (seat qp cid target c : Nat) (cap : Capsule) (y : Ctrl), Canonical s → AdminAt seat qp cid c y s → capCheck cap false 0 false = none → y.aers.contains target = true →
    Completes (.nvmeAbort seat qp ⟨cid, cap⟩ qp target) s fun t =>
      ctrlOf t seat c = some { y with aers := y.aers.filter (· != target) } ∧
      (SendsNow seat qp 32 s → SentOn seat qp 32 [⟨.nvme, [seat, qp, cid, 0, 0]⟩, ⟨.nvme, [seat, qp, target, 0x007, 0]⟩] s t) ∧
      Frame [.regs, .fe, .nv, .out] s t) ∧
  (∀ s (seat qp cid sq target c : Nat) (cap : Capsule) (y : Ctrl), Canonical s → AdminAt seat qp cid c y s → capCheck cap false 0 false = none → (sq ≠ qp ∨ y.aers.contains target = false) →
    (∀ e ∈ s.nv.cmds, e.2.seat = seat → e.2.qp = sq → e.2.cid ≠ target) →
    Completes (.nvmeAbort seat qp ⟨cid, cap⟩ sq target) s fun t =>
      t = qpSend seat qp 16 .nvme [seat, qp, cid, 0, 1] s ∧
      (SendsNow seat qp 16 s → SentOn seat qp 16 [⟨.nvme, [seat, qp, cid, 0, 1]⟩] s t) ∧ Frame [.regs, .fe, .out] s t) ∧
  (∀ s (seat qp cid off c v : Nat) (cap : Capsule) (y : Ctrl), Canonical s → AdminAt seat qp cid c y s → capCheck cap false 0 false = none → fget y.props off = some v →
    Completes (.nvmePropertyGet seat qp ⟨cid, cap⟩ off) s fun t =>
      t = qpSend seat qp 16 .nvme [seat, qp, cid, 0, v] s ∧
      (SendsNow seat qp 16 s → SentOn seat qp 16 [⟨.nvme, [seat, qp, cid, 0, v]⟩] s t) ∧ Frame [.regs, .fe, .out] s t) ∧
  (∀ s (seat qp cid off value c : Nat) (cap : Capsule) (y : Ctrl), Canonical s → AdminAt seat qp cid c y s → capCheck cap false 0 false = none →
    Completes (.nvmePropertySet seat qp ⟨cid, cap⟩ off value) s fun t =>
      ctrlOf t seat c = some { y with props := fset y.props off value } ∧
      (SendsNow seat qp 16 s → SentOn seat qp 16 [⟨.nvme, [seat, qp, cid, 0, 0]⟩] s t) ∧ Others [pairKey seat c] s.nv.ctrls t.nv.ctrls ∧
      Frame [.regs, .fe, .nv, .out] s t)

/-- R81, R82, R86, R88, R91: a Connect of an allowed host creates a controller with its admin queue, or an I/O queue of one; a Disconnect
ends an I/O queue; a controller whose Keep Alive timer expires is gone; an opcode the target does not serve completes with Invalid Command
Opcode; the engine takes a Flush and completes it, and a command that meets a refusal completes with it. -/
def Obligations.QueuesComplete : Prop :=
  (∀ s (seat qp cid qid nqn host kato n : Nat) (cap : Capsule) (x : Qp) (sub : Option Nat), Runs s → qpLive s seat qp = some x → subUp s seat x.subport = true → isBlocked s seat x.src = false → x.st = .ready → x.ctrl = none →
    x.pd = 0 → capCheck cap true 1024 true = none → connectTo s nqn host x.src = some sub → n < 4096 → ctrlOf s seat n = none →
    (∀ p < n, ctrlOf s seat p ≠ none) →
    Completes (.nvmeConnect seat qp ⟨cid, cap⟩ nqn host kato ⟨none, qid⟩) s fun t =>
      ctrlOf t seat n = some ⟨sub, host, qp, [], kato, 0, [], [], [], [], []⟩ ∧
      ((qpOf t seat qp).map (fun y => (y.st, y.admin, y.ctrl, y.pd, y.qid)) = some (.ready, true, some n, 0, qid)) ∧
      (SendsNow seat qp 16 s → t.out = ⟨.nvme, [seat, qp, cid, 0, n]⟩ :: s.out)) ∧
  (∀ s (seat qp cid qid nqn host kato n sub : Nat) (cap : Capsule) (x : Qp) (y : Ctrl), Runs s → qpLive s seat qp = some x → subUp s seat x.subport = true → isBlocked s seat x.src = false → x.st = .ready → x.ctrl = none →
    x.pd = 0 → capCheck cap true 1024 true = none → connectTo s nqn host x.src = some (some sub) → ctrlOf s seat n = some y →
    y.host = host → y.subsys = some sub → y.ioQps.length < 128 →
    Completes (.nvmeConnect seat qp ⟨cid, cap⟩ nqn host kato ⟨some n, qid⟩) s fun t =>
      ctrlOf t seat n = some { y with ioQps := y.ioQps ++ [qp] } ∧
      ((qpOf t seat qp).map (fun y => (y.st, y.admin, y.ctrl, y.pd, y.qid)) = some (.ready, false, some n, 0, qid)) ∧
      (SendsNow seat qp 16 s → t.out = ⟨.nvme, [seat, qp, cid, 0, n]⟩ :: s.out)) ∧
  (∀ s (seat qp cid c : Nat) (cap : Capsule) (x : Qp) (y : Ctrl), Runs s → qpLive s seat qp = some x → subUp s seat x.subport = true → isBlocked s seat x.src = false → x.st = .ready → x.admin = false →
    ctrlOfQp s seat qp = some (c, y) → capCheck cap false 0 false = none →
    Completes (.nvmeDisconnect seat qp ⟨cid, cap⟩) s fun t =>
      ctrlOf t seat c = some { y with ioQps := y.ioQps.filter (· != qp) } ∧
      ((qpOf t seat qp).map (fun x => (x.st, x.ctrl)) = some (.draining, none)) ∧
      (SendsNow seat qp 16 s → ⟨.nvme, [seat, qp, cid, 0, 0]⟩ ∈ t.out) ∧ ⟨.cm, [seat, x.src, 2, qp]⟩ ∈ t.out) ∧
  (∀ s (seat qp cid opcode : Nat) (x : Qp), Canonical s → Runs s → qpLive s seat qp = some x → subUp s seat x.subport = true → isBlocked s seat x.src = false → x.st = .ready →
    x.ctrl.isSome = true →
    Completes (.nvmeUnsupportedOpcode seat qp cid opcode) s fun t =>
      t = qpSend seat qp 16 .nvme [seat, qp, cid, 0x001, 0] s ∧
      (SendsNow seat qp 16 s → SentOn seat qp 16 [⟨.nvme, [seat, qp, cid, 0x001, 0]⟩] s t) ∧ Frame [.regs, .fe, .out] s t) ∧
  (∀ s (seat ctrl kaCount : Nat) (y : Ctrl), Runs s → ctrlOf s seat ctrl = some y → y.kaCount = kaCount → y.kato ≠ 0 → FSorted s.nv.ctrls →
    Completes (.katoExpiry seat ctrl kaCount) s fun t =>
      t.nv.ctrls = fdel s.nv.ctrls (pairKey seat ctrl) ∧
      ((qpOf s seat y.adminQp).isSome = true → (qpOf t seat y.adminQp).map Qp.st = some .draining)) ∧
  (∀ s (seat id cls : Nat) (c : Cmd) (a : Arb) (n : Ns) (x : Qp), Canonical s → Runs s → arbPick s seat = some (id, c, cls, a) → cmdOf s id = some c → c.op = .flush → nsOf s c.nsid = some n →
    cmdRefused s c = none → qpOf s c.seat c.qp = some x → x.st = .ready → (∀ p ∈ s.nv.pushq, p.seat = c.seat → p.qp ≠ c.qp) →
    FSorted s.nv.cmds →
    Completes (.engineTake seat) s fun t =>
      t.nv.cmds = fdel s.nv.cmds id ∧ (SendsNow c.seat c.qp 16 s → t.out = ⟨.nvme, [c.seat, c.qp, c.cid, 0, 0]⟩ :: s.out) ∧
      fget t.nv.arb seat = some a ∧ RegsOnly [Reg.NVQ_CMDS seat, Reg.FE_TX_BYTES c.seat x.subport] s t)

/-- R82, R89, R90, R94: on a ready I/O queue of a controller with room and with a free identifier, a Read, Write, Write Zeroes, Flush,
Dataset Management, Verify, Zone Append, Zone Management Send or Receive, or I/O Management Send or Receive waits in its queue with the
fields of its capsule; no register changes and nothing is sent. -/
def Obligations.IoCommandsArrive : Prop :=
  (∀ s (seat qp cid nsid lba count : Nat) (cap : Capsule), IoAt seat qp cid nsid s →
    Completes (.nvmeRead seat qp cid nsid lba count cap) s fun t =>
      Arrived seat qp cid nsid lba count .read cap s t) ∧
  (∀ s (seat qp cid nsid lba count : Nat) (cap : Capsule), IoAt seat qp cid nsid s →
    Completes (.nvmeWrite seat qp cid nsid lba count cap) s fun t =>
      Arrived seat qp cid nsid lba count .write cap s t) ∧
  (∀ s (seat qp cid nsid lba count : Nat) (cap : Capsule), IoAt seat qp cid nsid s →
    Completes (.nvmeWriteZeroes seat qp cid nsid lba count cap) s fun t =>
      Arrived seat qp cid nsid lba count .writeZeroes cap s t) ∧
  (∀ s (seat qp cid nsid : Nat) (cap : Capsule), IoAt seat qp cid nsid s →
    Completes (.nvmeFlush seat qp ⟨cid, cap⟩ nsid) s fun t =>
      Arrived seat qp cid nsid 0 0 .flush cap s t) ∧
  (∀ s (seat qp cid nsid : Nat) (ranges : List (Nat × Nat)) (cap : Capsule), IoAt seat qp cid nsid s →
    Completes (.nvmeDatasetManagement seat qp cid nsid ranges true cap) s fun t =>
      Arrived seat qp cid nsid ((ranges.head?.map Prod.fst).getD 0) (rangesCount ranges) (.deallocate ranges) cap s t) ∧
  (∀ s (seat qp cid nsid lba count : Nat) (cap : Capsule), IoAt seat qp cid nsid s →
    Completes (.nvmeVerify seat qp cid nsid lba count cap) s fun t =>
      Arrived seat qp cid nsid lba count .verify cap s t) ∧
  (∀ s (seat qp cid nsid lba count : Nat) (cap : Capsule), IoAt seat qp cid nsid s →
    Completes (.nvmeZoneAppend seat qp cid nsid lba count cap) s fun t =>
      Arrived seat qp cid nsid lba count .zoneAppend cap s t) ∧
  (∀ s (seat qp cid nsid lba action : Nat) (cap : Capsule), IoAt seat qp cid nsid s →
    Completes (.nvmeZoneMgmtSend seat qp ⟨cid, cap⟩ nsid lba action) s fun t =>
      Arrived seat qp cid nsid lba 1 (.zoneSend action) cap s t) ∧
  (∀ s (seat qp cid nsid lba : Nat) (cap : Capsule), IoAt seat qp cid nsid s →
    Completes (.nvmeZoneMgmtReceive seat qp ⟨cid, cap⟩ nsid lba) s fun t =>
      Arrived seat qp cid nsid lba 1 .zoneReceive cap s t) ∧
  (∀ s (seat qp cid nsid mo value : Nat) (cap : Capsule), IoAt seat qp cid nsid s →
    Completes (.nvmeIoMgmtSend seat qp ⟨cid, cap⟩ nsid mo value) s fun t =>
      Arrived seat qp cid nsid 0 0 (.ioSend mo) { cap with handle := some value } s t) ∧
  (∀ s (seat qp cid nsid mo : Nat) (cap : Capsule), IoAt seat qp cid nsid s →
    Completes (.nvmeIoMgmtReceive seat qp ⟨cid, cap⟩ nsid mo) s fun t =>
      Arrived seat qp cid nsid mo 0 .ioReceive cap s t)

/-- R100 to R135: a range lock nobody holds goes to its first request, whose write starts to move its data; a block's bytes land; a lookup
that finds nothing leaves its fingerprint; a job that ends keeps a frame no longer than the limit and stores other blocks raw (the frame's
length is the compressor's, an open function); a sealed block that arrives at its zone's home seat no longer moves; a complete group that
the peer covers is accepted, and with the last group of a command its completion posts; an early seal closes its row. -/
def Obligations.IngestCommandsComplete : Prop :=
  (∀ s (nsid granule id : Nat) (rest : List Nat) (c : Cmd), Canonical s → Runs s → fget s.ing.locks (lockKey nsid granule) = some (none, id :: rest) → cmdOf s id = some c → c.op = .write →
    c.stage = .locking → c.cap.inCapsule = false →
    locksHeld { s with ing := { s.ing with locks := fset s.ing.locks (lockKey nsid granule) (some id, rest) } } id = true →
    Completes (.rangeLockGrant nsid granule) s fun t =>
      fget t.ing.locks (lockKey nsid granule) = some (some id, rest) ∧ Others [lockKey nsid granule] s.ing.locks t.ing.locks ∧
      (cmdOf t id).map Cmd.stage = some .working ∧
      (RegsOnly ((qpOf s c.seat c.qp).toList.map fun x => Reg.FE_TX_BYTES c.seat x.subport) s t)) ∧
  (∀ s (cmd idx data : Nat) (md : Md) (c : Cmd) (b : Blk) (x : Qp), Canonical s → Runs s → cmdOf s cmd = some c → blkOf s cmd idx = some b → b.stage = .wanted → idx < c.count - c.toPull → data ≠ 0 →
    c.p.pi = 0 → c.p.zoned = false → c.p.dedup = true → c.failed = none → c.seat < 8 → qpLive s c.seat c.qp = some x →
    subUp s c.seat x.subport = true → isBlocked s c.seat x.src = false →
    Completes (.rdmaReadResponse cmd idx data md false .none) s fun t =>
      ((blkOf t cmd idx).map (fun b => (b.stage, b.data, b.stored, b.zero, b.looking, b.got)) = some (.landed, data, ⟨md.user, 0, 0⟩,
        false, true, unitBytes c)) ∧
      Others [pairKey cmd idx] s.ing.blks t.ing.blks ∧
      rd t (Reg.CAT_IN c.seat) = min (rd s (Reg.CAT_IN c.seat) + 4096) (2 ^ (Reg.CAT_IN c.seat).width - 1) ∧
      RegsOnly [Reg.CAT_IN c.seat, Reg.CMP_JOBS c.seat, Reg.FE_TX_BYTES c.seat x.subport] s t) ∧
  (∀ s (cmd idx : Nat) (c : Cmd) (b : Blk), Runs s → cmdOf s cmd = some c → blkOf s cmd idx = some b → b.looking = true → b.job = true →
    slotHas s c.seat (slotKey 1 c.p.domain 0) = true → fpFind (fpSet s c.seat (blkFp s c b)) (blkFp s c b) c.p.tenant = none →
    Completes (.fpLookupDone cmd ⟨idx, .none⟩) s fun t =>
      blkOf t cmd idx = some { b with fp := blkFp s c b, looking := false } ∧ Others [pairKey cmd idx] s.ing.blks t.ing.blks) ∧
  (∀ s (cmd idx : Nat) (verifyOk : Bool) (c : Cmd) (b : Blk), Runs s → cmdOf s cmd = some c → blkOf s cmd idx = some b → b.looking = true → b.job = true →
    Completes (.compressJobEnd cmd idx verifyOk .none) s fun t =>
      (Config.compressedLength b.data ((b.dict.map fun d => fgetD s.ing.dicts d 0).getD 0) ≤ keepLimit s c.seat → verifyOk = true → blkOf t
        cmd idx = some { b with job := false, frame := some (Config.compressedLength b.data ((b.dict.map fun d => fgetD s.ing.dicts d 0).getD 0)) }) ∧
      (keepLimit s c.seat < Config.compressedLength b.data ((b.dict.map fun d => fgetD s.ing.dicts d 0).getD 0) → blkOf t cmd idx = some
        { b with job := false, frame := none, dict := none }) ∧
      Others [pairKey cmd idx] s.ing.blks t.ing.blks) ∧
  (∀ s (cmd idx : Nat) (b : Blk), Runs s → blkOf s cmd idx = some b → b.stage = .moving →
    Completes (.zoneRecordsArrive cmd idx) s fun t =>
      (blkOf t cmd idx).map Blk.stage ≠ some .moving) ∧
  (∀ s (seat num lat : Nat) (g : Grp) (c : Cmd) (x : Qp), Runs s → s.pair.st = .paired → fget s.ing.grps (pairKey seat num) = some g → cmdOf s g.cmd = some c → c.groups = [num] →
    g.complete = true → g.acked = true → c.failed = none → c.left = 0 → groupSeat s c = seat → c.op = .write → g.hi = c.count →
    c.p.zoned = false → c.assigned = none → (entLines s c g).any (lineLeft seat num s) = false →
    (recLines s c g).any (lineLeft seat num s) = false → (g.recs.any fun d => (deltaLbas d).any fun n => tagThrottled s c.nsid n) = false →
    qpOf s c.seat c.qp = some x → x.st = .ready →
    Completes (.groupAccept seat num lat) s fun t =>
      (SendsNow c.seat c.qp 16 s → ⟨.nvme, [c.seat, c.qp, c.cid, 0, 0]⟩ ∈ t.out)) ∧
  (∀ s (pool row : Nat) (r : Row) (g : Group), Runs s → groupOf s pool = some g → fget g.rows row = some r → (fget g.bands (bandOf g row)).isSome = true → r.st = .opened →
    s.pair.st = .solo → rowWaited s pool row (max 1 (rd s (Reg.CAT_FT_CLOSE_STROKES r.seat))) = true →
    Completes (.ftEarlySeal pool row) s fun t =>
      ((rowOf t pool row).map (fun r => (r.sealedAt, r.st == .opened)) = some (s.stk.ext, false))) ∧
  (∀ s (pool row : Nat) (r : Row) (g : Group), Runs s → groupOf s pool = some g → fget g.rows row = some r → (fget g.bands (bandOf g row)).isSome = true → r.st = .opened →
    softNow s r.seat = true → r.lastAppend + rd s (Reg.CAT_SOFT_IDLE r.seat) ≤ s.stk.ext →
    Completes (.idleEarlySeal pool row) s fun t =>
      ((rowOf t pool row).map (fun r => (r.sealedAt, r.st == .opened)) = some (s.stk.ext, false)))

/-- R118, R119, R413: DICT_LOAD fills a slot that is empty and that nothing refers to, on every seat, and is refused on a loaded one;
DICT_RETIRE of a slot that is referred to waits, and of one that is not empties it; DICT_SAMPLE copies blocks of a namespace of an owned
side to the host. -/
def Obligations.DictionaryCommandsComplete : Prop :=
  (∀ s (slot dict tenant size id content : Nat) (system : Bool), Canonical s → CmdReady slot Opc.dictLoad s → readsOut s slot = false → dict < 256 → (system = true ∨ fhas s.nv.tenants tenant = true) →
    0 < size → size ≤ 65536 → id = 32768 + dict → dictRefs s dict = 0 → isSet s (Reg.CMP_DICT_LOADED 0 dict) = false → 0 < s.hw.seats →
    Completes (.dictLoad slot dict tenant size id content system true) s fun t =>
      Answers slot .ok 0 [] s t ∧ fget t.ing.dicts dict = some content ∧ rd t (Reg.CMP_DICT_LOADED 0 dict) = 1 ∧
      Others [dict] s.ing.dicts t.ing.dicts) ∧
  (∀ s (slot dict tenant size id content : Nat) (system : Bool), CmdReady slot Opc.dictLoad s → readsOut s slot = false → dict < 256 → (system = true ∨ fhas s.nv.tenants tenant = true) → 0 < size →
    size ≤ 65536 → id = 32768 + dict → isSet s (Reg.CMP_DICT_LOADED 0 dict) = true →
    Completes (.dictLoad slot dict tenant size id content system true) s fun t =>
      Answers slot .busy 0 [] s t ∧ t.ing.dicts = s.ing.dicts) ∧
  (∀ s (slot dict : Nat), Canonical s → CmdReady slot Opc.dictRetire s → dict < 256 → isSet s (Reg.CMP_DICT_LOADED 0 dict) = true →
    fhas s.ing.retiring dict = false → 0 < s.hw.seats → FSorted s.ing.dicts →
    Completes (.dictRetire slot dict) s fun t =>
      (dictRefs s dict = 0 → Answers slot .ok 0 [] s t ∧ t.ing.dicts = fdel s.ing.dicts dict) ∧
      (dictRefs s dict ≠ 0 → fget t.ing.retiring dict = some slot ∧ rd t (Reg.CMP_DICT_RETIRING 0 dict) = 1 ∧ (slotAt t slot).st = .running)) ∧
  (∀ s (slot nsid count : Nat) (n : Ns), CmdReady slot Opc.dictSample s → nsOf s nsid = some n → ownsSide s n.cur.p.side = true → s.pci.bme = true →
    Completes (.dictSample slot nsid count) s fun t =>
      Answers slot .ok 0 [] s t ∧ ⟨.hostWrite true, slot :: sampleBlocks s nsid count⟩ ∈ t.out ∧ Frame [.regs, .mbx, .pci, .out] s t)

/-- R146 to R148, R150, R152, R158 to R163: a page fill makes its page resident; a line that fills frees its lane and counts its cycles,
and one with an uncorrectable error is counted and fetched again; a checkpoint goes from images to root pages to anchors on each seat, and
completes when every seat's anchor is written; one that lasts 5,000 strokes is late; the oldest delta log page of a seat is programmed;
recovery loads the chosen generation's images or, on a device that never wrote an anchor (log entry 49, the model's choice), its delta log
alone. -/
def Obligations.MapCommandsComplete : Prop :=
  (∀ s (seat dir : Nat) (d : DirEnt), Canonical s → s.boot.halted = false → fget s.map.dirs dir = some d → d.resident = false → ownerSeat s (dirOwner dir) = seat →
    pageBudget s = none → fgetD s.map.fills seat [] = [] →
    Completes (.pageFillDone seat dir) s fun t =>
      fget t.map.dirs dir = some { d with resident := true } ∧
      rd t (Reg.MAP_PAGE_FILLS_COUNT seat) = min (rd s (Reg.MAP_PAGE_FILLS_COUNT seat) + 1) (2 ^ (Reg.MAP_PAGE_FILLS_COUNT seat).width - 1)
        ∧
      RegsOnly [Reg.MAP_PAGE_FILLS_COUNT seat] s t ∧ Others [dir] s.map.dirs t.map.dirs ∧ Frame [.regs, .map] s t) ∧
  (∀ s (seat lane cycles : Nat) (l : Lane), Canonical s → s.boot.halted = false → fget (tcOf s seat).lanes lane = some l → lane < 16 →
    (tcOf s seat).lanes.all (fun e => decide (e.1 < 16)) = true → FSorted (tcOf s seat).lanes → cmdOf s l.cmd = none →
    Completes (.tcLineFill seat lane ⟨cycles, false⟩) s fun t =>
      fget (tcOf t seat).lanes lane = none ∧ (((tcOf t seat).sets.any fun e => e.1 == tcSet l.line && e.2.contains (some l.line)) = true) ∧
      rd t (Reg.MAP_TC_FILL_CYCLES_COUNT seat) = min (rd s (Reg.MAP_TC_FILL_CYCLES_COUNT seat) + cycles) (2 ^ (Reg.MAP_TC_FILL_CYCLES_COUNT
        seat).width - 1) ∧
      RegsOnly [Reg.MAP_TC_FILL_CYCLES_COUNT seat, Reg.MAP_TC_EVICTIONS_COUNT seat] s t ∧ t.ing = { s.ing with grps := t.ing.grps } ∧
      Frame [.regs, .map, .ing] s t) ∧
  (∀ s (seat lane cycles : Nat) (l : Lane), Canonical s → s.boot.halted = false → fget (tcOf s seat).lanes lane = some l → lane < 16 →
    Completes (.tcLineFill seat lane ⟨cycles, true⟩) s fun t =>
      rd t (Reg.MAP_TC_ECC_ERR_COUNT seat) = min (rd s (Reg.MAP_TC_ECC_ERR_COUNT seat) + 1) (2 ^ (Reg.MAP_TC_ECC_ERR_COUNT seat).width - 1)
        ∧
      rd t (Reg.MAP_TC_FILL_CYCLES_COUNT seat) = min (rd s (Reg.MAP_TC_FILL_CYCLES_COUNT seat) + cycles) (2 ^ (Reg.MAP_TC_FILL_CYCLES_COUNT
        seat).width - 1) ∧
      RegsOnly [Reg.MAP_TC_ECC_ERR_COUNT seat, Reg.MAP_TC_FILL_CYCLES_COUNT seat] s t ∧ Frame [.regs] s t) ∧
  (∀ s (seat : Nat) (c : Ckpt), Canonical s → s.boot.halted = false → s.map.ckpt = some c → seat < s.hw.seats → fgetD c.stage seat 0 = 0 →
    Completes (.ckptImagesProgrammed seat) s fun t =>
      ((t.map.ckpt).map (fun x => (x.gen, x.ext, x.stage, x.late)) = some (c.gen, c.ext, fset c.stage seat 1, c.late)) ∧
      rd t (Reg.MAP_STATUS_DIRTY_FULL seat) = 0 ∧ RegsOnly [Reg.MAP_STATUS_DIRTY_FULL seat] s t ∧ Frame [.regs, .map] s t) ∧
  (∀ s (seat q : Nat) (c : Ckpt) (im : MapImage), Canonical s → s.boot.halted = false → s.map.ckpt = some c → fgetD c.stage seat 0 = 1 → seat < 128 → q = fgetD s.map.pageSeq seat 1 →
    im = { c.image with nextSeq := fset c.image.nextSeq seat (q + 1) } →
    Completes (.ckptRootProgrammed seat true) s fun t =>
      t.map.ckpt = some { c with image := im, stage := fset c.stage seat 2 } ∧
      fget t.map.anchors (pairKey seat (fgetD s.map.nextAnchor seat 0)) = some ⟨Config.boathouse seat q, c.gen, c.ext, fgetD
        c.image.logStart seat 0, true⟩ ∧
      fget t.map.images c.gen = some im ∧ ((fget t.map.heads (headKey seat q)).map (fun h => (h.kind, h.seq, h.done)) = some (6, q, true)) ∧
      RegsOnly [Reg.ANC_WRITES_COUNT seat 2] s t ∧ Frame [.regs, .map] s t) ∧
  (∀ s (c : Ckpt), Canonical s → s.boot.halted = false → s.map.ckpt = some c → (∀ n < s.hw.seats, fgetD c.stage n 0 = 2) → s.hw.seats ≤ 8 →
    Completes .ckptComplete s fun t =>
      t.map.ckpt = none ∧
      (∀ n < s.hw.seats, rd t (Reg.MAP_CKPT_GEN_GEN n) = c.gen % 16777216 ∧ rd t (Reg.MAP_CKPT_EXT n) = c.ext % 2 ^ 64 ∧ rd t
        (Reg.MAP_STATUS_CHECKPOINT n) = 0)) ∧
  (∀ s (c : Ckpt), Canonical s → s.boot.halted = false → s.map.ckpt = some c → c.late = false → c.ext + 5000 ≤ s.stk.ext → s.hw.seats ≤ 8 →
    0 < s.hw.seats →
    Completes .ckptLate s fun t =>
      t.map.ckpt = some { c with late := true } ∧
      (∀ n < s.hw.seats, rd t (Reg.MAP_CKPT_LATE_COUNT n) = min (rd s (Reg.MAP_CKPT_LATE_COUNT n) + 1) (2 ^ (Reg.MAP_CKPT_LATE_COUNT
        n).width - 1))) ∧
  (∀ s (seat : Nat) (p : DlogPage), s.boot.halted = false → (s.map.dlog.find? fun p => p.seat == seat && !p.programmed) = some p →
    Completes (.dlogPageProgrammed seat) s fun t =>
      (t.map.dlog = s.map.dlog.map fun x => if x.seat = seat ∧ x.seq = p.seq then { x with programmed := true } else x)) ∧
  (∀ s (bad badLog : List (Nat × Nat)), Canonical s → s.boot.halted = false → s.boot.mapDone = false → isSet s (Reg.MAP_STATUS_RECOVERING 0) = true → serviceMode s ≠ 2 →
    ((chosenGen s).all fun g => ((seatList s).all fun n => (anchorOf s n g).isSome) && (fget s.map.images g).isSome) = true →
    0 < s.hw.seats → s.hw.seats ≤ 8 →
    Completes (.mapRecovery ⟨bad, badLog⟩) s fun t =>
      t.boot.mapDone = true ∧ (∀ n < s.hw.seats, rd t (Reg.MAP_STATUS_RECOVERING n) = 0))

/-- R111, R154, R168 to R173, R181, R223, R237: the policy's victim becomes the pool's victim; an extent of the victim is first copied to
a new address, and its MOVE then moves the record there, or is dropped and counted when the extent is no longer live; a victim with
nothing valid, no pending MOVE and no read in flight becomes free; a band of free rows is erased on its members; the release sweep resets
a DEALLOCATED entry; a recount below saturation sets REFS; the dedup pass starts a command that holds the shared record; an LBA on a lost
row enters the lost-extent list. -/
def Obligations.CollectionCommandsComplete : Prop :=
  (∀ s (pool row : Nat) (wear : Bool) (wearing : List Nat) (g : Group) (r : Row), s.boot.halted = false → groupOf s pool = some g → g.victim = none → victimPick s pool g none = some (row, wear, wearing) →
    fget g.rows row = some r → ownsSide s g.side = true → mayRun s r.seat .gc = true → groupHeld s pool = false →
    Completes (.gcVictimSelect pool) s fun t =>
      groupOf t pool = some { g with victim := some row, wearing := wearing, sinceWear := if wear then 0 else g.sinceWear + 1 } ∧
      Others [pool] s.par.groups t.par.groups ∧ Frame [.par] s t) ∧
  (∀ s (pool addr new : Nat) (g : Group) (e : Ext) (r : Row), s.boot.halted = false → groupOf s pool = some g → fget s.par.exts addr = some e → e.pool = pool → g.victim = some e.row →
    fget g.copies addr = none → fget g.rows e.row = some r → extMovable s addr e = true → rowAllowed s g r = true →
    mayRun s r.seat .gc = true → (extAppend pool r.seat (moveStream s g r.seat r e) false r.slc e s).1 = some new →
    Completes (.gcMoveCommit pool addr true) s fun t =>
      ((groupOf t pool).map (fun g => fget g.copies addr) = some (some new))) ∧
  (∀ s (pool addr new : Nat) (tagsOk : Bool) (g : Group) (e : Ext) (x : Rec), Canonical s → s.boot.halted = false → groupOf s pool = some g → fget s.par.exts addr = some e → fget g.copies addr = some new →
    FSorted g.copies → e.handle % 34359738368 ≠ 0 → extLive s addr e = true → fget s.map.recs (recKey e.tenant e.handle) = some x →
    Completes (.gcMoveCommit pool addr tagsOk) s fun t =>
      fget t.map.recs (recKey e.tenant e.handle) = some { x with extent := new } ∧
      ((groupOf t pool).map (fun g => fget g.copies addr) = some none) ∧
      RegsKept [Reg.MAP_TC_WRITE_HITS_COUNT (recSeat s (recKey e.tenant e.handle)), Reg.MAP_TC_WRITE_MISSES_COUNT (recSeat s (recKey
        e.tenant e.handle)), Reg.MAP_TC_FILL_MERGE_COUNT (recSeat s (recKey e.tenant e.handle)), Reg.MAP_DLOG_SEQ (recSeat s (recKey
        e.tenant e.handle))] s t ∧
      Frame [.regs, .map, .par, .ing] s t) ∧
  (∀ s (pool addr new : Nat) (tagsOk : Bool) (g : Group) (e : Ext), Canonical s → s.boot.halted = false → groupOf s pool = some g → fget s.par.exts addr = some e → fget g.copies addr = some new →
    extLive s addr e = false → extPending s addr = false → e.handle % 34359738368 ≠ 0 →
    Completes (.gcMoveCommit pool addr tagsOk) s fun t =>
      rd t (Reg.MAP_MOVE_DROPPED_COUNT (recSeat s (recKey e.tenant e.handle))) = min (rd s (Reg.MAP_MOVE_DROPPED_COUNT (recSeat s (recKey
        e.tenant e.handle))) + 1) (2 ^ (Reg.MAP_MOVE_DROPPED_COUNT (recSeat s (recKey e.tenant e.handle))).width - 1) ∧
      RegsOnly [Reg.MAP_MOVE_DROPPED_COUNT (recSeat s (recKey e.tenant e.handle))] s t ∧ t.map.recs = s.map.recs ∧
      Frame [.regs, .par, .map] s t) ∧
  (∀ s (pool row : Nat) (g : Group) (r : Row), Canonical s → s.boot.halted = false → groupOf s pool = some g → rowOf s pool row = some r → r.st = .programmed → r.rewrite = false →
    g.victim = some row → rowHeld s pool row = [] → r.moves = [] → r.readers = 0 →
    Completes (.rowErase pool row) s fun t =>
      rowOf t pool row = some { r with st := .freed, ahead := false, verify := false, dram := false, busy := false } ∧
      ((groupOf t pool).map (fun g => (g.victim, g.gcRows)) = some (none, g.gcRows + 1)) ∧
      RegsKept [Reg.PKG_DURABILITY_REDUNDANT, Reg.PKG_DURABILITY_CHANGED] s t ∧ Frame [.regs, .health, .pci, .par, .out] s t) ∧
  (∀ s (pool band : Nat) (g : Group) (b : Band), s.boot.halted = false → groupOf s pool = some g → fget g.bands band = some b → ownsSide s g.side = true →
    erasesOut s pool band = false → bandReady s pool band g b = true → (memberShare g b 0).isSome = true → b.blocks[0]?.isSome = true →
    geomW (geomOf g b.geom) ≠ 0 →
    Completes (.bandErase pool band) s fun t =>
      erasesOut t pool band = true) ∧
  (∀ s (owner lba : Nat), s.boot.halted = false → mayRun s (ownerSeat s owner) .sweep = true → fhas s.map.releasing owner = false → owner < 4294967296 →
    entSt (entAt s owner lba) = .dealloc → tagThrottled s owner lba = false →
    Completes (.releaseSweep owner lba) s fun t =>
      entSt (entAt t owner lba) = .unmapped ∧ (entAt t owner lba).replay = ((entAt s owner lba).replay + 1) % 65536) ∧
  (∀ s (tenant handle : Nat) (r : Rec) (n : Nat), s.boot.halted = false → fget s.map.recs (recKey tenant handle) = some r → r.refs = refsMax → s.map.images ≠ [] →
    mayRun s (recSeat s (recKey tenant handle)) .sweep = true → (tenantPages s tenant).foldl (fun n p => n + pageNames s handle p) 0 = n →
    0 < n → n < refsMax →
    Completes (.refRecountSweep tenant handle) s fun t =>
      fget t.map.recs (recKey tenant handle) = some { r with refs := n }) ∧
  (∀ s (nsid lba handle : Nat) (n : Ns) (a b : Rec), s.boot.halted = false → nsOf s nsid = some n → recOf s n.cur.p.tenant (entAt s nsid lba).handle = some a →
    recOf s n.cur.p.tenant handle = some b → entSt (entAt s nsid lba) = .mapped → (entAt s nsid lba).handle ≠ handle →
    n.cur.p.dedup = true → n.cur.p.zoned = false → fget s.ing.locks (lockKey nsid (lba / 16)) = none →
    isSet s (Reg.MAP_CTRL_DEDUP_PASS (homeSeat s nsid)) = true → mayRun s (homeSeat s nsid) .sweep = true → ownsSide s n.cur.p.side = true →
    n.cur.adm = .opened → b.refs ≠ 0 → fpLogged s n.cur.p.tenant (entAt s nsid lba).handle handle = true → samePlain s a b = true →
    Completes (.dedupPass nsid lba handle) s fun t =>
      ((cmdOf t s.nv.nextCmd).map (fun c => (c.qp, c.nsid, c.lba, c.count)) = some (16384, nsid, lba, 1)) ∧
      (fget t.map.recs (recKey n.cur.p.tenant handle)).map Rec.holds = some (b.holds + 1) ∧
      fget t.ing.locks (lockKey nsid (lba / 16)) = some (some s.nv.nextCmd, [])) ∧
  (∀ s (nsid lba : Nat) (r : Rec) (e : Ext), Canonical s → s.boot.halted = false → entSt (entAt s nsid lba) = .mapped →
    recOf s (ownerTenant s nsid) (entAt s nsid lba).handle = some r → fget s.par.exts r.extent = some e → extLost s e = true →
    mayRun s (homeSeat s nsid) .sweep = true → fhas s.map.lost (lbaKey nsid lba) = false →
    Completes (.lostSweep nsid lba) s fun t =>
      fget t.map.lost (lbaKey nsid lba) = some e.pool ∧ Others [lbaKey nsid lba] s.map.lost t.map.lost ∧ RegsKept [] s t)

/-- R228, R232 to R235, R240 to R242: a row whose data opens and whose parity disagrees is PARITY_BAD and queued for collection; the
rebuild's next row is written on its targets, which no longer hold erasures of it; the walk converts its next row and goes on after it. -/
def Obligations.StripeCommandsComplete : Prop :=
  (∀ s (pool row : Nat) (pages : List (List Nat)) (g : Group) (r : Row), Canonical s → Runs s → groupOf s pool = some g → rowOf s pool row = some r → r.verify = true → r.st = .programmed →
    isSet s (Reg.PAR_CTRL_BG_VERIFY r.seat) = true → mayRun s r.seat .sweep = true → ownsSide s g.side = true →
    parityAgrees (geomOf g r.geom).k (geomOf g r.geom).m row pages = false →
    Completes (.parityVerify pool row true pages) s fun t =>
      ((rowOf t pool row).map (fun r => (r.verify, r.ahead)) = some (false, true)) ∧
      rd t (Reg.PAR_PARITY_BAD_COUNT r.seat) = min (rd s (Reg.PAR_PARITY_BAD_COUNT r.seat) + 1) (2 ^ (Reg.PAR_PARITY_BAD_COUNT
        r.seat).width - 1) ∧
      RegsOnly [Reg.PAR_PARITY_BAD_COUNT r.seat] s t ∧ Frame [.regs, .par, .rate] s t) ∧
  (∀ s (pool row n : Nat) (g : Group) (b : Band) (r : Row), Runs s → groupHeld s pool = false → groupOf s pool = some g → catchNext s pool g = none → rebuildBand g = some (n, b) →
    rebuildRow g n = some row → fget g.rows row = some r → isSet s (Reg.PAR_CTRL_REBUILD_EN r.seat) = true →
    mayRun s r.seat .rebuild = true → ownsSide s g.side = true → rowK g row ≤ (aliveMembers g row).length →
    Completes (.rebuildRow pool row true true) s fun t =>
      ((rowOf t pool row).map (fun r => (rebuildMembers g b).all fun m => !r.erased.contains m) = some true)) ∧
  (∀ s (g : Group) (row : Nat) (r : Row), Runs s → groupOf s s.par.reshape.pool = some g → s.par.reshape.st = .forward → s.par.reshape.reverse = false →
    s.par.reshape.turning = false → s.par.reshape.redo = none → ownsSide s g.side = true → walkHeld s g s.par.reshape = false →
    walkNext g s.par.reshape = some row → fget g.rows row = some r → r.st = .programmed → r.rewrite = false →
    s.par.reshape.inStroke < walkRate s → mayRun s r.seat .reshape = true →
    ((rowMovable s s.par.reshape.pool row).foldl (fun x e => if x.1 then extMove s.par.reshape.pool e.1 x.2 else x) (true, s)).1 = true →
    Completes .reshapeRowConvert s fun t =>
      (t.par.reshape.st, t.par.reshape.boundary, t.par.reshape.converted) = (.forward, rowAfter g false row, s.par.reshape.converted + 1))

/-- R210, R211, R213, R231, R239, R413: a group over shares that can be had is created; one without data is deleted; its spares are set; a
share is declared lost; a target is named for a lost share; a reshape starts at row 1 (its statuses are the model's choice, log entry 53). -/
def Obligations.GroupCommandsComplete : Prop :=
  (∀ s (slot pool side k m dies : Nat) (shares : List (Nat × Nat)) (ageGrouped : Bool) (l : List Share), CmdReady slot Opc.groupCreate s → pool < 32 → groupOf s pool = none → geomOk k m (shares.map (·.1)) = true → ownsSide s side = true →
    sharesAt s side dies shares = some l →
    Completes (.groupCreate slot pool side k m dies shares ageGrouped) s fun t =>
      Answers slot .ok 0 [] s t ∧
      ((groupOf t pool).map (fun g => (g.side, g.geoms, g.cur, g.dies, g.ageGrouped)) = some (side, [(0, ⟨k, m, l⟩)], 0, dies, ageGrouped))
        ∧
      fget t.pair.own (ownKey true pool) = some ⟨side, side, 0, 0, none⟩) ∧
  (∀ s (slot pool : Nat) (g : Group), CmdReady slot Opc.groupDelete s → groupOf s pool = some g → ownsSide s g.side = true → poolHolds s pool = false →
    (s.par.reshape.st = .idle ∨ s.par.reshape.pool ≠ pool) → FSorted s.par.groups →
    Completes (.groupDelete slot pool) s fun t =>
      Answers slot .ok 0 [] s t ∧ t.par.groups = fdel s.par.groups pool) ∧
  (∀ s (slot pool : Nat) (slots : List Nat) (g : Group), CmdReady slot Opc.groupSpareSet s → groupOf s pool = some g → ownsSide s g.side = true → slots.eraseDups = slots →
    slots.any (fun n => decide (slotCount s ≤ n) || (curGeom g).shares.any fun sh => sh.slot == n && !sh.lost) = false →
    orphanShares g = [] →
    Completes (.groupSpareSet slot pool slots) s fun t =>
      Answers slot .ok 0 [] s t ∧ groupOf t pool = some { g with spares := slots }) ∧
  (∀ s (slot pool member : Nat) (g : Group) (sh : Share), CmdReady slot Opc.groupShareFail s → groupOf s pool = some g → ownsSide s g.side = true → (curGeom g).shares[member]? = some sh →
    Completes (.groupShareFail slot pool member) s fun t =>
      Answers slot .ok 0 [] s t ∧ ((groupOf t pool).map (fun g => ((curGeom g).shares[member]?).map Share.lost) = some (some true))) ∧
  (∀ s (slot pool member target : Nat) (g : Group) (sh x : Share), CmdReady slot Opc.groupRebuildTarget s → groupOf s pool = some g → ownsSide s g.side = true → (curGeom g).shares[member]? = some sh →
    sh.lost = true → rebuildOf g sh = none → target < slotCount s → isSet s (Reg.BLD_SLOT_STATUS_ATTESTED target) = true →
    (curGeom g).shares.any (fun x => x.slot == target && !x.lost) = false → shareFit s target g = some x →
    Completes (.groupRebuildTarget slot pool member target) s fun t =>
      Answers slot .ok 0 [] s t ∧ (((groupOf t pool).bind fun g => rebuildOf g sh).map Rebuild.target = some x)) ∧
  (∀ s (slot pool k m : Nat) (shares : List (Nat × Nat)) (g : Group) (l : List Share), CmdReady slot Opc.groupReshape s → groupOf s pool = some g → ownsSide s g.side = true → s.par.reshape.st = .idle →
    geomOk k m (shares.map (·.1)) = true → sharesFor s g shares = some l → 10 * poolValid s pool ≤ 9 * (poolRows g * k * 1024) →
    groupState g < 3 → g.failed = false → g.readOnly = false →
    Completes (.groupReshape slot pool k m shares) s fun t =>
      Answers slot .ok 0 [] s t ∧
      (t.par.reshape.st, t.par.reshape.pool, t.par.reshape.boundary, t.par.reshape.start, t.par.reshape.src) = (.forward, pool, 1, 1,
        g.cur) ∧
      ((groupOf t pool).map (fun g => fget g.geoms t.par.reshape.tgt) = some (some ⟨k, m, l⟩)))

/-- R190, R191: a unit whose row is not settled is read from the DRAM copy; one that reads as zeros is placed. R216: a reconstruction
counts its bytes. R194, R205: an extent that opens is counted and its data placed by an RDMA WRITE while the window has room; R195: one of
the DRAM copy whose header is not its record's is counted and opened a second time. -/
def Obligations.ReadsComplete : Prop :=
  (∀ s (cmd idx : Nat) (w : Waits) (c : Cmd) (u : RUnit) (m : MapEnt) (r : Rec) (e : Ext) (g : Group) (x : Row), Canonical s → Runs s → cmdOf s cmd = some c → unitOf s cmd idx = some u → u.stage = .lookup → u.blocked = false → u.ent = some m →
    entSt m = .mapped → u.rcd = some r → unitExt s u = some e → groupOf s e.pool = some g → fhas s.map.lost (lbaKey c.nsid u.lba) = false →
    addrValid s u.addr r.length = true → extLost s e = false → fget g.rows e.row = some x → rowUnsettled x = true →
    Completes (.mapLookupDone cmd idx w) s fun t =>
      unitOf t cmd idx = some { u with dram := true, stage := .opening } ∧
      rd t (Reg.NVQ_RD_DRAM_SERVED_COUNT c.seat) = min (rd s (Reg.NVQ_RD_DRAM_SERVED_COUNT c.seat) + 1) (2 ^ (Reg.NVQ_RD_DRAM_SERVED_COUNT
        c.seat).width - 1)) ∧
  (∀ s (cmd idx : Nat) (c : Cmd) (u : RUnit) (e : Ext) (g : Group), Runs s → cmdOf s cmd = some c → unitOf s cmd idx = some u → u.stage = .members → u.waiting = [] → unitExt s u = some e →
    groupOf s e.pool = some g →
    Completes (.parityReconstructDone cmd idx true) s fun t =>
      unitOf t cmd idx = some { u with rebuilt := true, stage := .opening }) ∧
  (∀ s (cmd idx lat : Nat) (seen : ExtSeen) (c : Cmd) (u : RUnit) (e : Ext) (g : Group), Canonical s → Runs s → cmdOf s cmd = some c → c.op = .read → c.p.pi = 0 → unitOf s cmd idx = some u → u.stage = .opening →
    u.again = false → unitExt s u = some e → groupOf s e.pool = some g → slotHas s c.seat (extKey s cmd e) = true →
    openCheck c u e (extKey s cmd e) seen = none →
    Completes (.extentOpened cmd idx lat seen.header seen.body ⟨seen.frame, seen.sumOk⟩) s fun t =>
      ((qpOf s c.seat c.qp).isSome = true → SendsNow c.seat c.qp (unitBytes c) s → (t.out.any fun o => o.kind == .rdma && o.args.take 6 ==
        [c.seat, c.qp, 5, cmd, idx, (unitData s c u).1]) = true) ∧
      rd t (Reg.CIP_OPENS c.seat) = min (rd s (Reg.CIP_OPENS c.seat) + 1) (2 ^ (Reg.CIP_OPENS c.seat).width - 1)) ∧
  (∀ s (cmd idx lat : Nat) (seen : ExtSeen) (c : Cmd) (u : RUnit) (e : Ext) (g : Group), Canonical s → Runs s → cmdOf s cmd = some c → unitOf s cmd idx = some u → u.stage = .opening → u.again = false → u.dram = true →
    unitExt s u = some e → groupOf s e.pool = some g → (fget g.rows e.row).any rowUnsettled = true →
    slotHas s c.seat (extKey s cmd e) = true → openCheck c u e (extKey s cmd e) seen = some 2 →
    Completes (.extentOpened cmd idx lat seen.header seen.body ⟨seen.frame, seen.sumOk⟩) s fun t =>
      ((unitOf t cmd idx).map (fun u => (u.stage, u.again)) = some (.opening, true)) ∧
      rd t (Reg.NVQ_RD_OPEN_FAIL_COUNT c.seat) = min (rd s (Reg.NVQ_RD_OPEN_FAIL_COUNT c.seat) + 1) (2 ^ (Reg.NVQ_RD_OPEN_FAIL_COUNT
        c.seat).width - 1) ∧
      rd t (Reg.PAR_TAG_MISMATCH_COUNT c.seat) = min (rd s (Reg.PAR_TAG_MISMATCH_COUNT c.seat) + 1) (2 ^ (Reg.PAR_TAG_MISMATCH_COUNT
        c.seat).width - 1) ∧
      RegsOnly [Reg.NVQ_RD_OPEN_FAIL_COUNT c.seat, Reg.PAR_TAG_MISMATCH_COUNT c.seat] s t ∧ Frame [.regs, .rds] s t)

/-- R250, R252, R254, R273: a trained link is UP with the credits the bridge advertised and this end advertises its buffers; a training of
200 strokes leaves it DOWN (the bound is the model's, log entry 57); a link that drops while the slot keeps its power is retrained and
counted; a retrain past its limit fails the port. -/
def Obligations.LinkCommandsComplete : Prop :=
  (∀ s (slot cmdBuf wdataBuf mgmtBuf : Nat), Canonical s → Runs s → slot < slotCount s → slot < 96 → linkUp s slot = false → portEnabled s slot = true → coxRuns s = true →
    isSet s (Reg.BLD_SLOT_STATUS_PDS slot) = true → (portOf s slot).retrain = false →
    Completes (.oarLinkTrained slot cmdBuf wdataBuf mgmtBuf) s fun t =>
      linkState t slot = 2 ∧ isSet t (Reg.BLD_SLOT_STATUS_LINK_UP slot) = true ∧
      (rd t (creditReg slot 0), rd t (creditReg slot 1), rd t (creditReg slot 4)) = (min 255 cmdBuf, min 255 wdataBuf, min 255 mgmtBuf) ∧
      ⟨.oar, [slot, 3, 3, 4095, 64, 256, 8]⟩ ∈ t.out ∧ (portOf t slot).theirs = [64, 256, 8]) ∧
  (∀ s (slot : Nat), Canonical s → Runs s → slot < slotCount s → isSet s (Reg.BLD_SLOT_STATUS_PDS slot) = true → portEnabled s slot = true →
    linkState s slot = 1 → (portOf s slot).retrain = false → (portOf s slot).trainAt + 200 ≤ s.stk.ext →
    Completes (.oarTrainRetry slot) s fun t =>
      linkState t slot = 0 ∧ RegsOnly [portReg Reg.OAR_PORT_STATUS_STATE slot] s t ∧ Frame [.regs] s t) ∧
  (∀ s (slot : Nat), Canonical s → Runs s → slot < slotCount s → isSet s (Reg.BLD_SLOT_STATUS_PDS slot) = true → portEnabled s slot = true →
    linkState s slot = 0 → (portOf s slot).trainAt + 1000 ≤ s.stk.ext →
    Completes (.oarTrainRetry slot) s fun t =>
      linkState t slot = 1 ∧ ((portOf t slot).retrain, (portOf t slot).trainAt) = (false, s.stk.ext) ∧
      RegsOnly [portReg Reg.OAR_PORT_STATUS_STATE slot] s t ∧ Frame [.regs, .bld] s t) ∧
  (∀ s (slot : Nat), Canonical s → Runs s → slot < 96 → linkUp s slot = true → fhas s.upd.restarts slot = false →
    isSet s (Reg.BLD_SLOT_STATUS_PWREN slot) = true → (faultCount (slotSeat slot) 1 slot none [slot] (oarRetrainBase slot s)).2 = false →
    Completes (.oarLinkDown slot) s fun t =>
      linkState t slot = 1 ∧ isSet t (Reg.BLD_SLOT_STATUS_LINK_UP slot) = false ∧
      ((portOf t slot).retrain, (portOf t slot).trainAt) = (true, s.stk.ext)) ∧
  (∀ s (slot : Nat), Canonical s → Runs s → linkState s slot = 1 → (portOf s slot).retrain = true →
    (portOf s slot).trainAt + rd s (Reg.OAR_RETRAIN_LIMIT_STROKES (slot / 12)) ≤ s.stk.ext → (portOf s slot).cmds = [] →
    (portOf s slot).dies = [] → s.par.groups = [] → s.ing.blks = [] → s.map.discard = none → s.upd.restarts = [] →
    (slotOf s slot).attestSlot = none → slot < 96 →
    Completes (.oarRetrainLimit slot) s fun t =>
      linkState t slot = 4 ∧ isSet t (Reg.BLD_SLOT_STATUS_ATTESTED slot) = false ∧ (portOf t slot).retrain = false)

/-- R251 to R254, R259 to R266: a frame in sequence is taken and its credit owed back; acknowledgements free frames; a NAK, a time-out or
a RESUME replays what is not acknowledged; timers send acknowledgements and credits; a read record counts its bytes and its codeword; a
completion frees its tag; an overdue command keeps its tag. -/
def Obligations.FrameCommandsComplete : Prop :=
  (∀ s (slot seq ack chan len i : Nat) (credits : List Nat) (m : MgmtMsg), Runs s → linkUp s slot = true → chan ≤ 4 → len ≤ 4160 → seq = ((portOf s slot).rxSeq + 1) % 4096 → (portOf s slot).rxSeq < 4096 →
    rxChannel chan = some i → 0 < (portOf s slot).theirs.getD i 0 → (portOf s slot).queue = [] → m = .other → (portOf s slot).sinceAck < 7 →
    s.par.groups = [] → s.ing.blks = [] → s.map.discard = none →
    Completes (.oarDataFrame slot seq ack chan len credits true true m) s fun t =>
      (portOf t slot).rxSeq = seq ∧
      ((portOf t slot).theirs, (portOf t slot).owed) = (listDec (portOf s slot).theirs i, listInc (portOf s slot).owed i) ∧
      ((portOf t slot).unacked = (portOf s slot).unacked.filter fun f => oarLater f.seq ack)) ∧
  (∀ s (slot ack : Nat) (credits : List Nat), Canonical s → Runs s → linkUp s slot = true → slot < 96 → (portOf s slot).queue = [] →
    Completes (.oarAck slot ⟨ack, credits⟩) s fun t =>
      ((portOf t slot).unacked = (portOf s slot).unacked.filter fun f => oarLater f.seq ack) ∧
      rd t (creditReg slot 1) = min (rd s (creditReg slot 1) + credits.getD 1 0) 255 ∧
      RegsOnly [creditReg slot 0, creditReg slot 1, creditReg slot 4] s t ∧ Frame [.regs, .bld] s t) ∧
  (∀ s (slot ack : Nat) (credits : List Nat) (f : OarFrame), Runs s → linkUp s slot = true → (portOf s slot).queue = [] → (portOf s slot).unacked = [f] → oarLater f.seq ack = true →
    (portOf s slot).replays < 4 →
    Completes (.oarNak slot ⟨ack, credits⟩) s fun t =>
      (portOf t slot).replays = (portOf s slot).replays + 1 ∧
      t.out = ⟨.oar, [slot, f.channel, f.seq, (portOf s slot).rxSeq] ++ (portOf s slot).owed ++ f.payload⟩ :: s.out ∧
      ((portOf t slot).theirs, (portOf t slot).owed) = (owedBack (portOf s slot), [0, 0, 0]) ∧ Frame [.regs, .bld, .out] s t) ∧
  (∀ s (slot ack : Nat) (credits : List Nat), Canonical s → Runs s → linkUp s slot = true → slot < 96 → (portOf s slot).queue = [] →
    Completes (.oarIdle slot ack credits) s fun t =>
      ((portOf t slot).unacked = (portOf s slot).unacked.filter fun f => oarLater f.seq ack) ∧
      rd t (creditReg slot 0) = min (rd s (creditReg slot 0) + credits.getD 0 0) 255 ∧
      RegsOnly [creditReg slot 0, creditReg slot 1, creditReg slot 4] s t ∧ Frame [.regs, .bld] s t) ∧
  (∀ s (slot last : Nat) (credits : List Nat) (f : OarFrame), Runs s → linkUp s slot = true → (portOf s slot).queue = [] → (portOf s slot).unacked = [f] → oarLater f.seq last = true →
    Completes (.oarResume slot ⟨last, credits⟩) s fun t =>
      t.out = ⟨.oar, [slot, f.channel, f.seq, (portOf s slot).rxSeq] ++ (portOf s slot).owed ++ f.payload⟩ :: s.out ∧
      ((portOf t slot).theirs, (portOf t slot).owed) = (owedBack (portOf s slot), [0, 0, 0]) ∧ Frame [.regs, .bld, .out] s t) ∧
  (∀ s (slot : Nat) (f : OarFrame), Runs s → linkUp s slot = true → (portOf s slot).unacked = [f] → f.seq < 4096 → (portOf s slot).replays < 4 →
    Completes (.oarReplayTimeout slot) s fun t =>
      (portOf t slot).replays = (portOf s slot).replays + 1 ∧
      t.out = ⟨.oar, [slot, f.channel, f.seq, (portOf s slot).rxSeq] ++ (portOf s slot).owed ++ f.payload⟩ :: s.out ∧
      ((portOf t slot).theirs, (portOf t slot).owed) = (owedBack (portOf s slot), [0, 0, 0]) ∧ Frame [.regs, .bld, .out] s t) ∧
  (∀ s (slot : Nat), Runs s → linkUp s slot = true → 0 < (portOf s slot).sinceAck →
    Completes (.oarAckTimer slot) s fun t =>
      t.out = ⟨.oar, [slot, 3, 1, (portOf s slot).rxSeq] ++ (portOf s slot).owed⟩ :: s.out ∧
      portOf t slot = { portOf s slot with sinceAck := 0, theirs := owedBack (portOf s slot), owed := [0, 0, 0] } ∧ Frame [.bld, .out] s t) ∧
  (∀ s (slot : Nat), Runs s → linkUp s slot = true → (portOf s slot).owed ≠ [0, 0, 0] →
    Completes (.oarCreditIdle slot) s fun t =>
      t.out = ⟨.oar, [slot, 3, 3, (portOf s slot).rxSeq] ++ (portOf s slot).owed⟩ :: s.out ∧
      portOf t slot = { portOf s slot with sinceAck := 0, theirs := owedBack (portOf s slot), owed := [0, 0, 0] } ∧ Frame [.bld, .out] s t) ∧
  (∀ s (slot tag cw bits : Nat) (raw : Bool) (c : NandCmd), Canonical s → Runs s → linkUp s slot = true → fget (portOf s slot).cmds tag = some c → c.opcode = opRead →
    Completes (.oarReadRecord slot tag cw bits raw false true true) s fun t =>
      fget (portOf t slot).cmds tag = some { c with left := c.left - 1 } ∧
      rd t (portReg Reg.OAR_PORT_RD_BYTES slot) = min (rd s (portReg Reg.OAR_PORT_RD_BYTES slot) + 16 + (if raw then 2304 else 2064)) (2 ^
        (portReg Reg.OAR_PORT_RD_BYTES slot).width - 1) ∧
      RegsOnly [portReg Reg.OAR_PORT_RD_BYTES slot, portReg Reg.OAR_PORT_RAW_CW_COUNT slot] s t ∧ Frame [.regs, .bld] s t) ∧
  (∀ s (slot tag status micros : Nat) (c : NandCmd), Canonical s → Runs s → linkUp s slot = true → fget (portOf s slot).cmds tag = some c → c.late = true → (portOf s slot).dies = [] →
    s.ing.blks = [] → s.map.discard = none → s.par.groups = [] → FSorted (portOf s slot).cmds →
    Completes (.oarCompletion slot tag status micros) s fun t =>
      (portOf t slot).cmds = fdel (portOf s slot).cmds tag ∧
      rd t (portReg Reg.OAR_PORT_LATE_COUNT slot) = min (rd s (portReg Reg.OAR_PORT_LATE_COUNT slot) + 1) (2 ^ (portReg
        Reg.OAR_PORT_LATE_COUNT slot).width - 1)) ∧
  (∀ s (slot tag micros id idx m : Nat) (c : NandCmd) (u : RUnit), Runs s → linkUp s slot = true → fget (portOf s slot).cmds tag = some c → c.late = false → c.opcode = opRead → c.left = 0 → c.bad = 0 →
    c.use = .member id idx m → unitOf s id idx = some u → u.stage = .members →
    Completes (.oarCompletion slot tag 0 micros) s fun t =>
      ((unitOf t id idx).map (fun u => (u.stage, u.waiting)) = some (.members, u.waiting.filter (· != m)))) ∧
  (∀ s (slot tag : Nat) (c : NandCmd), Runs s → fget (portOf s slot).cmds tag = some c → c.late = false → c.due ≤ nowTicks s → c.use = .control → c.opcode ≠ opSuspend →
    (portOf s slot).dies = [] → s.ing.blks = [] → s.map.discard = none → s.par.groups = [] →
    Completes (.oarCmdTimeout slot tag) s fun t =>
      fget (portOf t slot).cmds tag = some { c with late := true })

/-- R10, R269 to R271, R273: a blade that is present gets power and begins to train; one that is gone is DOWN, without power and not
attested; writes of PWR_OFF and of the indicators wait for the stroke boundary, and power cannot be taken from a blade that holds a share. -/
def Obligations.SlotCommandsComplete : Prop :=
  (∀ s (slot : Nat), Canonical s → Runs s → slot < slotCount s → slot < 96 → coxRuns s = true → portEnabled s slot = true →
    isSet s (Reg.BLD_SLOT_STATUS_PDS slot) = false → isSet s (Reg.BLD_SLOT_STATUS_PWREN slot) = false →
    isSet s Reg.BLD_CTRL_AUTO_POWER = true → linkUp s slot = false →
    Completes (.slotPresentStable slot) s fun t =>
      isSet t (Reg.BLD_SLOT_STATUS_PDS slot) = true ∧ isSet t (Reg.BLD_SLOT_STATUS_PDC slot) = true ∧
      isSet t (Reg.BLD_SLOT_STATUS_PWREN slot) = true ∧ isSet t (Reg.BLD_SLOT_CTRL_PWR_OFF slot) = false ∧ linkState t slot = 1 ∧
      ⟨.pin, [16 + slot, 1]⟩ ∈ t.out ∧ (slotOf t slot).poweredAt = s.stk.ext) ∧
  (∀ s (slot : Nat), Canonical s → Runs s → slot < slotCount s → slot < 96 → isSet s (Reg.BLD_SLOT_STATUS_PDS slot) = true → (portOf s slot).cmds = [] →
    (portOf s slot).dies = [] → s.par.groups = [] → s.ing.blks = [] → s.map.discard = none → s.upd.restarts = [] →
    (slotOf s slot).attestSlot = none →
    Completes (.slotAbsentDetect slot) s fun t =>
      isSet t (Reg.BLD_SLOT_STATUS_PDS slot) = false ∧ isSet t (Reg.BLD_SLOT_STATUS_PWREN slot) = false ∧
      isSet t (Reg.BLD_SLOT_STATUS_ATTESTED slot) = false ∧ linkState t slot = 0 ∧ portOf t slot = portReset) ∧
  (∀ s (slot : Nat) (off : Bool), slot < slotCount s → (off = false ∨ sharesOn s slot = []) →
    Completes (.bldPwrOffWrite slot off) s fun t =>
      t.bus.waiting = fset s.bus.waiting (Reg.BLD_SLOT_CTRL_PWR_OFF slot).key (Reg.BLD_SLOT_CTRL_PWR_OFF slot, b2n off) ∧ Frame [.bus] s t) ∧
  (∀ s (slot : Nat), Canonical s → slot < slotCount s → isSet s (Reg.BLD_SLOT_STATUS_PDS slot) = true → sharesOn s slot ≠ [] →
    Completes (.bldPwrOffWrite slot true) s fun t =>
      isSet t (Reg.BLD_SLOT_STATUS_POWER_REFUSED slot) = true ∧
      t.bus.waiting = fset s.bus.waiting (Reg.BLD_SLOT_CTRL_PWR_OFF slot).key (Reg.BLD_SLOT_CTRL_PWR_OFF slot, 0) ∧
      RegsOnly [Reg.BLD_SLOT_STATUS_POWER_REFUSED slot] s t ∧ Frame [.regs, .bus] s t) ∧
  (∀ s (slot attn pwr : Nat), slot < slotCount s →
    Completes (.bldIndicatorWrite slot attn pwr) s fun t =>
      t.bus.waiting = fset (fset s.bus.waiting (Reg.BLD_SLOT_CTRL_ATTN_IND slot).key (Reg.BLD_SLOT_CTRL_ATTN_IND slot, attn % 4))
        (Reg.BLD_SLOT_CTRL_PWR_IND slot).key (Reg.BLD_SLOT_CTRL_PWR_IND slot, pwr % 4) ∧
      Frame [.bus] s t)

/-- R272, R274 to R276, R420: a chain from an enrolled root with a signature that verifies and allowed measurements opens the session and
tells the geometry; anything else is a failure; a session whose heartbeat is not answered in 1,000 strokes is attested again; BLADE_INFO
tells what the head knows; BLADE_ATTEST starts an attestation and waits for its end. -/
def Obligations.AttestationCommandsComplete : Prop :=
  (∀ s (slot root : Nat) (measures : List Nat) (g : BladeGeom), Canonical s → Runs s → slot < 96 → s.hw.seats ≤ 8 → linkUp s slot = true → (slotOf s slot).attesting.isSome = true →
    s.bld.roots.contains root = true → measures.all (fun m => s.bld.allowed.contains m) = true → fget s.upd.restarts slot = none →
    (slotOf s slot).attestSlot = none → s.par.groups = [] → s.ing.blks = [] → s.map.discard = none →
    Completes (.bladeAttestDone slot root true measures g) s fun t =>
      isSet t (Reg.BLD_SLOT_STATUS_ATTESTED slot) = true ∧ isSet t (portReg Reg.OAR_PORT_STATUS_SESSION slot) = true ∧
      (slotOf t slot).geom = some g ∧ (slotOf t slot).attesting = none ∧ rd t (Reg.BLD_SLOT_INFO_LEVELS slot) = max 1 (min 16 g.levels)) ∧
  (∀ s (slot root : Nat) (sigOk : Bool) (measures : List Nat) (g : BladeGeom), Canonical s → Runs s → slot < 96 → linkUp s slot = true → (slotOf s slot).attesting.isSome = true →
    (s.bld.roots.contains root = false ∨ sigOk = false ∨ measures.all (fun m => s.bld.allowed.contains m) = false) →
    (slotOf s slot).attestSlot = none → s.par.groups = [] → s.ing.blks = [] → s.map.discard = none → s.upd.restarts = [] →
    Completes (.bladeAttestDone slot root sigOk measures g) s fun t =>
      isSet t (Reg.BLD_SLOT_STATUS_ATTESTED slot) = false ∧ isSet t (Reg.BLD_SLOT_STATUS_ATTEST_FAILED slot) = true ∧
      isSet t (portReg Reg.OAR_PORT_STATUS_SESSION slot) = false ∧ (slotOf t slot).attesting = none) ∧
  (∀ s (slot h : Nat), Canonical s → Runs s → slot < 96 → (portOf s slot).heartbeat = some h → h + 1000 ≤ s.stk.ext → linkUp s slot = true →
    (portOf s slot).cmds = [] → (portOf s slot).dies = [] → s.par.groups = [] → s.ing.blks = [] → s.map.discard = none →
    Completes (.bladeHeartbeatTimeout slot) s fun t =>
      ⟨.spdm, [slot, 0]⟩ ∈ t.out ∧ (slotOf t slot).attesting = some s.stk.ext ∧ isSet t (Reg.BLD_SLOT_STATUS_ATTESTED slot) = false) ∧
  (∀ s (slot blade : Nat) (g : BladeGeom), CmdReady slot Opc.bladeInfo s → blade < slotCount s → (slotOf s blade).geom = some g →
    Completes (.bladeInfo slot blade) s fun t =>
      Answers slot .ok 0 [g.dies, g.blocks, g.pages, g.slcPages, g.levels, g.tR, g.tProg, g.tErase, g.slcLevels, g.slcR, g.slcProg,
        g.slcErase, rd s (Reg.BLD_SLOT_STATUS_ATTESTED blade), rd s (Reg.BLD_SLOT_STATUS_ATTEST_FAILED blade), rd s
        (Reg.BLD_SLOT_HEALTH_BRIDGE_C blade), rd s (Reg.BLD_SLOT_HEALTH_NAND_C blade), rd s (Reg.BLD_SLOT_HEALTH_POWER blade), (slotOf s
        blade).fw, (slotOf s blade).uptime, (slotOf s blade).rails, b2n (slotOf s blade).button, (slotOf s blade).shown] s t ∧
      Frame [.regs, .health, .mbx, .pci, .out] s t) ∧
  (∀ s (slot blade : Nat), CmdReady slot Opc.bladeAttest s → blade < slotCount s → linkUp s blade = true → (slotOf s blade).attesting = none →
    (slotOf s blade).attestSlot = none →
    Completes (.bladeAttest slot blade) s fun t =>
      ⟨.spdm, [blade, 0]⟩ ∈ t.out ∧ slotOf t blade = { slotOf s blade with attesting := some s.stk.ext, attestSlot := some slot } ∧
      Frame [.mbx, .bld, .out] s t)

/-- R271, R281 to R287: a frame for another node goes on with one hop less; a health reply is noted; a poll unanswered is sent again once,
then missed; an indicator request is acknowledged, or goes round the other way; a button sets its event. -/
def Obligations.RingCommandsComplete : Prop :=
  (∀ s (cw : Bool) (dest src type seq hops stamp : Nat) (payload : List Nat), dest ≠ ringNode s → 1 < hops →
    Completes (.ringFrameReceive cw true dest ⟨src, type, seq, hops, stamp, payload⟩) s fun t =>
      t.out = ⟨.ring, [b2n (!cw), dest, src, type, seq, payload.length, hops - 1, stamp] ++ payload⟩ :: s.out ∧ Frame [.out] s t) ∧
  (∀ s (cw crcOk : Bool) (dest src type seq hops stamp : Nat) (payload : List Nat), Canonical s → (crcOk = false ∨ (dest ≠ ringNode s ∧ hops ≤ 1)) →
    Completes (.ringFrameReceive cw crcOk dest ⟨src, type, seq, hops, stamp, payload⟩) s fun t =>
      rd t Reg.RING_CRC_ERR_COUNT = min (rd s Reg.RING_CRC_ERR_COUNT + 1) (2 ^ Reg.RING_CRC_ERR_COUNT.width - 1) ∧
      RegsOnly [Reg.RING_CRC_ERR_COUNT] s t ∧ Frame [.regs] s t) ∧
  (∀ s (cw : Bool) (dest src type seq hops stamp : Nat) (payload : List Nat), dest = ringNode s →
    Completes (.ringFrameReceive cw true dest ⟨src, type, seq, hops, stamp, payload⟩) s fun t =>
      Frame [] s t) ∧
  (∀ s (slot : Nat) (h : HealthReply) (w : Sweep), Canonical s → Runs s → slot < 96 → s.bld.sweep = some w → w.out = [(slot, false)] → w.todo ≠ [] →
    w.todo.all (fun n => decide (n < 96)) = true → isSet s (Reg.BLD_SLOT_STATUS_IND_PENDING slot) = false → h.powerFault = false →
    Completes (.ringHealthReply slot h) s fun t =>
      (rd t (Reg.BLD_SLOT_HEALTH_BRIDGE_C slot), rd t (Reg.BLD_SLOT_HEALTH_NAND_C slot), rd t (Reg.BLD_SLOT_HEALTH_POWER slot)) =
        (h.bridgeC % 256, h.nandC % 256, h.power % 65536) ∧
      isSet t (Reg.BLD_SLOT_STATUS_STALE slot) = false ∧ ((slotOf t slot).fw, (slotOf t slot).uptime) = (h.fw, h.uptime) ∧
      ((slotOf t slot).rails, (slotOf t slot).button, (slotOf t slot).shown) = (h.rails, h.button, h.shown)) ∧
  (∀ s (slot : Nat) (w : Sweep), Runs s → s.bld.sweep = some w → w.out.find? (fun x => x.1 == slot) = some (slot, false) →
    Completes (.ringPollTimeout slot) s fun t =>
      t.out = ⟨.ring, [b2n w.ccw, slot, ringNode s, 1, s.bld.ringSeq, 0, 200, strokeCount s]⟩ :: s.out ∧
      (t.bld.sweep = some { w with out := w.out.map fun x => if x.1 = slot then (slot, true) else x }) ∧ Frame [.bld, .out] s t) ∧
  (∀ s (slot : Nat), Canonical s → Runs s → (slotOf s slot).indReq.isSome = true →
    Completes (.ringIndAck slot) s fun t =>
      slotOf t slot = { slotOf s slot with indReq := none } ∧ isSet t (Reg.BLD_SLOT_STATUS_IND_PENDING slot) = false ∧
      RegsOnly [Reg.BLD_SLOT_STATUS_IND_PENDING slot] s t ∧ Frame [.regs, .bld] s t) ∧
  (∀ s (slot : Nat), Canonical s → Runs s → (slotOf s slot).indReq = some 0 →
    Completes (.ringIndAckTimeout slot) s fun t =>
      slotOf t slot = { slotOf s slot with indReq := some 1 } ∧
      rd t Reg.RING_IND_RETRY_COUNT = min (rd s Reg.RING_IND_RETRY_COUNT + 1) (2 ^ Reg.RING_IND_RETRY_COUNT.width - 1) ∧
      RegsOnly [Reg.RING_IND_RETRY_COUNT] s t ∧ Frame [.regs, .bld, .out] s t) ∧
  (∀ s (slot d : Nat), Canonical s → Runs s → (slotOf s slot).indReq = some (d + 1) →
    Completes (.ringIndAckTimeout slot) s fun t =>
      slotOf t slot = { slotOf s slot with indReq := none } ∧ isSet t (Reg.BLD_SLOT_STATUS_IND_PENDING slot) = true ∧
      Frame [.regs, .bld] s t) ∧
  (∀ s (slot : Nat) (cw : Bool) (seq stamp : Nat), Canonical s → Runs s → slot < slotCount s → slot < 96 →
    Completes (.ringButton ⟨slot, cw, seq, stamp⟩) s fun t =>
      rd t Reg.RING_BUTTON_COUNT = min (rd s Reg.RING_BUTTON_COUNT + 1) (2 ^ Reg.RING_BUTTON_COUNT.width - 1) ∧
      isSet t (Reg.BLD_SLOT_STATUS_ABP slot) = true ∧ RegsKept [Reg.RING_BUTTON_COUNT, Reg.BLD_SLOT_STATUS_ABP slot] s t ∧
      ⟨.ring, [b2n cw, slot, ringNode s, 6, seq, 0, 200, stamp]⟩ ∈ t.out)

/-- R295, R297, R303, R304: a trained lane carries frames; one that loses training does not, and fails after 100 strokes; it returns after
1,000; a frame goes out at a tick at which its lane is free and its window admits it, and waits for its acknowledgement; an
acknowledgement that is owed waits for the lane without a frame of its own, and goes out in the M window; a frame that has waited its
strokes is sent again with all after it. -/
def Obligations.LaneCommandsComplete : Prop :=
  (∀ s (seat : Nat), Canonical s → seat < s.hw.seats → coxRuns s = true → (lane9 s seat).trainedAt = none → rd s (Reg.PAIR_LANE_STATUS_STATE seat) ≠ 3 →
    Completes (.pairLaneTrained seat) s fun t =>
      rd t (Reg.PAIR_LANE_STATUS_STATE seat) = 2 ∧ lane9 t seat = { lane9 s seat with trainedAt := some s.stk.ext, lostAt := none } ∧
      Frame [.regs, .pair] s t) ∧
  (∀ s (seat : Nat), Canonical s → (lane9 s seat).trainedAt.isSome = true → rd s (Reg.PAIR_LANE_STATUS_STATE seat) = 2 →
    Completes (.pairLaneTrainingLost seat) s fun t =>
      rd t (Reg.PAIR_LANE_STATUS_STATE seat) = 1 ∧ lane9 t seat = { lane9 s seat with trainedAt := none, lostAt := some s.stk.ext } ∧
      Frame [.regs, .pair] s t) ∧
  (∀ s (seat x : Nat), Canonical s → (lane9 s seat).lostAt = some x → x + 100 ≤ s.stk.ext → rd s (Reg.PAIR_LANE_STATUS_STATE seat) ≠ 3 →
    Completes (.pairLaneFail seat) s fun t =>
      rd t (Reg.PAIR_LANE_STATUS_STATE seat) = 3 ∧ isSet t Reg.PAIR_EVENTS_LANE_FAILED = true ∧ (lane9 t seat).lostAt = none) ∧
  (∀ s (seat x : Nat), Canonical s → (lane9 s seat).trainedAt = some x → rd s (Reg.PAIR_LANE_STATUS_STATE seat) = 3 → (lane9 s seat).disabled = false →
    x + 1000 ≤ s.stk.ext →
    Completes (.pairLaneReturn seat) s fun t =>
      rd t (Reg.PAIR_LANE_STATUS_STATE seat) = 2 ∧ isSet t Reg.PAIR_EVENTS_LANE_RESTORED = true) ∧
  (∀ s (lane tick bytes : Nat) (load : PairLoad) (l : List (PairLoad × Nat)), Canonical s → Runs s → hasSession s = true → laneUp s lane = true → (lane9 s lane).freeAt ≤ tick → laneStreams s lane clsC = [lane] →
    rd s (Reg.PAIR_LANE_STATUS_VIA lane) = lane → (lane9 s lane).again = [] → (lane9 s lane).unacked.length < 1024 →
    (lane9 s lane).queue.getD 0 [] = (load, bytes) :: l → tick + laneTime bytes ≤ rd s Reg.PAIR_WIN_LAYOUT_C → 0 < laneTime bytes →
    rd s (Reg.PAIR_LANE_KEY_FRAMES lane) + 1 < rekeyAt s →
    Completes (.pairFrameSend lane tick) s fun t =>
      (lane9 t lane).unacked = (lane9 s lane).unacked ++ [⟨rd s (Reg.PAIR_LANE_TX_SEQ_SEQ lane), load, bytes, 0, 0⟩] ∧
      (lane9 t lane).queue = (lane9 s lane).queue.set 0 l ∧ ((lane9 t lane).freeAt, (lane9 t lane).owed) = (tick + laneTime bytes, false) ∧
      rd t (Reg.PAIR_LANE_TX_SEQ_SEQ lane) = (rd s (Reg.PAIR_LANE_TX_SEQ_SEQ lane) + 1) % 4294967296 ∧
      t.out = ⟨.pair, frameHead s lane clsC (loadType load) bytes (rd s (Reg.PAIR_LANE_TX_SEQ_SEQ lane)) 0 ++ loadWords load⟩ :: s.out) ∧
  (∀ s (lane tick : Nat) (l : List Nat), Canonical s → Runs s → hasSession s = true → laneUp s lane = true → (lane9 s lane).freeAt ≤ tick → laneStreams s lane clsM = [lane] →
    rd s (Reg.PAIR_LANE_STATUS_VIA lane) = lane → (lane9 s lane).bare = 6 :: l → rd s Reg.PAIR_WIN_LAYOUT_C ≤ tick →
    tick + laneTime 0 ≤ rd s Reg.PAIR_WIN_LAYOUT_C + mWindow s (rd s Reg.STK_PERIOD_TICKS) →
    rd s (Reg.PAIR_LANE_KEY_FRAMES lane) + 1 < rekeyAt s →
    Completes (.pairFrameSend lane tick) s fun t =>
      ((lane9 t lane).bare, (lane9 t lane).owed) = (l, false) ∧
      rd t (Reg.PAIR_LANE_TX_SEQ_SEQ lane) = rd s (Reg.PAIR_LANE_TX_SEQ_SEQ lane) ∧ t.out = ⟨.pair, frameHead s lane clsM 6 0 0 0⟩ :: s.out) ∧
  (∀ s (seat : Nat), hasSession s = true → (lane9 s seat).owed = true → (lane9 s seat).bare.contains 6 = false →
    Completes (.pairAckTimer seat) s fun t =>
      lane9 t seat = { lane9 s seat with bare := (lane9 s seat).bare ++ [6] } ∧ Frame [.pair] s t) ∧
  (∀ s (seat : Nat) (f : PairFrame) (l : List PairFrame), Runs s → (lane9 s seat).unacked = f :: l → max 1 (rd s (Reg.PAIR_RETX_STROKES seat)) ≤ f.waited →
    (lane9 s seat).again.contains f.seq = false →
    Completes (.pairRetxTimeout seat) s fun t =>
      lane9 t seat = { lane9 s seat with again := (f :: l).map (·.seq) } ∧ Frame [.pair] s t)

/-- R126, R127, R301 to R305, R307, R316, R317: a frame under the current key and in sequence is taken: a group with its last record
enters the standby view in one step, a CONTROL frame does what it says, an acknowledgement frees the frames it covers, a NAK sends the
rest again; a heartbeat is noted; a C window without one counts. -/
def Obligations.PairFramesComplete : Prop :=
  (∀ s (seat : Nat) (h : Hello), Runs s → s.pair.joinFrom.isSome = true → laneUp s seat = true → s.pair.step < 3 → s.pair.st = .alone → helloBad s h = false →
    subMod 32 h.stroke (strokeCount s) ≤ 1 →
    Completes (.pairHello seat h) s fun t =>
      (t.pair.step, t.pair.claim, t.pair.st) = (3, none, .alone) ∧
      t.pair.peer = some ⟨h.seats, h.side, h.media, h.st, h.owned, 0, h.term, false, 0, h.reads, h.minor, h.locked, h.wasReference⟩ ∧
      Frame [.regs, .pair] s t) ∧
  (∀ s (seat stroke : Nat), Canonical s → Runs s → laneUp s seat = true → s.pair.step = 3 → s.pair.st = .alone →
    Completes (.pairExchange seat true ⟨true, stroke⟩) s fun t =>
      (t.pair.step, t.pair.st, t.pair.peer) = (4, .joining, s.pair.peer) ∧ isSet t Reg.KEY_STATUS_PAIR_KEK = true) ∧
  (∀ s (seat : Nat) (b : Beat), Canonical s → Runs s → s.pair.st = .paired → s.pair.step = 7 → laneUp s seat = true → b.st = .paired → b.hold = false →
    Completes (.pairHeartbeat seat true b) s fun t =>
      (t.pair.heard, t.pair.lastHeard, t.pair.st) = (true, s.stk.ext, .paired) ∧
      t.pair.term = (if strokeLater b.term s.pair.term then b.term else s.pair.term) ∧
      (t.pair.peer.map (fun p => (p.st, p.owned, p.gen, p.term, p.hold)) = s.pair.peer.map (fun _ => (b.st, b.owned, b.gen, b.term,
        b.hold))) ∧
      rd t Reg.STK_PEER_OFFSET_TICKS = twos 16 (phaseNorm s ((s.stk.tick : Int) - (b.sendTick + b.flight : Nat))) ∧
      t.stk.peerSteered = b.steered) ∧
  (∀ s (seat c sw g u : Nat) (f : PHdr), Canonical s → Runs s → hasSession s = true → f.auth = true → f.keyId = (lane9 s seat).rxKey → (lane9 s f.lane).trainedAt.isSome = true →
    f.refuse = none → (lane9 s seat).unacked = [] → f.seq = rd s (Reg.PAIR_LANE_RX_SEQ_SEQ seat) →
    Completes (.pairControl seat f (.windows c sw g u)) s fun t =>
      t.pair.windows = some (c, sw, g, u) ∧ rd t (Reg.PAIR_LANE_RX_SEQ_SEQ seat) = (f.seq + 1) % 4294967296 ∧ (lane9 t seat).owed = true) ∧
  (∀ s (seat : Nat) (f : PHdr) (d : Delta), Canonical s → Runs s → hasSession s = true → f.auth = true → f.keyId = (lane9 s seat).rxKey → (lane9 s f.lane).trainedAt.isSome = true →
    f.refuse = none → (lane9 s seat).unacked = [] → f.seq = rd s (Reg.PAIR_LANE_RX_SEQ_SEQ seat) → f.valid = true → d.last = true →
    journalForm d = true → journalTags d = true → (lane9 s seat).held = [] → (lane9 s seat).dropped = [] → (lane9 s seat).lastGroup = none →
    Completes (.pairJournal seat f [d]) s fun t =>
      (viewAt t seat).overlay = (viewAt s seat).overlay ++ [(s.stk.ext, { offWire d with ext := none })] ∧
      rd t (Reg.PAIR_LANE_RX_SEQ_SEQ seat) = (f.seq + 1) % 4294967296) ∧
  (∀ s (seat : Nat) (f : PHdr), Runs s → hasSession s = true → f.auth = true → f.keyId = (lane9 s seat).rxKey → (lane9 s f.lane).trainedAt.isSome = true →
    f.refuse = none →
    Completes (.pairAck seat f) s fun t =>
      ((lane9 t seat).unacked = (lane9 s seat).unacked.filter fun x => !seqUpTo x.seq f.ack)) ∧
  (∀ s (seat : Nat) (f : PHdr), Canonical s → Runs s → hasSession s = true → f.auth = true → f.keyId = (lane9 s seat).rxKey → (lane9 s f.lane).trainedAt.isSome = true →
    f.refuse = none → (lane9 s seat).unacked.all (fun x => !seqUpTo x.seq f.ack) = true →
    Completes (.pairNak seat f) s fun t =>
      (lane9 t seat).again = (lane9 s seat).unacked.map (·.seq) ∧
      rd t (Reg.PAIR_LANE_NAK_COUNT seat) = min (rd s (Reg.PAIR_LANE_NAK_COUNT seat) + 1) (2 ^ (Reg.PAIR_LANE_NAK_COUNT seat).width - 1)) ∧
  (∀ s (seat page : Nat) (f : PHdr) (recs : List Delta) (rows : List (Nat × Nat)), Runs s → hasSession s = true → f.auth = true → f.keyId = (lane9 s seat).rxKey → (lane9 s f.lane).trainedAt.isSome = true →
    f.refuse = none → (lane9 s seat).unacked = [] → f.seq = rd s (Reg.PAIR_LANE_RX_SEQ_SEQ seat) → f.valid = true →
    recs.all syncForm = true →
    Completes (.pairMapSync seat f page recs rows) s fun t =>
      (((viewAt t seat).page, (viewAt t seat).sync) = (page, (viewAt s seat).sync ++ recs.map fun d => (s.stk.ext, d))) ∧
      (lane9 t seat).owed = true) ∧
  (∀ s (seat : Nat) (f : PHdr) (recs : List Delta), Runs s → hasSession s = true → f.auth = true → f.keyId = (lane9 s seat).rxKey → (lane9 s f.lane).trainedAt.isSome = true →
    f.refuse = none → (lane9 s seat).unacked = [] → f.seq = rd s (Reg.PAIR_LANE_RX_SEQ_SEQ seat) → f.valid = true →
    recs.all journalTags = true → recs.all (fun d => !(s.pair.sides ++ s.pair.recovered).contains (deltaSide s d)) = true →
    Completes (.pairBulk seat f recs []) s fun t =>
      ((viewAt t seat).overlay = (viewAt s seat).overlay ++ recs.map fun d => (s.stk.ext, { offWire d with ext := none })) ∧
      (lane9 t seat).owed = true) ∧
  (∀ s, Canonical s → Runs s → hasSession s = true → s.pair.heard = true →
    Completes .cWindowClose s fun t =>
      rd t Reg.PAIR_HB_MISSED_COUNT = 0 ∧ t.pair = { s.pair with heard := false } ∧ Frame [.regs, .pair] s t) ∧
  (∀ s, Canonical s → Runs s → hasSession s = true → s.pair.heard = false → rd s Reg.PAIR_HB_MISSED_COUNT < 999 →
    Completes .cWindowClose s fun t =>
      rd t Reg.PAIR_HB_MISSED_COUNT = rd s Reg.PAIR_HB_MISSED_COUNT + 1 ∧ t.pair = s.pair ∧ Frame [.regs] s t)

/-- R279, R312, R315, R321, R322, R326: a reply that does not decide the claim is kept; an undecided claim waits for its retry; a new
claim asks every attested blade under a later term; a fence acknowledged names its owner; a blade that does not acknowledge loses its
shares; a refused join is tried again; the fences of sides that return are raised once nothing of them is in flight. -/
def Obligations.ClaimCommandsComplete : Prop :=
  (∀ s (slot term side : Nat) (c : Claim), Runs s → s.pair.claim = some c → c.asked.contains slot = true → fhas c.replies slot = false → term = c.term →
    claimLoses s { c with replies := fset c.replies slot (mySide s) } = false →
    claimWins s { c with replies := fset c.replies slot (mySide s) } = false →
    c.asked.all (fun n => fhas (fset c.replies slot (mySide s)) n) = false →
    Completes (.witnessReply slot term side true) s fun t =>
      t.pair = { s.pair with claim := some { c with replies := fset c.replies slot (mySide s) }, term := if strokeLater term s.pair.term then term else s.pair.term } ∧
      Frame [.pair] s t) ∧
  (∀ s (c : Claim), Runs s → s.pair.claim = some c → c.started + max 1 (rd s Reg.PAIR_CLAIM_TIMEOUT) ≤ s.stk.ext →
    s.pair.undecided + 1 < rd s Reg.PAIR_CLAIM_RETRIES →
    Completes .claimTimeout s fun t =>
      t.pair = { s.pair with claim := none, undecided := s.pair.undecided + 1, retryAt := some (s.stk.ext + if mySide s = 0 then 10 else 100) } ∧
      Frame [.pair] s t) ∧
  (∀ s (u : Nat), Runs s → s.pair.retryAt = some u → u ≤ s.stk.ext → s.pair.claim = none → s.pair.st = .armed → attestedSlots s ≠ [] → s.par.groups ≠ [] →
    Completes .claimRetry s fun t =>
      t.pair.claim = some ⟨newEpoch s % 4294967296, s.stk.ext, [], attestedSlots s, false⟩ ∧ t.pair.term = newEpoch s % 4294967296) ∧
  (∀ s (slot epoch o u : Nat) (log : List (Nat × List Delta)), Canonical s → slot < 96 → epoch < 4294967296 → (slotOf s slot).fencing = some (o, epoch, u) → s.pair.take = none →
    s.pair.failback = none →
    Completes (.fenceAck slot epoch log) s fun t =>
      (slotOf t slot).fencing = none ∧ rd t (Reg.BLD_SLOT_FENCE_EPOCH slot) = epoch ∧
      isSet t (portReg Reg.OAR_PORT_STATUS_OWNER slot) = (o == myPort s)) ∧
  (∀ s (slot o e u pool : Nat) (log : List (Nat × List Delta)) (g : Group), (slotOf s slot).fencing = some (o, e, u) → u + rd s Reg.PAIR_FENCE_TIMEOUT_STROKES ≤ s.stk.ext → s.pair.take = none →
    s.pair.failback = none → groupOf s pool = some g →
    Completes (.pairFenceTimeout slot log) s fun t =>
      ((groupOf t pool).map (fun g => (curGeom g).shares.all fun sh => sh.slot != slot || sh.lost) = some true)) ∧
  (∀ s (u : Nat), Runs s → s.pair.joinFrom = some u → s.pair.st = .alone → u + rd s Reg.PAIR_JOIN_WAIT_STROKES ≤ s.stk.ext → s.pair.helloSeen = false →
    s.pair.claim = none → s.pair.retryAt = none → attestedSlots s ≠ [] → s.par.groups ≠ [] →
    Completes .pairJoinWaitExpiry s fun t =>
      t.pair.claim = some ⟨newEpoch s % 4294967296, s.stk.ext, [], attestedSlots s, true⟩ ∧ t.pair.st = .alone) ∧
  (∀ s (u : Nat), s.pair.refusedAt = some u → u + 10000 ≤ s.stk.ext →
    Completes .pairJoinRetry s fun t =>
      t.pair = { s.pair with refusedAt := none } ∧ Frame [.pair] s t) ∧
  (∀ s (f : Failback), Runs s → s.pair.failback = some f → f.step = 1 → f.incoming = false → drained s f.sides = true →
    Completes .failbackFence s fun t =>
      t.pair.failback = some { f with step := 2 } ∧ t.pair.term = newEpoch s)

/-- R295, R298, R315, R327, R328: the status is told; failback is held; a handover names its stroke and waits; a head that is alone
claims; a layout within its bounds is applied by both heads at its stroke; a lane is let return or failed. -/
def Obligations.PairCommandsComplete : Prop :=
  (∀ s (slot : Nat), CmdReady slot Opc.pairStatusGet s →
    Completes (.pairStatusGet slot) s fun t =>
      (Answers slot .ok 0 ([pairStNum s.pair.st, bitsOf [s.pair.sides.contains 0, s.pair.sides.contains 1]] ++ (seatList s).map (fun n =>
        rd s (Reg.PAIR_LANE_STATUS_STATE n)) ++ [(s.pair.failback.map Failback.f).getD 0, rd s Reg.PAIR_TAKEOVER_STROKES_STROKES]) s t) ∧
      t.pair = s.pair) ∧
  (∀ s (slot : Nat) (hold : Bool), CmdReady slot Opc.pairFailbackHold s → s.pair.failback = none →
    Completes (.pairFailbackHold slot hold) s fun t =>
      Answers slot .ok 0 [] s t ∧ t.pair = { s.pair with hold := hold }) ∧
  (∀ s (slot : Nat), CmdReady slot Opc.pairHandover s → s.pair.st = .paired → s.pair.failback = none → s.pair.sides ≠ [] →
    Completes (.pairHandover slot) s fun t =>
      t.pair.failback = some ⟨s.stk.ext + 100, s.pair.sides, 0, some slot, false⟩ ∧ (slotAt t slot).st = .running) ∧
  (∀ s (slot : Nat), CmdReady slot Opc.pairGoSolo s → s.pair.st = .alone → s.pair.claim = none → attestedSlots s ≠ [] → s.par.groups ≠ [] →
    Completes (.pairGoSolo slot) s fun t =>
      Answers slot .ok 0 [] s t ∧ t.pair.claim = some ⟨newEpoch s % 4294967296, s.stk.ext, [], attestedSlots s, true⟩) ∧
  (∀ s (slot c sw g u : Nat), CmdReady slot Opc.pairWindowsSet s → s.pair.st = .paired → windowsBad s c sw g u = none →
    Completes (.pairWindowsSet slot c sw g u) s fun t =>
      Answers slot .ok 0 [] s t ∧ t.pair.windows = some (c, sw, g, u)) ∧
  (∀ s (slot lane : Nat), CmdReady slot Opc.pairLaneSet s → lane < s.hw.seats →
    Completes (.pairLaneSet slot lane true) s fun t =>
      Answers slot .ok 0 [] s t ∧ lane9 t lane = { lane9 s lane with disabled := false }) ∧
  (∀ s (slot lane : Nat), Canonical s → CmdReady slot Opc.pairLaneSet s → lane < s.hw.seats → rd s (Reg.PAIR_LANE_STATUS_STATE lane) ≠ 3 →
    Completes (.pairLaneSet slot lane false) s fun t =>
      Answers slot .ok 0 [] s t ∧ (lane9 t lane).disabled = true ∧ rd t (Reg.PAIR_LANE_STATUS_STATE lane) = 3 ∧
      isSet t Reg.PAIR_EVENTS_LANE_FAILED = true)

/-- R342, R343, R347, R349, R351: the engine computes the enabled loops that fit and counts those that do not; set-points and open rates
are kept for the next stroke edge; entries are staged under an easy-all; a table is copied to the host; the select register names the loop
shown. -/
def Obligations.RatingCommandsComplete : Prop :=
  (∀ s (seat start cycles : Nat) (i : Nat), Canonical s → (rateSeat s seat).computed = false → start ≤ 200 → start < rd s Reg.STK_PERIOD_TICKS →
    isSet s (Reg.RATE_CTRL_ENABLE seat) = true → isSet s (Reg.RATE_STATUS_FROZEN seat) = false → enabledLoops (rateSeat s seat) = [i] →
    loopCost (fgetD (rateSeat s seat).loops i loopReset) ≤ min cycles ((rd s Reg.STK_PERIOD_TICKS - start) * 15) →
    Completes (.rateCompute seat start cycles) s fun t =>
      (rateSeat t seat).computed = true ∧ (rateSeat t seat).firstMiss = none ∧
      (rateSeat t seat).lastEnd = (if loopCost (fgetD (rateSeat s seat).loops i loopReset) = 0 then 0 else start + ceilDiv (loopCost (fgetD
        (rateSeat s seat).loops i loopReset)) 15) ∧
      rd t (Reg.RATE_MISSES_COUNT seat) = rd s (Reg.RATE_MISSES_COUNT seat)) ∧
  (∀ s (seat start cycles i : Nat) (l : Loop), Canonical s → (rateSeat s seat).computed = false → start ≤ 200 → start < rd s Reg.STK_PERIOD_TICKS →
    isSet s (Reg.RATE_CTRL_ENABLE seat) = true → isSet s (Reg.RATE_STATUS_FROZEN seat) = false → enabledLoops (rateSeat s seat) = [i] →
    fget (rateSeat s seat).loops i = some l → min cycles ((rd s Reg.STK_PERIOD_TICKS - start) * 15) < loopCost l →
    Completes (.rateCompute seat start cycles) s fun t =>
      (rateSeat t seat).firstMiss = some i ∧
      fget (rateSeat t seat).loops i = some { l with missed := true, idle := false, misses := min (l.misses + 1) 4294967295 } ∧
      rd t (Reg.RATE_MISSES_COUNT seat) = min (rd s (Reg.RATE_MISSES_COUNT seat) + 1) (2 ^ (Reg.RATE_MISSES_COUNT seat).width - 1) ∧
      RegsOnly [Reg.RATE_MISSES_COUNT seat] s t ∧ Frame [.regs, .rate] s t) ∧
  (∀ s (slot seat loop sp slope : Nat), CmdReady slot Opc.rateSetpointSet s → seat < s.hw.seats → loop < 4096 → sp ≤ 262143 → slope ≤ 1048575 →
    Completes (.rateSetpointSet slot (some seat) loop sp slope) s fun t =>
      Answers slot .ok 0 [] s t ∧ (rateSeat t seat).setNext = (rateSeat s seat).setNext ++ [(loop, sp, slope)] ∧
      fget (rateSeat t seat).saved loop = some { savedCfg (rateSeat s seat) loop with sp := sp, slope := slope }) ∧
  (∀ s (slot seat loop rate : Nat), CmdReady slot Opc.rateOpenSet s → seat < s.hw.seats → loop < 4096 → rate ≤ 4095 → (loopOf s seat loop).cfg.enable = false →
    Completes (.rateOpenSet slot (some seat) loop rate) s fun t =>
      Answers slot .ok 0 [] s t ∧ (rateSeat t seat).openNext = (rateSeat s seat).openNext ++ [(loop, rate)] ∧
      fget (rateSeat t seat).saved loop = some { savedCfg (rateSeat s seat) loop with openRate := rate }) ∧
  (∀ s (slot seat loop : Nat) (cfg : LoopCfg) (e : EasyAll), CmdReady slot Opc.rateLoopsStage s → readsOut s slot = false → fget s.mbx.easy (easyKey ⟨.loopSet, seat⟩) = some e → e.slot = none →
    e.commit = none → loop < 4096 →
    Completes (.rateLoopsStage slot seat [(loop, cfg)]) s fun t =>
      Answers slot .ok 0 [] s t ∧ (rateSeat t seat).staged = fset (rateSeat s seat).staged loop cfg) ∧
  (∀ s (slot seat : Nat), CmdReady slot Opc.rateTableGet s → seat < s.hw.seats → s.pci.bme = true →
    Completes (.rateTableGet slot seat) s fun t =>
      Answers slot .ok 0 [] s t ∧ (⟨.hostWrite true, slot :: ((rateSeat s seat).loops.map fun e => loopWords e.1 e.2).flatten⟩ ∈ t.out) ∧
      Frame [.regs, .health, .mbx, .pci, .out] s t) ∧
  (∀ s (seat value : Nat), Canonical s →
    Completes (.rateLoopSelect seat value) s fun t =>
      rd t (Reg.RATE_LOOP_SELECT_INDEX seat) = value % 4096 ∧ RegsOnly [Reg.RATE_LOOP_SELECT_INDEX seat] s t ∧ Frame [.regs] s t)

/-- R354, R358, R362 to R364: a snapshot registered in the paired state waits for the peer, in SOLO it completes at once; one that is
deleted is gone, with its images released; snapshots are listed and told of; a clone is a namespace that shares the member's directory. -/
def Obligations.SnapshotCommandsComplete : Prop :=
  (∀ s (slot cg u : Nat), CmdReady slot Opc.snapCreate s → snapCheck s cg u = .ok → s.pair.st = .paired →
    Completes (.snapCreate slot cg u) s fun t =>
      ((fget t.snp.snaps ((2 * s.snp.nextSnap + mySide s) % 4294967296)).map (fun x => (x.cg, x.s, x.taken, x.confirmed, x.slot)) = some
        (cg, u, false, false, some slot)) ∧
      (slotAt t slot).st = .running ∧ t.snp.nextSnap = s.snp.nextSnap + 1) ∧
  (∀ s (slot cg u : Nat), CmdReady slot Opc.snapCreate s → snapCheck s cg u = .ok → s.pair.st = .solo →
    Completes (.snapCreate slot cg u) s fun t =>
      ((fget t.snp.snaps ((2 * s.snp.nextSnap + mySide s) % 4294967296)).map (fun x => (x.cg, x.s, x.taken, x.confirmed)) = some (cg, u,
        false, true)) ∧
      Answers slot .ok 0 [(2 * s.snp.nextSnap + mySide s) % 4294967296] s t) ∧
  (∀ s (slot snap : Nat) (x : Snap), CmdReady slot Opc.snapDelete s → snapOf s snap = some x → x.confirmed = true → x.taken = false → snapNeeded s snap = false →
    FSorted s.snp.snaps →
    Completes (.snapDelete slot snap) s fun t =>
      Answers slot .ok 0 [] s t ∧ t.snp.snaps = fdel s.snp.snaps snap) ∧
  (∀ s (slot snap : Nat) (x : Snap), CmdReady slot Opc.snapDelete s → snapOf s snap = some x → x.confirmed = true → x.taken = true → snapNeeded s snap = false →
    Completes (.snapDelete slot snap) s fun t =>
      Answers slot .ok 0 [] s t ∧ snapOf t snap = none ∧ ((x.owners.filter (· != 0)).all (fun o => fhas t.map.releasing o) = true)) ∧
  (∀ s (slot cg : Nat), CmdReady slot Opc.snapList s → fhas s.snp.cgs cg = true → s.pci.bme = true →
    Completes (.snapList slot cg) s fun t =>
      Answers slot .ok 0 [] s t ∧
      (⟨.hostWrite true, slot :: ((groupSnaps s cg).map fun e => [e.1, e.2.s, b2n e.2.taken, b2n e.2.skewed, b2n e.2.late]).flatten⟩ ∈
        t.out) ∧
      Frame [.regs, .health, .mbx, .pci, .out] s t) ∧
  (∀ s (slot snap member nsid : Nat) (x : Snap) (p : NsParams), CmdReady slot Opc.snapClone s → snapOf s snap = some x → x.taken = true → member < x.members.length → nsid ≠ 0 → nsid < 4294967295 →
    nsOf s nsid = none → fhas s.map.releasing nsid = false → fget x.params member = some p → loopTaken s p.loop = false →
    ownsSide s p.side = true →
    Completes (.snapClone slot snap member nsid) s fun t =>
      Answers slot .ok 0 [] s t ∧ ((nsOf t nsid).map (fun n => (n.cur.p, n.cur.adm)) = some (p, .opened))) ∧
  (∀ s (slot snap : Nat) (x : Snap), CmdReady slot Opc.snapInfo s → snapOf s snap = some x →
    Completes (.snapInfo slot snap) s fun t =>
      (Answers slot .ok 0 [b2n x.taken, b2n x.skewed, b2n x.late, ((exclusivePages s x).filter fun p => shareCount s p == 1).length] s t) ∧
      Frame [.regs, .health, .mbx, .pci, .out] s t) ∧
  (∀ s (slot snap : Nat) (x : Snap), CmdReady slot Opc.snapSpace s → snapOf s snap = some x → x.taken = true → exclusiveRefs s x = [] →
    Completes (.snapSpace slot snap) s fun t =>
      Answers slot .ok 0 [0, 0] s t ∧ Frame [.regs, .health, .mbx, .pci, .out] s t)

/-- R352, R353: namespaces of one tenant in no other group make a group; one is added; a group without snapshots and links is deleted, and
its namespaces are in no group. -/
def Obligations.GroupsOfNamespacesComplete : Prop :=
  (∀ s (slot cg tenant : Nat) (members : List Nat), CmdReady slot Opc.cgCreate s → cg < 4096 → fhas s.snp.cgs cg = false → fhas s.nv.tenants tenant = true → members ≠ [] →
    members.length ≤ 256 → members.eraseDups = members → members.all (memberOk s tenant) = true →
    Completes (.cgCreate slot cg tenant members) s fun t =>
      Answers slot .ok 0 [] s t ∧ t.snp.cgs = fset s.snp.cgs cg ⟨tenant, members⟩ ∧
      (members.all (fun n => (nsOf t n).map Ns.cg == some (some cg)) = true)) ∧
  (∀ s (slot cg nsid : Nat) (c : Cg), CmdReady slot Opc.cgMemberSet s → fget s.snp.cgs cg = some c → memberOk s c.tenant nsid = true → c.members.length < 256 →
    (groupSnaps s cg).any (fun x => !x.2.taken) = false → (groupLinks s cg).any (fun l => l.2.cur.isSome) = false →
    Completes (.cgMemberSet slot cg nsid true) s fun t =>
      Answers slot .ok 0 [] s t ∧ fget t.snp.cgs cg = some ⟨c.tenant, c.members ++ [nsid]⟩ ∧ (nsOf t nsid).map Ns.cg = some (some cg)) ∧
  (∀ s (slot cg nsid : Nat) (c : Cg), CmdReady slot Opc.cgMemberSet s → fget s.snp.cgs cg = some c → c.members.contains nsid = true → c.members ≠ [nsid] →
    (groupSnaps s cg).any (fun x => !x.2.taken) = false → (groupLinks s cg).any (fun l => l.2.cur.isSome) = false →
    Completes (.cgMemberSet slot cg nsid false) s fun t =>
      Answers slot .ok 0 [] s t ∧ fget t.snp.cgs cg = some ⟨c.tenant, c.members.filter (· != nsid)⟩) ∧
  (∀ s (slot cg : Nat), CmdReady slot Opc.cgDelete s → fhas s.snp.cgs cg = true → groupSnaps s cg = [] → groupLinks s cg = [] → FSorted s.snp.cgs →
    Completes (.cgDelete slot cg) s fun t =>
      Answers slot .ok 0 [] s t ∧ t.snp.cgs = fdel s.snp.cgs cg ∧ (t.nv.ns.all (fun e => e.2.cg != some cg) = true))

/-- R365 to R367, R371, R374: a link is made with its defaults and, on the target, its members become replicas; the next epoch is made
due; a link is paused, told of, promoted or deleted; the select register shows the link it names. -/
def Obligations.LinkCommandsOfHostComplete : Prop :=
  (∀ s (slot link : Nat) (p : LinkParams), CmdReady slot Opc.replLinkCreate s → s.snp.links.length < 256 → link < 256 → fhas s.snp.links link = false → linkMembers s p ≠ [] →
    (groupLinks s p.cg).any (fun l => l.2.p.target == p.target) = false → p.target = false → p.addrs ≠ [] → p.addrs.length ≤ 2 →
    4194304 ≤ (linkDefaults p).window → (linkDefaults p).window ≤ 1073741824 → p.subport < 4 * s.hw.seats →
    Completes (.replLinkCreate slot link p) s fun t =>
      Answers slot .ok 0 [] s t ∧ ((linkOf t link).map (fun l => (l.p, l.failed, l.cur, l.base)) = some (linkDefaults p, false, none, none))) ∧
  (∀ s (slot link : Nat) (p : LinkParams), CmdReady slot Opc.replLinkCreate s → s.snp.links.length < 256 → link < 256 → fhas s.snp.links link = false → linkMembers s p ≠ [] →
    (groupLinks s p.cg).any (fun l => l.2.p.target == p.target) = false → p.target = true →
    ((linkMembers s p).map (nsSide s)).eraseDups.length = 1 → (linkMembers s p).all (fun n => (nsSide s n).any (ownsSide s)) = true →
    p.addrs ≠ [] → p.addrs.length ≤ 2 → 4194304 ≤ (linkDefaults p).window → (linkDefaults p).window ≤ 1073741824 →
    p.subport < 4 * s.hw.seats →
    Completes (.replLinkCreate slot link p) s fun t =>
      Answers slot .ok 0 [] s t ∧ ((linkOf t link).map (fun l => (l.p, l.failed, l.cur)) = some (linkDefaults p, false, none)) ∧
      ((linkMembers s p).all (fun n => (nsOf t n).map Ns.replica == some true) = true)) ∧
  (∀ s (slot link : Nat) (l : Link), CmdReady slot Opc.replEpochNow s → linkOf s link = some l → l.p.target = false → l.failed = false → l.cur = none →
    Completes (.replEpochNow slot link) s fun t =>
      Answers slot .ok 0 [] s t ∧ linkOf t link = some { l with next := s.stk.ext + 1 }) ∧
  (∀ s (slot link : Nat) (l : Link), CmdReady slot Opc.replPause s → linkOf s link = some l →
    Completes (.replPause slot link true) s fun t =>
      Answers slot .ok 0 [] s t ∧ linkOf t link = some { l with pauseAsked := true }) ∧
  (∀ s (slot link : Nat) (l : Link), CmdReady slot Opc.replStatusGet s → linkOf s link = some l →
    Completes (.replStatusGet slot link) s fun t =>
      (Answers slot .ok 0 ([replLinkState s l, l.epoch, l.cur.getD 0, linkLag s l, l.status] ++ (l.parts.map fun p => [p.1, if l.p.target
        then nextBatch p.2 else p.2.batch]).flatten) s t) ∧
      Frame [.regs, .health, .mbx, .pci, .out] s t) ∧
  (∀ s (slot link : Nat) (l : Link), CmdReady slot Opc.replPromote s → FSorted s.snp.links → linkOf s link = some l → l.p.target = true →
    (linkMembers s l.p).all (fun n => (nsSide s n).any (ownsSide s)) = true → l.parts = [] →
    Completes (.replPromote slot link) s fun t =>
      Answers slot .ok 0 [] s t ∧ linkOf t link = none ∧ ((linkMembers s l.p).all (fun n => (nsOf t n).map Ns.replica == some false) = true)) ∧
  (∀ s (slot link : Nat) (l : Link), CmdReady slot Opc.replLinkDelete s → FSorted s.snp.links → linkOf s link = some l →
    Completes (.replLinkDelete slot link) s fun t =>
      Answers slot .ok 0 [] s t ∧ linkOf t link = none) ∧
  (∀ s (value : Nat) (l : Link), Canonical s → linkOf s (value % 256) = some l → l.epoch < 4294967296 →
    Completes (.snpLinkSelect value) s fun t =>
      rd t Reg.SNP_LINK_SELECT_LINK = value % 256 ∧ rd t Reg.SNP_LINK_STATE_STATE = replLinkState s l ∧
      (rd t Reg.SNP_LINK_STATE_TARGET, rd t Reg.SNP_LINK_EPOCH_EPOCH) = (b2n l.p.target, l.epoch) ∧
      rd t Reg.SNP_LINK_LAG_STROKES = linkLag s l ∧
      RegsOnly [Reg.SNP_LINK_SELECT_LINK, Reg.SNP_LINK_STATE_STATE, Reg.SNP_LINK_STATE_TARGET, Reg.SNP_LINK_STATE_PART0,
        Reg.SNP_LINK_STATE_PART1, Reg.SNP_LINK_STATE_GROUP, Reg.SNP_LINK_EPOCH_EPOCH, Reg.SNP_LINK_BATCH_BATCH, Reg.SNP_LINK_LAG_STROKES,
        Reg.SNP_LINK_TIMEOUT_STROKES, Reg.SNP_LINK_OFFERED_COUNT, Reg.SNP_LINK_SENT_COUNT, Reg.SNP_LINK_BYTES, Reg.SNP_LINK_SKIPPED_COUNT,
        Reg.SNP_LINK_REFUSED_COUNT, Reg.SNP_LINK_RESUMES_COUNT] s t ∧
      Frame [.regs] s t)

/-- R365 to R373: an interval edge registers the epoch's snapshot; its delta is computed; a HELLO and a KEX open a session; OPEN, OFFER,
WANT, READY, BATCH_END, BATCH_ACK and BATCH_NAK carry a batch; DONE and COMMIT end an epoch on either end; ABORT drops it; silence puts a
part in WAITING, and it connects again. -/
def Obligations.EpochsAndBatchesComplete : Prop :=
  (∀ s (link d : Nat) (l : Link), Runs s → linkOf s link = some l → l.p.target = false → l.failed = false → l.next ≤ s.stk.ext → l.cur = none →
    l.parts.any (fun p => p.2.waiting) = false → ([0, 1].find? fun d => (linkMembers s l.p).any fun m => nsSide s m == some d) = some d →
    ownsSide s d = true → snapCheck s l.p.cg (s.stk.ext + 20) = .ok →
    Completes (.replIntervalEdge link) s fun t =>
      ((linkOf t link).map (fun l => (l.next, l.cur, l.snap)) = some (s.stk.ext + max 1 l.p.interval, some (l.epoch + 1), some ((2 *
        s.snp.nextSnap + mySide s) % 4294967296))) ∧
      (fget t.snp.snaps ((2 * s.snp.nextSnap + mySide s) % 4294967296)).map Snap.s = some (s.stk.ext + 20)) ∧
  (∀ s (link part i : Nat) (l : Link) (x : Snap), Runs s → linkOf s link = some l → l.p.target = false → l.failed = false → l.cur.isSome = true → l.snap = some i →
    fget s.snp.snaps i = some x → x.taken = true → (partOf l part).delta = none → (partsRun s l).contains part = true →
    Completes (.replDeltaCompute link part) s fun t =>
      ((linkOf t link).map (fun l => (partOf l part).delta) = some (some (partDelta s l part)))) ∧
  (∀ s (link part seat q : Nat) (h : ReplHello) (l : Link), Runs s → linkOf s link = some l → l.failed = false → l.p.target = false → partUp s (partOf l part) = true → h.sameMajor = true →
    h.geometry = true → h.refused = false → l.cur ≠ some h.committed → (partOf l part).qp = some (seat, q) →
    Completes (.replHello link part h) s fun t =>
      ((linkOf t link).map (fun l => ((partOf l part).applied, (partOf l part).heard)) = some (h.applied, s.stk.ext)) ∧
      (SendsNow seat q 48 s → ⟨.repl, [link, part, 2]⟩ ∈ t.out)) ∧
  (∀ s (link part : Nat) (l : Link), Runs s → linkOf s link = some l → l.failed = false → partUp s (partOf l part) = true → (partOf l part).keyed = false →
    Completes (.replKex link part true) s fun t =>
      ((linkOf t link).map (fun l => ((partOf l part).keyed, (partOf l part).waiting, (partOf l part).heard)) = some (true, false,
        s.stk.ext))) ∧
  (∀ s (link part epoch u parts batches : Nat) (l : Link), Runs s → linkOf s link = some l → l.p.target = true → l.failed = false → (partOf l part).keyed = true →
    (l.cur = none ∨ l.cur = some epoch) →
    Completes (.replOpen link part epoch u parts batches) s fun t =>
      ((linkOf t link).map (fun l => (l.cur, l.nparts, (partOf l part).batches, (partOf l part).opened, (partOf l part).done)) = some (some
        epoch, parts, batches, true, false))) ∧
  (∀ s (link part epoch batch seat q : Nat) (ents : List DeltaEnt) (l : Link), Runs s → linkOf s link = some l → l.p.target = true → l.failed = false → l.cur = some epoch → (partOf l part).keyed = true →
    (partOf l part).applying = [] → batch = nextBatch (partOf l part) → partUp s (partOf l part) = true →
    (partOf l part).qp = some (seat, q) →
    Completes (.replOffer link part epoch batch ents) s fun t =>
      ((linkOf t link).map (fun l => ((partOf l part).offered, (partOf l part).received)) = some (ents, [])) ∧
      (SendsNow seat q 624 s → ⟨.repl, [link, part, 6, epoch, batch, l.p.window]⟩ ∈ t.out)) ∧
  (∀ s (link part epoch batch : Nat) (want : List Nat) (l : Link) (d : List DeltaEnt), Runs s → linkOf s link = some l → (partOf l part).keyed = true → l.p.target = false → l.cur = some epoch →
    (partOf l part).delta = some d → (partOf l part).batch = batch → (partOf l part).offering = true →
    Completes (.replWant link part epoch batch want) s fun t =>
      ((linkOf t link).map (fun l => ((partOf l part).wanted, (partOf l part).armed)) = some (want.filter (fun i => (batchOf d
        batch)[i]?.any fun e => e.kind == 0), true))) ∧
  (∀ s (link part epoch batch len : Nat) (l : Link), Runs s → linkOf s link = some l → (partOf l part).keyed = true → l.p.target = false → l.cur = some epoch →
    (partOf l part).batch = batch → (partOf l part).armed = true → len ≤ l.p.window →
    Completes (.replReady link part epoch batch len) s fun t =>
      ((linkOf t link).map (fun l => (l.sentN, (partOf l part).armed, (partOf l part).wanted)) = some (l.sentN + (partOf l
        part).wanted.length, false, []))) ∧
  (∀ s (link part epoch batch len i seat q : Nat) (l : Link) (d : List DeltaEnt) (e : DeltaEnt), Runs s → linkOf s link = some l → (partOf l part).keyed = true → l.p.target = false → l.cur = some epoch →
    (partOf l part).batch = batch → (partOf l part).armed = true → len ≤ l.p.window → (partOf l part).wanted = [i] →
    (partOf l part).delta = some d → (batchOf d batch)[i]? = some e → partUp s (partOf l part) = true →
    (partOf l part).qp = some (seat, q) →
    Completes (.replReady link part epoch batch len) s fun t =>
      (SendsNow seat q (recordBytes s l e + 48) s → ⟨.repl, [link, part, 13, epoch, batch, i]⟩ ∈ t.out ∧ ⟨.repl, [link, part, replEndT,
        epoch, batch]⟩ ∈ t.out)) ∧
  (∀ s (link part epoch batch ns : Nat) (l : Link) (e : DeltaEnt) (q : NsParams), Runs s → linkOf s link = some l → (partOf l part).keyed = true → l.p.target = true → l.failed = false → l.cur = some epoch →
    batch = nextBatch (partOf l part) → (partOf l part).offered = [e] → e.kind = 1 → (partOf l part).held = [] →
    (partOf l part).applying = [] → (linkMembers s l.p)[e.member]? = some ns → nsCur s ns = some q → e.lba < q.size →
    Completes (.replBatchEnd link part epoch batch []) s fun t =>
      ((linkOf t link).map (fun l => (partOf l part).applying) = some [s.nv.nextCmd]) ∧
      ((cmdOf t s.nv.nextCmd).map (fun c => (c.nsid, c.lba, c.count)) = some (l.image.getD e.member 0, e.lba, 1))) ∧
  (∀ s (link part epoch batch : Nat) (l : Link), Runs s → linkOf s link = some l → (partOf l part).keyed = true → l.p.target = false → l.cur = some epoch →
    (partOf l part).batch = batch → (partOf l part).offering = true →
    Completes (.replBatchAck link part epoch batch) s fun t =>
      ((linkOf t link).map (fun l => ((partOf l part).batch, (partOf l part).refusals)) = some (batch + 1, 0))) ∧
  (∀ s (link part epoch batch : Nat) (l : Link), Canonical s → Runs s → linkOf s link = some l → (partOf l part).keyed = true → l.p.target = false → l.cur = some epoch →
    (partOf l part).batch = batch → (partOf l part).offering = true → (partOf l part).refusals < 2 →
    Completes (.replBatchNak link part epoch batch) s fun t =>
      ((linkOf t link).map (fun l => ((partOf l part).batch, (partOf l part).refusals, l.refused)) = some (batch, (partOf l part).refusals
        + 1, l.refused + 1)) ∧
      isSet t Reg.SNP_EVENTS_REFUSED = true) ∧
  (∀ s (link part epoch : Nat) (l : Link) (p : Part), Canonical s → Runs s → linkOf s link = some l → l.p.target = true → l.failed = false → l.cur = some epoch → l.parts = [(part, p)] →
    p.keyed = true → l.nparts = 1 → p.applying = [] → p.batches ≤ nextBatch p →
    Completes (.replDone link part epoch) s fun t =>
      ((linkOf t link).map (fun l => (l.epoch, l.cur)) = some (epoch, none)) ∧ isSet t Reg.SNP_EVENTS_EPOCH_DONE = true) ∧
  (∀ s (link part epoch : Nat) (l : Link), Runs s → linkOf s link = some l → l.p.target = false → (partOf l part).keyed = true → l.cur = some epoch →
    Completes (.replCommit link part epoch) s fun t =>
      ((linkOf t link).map (fun l => (l.epoch, l.cur, l.base, l.snap)) = some (epoch, none, l.snap, none))) ∧
  (∀ s (link part reason : Nat) (l : Link), Runs s → linkOf s link = some l → (partOf l part).keyed = true → l.p.target = false →
    Completes (.replAbort link part reason false) s fun t =>
      ((linkOf t link).map (fun l => (l.cur, l.snap, l.failed)) = some (none, none, l.failed))) ∧
  (∀ s (link part reason : Nat) (l : Link), Canonical s → Runs s → linkOf s link = some l → (partOf l part).keyed = true → l.failed = false →
    Completes (.replAbort link part reason true) s fun t =>
      ((linkOf t link).map (fun l => (l.failed, l.cur)) = some (true, none)) ∧ isSet t Reg.SNP_EVENTS_LINK_FAILED = true) ∧
  (∀ s (link part : Nat) (l : Link), Canonical s → Runs s → linkOf s link = some l → l.failed = false → fhas l.parts part = true → (partOf l part).waiting = false →
    (partOf l part).heard + l.p.timeout ≤ s.stk.ext →
    Completes (.replLinkTimeout link part) s fun t =>
      ((linkOf t link).map (fun l => ((partOf l part).waiting, (partOf l part).retryAt, (partOf l part).qp, (partOf l part).keyed)) = some
        (true, s.stk.ext + 10000, none, false)) ∧
      isSet t Reg.SNP_EVENTS_LINK_WAITING = true) ∧
  (∀ s (link part : Nat) (l : Link), Runs s → linkOf s link = some l → l.failed = false → l.p.target = false → (partOf l part).waiting = true →
    (partOf l part).retryAt ≤ s.stk.ext → (partOf l part).qp = none → qpOf s (l.p.subport / 4) 0 = none →
    Completes (.replReconnect link part) s fun t =>
      ((linkOf t link).map (fun l => ((partOf l part).retryAt, (partOf l part).qp)) = some (s.stk.ext + 10000, some (l.p.subport / 4, 0))) ∧
      (portUp s (l.p.subport / 4) (l.p.subport % 4) = true → ⟨.cm, [l.p.subport / 4, l.p.addrs.getD ((partOf l part).addr % max 1
        l.p.addrs.length) 0, 4, 0]⟩ ∈ t.out))

/-- R382, R386, R396, R397, R405, R406: a key asked for enters the seat's cache; a reservation raises the mark; an erase, once the
domain's commands have drained, clears its key slots and its secret; a digest result is read from a context that is done, and an early
read is marked and counted; the select registers load what they name. -/
def Obligations.KeyStoreCommandsComplete : Prop :=
  (∀ s (seat kind domain gen : Nat) (x : Domain), Runs s → domainOf s domain = some x → x.secret = true → (fgetD s.keys.asked seat []).contains (slotKey kind domain gen) = true →
    Completes (.keySlotFill seat kind domain gen) s fun t =>
      slotHas t seat (slotKey kind domain gen) = true) ∧
  (∀ s (seat domain gen n : Nat) (c : Counter), Runs s → fget s.keys.ctrs (ctrKey seat domain gen) = some c → c.writing = some n →
    Completes (.nonceReserveDone seat domain gen) s fun t =>
      (fget t.keys.ctrs (ctrKey seat domain gen)).map Counter.hwm = some n) ∧
  (∀ s (domain e slot : Nat) (x : Domain), Runs s → domainOf s domain = some x → x.erase = some (e, some slot) → x.secret = true → e ≤ s.stk.ext →
    s.nv.cmds.any (fun c => c.2.p.domain == domain && c.2.stage != .waiting) = false → hasSession s = false →
    (slotAt s slot).orphan = false →
    Completes (.keyEraseApply domain) s fun t =>
      ((domainOf t domain).map (fun x => (x.secret, x.erase, x.erasePending)) = some (false, none, true)) ∧
      (t.keys.slots.all (fun e => e.2.all fun k => k / 65536 % 8192 != domain) = true) ∧ Answers slot .ok 0 [] s t) ∧
  (∀ s (seat word : Nat), (ctxOf s seat (rd s (Reg.DIG_CTX_SELECT_CONTEXT seat))).st = 2 →
    Completes (.digResultRead seat word) s fun t =>
      t.out = ⟨.busRead, [0, addrOfBit (Reg.DIG_RESULT_WORD seat word).key, ctxWord (ctxOf s seat (rd s (Reg.DIG_CTX_SELECT_CONTEXT seat)))
        word]⟩ :: s.out ∧
      Frame [.out] s t) ∧
  (∀ s (seat word : Nat), Canonical s → (ctxOf s seat (rd s (Reg.DIG_CTX_SELECT_CONTEXT seat))).st = 1 →
    Completes (.digResultRead seat word) s fun t =>
      t.out = ⟨.busRead, [0, addrOfBit (Reg.DIG_RESULT_WORD seat word).key, 0]⟩ :: s.out ∧ isSet t (Reg.DIG_CTX_STATE_ERROR seat) = true ∧
      rd t (Reg.DIG_EARLY_READ_COUNT seat) = min (rd s (Reg.DIG_EARLY_READ_COUNT seat) + 1) (2 ^ (Reg.DIG_EARLY_READ_COUNT seat).width - 1)
        ∧
      RegsOnly [Reg.DIG_CTX_STATE_ERROR seat, Reg.DIG_EARLY_READ_COUNT seat] s t ∧ Frame [.regs, .keys, .out] s t) ∧
  (∀ s (seat value : Nat), Canonical s →
    Completes (.digCtxSelect seat value) s fun t =>
      rd t (Reg.DIG_CTX_SELECT_CONTEXT seat) = value % 64 ∧ rd t (Reg.DIG_CTX_STATE_STATE seat) = (ctxOf s seat (value % 64)).st % 4 ∧
      isSet t (Reg.DIG_CTX_STATE_EQUAL seat) = (ctxOf s seat (value % 64)).equal ∧
      RegsOnly [Reg.DIG_CTX_SELECT_CONTEXT seat, Reg.DIG_CTX_STATE_STATE seat, Reg.DIG_CTX_STATE_ALG seat, Reg.DIG_CTX_STATE_NO_PREEMPT
        seat, Reg.DIG_CTX_STATE_COMPARE_ONLY seat, Reg.DIG_CTX_STATE_EQUAL seat, Reg.DIG_CTX_STATE_ERROR seat, Reg.DIG_CTX_STATE_SOURCE
        seat, Reg.DIG_CTX_STATE_HOST_READ seat, Reg.DIG_CTX_COUNT seat] s t ∧
      Frame [.regs] s t) ∧
  (∀ s (value : Nat) (x : Domain), Canonical s → domainOf s (value % 8192) = some x → x.gen < 65536 →
    Completes (.keyDomainSelect value) s fun t =>
      rd t Reg.KEY_DOMAIN_SELECT_DOMAIN = value % 8192 ∧ (rd t Reg.KEY_DOMAIN_STATE_VALID, rd t Reg.KEY_DOMAIN_STATE_CUR_GEN) = (1, x.gen) ∧
      isSet t Reg.KEY_DOMAIN_STATE_BLOCKED = x.blocked ∧
      RegsOnly [Reg.KEY_DOMAIN_SELECT_DOMAIN, Reg.KEY_DOMAIN_STATE_VALID, Reg.KEY_DOMAIN_STATE_SCOPE, Reg.KEY_DOMAIN_STATE_BLOCKED,
        Reg.KEY_DOMAIN_STATE_SWEEP, Reg.KEY_DOMAIN_STATE_ERASE_PENDING, Reg.KEY_DOMAIN_STATE_SHARE_FK, Reg.KEY_DOMAIN_STATE_CUR_GEN,
        Reg.KEY_DOMAIN_LIVE_GENS_COUNT, Reg.KEY_DOMAIN_ROLL, Reg.KEY_DOMAIN_TENANT_TENANT] s t ∧
      Frame [.regs] s t)

/-- R378, R381, R392, R394, R397, R401 to R403, R274: the owner is enrolled once; a domain is created, rolled, swept, told of and erased;
the minimum security version rises; a dedup key goes over a link; the lists of partners and of blade roots are replaced. -/
def Obligations.KeyCommandsComplete : Prop :=
  (∀ s (slot : Nat) (hash : List Nat), CmdReady slot Opc.keyOwnerEnrol s → s.hw.owner = none →
    Completes (.keyOwnerEnrol slot hash true) s fun t =>
      Answers slot .ok 0 [] s t ∧ t.hw = { s.hw with owner := some hash }) ∧
  (∀ s (slot tenant : Nat) (share : Bool), CmdReady slot Opc.keyDomainCreate s → tenant < 4096 → (tenant = 4095 ∨ fhas s.nv.tenants tenant = true) → s.keys.domains.length < 8192 →
    domainOf s tenant = none →
    Completes (.keyDomainCreate slot tenant false share) s fun t =>
      Answers slot .ok 0 [tenant] s t ∧
      ((domainOf t tenant).map (fun x => (x.tenant, x.ns, x.gen, x.live, x.secret, x.shareFk)) = some (tenant, false, 0, [0], true, share))) ∧
  (∀ s (slot domain : Nat) (x : Domain), CmdReady slot Opc.keyDomainErase s → domainOf s domain = some x → x.secret = true → x.erase = none →
    Completes (.keyDomainErase slot domain) s fun t =>
      domainOf t domain = some { x with erase := some (s.stk.ext + 1, some slot) } ∧ (slotAt t slot).st = .running ∧ Frame [.keys, .mbx] s t) ∧
  (∀ s (slot domain : Nat) (x : Domain), CmdReady slot Opc.keyRoll s → domainOf s domain = some x → x.secret = true → x.erase = none → x.roll = none →
    x.live.contains ((x.gen + 1) % 65536) = false →
    Completes (.keyRoll slot domain) s fun t =>
      Answers slot .ok 0 [] s t ∧ domainOf t domain = some { x with roll := some ((x.gen + 1) % 65536, s.stk.ext + 4) }) ∧
  (∀ s (slot domain first last : Nat) (x : Domain), CmdReady slot Opc.keyRekeySweep s → domainOf s domain = some x → first ≤ last → last < 65536 → x.secret = true → x.erase = none →
    x.sweep = false →
    Completes (.keyRekeySweep slot domain first last) s fun t =>
      Answers slot .ok 0 [] s t ∧
      ((domainOf t domain).map (fun x => (x.sweep, x.marked)) = some (true, x.live.filter fun g => decide (first ≤ g) && decide (g ≤ last)
        && g != x.gen))) ∧
  (∀ s (slot domain : Nat) (x : Domain), CmdReady slot Opc.keyStatusGet s → domainOf s domain = some x →
    Completes (.keyStatusGet slot domain) s fun t =>
      Answers slot .ok 0 [domainBits x, x.gen, x.live.length] s t ∧ Frame [.regs, .health, .mbx, .pci, .out] s t) ∧
  (∀ s (slot : Nat) (ownerOk : Bool), CmdReady slot Opc.keySvnCommit s → ownerAllows s ownerOk = true →
    Completes (.keySvnCommit slot true ownerOk) s fun t =>
      Answers slot .ok 0 [] s t ∧ t.hw = { s.hw with svnMin := max s.hw.svnMin ((s.boot.running.map ImageHeader.svn).getD 0) }) ∧
  (∀ s (slot domain link k seat q : Nat) (x : Domain) (l : Link) (m : List Nat), CmdReady slot Opc.keyFkShare s → domainOf s domain = some x → linkOf s link = some l → x.shareFk = true → x.secret = true →
    l.p.target = false → partsRun s l = k :: m → partUp s (partOf l k) = true → (partOf l k).qp = some (seat, q) →
    Completes (.keyFkShare slot domain link true) s fun t =>
      Answers slot .ok 0 [] s t ∧ (SendsNow seat q 96 s → ⟨.repl, [link, k, 14, domain, x.fk]⟩ ∈ t.out)) ∧
  (∀ s (slot : Nat) (hashes : List Nat) (ownerOk : Bool), CmdReady slot Opc.keyPartnerEnrol s → ownerAllows s ownerOk = true →
    Completes (.keyPartnerEnrol slot hashes ownerOk) s fun t =>
      Answers slot .ok 0 [] s t ∧ t.keys = { s.keys with partners := hashes }) ∧
  (∀ s (slot : Nat) (roots allowed : List Nat) (ownerOk : Bool), CmdReady slot Opc.keyBladeRootEnrol s → ownerAllows s ownerOk = true →
    Completes (.keyBladeRootEnrol slot roots allowed ownerOk) s fun t =>
      Answers slot .ok 0 [] s t ∧ t.bld = { s.bld with roots := roots, allowed := allowed })

/-- R399, R400: version, capabilities and algorithms are agreed in that order; digests, certificates, a challenge and measurements are
answered, the signed answers by the alias key; at most four sessions are opened, finished, kept alive and ended; slot 1 takes the owner's
chain; the vendor request signs the same digest by ML-DSA-87. The codes of the messages are those of DMTF DSP0274, which the model takes
for them (PRESUMED). -/
def Obligations.SpdmRequestsComplete : Prop :=
  (∀ s (mctp : Bool), SpdmReady mctp s →
    Completes (.spdmGetVersion mctp) s fun t =>
      SpdmAnswers mctp [0x04, 0x13] s t ∧ (connOf t mctp).stage = 1) ∧
  (∀ s (mctp : Bool), SpdmReady mctp s → (connOf s mctp).stage = 1 →
    Completes (.spdmGetCapabilities mctp) s fun t =>
      SpdmAnswers mctp [0x61] s t ∧ (connOf t mctp).stage = 2) ∧
  (∀ s (mctp : Bool), SpdmReady mctp s → (connOf s mctp).stage = 2 →
    Completes (.spdmNegotiateAlgorithms mctp true) s fun t =>
      SpdmAnswers mctp [0x63] s t ∧ (connOf t mctp).stage = 3) ∧
  (∀ s (mctp : Bool), SpdmReady mctp s → (connOf s mctp).stage = 3 →
    Completes (.spdmGetDigests mctp) s fun t =>
      (SpdmAnswers mctp (0x01 :: [0, 1].filterMap fun n => (certChain s n).map fun x => Config.digest 1 x) s t)) ∧
  (∀ s (mctp : Bool) (certSlot x : Nat), SpdmReady mctp s → (connOf s mctp).stage = 3 → certChain s certSlot = some x →
    Completes (.spdmGetCertificate mctp certSlot) s fun t =>
      SpdmAnswers mctp [0x02, certSlot, x] s t) ∧
  (∀ s (mctp : Bool) (certSlot nonce x : Nat), SpdmReady mctp s → (connOf s mctp).stage = 3 → certChain s certSlot = some x →
    Completes (.spdmChallenge mctp certSlot nonce) s fun t =>
      SpdmAnswers mctp [0x03, certSlot, Config.digest 1 x, Config.sign (aliasKey s) ((connOf t mctp).signed.getD 0)] s t ∧
      (connOf t mctp).signed = some (connOf t mctp).transcript) ∧
  (∀ s (mctp : Bool) (nonce : Nat), SpdmReady mctp s → (connOf s mctp).stage = 3 →
    Completes (.spdmGetMeasurements mctp 0 nonce) s fun t =>
      SpdmAnswers mctp [0x60, (measurements s).length, Config.sign (aliasKey s) ((connOf t mctp).signed.getD 0)] s t ∧
      (connOf t mctp).signed = some (connOf t mctp).transcript) ∧
  (∀ s (mctp : Bool) (index nonce v : Nat), SpdmReady mctp s → (connOf s mctp).stage = 3 → index ≠ 0 → index ≠ 0xFF → measurement s index = some v → index < 7 →
    Completes (.spdmGetMeasurements mctp index nonce) s fun t =>
      SpdmAnswers mctp [0x60, index, v, Config.sign (aliasKey s) ((connOf t mctp).signed.getD 0)] s t) ∧
  (∀ s (mctp : Bool), SpdmReady mctp s → (connOf s mctp).stage = 3 → s.keys.sessions.length < 4 →
    Completes (.spdmKeyExchange mctp) s fun t =>
      SpdmAnswers mctp [0x64, s.keys.nextSession, Config.sign (aliasKey s) (connOf t mctp).transcript] s t ∧
      t.keys.sessions = fset s.keys.sessions s.keys.nextSession ⟨mctp, false⟩) ∧
  (∀ s (mctp : Bool) (session : Nat), Canonical s → SpdmReady mctp s → fget s.keys.sessions session = some ⟨mctp, false⟩ →
    Completes (.spdmFinish mctp session true) s fun t =>
      fget t.keys.sessions session = some ⟨mctp, true⟩ ∧ isSet t Reg.KEY_EVENTS_SPDM_SESSION = true ∧
      ((t.out.any fun o => o.kind == (if mctp then .mgmt else .doe) && o.args == [if mctp then 5 else 1, 0x65, session]) = true)) ∧
  (∀ s (mctp : Bool) (session : Nat), SpdmReady mctp s → fget s.keys.sessions session = some ⟨mctp, true⟩ →
    Completes (.spdmHeartbeat mctp session) s fun t =>
      SpdmAnswers mctp [0x68, session] s t) ∧
  (∀ s (mctp : Bool) (session : Nat), Canonical s → SpdmReady mctp s → fget s.keys.sessions session = some ⟨mctp, true⟩ → FSorted s.keys.sessions →
    Completes (.spdmEndSession mctp session) s fun t =>
      t.keys.sessions = fdel s.keys.sessions session ∧ isSet t Reg.KEY_EVENTS_SPDM_SESSION = true) ∧
  (∀ s (mctp : Bool) (chain : Nat), SpdmReady mctp s → (connOf s mctp).stage = 3 →
    Completes (.spdmSetCertificate mctp 1 chain true) s fun t =>
      SpdmAnswers mctp [0x6E, 1] s t ∧ t.keys.ownerChain = some chain) ∧
  (∀ s (mctp : Bool) (x : Nat), SpdmReady mctp s → (connOf s mctp).stage = 3 → (connOf s mctp).signed = some x →
    Completes (.spdmVendorDefinedRequest mctp true) s fun t =>
      SpdmAnswers mctp [0x7E, Config.sign (Config.derive (aliasKey s) 87) x] s t)

/-- R410, R411, R413, R414, R420: a doorbell posts the request with its lane and its place in the order; the first posted command of a
free lane starts; one not started in its time, or withdrawn before it starts, completes with no effect; an opcode outside the catalogue is
refused. -/
def Obligations.DoorbellAndSlotsComplete : Prop :=
  (∀ s (slot : Nat) (r : MbxReq), Canonical s → slot < 64 → isSet s Reg.MBX_STATUS_READY = true → ((slotAt s slot).st = .free ∨ (slotAt s slot).st = .done) →
    (slotAt s slot).poisoned = false →
    Completes (.mbxDoorbell slot r) s fun t =>
      slotAt t slot = { slotAt s slot with st := .posted, req := r, lane := laneOf s slot, order := s.mbx.nextOrder, postedAt := s.stk.ext, committed := false, orphan := false, cut := false } ∧
      (if slot < 32 then bitOf (rd t Reg.MBX_BUSY_LO_SLOTS) slot else bitOf (rd t Reg.MBX_BUSY_HI_SLOTS) (slot - 32)) = true ∧
      t.mbx.nextOrder = s.mbx.nextOrder + 1 ∧ RegsOnly [Reg.MBX_BUSY_LO_SLOTS, Reg.MBX_BUSY_HI_SLOTS] s t ∧ Frame [.regs, .mbx] s t) ∧
  (∀ s (lane n : Nat), startsClosed s = false → laneNext s lane = some n → objectBusy s (slotAt s n) = false → readsHost (slotAt s n).req.opcode = false →
    Completes (.mbxCommandStart lane) s fun t =>
      slotAt t n = { slotAt s n with st := .running } ∧ Others [n] s.mbx.slots t.mbx.slots ∧ Frame [.mbx] s t) ∧
  (∀ s (slot : Nat), Canonical s → (slotAt s slot).st = .posted → (slotAt s slot).req.timeout ≠ 0 →
    (slotAt s slot).postedAt + (slotAt s slot).req.timeout ≤ s.stk.ext → (slotAt s slot).orphan = false →
    Completes (.mbxCommandTimeout slot) s fun t =>
      Answers slot .timeout 0 [] s t ∧
      rd t Reg.MBX_TIMEOUTS_COUNT = min (rd s Reg.MBX_TIMEOUTS_COUNT + 1) (2 ^ Reg.MBX_TIMEOUTS_COUNT.width - 1) ∧
      Frame [.regs, .health, .mbx, .pci, .out] s t) ∧
  (∀ s (slot : Nat), Canonical s → (slotAt s slot).st = .posted → (slotAt s slot).orphan = false →
    Completes (.mbxAbort slot) s fun t =>
      Answers slot .aborted 0 [] s t ∧
      rd t Reg.MBX_ABORTS_COUNT = min (rd s Reg.MBX_ABORTS_COUNT + 1) (2 ^ Reg.MBX_ABORTS_COUNT.width - 1) ∧
      Frame [.regs, .health, .mbx, .pci, .out] s t) ∧
  (∀ s (slot : Nat), (slotAt s slot).st = .running → catalogue.contains (slotAt s slot).req.opcode = false → (slotAt s slot).orphan = false →
    Completes (.mbxInvalidOpcode slot) s fun t =>
      Answers slot .invalidOpcode 0 [] s t ∧ Frame [.regs, .health, .mbx, .pci, .out] s t)

/-- R424 to R427: an easy-all installs held versions and waits for what is in flight; once quiet it completes; settings are staged; a
valid set is committed at the next stroke edge; an abort or the limit releases the object; a held command that has waited its limit
completes. -/
def Obligations.EasyAllCommandsComplete : Prop :=
  (∀ s (slot hold : Nat) (o : EasyObj) (n : Ns), CmdReady slot Opc.sysEasyAll s → o.cls = .ns → nsOf s o.num = some n → hold < 65535 → ownsSide s n.cur.p.side = true →
    easyBusy s o = false → s.mbx.easy.length < 16 → n.prev = none →
    Completes (.sysEasyAll slot o hold) s fun t =>
      fget t.mbx.easy (easyKey o) = some ⟨hold, [], some slot, 0, s.stk.ext, none⟩ ∧
      ((nsOf t o.num).map (fun x => (x.cur.adm, x.cur.p, x.cur.epoch)) = some (.held, n.cur.p, (n.cur.epoch + 1) % 65536)) ∧
      (slotAt t slot).st = .running) ∧
  (∀ s (n : Nat) (o : EasyObj) (e : EasyAll), fget s.mbx.easy (easyKey o) = some e → e.slot = some n → easyQuiet s o = true → (slotAt s n).orphan = false →
    Completes (.easyAllQuiesced o) s fun t =>
      fget t.mbx.easy (easyKey o) = some { e with slot := none, completed := s.stk.ext } ∧ Answers n .ok 0 [] s t) ∧
  (∀ s (slot : Nat) (o : EasyObj) (pairs : List (Nat × Nat)) (e : EasyAll), CmdReady slot Opc.sysStage s → fget s.mbx.easy (easyKey o) = some e → e.slot = none → e.commit = none → pairs.length ≤ 1024 →
    pairs.all (fun x => (paramOf x.1).any fun p => p.cls == clsOf o && !p.immediate) = true →
    Completes (.sysStage slot o pairs) s fun t =>
      (fget t.mbx.easy (easyKey o) = some { e with staged := pairs.foldl (fun m x => fset m x.1 x.2) e.staged }) ∧ Answers slot .ok 0 [] s t) ∧
  (∀ s (slot : Nat) (o : EasyObj) (e : EasyAll), CmdReady slot Opc.sysRowAll s → fget s.mbx.easy (easyKey o) = some e → e.slot = none → e.commit = none → stagedBad s o e.staged = none →
    Completes (.sysRowAll slot o none) s fun t =>
      fget t.mbx.easy (easyKey o) = some { e with commit := some slot } ∧ (slotAt t slot).st = .running) ∧
  (∀ s (slot : Nat) (o : EasyObj) (e : EasyAll), CmdReady slot Opc.sysEasyAbort s → fget s.mbx.easy (easyKey o) = some e → e.slot = none → e.commit = none → FSorted s.mbx.easy →
    Completes (.sysEasyAbort slot o) s fun t =>
      t.mbx.easy = fdel s.mbx.easy (easyKey o) ∧ Answers slot .ok 0 [] s t) ∧
  (∀ s (slot : Nat), CmdReady slot Opc.sysEasyList s →
    Completes (.sysEasyList slot) s fun t =>
      (Answers slot .ok 0 (s.mbx.easy.map fun e => [keyHi e.1 + 1, keyLo e.1, e.2.staged.length]).flatten s t) ∧
      Frame [.regs, .health, .mbx, .pci, .out] s t) ∧
  (∀ s (o : EasyObj) (e : EasyAll), Canonical s → fget s.mbx.easy (easyKey o) = some e → e.slot = none → e.commit = none →
    e.completed + 100 * max 1 (rd s Reg.MBX_EASY_CTRL_LIMIT) ≤ s.stk.ext → FSorted s.mbx.easy →
    Completes (.easyAllExpiry o) s fun t =>
      t.mbx.easy = fdel s.mbx.easy (easyKey o) ∧ isSet t Reg.MBX_EVENTS_EASY_EXPIRED = true) ∧
  (∀ s (cmd : Nat) (c : Cmd), Runs s → FSorted s.nv.cmds → cmdOf s cmd = some c → c.stage = .waiting → holdOver s c = true →
    Completes (.easyHoldLimit cmd) s fun t =>
      cmdOf t cmd = none)

/-- R133, R152, R421 to R423, R431, R491: what the head is, its parameters and their descriptors are told; parameters are set for the next
stroke edge; a hold-up budget sets every seat's cap; service mode is entered and left; a cox drill begins; in RECOVERY the generations are
told and one is chosen; the map's budget is set. The parameter identifiers are the model's own (log entry 66). -/
def Obligations.SystemCommandsComplete : Prop :=
  (∀ s (slot : Nat), CmdReady slot Opc.sysInfo s →
    Completes (.sysInfo slot) s fun t =>
      Answers slot .ok 0 [s.hw.seats, rd s Reg.PKG_ID_STEPPING, runVersion s, (myVersion s).1, (myVersion s).2, readsMedia s, mySide s,
        pairStNum s.pair.st, serviceMode s, 12 * s.hw.seats, 16384, 32] s t ∧
      Frame [.regs, .health, .mbx, .pci, .out] s t) ∧
  (∀ s (slot id : Nat) (o : EasyObj), CmdReady slot Opc.sysParamGet s → (paramOf id).any (fun p => paramFits o p && (p.cls == 0 || objExists s o)) = true →
    Completes (.sysParamGet slot o id) s fun t =>
      Answers slot .ok 0 [((paramOf id).map (paramValue s o id)).getD 0] s t ∧ Frame [.regs, .health, .mbx, .pci, .out] s t) ∧
  (∀ s (slot : Nat) (o : EasyObj) (pairs : List (Nat × Nat)), CmdReady slot Opc.sysParamSet s → pairUnknown o pairs = none →
    pairs.all (fun x => (paramOf x.1).any fun p => p.immediate && !valueBad s p x.2) = true →
    (pairs.any (fun x => decide (4096 ≤ x.1)) = false ∨ (objExists s o = true ∧ objForeign s o = false)) →
    Completes (.sysParamSet slot o pairs) s fun t =>
      Answers slot .ok 0 [] s t ∧ (t.mbx.paramsNext = pairs.foldl (fun m x => fset m (paramKey o x.1) x.2) s.mbx.paramsNext)) ∧
  (∀ s (slot id : Nat) (l : List Nat), CmdReady slot Opc.sysParamDescribe s →
    (paramOf id).map (fun p => [id, p.cls, paramType p.kind, p.width, p.lo, p.hi, paramUnit p.kind, paramReset p.kind, b2n p.immediate] ++
      (paramName id p.kind).toList.map Char.toNat) = some l →
    Completes (.sysParamDescribe slot id) s fun t =>
      Answers slot .ok 0 l s t ∧ Frame [.regs, .health, .mbx, .pci, .out] s t) ∧
  (∀ s (slot ms seat : Nat) (redundant : Bool), Canonical s → CmdReady slot Opc.sysHoldupDeclare s → 6 ≤ ms → ms ≤ 10000 → haulPoolsBad s = false → seat < s.hw.seats → s.hw.seats ≤ 8 →
    Completes (.sysHoldupDeclare slot ms redundant true) s fun t =>
      Answers slot .ok 0 [] s t ∧ rd t (Reg.CAT_CAP seat) = 6400000 * (ms - 5) ∧ rd t Reg.HLD_BUDGET_MS = ms ∧
      (isSet t Reg.PKG_DURABILITY_BUDGET_DECLARED, isSet t Reg.PKG_DURABILITY_SUPPLY_DECLARED) = (true, redundant)) ∧
  (∀ s (slot seat : Nat), Canonical s → CmdReady slot Opc.sysServiceEnter s → serviceMode s = 0 → seat < s.hw.seats → s.hw.seats ≤ 8 →
    Completes (.sysServiceEnter slot 3) s fun t =>
      Answers slot .ok 0 [] s t ∧ serviceMode t = 3 ∧ isSet t (Reg.FE_PORT_STATUS_OPEN seat) = false) ∧
  (∀ s (slot seat : Nat), Canonical s → CmdReady slot Opc.sysServiceExit s → serviceMode s = 3 → seat < s.hw.seats → s.hw.seats ≤ 8 →
    Completes (.sysServiceExit slot) s fun t =>
      Answers slot .ok 0 [] s t ∧ serviceMode t = 0 ∧ isSet t (Reg.FE_PORT_STATUS_OPEN seat) = true) ∧
  (∀ s (slot : Nat), Canonical s → CmdReady slot Opc.sysServiceExit s → serviceMode s = 2 →
    Completes (.sysServiceExit slot) s fun t =>
      Answers slot .ok 0 [] s t ∧ serviceMode t = 1 ∧ rd t Reg.PKG_BRINGUP_STEP = 9 ∧ (t.boot.mapDone, t.boot.rowsDone) = (false, false)) ∧
  (∀ s (slot gap : Nat) (faults : List Nat), Canonical s → CmdReady slot Opc.sysCoxDrill s → s.pair.st = .paired → isSet s Reg.MBX_COX_STANDBY_READY = true → s.upd.st ≠ .scheduled →
    s.upd.st ≠ .activating → s.cox.lastDrill = none → s.cox.drill = none →
    Completes (.sysCoxDrill slot gap faults) s fun t =>
      t.cox = { s.cox with drill := some ⟨slot, s.stk.ext, gap, faults⟩, switchDue := some gap } ∧ isSet t Reg.MBX_COX_DRILL = true ∧
      (slotAt t slot).st = .running ∧ RegsOnly [Reg.MBX_COX_DRILL] s t ∧ Frame [.regs, .cox, .mbx] s t) ∧
  (∀ s (slot : Nat), CmdReady slot Opc.sysRecoverScan s → serviceMode s = 2 →
    Completes (.sysRecoverScan slot) s fun t =>
      (Answers slot .ok 0 ((seatList s).map fun n => [n, (anchorGens s n).length] ++ anchorGens s n).flatten s t) ∧
      Frame [.regs, .health, .mbx, .pci, .out] s t) ∧
  (∀ s (slot gen : Nat), CmdReady slot Opc.sysRecoverUseGen s → serviceMode s = 2 → (seatList s).all (fun n => (anchorGens s n).contains gen) = true →
    Completes (.sysRecoverUseGen slot gen true) s fun t =>
      Answers slot .ok 0 [] s t ∧ t.mbx.recoverGen = some gen) ∧
  (∀ s (slot bytes : Nat), CmdReady slot Opc.sysMapBudget s →
    Completes (.sysMapBudget slot bytes) s fun t =>
      Answers slot .ok 0 [] s t ∧ t.mbx.mapBudget = bytes)

/-- R81, R82, R90, R181, R182, R309: a namespace of fitting settings is installed, open; one that is deleted goes to the release sweep; it
is told of; a subsystem and its hosts, and an ANA group with its home side, are stored; a secure discard with nothing to erase completes,
any other waits. -/
def Obligations.NamespaceCommandsComplete : Prop :=
  (∀ s (slot nsid : Nat) (p : NsParams), CmdReady slot Opc.nsCreate s → nsid ≠ 0 → nsid < 4294967295 → nsOf s nsid = none → fhas s.map.releasing nsid = false →
    nsBad s p = none → ownsSide s p.side = true → (groupOf s p.pool).any (·.readOnly) = false →
    Completes (.nsCreate slot nsid p) s fun t =>
      Answers slot .ok 0 [] s t ∧ nsOf t nsid = some ⟨⟨0, p, .opened, 0⟩, none, s.stk.ext, none, false⟩ ∧ Others [nsid] s.nv.ns t.nv.ns) ∧
  (∀ s (slot nsid : Nat) (n : Ns), CmdReady slot Opc.nsDelete s → nsOf s nsid = some n → ownsSide s n.cur.p.side = true → n.cg = none → FSorted s.nv.ns →
    Completes (.nsDelete slot nsid) s fun t =>
      Answers slot .ok 0 [] s t ∧ t.nv.ns = fdel s.nv.ns nsid ∧ (dirsOf s nsid = [] ∨ fget t.map.releasing nsid = some n.cur.p.tenant)) ∧
  (∀ s (slot nsid : Nat) (n : Ns), CmdReady slot Opc.nsSecureDiscard s → serviceMode s ≠ 0 → nsOf s nsid = some n → ownsSide s n.cur.p.side = true → s.map.discard = none →
    s.par.exts.all (fun e => e.2.nsid != nsid) = true → dirsOf s nsid = [] →
    Completes (.nsSecureDiscard slot nsid) s fun t =>
      Answers slot .ok 0 [0] s t ∧ t.map.discard = none) ∧
  (∀ s (slot nsid a : Nat) (n : Ns) (e : Ext) (g : Group) (r : Row), CmdReady slot Opc.nsSecureDiscard s → serviceMode s ≠ 0 → nsOf s nsid = some n → ownsSide s n.cur.p.side = true → s.map.discard = none →
    fget s.par.exts a = some e → e.nsid = nsid → groupOf s e.pool = some g → fget g.rows e.row = some r →
    Completes (.nsSecureDiscard slot nsid) s fun t =>
      ((t.map.discard).map (fun d => (d.slot, d.target, d.tenant)) = some (slot, nsid, false)) ∧ (slotAt t slot).st = .running) ∧
  (∀ s (slot nsid : Nat) (n : Ns), CmdReady slot Opc.nsInfo s → nsOf s nsid = some n → n.cur.adm = .opened →
    Completes (.nsInfo slot nsid) s fun t =>
      Answers slot .ok 0 [0, n.cur.p.size, usedEntries s nsid, n.cur.p.metaLen, n.cur.epoch, b2n n.prev.isSome] s t ∧
      Frame [.regs, .health, .mbx, .pci, .out] s t) ∧
  (∀ s (slot sub nqn tenant : Nat), CmdReady slot Opc.subsysCreate s → sub < 4096 → fhas s.nv.subsys sub = false → s.nv.subsys.length < 4096 →
    fhas s.nv.tenants tenant = true → nqn ≠ 0 → s.nv.subsys.any (fun e => e.2.nqn == nqn) = false →
    Completes (.subsysCreate slot sub nqn tenant) s fun t =>
      Answers slot .ok 0 [] s t ∧ t.nv.subsys = fset s.nv.subsys sub ⟨tenant, nqn, []⟩) ∧
  (∀ s (slot sub : Nat) (hosts : List Nat) (x : Subsys), CmdReady slot Opc.subsysHostsSet s → fget s.nv.subsys sub = some x →
    Completes (.subsysHostsSet slot sub hosts) s fun t =>
      Answers slot .ok 0 [] s t ∧ t.nv.subsys = fset s.nv.subsys sub { x with hosts := hosts }) ∧
  (∀ s (slot ana side : Nat), CmdReady slot Opc.anaGroupCreate s → ana ≠ 0 → ana < 4096 → fhas s.nv.anas ana = false → side < 2 → ownsSide s side = true →
    Completes (.anaGroupCreate slot ana side) s fun t =>
      Answers slot .ok 0 [] s t ∧ t.nv.anas = fset s.nv.anas ana side ∧ fget t.pair.own (ownKey false ana) = some ⟨side, side, 0, 0, none⟩)

/-- R82, R182, R381: a tenant is made with the key domain of its number; one without namespaces is removed with its subsystems; its
address ranges are replaced; a secure discard of a tenant whose data is gone completes at once. -/
def Obligations.TenantCommandsComplete : Prop :=
  (∀ s (slot tenant : Nat) (sprint : Bool), CmdReady slot Opc.tenantCreate s → tenant < 4095 → fhas s.nv.tenants tenant = false → domainOf s tenant = none →
    Completes (.tenantCreate slot tenant sprint) s fun t =>
      Answers slot .ok 0 [] s t ∧ fget t.nv.tenants tenant = some ⟨[], tenant, sprint⟩ ∧
      ((domainOf t tenant).map (fun x => (x.tenant, x.ns, x.gen, x.live, x.secret)) = some (tenant, false, 0, [0], true))) ∧
  (∀ s (slot tenant : Nat), CmdReady slot Opc.tenantDelete s → fhas s.nv.tenants tenant = true → s.nv.ns.any (fun n => n.2.cur.p.tenant == tenant) = false →
    FSorted s.nv.tenants →
    Completes (.tenantDelete slot tenant) s fun t =>
      Answers slot .ok 0 [] s t ∧ t.nv.tenants = fdel s.nv.tenants tenant ∧ (t.nv.subsys.all (fun e => e.2.tenant != tenant) = true)) ∧
  (∀ s (slot tenant : Nat) (ranges : List (Nat × Nat)) (x : Tenant), CmdReady slot Opc.tenantAddrSet s → fget s.nv.tenants tenant = some x → ranges.all (fun r => decide (r.1 ≤ r.2)) = true →
    Completes (.tenantAddrSet slot tenant ranges) s fun t =>
      Answers slot .ok 0 [] s t ∧ t.nv.tenants = fset s.nv.tenants tenant { x with ranges := ranges }) ∧
  (∀ s (slot tenant : Nat), CmdReady slot Opc.tenantSecureDiscard s → serviceMode s ≠ 0 → fhas s.nv.tenants tenant = true → s.map.discard = none →
    s.par.exts.all (fun e => e.2.tenant != tenant) = true → s.nv.ns.all (fun e => e.2.cur.p.tenant != tenant) = true →
    s.snp.snaps.all (fun e => e.2.tenant != tenant) = true →
    Completes (.tenantSecureDiscard slot tenant) s fun t =>
      Answers slot .ok 0 [0] s t ∧ t.map.discard = none)

/-- R482, R520, R525, R526: log entries after a stroke are copied to the host; a source's entries are told; a trigger is armed afresh; the
timers of a unit are the same on every seat; the power state of every unit is told. -/
def Obligations.HealthAndPowerCommandsComplete : Prop :=
  (∀ s (slot after : Nat), CmdReady slot Opc.logCopy s → s.pci.bme = true →
    Completes (.logCopy slot after) s fun t =>
      (Answers slot .ok 0 [((s.health.log.reverse.filter fun e => decide (after < e.ext)).take ((slotAt s slot).req.hostLen / 64)).length]
        s t) ∧
      (⟨.hostWrite true, slot :: (((s.health.log.reverse.filter fun e => decide (after < e.ext)).take ((slotAt s slot).req.hostLen /
        64)).map logWords).flatten⟩ ∈ t.out) ∧
      Frame [.regs, .health, .mbx, .pci, .out] s t) ∧
  (∀ s (slot source : Nat) (inst : Option Nat), CmdReady slot Opc.faultGet s → source ≠ 0 → source ≤ 0x14 →
    Completes (.faultGet slot source inst) s fun t =>
      (Answers slot .ok 0 ((s.health.faults.filter fun e => faultSource e.1 == source && inst.all (faultInst e.1 == ·)).map fun e =>
        [faultSeat e.1, faultInst e.1, windowCount e.2]).flatten s t) ∧
      Frame [.regs, .health, .mbx, .pci, .out] s t) ∧
  (∀ s (slot seat trig : Nat) (a : PfrArm), Canonical s → CmdReady slot Opc.pfrArm s → s.hw.seats ≤ 8 → armBad s seat trig a = none →
    Completes (.pfrArm slot seat trig a) s fun t =>
      Answers slot .ok 0 [] s t ∧ fget t.health.trigs (pairKey seat trig) = some ⟨a, 0, none⟩ ∧
      rd t (Reg.PFR_TRIG_KIND seat trig) = trigKind a.cond ∧ rd t (Reg.PFR_TRIG_FIRED seat trig) = 0) ∧
  (∀ s (slot unit paddle easy seat : Nat), Canonical s → CmdReady slot Opc.pwrTimersSet s → unit < 18 → paddle < 65536 → easy < 65536 → seat < s.hw.seats → s.hw.seats ≤ 8 →
    Completes (.pwrTimersSet slot unit paddle easy) s fun t =>
      Answers slot .ok 0 [] s t ∧
      (rd t (Reg.PWR_UNIT_CFG_PADDLE_IDLE seat unit), rd t (Reg.PWR_UNIT_CFG_EASY_IDLE seat unit)) = (paddle, easy)) ∧
  (∀ s (slot : Nat), CmdReady slot Opc.pwrStateGet s →
    Completes (.pwrStateGet slot) s fun t =>
      (Answers slot .ok 0 ((seatList s).map fun n => ((List.range 18).map fun u => [rd s (Reg.PWR_UNIT_STATE_STATE n u), rd s
        (Reg.PWR_UNIT_STATE_WAKE_SRC n u), rd s (Reg.PWR_UNIT_REFUSED_COUNT n u)]).flatten).flatten s t) ∧
      Frame [.regs, .health, .mbx, .pci, .out] s t)

/-- R434, R439, R447 to R449, R453 to R455: a link comes up and its state is shown; L1 is entered and left; Bus Master Enable, D3hot and
the masks hold messages back and their end sends them; a function-level reset retries configuration requests until its wait ends; DOE
discovery is answered. -/
def Obligations.EndpointCommandsComplete : Prop :=
  (∀ s (speed width : Nat) (flit : Bool), Canonical s → s.pci.perst = false → speed < 8 → width < 32 →
    Completes (.pcieLinkUp speed width flit) s fun t =>
      (rd t Reg.PCI_LINK_STATE_SPEED, rd t Reg.PCI_LINK_STATE_WIDTH, isSet t Reg.PCI_LINK_STATE_FLIT, rd t Reg.PCI_LINK_STATE_PM) = (speed,
        width, flit, 0) ∧
      t.pci.retry = (s.pci.retry && (s.pci.face || s.pci.flr)) ∧ (speed < 4 ∨ width < 4 → isSet t Reg.PCI_EVENTS_LINK_DEGRADED = true)) ∧
  (∀ s (sub : Nat), Canonical s → pcieUp s = true → rd s Reg.PCI_LINK_STATE_PM = 0 → sub < 3 → tagsOut s = [] →
    Completes (.pcieL1Entry sub) s fun t =>
      rd t Reg.PCI_LINK_STATE_PM = 1 + sub ∧
      rd t Reg.PCI_L1_ENTRIES_COUNT = min (rd s Reg.PCI_L1_ENTRIES_COUNT + 1) (2 ^ Reg.PCI_L1_ENTRIES_COUNT.width - 1) ∧
      RegsOnly [Reg.PCI_LINK_STATE_PM, Reg.PCI_L1_ENTRIES_COUNT] s t ∧ Frame [.regs] s t) ∧
  (∀ s (sub : Nat), tagsOut s ≠ [] →
    Completes (.pcieL1Entry sub) s fun t =>
      Frame [] s t) ∧
  (∀ s, Canonical s →
    Completes .pcieL1Exit s fun t =>
      rd t Reg.PCI_LINK_STATE_PM = 0 ∧ RegsOnly [Reg.PCI_LINK_STATE_PM] s t ∧ Frame [.regs] s t) ∧
  (∀ s, s.pci.retry = false →
    Completes .bmeClear s fun t =>
      t.pci.bme = false ∧ (t.pci.tags = fmapV s.pci.tags fun _ x => { x with abandoned := true }) ∧
      Frame [.regs, .health, .mbx, .pci, .out] s t) ∧
  (∀ s (slot : Nat), s.pci.retry = false → slotsWhere s (fun m => m.st == .running) = [slot] → readsOut s slot = true → (slotAt s slot).orphan = false →
    Completes .bmeClear s fun t =>
      t.pci.bme = false ∧ Answers slot .hostMemory 0 [] s t) ∧
  (∀ s, Canonical s → s.pci.retry = false →
    Completes .bmeSet s fun t =>
      t.pci.bme = true ∧ t.pci.pendingVecs.any (msixOpen t) = false ∧
      (∀ x ∈ s.pci.pendingVecs, x ∈ t.pci.pendingVecs ∨ ⟨.msix false, [x]⟩ ∈ t.out) ∧ RegsOnly [Reg.PCI_LINK_STATE_PM] s t ∧
      Frame [.regs, .pci, .out] s t) ∧
  (∀ s (vector : Nat), Canonical s → s.pci.retry = false →
    Completes (.msixUnmask (some vector)) s fun t =>
      t.pci.unmasked.contains vector = true ∧ t.pci.pendingVecs.any (msixOpen t) = false ∧
      (∀ x ∈ s.pci.pendingVecs, x ∈ t.pci.pendingVecs ∨ ⟨.msix false, [x]⟩ ∈ t.out) ∧ RegsOnly [Reg.PCI_LINK_STATE_PM] s t ∧
      Frame [.regs, .pci, .out] s t) ∧
  (∀ s, Canonical s → s.pci.retry = false →
    Completes (.msixUnmask none) s fun t =>
      t.pci.msixEnable = true ∧ t.pci.pendingVecs.any (msixOpen t) = false ∧
      (∀ x ∈ s.pci.pendingVecs, x ∈ t.pci.pendingVecs ∨ ⟨.msix false, [x]⟩ ∈ t.out) ∧ RegsOnly [Reg.PCI_LINK_STATE_PM] s t ∧
      Frame [.regs, .pci, .out] s t) ∧
  (∀ s, s.pci.retry = false →
    Completes .pmD3hot s fun t =>
      t.pci = { s.pci with d3 := true } ∧ Frame [.pci] s t) ∧
  (∀ s, Canonical s → s.pci.retry = false →
    Completes .pmD0 s fun t =>
      t.pci.d3 = false ∧ t.pci.pendingVecs.any (msixOpen t) = false ∧
      (∀ x ∈ s.pci.pendingVecs, x ∈ t.pci.pendingVecs ∨ ⟨.msix false, [x]⟩ ∈ t.out) ∧ RegsOnly [Reg.PCI_LINK_STATE_PM] s t ∧
      Frame [.regs, .pci, .out] s t) ∧
  (∀ s, Canonical s → s.pci.retry = false →
    Completes .pcieFlr s fun t =>
      (t.pci.flr, t.pci.retry, t.pci.bme) = (true, true, false) ∧ t.mbx = (slotsCut s).mbx ∧
      (t.pci.tags = fmapV s.pci.tags fun _ x => { x with abandoned := true }) ∧
      (downloading s = true → rd t Reg.PKG_BOOT_OFFSET_BYTES = 0 ∧ t.boot.restarted = true)) ∧
  (∀ s (micros : Nat) (timedOut : Bool), Canonical s → s.pci.flr = true → (timedOut = true ∨ tagsOut s = []) →
    Completes (.flrWaitDone micros timedOut) s fun t =>
      (t.pci.flr, t.pci.retry, t.pci.bme, t.pci.msixEnable) = (false, s.pci.face, false, false) ∧
      (t.pci.tags = fmapV s.pci.tags fun _ x => { x with reserved := true }) ∧ rd t Reg.PCI_FLR_WAIT_MICROSECONDS = micros % 2 ^ 32 ∧
      isSet t Reg.PCI_EVENTS_FLR_DONE = true ∧ (timedOut = true → isSet t Reg.PCI_EVENTS_FLR_TIMED_OUT = true) ∧
      (t.mbx.slots.all (fun x => x.2.st == .running) = true)) ∧
  (∀ s (tag : Nat) (x : PciTag), fget s.pci.tags tag = some x → x.reserved = true → FSorted s.pci.tags →
    Completes (.flrTagRelease tag) s fun t =>
      t.pci = { s.pci with tags := fdel s.pci.tags tag } ∧ Frame [.pci] s t) ∧
  (∀ s (protocol bytes : Nat), s.pci.retry = false → s.pci.doe = false → bytes ≤ 65536 → protocol ≤ 2 →
    Completes (.doeRequest protocol bytes) s fun t =>
      (protocol = 0 → t.out = ⟨.doe, [0, 0, 1, 2]⟩ :: s.out ∧ t.pci = s.pci) ∧
      (protocol ≠ 0 → t.out = s.out ∧ t.pci = { s.pci with doe := true }) ∧ Frame [.pci, .out] s t) ∧
  (∀ s, s.pci.retry = false →
    Completes .doeAbort s fun t =>
      t.pci = { s.pci with doe := false } ∧ Frame [.pci] s t)

/-- R436, R444, R445, R450 to R452, R455, R458: a completion releases its tag and, without data, ends its command; a poisoned write marks
its slot; a reset of the link resets the function alone at scope FACE and everything but what is kept at scope FULL; the scope is FACE
only once the mailbox is ready. -/
def Obligations.CompletionsAndResetsComplete : Prop :=
  (∀ s (tag : Nat) (r : CplResult) (x : PciTag), Canonical s → fget s.pci.tags tag = some x → (x.abandoned = true ∨ x.reserved = true ∨ r = .data) → FSorted s.pci.tags →
    Completes (.pcieCompletion tag r) s fun t =>
      t.pci.tags = fdel s.pci.tags tag ∧ t.mbx = s.mbx ∧
      (x.abandoned = true ∨ x.reserved = true → rd t Reg.PCI_DISCARDED_COUNT = min (rd s Reg.PCI_DISCARDED_COUNT + 1) (2 ^
        Reg.PCI_DISCARDED_COUNT.width - 1)) ∧
      (x.reserved = false → rd t Reg.PCI_OUTSTANDING_COUNT = rd s Reg.PCI_OUTSTANDING_COUNT - 1)) ∧
  (∀ s (tag slot : Nat) (r : CplResult), Canonical s → fget s.pci.tags tag = some ⟨slot, false, false⟩ → r ≠ .data → (slotAt s slot).st = .running →
    (slotAt s slot).orphan = false →
    Completes (.pcieCompletion tag r) s fun t =>
      Answers slot .hostMemory 0 [] s t ∧
      (t.pci.tags = fmapV (fdel s.pci.tags tag) fun _ x => if x.slot = slot then { x with abandoned := true } else x) ∧
      rd t Reg.PCI_OUTSTANDING_COUNT = rd s Reg.PCI_OUTSTANDING_COUNT - 1 ∧
      (r = .poisoned → rd t Reg.PCI_POISON_RCVD_COUNT = min (rd s Reg.PCI_POISON_RCVD_COUNT + 1) (2 ^ Reg.PCI_POISON_RCVD_COUNT.width - 1))) ∧
  (∀ s (tag slot : Nat), Canonical s → fget s.pci.tags tag = some ⟨slot, false, false⟩ → s.pci.flr = false → (slotAt s slot).st = .running →
    (slotAt s slot).orphan = false →
    Completes (.pcieCompletionTimeout tag) s fun t =>
      Answers slot .hostMemory 0 [] s t ∧
      (t.pci.tags = fmapV (fdel s.pci.tags tag) fun _ x => if x.slot = slot then { x with abandoned := true } else x) ∧
      rd t Reg.PCI_OUTSTANDING_COUNT = rd s Reg.PCI_OUTSTANDING_COUNT - 1 ∧ bitOf t.pci.aer.uncorr (uncorrBit .completionTimeout) = true) ∧
  (∀ s (off n : Nat), Canonical s → off < 4194304 → n = off / 65536 → (off % 65536 < 64 ∨ (128 ≤ off % 65536 ∧ off % 65536 < 32768)) →
    Completes (.pciePoisonedWrite 2 off) s fun t =>
      slotAt t n = { slotAt s n with poisoned := true } ∧ Others [n] s.mbx.slots t.mbx.slots ∧
      rd t Reg.PCI_POISON_RCVD_COUNT = min (rd s Reg.PCI_POISON_RCVD_COUNT + 1) (2 ^ Reg.PCI_POISON_RCVD_COUNT.width - 1) ∧
      isSet t Reg.PCI_EVENTS_POISON_RCVD = true ∧ bitOf t.pci.aer.uncorr (uncorrBit .poisoned) = true) ∧
  (∀ s (off : Nat), Canonical s → 67108864 ≤ off → off < 134217728 → downloading s = true →
    Completes (.pciePoisonedWrite 2 off) s fun t =>
      rd t Reg.PKG_BOOT_STATUS_ERROR = 9 ∧ (rd t Reg.PKG_BOOT_STATUS_PHASE, rd t Reg.PKG_BOOT_OFFSET_BYTES) = (1, 0)) ∧
  (∀ s (value : Nat), Canonical s → s.pci.retry = false → (value % 2 = 0 ∨ isSet s Reg.MBX_STATUS_READY = true) →
    Completes (.pciResetScopeWrite value) s fun t =>
      rd t Reg.PCI_RESET_SCOPE_SCOPE = value % 2 ∧ RegsOnly [Reg.PCI_RESET_SCOPE_SCOPE] s t ∧ Frame [.regs] s t) ∧
  (∀ s, Canonical s → s.pci.perst = false → rd s Reg.PCI_RESET_SCOPE_SCOPE = 0 →
    Completes .perstAssert s fun t =>
      t.pci.perst = true ∧ (t.mbx, t.fe, t.rds) = (State.reset.mbx, State.reset.fe, State.reset.rds) ∧
      (t.stk.floors, t.par.exts, t.keys.ctrs) = (s.stk.floors, s.par.exts, s.keys.ctrs) ∧ isSet t Reg.PKG_RESET_CAUSE_PERST = true) ∧
  (∀ s, s.pci.perst = false → rd s Reg.PCI_RESET_SCOPE_SCOPE = 1 →
    Completes .perstAssert s fun t =>
      (t.pci.perst, t.pci.face, t.pci.retry, t.pci.tags) = (true, true, true, []) ∧ pcieUp t = false ∧
      (t.mbx.slots.all (fun x => x.2.st == .running) = true) ∧ Frame [.regs, .bus, .health, .mbx, .pci, .out] s t) ∧
  (∀ s, Canonical s → s.pci.perst = false → rd s Reg.PCI_RESET_SCOPE_SCOPE = 0 →
    Completes .pcieHotReset s fun t =>
      (t.mbx, t.fe, t.rds) = (State.reset.mbx, State.reset.fe, State.reset.rds) ∧ (t.stk.floors, t.par.exts) = (s.stk.floors, s.par.exts) ∧
      isSet t Reg.PKG_RESET_CAUSE_HOT_RESET = true) ∧
  (∀ s, s.pci.perst = false → rd s Reg.PCI_RESET_SCOPE_SCOPE = 1 →
    Completes .pcieHotReset s fun t =>
      (t.pci.face, t.pci.retry, t.pci.tags) = (true, true, []) ∧ pcieUp t = false ∧ Frame [.regs, .bus, .health, .mbx, .pci, .out] s t) ∧
  (∀ s, Canonical s → s.pci.perst = false → pcieUp s = true → rd s Reg.PCI_RESET_SCOPE_SCOPE = 0 →
    Completes .pcieLinkDown s fun t =>
      (t.mbx, t.fe, t.rds) = (State.reset.mbx, State.reset.fe, State.reset.rds) ∧ isSet t Reg.PKG_RESET_CAUSE_LINK_DOWN = true) ∧
  (∀ s, s.pci.perst = false → pcieUp s = true → rd s Reg.PCI_RESET_SCOPE_SCOPE = 1 →
    Completes .pcieLinkDown s fun t =>
      (t.pci.face, t.pci.retry, t.pci.tags) = (true, true, []) ∧ pcieUp t = false ∧ Frame [.regs, .bus, .health, .mbx, .pci, .out] s t) ∧
  (∀ s, s.pci.face = true → s.pci.perst = false → pcieUp s = true →
    Completes .faceRestoreDone s fun t =>
      t.pci = { s.pci with face := false, retry := false } ∧ Frame [.pci] s t) ∧
  (∀ s (cause : ResetCause), Canonical s → (cause = .powerUp ∨ rd s Reg.PCI_RESET_SCOPE_SCOPE = 0) →
    Completes (.fullReset cause) s fun t =>
      (t.mbx, t.fe, t.rds, t.pci) = (State.reset.mbx, State.reset.fe, State.reset.rds, State.reset.pci) ∧
      (t.stk.floors, t.par.exts, t.keys.ctrs, t.bld.roots) = (s.stk.floors, s.par.exts, s.keys.ctrs, s.bld.roots) ∧
      t.hw.straps = (if cause = .powerUp then Straps.low else s.hw.straps) ∧
      t.health.recs = (if cause = .powerUp then [] else s.health.recs) ∧ t.pending = s.pending ∧
      isSet t Reg.PKG_RESET_CAUSE_POWER_ON = (cause == .powerUp))

/-- R51, R459, R461, R465 to R468, R471, R578: the floor is read and written ahead, the known-answer tests run, the image is taken at the
running offset, its header is checked, and a verified image runs; a restart, a time-out or a write elsewhere refuses the download. -/
def Obligations.BootCommandsComplete : Prop :=
  (∀ s (b : BootRom) (e : Nat) (l : FMap Floor), Canonical s → s.pci.perst = true → s.pci.face = false → s.hw.brownout = false → s.stk.released = false → bootPhase s = 0 →
    (if s.boot.sampled then s.hw.straps else b.straps).test = 0 →
    l = fmapV s.stk.floors (fun n f => { f with intact := f.intact && !b.torn.contains n }) →
    highestFloor { s with stk := { s.stk with floors := l } } = some e → b.floorFails < 15 →
    Completes (.perstDeassert b) s fun t =>
      t.pci.perst = false ∧ (t.stk.released, t.stk.ext, t.stk.tick) = (true, e, 0) ∧
      (t.stk.floors.any (fun x => x.2.intact && x.2.value == e + 65536) = true) ∧
      rd t Reg.PKG_BOOT_STATUS_PHASE = (if b.katOk then 1 else 6) ∧ isSet t Reg.KEY_STATUS_READY = (b.katOk || isSet s Reg.KEY_STATUS_READY)) ∧
  (∀ s (b : BootRom), Canonical s → s.pci.perst = true → s.pci.face = false → s.hw.brownout = false → s.stk.released = false → bootPhase s = 0 →
    (if s.boot.sampled then s.hw.straps else b.straps).test = 0 → 15 ≤ b.floorFails →
    (highestFloor { s with stk := { s.stk with floors := fmapV s.stk.floors (fun n f => { f with intact := f.intact && !b.torn.contains n }) } }).isSome = true →
    Completes (.perstDeassert b) s fun t =>
      t.stk.released = false ∧ (rd t Reg.PKG_BOOT_STATUS_PHASE, rd t Reg.PKG_BRINGUP_FAILED_STEP) = (7, 1)) ∧
  (∀ s (b : BootRom), Canonical s → s.pci.perst = true → s.pci.face = false → s.hw.brownout = false → s.stk.released = false → bootPhase s = 0 →
    (if s.boot.sampled then s.hw.straps else b.straps).test ≠ 0 →
    Completes (.perstDeassert b) s fun t =>
      t.pci.perst = false ∧ rd t Reg.PKG_BOOT_STATUS_PHASE = 7 ∧ t.stk = s.stk) ∧
  (∀ s (off len : Nat) (tagsOk : Bool), Canonical s → downloading s = true → s.boot.header = none → len ≠ 0 → off = rd s Reg.PKG_BOOT_OFFSET_BYTES → off + len ≤ 16384 →
    Completes (.bootWindowWrite off len tagsOk) s fun t =>
      rd t Reg.PKG_BOOT_OFFSET_BYTES = off + len ∧ rd t Reg.PKG_BOOT_STATUS_PHASE = 2 ∧ t.boot = { s.boot with lastWrite := s.stk.ext } ∧
      (off + len = 16384 → rd t Reg.PKG_BRINGUP_STEP = 3) ∧ Frame [.regs, .boot] s t) ∧
  (∀ s (off len : Nat) (h : ImageHeader), Canonical s → downloading s = true → s.boot.header = some h → len ≠ 0 → off = rd s Reg.PKG_BOOT_OFFSET_BYTES →
    off + len ≤ 16384 + h.bodyLen → off + len < 2 ^ 27 →
    Completes (.bootWindowWrite off len true) s fun t =>
      rd t Reg.PKG_BOOT_OFFSET_BYTES = off + len ∧
      rd t Reg.PKG_BOOT_STATUS_PHASE = (if off + len = 16384 + h.bodyLen then 4 else rd s Reg.PKG_BOOT_STATUS_PHASE) ∧
      ctxOf t 0 0 = { ctxOf s 0 0 with count := (ctxOf s 0 0).count + len } ∧ Frame [.regs, .boot, .keys] s t) ∧
  (∀ s (off len : Nat) (tagsOk : Bool), Canonical s → downloading s = true → len ≠ 0 → off ≠ rd s Reg.PKG_BOOT_OFFSET_BYTES →
    Completes (.bootWindowWrite off len tagsOk) s fun t =>
      rd t Reg.PKG_BOOT_STATUS_ERROR = 8 ∧
      (rd t Reg.PKG_BOOT_STATUS_PHASE, rd t Reg.PKG_BOOT_OFFSET_BYTES, rd t Reg.PKG_BRINGUP_STEP) = (1, 0, 2) ∧ t.boot.header = none ∧
      Frame [.regs, .boot, .keys, .pci, .out] s t) ∧
  (∀ s (h : ImageHeader) (c : HeaderChecks), Canonical s → bootPhase s = 2 → rd s Reg.PKG_BOOT_OFFSET_BYTES = 16384 → headerRefusal 67092480 h c s = none →
    Completes (.bootHeaderChecked h c) s fun t =>
      t.boot = { s.boot with header := some h } ∧
      (rd t Reg.PKG_BOOT_STATUS_PHASE, rd t Reg.PKG_BRINGUP_STEP, rd t (Reg.DIG_STATUS_BOOT_CTX 0)) = (3, 4, 1) ∧
      ctxOf t 0 0 = ⟨1, 1, true, false, false, 1, false, 0, []⟩ ∧ slotHas t 0 imageKeySlot = true) ∧
  (∀ s (h : ImageHeader) (c : HeaderChecks) (r : Nat), Canonical s → bootPhase s = 2 → rd s Reg.PKG_BOOT_OFFSET_BYTES = 16384 → headerRefusal 67092480 h c s = some r →
    Completes (.bootHeaderChecked h c) s fun t =>
      rd t Reg.PKG_BOOT_STATUS_ERROR = r ∧
      (rd t Reg.PKG_BOOT_STATUS_PHASE, rd t Reg.PKG_BOOT_OFFSET_BYTES, rd t Reg.PKG_BRINGUP_STEP) = (1, 0, 2)) ∧
  (∀ s (h : ImageHeader), Canonical s → s.boot.header = some h → bootPhase s = 4 → s.hw.seats ≤ 8 →
    Completes (.bootImageVerified true true) s fun t =>
      (t.boot.running, t.boot.measured, t.boot.header) = (some h, some h, none) ∧
      (rd t Reg.PKG_BOOT_STATUS_PHASE, rd t Reg.PKG_BRINGUP_STEP) = (5, 6) ∧ (isSet t Reg.MBX_STATUS_READY, serviceMode t) = (true, 1) ∧
      rd t Reg.PKG_BOOT_VERSION_VERSION = h.version % 2 ^ Reg.PKG_BOOT_VERSION_VERSION.width ∧
      rd t Reg.PKG_BOOT_SVN_SVN = h.svn % 2 ^ Reg.PKG_BOOT_SVN_SVN.width) ∧
  (∀ s (h : ImageHeader) (equal sramOk : Bool), Canonical s → s.boot.header = some h → bootPhase s = 4 → (equal = false ∨ sramOk = false) →
    Completes (.bootImageVerified equal sramOk) s fun t =>
      rd t Reg.PKG_BOOT_STATUS_ERROR = (if sramOk then 0x0B else 0x0E) ∧
      (rd t Reg.PKG_BOOT_STATUS_PHASE, rd t Reg.PKG_BOOT_OFFSET_BYTES, rd t Reg.PKG_BRINGUP_STEP) = (1, 0, 2) ∧
      t.boot.running = s.boot.running) ∧
  (∀ s, Canonical s → rd s Reg.PKG_BOOT_OFFSET_BYTES ≠ 0 → downloading s = true →
    Completes .bootRestart s fun t =>
      rd t Reg.PKG_BOOT_STATUS_ERROR = 0x0D ∧ rd t Reg.PKG_BOOT_STATUS_ATTEMPTS = min (rd s Reg.PKG_BOOT_STATUS_ATTEMPTS + 1) 255 ∧
      (rd t Reg.PKG_BOOT_STATUS_PHASE, rd t Reg.PKG_BOOT_OFFSET_BYTES, rd t Reg.PKG_BRINGUP_STEP) = (1, 0, 2) ∧ t.boot.header = none) ∧
  (∀ s, Canonical s → bootPhase s = 3 → s.boot.lastWrite + 100000 ≤ s.stk.ext →
    Completes .bootDownloadTimeout s fun t =>
      rd t Reg.PKG_BOOT_STATUS_ERROR = 0x0C ∧
      (rd t Reg.PKG_BOOT_STATUS_PHASE, rd t Reg.PKG_BOOT_OFFSET_BYTES, rd t Reg.PKG_BRINGUP_STEP) = (1, 0, 2) ∧ t.boot.header = none)

/-- R471 to R478: the seats that passed their self test come up, the channels trained enter service, discovery ends, the sides this head
owns are recovered, and the front end opens at its first stroke of service; a step that cannot complete puts the head into RECOVERY. -/
def Obligations.BringUpCommandsComplete : Prop :=
  (∀ s (passed : List Bool) (seat : Nat), Canonical s → rd s Reg.PKG_BRINGUP_STEP = 6 → serviceMode s = 1 → s.boot.halted = false →
    (seatList s).all (fun n => passed.getD n false) = true → seat < s.hw.seats → s.hw.seats ≤ 8 →
    Completes (.clusterSelfTestDone passed) s fun t =>
      t.boot = { s.boot with seatsUp := seatList s } ∧
      (rd t Reg.PKG_BRINGUP_STEP, rd t (Reg.ANC_STATUS_READY seat), rd t (Reg.CIP_STATUS_SELFTEST_OK seat)) = (7, 1, 1) ∧
      Frame [.regs, .boot] s t) ∧
  (∀ s (passed : List Bool), Canonical s → rd s Reg.PKG_BRINGUP_STEP = 6 → serviceMode s = 1 → s.boot.halted = false →
    (seatList s).any (fun n => !passed.getD n false) = true →
    Completes (.clusterSelfTestDone passed) s fun t =>
      (rd t Reg.PKG_BRINGUP_FAILED_STEP, serviceMode t) = (6, 2) ∧ (t.boot.seatsUp = (seatList s).filter fun n => passed.getD n false)) ∧
  (∀ s (dimms : List Dimm), Canonical s → s.boot.halted = false → (rd s Reg.PKG_BRINGUP_STEP = 7 ∨ rd s Reg.PKG_BRINGUP_STEP = 8) → s.boot.dramDone = false →
    serviceMode s = 1 →
    (seatList s).all (fun n => [0, 1].all fun ch => (dimms.find? fun d => d.seat == n && d.channel == ch).any (dimmOk (dimms.find? fun d =>
      d.seat == 0 && d.channel == 0))) = true →
    Completes (.bringupDramTrained dimms) s fun t =>
      t.boot = { s.boot with dramDone := true } ∧ rd t Reg.PKG_BRINGUP_STEP = (if s.boot.bladesDone then 9 else 8) ∧
      isSet t Reg.LOG_STATUS_READY = true ∧ Frame [.regs, .boot, .dram] s t) ∧
  (∀ s, Canonical s → s.boot.halted = false → (rd s Reg.PKG_BRINGUP_STEP = 7 ∨ rd s Reg.PKG_BRINGUP_STEP = 8) → s.boot.bladesDone = false →
    serviceMode s = 1 →
    Completes .bringupDiscoveryDone s fun t =>
      t.boot = { s.boot with bladesDone := true } ∧ rd t Reg.PKG_BRINGUP_STEP = (if s.boot.dramDone then 9 else 7)) ∧
  (∀ s (r : RecoveryInfo), Canonical s → s.boot.halted = false → rd s Reg.PKG_BRINGUP_STEP = 9 → serviceMode s = 1 → s.boot.dramDone = true →
    s.boot.bladesDone = true → s.boot.mapDone = false → isSet s (Reg.MAP_STATUS_RECOVERING 0) = false →
    isSet s Reg.KEY_STATUS_PAIR_KEK = false →
    Completes (.sideRecovery r) s fun t =>
      rd t Reg.PKG_BRINGUP_STEP = 11 ∧ t.pair.recovered = [] ∧ t.boot.mapDone = true ∧ t.boot.rowsDone = true) ∧
  (∀ s (r : RecoveryInfo) (side seat : Nat), Canonical s → s.boot.halted = false → rd s Reg.PKG_BRINGUP_STEP = 9 → serviceMode s = 1 → s.boot.dramDone = true →
    s.boot.bladesDone = true → s.boot.mapDone = false → isSet s (Reg.MAP_STATUS_RECOVERING 0) = false →
    isSet s Reg.KEY_STATUS_PAIR_KEK = true → [0, 1].filter (sideMine s) = [side] → r.readable.contains side = true →
    r.mediaFormat ≤ readsMedia s → seat < s.hw.seats → s.hw.seats ≤ 8 →
    Completes (.sideRecovery r) s fun t =>
      t.pair.recovered = [side] ∧ isSet t (Reg.MAP_STATUS_RECOVERING seat) = true ∧ t.upd.media = r.mediaFormat ∧ t.boot = s.boot) ∧
  (∀ s (seat : Nat), Canonical s → s.boot.halted = false → (rd s Reg.PKG_BRINGUP_STEP = 11 ∨ rd s Reg.PKG_BRINGUP_STEP = 12) → serviceMode s = 1 →
    mayOpen s = true → seat < s.hw.seats → s.hw.seats ≤ 8 →
    Completes .frontEndOpen s fun t =>
      (rd t Reg.PKG_BRINGUP_STEP, serviceMode t, isSet t (Reg.FE_PORT_STATUS_OPEN seat)) = (13, 0, true) ∧
      (rd t (Reg.FE_PORT_STATUS_LINK_UP seat), rd t (Reg.FE_PORT_STATUS_FEC_LOCK seat)) = (2 ^ subPorts s seat - 1, 2 ^ subPorts s seat -
        1) ∧
      rd t Reg.PKG_OPEN = s.stk.ext % 2 ^ 64)

/-- R480 to R486, R490, R493 to R498, R572, R573: an idle unit enters PADDLE and EASY, or is refused or aborted with its source; an access
wakes it. A power warning or a trip hauls out: service stops, each seat writes its images, and with the last valid mark the head halts. A
low rail is shown; a brown-out resets the device, which starts again when every rail is back. -/
def Obligations.PowerCommandsComplete : Prop :=
  (∀ s (seat unit : Nat), Canonical s → s.boot.halted = false → isUnit s seat unit = true → unit ≠ 16 → isSet s (Reg.PWR_CTRL_AUTO seat) = true →
    rd s (Reg.PWR_UNIT_CFG_PADDLE_IDLE seat unit) ≠ 0 → unitState s seat unit = 0 → unitHeld s seat = none →
    Completes (.unitPaddleEntry seat unit none none) s fun t =>
      unitState t seat unit = 1 ∧ RegsOnly [Reg.PWR_UNIT_STATE_STATE seat unit] s t ∧ Frame [.regs] s t) ∧
  (∀ s (seat unit source : Nat) (work abort : Option Nat), Canonical s → s.boot.halted = false → isUnit s seat unit = true → unit ≠ 16 → isSet s (Reg.PWR_CTRL_AUTO seat) = true →
    rd s (Reg.PWR_UNIT_CFG_PADDLE_IDLE seat unit) ≠ 0 → unitState s seat unit = 0 → (unitHeld s seat).orElse (fun _ => work) = some source →
    Completes (.unitPaddleEntry seat unit work abort) s fun t =>
      unitState t seat unit = 0 ∧
      rd t (Reg.PWR_UNIT_STATE_REFUSED_BY seat unit) = source % 2 ^ (Reg.PWR_UNIT_STATE_REFUSED_BY seat unit).width ∧
      RegsOnly [Reg.PWR_UNIT_REFUSED_COUNT seat unit, Reg.PWR_UNIT_STATE_REFUSED_BY seat unit] s t ∧ Frame [.regs] s t) ∧
  (∀ s (seat unit : Nat), Canonical s → s.boot.halted = false → isUnit s seat unit = true → easyAllowed unit = true → isSet s (Reg.PWR_CTRL_AUTO seat) = true →
    rd s (Reg.PWR_UNIT_CFG_EASY_IDLE seat unit) ≠ 0 → unitState s seat unit = 1 → unitHeld s seat = none → easyHeld s seat unit = none →
    FSorted s.keys.slots → FSorted s.par.inverses →
    Completes (.unitEasyEntry seat unit none none) s fun t =>
      unitState t seat unit = 2 ∧ (unit = 6 → t.keys.slots = fdel s.keys.slots seat ∧ rd t (Reg.CIP_SLOTS_USED_COUNT seat) = 0) ∧
      (unit = 7 → t.par.inverses = fdel s.par.inverses seat) ∧ (unit = 8 → (tcOf t seat).sets = []) ∧
      RegsOnly [Reg.PWR_UNIT_STATE_STATE seat unit, Reg.CIP_SLOTS_USED_COUNT seat] s t) ∧
  (∀ s (seat unit source cycles : Nat), Canonical s → isUnit s seat unit = true → unitState s seat unit ≠ 0 →
    Completes (.unitWake seat unit source cycles) s fun t =>
      unitState t seat unit = 0 ∧
      rd t (Reg.PWR_UNIT_STATE_WAKE_SRC seat unit) = source % 2 ^ (Reg.PWR_UNIT_STATE_WAKE_SRC seat unit).width ∧
      RegsOnly [Reg.PWR_UNIT_STATE_STATE seat unit, Reg.PWR_UNIT_STATE_WAKE_SRC seat unit, Reg.PWR_UNIT_WAKES_COUNT seat unit,
        Reg.PWR_UNIT_STALL_COUNT seat unit] s t ∧
      Frame [.regs] s t) ∧
  (∀ s (ticks : Nat), Canonical s → max 1 (rd s Reg.HLD_FILTER_TICKS) ≤ ticks → rd s Reg.HLD_STATUS_PHASE = 0 → s.boot.halted = false →
    s.hw.brownout = false →
    Completes (.pwrWarnDetect ticks) s fun t =>
      rd t Reg.HLD_STATUS_PHASE = (if t.pwr.writing = [] then 4 else 2) ∧ t.boot.halted = decide (t.pwr.writing = []) ∧ t.pair.view = []) ∧
  (∀ s (ticks : Nat), Canonical s → ticks < max 1 (rd s Reg.HLD_FILTER_TICKS) →
    Completes (.pwrWarnGlitch ticks) s fun t =>
      isSet t Reg.HLD_EVENTS_GLITCH = true ∧ RegsKept [Reg.HLD_EVENTS_GLITCH] s t) ∧
  (∀ s (seat : Nat), Canonical s → 16 ≤ fgetD s.pwr.hotStrokes seat 0 → rd s Reg.HLD_STATUS_PHASE = 0 → s.boot.halted = false → s.hw.brownout = false →
    Completes (.thermalTrip seat) s fun t =>
      rd t Reg.HLD_STATUS_PHASE = (if t.pwr.writing = [] then 4 else 2) ∧ t.boot.halted = decide (t.pwr.writing = []) ∧ t.pair.view = []) ∧
  (∀ s (seat side k : Nat), Canonical s → s.boot.halted = false → writingKey s seat side = some k →
    Completes (.hauloutImageProgrammed seat side) s fun t =>
      (t.pwr = { s.pwr with images := fmod s.pwr.images k fun i => { i with programmed := true } }) ∧
      (s.pwr.writing = [k] → rd t Reg.HLD_STATUS_PHASE = 3) ∧ RegsOnly [Reg.HLD_STATUS_PHASE] s t ∧ Frame [.regs, .pwr] s t) ∧
  (∀ s (seat side micros k : Nat) (i : HaulImage), Canonical s → s.boot.halted = false → writingKey s seat side = some k → fget s.pwr.images k = some i → i.programmed = true →
    Completes (.hauloutMarkProgrammed seat side micros) s fun t =>
      fget t.pwr.images k = some { i with valid := true, micros := micros } ∧ t.pwr.writing = s.pwr.writing.filter (· != k) ∧
      (t.pwr.writing = [] → t.boot.halted = true ∧ rd t Reg.HLD_STATUS_PHASE = 4 ∧ t.out = ⟨.pin, [1, 1]⟩ :: s.out) ∧
      (t.map = (headsDone seat (fun h => h.kind == 7) s).map) ∧ Frame [.regs, .pwr, .boot, .map, .out] s t) ∧
  (∀ s (rail : Nat), Canonical s → rail < 7 → bitOf (rd s Reg.PKG_SUPPLY_LOW) rail = false →
    Completes (.supplyLow rail) s fun t =>
      bitOf (rd t Reg.PKG_SUPPLY_LOW) rail = true ∧ RegsKept [Reg.PKG_SUPPLY_LOW] s t) ∧
  (∀ s (rail : Nat), Canonical s → rail < 7 →
    Completes (.brownout rail) s fun t =>
      t.hw.brownout = true ∧ t.hw.railsOut.contains rail = true ∧ t.pci = { State.reset.pci with perst := s.pci.perst } ∧
      bitOf (rd t Reg.PKG_SUPPLY_BROWNOUT) rail = true ∧ bitOf (rd t Reg.PKG_SUPPLY_LOW) rail = true ∧
      isSet t Reg.PKG_RESET_CAUSE_POWER_ON = true ∧
      (t.mbx, t.fe, t.stk.floors, t.par.exts) = (State.reset.mbx, State.reset.fe, s.stk.floors, s.par.exts)) ∧
  (∀ s (rail : Nat) (b : BootRom), Canonical s → rail < 7 → (s.hw.brownout = false ∨ s.pci.perst = true) →
    Completes (.supplyRestored rail b) s fun t =>
      t.hw.railsOut = s.hw.railsOut.filter (· != rail) ∧ bitOf (rd t Reg.PKG_SUPPLY_LOW) rail = false ∧
      t.hw.brownout = (s.hw.brownout && !(t.hw.railsOut == [] && rd t Reg.PKG_SUPPLY_LOW == 0)) ∧ RegsOnly [Reg.PKG_SUPPLY_LOW] s t ∧
      Frame [.regs, .hw] s t)

/-- R504, R509, R511, R516, R526 to R529, R537: the recorder is cleared, disarmed, fired by software and by another seat's trigger, and
read back; retries are counted and a channel fails with the fourth; a copied line is redirected; a word of the anchor store is read with
its cells. -/
def Obligations.RecorderAndMemoryComplete : Prop :=
  (∀ s (seat : Nat), Canonical s → seat < s.hw.seats →
    Completes (.pfrClear seat) s fun t =>
      (t.health = { s.health with recs := fkeep s.health.recs fun k _ => keyHi k != seat }) ∧
      (rd t (Reg.PFR_STATUS_RECORDS seat), rd t (Reg.PFR_STATUS_FULL seat)) = (0, 0) ∧
      RegsOnly [Reg.PFR_STATUS_RECORDS seat, Reg.PFR_STATUS_FULL seat] s t ∧ Frame [.regs, .health] s t) ∧
  (∀ s (seat trig : Nat), Canonical s → seat < s.hw.seats → trig < 8 →
    Completes (.pfrDisarm seat) s fun t =>
      (t.health = { s.health with trigs := fkeep s.health.trigs fun k _ => keyHi k != seat }) ∧
      (rd t (Reg.PFR_TRIG_KIND seat trig), rd t (Reg.PFR_TRIG_FIRED seat trig), rd t (Reg.PFR_STATUS_ARMED seat)) = (0, 0, 0) ∧
      Frame [.regs, .health] s t) ∧
  (∀ s (seat mask g n : Nat) (x : PfrTrig), Canonical s → seat < s.hw.seats →
    (List.range 8).filter (fun u => bitOf mask u && (fget s.health.trigs (pairKey seat u)).any fun y => y.arm.cond == .software) = [g] →
    fget s.health.trigs (pairKey seat g) = some x → x.last = none → x.arm.limit = 0 → recsUsed s seat = n → n < 2048 →
    Completes (.pfrSoftTrigger seat mask) s fun t =>
      fget t.health.trigs (pairKey seat g) = some { x with fired := x.fired + 1, last := some s.stk.ext } ∧
      ((fget t.health.recs (pairKey seat n)).map (fun r => (r.ext, r.tick, r.trigger, r.kind, r.values.length)) = some (s.stk.ext, seatTick
        s seat, g, 5, x.arm.regs.length)) ∧
      rd t (Reg.PFR_STATUS_RECORDS seat) = n + 1 ∧ t.out = ⟨.pfrLinked, [seat, g]⟩ :: s.out) ∧
  (∀ s (seat fromSeat fromTrig g n : Nat) (x : PfrTrig), Canonical s → seat < s.hw.seats →
    (List.range 8).filter (fun u => (fget s.health.trigs (pairKey seat u)).any fun y => y.arm.cond == .linked fromSeat fromTrig) = [g] →
    fget s.health.trigs (pairKey seat g) = some x → x.last = none → x.arm.limit = 0 → recsUsed s seat = n → n < 2048 →
    Completes (.pfrLinkedFire seat fromSeat fromTrig) s fun t =>
      fget t.health.trigs (pairKey seat g) = some { x with fired := x.fired + 1, last := some s.stk.ext } ∧
      ((fget t.health.recs (pairKey seat n)).map (fun r => (r.ext, r.trigger, r.kind, r.cause)) = some (s.stk.ext, g, 4, fromSeat + 256 *
        fromTrig)) ∧
      rd t (Reg.PFR_STATUS_RECORDS seat) = n + 1) ∧
  (∀ s (seat record i : Nat) (r : PfrRec), Canonical s → seat < s.hw.seats → fget s.health.recs (pairKey seat (record % 2048)) = some r → i < 64 →
    Completes (.pfrSelect seat record) s fun t =>
      rd t (Reg.PFR_SELECT_RECORD seat) = record % 2048 ∧
      rd t (Reg.PFR_RECORD_WORD seat i) = (recImage (record % 2048) r).getD i 0 % 2 ^ 32 ∧ Frame [.regs] s t) ∧
  (∀ s (seat channel retries : Nat) (ok : Bool), Canonical s → s.boot.halted = false → seat < s.hw.seats → s.hw.seats ≤ 8 → channel < 2 →
    Completes (.dramCaRetry seat channel retries ok) s fun t =>
      rd t (Reg.DRM_CH_RETRY_COUNT seat channel) = min (rd s (Reg.DRM_CH_RETRY_COUNT seat channel) + min 4 retries) (2 ^
        (Reg.DRM_CH_RETRY_COUNT seat channel).width - 1) ∧
      (ok = false → t.boot.halted = true)) ∧
  (∀ s (seat channel : Nat) (x : RemapCopy) (l : List RemapCopy), Canonical s → s.boot.halted = false → seat < s.hw.seats → channel < 2 → (chanOf s seat channel).copying = x :: l →
    (chanOf s seat channel).remap.length < 31 →
    Completes (.dramRemapCopyDone seat channel) s fun t =>
      chanOf t seat channel = { chanOf s seat channel with copying := l, remap := fset (chanOf s seat channel).remap x.line x.spare } ∧
      rd t (Reg.DRM_CH_REMAPS_COUNT seat channel) = (chanOf t seat channel).remap.length ∧ isSet t (Reg.DRM_EVENTS_REMAPPED seat) = true) ∧
  (∀ s (seat value corrected bad : Nat), Canonical s → seat < s.hw.seats → s.hw.seats ≤ 8 →
    Completes (.ancReadAddr seat value corrected bad) s fun t =>
      rd t (Reg.ANC_READ_ADDR_WORD seat) = value / 8 % 524288 ∧ (ancRegion (value / 8 % 524288 * 8) = none → rd t (Reg.ANC_READ seat) = 0) ∧
      ((ancRegion (value / 8 % 524288 * 8)).any (fun r => r != 6 && r != 7 && r != 8 && (seat == 0 || !ancStrokeSeat r)) = true → rd t
        (Reg.ANC_READ seat) = cellsZeroed bad (Config.anchorWord seat (value / 8 % 524288 * 8) s.freeCount) % 2 ^ 64) ∧
      rd t (Reg.ANC_ECC_UNCORR_COUNT seat) = min (rd s (Reg.ANC_ECC_UNCORR_COUNT seat) + ((List.range 4).filter (bitOf bad)).length) (2 ^
        (Reg.ANC_ECC_UNCORR_COUNT seat).width - 1))

/-- R531 to R534: the target takes an address and its read and write limits; every request taken is counted and answered behind one
in-band interrupt: endpoint and terminus identifiers, what is supported, the sensors' records, readings and limits, and the receiver of
events. The codes of the answers are the standards' (presumed), the versions are open values. -/
def Obligations.ManagementCommandsComplete : Prop :=
  (∀ s (address : Nat), Canonical s → i3cAnswers s = true → isSet s Reg.MGT_STATUS_ADDRESSED = false →
    Completes (.i3cEntdaa address) s fun t =>
      isSet t Reg.MGT_STATUS_ADDRESSED = true ∧ rd t Reg.MGT_STATUS_DYN_ADDR = address % 2 ^ Reg.MGT_STATUS_DYN_ADDR.width ∧
      RegsOnly [Reg.MGT_STATUS_ADDRESSED, Reg.MGT_STATUS_DYN_ADDR] s t ∧ Frame [.regs] s t) ∧
  (∀ s (bytes : Nat), i3cAnswers s = true → bytes ≤ 256 →
    Completes (.i3cSetmrl bytes) s fun t =>
      t.health = { s.health with mrl := bytes } ∧ Frame [.health] s t) ∧
  (∀ s (bytes : Nat), i3cAnswers s = true → bytes ≤ 256 →
    Completes (.i3cSetmwl bytes) s fun t =>
      t.health = { s.health with mwl := bytes } ∧ Frame [.health] s t) ∧
  (∀ s (m : MctpIn) (eid : Nat), Canonical s → MessageTaken m true s →
    Completes (.mctpSetEndpointId m eid) s fun t =>
      (if eid = 0 ∨ 255 ≤ eid then MessageAnswered [0, 1, 2] [] s t else MessageAnswered [0, 1, 0, 0, eid] [Reg.MGT_STATUS_EID] s t ∧ rd t
        Reg.MGT_STATUS_EID = eid) ∧
      Frame [.regs, .out] s t) ∧
  (∀ s (m : MctpIn), Canonical s → MessageTaken m true s →
    Completes (.mctpGetEndpointId m) s fun t =>
      MessageAnswered [0, 2, 0, rd s Reg.MGT_STATUS_EID] [] s t ∧ Frame [.regs, .out] s t) ∧
  (∀ s (m : MctpIn), Canonical s → MessageTaken m true s →
    Completes (.mctpGetEndpointUuid m) s fun t =>
      MessageAnswered [0, 3, 0, deviceUuid] [] s t ∧ Frame [.regs, .out] s t) ∧
  (∀ s (m : MctpIn), Canonical s → MessageTaken m true s →
    Completes (.mctpGetVersionSupport m) s fun t =>
      MessageAnswered [0, 4, 0, Config.freeValue s.freeCount] [] s t ∧ t.freeCount = s.freeCount + 1 ∧ Frame [.regs, .out, .freeCount] s t) ∧
  (∀ s (m : MctpIn), Canonical s → MessageTaken m true s →
    Completes (.mctpGetMessageTypeSupport m) s fun t =>
      MessageAnswered [0, 5, 0, 0, 1, 5, 6, 0x7F] [] s t ∧ Frame [.regs, .out] s t) ∧
  (∀ s (m : MctpIn), Canonical s → MessageTaken m false s →
    Completes (.pldmGetTid m) s fun t =>
      MessageAnswered [1, 0, 2, 0, s.health.tid] [] s t ∧ Frame [.regs, .out] s t) ∧
  (∀ s (m : MctpIn) (tid : Nat), Canonical s → MessageTaken m false s →
    Completes (.pldmSetTid m tid) s fun t =>
      (if tid = 0 ∨ 255 ≤ tid then MessageAnswered [1, 0, 1, 2] [] s t ∧ t.health = s.health else MessageAnswered [1, 0, 1, 0] [] s t ∧
        t.health = { s.health with tid := tid }) ∧
      Frame [.regs, .health, .out] s t) ∧
  (∀ s (m : MctpIn) (type : Nat), Canonical s → MessageTaken m false s →
    Completes (.pldmGetPldmVersion m type) s fun t =>
      (if type = 0 ∨ type = 2 then MessageAnswered [1, 0, 3, 0, type, Config.freeValue s.freeCount] [] s t else MessageAnswered [1, 0, 3,
        0x83] [] s t) ∧
      Frame [.regs, .out, .freeCount] s t) ∧
  (∀ s (m : MctpIn), Canonical s → MessageTaken m false s →
    Completes (.pldmGetPldmTypes m) s fun t =>
      MessageAnswered [1, 0, 4, 0, 0, 2] [] s t ∧ Frame [.regs, .out] s t) ∧
  (∀ s (m : MctpIn) (type : Nat), Canonical s → MessageTaken m false s →
    Completes (.pldmGetPldmCommands m type) s fun t =>
      MessageAnswered (if type = 0 then [1, 0, 5, 0, 1, 2, 3, 4, 5] else if type = 2 then [1, 0, 5, 0, 0x04, 0x11, 0x12, 0x21, 0x50, 0x51]
        else [1, 0, 5, 0x83]) [] s t ∧
      Frame [.regs, .out] s t) ∧
  (∀ s (m : MctpIn), Canonical s → MessageTaken m false s →
    Completes (.pldmGetPdrRepositoryInfo m) s fun t =>
      MessageAnswered [1, 2, 0x50, 0, (sensorList s).length] [] s t ∧ Frame [.regs, .out] s t) ∧
  (∀ s (m : MctpIn) (handle n : Nat), Canonical s → MessageTaken m false s → (sensorList s)[max 1 handle - 1]? = some n →
    Completes (.pldmGetPdr m handle) s fun t =>
      MessageAnswered [1, 2, 0x51, 0, if max 1 handle < (sensorList s).length then max 1 handle + 1 else 0, n, b2n (stateSensor n)] [] s t ∧
      Frame [.regs, .out] s t) ∧
  (∀ s (m : MctpIn) (sensor : Nat), Canonical s → MessageTaken m false s →
    Completes (.pldmGetSensorReading m sensor) s fun t =>
      MessageAnswered (if hasSensor s sensor && !stateSensor sensor then [1, 2, 0x11, 0, sensorValue s sensor] else [1, 2, 0x11, 0x80]) []
        s t ∧
      Frame [.regs, .out] s t) ∧
  (∀ s (m : MctpIn) (sensor : Nat), Canonical s → MessageTaken m false s →
    Completes (.pldmGetStateSensorReadings m sensor) s fun t =>
      MessageAnswered (if hasSensor s sensor && stateSensor sensor then [1, 2, 0x21, 0, sensorValue s sensor] else [1, 2, 0x21, 0x80]) [] s
        t ∧
      Frame [.regs, .out] s t) ∧
  (∀ s (m : MctpIn) (sensor : Nat), Canonical s → MessageTaken m false s →
    Completes (.pldmGetSensorThresholds m sensor) s fun t =>
      MessageAnswered (if hasSensor s sensor && !stateSensor sensor then [1, 2, 0x12, 0] ++ sensorLimits s sensor else [1, 2, 0x12, 0x80])
        [] s t ∧
      Frame [.regs, .out] s t) ∧
  (∀ s (m : MctpIn) (receiver : Nat), Canonical s → MessageTaken m false s →
    Completes (.pldmSetEventReceiver m receiver) s fun t =>
      MessageAnswered [1, 2, 0x04, 0] [Reg.MGT_STATUS_RECEIVER] s t ∧ t.health.receiver = some receiver ∧
      isSet t Reg.MGT_STATUS_RECEIVER = true ∧ Frame [.regs, .health, .out] s t) ∧
  (∀ s (answered : Nat), s.health.events.drop answered = [] →
    Completes (.pldmEventRetry answered) s fun t =>
      t.health = { s.health with events := [] } ∧ Frame [.health] s t) ∧
  (∀ s (answered : Nat) (e : PldmEvent) (l : List PldmEvent), s.health.events.drop answered = e :: l → e.sent ≠ 0 → e.sent < 4 → e.at_ + 10000 ≤ s.stk.ext → i3cAnswers s = true →
    Completes (.pldmEventRetry answered) s fun t =>
      t.health.events = { e with sent := e.sent + 1, at_ := s.stk.ext } :: l ∧
      t.out = ⟨.pldmEvent, [e.num, e.sensor, e.value]⟩ :: ⟨.ibi, [0xAE]⟩ :: s.out ∧ Frame [.regs, .health, .out] s t)

/-- R541 to R547: the first piece of an image starts its header checks, which accept or refuse it; each further piece is taken once; a
query tells the state and the pieces held; verification ends VERIFIED, loses the pieces of a chunk whose tag fails, or refuses. The status
bytes are *Piece status*. -/
def Obligations.UpdatePiecesComplete : Prop :=
  (∀ s (m : MctpIn) (p : PieceMsg), MessageTaken m false s → p.intact = true → s.upd.header = none → p.piece = 0 → p.length = 16384 → s.upd.checking = none →
    Completes (.updPiece m p) s fun t =>
      t.upd = { s.upd with checking := some p.imageId } ∧ t.out = s.out ∧ Frame [.regs, .upd] s t) ∧
  (∀ s (m : MctpIn) (p : PieceMsg) (u : StagedHeader), MessageTaken m false s → p.intact = true → s.upd.header = some u → u.imageId = p.imageId →
    (s.upd.st = .receiving ∨ s.upd.st = .verified ∨ s.upd.st = .scheduled) → p.piece < u.pieces → p.length = pieceLen u p.piece →
    Completes (.updPiece m p) s fun t =>
      t.upd.pieces = (if s.upd.pieces.contains p.piece then s.upd.pieces else (s.upd.pieces ++ [p.piece]).mergeSort (· ≤ ·)) ∧
      t.upd.st = (if s.upd.pieces.contains p.piece = false ∧ s.upd.pieces.length + 1 = u.pieces then .verifying else s.upd.st) ∧
      t.out = ⟨.mgmt, [0x7F, 2, if s.upd.pieces.contains p.piece then 1 else 0, p.imageId, p.piece]⟩ :: ⟨.ibi, [0xAE]⟩ :: s.out ∧
      Frame [.regs, .upd, .out] s t) ∧
  (∀ s (m : MctpIn) (p : PieceMsg), Canonical s → MessageTaken m false s → p.intact = true → s.upd.header = none → p.piece = 0 → p.length ≠ 16384 →
    Completes (.updPiece m p) s fun t =>
      MessageAnswered [0x7F, 2, 6, p.imageId, 0] [] s t ∧ Frame [.regs, .out] s t) ∧
  (∀ s (m : MctpIn) (p : PieceMsg), Canonical s → MessageTaken m false s → p.intact = false →
    Completes (.updPiece m p) s fun t =>
      MessageAnswered [0x7F, 2, 6, p.imageId, p.piece] [] s t ∧ Frame [.regs, .out] s t) ∧
  (∀ s (m : MctpIn) (imageId : Nat), Canonical s → MessageTaken m false s →
    Completes (.updQuery m imageId) s fun t =>
      (MessageAnswered ([0x7F, 4, 0, imageId, updNum s.upd.st, rd s Reg.UPD_STATUS_REASON] ++ (if s.upd.header.any (fun u => u.imageId ==
        imageId) then s.upd.pieces else [])) [] s t) ∧
      Frame [.regs, .out] s t) ∧
  (∀ s (u : StagedHeader) (c : HeaderChecks) (spaceOk : Bool), Canonical s → s.boot.halted = false → s.upd.checking = some u.imageId → headerRefusal 268419072 u.h c s = none →
    u.pieces = pieceCount u.h.bodyLen → compatRefusal u s = none → s.pair.sides ≠ [] → spaceOk = true →
    Completes (.updHeaderChecked u c spaceOk) s fun t =>
      t.upd = { s.upd with checking := none, header := some u, pieces := [0], st := .receiving, peerVerified := false, peerDone := false } ∧
      isSet t Reg.UPD_EVENTS_HEADER_ACCEPTED = true ∧ t.out.head? = some ⟨.mgmt, [0x7F, 2, 0, u.imageId, 0]⟩) ∧
  (∀ s (u : StagedHeader) (c : HeaderChecks) (spaceOk : Bool) (r : Nat), Canonical s → s.boot.halted = false → s.upd.checking = some u.imageId → headerRefusal 268419072 u.h c s = some r →
    Completes (.updHeaderChecked u c spaceOk) s fun t =>
      t.upd = { s.upd with checking := none, header := some u, pieces := [], st := .refused } ∧ rd t Reg.UPD_STATUS_REASON = r ∧
      isSet t Reg.UPD_EVENTS_REFUSED = true ∧ t.out.head? = some ⟨.mgmt, [0x7F, 2, 3, u.imageId, 0]⟩) ∧
  (∀ s, Canonical s → s.boot.halted = false → s.upd.st = .verifying → mayRun s 0 .sweep = true →
    Completes (.updVerifyRun .ok) s fun t =>
      t.upd = { s.upd with st := .verified } ∧ isSet t Reg.UPD_EVENTS_VERIFIED = true) ∧
  (∀ s (l : List Nat), Canonical s → s.boot.halted = false → s.upd.st = .verifying → mayRun s 0 .sweep = true →
    Completes (.updVerifyRun (.chunkTag l)) s fun t =>
      (t.upd = { s.upd with st := .receiving, pieces := s.upd.pieces.filter fun p => !l.contains p }) ∧
      isSet t Reg.UPD_EVENTS_VERIFY_FAILED = true) ∧
  (∀ s (reason : Nat), Canonical s → s.boot.halted = false → s.upd.st = .verifying → mayRun s 0 .sweep = true →
    Completes (.updVerifyRun (.refuse reason)) s fun t =>
      t.upd = { s.upd with st := .refused } ∧ rd t Reg.UPD_STATUS_REASON = reason % 2 ^ Reg.UPD_STATUS_REASON.width ∧
      isSet t Reg.UPD_EVENTS_REFUSED = true)

/-- R546, R549, R550, R554 to R556: the update commands answer with the state, schedule a verified image for both heads, withdraw the
schedule, verify again, export, or free the staging area; a bridge whose groups are healthy is updated, and one that does not come back in
time loses its shares. -/
def Obligations.UpdateCommandsComplete : Prop :=
  (∀ s (slot : Nat) (u : StagedHeader), CmdReady slot Opc.updStatusGet s → s.upd.header = some u →
    Completes (.updStatusGet slot) s fun t =>
      Answers slot .ok 0 [updNum s.upd.st, rd s Reg.UPD_STATUS_REASON, u.imageId, u.h.version, runVersion s, s.upd.pieces.length, u.pieces,
        rd s Reg.UPD_ACT] s t ∧
      Frame [.regs, .health, .mbx, .pci, .out] s t) ∧
  (∀ s (slot at_ : Nat) (soloOk peerConfirms : Bool), CmdReady slot Opc.updActivate s → s.stk.ext + 1000 ≤ at_ → s.upd.st = .verified → updReady soloOk s = true →
    (s.pair.st = .paired → peerConfirms = true) →
    Completes (.updActivate slot at_ soloOk peerConfirms) s fun t =>
      Answers slot .ok 0 [] s t ∧
      t.upd = { s.upd with peerVerified := s.pair.st == .paired && peerConfirms, st := .scheduled, at_ := at_, first := true, soloOk := soloOk, peerDone := false, edges := 0 }) ∧
  (∀ s (slot : Nat), CmdReady slot Opc.updCancel s → s.upd.st = .scheduled →
    Completes (.updCancel slot) s fun t =>
      Answers slot .ok 0 [] s t ∧ t.upd = { s.upd with st := .verified, at_ := 0, first := false, edges := 0, peerDone := false }) ∧
  (∀ s (slot : Nat), Canonical s → CmdReady slot Opc.updDiscard s → s.upd.st ≠ .scheduled → s.upd.st ≠ .verifying → s.upd.st ≠ .activating →
    Completes (.updDiscard slot) s fun t =>
      Answers slot .ok 0 [] s t ∧
      (t.upd.st, t.upd.header, t.upd.pieces, t.upd.checking, t.upd.bridges) = (.empty, none, [], none, s.upd.bridges) ∧
      rd t Reg.UPD_STATUS_REASON = 0) ∧
  (∀ s (slot : Nat) (u : StagedHeader), CmdReady slot Opc.updExport s → s.upd.header = some u → (s.upd.st = .verified ∨ s.upd.st = .scheduled) → s.pci.bme = true →
    Completes (.updExport slot) s fun t =>
      Answers slot .ok 0 [] s t ∧ ⟨.hostWrite true, [slot, u.imageId, u.h.version, u.h.digest]⟩ ∈ t.out ∧
      Frame [.regs, .health, .mbx, .pci, .out] s t) ∧
  (∀ s (slot : Nat), CmdReady slot Opc.updBitmapGet s → s.pci.bme = true →
    Completes (.updBitmapGet slot) s fun t =>
      Answers slot .ok 0 [] s t ∧ ⟨.hostWrite true, slot :: s.upd.pieces⟩ ∈ t.out ∧ Frame [.regs, .health, .mbx, .pci, .out] s t) ∧
  (∀ s (slot : Nat), CmdReady slot Opc.updVerify s → updComplete s = true → (s.upd.st = .receiving ∨ s.upd.st = .verified) →
    Completes (.updVerify slot) s fun t =>
      Answers slot .ok 0 [] s t ∧ t.upd = { s.upd with st := .verifying }) ∧
  (∀ s (slot : Nat), s.boot.halted = false → s.upd.bridges.contains slot = true → s.upd.peerDone = true → s.upd.st ≠ .activating → bridgeFree s slot = true →
    isSet s (portReg Reg.OAR_PORT_STATUS_SESSION slot) = true → isSet s (Reg.BLD_SLOT_STATUS_OWNED slot) = true →
    Completes (.bridgeUpdate slot true) s fun t =>
      fget t.upd.restarts slot = some ⟨s.stk.ext, s.upd.fwMeas, false, []⟩ ∧ t.upd.bridges = s.upd.bridges.filter (· != slot) ∧
      t.out.head? = some ⟨.oar, [slot, 4, s.upd.fwMeas]⟩) ∧
  (∀ s (slot : Nat), s.boot.halted = false → s.upd.bridges.contains slot = true → s.upd.peerDone = true → s.upd.st ≠ .activating →
    Completes (.bridgeUpdate slot false) s fun t =>
      t.upd = { s.upd with bridges := s.upd.bridges.filter (· != slot) }) ∧
  (∀ s (slot : Nat) (r : BridgeRestart), s.boot.halted = false → FSorted s.upd.restarts → fget s.upd.restarts slot = some r → r.back = false → r.started + 32000 ≤ s.stk.ext →
    Completes (.bridgeRestartTimeout slot) s fun t =>
      fget t.upd.restarts slot = none)
end

