-- ==== Sys2Proof/Laws/FMap.lean ====
section
/-!
SUPPORT. Laws/FMap.lean: tables keep their canonical form, and an entry reads as it was last written.
-/

namespace Sys2Proof.Machine

variable {V W : Type}

@[simp] theorem fget_nil (k : Nat) : fget ([] : FMap V) k = none := rfl

theorem fsorted_nil : FSorted ([] : FMap V) := List.Pairwise.nil

/-- A table whose first entry is `(a, v)` is in canonical form when the rest is and lies above `a`. -/
theorem fsorted_cons {a : Nat} {v : V} {m : FMap V} :
    FSorted ((a, v) :: m) ↔ (∀ e ∈ m, a < e.1) ∧ FSorted m := by
  simp only [FSorted, List.map_cons, List.pairwise_cons, List.mem_map, forall_exists_index, and_imp, forall_apply_eq_imp_iff₂]

/-- What setting an entry can put into a table. -/
theorem mem_fset {m : FMap V} {k : Nat} {v : V} {e : Nat × V} (h : e ∈ fset m k v) : e = (k, v) ∨ e ∈ m := by
  induction m with
  | nil => simpa [fset] using h
  | cons hd t ih =>
    obtain ⟨a, x⟩ := hd
    unfold fset at h
    split at h
    · simpa using h
    · split at h
      · rcases List.mem_cons.mp h with h | h <;> simp [h]
      · rcases List.mem_cons.mp h with h | h
        · simp [h]
        · rcases ih h with h | h <;> simp [h]

/-- Setting an entry keeps the canonical form. -/
theorem fset_sorted {m : FMap V} (h : FSorted m) (k : Nat) (v : V) : FSorted (fset m k v) := by
  induction m with
  | nil => simp [fset, FSorted]
  | cons hd t ih =>
    obtain ⟨a, x⟩ := hd
    have hs := fsorted_cons.mp h
    unfold fset
    split
    · next hk => exact fsorted_cons.mpr ⟨fun e he => by
        rcases List.mem_cons.mp he with he | he
        · simpa [he] using hk
        · exact Nat.lt_trans hk (hs.1 e he), h⟩
    · split
      · next hk => exact fsorted_cons.mpr ⟨fun e he => hk ▸ hs.1 e he, hs.2⟩
      · next hk hne => exact fsorted_cons.mpr ⟨fun e he => by
          rcases mem_fset he with he | he
          · simp only [he]; omega
          · exact hs.1 e he, ih hs.2⟩

/-- Removing an entry leaves a part of the table. -/
theorem fdel_sublist (m : FMap V) (k : Nat) : (fdel m k).Sublist m := by
  induction m with
  | nil => exact .refl _
  | cons hd t ih =>
    obtain ⟨a, x⟩ := hd
    unfold fdel
    split
    · exact List.sublist_cons_self _ _
    · exact ih.cons_cons _

/-- A part of a table in canonical form is in canonical form. -/
theorem fsorted_sublist {m n : FMap V} (h : FSorted m) (hs : n.Sublist m) : FSorted n :=
  List.Pairwise.sublist (hs.map Prod.fst) h

theorem fdel_sorted {m : FMap V} (h : FSorted m) (k : Nat) : FSorted (fdel m k) :=
  fsorted_sublist h (fdel_sublist m k)

theorem fkeep_sorted {m : FMap V} (h : FSorted m) (p : Nat → V → Bool) : FSorted (fkeep m p) :=
  fsorted_sublist h List.filter_sublist

/-- Changing the values of a table keeps its keys. -/
theorem fmapV_sorted {m : FMap V} (h : FSorted m) (f : Nat → V → W) : FSorted (fmapV m f) := by
  simpa [FSorted, fmapV, Function.comp_def] using h

/-- An entry reads as it was set. -/
@[simp] theorem fget_fset_self (m : FMap V) (k : Nat) (v : V) : fget (fset m k v) k = some v := by
  induction m with
  | nil => simp [fset, fget]
  | cons hd t ih =>
    obtain ⟨a, x⟩ := hd
    unfold fset
    split
    · simp [fget]
    · split
      · simp [fget]
      · next hne => simp [fget, Ne.symm hne, ih]

/-- Setting an entry leaves every other entry alone. -/
theorem fget_fset_ne (m : FMap V) {k j : Nat} (v : V) (h : j ≠ k) : fget (fset m k v) j = fget m j := by
  induction m with
  | nil => simp [fset, fget, Ne.symm h]
  | cons hd t ih =>
    obtain ⟨a, x⟩ := hd
    unfold fset
    split
    · simp [fget, Ne.symm h]
    · split
      · next hk => subst hk; simp [fget, Ne.symm h]
      · simp only [fget, ih]

/-- Removing an entry leaves every other entry alone. -/
theorem fget_fdel_ne (m : FMap V) {k j : Nat} (h : j ≠ k) : fget (fdel m k) j = fget m j := by
  induction m with
  | nil => rfl
  | cons hd t ih =>
    obtain ⟨a, x⟩ := hd
    unfold fdel
    split
    · next hk => subst hk; simp [fget, Ne.symm h]
    · simp only [fget, ih]

/-- A key below every entry of a table is not in use. -/
theorem fget_none_of_lt {m : FMap V} {k : Nat} (h : ∀ e ∈ m, k < e.1) : fget m k = none := by
  induction m with
  | nil => rfl
  | cons hd t ih =>
    obtain ⟨a, x⟩ := hd
    have ha : k < a := h (a, x) (List.mem_cons_self ..)
    simp only [fget, if_neg (by omega : ¬a = k)]
    exact ih fun e he => h e (List.mem_cons_of_mem _ he)

/-- A removed entry of a table in canonical form is not in use. -/
theorem fget_fdel_self {m : FMap V} (h : FSorted m) (k : Nat) : fget (fdel m k) k = none := by
  induction m with
  | nil => rfl
  | cons hd t ih =>
    obtain ⟨a, x⟩ := hd
    have hs := fsorted_cons.mp h
    unfold fdel
    split
    · next hk => exact fget_none_of_lt fun e he => hk ▸ hs.1 e he
    · next hk => simp only [fget, if_neg hk]; exact ih hs.2

end Sys2Proof.Machine
end

