-- ==== Sys2Proof/Laws/Follows.lean ====
section
/-!
SUPPORT. Laws/Follows.lean: what every operation of the block keeps of the state it starts from: the commands that wait, what has been
sent, the open values taken, the seats, and the canonical form of the register file and of the floors. Each shared operation has one
lemma `<name>_follows`, which later proofs cite in place of unfolding the operation.
-/

namespace Sys2Proof.Machine

open Sys2Proof

/-- A part's place in a set of parts. -/
def areaIdx : Area → Nat
  | .regs => 0
  | .bus => 1
  | .hw => 2
  | .stk => 3
  | .keel => 4
  | .cox => 5
  | .health => 6
  | .mbx => 7
  | .pci => 8
  | .boot => 9
  | .pwr => 10
  | .dram => 11
  | .upd => 12
  | .fe => 13
  | .nv => 14
  | .ing => 15
  | .map => 16
  | .rds => 17
  | .par => 18
  | .bld => 19
  | .pair => 20
  | .rate => 21
  | .snp => 22
  | .keys => 23
  | .out => 24
  | .freeCount => 25

theorem bit_of {m u i : Nat} (hi : m.testBit i = true) (h : m ||| u = u) : u.testBit i = true := by
  rw [← h, Nat.testBit_or, hi, Bool.true_or]

theorem lor_sub {w m u : Nat} (hw : w ||| m = m) (h : m ||| u = u) : w ||| u = u := by
  rw [← h, ← Nat.or_assoc, hw]


/-- State `t` follows from state `r` by operations of the block that touch no part outside the set `U`. -/
structure Follows (U : Nat) (r t : State) : Prop where
  /-- The queue of commands is untouched. -/
  queue : t.pending = r.pending
  /-- What has been sent stays sent. -/
  said : r.out <:+ t.out
  /-- No open value is taken twice. -/
  drawn : r.freeCount ≤ t.freeCount
  /-- The package keeps its seats. -/
  seats : t.hw.seats = r.hw.seats
  /-- The register file keeps its canonical form. -/
  regs : FSorted r.regs → FSorted t.regs
  /-- The floor slots keep their canonical form and stay sixteen (R51). -/
  floors : (FSorted r.stk.floors ∧ ∀ e ∈ r.stk.floors, e.1 < 16) → FSorted t.stk.floors ∧ ∀ e ∈ t.stk.floors, e.1 < 16
  /-- Every part outside `U` is untouched. -/
  frame : ∀ p : Area, U.testBit (areaIdx p) = false → p.same r t

theorem Follows.refl (U : Nat) (s : State) : Follows U s s :=
  ⟨rfl, List.suffix_rfl, Nat.le_refl _, rfl, id, id, fun p _ => by cases p <;> rfl⟩

/-! ### Record updates, one lemma for each set of parts that some operation updates at once -/

theorem Follows.set_bld {U : Nat} {r s : State} {x_bld : Bld} (h : Follows U r s)
    (hU : 524288 ||| U = U) : Follows U r { s with bld := x_bld } :=
  ⟨h.queue, h.said, h.drawn, h.seats, h.regs, h.floors, fun p hp => by
    cases p <;> first | exact h.frame _ hp | exact absurd (hp.symm.trans (bit_of (by decide) hU)) (by decide)⟩

theorem Follows.set_boot {U : Nat} {r s : State} {x_boot : Boot} (h : Follows U r s)
    (hU : 512 ||| U = U) : Follows U r { s with boot := x_boot } :=
  ⟨h.queue, h.said, h.drawn, h.seats, h.regs, h.floors, fun p hp => by
    cases p <;> first | exact h.frame _ hp | exact absurd (hp.symm.trans (bit_of (by decide) hU)) (by decide)⟩

theorem Follows.set_bus {U : Nat} {r s : State} {x_bus : Bus} (h : Follows U r s)
    (hU : 2 ||| U = U) : Follows U r { s with bus := x_bus } :=
  ⟨h.queue, h.said, h.drawn, h.seats, h.regs, h.floors, fun p hp => by
    cases p <;> first | exact h.frame _ hp | exact absurd (hp.symm.trans (bit_of (by decide) hU)) (by decide)⟩

theorem Follows.set_cox {U : Nat} {r s : State} {x_cox : Cox} (h : Follows U r s)
    (hU : 32 ||| U = U) : Follows U r { s with cox := x_cox } :=
  ⟨h.queue, h.said, h.drawn, h.seats, h.regs, h.floors, fun p hp => by
    cases p <;> first | exact h.frame _ hp | exact absurd (hp.symm.trans (bit_of (by decide) hU)) (by decide)⟩

theorem Follows.set_dram {U : Nat} {r s : State} {x_dram : FMap DramCh} (h : Follows U r s)
    (hU : 2048 ||| U = U) : Follows U r { s with dram := x_dram } :=
  ⟨h.queue, h.said, h.drawn, h.seats, h.regs, h.floors, fun p hp => by
    cases p <;> first | exact h.frame _ hp | exact absurd (hp.symm.trans (bit_of (by decide) hU)) (by decide)⟩

theorem Follows.set_fe {U : Nat} {r s : State} {x_fe : Fe} (h : Follows U r s)
    (hU : 8192 ||| U = U) : Follows U r { s with fe := x_fe } :=
  ⟨h.queue, h.said, h.drawn, h.seats, h.regs, h.floors, fun p hp => by
    cases p <;> first | exact h.frame _ hp | exact absurd (hp.symm.trans (bit_of (by decide) hU)) (by decide)⟩

theorem Follows.set_health {U : Nat} {r s : State} {x_health : Health} (h : Follows U r s)
    (hU : 64 ||| U = U) : Follows U r { s with health := x_health } :=
  ⟨h.queue, h.said, h.drawn, h.seats, h.regs, h.floors, fun p hp => by
    cases p <;> first | exact h.frame _ hp | exact absurd (hp.symm.trans (bit_of (by decide) hU)) (by decide)⟩

theorem Follows.set_hw {U : Nat} {r s : State} {x_hw : Hw} (h : Follows U r s)
    (hU : 4 ||| U = U) (hs : x_hw.seats = s.hw.seats) : Follows U r { s with hw := x_hw } :=
  ⟨h.queue, h.said, h.drawn, hs.trans h.seats, h.regs, h.floors, fun p hp => by
    cases p <;> first | exact h.frame _ hp | exact absurd (hp.symm.trans (bit_of (by decide) hU)) (by decide)⟩

theorem Follows.set_hw_boot {U : Nat} {r s : State} {x_hw : Hw} {x_boot : Boot} (h : Follows U r s)
    (hU : 516 ||| U = U) (hs : x_hw.seats = s.hw.seats) : Follows U r { s with hw := x_hw, boot := x_boot } :=
  ⟨h.queue, h.said, h.drawn, hs.trans h.seats, h.regs, h.floors, fun p hp => by
    cases p <;> first | exact h.frame _ hp | exact absurd (hp.symm.trans (bit_of (by decide) hU)) (by decide)⟩

theorem Follows.set_hw_pci {U : Nat} {r s : State} {x_hw : Hw} {x_pci : Pci} (h : Follows U r s)
    (hU : 260 ||| U = U) (hs : x_hw.seats = s.hw.seats) : Follows U r { s with hw := x_hw, pci := x_pci } :=
  ⟨h.queue, h.said, h.drawn, hs.trans h.seats, h.regs, h.floors, fun p hp => by
    cases p <;> first | exact h.frame _ hp | exact absurd (hp.symm.trans (bit_of (by decide) hU)) (by decide)⟩

theorem Follows.set_ing {U : Nat} {r s : State} {x_ing : Ing} (h : Follows U r s)
    (hU : 32768 ||| U = U) : Follows U r { s with ing := x_ing } :=
  ⟨h.queue, h.said, h.drawn, h.seats, h.regs, h.floors, fun p hp => by
    cases p <;> first | exact h.frame _ hp | exact absurd (hp.symm.trans (bit_of (by decide) hU)) (by decide)⟩

theorem Follows.set_ing_map {U : Nat} {r s : State} {x_ing : Ing} {x_map : MapU} (h : Follows U r s)
    (hU : 98304 ||| U = U) : Follows U r { s with ing := x_ing, map := x_map } :=
  ⟨h.queue, h.said, h.drawn, h.seats, h.regs, h.floors, fun p hp => by
    cases p <;> first | exact h.frame _ hp | exact absurd (hp.symm.trans (bit_of (by decide) hU)) (by decide)⟩

theorem Follows.set_ing_par {U : Nat} {r s : State} {x_ing : Ing} {x_par : Par} (h : Follows U r s)
    (hU : 294912 ||| U = U) : Follows U r { s with ing := x_ing, par := x_par } :=
  ⟨h.queue, h.said, h.drawn, h.seats, h.regs, h.floors, fun p hp => by
    cases p <;> first | exact h.frame _ hp | exact absurd (hp.symm.trans (bit_of (by decide) hU)) (by decide)⟩

theorem Follows.set_keel {U : Nat} {r s : State} {x_keel : Keel} (h : Follows U r s)
    (hU : 16 ||| U = U) : Follows U r { s with keel := x_keel } :=
  ⟨h.queue, h.said, h.drawn, h.seats, h.regs, h.floors, fun p hp => by
    cases p <;> first | exact h.frame _ hp | exact absurd (hp.symm.trans (bit_of (by decide) hU)) (by decide)⟩

theorem Follows.set_keys {U : Nat} {r s : State} {x_keys : Keys} (h : Follows U r s)
    (hU : 8388608 ||| U = U) : Follows U r { s with keys := x_keys } :=
  ⟨h.queue, h.said, h.drawn, h.seats, h.regs, h.floors, fun p hp => by
    cases p <;> first | exact h.frame _ hp | exact absurd (hp.symm.trans (bit_of (by decide) hU)) (by decide)⟩

theorem Follows.set_map {U : Nat} {r s : State} {x_map : MapU} (h : Follows U r s)
    (hU : 65536 ||| U = U) : Follows U r { s with map := x_map } :=
  ⟨h.queue, h.said, h.drawn, h.seats, h.regs, h.floors, fun p hp => by
    cases p <;> first | exact h.frame _ hp | exact absurd (hp.symm.trans (bit_of (by decide) hU)) (by decide)⟩

theorem Follows.set_map_par {U : Nat} {r s : State} {x_map : MapU} {x_par : Par} (h : Follows U r s)
    (hU : 327680 ||| U = U) : Follows U r { s with map := x_map, par := x_par } :=
  ⟨h.queue, h.said, h.drawn, h.seats, h.regs, h.floors, fun p hp => by
    cases p <;> first | exact h.frame _ hp | exact absurd (hp.symm.trans (bit_of (by decide) hU)) (by decide)⟩

theorem Follows.set_mbx {U : Nat} {r s : State} {x_mbx : Mbx} (h : Follows U r s)
    (hU : 128 ||| U = U) : Follows U r { s with mbx := x_mbx } :=
  ⟨h.queue, h.said, h.drawn, h.seats, h.regs, h.floors, fun p hp => by
    cases p <;> first | exact h.frame _ hp | exact absurd (hp.symm.trans (bit_of (by decide) hU)) (by decide)⟩

theorem Follows.set_nv {U : Nat} {r s : State} {x_nv : Nv} (h : Follows U r s)
    (hU : 16384 ||| U = U) : Follows U r { s with nv := x_nv } :=
  ⟨h.queue, h.said, h.drawn, h.seats, h.regs, h.floors, fun p hp => by
    cases p <;> first | exact h.frame _ hp | exact absurd (hp.symm.trans (bit_of (by decide) hU)) (by decide)⟩

theorem Follows.set_nv_ing_map_snp {U : Nat} {r s : State} {x_nv : Nv} {x_ing : Ing} {x_map : MapU} {x_snp : Snp} (h : Follows U r s)
    (hU : 4308992 ||| U = U) : Follows U r { s with nv := x_nv, ing := x_ing, map := x_map, snp := x_snp } :=
  ⟨h.queue, h.said, h.drawn, h.seats, h.regs, h.floors, fun p hp => by
    cases p <;> first | exact h.frame _ hp | exact absurd (hp.symm.trans (bit_of (by decide) hU)) (by decide)⟩

theorem Follows.set_nv_ing_rds {U : Nat} {r s : State} {x_nv : Nv} {x_ing : Ing} {x_rds : Rd} (h : Follows U r s)
    (hU : 180224 ||| U = U) : Follows U r { s with nv := x_nv, ing := x_ing, rds := x_rds } :=
  ⟨h.queue, h.said, h.drawn, h.seats, h.regs, h.floors, fun p hp => by
    cases p <;> first | exact h.frame _ hp | exact absurd (hp.symm.trans (bit_of (by decide) hU)) (by decide)⟩

theorem Follows.set_nv_snp {U : Nat} {r s : State} {x_nv : Nv} {x_snp : Snp} (h : Follows U r s)
    (hU : 4210688 ||| U = U) : Follows U r { s with nv := x_nv, snp := x_snp } :=
  ⟨h.queue, h.said, h.drawn, h.seats, h.regs, h.floors, fun p hp => by
    cases p <;> first | exact h.frame _ hp | exact absurd (hp.symm.trans (bit_of (by decide) hU)) (by decide)⟩

theorem Follows.set_pair {U : Nat} {r s : State} {x_pair : Pair} (h : Follows U r s)
    (hU : 1048576 ||| U = U) : Follows U r { s with pair := x_pair } :=
  ⟨h.queue, h.said, h.drawn, h.seats, h.regs, h.floors, fun p hp => by
    cases p <;> first | exact h.frame _ hp | exact absurd (hp.symm.trans (bit_of (by decide) hU)) (by decide)⟩

theorem Follows.set_par {U : Nat} {r s : State} {x_par : Par} (h : Follows U r s)
    (hU : 262144 ||| U = U) : Follows U r { s with par := x_par } :=
  ⟨h.queue, h.said, h.drawn, h.seats, h.regs, h.floors, fun p hp => by
    cases p <;> first | exact h.frame _ hp | exact absurd (hp.symm.trans (bit_of (by decide) hU)) (by decide)⟩

theorem Follows.set_par_pair {U : Nat} {r s : State} {x_par : Par} {x_pair : Pair} (h : Follows U r s)
    (hU : 1310720 ||| U = U) : Follows U r { s with par := x_par, pair := x_pair } :=
  ⟨h.queue, h.said, h.drawn, h.seats, h.regs, h.floors, fun p hp => by
    cases p <;> first | exact h.frame _ hp | exact absurd (hp.symm.trans (bit_of (by decide) hU)) (by decide)⟩

theorem Follows.set_pci {U : Nat} {r s : State} {x_pci : Pci} (h : Follows U r s)
    (hU : 256 ||| U = U) : Follows U r { s with pci := x_pci } :=
  ⟨h.queue, h.said, h.drawn, h.seats, h.regs, h.floors, fun p hp => by
    cases p <;> first | exact h.frame _ hp | exact absurd (hp.symm.trans (bit_of (by decide) hU)) (by decide)⟩

theorem Follows.set_pwr {U : Nat} {r s : State} {x_pwr : Pwr} (h : Follows U r s)
    (hU : 1024 ||| U = U) : Follows U r { s with pwr := x_pwr } :=
  ⟨h.queue, h.said, h.drawn, h.seats, h.regs, h.floors, fun p hp => by
    cases p <;> first | exact h.frame _ hp | exact absurd (hp.symm.trans (bit_of (by decide) hU)) (by decide)⟩

theorem Follows.set_pwr_map {U : Nat} {r s : State} {x_pwr : Pwr} {x_map : MapU} (h : Follows U r s)
    (hU : 66560 ||| U = U) : Follows U r { s with pwr := x_pwr, map := x_map } :=
  ⟨h.queue, h.said, h.drawn, h.seats, h.regs, h.floors, fun p hp => by
    cases p <;> first | exact h.frame _ hp | exact absurd (hp.symm.trans (bit_of (by decide) hU)) (by decide)⟩

theorem Follows.set_rate {U : Nat} {r s : State} {x_rate : FMap RateSeat} (h : Follows U r s)
    (hU : 2097152 ||| U = U) : Follows U r { s with rate := x_rate } :=
  ⟨h.queue, h.said, h.drawn, h.seats, h.regs, h.floors, fun p hp => by
    cases p <;> first | exact h.frame _ hp | exact absurd (hp.symm.trans (bit_of (by decide) hU)) (by decide)⟩

theorem Follows.set_rds {U : Nat} {r s : State} {x_rds : Rd} (h : Follows U r s)
    (hU : 131072 ||| U = U) : Follows U r { s with rds := x_rds } :=
  ⟨h.queue, h.said, h.drawn, h.seats, h.regs, h.floors, fun p hp => by
    cases p <;> first | exact h.frame _ hp | exact absurd (hp.symm.trans (bit_of (by decide) hU)) (by decide)⟩

theorem Follows.set_snp {U : Nat} {r s : State} {x_snp : Snp} (h : Follows U r s)
    (hU : 4194304 ||| U = U) : Follows U r { s with snp := x_snp } :=
  ⟨h.queue, h.said, h.drawn, h.seats, h.regs, h.floors, fun p hp => by
    cases p <;> first | exact h.frame _ hp | exact absurd (hp.symm.trans (bit_of (by decide) hU)) (by decide)⟩

theorem Follows.set_stk {U : Nat} {r s : State} {x_stk : Stk} (h : Follows U r s)
    (hU : 8 ||| U = U) (hl : x_stk.floors = s.stk.floors) : Follows U r { s with stk := x_stk } :=
  ⟨h.queue, h.said, h.drawn, h.seats, h.regs, fun x => hl ▸ h.floors x, fun p hp => by
    cases p <;> first | exact h.frame _ hp | exact absurd (hp.symm.trans (bit_of (by decide) hU)) (by decide)⟩

theorem Follows.set_stk_ing_pair {U : Nat} {r s : State} {x_stk : Stk} {x_ing : Ing} {x_pair : Pair} (h : Follows U r s)
    (hU : 1081352 ||| U = U) (hl : x_stk.floors = s.stk.floors) : Follows U r { s with stk := x_stk, ing := x_ing, pair := x_pair } :=
  ⟨h.queue, h.said, h.drawn, h.seats, h.regs, fun x => hl ▸ h.floors x, fun p hp => by
    cases p <;> first | exact h.frame _ hp | exact absurd (hp.symm.trans (bit_of (by decide) hU)) (by decide)⟩

theorem Follows.set_stk_pair {U : Nat} {r s : State} {x_stk : Stk} {x_pair : Pair} (h : Follows U r s)
    (hU : 1048584 ||| U = U) (hl : x_stk.floors = s.stk.floors) : Follows U r { s with stk := x_stk, pair := x_pair } :=
  ⟨h.queue, h.said, h.drawn, h.seats, h.regs, fun x => hl ▸ h.floors x, fun p hp => by
    cases p <;> first | exact h.frame _ hp | exact absurd (hp.symm.trans (bit_of (by decide) hU)) (by decide)⟩

theorem Follows.set_upd {U : Nat} {r s : State} {x_upd : Upd} (h : Follows U r s)
    (hU : 4096 ||| U = U) : Follows U r { s with upd := x_upd } :=
  ⟨h.queue, h.said, h.drawn, h.seats, h.regs, h.floors, fun p hp => by
    cases p <;> first | exact h.frame _ hp | exact absurd (hp.symm.trans (bit_of (by decide) hU)) (by decide)⟩

theorem Follows.set_upd_map_par {U : Nat} {r s : State} {x_upd : Upd} {x_map : MapU} {x_par : Par} (h : Follows U r s)
    (hU : 331776 ||| U = U) : Follows U r { s with upd := x_upd, map := x_map, par := x_par } :=
  ⟨h.queue, h.said, h.drawn, h.seats, h.regs, h.floors, fun p hp => by
    cases p <;> first | exact h.frame _ hp | exact absurd (hp.symm.trans (bit_of (by decide) hU)) (by decide)⟩

/-- A choice between two states that follow. -/
theorem Follows.ite {U : Nat} {r a b : State} {c : Prop} [Decidable c] (ha : Follows U r a) (hb : Follows U r b) : Follows U r (if c then a else b) := by
  split <;> assumption

/-- The state of a pair follows where the pair's second part is named. -/
theorem Follows.snd {A : Type} {U : Nat} {r t : State} {p : A × State} {a : A} (he : p = (a, t)) (h : Follows U r p.2) : Follows U r t := by
  subst he; exact h

theorem Follows.fst {A : Type} {U : Nat} {r t : State} {p : State × A} {a : A} (he : p = (t, a)) (h : Follows U r p.1) : Follows U r t := by
  subst he; exact h

/-- An intermediate state that follows may be named. -/
theorem Follows.cut {U : Nat} {r x : State} {p : Prop} (hx : Follows U r x) (k : Follows U r x → p) : p := k hx

/-- A fold of operations. -/
theorem foldS_follows {A : Type} {l : List A} {f : A → State → State} {U : Nat} {r s : State} (h : Follows U r s)
    (hf : ∀ a s, Follows U r s → Follows U r (f a s)) : Follows U r (foldS l f s) := by
  unfold foldS
  induction l generalizing s with
  | nil => exact h
  | cons a t ih => exact ih (hf a s h)

theorem foldl_follows {A : Type} {l : List A} {f : State → A → State} {U : Nat} {r s : State} (h : Follows U r s)
    (hf : ∀ s a, Follows U r s → Follows U r (f s a)) : Follows U r (l.foldl f s) := by
  induction l generalizing s with
  | nil => exact h
  | cons a t ih => exact ih (hf s a h)

/-- A fold that carries a state and more. -/
theorem foldl_fst_follows {A B : Type} {l : List A} {f : State × B → A → State × B} {U : Nat} {r : State} {b : State × B} (h : Follows U r b.1)
    (hf : ∀ b a, Follows U r b.1 → Follows U r (f b a).1) : Follows U r (l.foldl f b).1 := by
  induction l generalizing b with
  | nil => exact h
  | cons a t ih => exact ih (hf b a h)

theorem foldl_snd_follows {A B : Type} {l : List A} {f : B × State → A → B × State} {U : Nat} {r : State} {b : B × State} (h : Follows U r b.2)
    (hf : ∀ b a, Follows U r b.2 → Follows U r (f b a).2) : Follows U r (l.foldl f b).2 := by
  induction l generalizing b with
  | nil => exact h
  | cons a t ih => exact ih (hf b a h)

theorem when_follows {c : Bool} {f : State → State} {U : Nat} {r s : State} (h : Follows U r s) (hf : ∀ s, Follows U r s → Follows U r (f s)) :
    Follows U r (when c f s) := by
  unfold when; split
  · exact hf s h
  · exact h

theorem live_follows {f : State → State} {U : Nat} {r s : State} (h : Follows U r s) (hf : ∀ s, Follows U r s → Follows U r (f s)) :
    Follows U r (live f s) := by
  unfold live; split
  · exact h
  · exact hf s h

theorem running_follows {f : State → State} {U : Nat} {r s : State} (h : Follows U r s) (hf : ∀ s, Follows U r s → Follows U r (f s)) :
    Follows U r (running f s) := by
  unfold running; split
  · exact h
  · exact hf s h

/-- A register field is written. -/
theorem wr_follows {f : Fld} {v U : Nat} {r s : State} (h : Follows U r s) (hU : 1 ||| U = U) : Follows U r (wr f v s) :=
  ⟨h.queue, h.said, h.drawn, h.seats, fun x => by
    simp only [wr]; split
    · exact fdel_sorted (h.regs x) _
    · exact fset_sorted (h.regs x) _ _, h.floors, fun p hp => by
    cases p <;> first | exact h.frame _ hp | exact absurd (hp.symm.trans (bit_of (by decide) hU)) (by decide)⟩

theorem wrB_follows {f : Fld} {b : Bool} {U : Nat} {r s : State} (h : Follows U r s) (hU : 1 ||| U = U) : Follows U r (wrB f b s) := wr_follows h hU
theorem bumpN_follows {f : Fld} {n U : Nat} {r s : State} (h : Follows U r s) (hU : 1 ||| U = U) : Follows U r (bumpN f n s) := wr_follows h hU
theorem bump_follows {f : Fld} {U : Nat} {r s : State} (h : Follows U r s) (hU : 1 ||| U = U) : Follows U r (bump f s) := wr_follows h hU
theorem lower_follows {f : Fld} {n U : Nat} {r s : State} (h : Follows U r s) (hU : 1 ||| U = U) : Follows U r (lower f n s) := wr_follows h hU
theorem clear_follows {f : Fld} {U : Nat} {r s : State} (h : Follows U r s) (hU : 1 ||| U = U) : Follows U r (clear f s) := wr_follows h hU

/-- A message is sent. -/
theorem emit_follows {k : OutKind} {args : List Nat} {U : Nat} {r s : State} (h : Follows U r s) (hU : 16777216 ||| U = U) :
    Follows U r (emit k args s) :=
  ⟨h.queue, h.said.trans (List.suffix_cons _ _), h.drawn, h.seats, h.regs, h.floors, fun p hp => by
    cases p <;> first | exact h.frame _ hp | exact absurd (hp.symm.trans (bit_of (by decide) hU)) (by decide)⟩

/-- One more open value is taken. -/
theorem draw_follows {U : Nat} {r s : State} (h : Follows U r s) (hU : 33554432 ||| U = U) : Follows U r { s with freeCount := s.freeCount + 1 } :=
  ⟨h.queue, h.said, Nat.le_succ_of_le h.drawn, h.seats, h.regs, h.floors, fun p hp => by
    cases p <;> first | exact h.frame _ hp | exact absurd (hp.symm.trans (bit_of (by decide) hU)) (by decide)⟩

theorem openValue_follows {U : Nat} {r s : State} (h : Follows U r s) (hU : 33554432 ||| U = U) : Follows U r (openValue s).2 := draw_follows h hU
theorem wrOpen_follows {f : Fld} {U : Nat} {r s : State} (h : Follows U r s) (hU : 33554433 ||| U = U) : Follows U r (wrOpen f s) :=
  wr_follows (draw_follows h (lor_sub (by decide) hU)) (lor_sub (by decide) hU)
theorem ancWrote_follows {seat region U : Nat} {r s : State} (h : Follows U r s) (hU : 1 ||| U = U) : Follows U r (ancWrote seat region s) :=
  wr_follows h hU

/-- A floor is written to one of the sixteen slots. -/
theorem floorSet_follows {k : Nat} {v : Floor} {U : Nat} {r s : State} (h : Follows U r s) (hU : 8 ||| U = U) :
    Follows U r { s with stk := { s.stk with floors := fset s.stk.floors (k % 16) v } } :=
  ⟨h.queue, h.said, h.drawn, h.seats, h.regs, fun x => ⟨fset_sorted (h.floors x).1 _ _, fun e he => by
    rcases mem_fset he with he | he
    · rw [he]; exact Nat.mod_lt _ (by decide)
    · exact (h.floors x).2 e he⟩, fun p hp => by
    cases p <;> first | exact h.frame _ hp | exact absurd (hp.symm.trans (bit_of (by decide) hU)) (by decide)⟩

theorem writeFloor_follows {value slot seq : Nat} {ok : Bool} {U : Nat} {r s : State} (h : Follows U r s) (hU : 9 ||| U = U) :
    Follows U r (writeFloor value slot seq ok s) :=
  ancWrote_follows (floorSet_follows h (lor_sub (by decide) hU)) (lor_sub (by decide) hU)

theorem idleTick_follows {U : Nat} {r s : State} (h : Follows U r s) (hU : 8 ||| U = U) : Follows U r (idleTick s) :=
  Follows.set_stk h hU rfl

theorem setTicks_follows {n : Nat} {U : Nat} {r s : State} (h : Follows U r s) (hU : 8 ||| U = U) : Follows U r (setTicks n s) :=
  Follows.set_stk h hU rfl

end Sys2Proof.Machine
end

