-- ==== Sys2Proof/Laws/FollowsDigest.lean ====
section
/-!
SUPPORT. Laws/FollowsDigest.lean: the operations of Machine/Digest.lean keep what `Follows` states.
-/

namespace Sys2Proof.Machine

open Sys2Proof

theorem setCores_follows {seat : Nat} {d : DigCores} {U : Nat} {r s : State} (h : Follows U r s) (hU : 8388609 ||| U = U) :
    Follows U r (setCores seat d s) := by
  unfold setCores
  repeat' first
    | with_reducible assumption
    | intro _
    | with_reducible refine wr_follows ?_ (lor_sub (by decide) hU)
    | with_reducible refine foldl_follows ?_ ?_
    | with_reducible refine Follows.ite ?_ ?_
    | with_reducible exact Follows.set_keys (by assumption) (lor_sub (by decide) hU)
    | (with_reducible refine Follows.set_keys ?_ (lor_sub (by decide) hU); first | with_reducible refine wr_follows ?_ (lor_sub (by decide) hU) | with_reducible refine foldl_follows ?_ ?_ | with_reducible refine Follows.ite ?_ ?_ | with_reducible exact Follows.refl _ _)
    | split
    | (extract_lets +onlyGivenNames x; refine Follows.cut (x := x) ?_ ?_; rotate_left; clear_value x; intro _; rotate_right; subst x)
    | (extract_lets +onlyGivenNames x; clear_value x)
    | with_reducible exact Follows.refl _ _

theorem digStart_follows {seat : Nat} {U : Nat} {r s : State} (h : Follows U r s) (hU : 8388609 ||| U = U) :
    Follows U r (digStart seat s) := by
  unfold digStart
  repeat' first
    | with_reducible assumption
    | intro _
    | with_reducible refine setCores_follows ?_ (lor_sub (by decide) hU)
    | with_reducible refine bumpN_follows ?_ (lor_sub (by decide) hU)
    | with_reducible refine foldl_follows ?_ ?_
    | split
    | (extract_lets +onlyGivenNames x; refine Follows.cut (x := x) ?_ ?_; rotate_left; clear_value x; intro _; rotate_right; subst x)
    | (extract_lets +onlyGivenNames x; clear_value x)
    | refine Follows.snd (by assumption) ?_
    | refine Follows.fst (by assumption) ?_
    | dsimp only
    | with_reducible exact Follows.refl _ _

theorem digFeed_follows {seat ctx bytes : Nat} {U : Nat} {r s : State} (h : Follows U r s) (hU : 8388609 ||| U = U) :
    Follows U r (digFeed seat ctx bytes s) := by
  unfold digFeed
  repeat' first
    | with_reducible assumption
    | intro _
    | with_reducible refine setCores_follows ?_ (lor_sub (by decide) hU)
    | with_reducible refine digStart_follows ?_ (lor_sub (by decide) hU)
    | with_reducible refine Follows.ite ?_ ?_
    | split
    | (extract_lets +onlyGivenNames x; refine Follows.cut (x := x) ?_ ?_; rotate_left; clear_value x; intro _; rotate_right; subst x)
    | (extract_lets +onlyGivenNames x; clear_value x)
    | with_reducible exact Follows.refl _ _

theorem digSnoop_follows {seat bytes : Nat} {U : Nat} {r s : State} (h : Follows U r s) (hU : 8388609 ||| U = U) :
    Follows U r (digSnoop seat bytes s) := by
  unfold digSnoop
  repeat' first
    | with_reducible assumption
    | intro _
    | with_reducible refine bumpN_follows ?_ (lor_sub (by decide) hU)
    | with_reducible refine digFeed_follows ?_ (lor_sub (by decide) hU)
    | split
    | with_reducible exact Follows.refl _ _

theorem digBoot_follows  {U : Nat} {r s : State} (h : Follows U r s) (hU : 8388609 ||| U = U) :
    Follows U r (digBoot s) := by
  unfold digBoot
  repeat' first
    | with_reducible assumption
    | intro _
    | with_reducible refine when_follows ?_ ?_
    | with_reducible refine bump_follows ?_ (lor_sub (by decide) hU)
    | with_reducible refine setCores_follows ?_ (lor_sub (by decide) hU)
    | split
    | (extract_lets +onlyGivenNames x; refine Follows.cut (x := x) ?_ ?_; rotate_left; clear_value x; intro _; rotate_right; subst x)
    | (extract_lets +onlyGivenNames x; clear_value x)
    | with_reducible exact Follows.refl _ _

theorem digServe_follows {seat : Nat} {U : Nat} {r s : State} (h : Follows U r s) (hU : 8388609 ||| U = U) :
    Follows U r (digServe seat s) := by
  unfold digServe
  repeat' first
    | with_reducible assumption
    | intro _
    | with_reducible refine setCores_follows ?_ (lor_sub (by decide) hU)
    | with_reducible refine bumpN_follows ?_ (lor_sub (by decide) hU)
    | with_reducible refine foldl_follows ?_ ?_
    | with_reducible refine Follows.ite ?_ ?_
    | split
    | (extract_lets +onlyGivenNames x; refine Follows.cut (x := x) ?_ ?_; rotate_left; clear_value x; intro _; rotate_right; subst x)
    | (extract_lets +onlyGivenNames x; clear_value x)
    | refine Follows.snd (by assumption) ?_
    | refine Follows.fst (by assumption) ?_
    | dsimp only
    | with_reducible exact Follows.refl _ _

end Sys2Proof.Machine
end

