-- ==== Sys2Proof/Laws/FollowsFlags.lean ====
section
/-!
SUPPORT. Laws/FollowsFlags.lean: the operations of Machine/Flags.lean keep what `Follows` states.
-/

namespace Sys2Proof.Machine

open Sys2Proof

theorem upstream_follows {k : OutKind} {args : List Nat} {U : Nat} {r s : State} (h : Follows U r s) (hU : 16777217 ||| U = U) :
    Follows U r (upstream k args s) := by
  unfold upstream
  repeat' first
    | with_reducible assumption
    | intro _
    | with_reducible refine wr_follows ?_ (lor_sub (by decide) hU)
    | with_reducible refine emit_follows ?_ (lor_sub (by decide) hU)
    | split
    | with_reducible exact Follows.refl _ _

theorem sendMsix_follows {v : Nat} {U : Nat} {r s : State} (h : Follows U r s) (hU : 16777473 ||| U = U) :
    Follows U r (sendMsix v s) := by
  unfold sendMsix
  repeat' first
    | with_reducible assumption
    | intro _
    | with_reducible refine upstream_follows ?_ (lor_sub (by decide) hU)
    | with_reducible refine bump_follows ?_ (lor_sub (by decide) hU)
    | with_reducible refine Follows.ite ?_ ?_
    | with_reducible exact Follows.set_pci (by assumption) (lor_sub (by decide) hU)
    | (with_reducible refine Follows.set_pci ?_ (lor_sub (by decide) hU); first | with_reducible refine upstream_follows ?_ (lor_sub (by decide) hU) | with_reducible refine bump_follows ?_ (lor_sub (by decide) hU) | with_reducible refine Follows.ite ?_ ?_ | with_reducible exact Follows.refl _ _)
    | split
    | (extract_lets +onlyGivenNames x; refine Follows.cut (x := x) ?_ ?_; rotate_left; clear_value x; intro _; rotate_right; subst x)
    | (extract_lets +onlyGivenNames x; clear_value x)
    | with_reducible exact Follows.refl _ _

theorem logWrite_follows {seat cls code : Nat} {raised : Bool} {payload : List Nat} {U : Nat} {r s : State} (h : Follows U r s) (hU : 65 ||| U = U) :
    Follows U r (logWrite seat cls code raised payload s) := by
  unfold logWrite
  repeat' first
    | with_reducible assumption
    | intro _
    | with_reducible refine wr_follows ?_ (lor_sub (by decide) hU)
    | with_reducible exact Follows.set_health (by assumption) (lor_sub (by decide) hU)
    | (with_reducible refine Follows.set_health ?_ (lor_sub (by decide) hU); first | with_reducible refine wr_follows ?_ (lor_sub (by decide) hU) | with_reducible exact Follows.refl _ _)
    | split
    | (extract_lets +onlyGivenNames x; refine Follows.cut (x := x) ?_ ?_; rotate_left; clear_value x; intro _; rotate_right; subst x)
    | (extract_lets +onlyGivenNames x; clear_value x)
    | with_reducible exact Follows.refl _ _

theorem logE_follows {seat cls code : Nat} {raised : Bool} {payload : List Nat} {U : Nat} {r s : State} (h : Follows U r s) (hU : 65 ||| U = U) :
    Follows U r (logE seat cls code raised payload s) := by
  unfold logE
  repeat' first
    | with_reducible assumption
    | intro _
    | with_reducible refine logWrite_follows ?_ (lor_sub (by decide) hU)
    | with_reducible refine bump_follows ?_ (lor_sub (by decide) hU)
    | with_reducible refine Follows.ite ?_ ?_
    | with_reducible exact Follows.set_health (by assumption) (lor_sub (by decide) hU)
    | (with_reducible refine Follows.set_health ?_ (lor_sub (by decide) hU); first | with_reducible refine logWrite_follows ?_ (lor_sub (by decide) hU) | with_reducible refine bump_follows ?_ (lor_sub (by decide) hU) | with_reducible refine Follows.ite ?_ ?_ | with_reducible exact Follows.refl _ _)
    | split
    | (extract_lets +onlyGivenNames x; refine Follows.cut (x := x) ?_ ?_; rotate_left; clear_value x; intro _; rotate_right; subst x)
    | (extract_lets +onlyGivenNames x; clear_value x)
    | with_reducible exact Follows.refl _ _

theorem logAccess_follows {bar : Nat} {write : Bool} {size off : Nat} {U : Nat} {r s : State} (h : Follows U r s) (hU : 65 ||| U = U) :
    Follows U r (logAccess bar write size off s) := by
  unfold logAccess
  repeat' first
    | with_reducible assumption
    | intro _
    | with_reducible refine logE_follows ?_ (lor_sub (by decide) hU)
    | split
    | with_reducible exact Follows.refl _ _

theorem logFw_follows {seat code : Nat} {args : List Nat} {U : Nat} {r s : State} (h : Follows U r s) (hU : 65 ||| U = U) :
    Follows U r (logFw seat code args s) := by
  unfold logFw
  repeat' first
    | with_reducible assumption
    | intro _
    | with_reducible refine logE_follows ?_ (lor_sub (by decide) hU)
    | split
    | with_reducible exact Follows.refl _ _

theorem pfrFire_follows {seat t cause : Nat} {U : Nat} {r s : State} (h : Follows U r s) (hU : 16777281 ||| U = U) :
    Follows U r (pfrFire seat t cause s) := by
  unfold pfrFire
  repeat' first
    | with_reducible assumption
    | intro _
    | with_reducible refine emit_follows ?_ (lor_sub (by decide) hU)
    | with_reducible refine bump_follows ?_ (lor_sub (by decide) hU)
    | with_reducible refine wr_follows ?_ (lor_sub (by decide) hU)
    | with_reducible refine wrB_follows ?_ (lor_sub (by decide) hU)
    | with_reducible refine Follows.ite ?_ ?_
    | with_reducible exact Follows.set_health (by assumption) (lor_sub (by decide) hU)
    | (with_reducible refine Follows.set_health ?_ (lor_sub (by decide) hU); first | with_reducible refine emit_follows ?_ (lor_sub (by decide) hU) | with_reducible refine bump_follows ?_ (lor_sub (by decide) hU) | with_reducible refine wr_follows ?_ (lor_sub (by decide) hU) | with_reducible refine wrB_follows ?_ (lor_sub (by decide) hU) | with_reducible refine Follows.ite ?_ ?_ | with_reducible exact Follows.refl _ _)
    | split
    | (extract_lets +onlyGivenNames x; refine Follows.cut (x := x) ?_ ?_; rotate_left; clear_value x; intro _; rotate_right; subst x)
    | (extract_lets +onlyGivenNames x; clear_value x)
    | with_reducible exact Follows.refl _ _

theorem pfrFireWhere_follows {seat cause : Nat} {p : TrigCond → Bool} {U : Nat} {r s : State} (h : Follows U r s) (hU : 16777281 ||| U = U) :
    Follows U r (pfrFireWhere seat cause p s) := by
  unfold pfrFireWhere
  repeat' first
    | with_reducible assumption
    | intro _
    | with_reducible refine foldS_follows ?_ ?_
    | with_reducible refine pfrFire_follows ?_ (lor_sub (by decide) hU)
    | with_reducible refine Follows.ite ?_ ?_
    | split
    | with_reducible exact Follows.refl _ _

theorem coxRaise_follows  {U : Nat} {r s : State} (h : Follows U r s) (hU : 16777473 ||| U = U) :
    Follows U r (coxRaise s) := by
  unfold coxRaise
  repeat' first
    | with_reducible assumption
    | intro _
    | with_reducible refine sendMsix_follows ?_ (lor_sub (by decide) hU)
    | split
    | with_reducible exact Follows.refl _ _

theorem setEvent_follows {ev : Fld} {raised : Bool} {U : Nat} {r s : State} (h : Follows U r s) (hU : 16777537 ||| U = U) :
    Follows U r (setEvent ev raised s) := by
  unfold setEvent
  repeat' first
    | with_reducible assumption
    | intro _
    | with_reducible refine wr_follows ?_ (lor_sub (by decide) hU)
    | with_reducible refine logE_follows ?_ (lor_sub (by decide) hU)
    | with_reducible refine pfrFireWhere_follows ?_ (lor_sub (by decide) hU)
    | with_reducible refine coxRaise_follows ?_ (lor_sub (by decide) hU)
    | with_reducible refine Follows.ite ?_ ?_
    | split
    | (extract_lets +onlyGivenNames x; refine Follows.cut (x := x) ?_ ?_; rotate_left; clear_value x; intro _; rotate_right; subst x)
    | (extract_lets +onlyGivenNames x; clear_value x)
    | with_reducible exact Follows.refl _ _

theorem event_follows {ev en : Fld} {bit : Nat} {U : Nat} {r s : State} (h : Follows U r s) (hU : 16777537 ||| U = U) :
    Follows U r (event ev en bit s) := by
  unfold event
  repeat' first
    | with_reducible assumption
    | intro _
    | with_reducible refine setEvent_follows ?_ (lor_sub (by decide) hU)
    | split
    | with_reducible exact Follows.refl _ _

theorem durability_follows {f : Fld} {v : Bool} {U : Nat} {r s : State} (h : Follows U r s) (hU : 16777537 ||| U = U) :
    Follows U r (durability f v s) := by
  unfold durability
  repeat' first
    | with_reducible assumption
    | intro _
    | with_reducible refine wrB_follows ?_ (lor_sub (by decide) hU)
    | with_reducible refine setEvent_follows ?_ (lor_sub (by decide) hU)
    | with_reducible refine Follows.ite ?_ ?_
    | split
    | with_reducible exact Follows.refl _ _

theorem showEntries_follows {seat : Nat} {U : Nat} {r s : State} (h : Follows U r s) (hU : 1 ||| U = U) :
    Follows U r (showEntries seat s) := by
  unfold showEntries
  repeat' first
    | with_reducible assumption
    | intro _
    | with_reducible refine wr_follows ?_ (lor_sub (by decide) hU)
    | split
    | with_reducible exact Follows.refl _ _

theorem faultRoom_follows {seat : Nat} {U : Nat} {r s : State} (h : Follows U r s) (hU : 16777537 ||| U = U) :
    Follows U r (faultRoom seat s) := by
  unfold faultRoom
  repeat' first
    | with_reducible assumption
    | intro _
    | with_reducible refine bump_follows ?_ (lor_sub (by decide) hU)
    | with_reducible refine event_follows ?_ (lor_sub (by decide) hU)
    | with_reducible refine Follows.ite ?_ ?_
    | with_reducible exact Follows.set_health (by assumption) (lor_sub (by decide) hU)
    | (with_reducible refine Follows.set_health ?_ (lor_sub (by decide) hU); first | with_reducible refine bump_follows ?_ (lor_sub (by decide) hU) | with_reducible refine event_follows ?_ (lor_sub (by decide) hU) | with_reducible refine Follows.ite ?_ ?_ | with_reducible exact Follows.refl _ _)
    | split
    | (extract_lets +onlyGivenNames x; refine Follows.cut (x := x) ?_ ?_; rotate_left; clear_value x; intro _; rotate_right; subst x)
    | (extract_lets +onlyGivenNames x; clear_value x)
    | with_reducible exact Follows.refl _ _

theorem faultCount_follows {seat source inst : Nat} {device : Option Nat} {detail : List Nat} {U : Nat} {r s : State} (h : Follows U r s) (hU : 16777537 ||| U = U) :
    Follows U r (faultCount seat source inst device detail s).1 := by
  unfold faultCount
  dsimp only
  repeat' first
    | with_reducible assumption
    | intro _
    | with_reducible refine faultRoom_follows ?_ (lor_sub (by decide) hU)
    | with_reducible refine bump_follows ?_ (lor_sub (by decide) hU)
    | with_reducible refine showEntries_follows ?_ (lor_sub (by decide) hU)
    | with_reducible refine logE_follows ?_ (lor_sub (by decide) hU)
    | with_reducible refine when_follows ?_ ?_
    | with_reducible refine wr_follows ?_ (lor_sub (by decide) hU)
    | with_reducible refine event_follows ?_ (lor_sub (by decide) hU)
    | with_reducible refine pfrFireWhere_follows ?_ (lor_sub (by decide) hU)
    | with_reducible refine Follows.ite ?_ ?_
    | with_reducible exact Follows.set_health (by assumption) (lor_sub (by decide) hU)
    | (with_reducible refine Follows.set_health ?_ (lor_sub (by decide) hU); first | with_reducible refine faultRoom_follows ?_ (lor_sub (by decide) hU) | with_reducible refine bump_follows ?_ (lor_sub (by decide) hU) | with_reducible refine showEntries_follows ?_ (lor_sub (by decide) hU) | with_reducible refine logE_follows ?_ (lor_sub (by decide) hU) | with_reducible refine when_follows ?_ ?_ | with_reducible refine wr_follows ?_ (lor_sub (by decide) hU) | with_reducible refine event_follows ?_ (lor_sub (by decide) hU) | with_reducible refine pfrFireWhere_follows ?_ (lor_sub (by decide) hU) | with_reducible refine Follows.ite ?_ ?_ | with_reducible exact Follows.refl _ _)
    | split
    | with_reducible exact Follows.refl _ _

theorem faultClear_follows {seat source inst : Nat} {U : Nat} {r s : State} (h : Follows U r s) (hU : 64 ||| U = U) :
    Follows U r (faultClear seat source inst s) := by
  unfold faultClear
  repeat' first
    | with_reducible assumption
    | intro _
    | with_reducible exact Follows.set_health (by assumption) (lor_sub (by decide) hU)
    | (with_reducible refine Follows.set_health ?_ (lor_sub (by decide) hU); first | with_reducible exact Follows.refl _ _)
    | split
    | (extract_lets +onlyGivenNames x; refine Follows.cut (x := x) ?_ ?_; rotate_left; clear_value x; intro _; rotate_right; subst x)
    | (extract_lets +onlyGivenNames x; clear_value x)
    | with_reducible exact Follows.refl _ _

theorem faultNote_follows {seat source inst : Nat} {detail : List Nat} {U : Nat} {r s : State} (h : Follows U r s) (hU : 16777537 ||| U = U) :
    Follows U r (faultNote seat source inst detail s) := by
  unfold faultNote
  repeat' first
    | with_reducible assumption
    | intro _
    | with_reducible refine faultCount_follows ?_ (lor_sub (by decide) hU)
    | with_reducible refine faultClear_follows ?_ (lor_sub (by decide) hU)
    | with_reducible refine Follows.ite ?_ ?_
    | split
    | (extract_lets +onlyGivenNames x; refine Follows.cut (x := x) ?_ ?_; rotate_left; clear_value x; intro _; rotate_right; subst x)
    | (extract_lets +onlyGivenNames x; clear_value x)
    | refine Follows.snd (by assumption) ?_
    | refine Follows.fst (by assumption) ?_
    | dsimp only
    | with_reducible exact Follows.refl _ _

theorem engineFault_follows {seat unit : Nat} {detail : List Nat} {U : Nat} {r s : State} (h : Follows U r s) (hU : 16777537 ||| U = U) :
    Follows U r (engineFault seat unit detail s) := by
  unfold engineFault
  repeat' first
    | with_reducible assumption
    | intro _
    | with_reducible refine faultNote_follows ?_ (lor_sub (by decide) hU)
    | split
    | with_reducible exact Follows.refl _ _

end Sys2Proof.Machine
end

