-- ==== Sys2Proof/Laws/FollowsAer.lean ====
section
/-!
SUPPORT. Laws/FollowsAer.lean: the operations of Machine/Aer.lean keep what `Follows` states.
-/

namespace Sys2Proof.Machine

open Sys2Proof

theorem aerMod_follows {f : Aer → Aer} {U : Nat} {r s : State} (h : Follows U r s) (hU : 256 ||| U = U) :
    Follows U r (aerMod f s) := by
  unfold aerMod
  repeat' first
    | with_reducible assumption
    | intro _
    | with_reducible exact Follows.set_pci (by assumption) (lor_sub (by decide) hU)
    | (with_reducible refine Follows.set_pci ?_ (lor_sub (by decide) hU); first | with_reducible exact Follows.refl _ _)
    | split
    | (extract_lets +onlyGivenNames x; refine Follows.cut (x := x) ?_ ?_; rotate_left; clear_value x; intro _; rotate_right; subst x)
    | (extract_lets +onlyGivenNames x; clear_value x)
    | with_reducible exact Follows.refl _ _

theorem aerCorr_follows {e : CorrErr} {U : Nat} {r s : State} (h : Follows U r s) (hU : 16777473 ||| U = U) :
    Follows U r (aerCorr e s) := by
  unfold aerCorr
  repeat' first
    | with_reducible assumption
    | intro _
    | with_reducible refine aerMod_follows ?_ (lor_sub (by decide) hU)
    | with_reducible refine when_follows ?_ ?_
    | with_reducible refine upstream_follows ?_ (lor_sub (by decide) hU)
    | split
    | (extract_lets +onlyGivenNames x; refine Follows.cut (x := x) ?_ ?_; rotate_left; clear_value x; intro _; rotate_right; subst x)
    | (extract_lets +onlyGivenNames x; clear_value x)
    | with_reducible exact Follows.refl _ _

theorem headerLog_follows {bit : Nat} {withHeader : Bool} {U : Nat} {r s : State} (h : Follows U r s) (hU : 50331905 ||| U = U) :
    Follows U r (headerLog bit withHeader s) := by
  unfold headerLog
  repeat' first
    | with_reducible assumption
    | intro _
    | with_reducible refine aerMod_follows ?_ (lor_sub (by decide) hU)
    | with_reducible refine foldS_follows ?_ ?_
    | with_reducible refine openValue_follows ?_ (lor_sub (by decide) hU)
    | with_reducible refine aerCorr_follows ?_ (lor_sub (by decide) hU)
    | with_reducible refine Follows.ite ?_ ?_
    | split
    | (extract_lets +onlyGivenNames x; refine Follows.cut (x := x) ?_ ?_; rotate_left; clear_value x; intro _; rotate_right; subst x)
    | (extract_lets +onlyGivenNames x; clear_value x)
    | refine Follows.snd (by assumption) ?_
    | refine Follows.fst (by assumption) ?_
    | dsimp only
    | with_reducible exact Follows.refl _ _

theorem aerUncorr_follows {e : UncorrErr} {advisory withHeader : Bool} {U : Nat} {r s : State} (h : Follows U r s) (hU : 50331969 ||| U = U) :
    Follows U r (aerUncorr e advisory withHeader s) := by
  unfold aerUncorr
  repeat' first
    | with_reducible assumption
    | intro _
    | with_reducible refine aerMod_follows ?_ (lor_sub (by decide) hU)
    | with_reducible refine when_follows ?_ ?_
    | with_reducible refine headerLog_follows ?_ (lor_sub (by decide) hU)
    | with_reducible refine faultNote_follows ?_ (lor_sub (by decide) hU)
    | with_reducible refine aerCorr_follows ?_ (lor_sub (by decide) hU)
    | with_reducible refine upstream_follows ?_ (lor_sub (by decide) hU)
    | with_reducible refine Follows.ite ?_ ?_
    | split
    | (extract_lets +onlyGivenNames x; refine Follows.cut (x := x) ?_ ?_; rotate_left; clear_value x; intro _; rotate_right; subst x)
    | (extract_lets +onlyGivenNames x; clear_value x)
    | with_reducible exact Follows.refl _ _

theorem unsupported_follows {write : Bool} {U : Nat} {r s : State} (h : Follows U r s) (hU : 50331969 ||| U = U) :
    Follows U r (unsupported write s) := by
  unfold unsupported
  repeat' first
    | with_reducible assumption
    | intro _
    | with_reducible refine when_follows ?_ ?_
    | with_reducible refine emit_follows ?_ (lor_sub (by decide) hU)
    | with_reducible refine aerUncorr_follows ?_ (lor_sub (by decide) hU)
    | split
    | with_reducible exact Follows.refl _ _

theorem aerWrite_follows {a v : Nat} {U : Nat} {r s : State} (h : Follows U r s) (hU : 256 ||| U = U) :
    Follows U r (aerWrite a v s) := by
  unfold aerWrite
  repeat' first
    | with_reducible assumption
    | intro _
    | with_reducible refine aerMod_follows ?_ (lor_sub (by decide) hU)
    | with_reducible refine Follows.ite ?_ ?_
    | split
    | (extract_lets +onlyGivenNames x; refine Follows.cut (x := x) ?_ ?_; rotate_left; clear_value x; intro _; rotate_right; subst x)
    | (extract_lets +onlyGivenNames x; clear_value x)
    | with_reducible exact Follows.refl _ _

end Sys2Proof.Machine
end

