-- ==== Sys2Proof/Laws/FollowsKeel.lean ====
section
/-!
SUPPORT. Laws/FollowsKeel.lean: the operations of Machine/Keel.lean keep what `Follows` states.
-/

namespace Sys2Proof.Machine

open Sys2Proof

theorem keelMod_follows {dest : Nat} {f : KeelPort → KeelPort} {U : Nat} {r s : State} (h : Follows U r s) (hU : 16 ||| U = U) :
    Follows U r (keelMod dest f s) := by
  unfold keelMod
  repeat' first
    | with_reducible assumption
    | intro _
    | with_reducible exact Follows.set_keel (by assumption) (lor_sub (by decide) hU)
    | (with_reducible refine Follows.set_keel ?_ (lor_sub (by decide) hU); first | with_reducible exact Follows.refl _ _)
    | split
    | (extract_lets +onlyGivenNames x; refine Follows.cut (x := x) ?_ ?_; rotate_left; clear_value x; intro _; rotate_right; subst x)
    | (extract_lets +onlyGivenNames x; clear_value x)
    | with_reducible exact Follows.refl _ _

theorem keelArrive_follows {dest : Nat} {r : KeelReq} {U : Nat} {r0 s : State} (h : Follows U r0 s) (hU : 16 ||| U = U) :
    Follows U r0 (keelArrive dest r s) := by
  unfold keelArrive
  repeat' first
    | with_reducible assumption
    | intro _
    | with_reducible refine keelMod_follows ?_ (lor_sub (by decide) hU)
    | with_reducible refine Follows.ite ?_ ?_
    | split
    | (extract_lets +onlyGivenNames x; refine Follows.cut (x := x) ?_ ?_; rotate_left; clear_value x; intro _; rotate_right; subst x)
    | (extract_lets +onlyGivenNames x; clear_value x)
    | with_reducible exact Follows.refl _ _

theorem keelSend_follows {origin dest cls bytes : Nat} {U : Nat} {r s : State} (h : Follows U r s) (hU : 16 ||| U = U) :
    Follows U r (keelSend origin dest cls bytes s) := by
  unfold keelSend
  repeat' first
    | with_reducible assumption
    | intro _
    | with_reducible refine keelArrive_follows ?_ (lor_sub (by decide) hU)
    | with_reducible refine Follows.ite ?_ ?_
    | split
    | with_reducible exact Follows.refl _ _

theorem keelServe_follows {dest : Nat} {U : Nat} {r s : State} (h : Follows U r s) (hU : 16 ||| U = U) :
    Follows U r (keelServe dest s) := by
  unfold keelServe
  repeat' first
    | with_reducible assumption
    | intro _
    | with_reducible refine keelMod_follows ?_ (lor_sub (by decide) hU)
    | with_reducible refine Follows.ite ?_ ?_
    | split
    | (extract_lets +onlyGivenNames x; refine Follows.cut (x := x) ?_ ?_; rotate_left; clear_value x; intro _; rotate_right; subst x)
    | (extract_lets +onlyGivenNames x; clear_value x)
    | refine Follows.snd (by assumption) ?_
    | refine Follows.fst (by assumption) ?_
    | dsimp only
    | with_reducible exact Follows.refl _ _

theorem keelEdge_follows {l : List (Nat × KeelReq)} {U : Nat} {r s : State} (h : Follows U r s) (hU : 16 ||| U = U) :
    Follows U r (keelEdge l s) := by
  unfold keelEdge
  repeat' first
    | with_reducible assumption
    | intro _
    | with_reducible refine foldS_follows ?_ ?_
    | with_reducible refine keelArrive_follows ?_ (lor_sub (by decide) hU)
    | with_reducible refine keelServe_follows ?_ (lor_sub (by decide) hU)
    | split
    | refine Follows.snd (by assumption) ?_
    | refine Follows.fst (by assumption) ?_
    | dsimp only
    | with_reducible exact Follows.refl _ _

end Sys2Proof.Machine
end

