-- ==== Sys2Proof/Laws/FollowsMbxOps.lean ====
section
/-!
SUPPORT. Laws/FollowsMbxOps.lean: the operations of Machine/MbxOps.lean keep what `Follows` states.
-/

namespace Sys2Proof.Machine

open Sys2Proof

theorem setSlot_follows {n : Nat} {m : MbxSlot} {U : Nat} {r s : State} (h : Follows U r s) (hU : 128 ||| U = U) :
    Follows U r (setSlot n m s) := by
  unfold setSlot
  repeat' first
    | with_reducible assumption
    | intro _
    | with_reducible exact Follows.set_mbx (by assumption) (lor_sub (by decide) hU)
    | (with_reducible refine Follows.set_mbx ?_ (lor_sub (by decide) hU); first | with_reducible exact Follows.refl _ _)
    | split
    | (extract_lets +onlyGivenNames x; refine Follows.cut (x := x) ?_ ?_; rotate_left; clear_value x; intro _; rotate_right; subst x)
    | (extract_lets +onlyGivenNames x; clear_value x)
    | with_reducible exact Follows.refl _ _

theorem wrBit_follows {f : Fld} {i : Nat} {b : Bool} {U : Nat} {r s : State} (h : Follows U r s) (hU : 1 ||| U = U) :
    Follows U r (wrBit f i b s) := by
  unfold wrBit
  repeat' first
    | with_reducible assumption
    | intro _
    | with_reducible refine wr_follows ?_ (lor_sub (by decide) hU)
    | with_reducible refine Follows.ite ?_ ?_
    | split
    | (extract_lets +onlyGivenNames x; refine Follows.cut (x := x) ?_ ?_; rotate_left; clear_value x; intro _; rotate_right; subst x)
    | (extract_lets +onlyGivenNames x; clear_value x)
    | with_reducible exact Follows.refl _ _

theorem mbxBusy_follows {n : Nat} {b : Bool} {U : Nat} {r s : State} (h : Follows U r s) (hU : 1 ||| U = U) :
    Follows U r (mbxBusy n b s) := by
  unfold mbxBusy
  repeat' first
    | with_reducible assumption
    | intro _
    | with_reducible refine wrBit_follows ?_ (lor_sub (by decide) hU)
    | with_reducible refine Follows.ite ?_ ?_
    | split
    | with_reducible exact Follows.refl _ _

theorem mbxDone_follows {n : Nat} {b : Bool} {U : Nat} {r s : State} (h : Follows U r s) (hU : 1 ||| U = U) :
    Follows U r (mbxDone n b s) := by
  unfold mbxDone
  repeat' first
    | with_reducible assumption
    | intro _
    | with_reducible refine wrBit_follows ?_ (lor_sub (by decide) hU)
    | with_reducible refine Follows.ite ?_ ?_
    | split
    | with_reducible exact Follows.refl _ _

theorem logCommand_follows {n : Nat} {m : MbxSlot} {status : Nat} {U : Nat} {r s : State} (h : Follows U r s) (hU : 65 ||| U = U) :
    Follows U r (logCommand n m status s) := by
  unfold logCommand
  repeat' first
    | with_reducible assumption
    | intro _
    | with_reducible refine logE_follows ?_ (lor_sub (by decide) hU)
    | split
    | with_reducible exact Follows.refl _ _

theorem mbxComplete_follows {n : Nat} {st : Sts} {detail : Nat} {words : List Nat} {U : Nat} {r s : State} (h : Follows U r s) (hU : 16777665 ||| U = U) :
    Follows U r (mbxComplete n st detail words s) := by
  unfold mbxComplete
  repeat' first
    | with_reducible assumption
    | intro _
    | with_reducible refine mbxBusy_follows ?_ (lor_sub (by decide) hU)
    | with_reducible refine bump_follows ?_ (lor_sub (by decide) hU)
    | with_reducible refine when_follows ?_ ?_
    | with_reducible refine logCommand_follows ?_ (lor_sub (by decide) hU)
    | with_reducible refine setSlot_follows ?_ (lor_sub (by decide) hU)
    | with_reducible refine emit_follows ?_ (lor_sub (by decide) hU)
    | with_reducible refine mbxDone_follows ?_ (lor_sub (by decide) hU)
    | with_reducible refine sendMsix_follows ?_ (lor_sub (by decide) hU)
    | with_reducible refine Follows.ite ?_ ?_
    | split
    | (extract_lets +onlyGivenNames x; refine Follows.cut (x := x) ?_ ?_; rotate_left; clear_value x; intro _; rotate_right; subst x)
    | (extract_lets +onlyGivenNames x; clear_value x)
    | with_reducible exact Follows.refl _ _

theorem mbxRun_follows {n opc : Nat} {body : State → Sts × Nat × List Nat × State} {U : Nat} {r s : State} (h : Follows U r s) (hbody : ∀ x0, Follows U r x0 → Follows U r ((body x0).2.2.2)) (hU : 16777665 ||| U = U) :
    Follows U r (mbxRun n opc body s) := by
  unfold mbxRun
  repeat' first
    | with_reducible assumption
    | intro _
    | with_reducible refine mbxComplete_follows ?_ (lor_sub (by decide) hU)
    | with_reducible refine Follows.ite ?_ ?_
    | refine hbody _ ?_
    | split
    | (extract_lets +onlyGivenNames x; refine Follows.cut (x := x) ?_ ?_; rotate_left; clear_value x; intro _; rotate_right; subst x)
    | (extract_lets +onlyGivenNames x; clear_value x)
    | refine Follows.snd (by assumption) ?_
    | refine Follows.fst (by assumption) ?_
    | dsimp only
    | with_reducible exact Follows.refl _ _

theorem mbxBegin_follows {n opc : Nat} {body : State → Option (Sts × Nat × List Nat) × State} {U : Nat} {r s : State} (h : Follows U r s) (hbody : ∀ x0, Follows U r x0 → Follows U r ((body x0).2)) (hU : 16777665 ||| U = U) :
    Follows U r (mbxBegin n opc body s) := by
  unfold mbxBegin
  repeat' first
    | with_reducible assumption
    | intro _
    | with_reducible refine mbxComplete_follows ?_ (lor_sub (by decide) hU)
    | with_reducible refine setSlot_follows ?_ (lor_sub (by decide) hU)
    | with_reducible refine Follows.ite ?_ ?_
    | refine hbody _ ?_
    | split
    | (extract_lets +onlyGivenNames x; refine Follows.cut (x := x) ?_ ?_; rotate_left; clear_value x; intro _; rotate_right; subst x)
    | (extract_lets +onlyGivenNames x; clear_value x)
    | refine Follows.snd (by assumption) ?_
    | refine Follows.fst (by assumption) ?_
    | dsimp only
    | with_reducible exact Follows.refl _ _

theorem refuse_follows {st : Sts} {detail : Nat} {U : Nat} {r s : State} (h : Follows U r s) :
    Follows U r (refuse st detail s).2.2.2 := by
  unfold refuse
  repeat' first
    | with_reducible assumption
    | intro _
    | split
    | with_reducible exact Follows.refl _ _

theorem okWith_follows {words : List Nat} {U : Nat} {r s : State} (h : Follows U r s) :
    Follows U r (okWith words s).2.2.2 := by
  unfold okWith
  repeat' first
    | with_reducible assumption
    | intro _
    | split
    | with_reducible exact Follows.refl _ _

theorem needsHost_follows {body : State → Sts × Nat × List Nat × State} {U : Nat} {r s : State} (h : Follows U r s) (hbody : ∀ x0, Follows U r x0 → Follows U r ((body x0).2.2.2)) :
    Follows U r (needsHost body s).2.2.2 := by
  unfold needsHost
  repeat' first
    | with_reducible assumption
    | intro _
    | with_reducible refine refuse_follows ?_
    | with_reducible refine Follows.ite ?_ ?_
    | refine hbody _ ?_
    | split
    | refine Follows.snd (by assumption) ?_
    | refine Follows.fst (by assumption) ?_
    | dsimp only
    | with_reducible exact Follows.refl _ _

theorem toHost_follows {n : Nat} {words : List Nat} {U : Nat} {r s : State} (h : Follows U r s) (hU : 16777217 ||| U = U) :
    Follows U r (toHost n words s) := by
  unfold toHost
  repeat' first
    | with_reducible assumption
    | intro _
    | with_reducible refine upstream_follows ?_ (lor_sub (by decide) hU)
    | split
    | with_reducible exact Follows.refl _ _

theorem issueReads_follows {n count : Nat} {U : Nat} {r s : State} (h : Follows U r s) (hU : 16777473 ||| U = U) :
    Follows U r (issueReads n count s) := by
  unfold issueReads
  repeat' first
    | with_reducible assumption
    | intro _
    | with_reducible refine foldS_follows ?_ ?_
    | with_reducible refine bump_follows ?_ (lor_sub (by decide) hU)
    | with_reducible refine upstream_follows ?_ (lor_sub (by decide) hU)
    | with_reducible exact Follows.set_pci (by assumption) (lor_sub (by decide) hU)
    | (with_reducible refine Follows.set_pci ?_ (lor_sub (by decide) hU); first | with_reducible refine foldS_follows ?_ ?_ | with_reducible refine bump_follows ?_ (lor_sub (by decide) hU) | with_reducible refine upstream_follows ?_ (lor_sub (by decide) hU) | with_reducible exact Follows.refl _ _)
    | split
    | (extract_lets +onlyGivenNames x; refine Follows.cut (x := x) ?_ ?_; rotate_left; clear_value x; intro _; rotate_right; subst x)
    | (extract_lets +onlyGivenNames x; clear_value x)
    | with_reducible exact Follows.refl _ _

end Sys2Proof.Machine
end

