-- ==== Sys2Proof/Laws/FollowsPowerOps.lean ====
section
/-!
SUPPORT. Laws/FollowsPowerOps.lean: the operations of Machine/PowerOps.lean keep what `Follows` states.
-/

namespace Sys2Proof.Machine

open Sys2Proof

theorem unitWake_follows {seat unit source cycles : Nat} {U : Nat} {r s : State} (h : Follows U r s) (hU : 1 ||| U = U) :
    Follows U r (unitWake seat unit source cycles s) := by
  unfold unitWake
  repeat' first
    | with_reducible assumption
    | intro _
    | with_reducible refine wr_follows ?_ (lor_sub (by decide) hU)
    | with_reducible refine bump_follows ?_ (lor_sub (by decide) hU)
    | with_reducible refine bumpN_follows ?_ (lor_sub (by decide) hU)
    | with_reducible refine Follows.ite ?_ ?_
    | split
    | with_reducible exact Follows.refl _ _

theorem pinsWake_follows  {U : Nat} {r s : State} (h : Follows U r s) (hU : 1 ||| U = U) :
    Follows U r (pinsWake s) := by
  unfold pinsWake
  repeat' first
    | with_reducible assumption
    | intro _
    | with_reducible refine foldS_follows ?_ ?_
    | with_reducible refine unitWake_follows ?_ (lor_sub (by decide) hU)
    | with_reducible refine when_follows ?_ ?_
    | with_reducible refine Follows.ite ?_ ?_
    | split
    | with_reducible exact Follows.refl _ _

theorem linksUp_follows {seat : Nat} {U : Nat} {r s : State} (h : Follows U r s) (hU : 1 ||| U = U) :
    Follows U r (linksUp seat s) := by
  unfold linksUp
  repeat' first
    | with_reducible assumption
    | intro _
    | with_reducible refine wr_follows ?_ (lor_sub (by decide) hU)
    | split
    | with_reducible exact Follows.refl _ _

theorem linksQuiet_follows  {U : Nat} {r s : State} (h : Follows U r s) (hU : 1 ||| U = U) :
    Follows U r (linksQuiet s) := by
  unfold linksQuiet
  repeat' first
    | with_reducible assumption
    | intro _
    | with_reducible refine foldS_follows ?_ ?_
    | with_reducible refine wr_follows ?_ (lor_sub (by decide) hU)
    | split
    | with_reducible exact Follows.refl _ _

end Sys2Proof.Machine
end

