-- ==== Sys2Proof/Laws/FollowsNvmeOps.lean ====
section
/-!
SUPPORT. Laws/FollowsNvmeOps.lean: the operations of Machine/NvmeOps.lean keep what `Follows` states.
-/

namespace Sys2Proof.Machine

open Sys2Proof

theorem setQp_follows {seat q : Nat} {x : Qp} {U : Nat} {r s : State} (h : Follows U r s) (hU : 8192 ||| U = U) :
    Follows U r (setQp seat q x s) := by
  unfold setQp
  repeat' first
    | with_reducible assumption
    | intro _
    | with_reducible exact Follows.set_fe (by assumption) (lor_sub (by decide) hU)
    | (with_reducible refine Follows.set_fe ?_ (lor_sub (by decide) hU); first | with_reducible exact Follows.refl _ _)
    | split
    | (extract_lets +onlyGivenNames x; refine Follows.cut (x := x) ?_ ?_; rotate_left; clear_value x; intro _; rotate_right; subst x)
    | (extract_lets +onlyGivenNames x; clear_value x)
    | with_reducible exact Follows.refl _ _

theorem freeQp_follows {seat q : Nat} {U : Nat} {r s : State} (h : Follows U r s) (hU : 8192 ||| U = U) :
    Follows U r (freeQp seat q s) := by
  unfold freeQp
  repeat' first
    | with_reducible assumption
    | intro _
    | with_reducible exact Follows.set_fe (by assumption) (lor_sub (by decide) hU)
    | (with_reducible refine Follows.set_fe ?_ (lor_sub (by decide) hU); first | with_reducible exact Follows.refl _ _)
    | split
    | (extract_lets +onlyGivenNames x; refine Follows.cut (x := x) ?_ ?_; rotate_left; clear_value x; intro _; rotate_right; subst x)
    | (extract_lets +onlyGivenNames x; clear_value x)
    | with_reducible exact Follows.refl _ _

theorem txCount_follows {seat sub bytes mtu : Nat} {U : Nat} {r s : State} (h : Follows U r s) (hU : 1 ||| U = U) :
    Follows U r (txCount seat sub bytes mtu s) := by
  unfold txCount
  repeat' first
    | with_reducible assumption
    | intro _
    | with_reducible refine bumpN_follows ?_ (lor_sub (by decide) hU)
    | split
    | with_reducible exact Follows.refl _ _

theorem cmSend_follows {seat sub : Nat} {args : List Nat} {U : Nat} {r s : State} (h : Follows U r s) (hU : 16777217 ||| U = U) :
    Follows U r (cmSend seat sub args s) := by
  unfold cmSend
  repeat' first
    | with_reducible assumption
    | intro _
    | with_reducible refine emit_follows ?_ (lor_sub (by decide) hU)
    | with_reducible refine txCount_follows ?_ (lor_sub (by decide) hU)
    | with_reducible refine Follows.ite ?_ ?_
    | split
    | with_reducible exact Follows.refl _ _

theorem outSend_follows {seat : Nat} {x : Qp} {e : Nat × Option Out} {U : Nat} {r s : State} (h : Follows U r s) (hU : 16777217 ||| U = U) :
    Follows U r (outSend seat x e s) := by
  unfold outSend
  repeat' first
    | with_reducible assumption
    | intro _
    | with_reducible refine emit_follows ?_ (lor_sub (by decide) hU)
    | with_reducible refine txCount_follows ?_ (lor_sub (by decide) hU)
    | with_reducible refine when_follows ?_ ?_
    | with_reducible refine Follows.ite ?_ ?_
    | split
    | refine Follows.snd (by assumption) ?_
    | refine Follows.fst (by assumption) ?_
    | dsimp only
    | with_reducible exact Follows.refl _ _

theorem qpDrain_follows {seat q : Nat} {U : Nat} {r s : State} (h : Follows U r s) (hU : 16785409 ||| U = U) :
    Follows U r (qpDrain seat q s) := by
  unfold qpDrain
  repeat' first
    | with_reducible assumption
    | intro _
    | with_reducible refine setQp_follows ?_ (lor_sub (by decide) hU)
    | with_reducible refine foldS_follows ?_ ?_
    | with_reducible refine outSend_follows ?_ (lor_sub (by decide) hU)
    | with_reducible refine Follows.ite ?_ ?_
    | split
    | (extract_lets +onlyGivenNames x; refine Follows.cut (x := x) ?_ ?_; rotate_left; clear_value x; intro _; rotate_right; subst x)
    | (extract_lets +onlyGivenNames x; clear_value x)
    | refine Follows.snd (by assumption) ?_
    | refine Follows.fst (by assumption) ?_
    | dsimp only
    | with_reducible exact Follows.refl _ _

theorem qpSend_follows {seat q bytes : Nat} {k : OutKind} {args : List Nat} {U : Nat} {r s : State} (h : Follows U r s) (hU : 16785409 ||| U = U) :
    Follows U r (qpSend seat q bytes k args s) := by
  unfold qpSend
  repeat' first
    | with_reducible assumption
    | intro _
    | with_reducible refine setQp_follows ?_ (lor_sub (by decide) hU)
    | with_reducible refine qpDrain_follows ?_ (lor_sub (by decide) hU)
    | split
    | (extract_lets +onlyGivenNames x; refine Follows.cut (x := x) ?_ ?_; rotate_left; clear_value x; intro _; rotate_right; subst x)
    | (extract_lets +onlyGivenNames x; clear_value x)
    | with_reducible exact Follows.refl _ _

theorem setMr_follows {i : Nat} {m : Mr} {U : Nat} {r s : State} (h : Follows U r s) (hU : 8192 ||| U = U) :
    Follows U r (setMr i m s) := by
  unfold setMr
  repeat' first
    | with_reducible assumption
    | intro _
    | with_reducible exact Follows.set_fe (by assumption) (lor_sub (by decide) hU)
    | (with_reducible refine Follows.set_fe ?_ (lor_sub (by decide) hU); first | with_reducible exact Follows.refl _ _)
    | split
    | (extract_lets +onlyGivenNames x; refine Follows.cut (x := x) ?_ ?_; rotate_left; clear_value x; intro _; rotate_right; subst x)
    | (extract_lets +onlyGivenNames x; clear_value x)
    | with_reducible exact Follows.refl _ _

theorem mrEnd_follows {i epoch : Nat} {U : Nat} {r s : State} (h : Follows U r s) (hU : 16785857 ||| U = U) :
    Follows U r (mrEnd i epoch s) := by
  unfold mrEnd
  repeat' first
    | with_reducible assumption
    | intro _
    | with_reducible refine setMr_follows ?_ (lor_sub (by decide) hU)
    | with_reducible refine mbxComplete_follows ?_ (lor_sub (by decide) hU)
    | with_reducible refine Follows.ite ?_ ?_
    | split
    | (extract_lets +onlyGivenNames x; refine Follows.cut (x := x) ?_ ?_; rotate_left; clear_value x; intro _; rotate_right; subst x)
    | (extract_lets +onlyGivenNames x; clear_value x)
    | with_reducible exact Follows.refl _ _

theorem readsEnd_follows {seat q : Nat} {U : Nat} {r s : State} (h : Follows U r s) (hU : 16785857 ||| U = U) :
    Follows U r (readsEnd seat q s) := by
  unfold readsEnd
  repeat' first
    | with_reducible assumption
    | intro _
    | with_reducible refine setQp_follows ?_ (lor_sub (by decide) hU)
    | with_reducible refine foldS_follows ?_ ?_
    | with_reducible refine mrEnd_follows ?_ (lor_sub (by decide) hU)
    | split
    | (extract_lets +onlyGivenNames x; refine Follows.cut (x := x) ?_ ?_; rotate_left; clear_value x; intro _; rotate_right; subst x)
    | (extract_lets +onlyGivenNames x; clear_value x)
    | refine Follows.snd (by assumption) ?_
    | refine Follows.fst (by assumption) ?_
    | dsimp only
    | with_reducible exact Follows.refl _ _

theorem qpWorkEnds_follows {seat q : Nat} {U : Nat} {r s : State} (h : Follows U r s) (hU : 16785857 ||| U = U) :
    Follows U r (qpWorkEnds seat q s) := by
  unfold qpWorkEnds
  repeat' first
    | with_reducible assumption
    | intro _
    | with_reducible refine setQp_follows ?_ (lor_sub (by decide) hU)
    | with_reducible refine foldS_follows ?_ ?_
    | with_reducible refine mrEnd_follows ?_ (lor_sub (by decide) hU)
    | split
    | (extract_lets +onlyGivenNames x; refine Follows.cut (x := x) ?_ ?_; rotate_left; clear_value x; intro _; rotate_right; subst x)
    | (extract_lets +onlyGivenNames x; clear_value x)
    | refine Follows.snd (by assumption) ?_
    | refine Follows.fst (by assumption) ?_
    | dsimp only
    | with_reducible exact Follows.refl _ _

theorem sourceError_follows {seat src : Nat} {U : Nat} {r s : State} (h : Follows U r s) (hU : 16785729 ||| U = U) :
    Follows U r (sourceError seat src s) := by
  unfold sourceError
  dsimp only
  repeat' first
    | with_reducible assumption
    | intro _
    | with_reducible refine coxRaise_follows ?_ (lor_sub (by decide) hU)
    | with_reducible refine logFw_follows ?_ (lor_sub (by decide) hU)
    | with_reducible refine Follows.ite ?_ ?_
    | with_reducible exact Follows.set_fe (by assumption) (lor_sub (by decide) hU)
    | (with_reducible refine Follows.set_fe ?_ (lor_sub (by decide) hU); first | with_reducible refine coxRaise_follows ?_ (lor_sub (by decide) hU) | with_reducible refine logFw_follows ?_ (lor_sub (by decide) hU) | with_reducible refine Follows.ite ?_ ?_ | with_reducible exact Follows.refl _ _)
    | split
    | with_reducible exact Follows.refl _ _

theorem qpToError_follows {seat q : Nat} {U : Nat} {r s : State} (h : Follows U r s) (hU : 16785729 ||| U = U) :
    Follows U r (qpToError seat q s) := by
  unfold qpToError
  repeat' first
    | with_reducible assumption
    | intro _
    | with_reducible refine setQp_follows ?_ (lor_sub (by decide) hU)
    | with_reducible refine bump_follows ?_ (lor_sub (by decide) hU)
    | with_reducible refine sourceError_follows ?_ (lor_sub (by decide) hU)
    | with_reducible refine Follows.ite ?_ ?_
    | split
    | (extract_lets +onlyGivenNames x; refine Follows.cut (x := x) ?_ ?_; rotate_left; clear_value x; intro _; rotate_right; subst x)
    | (extract_lets +onlyGivenNames x; clear_value x)
    | with_reducible exact Follows.refl _ _

theorem setCtrl_follows {seat c : Nat} {x : Ctrl} {U : Nat} {r s : State} (h : Follows U r s) (hU : 16384 ||| U = U) :
    Follows U r (setCtrl seat c x s) := by
  unfold setCtrl
  repeat' first
    | with_reducible assumption
    | intro _
    | with_reducible exact Follows.set_nv (by assumption) (lor_sub (by decide) hU)
    | (with_reducible refine Follows.set_nv ?_ (lor_sub (by decide) hU); first | with_reducible exact Follows.refl _ _)
    | split
    | (extract_lets +onlyGivenNames x; refine Follows.cut (x := x) ?_ ?_; rotate_left; clear_value x; intro _; rotate_right; subst x)
    | (extract_lets +onlyGivenNames x; clear_value x)
    | with_reducible exact Follows.refl _ _

theorem nvSend_follows {seat q cid : Nat} {st : NvSts} {dw0 : Nat} {U : Nat} {r s : State} (h : Follows U r s) (hU : 16785409 ||| U = U) :
    Follows U r (nvSend seat q cid st dw0 s) := by
  unfold nvSend
  repeat' first
    | with_reducible assumption
    | intro _
    | with_reducible refine qpSend_follows ?_ (lor_sub (by decide) hU)
    | with_reducible refine Follows.ite ?_ ?_
    | split
    | with_reducible exact Follows.refl _ _

theorem nvData_follows {seat q cid bytes : Nat} {words : List Nat} {U : Nat} {r s : State} (h : Follows U r s) (hU : 16785409 ||| U = U) :
    Follows U r (nvData seat q cid bytes words s) := by
  unfold nvData
  repeat' first
    | with_reducible assumption
    | intro _
    | with_reducible refine qpSend_follows ?_ (lor_sub (by decide) hU)
    | with_reducible refine nvSend_follows ?_ (lor_sub (by decide) hU)
    | with_reducible refine Follows.ite ?_ ?_
    | split
    | with_reducible exact Follows.refl _ _

theorem asyncEvent_follows {seat c ev : Nat} {U : Nat} {r s : State} (h : Follows U r s) (hU : 16801793 ||| U = U) :
    Follows U r (asyncEvent seat c ev s) := by
  unfold asyncEvent
  repeat' first
    | with_reducible assumption
    | intro _
    | with_reducible refine setCtrl_follows ?_ (lor_sub (by decide) hU)
    | with_reducible refine nvSend_follows ?_ (lor_sub (by decide) hU)
    | with_reducible refine Follows.ite ?_ ?_
    | split
    | (extract_lets +onlyGivenNames x; refine Follows.cut (x := x) ?_ ?_; rotate_left; clear_value x; intro _; rotate_right; subst x)
    | (extract_lets +onlyGivenNames x; clear_value x)
    | with_reducible exact Follows.refl _ _

theorem anaChanged_follows  {U : Nat} {r s : State} (h : Follows U r s) (hU : 16801793 ||| U = U) :
    Follows U r (anaChanged s) := by
  unfold anaChanged
  repeat' first
    | with_reducible assumption
    | intro _
    | with_reducible refine foldS_follows ?_ ?_
    | with_reducible refine asyncEvent_follows ?_ (lor_sub (by decide) hU)
    | with_reducible refine Follows.ite ?_ ?_
    | split
    | refine Follows.snd (by assumption) ?_
    | refine Follows.fst (by assumption) ?_
    | dsimp only
    | with_reducible exact Follows.refl _ _

theorem ownStart_follows {k : Nat} {U : Nat} {r s : State} (h : Follows U r s) (hU : 1048576 ||| U = U) :
    Follows U r (ownStart k s).2 := by
  unfold ownStart
  repeat' first
    | with_reducible assumption
    | intro _
    | with_reducible exact Follows.set_pair (by assumption) (lor_sub (by decide) hU)
    | (with_reducible refine Follows.set_pair ?_ (lor_sub (by decide) hU); first | with_reducible exact Follows.refl _ _)
    | split
    | (extract_lets +onlyGivenNames x; refine Follows.cut (x := x) ?_ ?_; rotate_left; clear_value x; intro _; rotate_right; subst x)
    | (extract_lets +onlyGivenNames x; clear_value x)
    | with_reducible exact Follows.refl _ _

theorem ownEnd_follows {k epoch : Nat} {U : Nat} {r s : State} (h : Follows U r s) (hU : 1048576 ||| U = U) :
    Follows U r (ownEnd k epoch s) := by
  unfold ownEnd
  repeat' first
    | with_reducible assumption
    | intro _
    | with_reducible refine Follows.ite ?_ ?_
    | with_reducible exact Follows.set_pair (by assumption) (lor_sub (by decide) hU)
    | (with_reducible refine Follows.set_pair ?_ (lor_sub (by decide) hU); first | with_reducible refine Follows.ite ?_ ?_ | with_reducible exact Follows.refl _ _)
    | split
    | (extract_lets +onlyGivenNames x; refine Follows.cut (x := x) ?_ ?_; rotate_left; clear_value x; intro _; rotate_right; subst x)
    | (extract_lets +onlyGivenNames x; clear_value x)
    | with_reducible exact Follows.refl _ _

theorem ownInstall_follows {k owner epoch : Nat} {U : Nat} {r s : State} (h : Follows U r s) (hU : 1048577 ||| U = U) :
    Follows U r (ownInstall k owner epoch s).1 := by
  unfold ownInstall
  repeat' first
    | with_reducible assumption
    | intro _
    | with_reducible refine foldS_follows ?_ ?_
    | with_reducible refine bump_follows ?_ (lor_sub (by decide) hU)
    | with_reducible refine Follows.ite ?_ ?_
    | with_reducible exact Follows.set_pair (by assumption) (lor_sub (by decide) hU)
    | (with_reducible refine Follows.set_pair ?_ (lor_sub (by decide) hU); first | with_reducible refine foldS_follows ?_ ?_ | with_reducible refine bump_follows ?_ (lor_sub (by decide) hU) | with_reducible refine Follows.ite ?_ ?_ | with_reducible exact Follows.refl _ _)
    | split
    | (extract_lets +onlyGivenNames x; refine Follows.cut (x := x) ?_ ?_; rotate_left; clear_value x; intro _; rotate_right; subst x)
    | (extract_lets +onlyGivenNames x; clear_value x)
    | with_reducible exact Follows.refl _ _

theorem setNs_follows {nsid : Nat} {n : Ns} {U : Nat} {r s : State} (h : Follows U r s) (hU : 16384 ||| U = U) :
    Follows U r (setNs nsid n s) := by
  unfold setNs
  repeat' first
    | with_reducible assumption
    | intro _
    | with_reducible exact Follows.set_nv (by assumption) (lor_sub (by decide) hU)
    | (with_reducible refine Follows.set_nv ?_ (lor_sub (by decide) hU); first | with_reducible exact Follows.refl _ _)
    | split
    | (extract_lets +onlyGivenNames x; refine Follows.cut (x := x) ?_ ?_; rotate_left; clear_value x; intro _; rotate_right; subst x)
    | (extract_lets +onlyGivenNames x; clear_value x)
    | with_reducible exact Follows.refl _ _

theorem stInstall_follows {nsid : Nat} {p : NsParams} {adm : Admission} {U : Nat} {r s : State} (h : Follows U r s) (hU : 16385 ||| U = U) :
    Follows U r (stInstall nsid p adm s).1 := by
  unfold stInstall
  repeat' first
    | with_reducible assumption
    | intro _
    | with_reducible refine foldS_follows ?_ ?_
    | with_reducible refine bump_follows ?_ (lor_sub (by decide) hU)
    | with_reducible refine setNs_follows ?_ (lor_sub (by decide) hU)
    | with_reducible refine Follows.ite ?_ ?_
    | split
    | with_reducible exact Follows.refl _ _

theorem stStart_follows {nsid : Nat} {U : Nat} {r s : State} (h : Follows U r s) (hU : 16384 ||| U = U) :
    Follows U r (stStart nsid s) := by
  unfold stStart
  repeat' first
    | with_reducible assumption
    | intro _
    | with_reducible refine setNs_follows ?_ (lor_sub (by decide) hU)
    | split
    | (extract_lets +onlyGivenNames x; refine Follows.cut (x := x) ?_ ?_; rotate_left; clear_value x; intro _; rotate_right; subst x)
    | (extract_lets +onlyGivenNames x; clear_value x)
    | with_reducible exact Follows.refl _ _

theorem stEnd_follows {nsid epoch : Nat} {U : Nat} {r s : State} (h : Follows U r s) (hU : 16384 ||| U = U) :
    Follows U r (stEnd nsid epoch s) := by
  unfold stEnd
  repeat' first
    | with_reducible assumption
    | intro _
    | with_reducible refine setNs_follows ?_ (lor_sub (by decide) hU)
    | with_reducible refine Follows.ite ?_ ?_
    | split
    | (extract_lets +onlyGivenNames x; refine Follows.cut (x := x) ?_ ?_; rotate_left; clear_value x; intro _; rotate_right; subst x)
    | (extract_lets +onlyGivenNames x; clear_value x)
    | with_reducible exact Follows.refl _ _

theorem rowMod_follows {pool row : Nat} {f : Row → Row} {U : Nat} {r s : State} (h : Follows U r s) (hU : 262144 ||| U = U) :
    Follows U r (rowMod pool row f s) := by
  unfold rowMod
  repeat' first
    | with_reducible assumption
    | intro _
    | with_reducible exact Follows.set_par (by assumption) (lor_sub (by decide) hU)
    | (with_reducible refine Follows.set_par ?_ (lor_sub (by decide) hU); first | with_reducible exact Follows.refl _ _)
    | split
    | (extract_lets +onlyGivenNames x; refine Follows.cut (x := x) ?_ ?_; rotate_left; clear_value x; intro _; rotate_right; subst x)
    | (extract_lets +onlyGivenNames x; clear_value x)
    | with_reducible exact Follows.refl _ _

theorem readEnds_follows {k : Option Nat} {U : Nat} {r s : State} (h : Follows U r s) (hU : 262144 ||| U = U) :
    Follows U r (readEnds k s) := by
  unfold readEnds
  repeat' first
    | with_reducible assumption
    | intro _
    | with_reducible refine rowMod_follows ?_ (lor_sub (by decide) hU)
    | split
    | with_reducible exact Follows.refl _ _

theorem cmdMod_follows {id : Nat} {f : Cmd → Cmd} {U : Nat} {r s : State} (h : Follows U r s) (hU : 16384 ||| U = U) :
    Follows U r (cmdMod id f s) := by
  unfold cmdMod
  repeat' first
    | with_reducible assumption
    | intro _
    | with_reducible exact Follows.set_nv (by assumption) (lor_sub (by decide) hU)
    | (with_reducible refine Follows.set_nv ?_ (lor_sub (by decide) hU); first | with_reducible exact Follows.refl _ _)
    | split
    | (extract_lets +onlyGivenNames x; refine Follows.cut (x := x) ?_ ?_; rotate_left; clear_value x; intro _; rotate_right; subst x)
    | (extract_lets +onlyGivenNames x; clear_value x)
    | with_reducible exact Follows.refl _ _

theorem pushesDrop_follows {p : Cmd → Bool} {U : Nat} {r s : State} (h : Follows U r s) (hU : 16384 ||| U = U) :
    Follows U r (pushesDrop p s) := by
  unfold pushesDrop
  repeat' first
    | with_reducible assumption
    | intro _
    | with_reducible exact Follows.set_nv (by assumption) (lor_sub (by decide) hU)
    | (with_reducible refine Follows.set_nv ?_ (lor_sub (by decide) hU); first | with_reducible exact Follows.refl _ _)
    | split
    | (extract_lets +onlyGivenNames x; refine Follows.cut (x := x) ?_ ?_; rotate_left; clear_value x; intro _; rotate_right; subst x)
    | (extract_lets +onlyGivenNames x; clear_value x)
    | with_reducible exact Follows.refl _ _

theorem cmdPush_follows {c : Cmd} {U : Nat} {r s : State} (h : Follows U r s) (hU : 16384 ||| U = U) :
    Follows U r (cmdPush c s) := by
  unfold cmdPush
  repeat' first
    | with_reducible assumption
    | intro _
    | with_reducible exact Follows.set_nv (by assumption) (lor_sub (by decide) hU)
    | (with_reducible refine Follows.set_nv ?_ (lor_sub (by decide) hU); first | with_reducible exact Follows.refl _ _)
    | split
    | (extract_lets +onlyGivenNames x; refine Follows.cut (x := x) ?_ ?_; rotate_left; clear_value x; intro _; rotate_right; subst x)
    | (extract_lets +onlyGivenNames x; clear_value x)
    | with_reducible exact Follows.refl _ _

theorem pushRetry_follows {seat q : Nat} {U : Nat} {r s : State} (h : Follows U r s) (hU : 16384 ||| U = U) :
    Follows U r (pushRetry seat q s) := by
  unfold pushRetry
  repeat' first
    | with_reducible assumption
    | intro _
    | with_reducible refine cmdPush_follows ?_ (lor_sub (by decide) hU)
    | with_reducible refine Follows.ite ?_ ?_
    | with_reducible exact Follows.set_nv (by assumption) (lor_sub (by decide) hU)
    | (with_reducible refine Follows.set_nv ?_ (lor_sub (by decide) hU); first | with_reducible refine cmdPush_follows ?_ (lor_sub (by decide) hU) | with_reducible refine Follows.ite ?_ ?_ | with_reducible exact Follows.refl _ _)
    | split
    | (extract_lets +onlyGivenNames x; refine Follows.cut (x := x) ?_ ?_; rotate_left; clear_value x; intro _; rotate_right; subst x)
    | (extract_lets +onlyGivenNames x; clear_value x)
    | with_reducible exact Follows.refl _ _

theorem releaseLocks_follows {id : Nat} {U : Nat} {r s : State} (h : Follows U r s) (hU : 32768 ||| U = U) :
    Follows U r (releaseLocks id s) := by
  unfold releaseLocks
  repeat' first
    | with_reducible assumption
    | intro _
    | with_reducible refine Follows.ite ?_ ?_
    | with_reducible exact Follows.set_ing (by assumption) (lor_sub (by decide) hU)
    | (with_reducible refine Follows.set_ing ?_ (lor_sub (by decide) hU); first | with_reducible refine Follows.ite ?_ ?_ | with_reducible exact Follows.refl _ _)
    | split
    | (extract_lets +onlyGivenNames x; refine Follows.cut (x := x) ?_ ?_; rotate_left; clear_value x; intro _; rotate_right; subst x)
    | (extract_lets +onlyGivenNames x; clear_value x)
    | refine Follows.snd (by assumption) ?_
    | refine Follows.fst (by assumption) ?_
    | dsimp only
    | with_reducible exact Follows.refl _ _

theorem addDetail_follows {seat q : Nat} {d : FailDetail} {U : Nat} {r s : State} (h : Follows U r s) (hU : 16384 ||| U = U) :
    Follows U r (addDetail seat q d s) := by
  unfold addDetail
  repeat' first
    | with_reducible assumption
    | intro _
    | with_reducible refine setCtrl_follows ?_ (lor_sub (by decide) hU)
    | split
    | (extract_lets +onlyGivenNames x; refine Follows.cut (x := x) ?_ ?_; rotate_left; clear_value x; intro _; rotate_right; subst x)
    | (extract_lets +onlyGivenNames x; clear_value x)
    | with_reducible exact Follows.refl _ _

theorem countStatus_follows {seat : Nat} {st : NvSts} {U : Nat} {r s : State} (h : Follows U r s) (hU : 1 ||| U = U) :
    Follows U r (countStatus seat st s) := by
  unfold countStatus
  repeat' first
    | with_reducible assumption
    | intro _
    | with_reducible refine bump_follows ?_ (lor_sub (by decide) hU)
    | split
    | with_reducible exact Follows.refl _ _

theorem dropCmd_follows {id : Nat} {U : Nat} {r s : State} (h : Follows U r s) (hU : 1499136 ||| U = U) :
    Follows U r (dropCmd id s) := by
  unfold dropCmd
  repeat' first
    | with_reducible assumption
    | intro _
    | with_reducible refine foldS_follows ?_ ?_
    | with_reducible refine readEnds_follows ?_ (lor_sub (by decide) hU)
    | with_reducible refine stEnd_follows ?_ (lor_sub (by decide) hU)
    | with_reducible refine ownEnd_follows ?_ (lor_sub (by decide) hU)
    | with_reducible refine setQp_follows ?_ (lor_sub (by decide) hU)
    | with_reducible refine releaseLocks_follows ?_ (lor_sub (by decide) hU)
    | with_reducible refine pushRetry_follows ?_ (lor_sub (by decide) hU)
    | with_reducible refine foldl_follows ?_ ?_
    | with_reducible refine Follows.ite ?_ ?_
    | with_reducible exact Follows.set_nv_ing_rds (by assumption) (lor_sub (by decide) hU)
    | (with_reducible refine Follows.set_nv_ing_rds ?_ (lor_sub (by decide) hU); first | with_reducible refine foldS_follows ?_ ?_ | with_reducible refine readEnds_follows ?_ (lor_sub (by decide) hU) | with_reducible refine stEnd_follows ?_ (lor_sub (by decide) hU) | with_reducible refine ownEnd_follows ?_ (lor_sub (by decide) hU) | with_reducible refine setQp_follows ?_ (lor_sub (by decide) hU) | with_reducible refine releaseLocks_follows ?_ (lor_sub (by decide) hU) | with_reducible refine pushRetry_follows ?_ (lor_sub (by decide) hU) | with_reducible refine foldl_follows ?_ ?_ | with_reducible refine Follows.ite ?_ ?_ | with_reducible exact Follows.refl _ _)
    | split
    | (extract_lets +onlyGivenNames x; refine Follows.cut (x := x) ?_ ?_; rotate_left; clear_value x; intro _; rotate_right; subst x)
    | (extract_lets +onlyGivenNames x; clear_value x)
    | refine Follows.snd (by assumption) ?_
    | refine Follows.fst (by assumption) ?_
    | dsimp only
    | with_reducible exact Follows.refl _ _

theorem finishCmd_follows {id : Nat} {st : NvSts} {dw0 : Nat} {U : Nat} {r s : State} (h : Follows U r s) (hU : 18276353 ||| U = U) :
    Follows U r (finishCmd id st dw0 s) := by
  unfold finishCmd
  repeat' first
    | with_reducible assumption
    | intro _
    | with_reducible refine when_follows ?_ ?_
    | with_reducible refine addDetail_follows ?_ (lor_sub (by decide) hU)
    | with_reducible refine bump_follows ?_ (lor_sub (by decide) hU)
    | with_reducible refine countStatus_follows ?_ (lor_sub (by decide) hU)
    | with_reducible refine dropCmd_follows ?_ (lor_sub (by decide) hU)
    | with_reducible refine nvSend_follows ?_ (lor_sub (by decide) hU)
    | split
    | (extract_lets +onlyGivenNames x; refine Follows.cut (x := x) ?_ ?_; rotate_left; clear_value x; intro _; rotate_right; subst x)
    | (extract_lets +onlyGivenNames x; clear_value x)
    | with_reducible exact Follows.refl _ _

end Sys2Proof.Machine
end

