-- ==== Sys2Proof/Laws/FollowsRateOps.lean ====
section
/-!
SUPPORT. Laws/FollowsRateOps.lean: the operations of Machine/RateOps.lean keep what `Follows` states.
-/

namespace Sys2Proof.Machine

open Sys2Proof

theorem setRate_follows {seat : Nat} {r : RateSeat} {U : Nat} {r0 s : State} (h : Follows U r0 s) (hU : 2097152 ||| U = U) :
    Follows U r0 (setRate seat r s) := by
  unfold setRate
  repeat' first
    | with_reducible assumption
    | intro _
    | with_reducible exact Follows.set_rate (by assumption) (lor_sub (by decide) hU)
    | (with_reducible refine Follows.set_rate ?_ (lor_sub (by decide) hU); first | with_reducible exact Follows.refl _ _)
    | split
    | (extract_lets +onlyGivenNames x; refine Follows.cut (x := x) ?_ ?_; rotate_left; clear_value x; intro _; rotate_right; subst x)
    | (extract_lets +onlyGivenNames x; clear_value x)
    | with_reducible exact Follows.refl _ _

theorem loopMod_follows {seat i : Nat} {f : Loop → Loop} {U : Nat} {r s : State} (h : Follows U r s) (hU : 2097152 ||| U = U) :
    Follows U r (loopMod seat i f s) := by
  unfold loopMod
  repeat' first
    | with_reducible assumption
    | intro _
    | with_reducible refine setRate_follows ?_ (lor_sub (by decide) hU)
    | split
    | (extract_lets +onlyGivenNames x; refine Follows.cut (x := x) ?_ ?_; rotate_left; clear_value x; intro _; rotate_right; subst x)
    | (extract_lets +onlyGivenNames x; clear_value x)
    | with_reducible exact Follows.refl _ _

theorem rateSample_follows {seat cls : Nat} {write : Bool} {t : Nat} {U : Nat} {r s : State} (h : Follows U r s) (hU : 2097153 ||| U = U) :
    Follows U r (rateSample seat cls write t s) := by
  unfold rateSample
  repeat' first
    | with_reducible assumption
    | intro _
    | with_reducible refine when_follows ?_ ?_
    | with_reducible refine bump_follows ?_ (lor_sub (by decide) hU)
    | with_reducible refine setRate_follows ?_ (lor_sub (by decide) hU)
    | with_reducible refine Follows.ite ?_ ?_
    | split
    | (extract_lets +onlyGivenNames x; refine Follows.cut (x := x) ?_ ?_; rotate_left; clear_value x; intro _; rotate_right; subst x)
    | (extract_lets +onlyGivenNames x; clear_value x)
    | with_reducible exact Follows.refl _ _

theorem takeTokens_follows {seat cls units : Nat} {U : Nat} {r s : State} (h : Follows U r s) (hU : 2097152 ||| U = U) :
    Follows U r (takeTokens seat cls units s) := by
  unfold takeTokens
  repeat' first
    | with_reducible assumption
    | intro _
    | with_reducible refine loopMod_follows ?_ (lor_sub (by decide) hU)
    | with_reducible refine Follows.ite ?_ ?_
    | split
    | (extract_lets +onlyGivenNames x; refine Follows.cut (x := x) ?_ ?_; rotate_left; clear_value x; intro _; rotate_right; subst x)
    | (extract_lets +onlyGivenNames x; clear_value x)
    | with_reducible exact Follows.refl _ _

theorem takeBypass_follows {seat k : Nat} {U : Nat} {r s : State} (h : Follows U r s) (hU : 1 ||| U = U) :
    Follows U r (takeBypass seat k s) := by
  unfold takeBypass
  repeat' first
    | with_reducible assumption
    | intro _
    | with_reducible refine wr_follows ?_ (lor_sub (by decide) hU)
    | split
    | with_reducible exact Follows.refl _ _

theorem charge_follows {seat : Nat} {a : Activity} {tokens : Nat} {U : Nat} {r s : State} (h : Follows U r s) (hU : 2097152 ||| U = U) :
    Follows U r (charge seat a tokens s) := by
  unfold charge
  repeat' first
    | with_reducible assumption
    | intro _
    | with_reducible refine setRate_follows ?_ (lor_sub (by decide) hU)
    | split
    | (extract_lets +onlyGivenNames x; refine Follows.cut (x := x) ?_ ?_; rotate_left; clear_value x; intro _; rotate_right; subst x)
    | (extract_lets +onlyGivenNames x; clear_value x)
    | with_reducible exact Follows.refl _ _

theorem bgEdge_follows {seat : Nat} {demand : List Nat} {U : Nat} {r s : State} (h : Follows U r s) (hU : 2097153 ||| U = U) :
    Follows U r (bgEdge seat demand s) := by
  unfold bgEdge
  repeat' first
    | with_reducible assumption
    | intro _
    | with_reducible refine setRate_follows ?_ (lor_sub (by decide) hU)
    | with_reducible refine foldS_follows ?_ ?_
    | with_reducible refine wr_follows ?_ (lor_sub (by decide) hU)
    | with_reducible refine wrB_follows ?_ (lor_sub (by decide) hU)
    | with_reducible refine Follows.ite ?_ ?_
    | split
    | (extract_lets +onlyGivenNames x; refine Follows.cut (x := x) ?_ ?_; rotate_left; clear_value x; intro _; rotate_right; subst x)
    | (extract_lets +onlyGivenNames x; clear_value x)
    | with_reducible exact Follows.refl _ _

theorem bucketsEdge_follows {seat : Nat} {U : Nat} {r s : State} (h : Follows U r s) (hU : 2097153 ||| U = U) :
    Follows U r (bucketsEdge seat s) := by
  unfold bucketsEdge
  repeat' first
    | with_reducible assumption
    | intro _
    | with_reducible refine setRate_follows ?_ (lor_sub (by decide) hU)
    | with_reducible refine wr_follows ?_ (lor_sub (by decide) hU)
    | with_reducible refine Follows.ite ?_ ?_
    | split
    | (extract_lets +onlyGivenNames x; refine Follows.cut (x := x) ?_ ?_; rotate_left; clear_value x; intro _; rotate_right; subst x)
    | (extract_lets +onlyGivenNames x; clear_value x)
    | with_reducible exact Follows.refl _ _

theorem rateSettings_follows {seat : Nat} {U : Nat} {r s : State} (h : Follows U r s) (hU : 2097153 ||| U = U) :
    Follows U r (rateSettings seat s) := by
  unfold rateSettings
  repeat' first
    | with_reducible assumption
    | intro _
    | with_reducible refine foldS_follows ?_ ?_
    | with_reducible refine setRate_follows ?_ (lor_sub (by decide) hU)
    | with_reducible refine wr_follows ?_ (lor_sub (by decide) hU)
    | with_reducible refine wrB_follows ?_ (lor_sub (by decide) hU)
    | with_reducible refine foldl_follows ?_ ?_
    | with_reducible refine Follows.ite ?_ ?_
    | split
    | (extract_lets +onlyGivenNames x; refine Follows.cut (x := x) ?_ ?_; rotate_left; clear_value x; intro _; rotate_right; subst x)
    | (extract_lets +onlyGivenNames x; clear_value x)
    | refine Follows.snd (by assumption) ?_
    | refine Follows.fst (by assumption) ?_
    | dsimp only
    | with_reducible exact Follows.refl _ _

theorem rateLatch_follows {seat : Nat} {U : Nat} {r s : State} (h : Follows U r s) (hU : 2097153 ||| U = U) :
    Follows U r (rateLatch seat s) := by
  unfold rateLatch
  repeat' first
    | with_reducible assumption
    | intro _
    | with_reducible refine foldS_follows ?_ ?_
    | with_reducible refine setRate_follows ?_ (lor_sub (by decide) hU)
    | with_reducible refine wr_follows ?_ (lor_sub (by decide) hU)
    | with_reducible refine wrB_follows ?_ (lor_sub (by decide) hU)
    | with_reducible refine bumpN_follows ?_ (lor_sub (by decide) hU)
    | with_reducible refine Follows.ite ?_ ?_
    | split
    | (extract_lets +onlyGivenNames x; refine Follows.cut (x := x) ?_ ?_; rotate_left; clear_value x; intro _; rotate_right; subst x)
    | (extract_lets +onlyGivenNames x; clear_value x)
    | refine Follows.snd (by assumption) ?_
    | refine Follows.fst (by assumption) ?_
    | dsimp only
    | with_reducible exact Follows.refl _ _

end Sys2Proof.Machine
end

