-- ==== Sys2Proof/Laws/FollowsPairOps.lean ====
section
/-!
SUPPORT. Laws/FollowsPairOps.lean: the operations of Machine/PairOps.lean keep what `Follows` states.
-/

namespace Sys2Proof.Machine

open Sys2Proof

theorem setLane_follows {seat : Nat} {l : Lane9} {U : Nat} {r s : State} (h : Follows U r s) (hU : 1048576 ||| U = U) :
    Follows U r (setLane seat l s) := by
  unfold setLane
  repeat' first
    | with_reducible assumption
    | intro _
    | with_reducible exact Follows.set_pair (by assumption) (lor_sub (by decide) hU)
    | (with_reducible refine Follows.set_pair ?_ (lor_sub (by decide) hU); first | with_reducible exact Follows.refl _ _)
    | split
    | (extract_lets +onlyGivenNames x; refine Follows.cut (x := x) ?_ ?_; rotate_left; clear_value x; intro _; rotate_right; subst x)
    | (extract_lets +onlyGivenNames x; clear_value x)
    | with_reducible exact Follows.refl _ _

theorem laneMod_follows {seat : Nat} {f : Lane9 → Lane9} {U : Nat} {r s : State} (h : Follows U r s) (hU : 1048576 ||| U = U) :
    Follows U r (laneMod seat f s) := by
  unfold laneMod
  repeat' first
    | with_reducible assumption
    | intro _
    | with_reducible refine setLane_follows ?_ (lor_sub (by decide) hU)
    | split
    | with_reducible exact Follows.refl _ _

theorem pairEvent_follows {ev : Fld} {bit : Nat} {U : Nat} {r s : State} (h : Follows U r s) (hU : 16777537 ||| U = U) :
    Follows U r (pairEvent ev bit s) := by
  unfold pairEvent
  repeat' first
    | with_reducible assumption
    | intro _
    | with_reducible refine event_follows ?_ (lor_sub (by decide) hU)
    | split
    | with_reducible exact Follows.refl _ _

theorem pairEnqueue_follows {seat cls : Nat} {load : PairLoad} {bytes : Nat} {U : Nat} {r s : State} (h : Follows U r s) (hU : 1048577 ||| U = U) :
    Follows U r (pairEnqueue seat cls load bytes s) := by
  unfold pairEnqueue
  repeat' first
    | with_reducible assumption
    | intro _
    | with_reducible refine bump_follows ?_ (lor_sub (by decide) hU)
    | with_reducible refine laneMod_follows ?_ (lor_sub (by decide) hU)
    | with_reducible refine Follows.ite ?_ ?_
    | split
    | (extract_lets +onlyGivenNames x; refine Follows.cut (x := x) ?_ ?_; rotate_left; clear_value x; intro _; rotate_right; subst x)
    | (extract_lets +onlyGivenNames x; clear_value x)
    | with_reducible exact Follows.refl _ _

theorem pairControl_follows {c : Ctl} {U : Nat} {r s : State} (h : Follows U r s) (hU : 1048577 ||| U = U) :
    Follows U r (pairControl c s) := by
  unfold pairControl
  repeat' first
    | with_reducible assumption
    | intro _
    | with_reducible refine pairEnqueue_follows ?_ (lor_sub (by decide) hU)
    | split
    | with_reducible exact Follows.refl _ _

theorem journalAdd_follows {seat : Nat} {r : Delta} {U : Nat} {r0 s : State} (h : Follows U r0 s) (hU : 1048577 ||| U = U) :
    Follows U r0 (journalAdd seat r s) := by
  unfold journalAdd
  repeat' first
    | with_reducible assumption
    | intro _
    | with_reducible refine laneMod_follows ?_ (lor_sub (by decide) hU)
    | with_reducible refine pairEnqueue_follows ?_ (lor_sub (by decide) hU)
    | with_reducible refine Follows.ite ?_ ?_
    | split
    | (extract_lets +onlyGivenNames x; refine Follows.cut (x := x) ?_ ?_; rotate_left; clear_value x; intro _; rotate_right; subst x)
    | (extract_lets +onlyGivenNames x; clear_value x)
    | with_reducible exact Follows.refl _ _

theorem showRoutes_follows  {U : Nat} {r s : State} (h : Follows U r s) (hU : 1 ||| U = U) :
    Follows U r (showRoutes s) := by
  unfold showRoutes
  repeat' first
    | with_reducible assumption
    | intro _
    | with_reducible refine foldS_follows ?_ ?_
    | with_reducible refine wr_follows ?_ (lor_sub (by decide) hU)
    | with_reducible refine wrB_follows ?_ (lor_sub (by decide) hU)
    | split
    | (extract_lets +onlyGivenNames x; refine Follows.cut (x := x) ?_ ?_; rotate_left; clear_value x; intro _; rotate_right; subst x)
    | (extract_lets +onlyGivenNames x; clear_value x)
    | with_reducible exact Follows.refl _ _

theorem resendAll_follows {seat : Nat} {U : Nat} {r s : State} (h : Follows U r s) (hU : 1048576 ||| U = U) :
    Follows U r (resendAll seat s) := by
  unfold resendAll
  repeat' first
    | with_reducible assumption
    | intro _
    | with_reducible refine laneMod_follows ?_ (lor_sub (by decide) hU)
    | split
    | (extract_lets +onlyGivenNames x; refine Follows.cut (x := x) ?_ ?_; rotate_left; clear_value x; intro _; rotate_right; subst x)
    | (extract_lets +onlyGivenNames x; clear_value x)
    | with_reducible exact Follows.refl _ _

theorem laneFails_follows {seat : Nat} {U : Nat} {r s : State} (h : Follows U r s) (hU : 17826113 ||| U = U) :
    Follows U r (laneFails seat s) := by
  unfold laneFails
  repeat' first
    | with_reducible assumption
    | intro _
    | with_reducible refine wr_follows ?_ (lor_sub (by decide) hU)
    | with_reducible refine laneMod_follows ?_ (lor_sub (by decide) hU)
    | with_reducible refine foldS_follows ?_ ?_
    | with_reducible refine resendAll_follows ?_ (lor_sub (by decide) hU)
    | with_reducible refine showRoutes_follows ?_ (lor_sub (by decide) hU)
    | with_reducible refine pairEvent_follows ?_ (lor_sub (by decide) hU)
    | with_reducible refine Follows.ite ?_ ?_
    | split
    | (extract_lets +onlyGivenNames x; refine Follows.cut (x := x) ?_ ?_; rotate_left; clear_value x; intro _; rotate_right; subst x)
    | (extract_lets +onlyGivenNames x; clear_value x)
    | with_reducible exact Follows.refl _ _

theorem pairFault_follows {seat source : Nat} {U : Nat} {r s : State} (h : Follows U r s) (hU : 17826113 ||| U = U) :
    Follows U r (pairFault seat source s) := by
  unfold pairFault
  repeat' first
    | with_reducible assumption
    | intro _
    | with_reducible refine faultCount_follows ?_ (lor_sub (by decide) hU)
    | with_reducible refine laneFails_follows ?_ (lor_sub (by decide) hU)
    | with_reducible refine faultClear_follows ?_ (lor_sub (by decide) hU)
    | with_reducible refine Follows.ite ?_ ?_
    | split
    | (extract_lets +onlyGivenNames x; refine Follows.cut (x := x) ?_ ?_; rotate_left; clear_value x; intro _; rotate_right; subst x)
    | (extract_lets +onlyGivenNames x; clear_value x)
    | refine Follows.snd (by assumption) ?_
    | refine Follows.fst (by assumption) ?_
    | dsimp only
    | with_reducible exact Follows.refl _ _

theorem pairTo_follows {st : PairSt} {U : Nat} {r s : State} (h : Follows U r s) (hU : 17826113 ||| U = U) :
    Follows U r (pairTo st s) := by
  unfold pairTo
  repeat' first
    | with_reducible assumption
    | intro _
    | with_reducible refine pairEvent_follows ?_ (lor_sub (by decide) hU)
    | with_reducible refine durability_follows ?_ (lor_sub (by decide) hU)
    | with_reducible refine Follows.ite ?_ ?_
    | with_reducible exact Follows.set_pair (by assumption) (lor_sub (by decide) hU)
    | (with_reducible refine Follows.set_pair ?_ (lor_sub (by decide) hU); first | with_reducible refine pairEvent_follows ?_ (lor_sub (by decide) hU) | with_reducible refine durability_follows ?_ (lor_sub (by decide) hU) | with_reducible refine Follows.ite ?_ ?_ | with_reducible exact Follows.refl _ _)
    | split
    | (extract_lets +onlyGivenNames x; refine Follows.cut (x := x) ?_ ?_; rotate_left; clear_value x; intro _; rotate_right; subst x)
    | (extract_lets +onlyGivenNames x; clear_value x)
    | with_reducible exact Follows.refl _ _

end Sys2Proof.Machine
end

