-- ==== Sys2Proof/Laws/FollowsKeyOps.lean ====
section
/-!
SUPPORT. Laws/FollowsKeyOps.lean: the operations of Machine/KeyOps.lean keep what `Follows` states.
-/

namespace Sys2Proof.Machine

open Sys2Proof

theorem domainMod_follows {d : Nat} {f : Domain → Domain} {U : Nat} {r s : State} (h : Follows U r s) (hU : 8388608 ||| U = U) :
    Follows U r (domainMod d f s) := by
  unfold domainMod
  repeat' first
    | with_reducible assumption
    | intro _
    | with_reducible exact Follows.set_keys (by assumption) (lor_sub (by decide) hU)
    | (with_reducible refine Follows.set_keys ?_ (lor_sub (by decide) hU); first | with_reducible exact Follows.refl _ _)
    | split
    | (extract_lets +onlyGivenNames x; refine Follows.cut (x := x) ?_ ?_; rotate_left; clear_value x; intro _; rotate_right; subst x)
    | (extract_lets +onlyGivenNames x; clear_value x)
    | with_reducible exact Follows.refl _ _

theorem keyEvent_follows {ev : Fld} {bit : Nat} {U : Nat} {r s : State} (h : Follows U r s) (hU : 16777537 ||| U = U) :
    Follows U r (keyEvent ev bit s) := by
  unfold keyEvent
  repeat' first
    | with_reducible assumption
    | intro _
    | with_reducible refine event_follows ?_ (lor_sub (by decide) hU)
    | split
    | with_reducible exact Follows.refl _ _

theorem slotTouch_follows {seat k : Nat} {U : Nat} {r s : State} (h : Follows U r s) (hU : 8388608 ||| U = U) :
    Follows U r (slotTouch seat k s) := by
  unfold slotTouch
  repeat' first
    | with_reducible assumption
    | intro _
    | with_reducible exact Follows.set_keys (by assumption) (lor_sub (by decide) hU)
    | (with_reducible refine Follows.set_keys ?_ (lor_sub (by decide) hU); first | with_reducible exact Follows.refl _ _)
    | split
    | (extract_lets +onlyGivenNames x; refine Follows.cut (x := x) ?_ ?_; rotate_left; clear_value x; intro _; rotate_right; subst x)
    | (extract_lets +onlyGivenNames x; clear_value x)
    | with_reducible exact Follows.refl _ _

theorem slotFill_follows {seat k : Nat} {U : Nat} {r s : State} (h : Follows U r s) (hU : 8388608 ||| U = U) :
    Follows U r (slotFill seat k s) := by
  unfold slotFill
  repeat' first
    | with_reducible assumption
    | intro _
    | with_reducible refine Follows.ite ?_ ?_
    | with_reducible exact Follows.set_keys (by assumption) (lor_sub (by decide) hU)
    | (with_reducible refine Follows.set_keys ?_ (lor_sub (by decide) hU); first | with_reducible refine Follows.ite ?_ ?_ | with_reducible exact Follows.refl _ _)
    | split
    | (extract_lets +onlyGivenNames x; refine Follows.cut (x := x) ?_ ?_; rotate_left; clear_value x; intro _; rotate_right; subst x)
    | (extract_lets +onlyGivenNames x; clear_value x)
    | with_reducible exact Follows.refl _ _

theorem slotAsk_follows {seat k : Nat} {U : Nat} {r s : State} (h : Follows U r s) (hU : 8388609 ||| U = U) :
    Follows U r (slotAsk seat k s) := by
  unfold slotAsk
  repeat' first
    | with_reducible assumption
    | intro _
    | with_reducible refine bump_follows ?_ (lor_sub (by decide) hU)
    | with_reducible refine Follows.ite ?_ ?_
    | with_reducible exact Follows.set_keys (by assumption) (lor_sub (by decide) hU)
    | (with_reducible refine Follows.set_keys ?_ (lor_sub (by decide) hU); first | with_reducible refine bump_follows ?_ (lor_sub (by decide) hU) | with_reducible refine Follows.ite ?_ ?_ | with_reducible exact Follows.refl _ _)
    | split
    | (extract_lets +onlyGivenNames x; refine Follows.cut (x := x) ?_ ?_; rotate_left; clear_value x; intro _; rotate_right; subst x)
    | (extract_lets +onlyGivenNames x; clear_value x)
    | with_reducible exact Follows.refl _ _

theorem rollRequest_follows {d : Nat} {U : Nat} {r s : State} (h : Follows U r s) (hU : 26214721 ||| U = U) :
    Follows U r (rollRequest d s).1 := by
  unfold rollRequest
  repeat' first
    | with_reducible assumption
    | intro _
    | with_reducible refine domainMod_follows ?_ (lor_sub (by decide) hU)
    | with_reducible refine bump_follows ?_ (lor_sub (by decide) hU)
    | with_reducible refine keyEvent_follows ?_ (lor_sub (by decide) hU)
    | with_reducible refine when_follows ?_ ?_
    | with_reducible refine pairControl_follows ?_ (lor_sub (by decide) hU)
    | with_reducible refine Follows.ite ?_ ?_
    | split
    | (extract_lets +onlyGivenNames x; refine Follows.cut (x := x) ?_ ?_; rotate_left; clear_value x; intro _; rotate_right; subst x)
    | (extract_lets +onlyGivenNames x; clear_value x)
    | with_reducible exact Follows.refl _ _

theorem rollsDue_follows  {U : Nat} {r s : State} (h : Follows U r s) (hU : 25166145 ||| U = U) :
    Follows U r (rollsDue s) := by
  unfold rollsDue
  repeat' first
    | with_reducible assumption
    | intro _
    | with_reducible refine foldS_follows ?_ ?_
    | with_reducible refine domainMod_follows ?_ (lor_sub (by decide) hU)
    | with_reducible refine bump_follows ?_ (lor_sub (by decide) hU)
    | with_reducible refine keyEvent_follows ?_ (lor_sub (by decide) hU)
    | with_reducible refine Follows.ite ?_ ?_
    | split
    | refine Follows.snd (by assumption) ?_
    | refine Follows.fst (by assumption) ?_
    | dsimp only
    | with_reducible exact Follows.refl _ _

theorem setCtr_follows {k : Nat} {c : Counter} {U : Nat} {r s : State} (h : Follows U r s) (hU : 8388608 ||| U = U) :
    Follows U r (setCtr k c s) := by
  unfold setCtr
  repeat' first
    | with_reducible assumption
    | intro _
    | with_reducible exact Follows.set_keys (by assumption) (lor_sub (by decide) hU)
    | (with_reducible refine Follows.set_keys ?_ (lor_sub (by decide) hU); first | with_reducible exact Follows.refl _ _)
    | split
    | (extract_lets +onlyGivenNames x; refine Follows.cut (x := x) ?_ ?_; rotate_left; clear_value x; intro _; rotate_right; subst x)
    | (extract_lets +onlyGivenNames x; clear_value x)
    | with_reducible exact Follows.refl _ _

theorem reserveStart_follows {k h : Nat} {U : Nat} {r s : State} (hs : Follows U r s) (hU : 8388608 ||| U = U) :
    Follows U r (reserveStart k h s) := by
  unfold reserveStart
  repeat' first
    | with_reducible assumption
    | intro _
    | with_reducible refine setCtr_follows ?_ (lor_sub (by decide) hU)
    | split
    | (extract_lets +onlyGivenNames x; refine Follows.cut (x := x) ?_ ?_; rotate_left; clear_value x; intro _; rotate_right; subst x)
    | (extract_lets +onlyGivenNames x; clear_value x)
    | with_reducible exact Follows.refl _ _

theorem takeCounter_follows {seat d : Nat} {U : Nat} {r s : State} (h : Follows U r s) (hU : 26214721 ||| U = U) :
    Follows U r (takeCounter seat d s).2 := by
  unfold takeCounter
  dsimp only
  repeat' first
    | with_reducible assumption
    | intro _
    | with_reducible refine setCtr_follows ?_ (lor_sub (by decide) hU)
    | with_reducible refine reserveStart_follows ?_ (lor_sub (by decide) hU)
    | with_reducible refine rollRequest_follows ?_ (lor_sub (by decide) hU)
    | with_reducible refine Follows.ite ?_ ?_
    | split
    | refine Follows.snd (by assumption) ?_
    | refine Follows.fst (by assumption) ?_
    | dsimp only
    | with_reducible exact Follows.refl _ _

theorem reserveDone_follows {seat d g : Nat} {U : Nat} {r s : State} (h : Follows U r s) (hU : 8388609 ||| U = U) :
    Follows U r (reserveDone seat d g s) := by
  unfold reserveDone
  repeat' first
    | with_reducible assumption
    | intro _
    | with_reducible refine ancWrote_follows ?_ (lor_sub (by decide) hU)
    | with_reducible refine bump_follows ?_ (lor_sub (by decide) hU)
    | with_reducible refine wr_follows ?_ (lor_sub (by decide) hU)
    | with_reducible exact Follows.set_keys (by assumption) (lor_sub (by decide) hU)
    | (with_reducible refine Follows.set_keys ?_ (lor_sub (by decide) hU); first | with_reducible refine ancWrote_follows ?_ (lor_sub (by decide) hU) | with_reducible refine bump_follows ?_ (lor_sub (by decide) hU) | with_reducible refine wr_follows ?_ (lor_sub (by decide) hU) | with_reducible exact Follows.refl _ _)
    | split
    | (extract_lets +onlyGivenNames x; refine Follows.cut (x := x) ?_ ?_; rotate_left; clear_value x; intro _; rotate_right; subst x)
    | (extract_lets +onlyGivenNames x; clear_value x)
    | refine Follows.snd (by assumption) ?_
    | refine Follows.fst (by assumption) ?_
    | dsimp only
    | with_reducible exact Follows.refl _ _

theorem countersResume_follows  {U : Nat} {r s : State} (h : Follows U r s) (hU : 8388608 ||| U = U) :
    Follows U r (countersResume s) := by
  unfold countersResume
  repeat' first
    | with_reducible assumption
    | intro _
    | with_reducible refine foldS_follows ?_ ?_
    | with_reducible refine reserveStart_follows ?_ (lor_sub (by decide) hU)
    | with_reducible exact Follows.set_keys (by assumption) (lor_sub (by decide) hU)
    | (with_reducible refine Follows.set_keys ?_ (lor_sub (by decide) hU); first | with_reducible refine foldS_follows ?_ ?_ | with_reducible refine reserveStart_follows ?_ (lor_sub (by decide) hU) | with_reducible exact Follows.refl _ _)
    | split
    | (extract_lets +onlyGivenNames x; refine Follows.cut (x := x) ?_ ?_; rotate_left; clear_value x; intro _; rotate_right; subst x)
    | (extract_lets +onlyGivenNames x; clear_value x)
    | refine Follows.snd (by assumption) ?_
    | refine Follows.fst (by assumption) ?_
    | dsimp only
    | with_reducible exact Follows.refl _ _

end Sys2Proof.Machine
end

