-- ==== Sys2Proof/Laws/FollowsBladeOps.lean ====
section
/-!
SUPPORT. Laws/FollowsBladeOps.lean: the operations of Machine/BladeOps.lean keep what `Follows` states.
-/

namespace Sys2Proof.Machine

open Sys2Proof

theorem portMod_follows {slot : Nat} {f : OarPort → OarPort} {U : Nat} {r s : State} (h : Follows U r s) (hU : 524288 ||| U = U) :
    Follows U r (portMod slot f s) := by
  unfold portMod
  repeat' first
    | with_reducible assumption
    | intro _
    | with_reducible exact Follows.set_bld (by assumption) (lor_sub (by decide) hU)
    | (with_reducible refine Follows.set_bld ?_ (lor_sub (by decide) hU); first | with_reducible exact Follows.refl _ _)
    | split
    | (extract_lets +onlyGivenNames x; refine Follows.cut (x := x) ?_ ?_; rotate_left; clear_value x; intro _; rotate_right; subst x)
    | (extract_lets +onlyGivenNames x; clear_value x)
    | with_reducible exact Follows.refl _ _

theorem slotMod_follows {slot : Nat} {f : Slot → Slot} {U : Nat} {r s : State} (h : Follows U r s) (hU : 524288 ||| U = U) :
    Follows U r (slotMod slot f s) := by
  unfold slotMod
  repeat' first
    | with_reducible assumption
    | intro _
    | with_reducible exact Follows.set_bld (by assumption) (lor_sub (by decide) hU)
    | (with_reducible refine Follows.set_bld ?_ (lor_sub (by decide) hU); first | with_reducible exact Follows.refl _ _)
    | split
    | (extract_lets +onlyGivenNames x; refine Follows.cut (x := x) ?_ ?_; rotate_left; clear_value x; intro _; rotate_right; subst x)
    | (extract_lets +onlyGivenNames x; clear_value x)
    | with_reducible exact Follows.refl _ _

theorem slotEvent_follows {ev en : Fld} {slot : Nat} {U : Nat} {r s : State} (h : Follows U r s) (hU : 16777537 ||| U = U) :
    Follows U r (slotEvent ev en slot s) := by
  unfold slotEvent
  repeat' first
    | with_reducible assumption
    | intro _
    | with_reducible refine setEvent_follows ?_ (lor_sub (by decide) hU)
    | split
    | with_reducible exact Follows.refl _ _

theorem setLinkUp_follows {slot : Nat} {up : Bool} {U : Nat} {r s : State} (h : Follows U r s) (hU : 16777537 ||| U = U) :
    Follows U r (setLinkUp slot up s) := by
  unfold setLinkUp
  repeat' first
    | with_reducible assumption
    | intro _
    | with_reducible refine wrB_follows ?_ (lor_sub (by decide) hU)
    | with_reducible refine slotEvent_follows ?_ (lor_sub (by decide) hU)
    | with_reducible refine Follows.ite ?_ ?_
    | split
    | with_reducible exact Follows.refl _ _

theorem setPwren_follows {slot : Nat} {on : Bool} {U : Nat} {r s : State} (h : Follows U r s) (hU : 17301505 ||| U = U) :
    Follows U r (setPwren slot on s) := by
  unfold setPwren
  repeat' first
    | with_reducible assumption
    | intro _
    | with_reducible refine wrB_follows ?_ (lor_sub (by decide) hU)
    | with_reducible refine emit_follows ?_ (lor_sub (by decide) hU)
    | with_reducible refine when_follows ?_ ?_
    | with_reducible refine slotMod_follows ?_ (lor_sub (by decide) hU)
    | with_reducible refine Follows.ite ?_ ?_
    | split
    | (extract_lets +onlyGivenNames x; refine Follows.cut (x := x) ?_ ?_; rotate_left; clear_value x; intro _; rotate_right; subst x)
    | (extract_lets +onlyGivenNames x; clear_value x)
    | with_reducible exact Follows.refl _ _

theorem oarFlushN_follows {slot n : Nat} {U : Nat} {r s : State} (h : Follows U r s) (hU : 17301505 ||| U = U) : Follows U r (oarFlushN slot n s) := by
  induction n generalizing s with
  | zero => exact h
  | succ n ih =>
    unfold oarFlushN
    dsimp only
    repeat' first
      | with_reducible assumption
      | with_reducible refine ih ?_
      | intro _
      | with_reducible refine when_follows ?_ ?_
      | with_reducible refine emit_follows ?_ (lor_sub (by decide) hU)
      | with_reducible refine lower_follows ?_ (lor_sub (by decide) hU)
      | with_reducible refine bumpN_follows ?_ (lor_sub (by decide) hU)
      | with_reducible refine portMod_follows ?_ (lor_sub (by decide) hU)
      | with_reducible refine Follows.ite ?_ ?_
      | split

theorem oarFlush_follows {slot : Nat} {U : Nat} {r s : State} (h : Follows U r s) (hU : 17301505 ||| U = U) :
    Follows U r (oarFlush slot s) := by
  unfold oarFlush
  repeat' first
    | with_reducible assumption
    | intro _
    | with_reducible refine oarFlushN_follows ?_ (lor_sub (by decide) hU)
    | split
    | refine Follows.snd (by assumption) ?_
    | refine Follows.fst (by assumption) ?_
    | dsimp only
    | with_reducible exact Follows.refl _ _

theorem oarPut_follows {slot chan : Nat} {payload : List Nat} {U : Nat} {r s : State} (h : Follows U r s) (hU : 17301505 ||| U = U) :
    Follows U r (oarPut slot chan payload s) := by
  unfold oarPut
  repeat' first
    | with_reducible assumption
    | intro _
    | with_reducible refine portMod_follows ?_ (lor_sub (by decide) hU)
    | with_reducible refine oarFlush_follows ?_ (lor_sub (by decide) hU)
    | split
    | (extract_lets +onlyGivenNames x; refine Follows.cut (x := x) ?_ ?_; rotate_left; clear_value x; intro _; rotate_right; subst x)
    | (extract_lets +onlyGivenNames x; clear_value x)
    | with_reducible exact Follows.refl _ _

theorem oarAcked_follows {slot ack : Nat} {U : Nat} {r s : State} (h : Follows U r s) (hU : 17301505 ||| U = U) :
    Follows U r (oarAcked slot ack s) := by
  unfold oarAcked
  repeat' first
    | with_reducible assumption
    | intro _
    | with_reducible refine portMod_follows ?_ (lor_sub (by decide) hU)
    | with_reducible refine oarFlush_follows ?_ (lor_sub (by decide) hU)
    | with_reducible refine Follows.ite ?_ ?_
    | split
    | (extract_lets +onlyGivenNames x; refine Follows.cut (x := x) ?_ ?_; rotate_left; clear_value x; intro _; rotate_right; subst x)
    | (extract_lets +onlyGivenNames x; clear_value x)
    | with_reducible exact Follows.refl _ _

theorem oarCredits_follows {slot : Nat} {c : List Nat} {U : Nat} {r s : State} (h : Follows U r s) (hU : 17301505 ||| U = U) :
    Follows U r (oarCredits slot c s) := by
  unfold oarCredits
  repeat' first
    | with_reducible assumption
    | intro _
    | with_reducible refine bumpN_follows ?_ (lor_sub (by decide) hU)
    | with_reducible refine oarFlush_follows ?_ (lor_sub (by decide) hU)
    | split
    | with_reducible exact Follows.refl _ _

theorem oarReplay_follows {slot after : Nat} {U : Nat} {r s : State} (h : Follows U r s) (hU : 17301505 ||| U = U) :
    Follows U r (oarReplay slot after s) := by
  unfold oarReplay
  repeat' first
    | with_reducible assumption
    | intro _
    | with_reducible refine foldS_follows ?_ ?_
    | with_reducible refine emit_follows ?_ (lor_sub (by decide) hU)
    | with_reducible refine portMod_follows ?_ (lor_sub (by decide) hU)
    | with_reducible refine bumpN_follows ?_ (lor_sub (by decide) hU)
    | split
    | (extract_lets +onlyGivenNames x; refine Follows.cut (x := x) ?_ ?_; rotate_left; clear_value x; intro _; rotate_right; subst x)
    | (extract_lets +onlyGivenNames x; clear_value x)
    | with_reducible exact Follows.refl _ _

theorem dieMod_follows {slot die : Nat} {f : Die → Die} {U : Nat} {r s : State} (h : Follows U r s) (hU : 524288 ||| U = U) :
    Follows U r (dieMod slot die f s) := by
  unfold dieMod
  repeat' first
    | with_reducible assumption
    | intro _
    | with_reducible refine portMod_follows ?_ (lor_sub (by decide) hU)
    | split
    | (extract_lets +onlyGivenNames x; refine Follows.cut (x := x) ?_ ?_; rotate_left; clear_value x; intro _; rotate_right; subst x)
    | (extract_lets +onlyGivenNames x; clear_value x)
    | with_reducible exact Follows.refl _ _

theorem nandOwns_follows {slot : Nat} {U : Nat} {r s : State} (h : Follows U r s) (hU : 1048576 ||| U = U) :
    Follows U r (nandOwns slot s).2 := by
  unfold nandOwns
  repeat' first
    | with_reducible assumption
    | intro _
    | with_reducible refine ownStart_follows ?_ (lor_sub (by decide) hU)
    | with_reducible refine foldl_follows ?_ ?_
    | split
    | (extract_lets +onlyGivenNames x; refine Follows.cut (x := x) ?_ ?_; rotate_left; clear_value x; intro _; rotate_right; subst x)
    | (extract_lets +onlyGivenNames x; clear_value x)
    | refine Follows.snd (by assumption) ?_
    | refine Follows.fst (by assumption) ?_
    | dsimp only
    | with_reducible exact Follows.refl _ _
    | with_reducible refine foldl_snd_follows ?_ ?_

theorem nandOwnsEnd_follows {c : NandCmd} {U : Nat} {r s : State} (h : Follows U r s) (hU : 1048576 ||| U = U) :
    Follows U r (nandOwnsEnd c s) := by
  unfold nandOwnsEnd
  repeat' first
    | with_reducible assumption
    | intro _
    | with_reducible refine foldS_follows ?_ ?_
    | with_reducible refine ownEnd_follows ?_ (lor_sub (by decide) hU)
    | split
    | refine Follows.snd (by assumption) ?_
    | refine Follows.fst (by assumption) ?_
    | dsimp only
    | with_reducible exact Follows.refl _ _

theorem nandSend_follows {slot : Nat} {c : NandCmd} {U : Nat} {r s : State} (h : Follows U r s) (hU : 18350081 ||| U = U) :
    Follows U r (nandSend slot c s) := by
  unfold nandSend
  repeat' first
    | with_reducible assumption
    | intro _
    | with_reducible refine nandOwns_follows ?_ (lor_sub (by decide) hU)
    | with_reducible refine portMod_follows ?_ (lor_sub (by decide) hU)
    | with_reducible refine oarPut_follows ?_ (lor_sub (by decide) hU)
    | with_reducible refine foldS_follows ?_ ?_
    | with_reducible refine Follows.ite ?_ ?_
    | split
    | (extract_lets +onlyGivenNames x; refine Follows.cut (x := x) ?_ ?_; rotate_left; clear_value x; intro _; rotate_right; subst x)
    | (extract_lets +onlyGivenNames x; clear_value x)
    | refine Follows.snd (by assumption) ?_
    | refine Follows.fst (by assumption) ?_
    | dsimp only
    | with_reducible exact Follows.refl _ _

theorem diePump_follows {slot die n : Nat} {U : Nat} {r s : State} (h : Follows U r s) (hU : 18350081 ||| U = U) : Follows U r (diePump slot die n s) := by
  induction n generalizing s with
  | zero => exact h
  | succ n ih =>
    unfold diePump
    repeat' first
      | with_reducible assumption
      | with_reducible refine ih ?_
      | with_reducible refine nandSend_follows ?_ (lor_sub (by decide) hU)
      | with_reducible refine dieMod_follows ?_ (lor_sub (by decide) hU)
      | with_reducible refine Follows.ite ?_ ?_
      | split

theorem nandIssue_follows {slot : Nat} {c : NandCmd} {U : Nat} {r s : State} (h : Follows U r s) (hU : 18350081 ||| U = U) :
    Follows U r (nandIssue slot c s) := by
  unfold nandIssue
  repeat' first
    | with_reducible assumption
    | intro _
    | with_reducible refine dieMod_follows ?_ (lor_sub (by decide) hU)
    | with_reducible refine diePump_follows ?_ (lor_sub (by decide) hU)
    | split
    | (extract_lets +onlyGivenNames x; refine Follows.cut (x := x) ?_ ?_; rotate_left; clear_value x; intro _; rotate_right; subst x)
    | (extract_lets +onlyGivenNames x; clear_value x)
    | refine Follows.snd (by assumption) ?_
    | refine Follows.fst (by assumption) ?_
    | dsimp only
    | with_reducible exact Follows.refl _ _

theorem portPump_follows {slot : Nat} {U : Nat} {r s : State} (h : Follows U r s) (hU : 18350081 ||| U = U) :
    Follows U r (portPump slot s) := by
  unfold portPump
  repeat' first
    | with_reducible assumption
    | intro _
    | with_reducible refine foldS_follows ?_ ?_
    | with_reducible refine diePump_follows ?_ (lor_sub (by decide) hU)
    | split
    | refine Follows.snd (by assumption) ?_
    | refine Follows.fst (by assumption) ?_
    | dsimp only
    | with_reducible exact Follows.refl _ _

theorem setLevel_follows {slot die block lvl : Nat} {U : Nat} {r s : State} (h : Follows U r s) (hU : 524288 ||| U = U) :
    Follows U r (setLevel slot die block lvl s) := by
  unfold setLevel
  repeat' first
    | with_reducible assumption
    | intro _
    | with_reducible refine slotMod_follows ?_ (lor_sub (by decide) hU)
    | with_reducible refine Follows.ite ?_ ?_
    | split
    | (extract_lets +onlyGivenNames x; refine Follows.cut (x := x) ?_ ?_; rotate_left; clear_value x; intro _; rotate_right; subst x)
    | (extract_lets +onlyGivenNames x; clear_value x)
    | with_reducible exact Follows.refl _ _

theorem fenceRaise_follows {slot owner epoch : Nat} {U : Nat} {r s : State} (h : Follows U r s) (hU : 17301505 ||| U = U) :
    Follows U r (fenceRaise slot owner epoch s) := by
  unfold fenceRaise
  repeat' first
    | with_reducible assumption
    | intro _
    | with_reducible refine slotMod_follows ?_ (lor_sub (by decide) hU)
    | with_reducible refine ancWrote_follows ?_ (lor_sub (by decide) hU)
    | with_reducible refine oarPut_follows ?_ (lor_sub (by decide) hU)
    | split
    | (extract_lets +onlyGivenNames x; refine Follows.cut (x := x) ?_ ?_; rotate_left; clear_value x; intro _; rotate_right; subst x)
    | (extract_lets +onlyGivenNames x; clear_value x)
    | with_reducible exact Follows.refl _ _

theorem oarRetrainBase_follows {slot : Nat} {U : Nat} {r s : State} (h : Follows U r s) (hU : 17301825 ||| U = U) :
    Follows U r (oarRetrainBase slot s) := by
  unfold oarRetrainBase
  repeat' first
    | with_reducible assumption
    | intro _
    | with_reducible refine wr_follows ?_ (lor_sub (by decide) hU)
    | with_reducible refine setLinkUp_follows ?_ (lor_sub (by decide) hU)
    | with_reducible refine portMod_follows ?_ (lor_sub (by decide) hU)
    | with_reducible refine bump_follows ?_ (lor_sub (by decide) hU)
    | with_reducible refine Follows.ite ?_ ?_
    | split
    | (extract_lets +onlyGivenNames x; refine Follows.cut (x := x) ?_ ?_; rotate_left; clear_value x; intro _; rotate_right; subst x)
    | (extract_lets +onlyGivenNames x; clear_value x)
    | with_reducible exact Follows.refl _ _

end Sys2Proof.Machine
end

