-- ==== Sys2Proof/Laws/FollowsMapOps.lean ====
section
/-!
SUPPORT. Laws/FollowsMapOps.lean: the operations of Machine/MapOps.lean keep what `Follows` states.
-/

namespace Sys2Proof.Machine

open Sys2Proof

theorem mapFault_follows {seat : Nat} {detail : List Nat} {U : Nat} {r s : State} (h : Follows U r s) (hU : 16777537 ||| U = U) :
    Follows U r (mapFault seat detail s) := by
  unfold mapFault
  repeat' first
    | with_reducible assumption
    | intro _
    | with_reducible refine bump_follows ?_ (lor_sub (by decide) hU)
    | with_reducible refine faultNote_follows ?_ (lor_sub (by decide) hU)
    | split
    | with_reducible exact Follows.refl _ _

theorem setRec_follows {k : Nat} {r : Rec} {U : Nat} {r0 s : State} (h : Follows U r0 s) (hU : 65536 ||| U = U) :
    Follows U r0 (setRec k r s) := by
  unfold setRec
  repeat' first
    | with_reducible assumption
    | intro _
    | with_reducible exact Follows.set_map (by assumption) (lor_sub (by decide) hU)
    | (with_reducible refine Follows.set_map ?_ (lor_sub (by decide) hU); first | with_reducible exact Follows.refl _ _)
    | split
    | (extract_lets +onlyGivenNames x; refine Follows.cut (x := x) ?_ ?_; rotate_left; clear_value x; intro _; rotate_right; subst x)
    | (extract_lets +onlyGivenNames x; clear_value x)
    | with_reducible exact Follows.refl _ _

theorem freeRec_follows {k : Nat} {U : Nat} {r s : State} (h : Follows U r s) (hU : 65536 ||| U = U) :
    Follows U r (freeRec k s) := by
  unfold freeRec
  repeat' first
    | with_reducible assumption
    | intro _
    | with_reducible exact Follows.set_map (by assumption) (lor_sub (by decide) hU)
    | (with_reducible refine Follows.set_map ?_ (lor_sub (by decide) hU); first | with_reducible exact Follows.refl _ _)
    | split
    | (extract_lets +onlyGivenNames x; refine Follows.cut (x := x) ?_ ?_; rotate_left; clear_value x; intro _; rotate_right; subst x)
    | (extract_lets +onlyGivenNames x; clear_value x)
    | with_reducible exact Follows.refl _ _

theorem freeIdle_follows {k : Nat} {U : Nat} {r s : State} (h : Follows U r s) (hU : 65536 ||| U = U) :
    Follows U r (freeIdle k s) := by
  unfold freeIdle
  repeat' first
    | with_reducible assumption
    | intro _
    | with_reducible refine freeRec_follows ?_ (lor_sub (by decide) hU)
    | with_reducible refine Follows.ite ?_ ?_
    | split
    | with_reducible exact Follows.refl _ _

theorem incRef_follows {k : Nat} {U : Nat} {r s : State} (h : Follows U r s) (hU : 65536 ||| U = U) :
    Follows U r (incRef k s).1 := by
  unfold incRef
  repeat' first
    | with_reducible assumption
    | intro _
    | with_reducible refine setRec_follows ?_ (lor_sub (by decide) hU)
    | with_reducible refine Follows.ite ?_ ?_
    | split
    | (extract_lets +onlyGivenNames x; refine Follows.cut (x := x) ?_ ?_; rotate_left; clear_value x; intro _; rotate_right; subst x)
    | (extract_lets +onlyGivenNames x; clear_value x)
    | with_reducible exact Follows.refl _ _

theorem decRef_follows {k : Nat} {U : Nat} {r s : State} (h : Follows U r s) (hU : 65536 ||| U = U) :
    Follows U r (decRef k s) := by
  unfold decRef
  repeat' first
    | with_reducible assumption
    | intro _
    | with_reducible refine setRec_follows ?_ (lor_sub (by decide) hU)
    | with_reducible refine freeIdle_follows ?_ (lor_sub (by decide) hU)
    | with_reducible refine Follows.ite ?_ ?_
    | split
    | (extract_lets +onlyGivenNames x; refine Follows.cut (x := x) ?_ ?_; rotate_left; clear_value x; intro _; rotate_right; subst x)
    | (extract_lets +onlyGivenNames x; clear_value x)
    | with_reducible exact Follows.refl _ _

theorem holdRec_follows {k : Nat} {U : Nat} {r s : State} (h : Follows U r s) (hU : 65536 ||| U = U) :
    Follows U r (holdRec k s) := by
  unfold holdRec
  repeat' first
    | with_reducible assumption
    | intro _
    | with_reducible refine setRec_follows ?_ (lor_sub (by decide) hU)
    | split
    | (extract_lets +onlyGivenNames x; refine Follows.cut (x := x) ?_ ?_; rotate_left; clear_value x; intro _; rotate_right; subst x)
    | (extract_lets +onlyGivenNames x; clear_value x)
    | with_reducible exact Follows.refl _ _

theorem releaseHold_follows {k : Nat} {U : Nat} {r s : State} (h : Follows U r s) (hU : 65536 ||| U = U) :
    Follows U r (releaseHold k s) := by
  unfold releaseHold
  repeat' first
    | with_reducible assumption
    | intro _
    | with_reducible refine setRec_follows ?_ (lor_sub (by decide) hU)
    | with_reducible refine freeIdle_follows ?_ (lor_sub (by decide) hU)
    | split
    | (extract_lets +onlyGivenNames x; refine Follows.cut (x := x) ?_ ?_; rotate_left; clear_value x; intro _; rotate_right; subst x)
    | (extract_lets +onlyGivenNames x; clear_value x)
    | with_reducible exact Follows.refl _ _

theorem entRelease_follows {tenant : Nat} {e : MapEnt} {U : Nat} {r s : State} (h : Follows U r s) (hU : 65536 ||| U = U) :
    Follows U r (entRelease tenant e s) := by
  unfold entRelease
  repeat' first
    | with_reducible assumption
    | intro _
    | with_reducible refine decRef_follows ?_ (lor_sub (by decide) hU)
    | with_reducible refine Follows.ite ?_ ?_
    | split
    | with_reducible exact Follows.refl _ _

theorem allocRec_follows {tenant side seat : Nat} {U : Nat} {r s : State} (h : Follows U r s) (hU : 65536 ||| U = U) :
    Follows U r (allocRec tenant side seat s).2 := by
  unfold allocRec
  repeat' first
    | with_reducible assumption
    | intro _
    | with_reducible refine Follows.ite ?_ ?_
    | with_reducible exact Follows.set_map (by assumption) (lor_sub (by decide) hU)
    | (with_reducible refine Follows.set_map ?_ (lor_sub (by decide) hU); first | with_reducible refine Follows.ite ?_ ?_ | with_reducible exact Follows.refl _ _)
    | split
    | (extract_lets +onlyGivenNames x; refine Follows.cut (x := x) ?_ ?_; rotate_left; clear_value x; intro _; rotate_right; subst x)
    | (extract_lets +onlyGivenNames x; clear_value x)
    | with_reducible exact Follows.refl _ _

theorem frameTake_follows {seat k : Nat} {U : Nat} {r s : State} (h : Follows U r s) (hU : 65536 ||| U = U) :
    Follows U r (frameTake seat k s) := by
  unfold frameTake
  repeat' first
    | with_reducible assumption
    | intro _
    | with_reducible exact Follows.set_map (by assumption) (lor_sub (by decide) hU)
    | (with_reducible refine Follows.set_map ?_ (lor_sub (by decide) hU); first | with_reducible exact Follows.refl _ _)
    | split
    | (extract_lets +onlyGivenNames x; refine Follows.cut (x := x) ?_ ?_; rotate_left; clear_value x; intro _; rotate_right; subst x)
    | (extract_lets +onlyGivenNames x; clear_value x)
    | with_reducible exact Follows.refl _ _

theorem setTc_follows {seat : Nat} {t : Tc} {U : Nat} {r s : State} (h : Follows U r s) (hU : 65536 ||| U = U) :
    Follows U r (setTc seat t s) := by
  unfold setTc
  repeat' first
    | with_reducible assumption
    | intro _
    | with_reducible exact Follows.set_map (by assumption) (lor_sub (by decide) hU)
    | (with_reducible refine Follows.set_map ?_ (lor_sub (by decide) hU); first | with_reducible exact Follows.refl _ _)
    | split
    | (extract_lets +onlyGivenNames x; refine Follows.cut (x := x) ?_ ?_; rotate_left; clear_value x; intro _; rotate_right; subst x)
    | (extract_lets +onlyGivenNames x; clear_value x)
    | with_reducible exact Follows.refl _ _

theorem tcInsert_follows {seat line : Nat} {U : Nat} {r s : State} (h : Follows U r s) (hU : 65537 ||| U = U) :
    Follows U r (tcInsert seat line s) := by
  unfold tcInsert
  repeat' first
    | with_reducible assumption
    | intro _
    | with_reducible refine setTc_follows ?_ (lor_sub (by decide) hU)
    | with_reducible refine bump_follows ?_ (lor_sub (by decide) hU)
    | with_reducible refine Follows.ite ?_ ?_
    | split
    | (extract_lets +onlyGivenNames x; refine Follows.cut (x := x) ?_ ?_; rotate_left; clear_value x; intro _; rotate_right; subst x)
    | (extract_lets +onlyGivenNames x; clear_value x)
    | with_reducible exact Follows.refl _ _

theorem tcDropFrame_follows {seat f : Nat} {U : Nat} {r s : State} (h : Follows U r s) (hU : 65536 ||| U = U) :
    Follows U r (tcDropFrame seat f s) := by
  unfold tcDropFrame
  repeat' first
    | with_reducible assumption
    | intro _
    | with_reducible refine setTc_follows ?_ (lor_sub (by decide) hU)
    | with_reducible refine Follows.ite ?_ ?_
    | split
    | (extract_lets +onlyGivenNames x; refine Follows.cut (x := x) ?_ ?_; rotate_left; clear_value x; intro _; rotate_right; subst x)
    | (extract_lets +onlyGivenNames x; clear_value x)
    | refine Follows.snd (by assumption) ?_
    | refine Follows.fst (by assumption) ?_
    | dsimp only
    | with_reducible exact Follows.refl _ _

theorem tcLookup_follows {seat line cmd idx : Nat} {U : Nat} {r s : State} (h : Follows U r s) (hU : 65537 ||| U = U) :
    Follows U r (tcLookup seat line cmd idx s).1 := by
  unfold tcLookup
  repeat' first
    | with_reducible assumption
    | intro _
    | with_reducible refine bump_follows ?_ (lor_sub (by decide) hU)
    | with_reducible refine setTc_follows ?_ (lor_sub (by decide) hU)
    | with_reducible refine Follows.ite ?_ ?_
    | split
    | (extract_lets +onlyGivenNames x; refine Follows.cut (x := x) ?_ ?_; rotate_left; clear_value x; intro _; rotate_right; subst x)
    | (extract_lets +onlyGivenNames x; clear_value x)
    | with_reducible exact Follows.refl _ _

theorem tcWrite_follows {seat : Nat} {line : Option Nat} {U : Nat} {r s : State} (h : Follows U r s) (hU : 65537 ||| U = U) :
    Follows U r (tcWrite seat line s) := by
  unfold tcWrite
  repeat' first
    | with_reducible assumption
    | intro _
    | with_reducible refine bump_follows ?_ (lor_sub (by decide) hU)
    | with_reducible refine when_follows ?_ ?_
    | with_reducible refine setTc_follows ?_ (lor_sub (by decide) hU)
    | with_reducible refine Follows.ite ?_ ?_
    | split
    | (extract_lets +onlyGivenNames x; refine Follows.cut (x := x) ?_ ?_; rotate_left; clear_value x; intro _; rotate_right; subst x)
    | (extract_lets +onlyGivenNames x; clear_value x)
    | refine Follows.snd (by assumption) ?_
    | refine Follows.fst (by assumption) ?_
    | dsimp only
    | with_reducible exact Follows.refl _ _

theorem zeroLines_follows {seat k : Nat} {U : Nat} {r s : State} (h : Follows U r s) (hU : 65537 ||| U = U) :
    Follows U r (zeroLines seat k s) := by
  unfold zeroLines
  repeat' first
    | with_reducible assumption
    | intro _
    | with_reducible refine foldS_follows ?_ ?_
    | with_reducible refine tcInsert_follows ?_ (lor_sub (by decide) hU)
    | with_reducible refine bump_follows ?_ (lor_sub (by decide) hU)
    | split
    | with_reducible exact Follows.refl _ _

theorem pageCreate_follows {k : Nat} {U : Nat} {r s : State} (h : Follows U r s) (hU : 65537 ||| U = U) :
    Follows U r (pageCreate k s) := by
  unfold pageCreate
  repeat' first
    | with_reducible assumption
    | intro _
    | with_reducible refine frameTake_follows ?_ (lor_sub (by decide) hU)
    | with_reducible refine zeroLines_follows ?_ (lor_sub (by decide) hU)
    | with_reducible exact Follows.set_map (by assumption) (lor_sub (by decide) hU)
    | (with_reducible refine Follows.set_map ?_ (lor_sub (by decide) hU); first | with_reducible refine frameTake_follows ?_ (lor_sub (by decide) hU) | with_reducible refine zeroLines_follows ?_ (lor_sub (by decide) hU) | with_reducible exact Follows.refl _ _)
    | split
    | (extract_lets +onlyGivenNames x; refine Follows.cut (x := x) ?_ ?_; rotate_left; clear_value x; intro _; rotate_right; subst x)
    | (extract_lets +onlyGivenNames x; clear_value x)
    | with_reducible exact Follows.refl _ _

theorem recPage_follows {tenant handle : Nat} {U : Nat} {r s : State} (h : Follows U r s) (hU : 65537 ||| U = U) :
    Follows U r (recPage tenant handle s) := by
  unfold recPage
  repeat' first
    | with_reducible assumption
    | intro _
    | with_reducible refine pageCreate_follows ?_ (lor_sub (by decide) hU)
    | with_reducible refine Follows.ite ?_ ?_
    | split
    | with_reducible exact Follows.refl _ _

theorem recWrite_follows {k : Nat} {U : Nat} {r s : State} (h : Follows U r s) (hU : 65537 ||| U = U) :
    Follows U r (recWrite k s) := by
  unfold recWrite
  repeat' first
    | with_reducible assumption
    | intro _
    | with_reducible refine tcWrite_follows ?_ (lor_sub (by decide) hU)
    | with_reducible exact Follows.set_map (by assumption) (lor_sub (by decide) hU)
    | (with_reducible refine Follows.set_map ?_ (lor_sub (by decide) hU); first | with_reducible refine tcWrite_follows ?_ (lor_sub (by decide) hU) | with_reducible exact Follows.refl _ _)
    | split
    | (extract_lets +onlyGivenNames x; refine Follows.cut (x := x) ?_ ?_; rotate_left; clear_value x; intro _; rotate_right; subst x)
    | (extract_lets +onlyGivenNames x; clear_value x)
    | with_reducible exact Follows.refl _ _

theorem refreshShared_follows {page : Nat} {U : Nat} {r s : State} (h : Follows U r s) (hU : 65536 ||| U = U) :
    Follows U r (refreshShared page s) := by
  unfold refreshShared
  repeat' first
    | with_reducible assumption
    | intro _
    | with_reducible refine Follows.ite ?_ ?_
    | with_reducible exact Follows.set_map (by assumption) (lor_sub (by decide) hU)
    | (with_reducible refine Follows.set_map ?_ (lor_sub (by decide) hU); first | with_reducible refine Follows.ite ?_ ?_ | with_reducible exact Follows.refl _ _)
    | split
    | (extract_lets +onlyGivenNames x; refine Follows.cut (x := x) ?_ ?_; rotate_left; clear_value x; intro _; rotate_right; subst x)
    | (extract_lets +onlyGivenNames x; clear_value x)
    | with_reducible exact Follows.refl _ _

theorem pageCow_follows {k : Nat} {U : Nat} {r s : State} (h : Follows U r s) (hU : 65537 ||| U = U) : Follows U r (pageCow k s) := by
  unfold pageCow
  split
  · exact h
  · next d _ =>
    dsimp only
    split
    · exact h
    · refine bump_follows (refreshShared_follows (foldS_follows (Follows.set_map (foldl_fst_follows h fun b a hb => ?_) (lor_sub (by decide) hU)) fun _ _ h => tcWrite_follows h (lor_sub (by decide) hU)) (lor_sub (by decide) hU)) (lor_sub (by decide) hU)
      split
      · exact when_follows (incRef_follows hb (lor_sub (by decide) hU)) fun _ h => recWrite_follows h (lor_sub (by decide) hU)
      · exact hb

theorem pageClose_follows {seat : Nat} {h : PageHead} {U : Nat} {r s : State} (hs : Follows U r s) (hU : 65536 ||| U = U) :
    Follows U r (pageClose seat h s) := by
  unfold pageClose
  repeat' first
    | with_reducible assumption
    | intro _
    | with_reducible exact Follows.set_map (by assumption) (lor_sub (by decide) hU)
    | (with_reducible refine Follows.set_map ?_ (lor_sub (by decide) hU); first | with_reducible exact Follows.refl _ _)
    | split
    | (extract_lets +onlyGivenNames x; refine Follows.cut (x := x) ?_ ?_; rotate_left; clear_value x; intro _; rotate_right; subst x)
    | (extract_lets +onlyGivenNames x; clear_value x)
    | with_reducible exact Follows.refl _ _

theorem headsDone_follows {seat : Nat} {p : PageHead → Bool} {U : Nat} {r s : State} (h : Follows U r s) (hU : 65536 ||| U = U) :
    Follows U r (headsDone seat p s) := by
  unfold headsDone
  repeat' first
    | with_reducible assumption
    | intro _
    | with_reducible refine Follows.ite ?_ ?_
    | with_reducible exact Follows.set_map (by assumption) (lor_sub (by decide) hU)
    | (with_reducible refine Follows.set_map ?_ (lor_sub (by decide) hU); first | with_reducible refine Follows.ite ?_ ?_ | with_reducible exact Follows.refl _ _)
    | split
    | (extract_lets +onlyGivenNames x; refine Follows.cut (x := x) ?_ ?_; rotate_left; clear_value x; intro _; rotate_right; subst x)
    | (extract_lets +onlyGivenNames x; clear_value x)
    | with_reducible exact Follows.refl _ _

theorem segsSet_follows {zk off : Nat} {z : Zone} {U : Nat} {r s : State} (h : Follows U r s) (hU : 65537 ||| U = U) :
    Follows U r (segsSet zk off z s) := by
  unfold segsSet
  repeat' first
    | with_reducible assumption
    | intro _
    | with_reducible refine pageCreate_follows ?_ (lor_sub (by decide) hU)
    | with_reducible refine tcWrite_follows ?_ (lor_sub (by decide) hU)
    | with_reducible refine Follows.ite ?_ ?_
    | with_reducible exact Follows.set_map (by assumption) (lor_sub (by decide) hU)
    | (with_reducible refine Follows.set_map ?_ (lor_sub (by decide) hU); first | with_reducible refine pageCreate_follows ?_ (lor_sub (by decide) hU) | with_reducible refine tcWrite_follows ?_ (lor_sub (by decide) hU) | with_reducible refine Follows.ite ?_ ?_ | with_reducible exact Follows.refl _ _)
    | split
    | (extract_lets +onlyGivenNames x; refine Follows.cut (x := x) ?_ ?_; rotate_left; clear_value x; intro _; rotate_right; subst x)
    | (extract_lets +onlyGivenNames x; clear_value x)
    | refine Follows.snd (by assumption) ?_
    | refine Follows.fst (by assumption) ?_
    | dsimp only
    | with_reducible exact Follows.refl _ _

theorem dirtyAdd_follows {seat n : Nat} {U : Nat} {r s : State} (h : Follows U r s) (hU : 32768 ||| U = U) :
    Follows U r (dirtyAdd seat n s) := by
  unfold dirtyAdd
  repeat' first
    | with_reducible assumption
    | intro _
    | with_reducible exact Follows.set_ing (by assumption) (lor_sub (by decide) hU)
    | (with_reducible refine Follows.set_ing ?_ (lor_sub (by decide) hU); first | with_reducible exact Follows.refl _ _)
    | split
    | (extract_lets +onlyGivenNames x; refine Follows.cut (x := x) ?_ ?_; rotate_left; clear_value x; intro _; rotate_right; subst x)
    | (extract_lets +onlyGivenNames x; clear_value x)
    | with_reducible exact Follows.refl _ _

theorem dirtySub_follows {seat n : Nat} {U : Nat} {r s : State} (h : Follows U r s) (hU : 32768 ||| U = U) :
    Follows U r (dirtySub seat n s) := by
  unfold dirtySub
  repeat' first
    | with_reducible assumption
    | intro _
    | with_reducible exact Follows.set_ing (by assumption) (lor_sub (by decide) hU)
    | (with_reducible refine Follows.set_ing ?_ (lor_sub (by decide) hU); first | with_reducible exact Follows.refl _ _)
    | split
    | (extract_lets +onlyGivenNames x; refine Follows.cut (x := x) ?_ ?_; rotate_left; clear_value x; intro _; rotate_right; subst x)
    | (extract_lets +onlyGivenNames x; clear_value x)
    | with_reducible exact Follows.refl _ _

theorem dlogClose_follows {seat : Nat} {U : Nat} {r s : State} (h : Follows U r s) (hU : 65537 ||| U = U) :
    Follows U r (dlogClose seat s) := by
  unfold dlogClose
  repeat' first
    | with_reducible assumption
    | intro _
    | with_reducible refine pageClose_follows ?_ (lor_sub (by decide) hU)
    | with_reducible refine wr_follows ?_ (lor_sub (by decide) hU)
    | with_reducible refine Follows.ite ?_ ?_
    | with_reducible exact Follows.set_map (by assumption) (lor_sub (by decide) hU)
    | (with_reducible refine Follows.set_map ?_ (lor_sub (by decide) hU); first | with_reducible refine pageClose_follows ?_ (lor_sub (by decide) hU) | with_reducible refine wr_follows ?_ (lor_sub (by decide) hU) | with_reducible refine Follows.ite ?_ ?_ | with_reducible exact Follows.refl _ _)
    | split
    | (extract_lets +onlyGivenNames x; refine Follows.cut (x := x) ?_ ?_; rotate_left; clear_value x; intro _; rotate_right; subst x)
    | (extract_lets +onlyGivenNames x; clear_value x)
    | with_reducible exact Follows.refl _ _

theorem dlogAdd_follows {seat : Nat} {d : Delta} {U : Nat} {r s : State} (h : Follows U r s) (hU : 98305 ||| U = U) :
    Follows U r (dlogAdd seat d s) := by
  unfold dlogAdd
  repeat' first
    | with_reducible assumption
    | intro _
    | with_reducible refine dlogClose_follows ?_ (lor_sub (by decide) hU)
    | with_reducible refine dirtyAdd_follows ?_ (lor_sub (by decide) hU)
    | with_reducible refine when_follows ?_ ?_
    | with_reducible refine Follows.ite ?_ ?_
    | with_reducible exact Follows.set_map (by assumption) (lor_sub (by decide) hU)
    | (with_reducible refine Follows.set_map ?_ (lor_sub (by decide) hU); first | with_reducible refine dlogClose_follows ?_ (lor_sub (by decide) hU) | with_reducible refine dirtyAdd_follows ?_ (lor_sub (by decide) hU) | with_reducible refine when_follows ?_ ?_ | with_reducible refine Follows.ite ?_ ?_ | with_reducible exact Follows.refl _ _)
    | split
    | (extract_lets +onlyGivenNames x; refine Follows.cut (x := x) ?_ ?_; rotate_left; clear_value x; intro _; rotate_right; subst x)
    | (extract_lets +onlyGivenNames x; clear_value x)
    | with_reducible exact Follows.refl _ _

theorem commitEntWith_follows {owner lba : Nat} {f : MapEnt → MapEnt} {gives : Bool} {U : Nat} {r s : State} (h : Follows U r s) (hU : 65537 ||| U = U) :
    Follows U r (commitEntWith owner lba f gives s) := by
  unfold commitEntWith
  dsimp only
  repeat' first
    | with_reducible assumption
    | intro _
    | with_reducible refine pageCreate_follows ?_ (lor_sub (by decide) hU)
    | with_reducible refine pageCow_follows ?_ (lor_sub (by decide) hU)
    | with_reducible refine frameTake_follows ?_ (lor_sub (by decide) hU)
    | with_reducible refine tcWrite_follows ?_ (lor_sub (by decide) hU)
    | with_reducible refine when_follows ?_ ?_
    | with_reducible refine entRelease_follows ?_ (lor_sub (by decide) hU)
    | with_reducible refine recWrite_follows ?_ (lor_sub (by decide) hU)
    | with_reducible refine Follows.ite ?_ ?_
    | with_reducible exact Follows.set_map (by assumption) (lor_sub (by decide) hU)
    | (with_reducible refine Follows.set_map ?_ (lor_sub (by decide) hU); first | with_reducible refine pageCreate_follows ?_ (lor_sub (by decide) hU) | with_reducible refine pageCow_follows ?_ (lor_sub (by decide) hU) | with_reducible refine frameTake_follows ?_ (lor_sub (by decide) hU) | with_reducible refine tcWrite_follows ?_ (lor_sub (by decide) hU) | with_reducible refine when_follows ?_ ?_ | with_reducible refine entRelease_follows ?_ (lor_sub (by decide) hU) | with_reducible refine recWrite_follows ?_ (lor_sub (by decide) hU) | with_reducible refine Follows.ite ?_ ?_ | with_reducible exact Follows.refl _ _)
    | split
    | with_reducible exact Follows.refl _ _

theorem commitEnt_follows {owner lba : Nat} {new : MapEnt} {U : Nat} {r s : State} (h : Follows U r s) (hU : 65537 ||| U = U) :
    Follows U r (commitEnt owner lba new s) := by
  unfold commitEnt
  repeat' first
    | with_reducible assumption
    | intro _
    | with_reducible refine commitEntWith_follows ?_ (lor_sub (by decide) hU)
    | split
    | with_reducible exact Follows.refl _ _

theorem commitDealloc_follows {owner lba : Nat} {U : Nat} {r s : State} (h : Follows U r s) (hU : 65537 ||| U = U) :
    Follows U r (commitDealloc owner lba s) := by
  unfold commitDealloc
  repeat' first
    | with_reducible assumption
    | intro _
    | with_reducible refine commitEntWith_follows ?_ (lor_sub (by decide) hU)
    | with_reducible refine Follows.ite ?_ ?_
    | with_reducible exact Follows.set_map (by assumption) (lor_sub (by decide) hU)
    | (with_reducible refine Follows.set_map ?_ (lor_sub (by decide) hU); first | with_reducible refine commitEntWith_follows ?_ (lor_sub (by decide) hU) | with_reducible refine Follows.ite ?_ ?_ | with_reducible exact Follows.refl _ _)
    | split
    | (extract_lets +onlyGivenNames x; refine Follows.cut (x := x) ?_ ?_; rotate_left; clear_value x; intro _; rotate_right; subst x)
    | (extract_lets +onlyGivenNames x; clear_value x)
    | with_reducible exact Follows.refl _ _

theorem commitDelta_follows {owner tenant : Nat} {d : Delta} {U : Nat} {r s : State} (h : Follows U r s) (hU : 98305 ||| U = U) :
    Follows U r (commitDelta owner tenant d s) := by
  unfold commitDelta
  repeat' first
    | with_reducible assumption
    | intro _
    | with_reducible refine recPage_follows ?_ (lor_sub (by decide) hU)
    | with_reducible refine setRec_follows ?_ (lor_sub (by decide) hU)
    | with_reducible refine recWrite_follows ?_ (lor_sub (by decide) hU)
    | with_reducible refine commitEnt_follows ?_ (lor_sub (by decide) hU)
    | with_reducible refine dlogAdd_follows ?_ (lor_sub (by decide) hU)
    | with_reducible refine incRef_follows ?_ (lor_sub (by decide) hU)
    | with_reducible refine releaseHold_follows ?_ (lor_sub (by decide) hU)
    | with_reducible refine foldS_follows ?_ ?_
    | with_reducible refine commitDealloc_follows ?_ (lor_sub (by decide) hU)
    | split
    | (extract_lets +onlyGivenNames x; refine Follows.cut (x := x) ?_ ?_; rotate_left; clear_value x; intro _; rotate_right; subst x)
    | (extract_lets +onlyGivenNames x; clear_value x)
    | refine Follows.snd (by assumption) ?_
    | refine Follows.fst (by assumption) ?_
    | dsimp only
    | with_reducible exact Follows.refl _ _

end Sys2Proof.Machine
end

