-- ==== Sys2Proof/Laws/FollowsParOps.lean ====
section
/-!
SUPPORT. Laws/FollowsParOps.lean: the operations of Machine/ParOps.lean keep what `Follows` states.
-/

namespace Sys2Proof.Machine

open Sys2Proof

theorem groupMod_follows {pool : Nat} {f : Group → Group} {U : Nat} {r s : State} (h : Follows U r s) (hU : 262144 ||| U = U) :
    Follows U r (groupMod pool f s) := by
  unfold groupMod
  repeat' first
    | with_reducible assumption
    | intro _
    | with_reducible exact Follows.set_par (by assumption) (lor_sub (by decide) hU)
    | (with_reducible refine Follows.set_par ?_ (lor_sub (by decide) hU); first | with_reducible exact Follows.refl _ _)
    | split
    | (extract_lets +onlyGivenNames x; refine Follows.cut (x := x) ?_ ?_; rotate_left; clear_value x; intro _; rotate_right; subst x)
    | (extract_lets +onlyGivenNames x; clear_value x)
    | with_reducible exact Follows.refl _ _

theorem memberKeel_follows {pool row m seat cls bytes : Nat} {out : Bool} {U : Nat} {r s : State} (h : Follows U r s) (hU : 16 ||| U = U) :
    Follows U r (memberKeel pool row m seat cls bytes out s) := by
  unfold memberKeel
  repeat' first
    | with_reducible assumption
    | intro _
    | with_reducible refine keelSend_follows ?_ (lor_sub (by decide) hU)
    | with_reducible refine Follows.ite ?_ ?_
    | split
    | with_reducible exact Follows.refl _ _

theorem moveExtAs_follows {gen : Option Nat} {old new : Nat} {e : Ext} {U : Nat} {r s : State} (h : Follows U r s) (hU : 360449 ||| U = U) :
    Follows U r (moveExtAs gen old new e s) := by
  unfold moveExtAs
  repeat' first
    | with_reducible assumption
    | intro _
    | with_reducible refine segsSet_follows ?_ (lor_sub (by decide) hU)
    | with_reducible refine setRec_follows ?_ (lor_sub (by decide) hU)
    | with_reducible refine recWrite_follows ?_ (lor_sub (by decide) hU)
    | with_reducible refine dlogAdd_follows ?_ (lor_sub (by decide) hU)
    | with_reducible refine rowMod_follows ?_ (lor_sub (by decide) hU)
    | with_reducible refine bump_follows ?_ (lor_sub (by decide) hU)
    | with_reducible refine Follows.ite ?_ ?_
    | with_reducible exact Follows.set_ing (by assumption) (lor_sub (by decide) hU)
    | (with_reducible refine Follows.set_ing ?_ (lor_sub (by decide) hU); first | with_reducible refine segsSet_follows ?_ (lor_sub (by decide) hU) | with_reducible refine setRec_follows ?_ (lor_sub (by decide) hU) | with_reducible refine recWrite_follows ?_ (lor_sub (by decide) hU) | with_reducible refine dlogAdd_follows ?_ (lor_sub (by decide) hU) | with_reducible refine rowMod_follows ?_ (lor_sub (by decide) hU) | with_reducible refine bump_follows ?_ (lor_sub (by decide) hU) | with_reducible refine Follows.ite ?_ ?_ | with_reducible exact Follows.refl _ _)
    | split
    | (extract_lets +onlyGivenNames x; refine Follows.cut (x := x) ?_ ?_; rotate_left; clear_value x; intro _; rotate_right; subst x)
    | (extract_lets +onlyGivenNames x; clear_value x)
    | with_reducible exact Follows.refl _ _

theorem moveExt_follows {old new : Nat} {e : Ext} {U : Nat} {r s : State} (h : Follows U r s) (hU : 360449 ||| U = U) :
    Follows U r (moveExt old new e s) := by
  unfold moveExt
  repeat' first
    | with_reducible assumption
    | intro _
    | with_reducible refine moveExtAs_follows ?_ (lor_sub (by decide) hU)
    | split
    | with_reducible exact Follows.refl _ _

theorem rowHead_follows {pool row m : Nat} {U : Nat} {r s : State} (h : Follows U r s) (hU : 65536 ||| U = U) :
    Follows U r (rowHead pool row m s) := by
  unfold rowHead
  repeat' first
    | with_reducible assumption
    | intro _
    | with_reducible refine pageClose_follows ?_ (lor_sub (by decide) hU)
    | with_reducible refine foldl_follows ?_ ?_
    | with_reducible refine Follows.ite ?_ ?_
    | split
    | (extract_lets +onlyGivenNames x; refine Follows.cut (x := x) ?_ ?_; rotate_left; clear_value x; intro _; rotate_right; subst x)
    | (extract_lets +onlyGivenNames x; clear_value x)
    | with_reducible exact Follows.refl _ _

theorem pageProgram_follows {pool row m : Nat} {use : NandUse} {U : Nat} {r s : State} (h : Follows U r s) (hU : 18415633 ||| U = U) :
    Follows U r (pageProgram pool row m use s) := by
  unfold pageProgram
  repeat' first
    | with_reducible assumption
    | intro _
    | with_reducible refine rowHead_follows ?_ (lor_sub (by decide) hU)
    | with_reducible refine keelSend_follows ?_ (lor_sub (by decide) hU)
    | with_reducible refine nandIssue_follows ?_ (lor_sub (by decide) hU)
    | split
    | (extract_lets +onlyGivenNames x; refine Follows.cut (x := x) ?_ ?_; rotate_left; clear_value x; intro _; rotate_right; subst x)
    | (extract_lets +onlyGivenNames x; clear_value x)
    | with_reducible exact Follows.refl _ _

theorem rowSend_follows {pool row : Nat} {U : Nat} {r s : State} (h : Follows U r s) (hU : 18419729 ||| U = U) :
    Follows U r (rowSend pool row s) := by
  unfold rowSend
  repeat' first
    | with_reducible assumption
    | intro _
    | with_reducible refine foldS_follows ?_ ?_
    | with_reducible refine pageProgram_follows ?_ (lor_sub (by decide) hU)
    | with_reducible refine Follows.ite ?_ ?_
    | with_reducible exact Follows.set_upd (by assumption) (lor_sub (by decide) hU)
    | (with_reducible refine Follows.set_upd ?_ (lor_sub (by decide) hU); first | with_reducible refine foldS_follows ?_ ?_ | with_reducible refine pageProgram_follows ?_ (lor_sub (by decide) hU) | with_reducible refine Follows.ite ?_ ?_ | with_reducible exact Follows.refl _ _)
    | split
    | (extract_lets +onlyGivenNames x; refine Follows.cut (x := x) ?_ ?_; rotate_left; clear_value x; intro _; rotate_right; subst x)
    | (extract_lets +onlyGivenNames x; clear_value x)
    | with_reducible exact Follows.refl _ _

theorem inverseUse_follows {seat : Nat} {key : List Nat} {U : Nat} {r s : State} (h : Follows U r s) (hU : 262145 ||| U = U) :
    Follows U r (inverseUse seat key s) := by
  unfold inverseUse
  repeat' first
    | with_reducible assumption
    | intro _
    | with_reducible refine bump_follows ?_ (lor_sub (by decide) hU)
    | with_reducible refine Follows.ite ?_ ?_
    | with_reducible exact Follows.set_par (by assumption) (lor_sub (by decide) hU)
    | (with_reducible refine Follows.set_par ?_ (lor_sub (by decide) hU); first | with_reducible refine bump_follows ?_ (lor_sub (by decide) hU) | with_reducible refine Follows.ite ?_ ?_ | with_reducible exact Follows.refl _ _)
    | split
    | (extract_lets +onlyGivenNames x; refine Follows.cut (x := x) ?_ ?_; rotate_left; clear_value x; intro _; rotate_right; subst x)
    | (extract_lets +onlyGivenNames x; clear_value x)
    | with_reducible exact Follows.refl _ _

theorem rowDecode_follows {pool : Nat} {g : Group} {row : Nat} {ms : List Nat} {seat : Nat} {U : Nat} {r s : State} (h : Follows U r s) (hU : 262161 ||| U = U) :
    Follows U r (rowDecode pool g row ms seat s) := by
  unfold rowDecode
  repeat' first
    | with_reducible assumption
    | intro _
    | with_reducible refine foldS_follows ?_ ?_
    | with_reducible refine memberKeel_follows ?_ (lor_sub (by decide) hU)
    | with_reducible refine inverseUse_follows ?_ (lor_sub (by decide) hU)
    | with_reducible refine bumpN_follows ?_ (lor_sub (by decide) hU)
    | split
    | (extract_lets +onlyGivenNames x; refine Follows.cut (x := x) ?_ ?_; rotate_left; clear_value x; intro _; rotate_right; subst x)
    | (extract_lets +onlyGivenNames x; clear_value x)
    | with_reducible exact Follows.refl _ _

theorem rowLost_follows {pool row : Nat} {members : List Nat} {U : Nat} {r s : State} (h : Follows U r s) (hU : 17039617 ||| U = U) :
    Follows U r (rowLost pool row members s) := by
  unfold rowLost
  repeat' first
    | with_reducible assumption
    | intro _
    | with_reducible refine groupMod_follows ?_ (lor_sub (by decide) hU)
    | with_reducible refine rowMod_follows ?_ (lor_sub (by decide) hU)
    | with_reducible refine coxRaise_follows ?_ (lor_sub (by decide) hU)
    | with_reducible refine Follows.ite ?_ ?_
    | split
    | (extract_lets +onlyGivenNames x; refine Follows.cut (x := x) ?_ ?_; rotate_left; clear_value x; intro _; rotate_right; subst x)
    | (extract_lets +onlyGivenNames x; clear_value x)
    | with_reducible exact Follows.refl _ _

theorem rowLossCheck_follows {pool row : Nat} {U : Nat} {r s : State} (h : Follows U r s) (hU : 17039617 ||| U = U) :
    Follows U r (rowLossCheck pool row s) := by
  unfold rowLossCheck
  repeat' first
    | with_reducible assumption
    | intro _
    | with_reducible refine rowLost_follows ?_ (lor_sub (by decide) hU)
    | with_reducible refine Follows.ite ?_ ?_
    | split
    | (extract_lets +onlyGivenNames x; refine Follows.cut (x := x) ?_ ?_; rotate_left; clear_value x; intro _; rotate_right; subst x)
    | (extract_lets +onlyGivenNames x; clear_value x)
    | with_reducible exact Follows.refl _ _

theorem tagMismatch_follows {pool : Nat} {g : Group} {e : Ext} {U : Nat} {r s : State} (h : Follows U r s) (hU : 17039617 ||| U = U) :
    Follows U r (tagMismatch pool g e s).2 := by
  unfold tagMismatch
  dsimp only
  repeat' first
    | with_reducible assumption
    | intro _
    | with_reducible refine bump_follows ?_ (lor_sub (by decide) hU)
    | with_reducible refine rowLost_follows ?_ (lor_sub (by decide) hU)
    | with_reducible refine Follows.ite ?_ ?_
    | split
    | with_reducible exact Follows.refl _ _

theorem rowProgrammed_follows {pool row : Nat} {U : Nat} {r s : State} (h : Follows U r s) (hU : 17137921 ||| U = U) :
    Follows U r (rowProgrammed pool row s) := by
  unfold rowProgrammed
  repeat' first
    | with_reducible assumption
    | intro _
    | with_reducible refine rowMod_follows ?_ (lor_sub (by decide) hU)
    | with_reducible refine when_follows ?_ ?_
    | with_reducible refine dirtySub_follows ?_ (lor_sub (by decide) hU)
    | with_reducible refine rowLossCheck_follows ?_ (lor_sub (by decide) hU)
    | with_reducible refine Follows.ite ?_ ?_
    | with_reducible exact Follows.set_map (by assumption) (lor_sub (by decide) hU)
    | (with_reducible refine Follows.set_map ?_ (lor_sub (by decide) hU); first | with_reducible refine rowMod_follows ?_ (lor_sub (by decide) hU) | with_reducible refine when_follows ?_ ?_ | with_reducible refine dirtySub_follows ?_ (lor_sub (by decide) hU) | with_reducible refine rowLossCheck_follows ?_ (lor_sub (by decide) hU) | with_reducible refine Follows.ite ?_ ?_ | with_reducible exact Follows.refl _ _)
    | split
    | (extract_lets +onlyGivenNames x; refine Follows.cut (x := x) ?_ ?_; rotate_left; clear_value x; intro _; rotate_right; subst x)
    | (extract_lets +onlyGivenNames x; clear_value x)
    | with_reducible exact Follows.refl _ _

theorem memberDone_follows {pool row m : Nat} {U : Nat} {r s : State} (h : Follows U r s) (hU : 17137921 ||| U = U) :
    Follows U r (memberDone pool row m s) := by
  unfold memberDone
  repeat' first
    | with_reducible assumption
    | intro _
    | with_reducible refine rowMod_follows ?_ (lor_sub (by decide) hU)
    | with_reducible refine rowProgrammed_follows ?_ (lor_sub (by decide) hU)
    | split
    | (extract_lets +onlyGivenNames x; refine Follows.cut (x := x) ?_ ?_; rotate_left; clear_value x; intro _; rotate_right; subst x)
    | (extract_lets +onlyGivenNames x; clear_value x)
    | with_reducible exact Follows.refl _ _

theorem memberOnFlash_follows {pool row m : Nat} {U : Nat} {r s : State} (h : Follows U r s) (hU : 17137921 ||| U = U) :
    Follows U r (memberOnFlash pool row m s) := by
  unfold memberOnFlash
  repeat' first
    | with_reducible assumption
    | intro _
    | with_reducible refine memberDone_follows ?_ (lor_sub (by decide) hU)
    | with_reducible refine Follows.ite ?_ ?_
    | with_reducible exact Follows.set_map (by assumption) (lor_sub (by decide) hU)
    | (with_reducible refine Follows.set_map ?_ (lor_sub (by decide) hU); first | with_reducible refine memberDone_follows ?_ (lor_sub (by decide) hU) | with_reducible refine Follows.ite ?_ ?_ | with_reducible exact Follows.refl _ _)
    | split
    | (extract_lets +onlyGivenNames x; refine Follows.cut (x := x) ?_ ?_; rotate_left; clear_value x; intro _; rotate_right; subst x)
    | (extract_lets +onlyGivenNames x; clear_value x)
    | with_reducible exact Follows.refl _ _

theorem zonePageLog_follows {pool row sym : Nat} {U : Nat} {r s : State} (h : Follows U r s) (hU : 98305 ||| U = U) :
    Follows U r (zonePageLog pool row sym s) := by
  unfold zonePageLog
  repeat' first
    | with_reducible assumption
    | intro _
    | with_reducible refine dlogAdd_follows ?_ (lor_sub (by decide) hU)
    | split
    | refine Follows.snd (by assumption) ?_
    | refine Follows.fst (by assumption) ?_
    | dsimp only
    | with_reducible exact Follows.refl _ _

theorem rowClose_follows {pool row : Nat} {early : Bool} {U : Nat} {r s : State} (h : Follows U r s) (hU : 18714897 ||| U = U) :
    Follows U r (rowClose pool row early s) := by
  unfold rowClose
  repeat' first
    | with_reducible assumption
    | intro _
    | with_reducible refine zonePageLog_follows ?_ (lor_sub (by decide) hU)
    | with_reducible refine rowMod_follows ?_ (lor_sub (by decide) hU)
    | with_reducible refine when_follows ?_ ?_
    | with_reducible refine bump_follows ?_ (lor_sub (by decide) hU)
    | with_reducible refine dirtyAdd_follows ?_ (lor_sub (by decide) hU)
    | with_reducible refine bumpN_follows ?_ (lor_sub (by decide) hU)
    | with_reducible refine rowSend_follows ?_ (lor_sub (by decide) hU)
    | with_reducible refine rowProgrammed_follows ?_ (lor_sub (by decide) hU)
    | with_reducible refine Follows.ite ?_ ?_
    | split
    | (extract_lets +onlyGivenNames x; refine Follows.cut (x := x) ?_ ?_; rotate_left; clear_value x; intro _; rotate_right; subst x)
    | (extract_lets +onlyGivenNames x; clear_value x)
    | with_reducible exact Follows.refl _ _

theorem redundancy_follows  {U : Nat} {r s : State} (h : Follows U r s) (hU : 16777537 ||| U = U) :
    Follows U r (redundancy s) := by
  unfold redundancy
  repeat' first
    | with_reducible assumption
    | intro _
    | with_reducible refine durability_follows ?_ (lor_sub (by decide) hU)
    | split
    | refine Follows.snd (by assumption) ?_
    | refine Follows.fst (by assumption) ?_
    | dsimp only
    | with_reducible exact Follows.refl _ _

theorem rowOpen_follows {pool seat stream : Nat} {host native : Bool} {U : Nat} {r s : State} (h : Follows U r s) (hU : 18714961 ||| U = U) :
    Follows U r (rowOpen pool seat stream host native s).2 := by
  unfold rowOpen
  dsimp only
  repeat' first
    | with_reducible assumption
    | intro _
    | with_reducible refine foldS_follows ?_ ?_
    | with_reducible refine rowClose_follows ?_ (lor_sub (by decide) hU)
    | with_reducible refine when_follows ?_ ?_
    | with_reducible refine bump_follows ?_ (lor_sub (by decide) hU)
    | with_reducible refine dlogAdd_follows ?_ (lor_sub (by decide) hU)
    | with_reducible refine redundancy_follows ?_ (lor_sub (by decide) hU)
    | with_reducible refine Follows.ite ?_ ?_
    | with_reducible exact Follows.set_par (by assumption) (lor_sub (by decide) hU)
    | (with_reducible refine Follows.set_par ?_ (lor_sub (by decide) hU); first | with_reducible refine foldS_follows ?_ ?_ | with_reducible refine rowClose_follows ?_ (lor_sub (by decide) hU) | with_reducible refine when_follows ?_ ?_ | with_reducible refine bump_follows ?_ (lor_sub (by decide) hU) | with_reducible refine dlogAdd_follows ?_ (lor_sub (by decide) hU) | with_reducible refine redundancy_follows ?_ (lor_sub (by decide) hU) | with_reducible refine Follows.ite ?_ ?_ | with_reducible exact Follows.refl _ _)
    | split
    | with_reducible exact Follows.refl _ _

theorem extPlace_follows {pool row sym off : Nat} {e : Ext} {U : Nat} {r s : State} (h : Follows U r s) (hU : 18714897 ||| U = U) :
    Follows U r (extPlace pool row sym off e s).2 := by
  unfold extPlace
  repeat' first
    | with_reducible assumption
    | intro _
    | with_reducible refine zonePageLog_follows ?_ (lor_sub (by decide) hU)
    | with_reducible refine rowMod_follows ?_ (lor_sub (by decide) hU)
    | with_reducible refine dirtyAdd_follows ?_ (lor_sub (by decide) hU)
    | with_reducible refine rowClose_follows ?_ (lor_sub (by decide) hU)
    | with_reducible refine Follows.ite ?_ ?_
    | with_reducible exact Follows.set_ing_par (by assumption) (lor_sub (by decide) hU)
    | (with_reducible refine Follows.set_ing_par ?_ (lor_sub (by decide) hU); first | with_reducible refine zonePageLog_follows ?_ (lor_sub (by decide) hU) | with_reducible refine rowMod_follows ?_ (lor_sub (by decide) hU) | with_reducible refine dirtyAdd_follows ?_ (lor_sub (by decide) hU) | with_reducible refine rowClose_follows ?_ (lor_sub (by decide) hU) | with_reducible refine Follows.ite ?_ ?_ | with_reducible exact Follows.refl _ _)
    | split
    | (extract_lets +onlyGivenNames x; refine Follows.cut (x := x) ?_ ?_; rotate_left; clear_value x; intro _; rotate_right; subst x)
    | (extract_lets +onlyGivenNames x; clear_value x)
    | refine Follows.snd (by assumption) ?_
    | refine Follows.fst (by assumption) ?_
    | dsimp only
    | with_reducible exact Follows.refl _ _

theorem extAppend_follows {pool seat stream : Nat} {host native : Bool} {e : Ext} {U : Nat} {r s : State} (h : Follows U r s) (hU : 18714961 ||| U = U) :
    Follows U r (extAppend pool seat stream host native e s).2 := by
  unfold extAppend
  dsimp only
  repeat' first
    | with_reducible assumption
    | intro _
    | with_reducible refine rowOpen_follows ?_ (lor_sub (by decide) hU)
    | with_reducible refine extPlace_follows ?_ (lor_sub (by decide) hU)
    | with_reducible refine rowClose_follows ?_ (lor_sub (by decide) hU)
    | with_reducible refine Follows.ite ?_ ?_
    | split
    | refine Follows.snd (by assumption) ?_
    | refine Follows.fst (by assumption) ?_
    | dsimp only
    | with_reducible exact Follows.refl _ _

theorem extFetch_follows {pool : Nat} {g : Group} {r : Row} {e : Ext} {U : Nat} {r0 s : State} (h : Follows U r0 s) (hU : 262161 ||| U = U) :
    Follows U r0 (extFetch pool g r e s) := by
  unfold extFetch
  repeat' first
    | with_reducible assumption
    | intro _
    | with_reducible refine memberKeel_follows ?_ (lor_sub (by decide) hU)
    | with_reducible refine rowDecode_follows ?_ (lor_sub (by decide) hU)
    | with_reducible refine Follows.ite ?_ ?_
    | split
    | (extract_lets +onlyGivenNames x; refine Follows.cut (x := x) ?_ ?_; rotate_left; clear_value x; intro _; rotate_right; subst x)
    | (extract_lets +onlyGivenNames x; clear_value x)
    | with_reducible exact Follows.refl _ _

theorem extMove_follows {pool a : Nat} {U : Nat} {r s : State} (h : Follows U r s) (hU : 18714961 ||| U = U) :
    Follows U r (extMove pool a s).2 := by
  unfold extMove
  repeat' first
    | with_reducible assumption
    | intro _
    | with_reducible refine extAppend_follows ?_ (lor_sub (by decide) hU)
    | with_reducible refine extFetch_follows ?_ (lor_sub (by decide) hU)
    | with_reducible refine moveExt_follows ?_ (lor_sub (by decide) hU)
    | with_reducible refine groupMod_follows ?_ (lor_sub (by decide) hU)
    | with_reducible refine Follows.ite ?_ ?_
    | split
    | (extract_lets +onlyGivenNames x; refine Follows.cut (x := x) ?_ ?_; rotate_left; clear_value x; intro _; rotate_right; subst x)
    | (extract_lets +onlyGivenNames x; clear_value x)
    | refine Follows.snd (by assumption) ?_
    | refine Follows.fst (by assumption) ?_
    | dsimp only
    | with_reducible exact Follows.refl _ _

theorem rowRewrite_follows {pool row : Nat} {U : Nat} {r s : State} (h : Follows U r s) (hU : 18714961 ||| U = U) :
    Follows U r (rowRewrite pool row s) := by
  unfold rowRewrite
  dsimp only
  repeat' first
    | with_reducible assumption
    | intro _
    | with_reducible refine extMove_follows ?_ (lor_sub (by decide) hU)
    | with_reducible refine rowMod_follows ?_ (lor_sub (by decide) hU)
    | with_reducible refine when_follows ?_ ?_
    | with_reducible refine dirtySub_follows ?_ (lor_sub (by decide) hU)
    | with_reducible refine foldl_follows ?_ ?_
    | with_reducible refine Follows.ite ?_ ?_
    | split
    | refine Follows.snd (by assumption) ?_
    | refine Follows.fst (by assumption) ?_
    | dsimp only
    | with_reducible exact Follows.refl _ _
    | with_reducible refine foldl_fst_follows ?_ ?_
    | with_reducible refine foldl_snd_follows ?_ ?_

theorem rewritesRetry_follows {pool : Nat} {U : Nat} {r s : State} (h : Follows U r s) (hU : 18714961 ||| U = U) :
    Follows U r (rewritesRetry pool s) := by
  unfold rewritesRetry
  repeat' first
    | with_reducible assumption
    | intro _
    | with_reducible refine foldS_follows ?_ ?_
    | with_reducible refine rowRewrite_follows ?_ (lor_sub (by decide) hU)
    | split
    | refine Follows.snd (by assumption) ?_
    | refine Follows.fst (by assumption) ?_
    | dsimp only
    | with_reducible exact Follows.refl _ _

theorem blockRetireOn_follows {pool band m : Nat} {sh : Share} {pages : FMap Row} {U : Nat} {r s : State} (h : Follows U r s) (hU : 18612225 ||| U = U) :
    Follows U r (blockRetireOn pool band m sh pages s) := by
  unfold blockRetireOn
  repeat' first
    | with_reducible assumption
    | intro _
    | with_reducible refine groupMod_follows ?_ (lor_sub (by decide) hU)
    | with_reducible refine foldS_follows ?_ ?_
    | with_reducible refine nandIssue_follows ?_ (lor_sub (by decide) hU)
    | with_reducible refine foldl_follows ?_ ?_
    | with_reducible refine Follows.ite ?_ ?_
    | split
    | (extract_lets +onlyGivenNames x; refine Follows.cut (x := x) ?_ ?_; rotate_left; clear_value x; intro _; rotate_right; subst x)
    | (extract_lets +onlyGivenNames x; clear_value x)
    | refine Follows.snd (by assumption) ?_
    | refine Follows.fst (by assumption) ?_
    | dsimp only
    | with_reducible exact Follows.refl _ _

theorem blockRetire_follows {pool band m : Nat} {U : Nat} {r s : State} (h : Follows U r s) (hU : 18612225 ||| U = U) :
    Follows U r (blockRetire pool band m s) := by
  unfold blockRetire
  repeat' first
    | with_reducible assumption
    | intro _
    | with_reducible refine blockRetireOn_follows ?_ (lor_sub (by decide) hU)
    | split
    | with_reducible exact Follows.refl _ _

theorem programFailed_follows {pool row m : Nat} {U : Nat} {r s : State} (h : Follows U r s) (hU : 18714961 ||| U = U) :
    Follows U r (programFailed pool row m s) := by
  unfold programFailed
  repeat' first
    | with_reducible assumption
    | intro _
    | with_reducible refine blockRetire_follows ?_ (lor_sub (by decide) hU)
    | with_reducible refine bump_follows ?_ (lor_sub (by decide) hU)
    | with_reducible refine rowHead_follows ?_ (lor_sub (by decide) hU)
    | with_reducible refine nandIssue_follows ?_ (lor_sub (by decide) hU)
    | with_reducible refine rowRewrite_follows ?_ (lor_sub (by decide) hU)
    | with_reducible refine memberDone_follows ?_ (lor_sub (by decide) hU)
    | split
    | (extract_lets +onlyGivenNames x; refine Follows.cut (x := x) ?_ ?_; rotate_left; clear_value x; intro _; rotate_right; subst x)
    | (extract_lets +onlyGivenNames x; clear_value x)
    | with_reducible exact Follows.refl _ _

theorem slotAssign_follows {slot : Nat} {U : Nat} {r s : State} (h : Follows U r s) (hU : 18350081 ||| U = U) :
    Follows U r (slotAssign slot s) := by
  unfold slotAssign
  repeat' first
    | with_reducible assumption
    | intro _
    | with_reducible refine wr_follows ?_ (lor_sub (by decide) hU)
    | with_reducible refine fenceRaise_follows ?_ (lor_sub (by decide) hU)
    | with_reducible refine Follows.ite ?_ ?_
    | with_reducible exact Follows.set_pair (by assumption) (lor_sub (by decide) hU)
    | (with_reducible refine Follows.set_pair ?_ (lor_sub (by decide) hU); first | with_reducible refine wr_follows ?_ (lor_sub (by decide) hU) | with_reducible refine fenceRaise_follows ?_ (lor_sub (by decide) hU) | with_reducible refine Follows.ite ?_ ?_ | with_reducible exact Follows.refl _ _)
    | split
    | (extract_lets +onlyGivenNames x; refine Follows.cut (x := x) ?_ ?_; rotate_left; clear_value x; intro _; rotate_right; subst x)
    | (extract_lets +onlyGivenNames x; clear_value x)
    | with_reducible exact Follows.refl _ _

theorem slotRelease_follows {slot : Nat} {U : Nat} {r s : State} (h : Follows U r s) (hU : 1 ||| U = U) :
    Follows U r (slotRelease slot s) := by
  unfold slotRelease
  repeat' first
    | with_reducible assumption
    | intro _
    | with_reducible refine wr_follows ?_ (lor_sub (by decide) hU)
    | with_reducible refine Follows.ite ?_ ?_
    | split
    | with_reducible exact Follows.refl _ _

theorem rebuildStart_follows {pool slot idx : Nat} {t : Share} {U : Nat} {r s : State} (h : Follows U r s) (hU : 18612225 ||| U = U) :
    Follows U r (rebuildStart pool slot idx t s) := by
  unfold rebuildStart
  repeat' first
    | with_reducible assumption
    | intro _
    | with_reducible refine groupMod_follows ?_ (lor_sub (by decide) hU)
    | with_reducible refine slotAssign_follows ?_ (lor_sub (by decide) hU)
    | split
    | with_reducible exact Follows.refl _ _

theorem targetsFind_follows {pool : Nat} {U : Nat} {r s : State} (h : Follows U r s) (hU : 18612481 ||| U = U) :
    Follows U r (targetsFind pool s) := by
  unfold targetsFind
  repeat' first
    | with_reducible assumption
    | intro _
    | with_reducible refine foldS_follows ?_ ?_
    | with_reducible refine rebuildStart_follows ?_ (lor_sub (by decide) hU)
    | with_reducible refine coxRaise_follows ?_ (lor_sub (by decide) hU)
    | split
    | with_reducible exact Follows.refl _ _

theorem targetsTake_follows  {U : Nat} {r s : State} (h : Follows U r s) (hU : 18612225 ||| U = U) :
    Follows U r (targetsTake s) := by
  unfold targetsTake
  repeat' first
    | with_reducible assumption
    | intro _
    | with_reducible refine foldS_follows ?_ ?_
    | with_reducible refine rebuildStart_follows ?_ (lor_sub (by decide) hU)
    | split
    | refine Follows.snd (by assumption) ?_
    | refine Follows.fst (by assumption) ?_
    | dsimp only
    | with_reducible exact Follows.refl _ _

theorem lossRecord_follows {pool : Nat} {U : Nat} {r s : State} (h : Follows U r s) (hU : 17039617 ||| U = U) :
    Follows U r (lossRecord pool s) := by
  unfold lossRecord
  repeat' first
    | with_reducible assumption
    | intro _
    | with_reducible refine foldS_follows ?_ ?_
    | with_reducible refine rowLossCheck_follows ?_ (lor_sub (by decide) hU)
    | split
    | with_reducible exact Follows.refl _ _

theorem shareErase_follows {pool : Nat} {U : Nat} {r s : State} (h : Follows U r s) (hU : 17137921 ||| U = U) :
    Follows U r (shareErase pool s) := by
  unfold shareErase
  repeat' first
    | with_reducible assumption
    | intro _
    | with_reducible refine foldS_follows ?_ ?_
    | with_reducible refine rowMod_follows ?_ (lor_sub (by decide) hU)
    | with_reducible refine memberDone_follows ?_ (lor_sub (by decide) hU)
    | split
    | (extract_lets +onlyGivenNames x; refine Follows.cut (x := x) ?_ ?_; rotate_left; clear_value x; intro _; rotate_right; subst x)
    | (extract_lets +onlyGivenNames x; clear_value x)
    | refine Follows.snd (by assumption) ?_
    | refine Follows.fst (by assumption) ?_
    | dsimp only
    | with_reducible exact Follows.refl _ _

theorem shareLost_follows {pool slot idx : Nat} {U : Nat} {r s : State} (h : Follows U r s) (hU : 18710849 ||| U = U) :
    Follows U r (shareLost pool slot idx s) := by
  unfold shareLost
  repeat' first
    | with_reducible assumption
    | intro _
    | with_reducible refine groupMod_follows ?_ (lor_sub (by decide) hU)
    | with_reducible refine shareErase_follows ?_ (lor_sub (by decide) hU)
    | with_reducible refine lossRecord_follows ?_ (lor_sub (by decide) hU)
    | with_reducible refine targetsFind_follows ?_ (lor_sub (by decide) hU)
    | with_reducible refine redundancy_follows ?_ (lor_sub (by decide) hU)
    | with_reducible refine Follows.ite ?_ ?_
    | split
    | (extract_lets +onlyGivenNames x; refine Follows.cut (x := x) ?_ ?_; rotate_left; clear_value x; intro _; rotate_right; subst x)
    | (extract_lets +onlyGivenNames x; clear_value x)
    | with_reducible exact Follows.refl _ _

theorem slotSharesLost_follows {slot : Nat} {U : Nat} {r s : State} (h : Follows U r s) (hU : 18710849 ||| U = U) :
    Follows U r (slotSharesLost slot s) := by
  unfold slotSharesLost
  repeat' first
    | with_reducible assumption
    | intro _
    | with_reducible refine foldS_follows ?_ ?_
    | with_reducible refine shareLost_follows ?_ (lor_sub (by decide) hU)
    | with_reducible refine foldl_follows ?_ ?_
    | split
    | (extract_lets +onlyGivenNames x; refine Follows.cut (x := x) ?_ ?_; rotate_left; clear_value x; intro _; rotate_right; subst x)
    | (extract_lets +onlyGivenNames x; clear_value x)
    | refine Follows.snd (by assumption) ?_
    | refine Follows.fst (by assumption) ?_
    | dsimp only
    | with_reducible exact Follows.refl _ _

end Sys2Proof.Machine
end

