-- ==== Sys2Proof/Laws/FollowsIngestOps.lean ====
section
/-!
SUPPORT. Laws/FollowsIngestOps.lean: the operations of Machine/IngestOps.lean keep what `Follows` states.
-/

namespace Sys2Proof.Machine

open Sys2Proof

theorem blkMod_follows {id idx : Nat} {f : Blk → Blk} {U : Nat} {r s : State} (h : Follows U r s) (hU : 32768 ||| U = U) :
    Follows U r (blkMod id idx f s) := by
  unfold blkMod
  repeat' first
    | with_reducible assumption
    | intro _
    | with_reducible exact Follows.set_ing (by assumption) (lor_sub (by decide) hU)
    | (with_reducible refine Follows.set_ing ?_ (lor_sub (by decide) hU); first | with_reducible exact Follows.refl _ _)
    | split
    | (extract_lets +onlyGivenNames x; refine Follows.cut (x := x) ?_ ?_; rotate_left; clear_value x; intro _; rotate_right; subst x)
    | (extract_lets +onlyGivenNames x; clear_value x)
    | with_reducible exact Follows.refl _ _

theorem grpMod_follows {seat num : Nat} {f : Grp → Grp} {U : Nat} {r s : State} (h : Follows U r s) (hU : 32768 ||| U = U) :
    Follows U r (grpMod seat num f s) := by
  unfold grpMod
  repeat' first
    | with_reducible assumption
    | intro _
    | with_reducible exact Follows.set_ing (by assumption) (lor_sub (by decide) hU)
    | (with_reducible refine Follows.set_ing ?_ (lor_sub (by decide) hU); first | with_reducible exact Follows.refl _ _)
    | split
    | (extract_lets +onlyGivenNames x; refine Follows.cut (x := x) ?_ ?_; rotate_left; clear_value x; intro _; rotate_right; subst x)
    | (extract_lets +onlyGivenNames x; clear_value x)
    | with_reducible exact Follows.refl _ _

theorem grpNew_follows {id seat lo hi : Nat} {U : Nat} {r s : State} (h : Follows U r s) (hU : 49152 ||| U = U) :
    Follows U r (grpNew id seat lo hi s) := by
  unfold grpNew
  repeat' first
    | with_reducible assumption
    | intro _
    | with_reducible refine cmdMod_follows ?_ (lor_sub (by decide) hU)
    | with_reducible exact Follows.set_ing (by assumption) (lor_sub (by decide) hU)
    | (with_reducible refine Follows.set_ing ?_ (lor_sub (by decide) hU); first | with_reducible refine cmdMod_follows ?_ (lor_sub (by decide) hU) | with_reducible exact Follows.refl _ _)
    | split
    | (extract_lets +onlyGivenNames x; refine Follows.cut (x := x) ?_ ?_; rotate_left; clear_value x; intro _; rotate_right; subst x)
    | (extract_lets +onlyGivenNames x; clear_value x)
    | with_reducible exact Follows.refl _ _

theorem groupsOpen_follows {id : Nat} {U : Nat} {r s : State} (h : Follows U r s) (hU : 49152 ||| U = U) :
    Follows U r (groupsOpen id s) := by
  unfold groupsOpen
  repeat' first
    | with_reducible assumption
    | intro _
    | with_reducible refine foldS_follows ?_ ?_
    | with_reducible refine grpNew_follows ?_ (lor_sub (by decide) hU)
    | split
    | (extract_lets +onlyGivenNames x; refine Follows.cut (x := x) ?_ ?_; rotate_left; clear_value x; intro _; rotate_right; subst x)
    | (extract_lets +onlyGivenNames x; clear_value x)
    | refine Follows.snd (by assumption) ?_
    | refine Follows.fst (by assumption) ?_
    | dsimp only
    | with_reducible exact Follows.refl _ _

theorem holdsDrop_follows {id : Nat} {U : Nat} {r s : State} (h : Follows U r s) (hU : 65536 ||| U = U) :
    Follows U r (holdsDrop id s) := by
  unfold holdsDrop
  repeat' first
    | with_reducible assumption
    | intro _
    | with_reducible refine foldS_follows ?_ ?_
    | with_reducible refine releaseHold_follows ?_ (lor_sub (by decide) hU)
    | split
    | refine Follows.snd (by assumption) ?_
    | refine Follows.fst (by assumption) ?_
    | dsimp only
    | with_reducible exact Follows.refl _ _

theorem ingestDrop_follows {id : Nat} {U : Nat} {r s : State} (h : Follows U r s) (hU : 98304 ||| U = U) :
    Follows U r (ingestDrop id s) := by
  unfold ingestDrop
  repeat' first
    | with_reducible assumption
    | intro _
    | with_reducible refine holdsDrop_follows ?_ (lor_sub (by decide) hU)
    | with_reducible exact Follows.set_ing (by assumption) (lor_sub (by decide) hU)
    | (with_reducible refine Follows.set_ing ?_ (lor_sub (by decide) hU); first | with_reducible refine holdsDrop_follows ?_ (lor_sub (by decide) hU) | with_reducible exact Follows.refl _ _)
    | split
    | (extract_lets +onlyGivenNames x; refine Follows.cut (x := x) ?_ ?_; rotate_left; clear_value x; intro _; rotate_right; subst x)
    | (extract_lets +onlyGivenNames x; clear_value x)
    | with_reducible exact Follows.refl _ _

theorem ingestFail_follows {id : Nat} {st : NvSts} {U : Nat} {r s : State} (h : Follows U r s) (hU : 18341889 ||| U = U) :
    Follows U r (ingestFail id st s) := by
  unfold ingestFail
  repeat' first
    | with_reducible assumption
    | intro _
    | with_reducible refine cmdMod_follows ?_ (lor_sub (by decide) hU)
    | with_reducible refine ingestDrop_follows ?_ (lor_sub (by decide) hU)
    | with_reducible refine finishCmd_follows ?_ (lor_sub (by decide) hU)
    | split
    | (extract_lets +onlyGivenNames x; refine Follows.cut (x := x) ?_ ?_; rotate_left; clear_value x; intro _; rotate_right; subst x)
    | (extract_lets +onlyGivenNames x; clear_value x)
    | with_reducible exact Follows.refl _ _

theorem ingestNote_follows {id lba : Nat} {st : NvSts} {U : Nat} {r s : State} (h : Follows U r s) (hU : 16384 ||| U = U) :
    Follows U r (ingestNote id lba st s) := by
  unfold ingestNote
  repeat' first
    | with_reducible assumption
    | intro _
    | with_reducible refine cmdMod_follows ?_ (lor_sub (by decide) hU)
    | with_reducible refine Follows.ite ?_ ?_
    | split
    | (extract_lets +onlyGivenNames x; refine Follows.cut (x := x) ?_ ?_; rotate_left; clear_value x; intro _; rotate_right; subst x)
    | (extract_lets +onlyGivenNames x; clear_value x)
    | with_reducible exact Follows.refl _ _

theorem ingestEnds_follows {id : Nat} {U : Nat} {r s : State} (h : Follows U r s) (hU : 18341889 ||| U = U) :
    Follows U r (ingestEnds id s) := by
  unfold ingestEnds
  repeat' first
    | with_reducible assumption
    | intro _
    | with_reducible refine ingestFail_follows ?_ (lor_sub (by decide) hU)
    | with_reducible refine Follows.ite ?_ ?_
    | split
    | with_reducible exact Follows.refl _ _

theorem ingestError_follows {id lba : Nat} {st : NvSts} {U : Nat} {r s : State} (h : Follows U r s) (hU : 18341889 ||| U = U) :
    Follows U r (ingestError id lba st s) := by
  unfold ingestError
  repeat' first
    | with_reducible assumption
    | intro _
    | with_reducible refine ingestNote_follows ?_ (lor_sub (by decide) hU)
    | with_reducible refine ingestEnds_follows ?_ (lor_sub (by decide) hU)
    | split
    | with_reducible exact Follows.refl _ _

theorem engineErr_follows {id lba : Nat} {c : Cmd} {err : IngestErr} {U : Nat} {r s : State} (h : Follows U r s) (hU : 18342209 ||| U = U) :
    Follows U r (engineErr id lba c err s) := by
  unfold engineErr
  repeat' first
    | with_reducible assumption
    | intro _
    | with_reducible refine bump_follows ?_ (lor_sub (by decide) hU)
    | with_reducible refine ingestError_follows ?_ (lor_sub (by decide) hU)
    | with_reducible refine engineFault_follows ?_ (lor_sub (by decide) hU)
    | with_reducible refine logFw_follows ?_ (lor_sub (by decide) hU)
    | split
    | with_reducible exact Follows.refl _ _

theorem logsDrop_follows  {U : Nat} {r s : State} (h : Follows U r s) (hU : 65536 ||| U = U) :
    Follows U r (logsDrop s) := by
  unfold logsDrop
  repeat' first
    | with_reducible assumption
    | intro _
    | with_reducible refine foldl_follows ?_ ?_
    | with_reducible refine Follows.ite ?_ ?_
    | with_reducible exact Follows.set_map (by assumption) (lor_sub (by decide) hU)
    | (with_reducible refine Follows.set_map ?_ (lor_sub (by decide) hU); first | with_reducible refine foldl_follows ?_ ?_ | with_reducible refine Follows.ite ?_ ?_ | with_reducible exact Follows.refl _ _)
    | split
    | (extract_lets +onlyGivenNames x; refine Follows.cut (x := x) ?_ ?_; rotate_left; clear_value x; intro _; rotate_right; subst x)
    | (extract_lets +onlyGivenNames x; clear_value x)
    | refine Follows.snd (by assumption) ?_
    | refine Follows.fst (by assumption) ?_
    | dsimp only
    | with_reducible exact Follows.refl _ _

theorem qpDrop_follows {seat q : Nat} {U : Nat} {r s : State} (h : Follows U r s) (hU : 1564673 ||| U = U) :
    Follows U r (qpDrop seat q s) := by
  unfold qpDrop
  repeat' first
    | with_reducible assumption
    | intro _
    | with_reducible refine pushesDrop_follows ?_ (lor_sub (by decide) hU)
    | with_reducible refine foldS_follows ?_ ?_
    | with_reducible refine when_follows ?_ ?_
    | with_reducible refine bump_follows ?_ (lor_sub (by decide) hU)
    | with_reducible refine ingestDrop_follows ?_ (lor_sub (by decide) hU)
    | with_reducible refine dropCmd_follows ?_ (lor_sub (by decide) hU)
    | split
    | (extract_lets +onlyGivenNames x; refine Follows.cut (x := x) ?_ ?_; rotate_left; clear_value x; intro _; rotate_right; subst x)
    | (extract_lets +onlyGivenNames x; clear_value x)
    | refine Follows.snd (by assumption) ?_
    | refine Follows.fst (by assumption) ?_
    | dsimp only
    | with_reducible exact Follows.refl _ _

theorem qpFail_follows {seat q : Nat} {U : Nat} {r s : State} (h : Follows U r s) (hU : 18342337 ||| U = U) :
    Follows U r (qpFail seat q s) := by
  unfold qpFail
  repeat' first
    | with_reducible assumption
    | intro _
    | with_reducible refine qpToError_follows ?_ (lor_sub (by decide) hU)
    | with_reducible refine qpWorkEnds_follows ?_ (lor_sub (by decide) hU)
    | with_reducible refine qpDrop_follows ?_ (lor_sub (by decide) hU)
    | split
    | with_reducible exact Follows.refl _ _

theorem recAdd_follows {id idx : Nat} {d : Delta} {U : Nat} {r s : State} (h : Follows U r s) (hU : 1097729 ||| U = U) :
    Follows U r (recAdd id idx d s) := by
  unfold recAdd
  repeat' first
    | with_reducible assumption
    | intro _
    | with_reducible refine grpMod_follows ?_ (lor_sub (by decide) hU)
    | with_reducible refine cmdMod_follows ?_ (lor_sub (by decide) hU)
    | with_reducible refine blkMod_follows ?_ (lor_sub (by decide) hU)
    | with_reducible refine journalAdd_follows ?_ (lor_sub (by decide) hU)
    | with_reducible refine Follows.ite ?_ ?_
    | split
    | (extract_lets +onlyGivenNames x; refine Follows.cut (x := x) ?_ ?_; rotate_left; clear_value x; intro _; rotate_right; subst x)
    | (extract_lets +onlyGivenNames x; clear_value x)
    | with_reducible exact Follows.refl _ _

theorem ruhTake_follows {nsid handle : Nat} {U : Nat} {r s : State} (h : Follows U r s) (hU : 32768 ||| U = U) :
    Follows U r (ruhTake nsid handle s) := by
  unfold ruhTake
  repeat' first
    | with_reducible assumption
    | intro _
    | with_reducible refine Follows.ite ?_ ?_
    | with_reducible exact Follows.set_ing (by assumption) (lor_sub (by decide) hU)
    | (with_reducible refine Follows.set_ing ?_ (lor_sub (by decide) hU); first | with_reducible refine Follows.ite ?_ ?_ | with_reducible exact Follows.refl _ _)
    | split
    | (extract_lets +onlyGivenNames x; refine Follows.cut (x := x) ?_ ?_; rotate_left; clear_value x; intro _; rotate_right; subst x)
    | (extract_lets +onlyGivenNames x; clear_value x)
    | refine Follows.snd (by assumption) ?_
    | refine Follows.fst (by assumption) ?_
    | dsimp only
    | with_reducible exact Follows.refl _ _

theorem zoneAssign_follows {id : Nat} {U : Nat} {r s : State} (h : Follows U r s) (hU : 18341889 ||| U = U) :
    Follows U r (zoneAssign id s) := by
  unfold zoneAssign
  repeat' first
    | with_reducible assumption
    | intro _
    | with_reducible refine ingestFail_follows ?_ (lor_sub (by decide) hU)
    | with_reducible refine cmdMod_follows ?_ (lor_sub (by decide) hU)
    | with_reducible refine groupsOpen_follows ?_ (lor_sub (by decide) hU)
    | with_reducible refine Follows.ite ?_ ?_
    | with_reducible exact Follows.set_map (by assumption) (lor_sub (by decide) hU)
    | (with_reducible refine Follows.set_map ?_ (lor_sub (by decide) hU); first | with_reducible refine ingestFail_follows ?_ (lor_sub (by decide) hU) | with_reducible refine cmdMod_follows ?_ (lor_sub (by decide) hU) | with_reducible refine groupsOpen_follows ?_ (lor_sub (by decide) hU) | with_reducible refine Follows.ite ?_ ?_ | with_reducible exact Follows.refl _ _)
    | split
    | (extract_lets +onlyGivenNames x; refine Follows.cut (x := x) ?_ ?_; rotate_left; clear_value x; intro _; rotate_right; subst x)
    | (extract_lets +onlyGivenNames x; clear_value x)
    | with_reducible exact Follows.refl _ _

theorem blkAppend_follows {id idx : Nat} {U : Nat} {r s : State} (h : Follows U r s) (hU : 18870609 ||| U = U) :
    Follows U r (blkAppend id idx s) := by
  unfold blkAppend
  dsimp only
  repeat' first
    | with_reducible assumption
    | intro _
    | with_reducible refine zoneAssign_follows ?_ (lor_sub (by decide) hU)
    | with_reducible refine blkMod_follows ?_ (lor_sub (by decide) hU)
    | with_reducible refine ruhTake_follows ?_ (lor_sub (by decide) hU)
    | with_reducible refine extAppend_follows ?_ (lor_sub (by decide) hU)
    | with_reducible refine bumpN_follows ?_ (lor_sub (by decide) hU)
    | with_reducible refine recAdd_follows ?_ (lor_sub (by decide) hU)
    | with_reducible refine Follows.ite ?_ ?_
    | split
    | refine Follows.snd (by assumption) ?_
    | refine Follows.fst (by assumption) ?_
    | dsimp only
    | with_reducible exact Follows.refl _ _

theorem appendRetry_follows  {U : Nat} {r s : State} (h : Follows U r s) (hU : 18870609 ||| U = U) :
    Follows U r (appendRetry s) := by
  unfold appendRetry
  repeat' first
    | with_reducible assumption
    | intro _
    | with_reducible refine foldS_follows ?_ ?_
    | with_reducible refine blkAppend_follows ?_ (lor_sub (by decide) hU)
    | split
    | with_reducible exact Follows.refl _ _

theorem sealStalls_follows {id idx seat : Nat} {reserve : Bool} {U : Nat} {r s : State} (h : Follows U r s) (hU : 32769 ||| U = U) :
    Follows U r (sealStalls id idx seat reserve s) := by
  unfold sealStalls
  repeat' first
    | with_reducible assumption
    | intro _
    | with_reducible refine when_follows ?_ ?_
    | with_reducible refine bump_follows ?_ (lor_sub (by decide) hU)
    | with_reducible refine blkMod_follows ?_ (lor_sub (by decide) hU)
    | with_reducible refine Follows.ite ?_ ?_
    | split
    | (extract_lets +onlyGivenNames x; refine Follows.cut (x := x) ?_ ?_; rotate_left; clear_value x; intro _; rotate_right; subst x)
    | (extract_lets +onlyGivenNames x; clear_value x)
    | with_reducible exact Follows.refl _ _

theorem blkSeal_follows {id idx : Nat} {U : Nat} {r s : State} (h : Follows U r s) (hU : 27259217 ||| U = U) :
    Follows U r (blkSeal id idx s) := by
  unfold blkSeal
  repeat' first
    | with_reducible assumption
    | intro _
    | with_reducible refine blkMod_follows ?_ (lor_sub (by decide) hU)
    | with_reducible refine slotAsk_follows ?_ (lor_sub (by decide) hU)
    | with_reducible refine allocRec_follows ?_ (lor_sub (by decide) hU)
    | with_reducible refine takeCounter_follows ?_ (lor_sub (by decide) hU)
    | with_reducible refine sealStalls_follows ?_ (lor_sub (by decide) hU)
    | with_reducible refine when_follows ?_ ?_
    | with_reducible refine bump_follows ?_ (lor_sub (by decide) hU)
    | with_reducible refine slotTouch_follows ?_ (lor_sub (by decide) hU)
    | with_reducible refine blkAppend_follows ?_ (lor_sub (by decide) hU)
    | with_reducible refine appendRetry_follows ?_ (lor_sub (by decide) hU)
    | with_reducible refine Follows.ite ?_ ?_
    | split
    | (extract_lets +onlyGivenNames x; refine Follows.cut (x := x) ?_ ?_; rotate_left; clear_value x; intro _; rotate_right; subst x)
    | (extract_lets +onlyGivenNames x; clear_value x)
    | refine Follows.snd (by assumption) ?_
    | refine Follows.fst (by assumption) ?_
    | dsimp only
    | with_reducible exact Follows.refl _ _

theorem sealRetry_follows {seat : Nat} {U : Nat} {r s : State} (h : Follows U r s) (hU : 27259217 ||| U = U) :
    Follows U r (sealRetry seat s) := by
  unfold sealRetry
  repeat' first
    | with_reducible assumption
    | intro _
    | with_reducible refine foldS_follows ?_ ?_
    | with_reducible refine blkSeal_follows ?_ (lor_sub (by decide) hU)
    | split
    | (extract_lets +onlyGivenNames x; refine Follows.cut (x := x) ?_ ?_; rotate_left; clear_value x; intro _; rotate_right; subst x)
    | (extract_lets +onlyGivenNames x; clear_value x)
    | with_reducible exact Follows.refl _ _

theorem blkReady_follows {id idx : Nat} {U : Nat} {r s : State} (h : Follows U r s) (hU : 27259217 ||| U = U) :
    Follows U r (blkReady id idx s) := by
  unfold blkReady
  repeat' first
    | with_reducible assumption
    | intro _
    | with_reducible refine blkSeal_follows ?_ (lor_sub (by decide) hU)
    | with_reducible refine Follows.ite ?_ ?_
    | split
    | with_reducible exact Follows.refl _ _

theorem piFail_follows {id : Nat} {c : Cmd} {lba : Nat} {st : NvSts} {U : Nat} {r s : State} (h : Follows U r s) (hU : 16385 ||| U = U) :
    Follows U r (piFail id c lba st s) := by
  unfold piFail
  repeat' first
    | with_reducible assumption
    | intro _
    | with_reducible refine bump_follows ?_ (lor_sub (by decide) hU)
    | with_reducible refine ingestNote_follows ?_ (lor_sub (by decide) hU)
    | split
    | with_reducible exact Follows.refl _ _

theorem blkLand_follows {id idx data : Nat} {m : Md} {U : Nat} {r s : State} (h : Follows U r s) (hU : 27259217 ||| U = U) :
    Follows U r (blkLand id idx data m s) := by
  unfold blkLand
  dsimp only
  repeat' first
    | with_reducible assumption
    | intro _
    | with_reducible refine bumpN_follows ?_ (lor_sub (by decide) hU)
    | with_reducible refine cmdMod_follows ?_ (lor_sub (by decide) hU)
    | with_reducible refine blkMod_follows ?_ (lor_sub (by decide) hU)
    | with_reducible refine when_follows ?_ ?_
    | with_reducible refine digSnoop_follows ?_ (lor_sub (by decide) hU)
    | with_reducible refine piFail_follows ?_ (lor_sub (by decide) hU)
    | with_reducible refine ingestEnds_follows ?_ (lor_sub (by decide) hU)
    | with_reducible refine bump_follows ?_ (lor_sub (by decide) hU)
    | with_reducible refine recAdd_follows ?_ (lor_sub (by decide) hU)
    | with_reducible refine blkReady_follows ?_ (lor_sub (by decide) hU)
    | with_reducible refine Follows.ite ?_ ?_
    | split
    | with_reducible exact Follows.refl _ _

theorem blkRaw_follows {id idx : Nat} {U : Nat} {r s : State} (h : Follows U r s) (hU : 32768 ||| U = U) :
    Follows U r (blkRaw id idx s) := by
  unfold blkRaw
  repeat' first
    | with_reducible assumption
    | intro _
    | with_reducible refine blkMod_follows ?_ (lor_sub (by decide) hU)
    | split
    | (extract_lets +onlyGivenNames x; refine Follows.cut (x := x) ?_ ?_; rotate_left; clear_value x; intro _; rotate_right; subst x)
    | (extract_lets +onlyGivenNames x; clear_value x)
    | with_reducible exact Follows.refl _ _

theorem fpPut_follows {seat fp : Nat} {l : List (Option FpEnt)} {U : Nat} {r s : State} (h : Follows U r s) (hU : 32768 ||| U = U) :
    Follows U r (fpPut seat fp l s) := by
  unfold fpPut
  repeat' first
    | with_reducible assumption
    | intro _
    | with_reducible refine Follows.ite ?_ ?_
    | with_reducible exact Follows.set_ing (by assumption) (lor_sub (by decide) hU)
    | (with_reducible refine Follows.set_ing ?_ (lor_sub (by decide) hU); first | with_reducible refine Follows.ite ?_ ?_ | with_reducible exact Follows.refl _ _)
    | split
    | (extract_lets +onlyGivenNames x; refine Follows.cut (x := x) ?_ ?_; rotate_left; clear_value x; intro _; rotate_right; subst x)
    | (extract_lets +onlyGivenNames x; clear_value x)
    | with_reducible exact Follows.refl _ _

theorem fpInsert_follows {seat fp handle tenant : Nat} {U : Nat} {r s : State} (h : Follows U r s) (hU : 32768 ||| U = U) :
    Follows U r (fpInsert seat fp handle tenant s) := by
  unfold fpInsert
  repeat' first
    | with_reducible assumption
    | intro _
    | with_reducible refine fpPut_follows ?_ (lor_sub (by decide) hU)
    | split
    | (extract_lets +onlyGivenNames x; refine Follows.cut (x := x) ?_ ?_; rotate_left; clear_value x; intro _; rotate_right; subst x)
    | (extract_lets +onlyGivenNames x; clear_value x)
    | with_reducible exact Follows.refl _ _

theorem locksAsk_follows {id : Nat} {U : Nat} {r s : State} (h : Follows U r s) (hU : 32769 ||| U = U) :
    Follows U r (locksAsk id s) := by
  unfold locksAsk
  repeat' first
    | with_reducible assumption
    | intro _
    | with_reducible refine foldS_follows ?_ ?_
    | with_reducible refine bump_follows ?_ (lor_sub (by decide) hU)
    | with_reducible refine Follows.ite ?_ ?_
    | with_reducible exact Follows.set_ing (by assumption) (lor_sub (by decide) hU)
    | (with_reducible refine Follows.set_ing ?_ (lor_sub (by decide) hU); first | with_reducible refine foldS_follows ?_ ?_ | with_reducible refine bump_follows ?_ (lor_sub (by decide) hU) | with_reducible refine Follows.ite ?_ ?_ | with_reducible exact Follows.refl _ _)
    | split
    | (extract_lets +onlyGivenNames x; refine Follows.cut (x := x) ?_ ?_; rotate_left; clear_value x; intro _; rotate_right; subst x)
    | (extract_lets +onlyGivenNames x; clear_value x)
    | with_reducible exact Follows.refl _ _

theorem pullMore_follows {id : Nat} {U : Nat} {r s : State} (h : Follows U r s) (hU : 16801793 ||| U = U) :
    Follows U r (pullMore id s) := by
  unfold pullMore
  repeat' first
    | with_reducible assumption
    | intro _
    | with_reducible refine setQp_follows ?_ (lor_sub (by decide) hU)
    | with_reducible refine cmdMod_follows ?_ (lor_sub (by decide) hU)
    | with_reducible refine qpSend_follows ?_ (lor_sub (by decide) hU)
    | with_reducible refine Follows.ite ?_ ?_
    | split
    | (extract_lets +onlyGivenNames x; refine Follows.cut (x := x) ?_ ?_; rotate_left; clear_value x; intro _; rotate_right; subst x)
    | (extract_lets +onlyGivenNames x; clear_value x)
    | with_reducible exact Follows.refl _ _

theorem pullAll_follows {seat q : Nat} {U : Nat} {r s : State} (h : Follows U r s) (hU : 16801793 ||| U = U) :
    Follows U r (pullAll seat q s) := by
  unfold pullAll
  repeat' first
    | with_reducible assumption
    | intro _
    | with_reducible refine foldS_follows ?_ ?_
    | with_reducible refine pullMore_follows ?_ (lor_sub (by decide) hU)
    | split
    | with_reducible exact Follows.refl _ _

theorem writeGo_follows {id : Nat} {U : Nat} {r s : State} (h : Follows U r s) (hU : 27259217 ||| U = U) :
    Follows U r (writeGo id s) := by
  unfold writeGo
  dsimp only
  repeat' first
    | with_reducible assumption
    | intro _
    | with_reducible refine cmdMod_follows ?_ (lor_sub (by decide) hU)
    | with_reducible refine finishCmd_follows ?_ (lor_sub (by decide) hU)
    | with_reducible refine grpNew_follows ?_ (lor_sub (by decide) hU)
    | with_reducible refine foldS_follows ?_ ?_
    | with_reducible refine recAdd_follows ?_ (lor_sub (by decide) hU)
    | with_reducible refine groupsOpen_follows ?_ (lor_sub (by decide) hU)
    | with_reducible refine bump_follows ?_ (lor_sub (by decide) hU)
    | with_reducible refine blkLand_follows ?_ (lor_sub (by decide) hU)
    | with_reducible refine pullMore_follows ?_ (lor_sub (by decide) hU)
    | with_reducible refine foldl_follows ?_ ?_
    | with_reducible refine Follows.ite ?_ ?_
    | with_reducible exact Follows.set_ing (by assumption) (lor_sub (by decide) hU)
    | (with_reducible refine Follows.set_ing ?_ (lor_sub (by decide) hU); first | with_reducible refine cmdMod_follows ?_ (lor_sub (by decide) hU) | with_reducible refine finishCmd_follows ?_ (lor_sub (by decide) hU) | with_reducible refine grpNew_follows ?_ (lor_sub (by decide) hU) | with_reducible refine foldS_follows ?_ ?_ | with_reducible refine recAdd_follows ?_ (lor_sub (by decide) hU) | with_reducible refine groupsOpen_follows ?_ (lor_sub (by decide) hU) | with_reducible refine bump_follows ?_ (lor_sub (by decide) hU) | with_reducible refine blkLand_follows ?_ (lor_sub (by decide) hU) | with_reducible refine pullMore_follows ?_ (lor_sub (by decide) hU) | with_reducible refine foldl_follows ?_ ?_ | with_reducible refine Follows.ite ?_ ?_ | with_reducible exact Follows.refl _ _)
    | split
    | refine Follows.snd (by assumption) ?_
    | refine Follows.fst (by assumption) ?_
    | dsimp only
    | with_reducible exact Follows.refl _ _

theorem lockGo_follows {id : Nat} {U : Nat} {r s : State} (h : Follows U r s) (hU : 27259217 ||| U = U) :
    Follows U r (lockGo id s) := by
  unfold lockGo
  repeat' first
    | with_reducible assumption
    | intro _
    | with_reducible refine writeGo_follows ?_ (lor_sub (by decide) hU)
    | with_reducible refine Follows.ite ?_ ?_
    | split
    | with_reducible exact Follows.refl _ _

theorem fillWait_follows {k cmd idx : Nat} {U : Nat} {r s : State} (h : Follows U r s) (hU : 65536 ||| U = U) :
    Follows U r (fillWait k cmd idx s) := by
  unfold fillWait
  repeat' first
    | with_reducible assumption
    | intro _
    | with_reducible refine Follows.ite ?_ ?_
    | with_reducible exact Follows.set_map (by assumption) (lor_sub (by decide) hU)
    | (with_reducible refine Follows.set_map ?_ (lor_sub (by decide) hU); first | with_reducible refine Follows.ite ?_ ?_ | with_reducible exact Follows.refl _ _)
    | split
    | (extract_lets +onlyGivenNames x; refine Follows.cut (x := x) ?_ ?_; rotate_left; clear_value x; intro _; rotate_right; subst x)
    | (extract_lets +onlyGivenNames x; clear_value x)
    | with_reducible exact Follows.refl _ _

theorem lineAsk_follows {seat num cmd : Nat} {x : Nat × Nat} {U : Nat} {r s : State} (h : Follows U r s) (hU : 98305 ||| U = U) :
    Follows U r (lineAsk seat num cmd x s) := by
  unfold lineAsk
  repeat' first
    | with_reducible assumption
    | intro _
    | with_reducible refine grpMod_follows ?_ (lor_sub (by decide) hU)
    | with_reducible refine fillWait_follows ?_ (lor_sub (by decide) hU)
    | with_reducible refine tcLookup_follows ?_ (lor_sub (by decide) hU)
    | with_reducible refine Follows.ite ?_ ?_
    | split
    | (extract_lets +onlyGivenNames x; refine Follows.cut (x := x) ?_ ?_; rotate_left; clear_value x; intro _; rotate_right; subst x)
    | (extract_lets +onlyGivenNames x; clear_value x)
    | refine Follows.snd (by assumption) ?_
    | refine Follows.fst (by assumption) ?_
    | dsimp only
    | with_reducible exact Follows.refl _ _

theorem linesAsk_follows {seat num : Nat} {l : List (Nat × Nat)} {U : Nat} {r s : State} (h : Follows U r s) (hU : 98305 ||| U = U) :
    Follows U r (linesAsk seat num l s).2 := by
  unfold linesAsk
  repeat' first
    | with_reducible assumption
    | intro _
    | with_reducible refine foldS_follows ?_ ?_
    | with_reducible refine lineAsk_follows ?_ (lor_sub (by decide) hU)
    | split
    | (extract_lets +onlyGivenNames x; refine Follows.cut (x := x) ?_ ?_; rotate_left; clear_value x; intro _; rotate_right; subst x)
    | (extract_lets +onlyGivenNames x; clear_value x)
    | with_reducible exact Follows.refl _ _

theorem zoneZero_follows {nsid lba : Nat} {U : Nat} {r s : State} (h : Follows U r s) (hU : 65536 ||| U = U) :
    Follows U r (zoneZero nsid lba s) := by
  unfold zoneZero
  repeat' first
    | with_reducible assumption
    | intro _
    | with_reducible exact Follows.set_map (by assumption) (lor_sub (by decide) hU)
    | (with_reducible refine Follows.set_map ?_ (lor_sub (by decide) hU); first | with_reducible exact Follows.refl _ _)
    | split
    | (extract_lets +onlyGivenNames x; refine Follows.cut (x := x) ?_ ?_; rotate_left; clear_value x; intro _; rotate_right; subst x)
    | (extract_lets +onlyGivenNames x; clear_value x)
    | with_reducible exact Follows.refl _ _

theorem zoneCommit_follows {nsid lba addr : Nat} {U : Nat} {r s : State} (h : Follows U r s) (hU : 65537 ||| U = U) :
    Follows U r (zoneCommit nsid lba addr s) := by
  unfold zoneCommit
  repeat' first
    | with_reducible assumption
    | intro _
    | with_reducible refine segsSet_follows ?_ (lor_sub (by decide) hU)
    | split
    | (extract_lets +onlyGivenNames x; refine Follows.cut (x := x) ?_ ?_; rotate_left; clear_value x; intro _; rotate_right; subst x)
    | (extract_lets +onlyGivenNames x; clear_value x)
    | with_reducible exact Follows.refl _ _

theorem recCommit_follows {c : Cmd} {logged : Bool} {d : Delta} {U : Nat} {r s : State} (h : Follows U r s) (hU : 98305 ||| U = U) :
    Follows U r (recCommit c logged d s) := by
  unfold recCommit
  dsimp only
  repeat' first
    | with_reducible assumption
    | intro _
    | with_reducible refine when_follows ?_ ?_
    | with_reducible refine dlogAdd_follows ?_ (lor_sub (by decide) hU)
    | with_reducible refine zoneCommit_follows ?_ (lor_sub (by decide) hU)
    | with_reducible refine zoneZero_follows ?_ (lor_sub (by decide) hU)
    | with_reducible refine commitDelta_follows ?_ (lor_sub (by decide) hU)
    | with_reducible refine wr_follows ?_ (lor_sub (by decide) hU)
    | with_reducible refine Follows.ite ?_ ?_
    | with_reducible exact Follows.set_ing (by assumption) (lor_sub (by decide) hU)
    | (with_reducible refine Follows.set_ing ?_ (lor_sub (by decide) hU); first | with_reducible refine when_follows ?_ ?_ | with_reducible refine dlogAdd_follows ?_ (lor_sub (by decide) hU) | with_reducible refine zoneCommit_follows ?_ (lor_sub (by decide) hU) | with_reducible refine zoneZero_follows ?_ (lor_sub (by decide) hU) | with_reducible refine commitDelta_follows ?_ (lor_sub (by decide) hU) | with_reducible refine wr_follows ?_ (lor_sub (by decide) hU) | with_reducible refine Follows.ite ?_ ?_ | with_reducible exact Follows.refl _ _)
    | with_reducible exact Follows.set_ing_map (by assumption) (lor_sub (by decide) hU)
    | (with_reducible refine Follows.set_ing_map ?_ (lor_sub (by decide) hU); first | with_reducible refine when_follows ?_ ?_ | with_reducible refine dlogAdd_follows ?_ (lor_sub (by decide) hU) | with_reducible refine zoneCommit_follows ?_ (lor_sub (by decide) hU) | with_reducible refine zoneZero_follows ?_ (lor_sub (by decide) hU) | with_reducible refine commitDelta_follows ?_ (lor_sub (by decide) hU) | with_reducible refine wr_follows ?_ (lor_sub (by decide) hU) | with_reducible refine Follows.ite ?_ ?_ | with_reducible exact Follows.refl _ _)
    | with_reducible exact Follows.set_map (by assumption) (lor_sub (by decide) hU)
    | (with_reducible refine Follows.set_map ?_ (lor_sub (by decide) hU); first | with_reducible refine when_follows ?_ ?_ | with_reducible refine dlogAdd_follows ?_ (lor_sub (by decide) hU) | with_reducible refine zoneCommit_follows ?_ (lor_sub (by decide) hU) | with_reducible refine zoneZero_follows ?_ (lor_sub (by decide) hU) | with_reducible refine commitDelta_follows ?_ (lor_sub (by decide) hU) | with_reducible refine wr_follows ?_ (lor_sub (by decide) hU) | with_reducible refine Follows.ite ?_ ?_ | with_reducible exact Follows.refl _ _)
    | split
    | with_reducible exact Follows.refl _ _

theorem fpAccept_follows {c : Cmd} {d : Delta} {idx : Nat} {id : Nat} {U : Nat} {r s : State} (h : Follows U r s) (hU : 32768 ||| U = U) :
    Follows U r (fpAccept c d idx id s) := by
  unfold fpAccept
  repeat' first
    | with_reducible assumption
    | intro _
    | with_reducible refine fpInsert_follows ?_ (lor_sub (by decide) hU)
    | with_reducible refine Follows.ite ?_ ?_
    | with_reducible exact Follows.set_ing (by assumption) (lor_sub (by decide) hU)
    | (with_reducible refine Follows.set_ing ?_ (lor_sub (by decide) hU); first | with_reducible refine fpInsert_follows ?_ (lor_sub (by decide) hU) | with_reducible refine Follows.ite ?_ ?_ | with_reducible exact Follows.refl _ _)
    | split
    | (extract_lets +onlyGivenNames x; refine Follows.cut (x := x) ?_ ?_; rotate_left; clear_value x; intro _; rotate_right; subst x)
    | (extract_lets +onlyGivenNames x; clear_value x)
    | with_reducible exact Follows.refl _ _

theorem acceptShow_follows {seat : Nat} {U : Nat} {r s : State} (h : Follows U r s) (hU : 32769 ||| U = U) :
    Follows U r (acceptShow seat s) := by
  unfold acceptShow
  repeat' first
    | with_reducible assumption
    | intro _
    | with_reducible refine wr_follows ?_ (lor_sub (by decide) hU)
    | with_reducible exact Follows.set_ing (by assumption) (lor_sub (by decide) hU)
    | (with_reducible refine Follows.set_ing ?_ (lor_sub (by decide) hU); first | with_reducible refine wr_follows ?_ (lor_sub (by decide) hU) | with_reducible exact Follows.refl _ _)
    | split
    | (extract_lets +onlyGivenNames x; refine Follows.cut (x := x) ?_ ?_; rotate_left; clear_value x; intro _; rotate_right; subst x)
    | (extract_lets +onlyGivenNames x; clear_value x)
    | with_reducible exact Follows.refl _ _

theorem acceptTime_follows {seat lat : Nat} {U : Nat} {r s : State} (h : Follows U r s) (hU : 32769 ||| U = U) :
    Follows U r (acceptTime seat lat s) := by
  unfold acceptTime
  repeat' first
    | with_reducible assumption
    | intro _
    | with_reducible refine acceptShow_follows ?_ (lor_sub (by decide) hU)
    | with_reducible exact Follows.set_ing (by assumption) (lor_sub (by decide) hU)
    | (with_reducible refine Follows.set_ing ?_ (lor_sub (by decide) hU); first | with_reducible refine acceptShow_follows ?_ (lor_sub (by decide) hU) | with_reducible exact Follows.refl _ _)
    | split
    | (extract_lets +onlyGivenNames x; refine Follows.cut (x := x) ?_ ?_; rotate_left; clear_value x; intro _; rotate_right; subst x)
    | (extract_lets +onlyGivenNames x; clear_value x)
    | with_reducible exact Follows.refl _ _

theorem grpAccept_follows {seat num lat : Nat} {U : Nat} {r s : State} (h : Follows U r s) (hU : 20439041 ||| U = U) :
    Follows U r (grpAccept seat num lat s) := by
  unfold grpAccept
  repeat' first
    | with_reducible assumption
    | intro _
    | with_reducible refine foldS_follows ?_ ?_
    | with_reducible refine recCommit_follows ?_ (lor_sub (by decide) hU)
    | with_reducible refine fpAccept_follows ?_ (lor_sub (by decide) hU)
    | with_reducible refine blkMod_follows ?_ (lor_sub (by decide) hU)
    | with_reducible refine cmdMod_follows ?_ (lor_sub (by decide) hU)
    | with_reducible refine when_follows ?_ ?_
    | with_reducible refine bumpN_follows ?_ (lor_sub (by decide) hU)
    | with_reducible refine acceptTime_follows ?_ (lor_sub (by decide) hU)
    | with_reducible refine rateSample_follows ?_ (lor_sub (by decide) hU)
    | with_reducible refine finishCmd_follows ?_ (lor_sub (by decide) hU)
    | with_reducible refine Follows.ite ?_ ?_
    | with_reducible exact Follows.set_ing (by assumption) (lor_sub (by decide) hU)
    | (with_reducible refine Follows.set_ing ?_ (lor_sub (by decide) hU); first | with_reducible refine foldS_follows ?_ ?_ | with_reducible refine recCommit_follows ?_ (lor_sub (by decide) hU) | with_reducible refine fpAccept_follows ?_ (lor_sub (by decide) hU) | with_reducible refine blkMod_follows ?_ (lor_sub (by decide) hU) | with_reducible refine cmdMod_follows ?_ (lor_sub (by decide) hU) | with_reducible refine when_follows ?_ ?_ | with_reducible refine bumpN_follows ?_ (lor_sub (by decide) hU) | with_reducible refine acceptTime_follows ?_ (lor_sub (by decide) hU) | with_reducible refine rateSample_follows ?_ (lor_sub (by decide) hU) | with_reducible refine finishCmd_follows ?_ (lor_sub (by decide) hU) | with_reducible refine Follows.ite ?_ ?_ | with_reducible exact Follows.refl _ _)
    | split
    | (extract_lets +onlyGivenNames x; refine Follows.cut (x := x) ?_ ?_; rotate_left; clear_value x; intro _; rotate_right; subst x)
    | (extract_lets +onlyGivenNames x; clear_value x)
    | with_reducible exact Follows.refl _ _

theorem ftLog_follows  {U : Nat} {r s : State} (h : Follows U r s) (hU : 114689 ||| U = U) :
    Follows U r (ftLog s) := by
  unfold ftLog
  repeat' first
    | with_reducible assumption
    | intro _
    | with_reducible refine foldS_follows ?_ ?_
    | with_reducible refine dlogAdd_follows ?_ (lor_sub (by decide) hU)
    | with_reducible refine dlogClose_follows ?_ (lor_sub (by decide) hU)
    | with_reducible refine grpMod_follows ?_ (lor_sub (by decide) hU)
    | with_reducible refine cmdMod_follows ?_ (lor_sub (by decide) hU)
    | with_reducible refine Follows.ite ?_ ?_
    | split
    | (extract_lets +onlyGivenNames x; refine Follows.cut (x := x) ?_ ?_; rotate_left; clear_value x; intro _; rotate_right; subst x)
    | (extract_lets +onlyGivenNames x; clear_value x)
    | refine Follows.snd (by assumption) ?_
    | refine Follows.fst (by assumption) ?_
    | dsimp only
    | with_reducible exact Follows.refl _ _

theorem poolWritesFail_follows {pool : Nat} {U : Nat} {r s : State} (h : Follows U r s) (hU : 18341889 ||| U = U) :
    Follows U r (poolWritesFail pool s) := by
  unfold poolWritesFail
  repeat' first
    | with_reducible assumption
    | intro _
    | with_reducible refine foldS_follows ?_ ?_
    | with_reducible refine ingestError_follows ?_ (lor_sub (by decide) hU)
    | split
    | refine Follows.snd (by assumption) ?_
    | refine Follows.fst (by assumption) ?_
    | dsimp only
    | with_reducible exact Follows.refl _ _

end Sys2Proof.Machine
end

