-- ==== Sys2Proof/Laws/FollowsFrontEnd.lean ====
section
/-!
SUPPORT. Laws/FollowsFrontEnd.lean: the operations of Machine/FrontEnd.lean keep what `Follows` states.
-/

namespace Sys2Proof.Machine

open Sys2Proof

theorem fromQp_follows {seat q : Nat} {f : Qp → State → State} {U : Nat} {r s : State} (h : Follows U r s) (hf : ∀ x0 x1, Follows U r x1 → Follows U r (f x0 x1)) (hU : 1 ||| U = U) :
    Follows U r (fromQp seat q f s) := by
  unfold fromQp
  repeat' first
    | with_reducible assumption
    | intro _
    | with_reducible refine bump_follows ?_ (lor_sub (by decide) hU)
    | with_reducible refine Follows.ite ?_ ?_
    | refine hf _ _ ?_
    | split
    | refine Follows.snd (by assumption) ?_
    | refine Follows.fst (by assumption) ?_
    | dsimp only
    | with_reducible exact Follows.refl _ _

theorem linkHeard_follows {seat sub : Nat} {U : Nat} {r s : State} (h : Follows U r s) (hU : 1 ||| U = U) :
    Follows U r (linkHeard seat sub s) := by
  unfold linkHeard
  repeat' first
    | with_reducible assumption
    | intro _
    | with_reducible refine wrBit_follows ?_ (lor_sub (by decide) hU)
    | with_reducible refine Follows.ite ?_ ?_
    | split
    | with_reducible exact Follows.refl _ _

theorem feFrame_follows {seat sub len src : Nat} {svc : FrameSvc} {U : Nat} {r s : State} (h : Follows U r s) (hU : 1 ||| U = U) :
    Follows U r (feFrame seat sub len src svc s) := by
  unfold feFrame
  repeat' first
    | with_reducible assumption
    | intro _
    | with_reducible refine linkHeard_follows ?_ (lor_sub (by decide) hU)
    | with_reducible refine bumpN_follows ?_ (lor_sub (by decide) hU)
    | with_reducible refine when_follows ?_ ?_
    | with_reducible refine bump_follows ?_ (lor_sub (by decide) hU)
    | with_reducible refine Follows.ite ?_ ?_
    | split
    | (extract_lets +onlyGivenNames x; refine Follows.cut (x := x) ?_ ?_; rotate_left; clear_value x; intro _; rotate_right; subst x)
    | (extract_lets +onlyGivenNames x; clear_value x)
    | with_reducible exact Follows.refl _ _

theorem pfcFrame_follows {seat sub on off : Nat} {pause : Bool} {U : Nat} {r s : State} (h : Follows U r s) (hU : 16802241 ||| U = U) :
    Follows U r (pfcFrame seat sub on off pause s) := by
  unfold pfcFrame
  repeat' first
    | with_reducible assumption
    | intro _
    | with_reducible refine foldS_follows ?_ ?_
    | with_reducible refine qpDrain_follows ?_ (lor_sub (by decide) hU)
    | with_reducible refine readsEnd_follows ?_ (lor_sub (by decide) hU)
    | with_reducible refine pullAll_follows ?_ (lor_sub (by decide) hU)
    | with_reducible refine Follows.ite ?_ ?_
    | with_reducible exact Follows.set_fe (by assumption) (lor_sub (by decide) hU)
    | (with_reducible refine Follows.set_fe ?_ (lor_sub (by decide) hU); first | with_reducible refine foldS_follows ?_ ?_ | with_reducible refine qpDrain_follows ?_ (lor_sub (by decide) hU) | with_reducible refine readsEnd_follows ?_ (lor_sub (by decide) hU) | with_reducible refine pullAll_follows ?_ (lor_sub (by decide) hU) | with_reducible refine Follows.ite ?_ ?_ | with_reducible exact Follows.refl _ _)
    | split
    | (extract_lets +onlyGivenNames x; refine Follows.cut (x := x) ?_ ?_; rotate_left; clear_value x; intro _; rotate_right; subst x)
    | (extract_lets +onlyGivenNames x; clear_value x)
    | with_reducible exact Follows.refl _ _

theorem subportDown_follows {seat sub : Nat} {U : Nat} {r s : State} (h : Follows U r s) (hU : 1 ||| U = U) :
    Follows U r (subportDown seat sub s) := by
  unfold subportDown
  repeat' first
    | with_reducible assumption
    | intro _
    | with_reducible refine wrBit_follows ?_ (lor_sub (by decide) hU)
    | with_reducible refine Follows.ite ?_ ?_
    | split
    | with_reducible exact Follows.refl _ _

theorem rocePacket_follows {seat qp len : Nat} {op : RoceOp} {ce : Bool} {sinceCnp : Nat} {U : Nat} {r s : State} (h : Follows U r s) (hU : 18342337 ||| U = U) :
    Follows U r (rocePacket seat qp len op ce sinceCnp s) := by
  unfold rocePacket
  repeat' first
    | with_reducible assumption
    | intro _
    | with_reducible refine fromQp_follows ?_ ?_ (lor_sub (by decide) hU)
    | with_reducible refine bumpN_follows ?_ (lor_sub (by decide) hU)
    | with_reducible refine qpSend_follows ?_ (lor_sub (by decide) hU)
    | with_reducible refine qpFail_follows ?_ (lor_sub (by decide) hU)
    | with_reducible refine when_follows ?_ ?_
    | with_reducible refine bump_follows ?_ (lor_sub (by decide) hU)
    | with_reducible refine Follows.ite ?_ ?_
    | split
    | (extract_lets +onlyGivenNames x; refine Follows.cut (x := x) ?_ ?_; rotate_left; clear_value x; intro _; rotate_right; subst x)
    | (extract_lets +onlyGivenNames x; clear_value x)
    | with_reducible exact Follows.refl _ _

theorem qpRetry_follows {seat qp : Nat} {U : Nat} {r s : State} (h : Follows U r s) (hU : 18342337 ||| U = U) :
    Follows U r (qpRetry seat qp s) := by
  unfold qpRetry
  repeat' first
    | with_reducible assumption
    | intro _
    | with_reducible refine qpFail_follows ?_ (lor_sub (by decide) hU)
    | with_reducible refine setQp_follows ?_ (lor_sub (by decide) hU)
    | with_reducible refine outSend_follows ?_ (lor_sub (by decide) hU)
    | with_reducible refine Follows.ite ?_ ?_
    | split
    | (extract_lets +onlyGivenNames x; refine Follows.cut (x := x) ?_ ?_; rotate_left; clear_value x; intro _; rotate_right; subst x)
    | (extract_lets +onlyGivenNames x; clear_value x)
    | with_reducible exact Follows.refl _ _

theorem rnrRetry_follows {seat qp : Nat} {U : Nat} {r s : State} (h : Follows U r s) (hU : 18342337 ||| U = U) :
    Follows U r (rnrRetry seat qp s) := by
  unfold rnrRetry
  repeat' first
    | with_reducible assumption
    | intro _
    | with_reducible refine qpFail_follows ?_ (lor_sub (by decide) hU)
    | with_reducible refine setQp_follows ?_ (lor_sub (by decide) hU)
    | with_reducible refine outSend_follows ?_ (lor_sub (by decide) hU)
    | with_reducible refine Follows.ite ?_ ?_
    | split
    | (extract_lets +onlyGivenNames x; refine Follows.cut (x := x) ?_ ?_; rotate_left; clear_value x; intro _; rotate_right; subst x)
    | (extract_lets +onlyGivenNames x; clear_value x)
    | with_reducible exact Follows.refl _ _

theorem ackBytes_follows {seat qp bytes : Nat} {U : Nat} {r s : State} (h : Follows U r s) (hU : 16802241 ||| U = U) :
    Follows U r (ackBytes seat qp bytes s) := by
  unfold ackBytes
  repeat' first
    | with_reducible assumption
    | intro _
    | with_reducible refine setQp_follows ?_ (lor_sub (by decide) hU)
    | with_reducible refine qpDrain_follows ?_ (lor_sub (by decide) hU)
    | with_reducible refine readsEnd_follows ?_ (lor_sub (by decide) hU)
    | with_reducible refine pullAll_follows ?_ (lor_sub (by decide) hU)
    | split
    | with_reducible exact Follows.refl _ _

theorem roceAck_follows {seat qp bytes : Nat} {kind : AckKind} {U : Nat} {r s : State} (h : Follows U r s) (hU : 18342337 ||| U = U) :
    Follows U r (roceAck seat qp bytes kind s) := by
  unfold roceAck
  repeat' first
    | with_reducible assumption
    | intro _
    | with_reducible refine fromQp_follows ?_ ?_ (lor_sub (by decide) hU)
    | with_reducible refine when_follows ?_ ?_
    | with_reducible refine ackBytes_follows ?_ (lor_sub (by decide) hU)
    | with_reducible refine rnrRetry_follows ?_ (lor_sub (by decide) hU)
    | with_reducible refine qpRetry_follows ?_ (lor_sub (by decide) hU)
    | with_reducible refine qpFail_follows ?_ (lor_sub (by decide) hU)
    | split
    | (extract_lets +onlyGivenNames x; refine Follows.cut (x := x) ?_ ?_; rotate_left; clear_value x; intro _; rotate_right; subst x)
    | (extract_lets +onlyGivenNames x; clear_value x)
    | with_reducible exact Follows.refl _ _

theorem ackTimeout_follows {seat qp : Nat} {U : Nat} {r s : State} (h : Follows U r s) (hU : 18342337 ||| U = U) :
    Follows U r (ackTimeout seat qp s) := by
  unfold ackTimeout
  repeat' first
    | with_reducible assumption
    | intro _
    | with_reducible refine qpRetry_follows ?_ (lor_sub (by decide) hU)
    | with_reducible refine Follows.ite ?_ ?_
    | split
    | with_reducible exact Follows.refl _ _

theorem cnpReceive_follows {seat qp : Nat} {U : Nat} {r s : State} (h : Follows U r s) (hU : 8193 ||| U = U) :
    Follows U r (cnpReceive seat qp s) := by
  unfold cnpReceive
  repeat' first
    | with_reducible assumption
    | intro _
    | with_reducible refine fromQp_follows ?_ ?_ (lor_sub (by decide) hU)
    | with_reducible refine bump_follows ?_ (lor_sub (by decide) hU)
    | with_reducible refine setQp_follows ?_ (lor_sub (by decide) hU)
    | with_reducible refine Follows.ite ?_ ?_
    | split
    | (extract_lets +onlyGivenNames x; refine Follows.cut (x := x) ?_ ?_; rotate_left; clear_value x; intro _; rotate_right; subst x)
    | (extract_lets +onlyGivenNames x; clear_value x)
    | with_reducible exact Follows.refl _ _

theorem cmReq_follows {seat src sub mtu pd : Nat} {U : Nat} {r s : State} (h : Follows U r s) (hU : 16785409 ||| U = U) :
    Follows U r (cmReq seat src sub mtu pd s) := by
  unfold cmReq
  dsimp only
  repeat' first
    | with_reducible assumption
    | intro _
    | with_reducible refine bump_follows ?_ (lor_sub (by decide) hU)
    | with_reducible refine cmSend_follows ?_ (lor_sub (by decide) hU)
    | with_reducible refine setQp_follows ?_ (lor_sub (by decide) hU)
    | with_reducible refine Follows.ite ?_ ?_
    | with_reducible exact Follows.set_fe (by assumption) (lor_sub (by decide) hU)
    | (with_reducible refine Follows.set_fe ?_ (lor_sub (by decide) hU); first | with_reducible refine bump_follows ?_ (lor_sub (by decide) hU) | with_reducible refine cmSend_follows ?_ (lor_sub (by decide) hU) | with_reducible refine setQp_follows ?_ (lor_sub (by decide) hU) | with_reducible refine Follows.ite ?_ ?_ | with_reducible exact Follows.refl _ _)
    | split
    | with_reducible exact Follows.refl _ _

theorem heldServe_follows  {U : Nat} {r s : State} (h : Follows U r s) (hU : 16785409 ||| U = U) :
    Follows U r (heldServe s) := by
  unfold heldServe
  repeat' first
    | with_reducible assumption
    | intro _
    | with_reducible refine foldS_follows ?_ ?_
    | with_reducible refine cmReq_follows ?_ (lor_sub (by decide) hU)
    | with_reducible exact Follows.set_fe (by assumption) (lor_sub (by decide) hU)
    | (with_reducible refine Follows.set_fe ?_ (lor_sub (by decide) hU); first | with_reducible refine foldS_follows ?_ ?_ | with_reducible refine cmReq_follows ?_ (lor_sub (by decide) hU) | with_reducible exact Follows.refl _ _)
    | split
    | (extract_lets +onlyGivenNames x; refine Follows.cut (x := x) ?_ ?_; rotate_left; clear_value x; intro _; rotate_right; subst x)
    | (extract_lets +onlyGivenNames x; clear_value x)
    | with_reducible exact Follows.refl _ _

theorem cmStep_follows {seat qp : Nat} {p : Qp → Bool} {f : Qp → State → State} {U : Nat} {r s : State} (h : Follows U r s) (hf : ∀ x0 x1, Follows U r x1 → Follows U r (f x0 x1)) (hU : 1 ||| U = U) :
    Follows U r (cmStep seat qp p f s) := by
  unfold cmStep
  repeat' first
    | with_reducible assumption
    | intro _
    | with_reducible refine bump_follows ?_ (lor_sub (by decide) hU)
    | with_reducible refine Follows.ite ?_ ?_
    | refine hf _ _ ?_
    | split
    | refine Follows.snd (by assumption) ?_
    | refine Follows.fst (by assumption) ?_
    | dsimp only
    | with_reducible exact Follows.refl _ _

theorem qpClose_follows {seat qp : Nat} {U : Nat} {r s : State} (h : Follows U r s) (hU : 18342337 ||| U = U) :
    Follows U r (qpClose seat qp s) := by
  unfold qpClose
  repeat' first
    | with_reducible assumption
    | intro _
    | with_reducible refine qpWorkEnds_follows ?_ (lor_sub (by decide) hU)
    | with_reducible refine qpDrop_follows ?_ (lor_sub (by decide) hU)
    | with_reducible refine setCtrl_follows ?_ (lor_sub (by decide) hU)
    | with_reducible refine freeQp_follows ?_ (lor_sub (by decide) hU)
    | split
    | (extract_lets +onlyGivenNames x; refine Follows.cut (x := x) ?_ ?_; rotate_left; clear_value x; intro _; rotate_right; subst x)
    | (extract_lets +onlyGivenNames x; clear_value x)
    | with_reducible exact Follows.refl _ _

theorem qpDisconnect_follows {seat qp : Nat} {U : Nat} {r s : State} (h : Follows U r s) (hU : 18342337 ||| U = U) :
    Follows U r (qpDisconnect seat qp s) := by
  unfold qpDisconnect
  dsimp only
  repeat' first
    | with_reducible assumption
    | intro _
    | with_reducible refine qpWorkEnds_follows ?_ (lor_sub (by decide) hU)
    | with_reducible refine qpDrop_follows ?_ (lor_sub (by decide) hU)
    | with_reducible refine setQp_follows ?_ (lor_sub (by decide) hU)
    | with_reducible refine cmSend_follows ?_ (lor_sub (by decide) hU)
    | split
    | with_reducible exact Follows.refl _ _

theorem nakAccess_follows {seat qp : Nat} {U : Nat} {r s : State} (h : Follows U r s) (hU : 18342337 ||| U = U) :
    Follows U r (nakAccess seat qp s) := by
  unfold nakAccess
  repeat' first
    | with_reducible assumption
    | intro _
    | with_reducible refine qpSend_follows ?_ (lor_sub (by decide) hU)
    | with_reducible refine bump_follows ?_ (lor_sub (by decide) hU)
    | with_reducible refine qpFail_follows ?_ (lor_sub (by decide) hU)
    | split
    | with_reducible exact Follows.refl _ _

theorem writeEnds_follows {seat qp : Nat} {U : Nat} {r s : State} (h : Follows U r s) (hU : 16785857 ||| U = U) :
    Follows U r (writeEnds seat qp s) := by
  unfold writeEnds
  repeat' first
    | with_reducible assumption
    | intro _
    | with_reducible refine setQp_follows ?_ (lor_sub (by decide) hU)
    | with_reducible refine mrEnd_follows ?_ (lor_sub (by decide) hU)
    | split
    | (extract_lets +onlyGivenNames x; refine Follows.cut (x := x) ?_ ?_; rotate_left; clear_value x; intro _; rotate_right; subst x)
    | (extract_lets +onlyGivenNames x; clear_value x)
    | with_reducible exact Follows.refl _ _

theorem rdmaWriteFirst_follows {seat qp rkey addr len : Nat} {U : Nat} {r s : State} (h : Follows U r s) (hU : 18342337 ||| U = U) :
    Follows U r (rdmaWriteFirst seat qp rkey addr len s) := by
  unfold rdmaWriteFirst
  dsimp only
  repeat' first
    | with_reducible assumption
    | intro _
    | with_reducible refine fromQp_follows ?_ ?_ (lor_sub (by decide) hU)
    | with_reducible refine writeEnds_follows ?_ (lor_sub (by decide) hU)
    | with_reducible refine nakAccess_follows ?_ (lor_sub (by decide) hU)
    | with_reducible refine setMr_follows ?_ (lor_sub (by decide) hU)
    | with_reducible refine setQp_follows ?_ (lor_sub (by decide) hU)
    | split
    | with_reducible exact Follows.refl _ _

theorem rdmaWriteLast_follows {seat qp : Nat} {U : Nat} {r s : State} (h : Follows U r s) (hU : 16785857 ||| U = U) :
    Follows U r (rdmaWriteLast seat qp s) := by
  unfold rdmaWriteLast
  repeat' first
    | with_reducible assumption
    | intro _
    | with_reducible refine fromQp_follows ?_ ?_ (lor_sub (by decide) hU)
    | with_reducible refine writeEnds_follows ?_ (lor_sub (by decide) hU)
    | with_reducible refine qpSend_follows ?_ (lor_sub (by decide) hU)
    | with_reducible refine Follows.ite ?_ ?_
    | split
    | with_reducible exact Follows.refl _ _

theorem rdmaRead_follows {seat qp rkey addr len : Nat} {U : Nat} {r s : State} (h : Follows U r s) (hU : 18342337 ||| U = U) :
    Follows U r (rdmaRead seat qp rkey addr len s) := by
  unfold rdmaRead
  repeat' first
    | with_reducible assumption
    | intro _
    | with_reducible refine fromQp_follows ?_ ?_ (lor_sub (by decide) hU)
    | with_reducible refine nakAccess_follows ?_ (lor_sub (by decide) hU)
    | with_reducible refine setMr_follows ?_ (lor_sub (by decide) hU)
    | with_reducible refine setQp_follows ?_ (lor_sub (by decide) hU)
    | with_reducible refine qpSend_follows ?_ (lor_sub (by decide) hU)
    | with_reducible refine readsEnd_follows ?_ (lor_sub (by decide) hU)
    | split
    | (extract_lets +onlyGivenNames x; refine Follows.cut (x := x) ?_ ?_; rotate_left; clear_value x; intro _; rotate_right; subst x)
    | (extract_lets +onlyGivenNames x; clear_value x)
    | with_reducible exact Follows.refl _ _

theorem qpSelect_follows {seat value : Nat} {U : Nat} {r s : State} (h : Follows U r s) (hU : 1 ||| U = U) :
    Follows U r (qpSelect seat value s) := by
  unfold qpSelect
  repeat' first
    | with_reducible assumption
    | intro _
    | with_reducible refine wr_follows ?_ (lor_sub (by decide) hU)
    | with_reducible refine wrB_follows ?_ (lor_sub (by decide) hU)
    | with_reducible refine Follows.ite ?_ ?_
    | split
    | (extract_lets +onlyGivenNames x; refine Follows.cut (x := x) ?_ ?_; rotate_left; clear_value x; intro _; rotate_right; subst x)
    | (extract_lets +onlyGivenNames x; clear_value x)
    | with_reducible exact Follows.refl _ _

end Sys2Proof.Machine
end

