-- ==== Sys2Proof/Laws/FollowsFaults.lean ====
section
/-!
SUPPORT. Laws/FollowsFaults.lean: the operations of Machine/Faults.lean keep what `Follows` states.
-/

namespace Sys2Proof.Machine

open Sys2Proof

theorem headHalt_follows  {U : Nat} {r s : State} (h : Follows U r s) (hU : 513 ||| U = U) :
    Follows U r (headHalt s) := by
  unfold headHalt
  repeat' first
    | with_reducible assumption
    | intro _
    | with_reducible refine foldS_follows ?_ ?_
    | with_reducible refine wr_follows ?_ (lor_sub (by decide) hU)
    | with_reducible refine Follows.ite ?_ ?_
    | with_reducible exact Follows.set_boot (by assumption) (lor_sub (by decide) hU)
    | (with_reducible refine Follows.set_boot ?_ (lor_sub (by decide) hU); first | with_reducible refine foldS_follows ?_ ?_ | with_reducible refine wr_follows ?_ (lor_sub (by decide) hU) | with_reducible refine Follows.ite ?_ ?_ | with_reducible exact Follows.refl _ _)
    | split
    | (extract_lets +onlyGivenNames x; refine Follows.cut (x := x) ?_ ?_; rotate_left; clear_value x; intro _; rotate_right; subst x)
    | (extract_lets +onlyGivenNames x; clear_value x)
    | with_reducible exact Follows.refl _ _

theorem commandsRefuse_follows  {U : Nat} {r s : State} (h : Follows U r s) (hU : 18341889 ||| U = U) :
    Follows U r (commandsRefuse s) := by
  unfold commandsRefuse
  repeat' first
    | with_reducible assumption
    | intro _
    | with_reducible refine foldS_follows ?_ ?_
    | with_reducible refine ingestDrop_follows ?_ (lor_sub (by decide) hU)
    | with_reducible refine finishCmd_follows ?_ (lor_sub (by decide) hU)
    | split
    | with_reducible exact Follows.refl _ _

theorem failbackStops_follows  {U : Nat} {r s : State} (h : Follows U r s) (hU : 17826241 ||| U = U) :
    Follows U r (failbackStops s) := by
  unfold failbackStops
  repeat' first
    | with_reducible assumption
    | intro _
    | with_reducible refine mbxComplete_follows ?_ (lor_sub (by decide) hU)
    | with_reducible exact Follows.set_pair (by assumption) (lor_sub (by decide) hU)
    | (with_reducible refine Follows.set_pair ?_ (lor_sub (by decide) hU); first | with_reducible refine mbxComplete_follows ?_ (lor_sub (by decide) hU) | with_reducible exact Follows.refl _ _)
    | split
    | (extract_lets +onlyGivenNames x; refine Follows.cut (x := x) ?_ ?_; rotate_left; clear_value x; intro _; rotate_right; subst x)
    | (extract_lets +onlyGivenNames x; clear_value x)
    | with_reducible exact Follows.refl _ _

theorem headFenced_follows  {U : Nat} {r s : State} (h : Follows U r s) (hU : 18342337 ||| U = U) :
    Follows U r (headFenced s) := by
  unfold headFenced
  repeat' first
    | with_reducible assumption
    | intro _
    | with_reducible refine commandsRefuse_follows ?_ (lor_sub (by decide) hU)
    | with_reducible refine pairTo_follows ?_ (lor_sub (by decide) hU)
    | with_reducible refine failbackStops_follows ?_ (lor_sub (by decide) hU)
    | with_reducible refine anaChanged_follows ?_ (lor_sub (by decide) hU)
    | with_reducible refine Follows.ite ?_ ?_
    | with_reducible exact Follows.set_pair (by assumption) (lor_sub (by decide) hU)
    | (with_reducible refine Follows.set_pair ?_ (lor_sub (by decide) hU); first | with_reducible refine commandsRefuse_follows ?_ (lor_sub (by decide) hU) | with_reducible refine pairTo_follows ?_ (lor_sub (by decide) hU) | with_reducible refine failbackStops_follows ?_ (lor_sub (by decide) hU) | with_reducible refine anaChanged_follows ?_ (lor_sub (by decide) hU) | with_reducible refine Follows.ite ?_ ?_ | with_reducible exact Follows.refl _ _)
    | split
    | (extract_lets +onlyGivenNames x; refine Follows.cut (x := x) ?_ ?_; rotate_left; clear_value x; intro _; rotate_right; subst x)
    | (extract_lets +onlyGivenNames x; clear_value x)
    | with_reducible exact Follows.refl _ _

theorem bandAhead_follows {pool band : Nat} {U : Nat} {r s : State} (h : Follows U r s) (hU : 262144 ||| U = U) :
    Follows U r (bandAhead pool band s) := by
  unfold bandAhead
  repeat' first
    | with_reducible assumption
    | intro _
    | with_reducible refine groupMod_follows ?_ (lor_sub (by decide) hU)
    | with_reducible refine Follows.ite ?_ ?_
    | split
    | (extract_lets +onlyGivenNames x; refine Follows.cut (x := x) ?_ ?_; rotate_left; clear_value x; intro _; rotate_right; subst x)
    | (extract_lets +onlyGivenNames x; clear_value x)
    | with_reducible exact Follows.refl _ _

theorem blockReadFault_follows {pool row m : Nat} {U : Nat} {r s : State} (h : Follows U r s) (hU : 18612545 ||| U = U) :
    Follows U r (blockReadFault pool row m s) := by
  unfold blockReadFault
  repeat' first
    | with_reducible assumption
    | intro _
    | with_reducible refine faultCount_follows ?_ (lor_sub (by decide) hU)
    | with_reducible refine blockRetire_follows ?_ (lor_sub (by decide) hU)
    | with_reducible refine faultClear_follows ?_ (lor_sub (by decide) hU)
    | with_reducible refine Follows.ite ?_ ?_
    | split
    | (extract_lets +onlyGivenNames x; refine Follows.cut (x := x) ?_ ?_; rotate_left; clear_value x; intro _; rotate_right; subst x)
    | (extract_lets +onlyGivenNames x; clear_value x)
    | refine Follows.snd (by assumption) ?_
    | refine Follows.fst (by assumption) ?_
    | dsimp only
    | with_reducible exact Follows.refl _ _

end Sys2Proof.Machine
end

