-- ==== Sys2Proof/Laws/FollowsReadOps.lean ====
section
/-!
SUPPORT. Laws/FollowsReadOps.lean: the operations of Machine/ReadOps.lean keep what `Follows` states.
-/

namespace Sys2Proof.Machine

open Sys2Proof

theorem unitMod_follows {id idx : Nat} {f : RUnit → RUnit} {U : Nat} {r s : State} (h : Follows U r s) (hU : 131072 ||| U = U) :
    Follows U r (unitMod id idx f s) := by
  unfold unitMod
  repeat' first
    | with_reducible assumption
    | intro _
    | with_reducible exact Follows.set_rds (by assumption) (lor_sub (by decide) hU)
    | (with_reducible refine Follows.set_rds ?_ (lor_sub (by decide) hU); first | with_reducible exact Follows.refl _ _)
    | split
    | (extract_lets +onlyGivenNames x; refine Follows.cut (x := x) ?_ ?_; rotate_left; clear_value x; intro _; rotate_right; subst x)
    | (extract_lets +onlyGivenNames x; clear_value x)
    | with_reducible exact Follows.refl _ _

theorem readFails_follows {id lba : Nat} {st : NvSts} {U : Nat} {r s : State} (h : Follows U r s) (hU : 16384 ||| U = U) :
    Follows U r (readFails id lba st s) := by
  unfold readFails
  repeat' first
    | with_reducible assumption
    | intro _
    | with_reducible refine cmdMod_follows ?_ (lor_sub (by decide) hU)
    | with_reducible refine Follows.ite ?_ ?_
    | split
    | (extract_lets +onlyGivenNames x; refine Follows.cut (x := x) ?_ ?_; rotate_left; clear_value x; intro _; rotate_right; subst x)
    | (extract_lets +onlyGivenNames x; clear_value x)
    | with_reducible exact Follows.refl _ _

theorem readShow_follows {seat : Nat} {U : Nat} {r s : State} (h : Follows U r s) (hU : 131073 ||| U = U) :
    Follows U r (readShow seat s) := by
  unfold readShow
  repeat' first
    | with_reducible assumption
    | intro _
    | with_reducible refine wr_follows ?_ (lor_sub (by decide) hU)
    | with_reducible exact Follows.set_rds (by assumption) (lor_sub (by decide) hU)
    | (with_reducible refine Follows.set_rds ?_ (lor_sub (by decide) hU); first | with_reducible refine wr_follows ?_ (lor_sub (by decide) hU) | with_reducible exact Follows.refl _ _)
    | split
    | (extract_lets +onlyGivenNames x; refine Follows.cut (x := x) ?_ ?_; rotate_left; clear_value x; intro _; rotate_right; subst x)
    | (extract_lets +onlyGivenNames x; clear_value x)
    | with_reducible exact Follows.refl _ _

theorem readTime_follows {c : Cmd} {lat : Nat} {U : Nat} {r s : State} (h : Follows U r s) (hU : 2228225 ||| U = U) :
    Follows U r (readTime c lat s) := by
  unfold readTime
  repeat' first
    | with_reducible assumption
    | intro _
    | with_reducible refine readShow_follows ?_ (lor_sub (by decide) hU)
    | with_reducible refine rateSample_follows ?_ (lor_sub (by decide) hU)
    | with_reducible exact Follows.set_rds (by assumption) (lor_sub (by decide) hU)
    | (with_reducible refine Follows.set_rds ?_ (lor_sub (by decide) hU); first | with_reducible refine readShow_follows ?_ (lor_sub (by decide) hU) | with_reducible refine rateSample_follows ?_ (lor_sub (by decide) hU) | with_reducible exact Follows.refl _ _)
    | split
    | (extract_lets +onlyGivenNames x; refine Follows.cut (x := x) ?_ ?_; rotate_left; clear_value x; intro _; rotate_right; subst x)
    | (extract_lets +onlyGivenNames x; clear_value x)
    | with_reducible exact Follows.refl _ _

theorem unitDone_follows {id idx : Nat} {lat : Option Nat} {U : Nat} {r s : State} (h : Follows U r s) (hU : 20373505 ||| U = U) :
    Follows U r (unitDone id idx lat s) := by
  unfold unitDone
  repeat' first
    | with_reducible assumption
    | intro _
    | with_reducible refine unitMod_follows ?_ (lor_sub (by decide) hU)
    | with_reducible refine readTime_follows ?_ (lor_sub (by decide) hU)
    | with_reducible refine finishCmd_follows ?_ (lor_sub (by decide) hU)
    | with_reducible refine Follows.ite ?_ ?_
    | split
    | (extract_lets +onlyGivenNames x; refine Follows.cut (x := x) ?_ ?_; rotate_left; clear_value x; intro _; rotate_right; subst x)
    | (extract_lets +onlyGivenNames x; clear_value x)
    | refine Follows.snd (by assumption) ?_
    | refine Follows.fst (by assumption) ?_
    | dsimp only
    | with_reducible exact Follows.refl _ _

theorem unitFail_follows {id idx : Nat} {st : NvSts} {lat : Option Nat} {U : Nat} {r s : State} (h : Follows U r s) (hU : 20373505 ||| U = U) :
    Follows U r (unitFail id idx st lat s) := by
  unfold unitFail
  repeat' first
    | with_reducible assumption
    | intro _
    | with_reducible refine when_follows ?_ ?_
    | with_reducible refine bump_follows ?_ (lor_sub (by decide) hU)
    | with_reducible refine readFails_follows ?_ (lor_sub (by decide) hU)
    | with_reducible refine unitDone_follows ?_ (lor_sub (by decide) hU)
    | split
    | with_reducible exact Follows.refl _ _

theorem unitPlace_follows {id idx : Nat} {lat : Option Nat} {U : Nat} {r s : State} (h : Follows U r s) (hU : 20373505 ||| U = U) :
    Follows U r (unitPlace id idx lat s) := by
  unfold unitPlace
  repeat' first
    | with_reducible assumption
    | intro _
    | with_reducible refine qpSend_follows ?_ (lor_sub (by decide) hU)
    | with_reducible refine unitDone_follows ?_ (lor_sub (by decide) hU)
    | with_reducible refine Follows.ite ?_ ?_
    | split
    | (extract_lets +onlyGivenNames x; refine Follows.cut (x := x) ?_ ?_; rotate_left; clear_value x; intro _; rotate_right; subst x)
    | (extract_lets +onlyGivenNames x; clear_value x)
    | refine Follows.snd (by assumption) ?_
    | refine Follows.fst (by assumption) ?_
    | dsimp only
    | with_reducible exact Follows.refl _ _

theorem placeAll_follows {seat q : Nat} {U : Nat} {r s : State} (h : Follows U r s) (hU : 20373505 ||| U = U) :
    Follows U r (placeAll seat q s) := by
  unfold placeAll
  repeat' first
    | with_reducible assumption
    | intro _
    | with_reducible refine foldS_follows ?_ ?_
    | with_reducible refine unitPlace_follows ?_ (lor_sub (by decide) hU)
    | split
    | (extract_lets +onlyGivenNames x; refine Follows.cut (x := x) ?_ ?_; rotate_left; clear_value x; intro _; rotate_right; subst x)
    | (extract_lets +onlyGivenNames x; clear_value x)
    | with_reducible exact Follows.refl _ _

theorem unitOpened_follows {id idx : Nat} {lat : Option Nat} {U : Nat} {r s : State} (h : Follows U r s) (hU : 20373505 ||| U = U) :
    Follows U r (unitOpened id idx lat s) := by
  unfold unitOpened
  repeat' first
    | with_reducible assumption
    | intro _
    | with_reducible refine unitFail_follows ?_ (lor_sub (by decide) hU)
    | with_reducible refine unitDone_follows ?_ (lor_sub (by decide) hU)
    | with_reducible refine unitMod_follows ?_ (lor_sub (by decide) hU)
    | with_reducible refine unitPlace_follows ?_ (lor_sub (by decide) hU)
    | with_reducible refine Follows.ite ?_ ?_
    | split
    | (extract_lets +onlyGivenNames x; refine Follows.cut (x := x) ?_ ?_; rotate_left; clear_value x; intro _; rotate_right; subst x)
    | (extract_lets +onlyGivenNames x; clear_value x)
    | refine Follows.snd (by assumption) ?_
    | refine Follows.fst (by assumption) ?_
    | dsimp only
    | with_reducible exact Follows.refl _ _

theorem dieServed_follows {slot die : Nat} {U : Nat} {r s : State} (h : Follows U r s) (hU : 18350081 ||| U = U) :
    Follows U r (dieServed slot die s) := by
  unfold dieServed
  repeat' first
    | with_reducible assumption
    | intro _
    | with_reducible refine dieMod_follows ?_ (lor_sub (by decide) hU)
    | with_reducible refine nandSend_follows ?_ (lor_sub (by decide) hU)
    | with_reducible refine Follows.ite ?_ ?_
    | split
    | (extract_lets +onlyGivenNames x; refine Follows.cut (x := x) ?_ ?_; rotate_left; clear_value x; intro _; rotate_right; subst x)
    | (extract_lets +onlyGivenNames x; clear_value x)
    | with_reducible exact Follows.refl _ _

theorem dieSuspend_follows {slot die : Nat} {U : Nat} {r s : State} (h : Follows U r s) (hU : 18350081 ||| U = U) :
    Follows U r (dieSuspend slot die s) := by
  unfold dieSuspend
  repeat' first
    | with_reducible assumption
    | intro _
    | with_reducible refine dieMod_follows ?_ (lor_sub (by decide) hU)
    | with_reducible refine diePump_follows ?_ (lor_sub (by decide) hU)
    | split
    | (extract_lets +onlyGivenNames x; refine Follows.cut (x := x) ?_ ?_; rotate_left; clear_value x; intro _; rotate_right; subst x)
    | (extract_lets +onlyGivenNames x; clear_value x)
    | refine Follows.snd (by assumption) ?_
    | refine Follows.fst (by assumption) ?_
    | dsimp only
    | with_reducible exact Follows.refl _ _

theorem readIssue_follows {seat slot : Nat} {c : NandCmd} {U : Nat} {r s : State} (h : Follows U r s) (hU : 18350081 ||| U = U) :
    Follows U r (readIssue seat slot c s) := by
  unfold readIssue
  repeat' first
    | with_reducible assumption
    | intro _
    | with_reducible refine when_follows ?_ ?_
    | with_reducible refine dieSuspend_follows ?_ (lor_sub (by decide) hU)
    | with_reducible refine nandIssue_follows ?_ (lor_sub (by decide) hU)
    | split
    | with_reducible exact Follows.refl _ _

theorem memberRead_follows {id idx m level : Nat} {prio : Bool} {U : Nat} {r s : State} (h : Follows U r s) (hU : 18350081 ||| U = U) :
    Follows U r (memberRead id idx m level prio s) := by
  unfold memberRead
  repeat' first
    | with_reducible assumption
    | intro _
    | with_reducible refine readIssue_follows ?_ (lor_sub (by decide) hU)
    | split
    | with_reducible exact Follows.refl _ _

theorem unitLost_follows {id idx : Nat} {lat : Option Nat} {U : Nat} {r s : State} (h : Follows U r s) (hU : 20439297 ||| U = U) :
    Follows U r (unitLost id idx lat s) := by
  unfold unitLost
  repeat' first
    | with_reducible assumption
    | intro _
    | with_reducible refine unitFail_follows ?_ (lor_sub (by decide) hU)
    | with_reducible refine rowLost_follows ?_ (lor_sub (by decide) hU)
    | with_reducible refine Follows.ite ?_ ?_
    | with_reducible exact Follows.set_map (by assumption) (lor_sub (by decide) hU)
    | (with_reducible refine Follows.set_map ?_ (lor_sub (by decide) hU); first | with_reducible refine unitFail_follows ?_ (lor_sub (by decide) hU) | with_reducible refine rowLost_follows ?_ (lor_sub (by decide) hU) | with_reducible refine Follows.ite ?_ ?_ | with_reducible exact Follows.refl _ _)
    | split
    | (extract_lets +onlyGivenNames x; refine Follows.cut (x := x) ?_ ?_; rotate_left; clear_value x; intro _; rotate_right; subst x)
    | (extract_lets +onlyGivenNames x; clear_value x)
    | with_reducible exact Follows.refl _ _

theorem membersRead_follows {id idx : Nat} {prio : Bool} {order : List Nat} {U : Nat} {r s : State} (h : Follows U r s) (hU : 18481153 ||| U = U) :
    Follows U r (membersRead id idx prio order s) := by
  unfold membersRead
  repeat' first
    | with_reducible assumption
    | intro _
    | with_reducible refine unitMod_follows ?_ (lor_sub (by decide) hU)
    | with_reducible refine foldS_follows ?_ ?_
    | with_reducible refine memberRead_follows ?_ (lor_sub (by decide) hU)
    | split
    | (extract_lets +onlyGivenNames x; refine Follows.cut (x := x) ?_ ?_; rotate_left; clear_value x; intro _; rotate_right; subst x)
    | (extract_lets +onlyGivenNames x; clear_value x)
    | with_reducible exact Follows.refl _ _

theorem unitRebuild_follows {id idx : Nat} {lat : Option Nat} {U : Nat} {r s : State} (h : Follows U r s) (hU : 20963585 ||| U = U) :
    Follows U r (unitRebuild id idx lat s) := by
  unfold unitRebuild
  repeat' first
    | with_reducible assumption
    | intro _
    | with_reducible refine unitLost_follows ?_ (lor_sub (by decide) hU)
    | with_reducible refine bump_follows ?_ (lor_sub (by decide) hU)
    | with_reducible refine unitMod_follows ?_ (lor_sub (by decide) hU)
    | with_reducible refine membersRead_follows ?_ (lor_sub (by decide) hU)
    | with_reducible refine unitFail_follows ?_ (lor_sub (by decide) hU)
    | with_reducible refine Follows.ite ?_ ?_
    | split
    | (extract_lets +onlyGivenNames x; refine Follows.cut (x := x) ?_ ?_; rotate_left; clear_value x; intro _; rotate_right; subst x)
    | (extract_lets +onlyGivenNames x; clear_value x)
    | with_reducible exact Follows.refl _ _

theorem directRead_follows {id idx level : Nat} {front : Bool} {U : Nat} {r s : State} (h : Follows U r s) (hU : 18350081 ||| U = U) :
    Follows U r (directRead id idx level front s) := by
  unfold directRead
  repeat' first
    | with_reducible assumption
    | intro _
    | with_reducible refine when_follows ?_ ?_
    | with_reducible refine dieSuspend_follows ?_ (lor_sub (by decide) hU)
    | with_reducible refine dieMod_follows ?_ (lor_sub (by decide) hU)
    | with_reducible refine diePump_follows ?_ (lor_sub (by decide) hU)
    | with_reducible refine nandIssue_follows ?_ (lor_sub (by decide) hU)
    | with_reducible refine Follows.ite ?_ ?_
    | split
    | (extract_lets +onlyGivenNames x; refine Follows.cut (x := x) ?_ ?_; rotate_left; clear_value x; intro _; rotate_right; subst x)
    | (extract_lets +onlyGivenNames x; clear_value x)
    | refine Follows.snd (by assumption) ?_
    | refine Follows.fst (by assumption) ?_
    | dsimp only
    | with_reducible exact Follows.refl _ _

theorem toOpening_follows {id idx : Nat} {U : Nat} {r s : State} (h : Follows U r s) (hU : 8519681 ||| U = U) :
    Follows U r (toOpening id idx s) := by
  unfold toOpening
  dsimp only
  repeat' first
    | with_reducible assumption
    | intro _
    | with_reducible refine unitMod_follows ?_ (lor_sub (by decide) hU)
    | with_reducible refine slotAsk_follows ?_ (lor_sub (by decide) hU)
    | with_reducible refine Follows.ite ?_ ?_
    | split
    | with_reducible exact Follows.refl _ _

theorem unitKeel_follows {id idx : Nat} {U : Nat} {r s : State} (h : Follows U r s) (hU : 16 ||| U = U) :
    Follows U r (unitKeel id idx s) := by
  unfold unitKeel
  repeat' first
    | with_reducible assumption
    | intro _
    | with_reducible refine keelSend_follows ?_ (lor_sub (by decide) hU)
    | split
    | with_reducible exact Follows.refl _ _

theorem directDone_follows {id idx : Nat} {U : Nat} {r s : State} (h : Follows U r s) (hU : 8519697 ||| U = U) :
    Follows U r (directDone id idx s) := by
  unfold directDone
  dsimp only
  repeat' first
    | with_reducible assumption
    | intro _
    | with_reducible refine unitKeel_follows ?_ (lor_sub (by decide) hU)
    | with_reducible refine unitMod_follows ?_ (lor_sub (by decide) hU)
    | with_reducible refine toOpening_follows ?_ (lor_sub (by decide) hU)
    | with_reducible refine slotAsk_follows ?_ (lor_sub (by decide) hU)
    | with_reducible refine Follows.ite ?_ ?_
    | split
    | with_reducible exact Follows.refl _ _

theorem directLost_follows {id idx : Nat} {checked : Bool} {U : Nat} {r s : State} (h : Follows U r s) (hU : 20963585 ||| U = U) :
    Follows U r (directLost id idx checked s) := by
  unfold directLost
  repeat' first
    | with_reducible assumption
    | intro _
    | with_reducible refine when_follows ?_ ?_
    | with_reducible refine bump_follows ?_ (lor_sub (by decide) hU)
    | with_reducible refine unitMod_follows ?_ (lor_sub (by decide) hU)
    | with_reducible refine unitRebuild_follows ?_ (lor_sub (by decide) hU)
    | with_reducible refine Follows.ite ?_ ?_
    | split
    | (extract_lets +onlyGivenNames x; refine Follows.cut (x := x) ?_ ?_; rotate_left; clear_value x; intro _; rotate_right; subst x)
    | (extract_lets +onlyGivenNames x; clear_value x)
    | with_reducible exact Follows.refl _ _

theorem budgetStart_follows {id idx : Nat} {order : List Nat} {bypass hedge : Bool} {U : Nat} {r s : State} (h : Follows U r s) (hU : 18481153 ||| U = U) :
    Follows U r (budgetStart id idx order bypass hedge s).2 := by
  unfold budgetStart
  repeat' first
    | with_reducible assumption
    | intro _
    | with_reducible refine takeBypass_follows ?_ (lor_sub (by decide) hU)
    | with_reducible refine unitMod_follows ?_ (lor_sub (by decide) hU)
    | with_reducible refine membersRead_follows ?_ (lor_sub (by decide) hU)
    | with_reducible refine Follows.ite ?_ ?_
    | split
    | (extract_lets +onlyGivenNames x; refine Follows.cut (x := x) ?_ ?_; rotate_left; clear_value x; intro _; rotate_right; subst x)
    | (extract_lets +onlyGivenNames x; clear_value x)
    | with_reducible exact Follows.refl _ _

theorem bypassStart_follows {id idx : Nat} {order : List Nat} {hedge : Bool} {U : Nat} {r s : State} (h : Follows U r s) (hU : 18481153 ||| U = U) :
    Follows U r (bypassStart id idx order hedge s).2 := by
  unfold bypassStart
  dsimp only
  repeat' first
    | with_reducible assumption
    | intro _
    | with_reducible refine budgetStart_follows ?_ (lor_sub (by decide) hU)
    | with_reducible refine bump_follows ?_ (lor_sub (by decide) hU)
    | with_reducible refine Follows.ite ?_ ?_
    | split
    | refine Follows.snd (by assumption) ?_
    | refine Follows.fst (by assumption) ?_
    | dsimp only
    | with_reducible exact Follows.refl _ _

theorem rowAhead_follows {pool row : Nat} {U : Nat} {r s : State} (h : Follows U r s) (hU : 262144 ||| U = U) :
    Follows U r (rowAhead pool row s) := by
  unfold rowAhead
  repeat' first
    | with_reducible assumption
    | intro _
    | with_reducible refine bandAhead_follows ?_ (lor_sub (by decide) hU)
    | split
    | with_reducible exact Follows.refl _ _

theorem directRetry_follows {id idx slot : Nat} {units : List Nat} {c : NandCmd} {U : Nat} {r s : State} (h : Follows U r s) (hU : 20963585 ||| U = U) :
    Follows U r (directRetry id idx slot units c s) := by
  unfold directRetry
  dsimp only
  repeat' first
    | with_reducible assumption
    | intro _
    | with_reducible refine foldS_follows ?_ ?_
    | with_reducible refine budgetStart_follows ?_ (lor_sub (by decide) hU)
    | with_reducible refine bump_follows ?_ (lor_sub (by decide) hU)
    | with_reducible refine rowAhead_follows ?_ (lor_sub (by decide) hU)
    | with_reducible refine readIssue_follows ?_ (lor_sub (by decide) hU)
    | with_reducible refine directLost_follows ?_ (lor_sub (by decide) hU)
    | with_reducible refine Follows.ite ?_ ?_
    | split
    | refine Follows.snd (by assumption) ?_
    | refine Follows.fst (by assumption) ?_
    | dsimp only
    | with_reducible exact Follows.refl _ _

theorem membersGone_follows {id idx : Nat} {lat : Option Nat} {checked : Bool} {U : Nat} {r s : State} (h : Follows U r s) (hU : 20963585 ||| U = U) :
    Follows U r (membersGone id idx lat checked s) := by
  unfold membersGone
  dsimp only
  repeat' first
    | with_reducible assumption
    | intro _
    | with_reducible refine unitMod_follows ?_ (lor_sub (by decide) hU)
    | with_reducible refine directRead_follows ?_ (lor_sub (by decide) hU)
    | with_reducible refine unitRebuild_follows ?_ (lor_sub (by decide) hU)
    | with_reducible refine unitLost_follows ?_ (lor_sub (by decide) hU)
    | with_reducible refine Follows.ite ?_ ?_
    | split
    | with_reducible exact Follows.refl _ _

theorem memberFails_follows {id idx m : Nat} {U : Nat} {r s : State} (h : Follows U r s) (hU : 20963585 ||| U = U) :
    Follows U r (memberFails id idx m s) := by
  unfold memberFails
  dsimp only
  repeat' first
    | with_reducible assumption
    | intro _
    | with_reducible refine unitMod_follows ?_ (lor_sub (by decide) hU)
    | with_reducible refine memberRead_follows ?_ (lor_sub (by decide) hU)
    | with_reducible refine membersGone_follows ?_ (lor_sub (by decide) hU)
    | with_reducible refine Follows.ite ?_ ?_
    | split
    | with_reducible exact Follows.refl _ _

theorem memberArrives_follows {id idx m : Nat} {U : Nat} {r s : State} (h : Follows U r s) (hU : 131088 ||| U = U) :
    Follows U r (memberArrives id idx m s) := by
  unfold memberArrives
  repeat' first
    | with_reducible assumption
    | intro _
    | with_reducible refine memberKeel_follows ?_ (lor_sub (by decide) hU)
    | with_reducible refine unitMod_follows ?_ (lor_sub (by decide) hU)
    | with_reducible refine Follows.ite ?_ ?_
    | split
    | (extract_lets +onlyGivenNames x; refine Follows.cut (x := x) ?_ ?_; rotate_left; clear_value x; intro _; rotate_right; subst x)
    | (extract_lets +onlyGivenNames x; clear_value x)
    | with_reducible exact Follows.refl _ _

theorem unitRecord_follows {id idx : Nat} {tenant : Nat} {U : Nat} {r s : State} (h : Follows U r s) (hU : 393216 ||| U = U) :
    Follows U r (unitRecord id idx tenant s) := by
  unfold unitRecord
  repeat' first
    | with_reducible assumption
    | intro _
    | with_reducible refine unitMod_follows ?_ (lor_sub (by decide) hU)
    | with_reducible refine rowMod_follows ?_ (lor_sub (by decide) hU)
    | with_reducible refine Follows.ite ?_ ?_
    | split
    | (extract_lets +onlyGivenNames x; refine Follows.cut (x := x) ?_ ?_; rotate_left; clear_value x; intro _; rotate_right; subst x)
    | (extract_lets +onlyGivenNames x; clear_value x)
    | with_reducible exact Follows.refl _ _

theorem lineStep_follows {seat k line id idx : Nat} {arrived : Bool} {found : State → State} {U : Nat} {r s : State} (h : Follows U r s) (hfound : ∀ x0, Follows U r x0 → Follows U r (found x0)) (hU : 196609 ||| U = U) :
    Follows U r (lineStep seat k line id idx arrived found s) := by
  unfold lineStep
  repeat' first
    | with_reducible assumption
    | intro _
    | with_reducible refine fillWait_follows ?_ (lor_sub (by decide) hU)
    | with_reducible refine unitMod_follows ?_ (lor_sub (by decide) hU)
    | with_reducible refine tcLookup_follows ?_ (lor_sub (by decide) hU)
    | with_reducible refine Follows.ite ?_ ?_
    | refine hfound _ ?_
    | split
    | (extract_lets +onlyGivenNames x; refine Follows.cut (x := x) ?_ ?_; rotate_left; clear_value x; intro _; rotate_right; subst x)
    | (extract_lets +onlyGivenNames x; clear_value x)
    | refine Follows.snd (by assumption) ?_
    | refine Follows.fst (by assumption) ?_
    | dsimp only
    | with_reducible exact Follows.refl _ _

theorem lookupRecord_follows {id idx : Nat} {c : Cmd} {arrived : Bool} {U : Nat} {r s : State} (h : Follows U r s) (hU : 458753 ||| U = U) :
    Follows U r (lookupRecord id idx c arrived s) := by
  unfold lookupRecord
  repeat' first
    | with_reducible assumption
    | intro _
    | with_reducible refine unitMod_follows ?_ (lor_sub (by decide) hU)
    | with_reducible refine lineStep_follows ?_ ?_ (lor_sub (by decide) hU)
    | with_reducible refine unitRecord_follows ?_ (lor_sub (by decide) hU)
    | with_reducible refine Follows.ite ?_ ?_
    | split
    | (extract_lets +onlyGivenNames x; refine Follows.cut (x := x) ?_ ?_; rotate_left; clear_value x; intro _; rotate_right; subst x)
    | (extract_lets +onlyGivenNames x; clear_value x)
    | with_reducible exact Follows.refl _ _

theorem zoneFound_follows {id idx nsid : Nat} {z : Zone} {off : Nat} {U : Nat} {r s : State} (h : Follows U r s) (hU : 393216 ||| U = U) :
    Follows U r (zoneFound id idx nsid z off s) := by
  unfold zoneFound
  dsimp only
  repeat' first
    | with_reducible assumption
    | intro _
    | with_reducible refine unitMod_follows ?_ (lor_sub (by decide) hU)
    | with_reducible refine rowMod_follows ?_ (lor_sub (by decide) hU)
    | with_reducible refine Follows.ite ?_ ?_
    | split
    | refine Follows.snd (by assumption) ?_
    | refine Follows.fst (by assumption) ?_
    | dsimp only
    | with_reducible exact Follows.refl _ _

theorem unitLookup_follows {id idx : Nat} {arrived : Bool} {U : Nat} {r s : State} (h : Follows U r s) (hU : 458753 ||| U = U) :
    Follows U r (unitLookup id idx arrived s) := by
  unfold unitLookup
  dsimp only
  repeat' first
    | with_reducible assumption
    | intro _
    | with_reducible refine unitMod_follows ?_ (lor_sub (by decide) hU)
    | with_reducible refine lineStep_follows ?_ ?_ (lor_sub (by decide) hU)
    | with_reducible refine zoneFound_follows ?_ (lor_sub (by decide) hU)
    | with_reducible refine lookupRecord_follows ?_ (lor_sub (by decide) hU)
    | with_reducible refine Follows.ite ?_ ?_
    | split
    | refine Follows.snd (by assumption) ?_
    | refine Follows.fst (by assumption) ?_
    | dsimp only
    | with_reducible exact Follows.refl _ _

theorem readStart_follows {id : Nat} {U : Nat} {r s : State} (h : Follows U r s) (hU : 458753 ||| U = U) :
    Follows U r (readStart id s) := by
  unfold readStart
  repeat' first
    | with_reducible assumption
    | intro _
    | with_reducible refine foldS_follows ?_ ?_
    | with_reducible refine unitLookup_follows ?_ (lor_sub (by decide) hU)
    | with_reducible exact Follows.set_rds (by assumption) (lor_sub (by decide) hU)
    | (with_reducible refine Follows.set_rds ?_ (lor_sub (by decide) hU); first | with_reducible refine foldS_follows ?_ ?_ | with_reducible refine unitLookup_follows ?_ (lor_sub (by decide) hU) | with_reducible exact Follows.refl _ _)
    | split
    | (extract_lets +onlyGivenNames x; refine Follows.cut (x := x) ?_ ?_; rotate_left; clear_value x; intro _; rotate_right; subst x)
    | (extract_lets +onlyGivenNames x; clear_value x)
    | with_reducible exact Follows.refl _ _

theorem unitDirect_follows {id idx : Nat} {w : Waits} {c : Cmd} {g : Group} {e : Ext} {U : Nat} {r s : State} (h : Follows U r s) (hU : 20963585 ||| U = U) :
    Follows U r (unitDirect id idx w c g e s) := by
  unfold unitDirect
  repeat' first
    | with_reducible assumption
    | intro _
    | with_reducible refine unitRebuild_follows ?_ (lor_sub (by decide) hU)
    | with_reducible refine dieSuspend_follows ?_ (lor_sub (by decide) hU)
    | with_reducible refine bypassStart_follows ?_ (lor_sub (by decide) hU)
    | with_reducible refine bump_follows ?_ (lor_sub (by decide) hU)
    | with_reducible refine unitMod_follows ?_ (lor_sub (by decide) hU)
    | with_reducible refine directRead_follows ?_ (lor_sub (by decide) hU)
    | with_reducible refine Follows.ite ?_ ?_
    | split
    | (extract_lets +onlyGivenNames x; refine Follows.cut (x := x) ?_ ?_; rotate_left; clear_value x; intro _; rotate_right; subst x)
    | (extract_lets +onlyGivenNames x; clear_value x)
    | refine Follows.snd (by assumption) ?_
    | refine Follows.fst (by assumption) ?_
    | dsimp only
    | with_reducible exact Follows.refl _ _

theorem unitSource_follows {id idx : Nat} {w : Waits} {U : Nat} {r s : State} (h : Follows U r s) (hU : 29354305 ||| U = U) :
    Follows U r (unitSource id idx w s) := by
  unfold unitSource
  repeat' first
    | with_reducible assumption
    | intro _
    | with_reducible refine unitFail_follows ?_ (lor_sub (by decide) hU)
    | with_reducible refine mapFault_follows ?_ (lor_sub (by decide) hU)
    | with_reducible refine bump_follows ?_ (lor_sub (by decide) hU)
    | with_reducible refine unitMod_follows ?_ (lor_sub (by decide) hU)
    | with_reducible refine toOpening_follows ?_ (lor_sub (by decide) hU)
    | with_reducible refine unitDirect_follows ?_ (lor_sub (by decide) hU)
    | with_reducible refine unitRebuild_follows ?_ (lor_sub (by decide) hU)
    | with_reducible refine unitOpened_follows ?_ (lor_sub (by decide) hU)
    | with_reducible refine Follows.ite ?_ ?_
    | with_reducible exact Follows.set_dram (by assumption) (lor_sub (by decide) hU)
    | (with_reducible refine Follows.set_dram ?_ (lor_sub (by decide) hU); first | with_reducible refine unitFail_follows ?_ (lor_sub (by decide) hU) | with_reducible refine mapFault_follows ?_ (lor_sub (by decide) hU) | with_reducible refine bump_follows ?_ (lor_sub (by decide) hU) | with_reducible refine unitMod_follows ?_ (lor_sub (by decide) hU) | with_reducible refine toOpening_follows ?_ (lor_sub (by decide) hU) | with_reducible refine unitDirect_follows ?_ (lor_sub (by decide) hU) | with_reducible refine unitRebuild_follows ?_ (lor_sub (by decide) hU) | with_reducible refine unitOpened_follows ?_ (lor_sub (by decide) hU) | with_reducible refine Follows.ite ?_ ?_ | with_reducible exact Follows.refl _ _)
    | split
    | (extract_lets +onlyGivenNames x; refine Follows.cut (x := x) ?_ ?_; rotate_left; clear_value x; intro _; rotate_right; subst x)
    | (extract_lets +onlyGivenNames x; clear_value x)
    | with_reducible exact Follows.refl _ _

theorem unitOpen_follows {id idx : Nat} {lat : Option Nat} {seen : ExtSeen} {U : Nat} {r s : State} (h : Follows U r s) (hU : 29354817 ||| U = U) :
    Follows U r (unitOpen id idx lat seen s) := by
  unfold unitOpen
  dsimp only
  repeat' first
    | with_reducible assumption
    | intro _
    | with_reducible refine slotAsk_follows ?_ (lor_sub (by decide) hU)
    | with_reducible refine when_follows ?_ ?_
    | with_reducible refine slotTouch_follows ?_ (lor_sub (by decide) hU)
    | with_reducible refine bump_follows ?_ (lor_sub (by decide) hU)
    | with_reducible refine engineFault_follows ?_ (lor_sub (by decide) hU)
    | with_reducible refine rowMod_follows ?_ (lor_sub (by decide) hU)
    | with_reducible refine blockReadFault_follows ?_ (lor_sub (by decide) hU)
    | with_reducible refine unitMod_follows ?_ (lor_sub (by decide) hU)
    | with_reducible refine unitOpened_follows ?_ (lor_sub (by decide) hU)
    | with_reducible refine unitFail_follows ?_ (lor_sub (by decide) hU)
    | with_reducible refine headHalt_follows ?_ (lor_sub (by decide) hU)
    | with_reducible refine directRead_follows ?_ (lor_sub (by decide) hU)
    | with_reducible refine unitRebuild_follows ?_ (lor_sub (by decide) hU)
    | with_reducible refine membersGone_follows ?_ (lor_sub (by decide) hU)
    | with_reducible refine Follows.ite ?_ ?_
    | with_reducible exact Follows.set_dram (by assumption) (lor_sub (by decide) hU)
    | (with_reducible refine Follows.set_dram ?_ (lor_sub (by decide) hU); first | with_reducible refine slotAsk_follows ?_ (lor_sub (by decide) hU) | with_reducible refine when_follows ?_ ?_ | with_reducible refine slotTouch_follows ?_ (lor_sub (by decide) hU) | with_reducible refine bump_follows ?_ (lor_sub (by decide) hU) | with_reducible refine engineFault_follows ?_ (lor_sub (by decide) hU) | with_reducible refine rowMod_follows ?_ (lor_sub (by decide) hU) | with_reducible refine blockReadFault_follows ?_ (lor_sub (by decide) hU) | with_reducible refine unitMod_follows ?_ (lor_sub (by decide) hU) | with_reducible refine unitOpened_follows ?_ (lor_sub (by decide) hU) | with_reducible refine unitFail_follows ?_ (lor_sub (by decide) hU) | with_reducible refine headHalt_follows ?_ (lor_sub (by decide) hU) | with_reducible refine directRead_follows ?_ (lor_sub (by decide) hU) | with_reducible refine unitRebuild_follows ?_ (lor_sub (by decide) hU) | with_reducible refine membersGone_follows ?_ (lor_sub (by decide) hU) | with_reducible refine Follows.ite ?_ ?_ | with_reducible exact Follows.refl _ _)
    | split
    | with_reducible exact Follows.refl _ _

theorem unitParity_follows {id idx : Nat} {ok : Bool} {U : Nat} {r s : State} (h : Follows U r s) (hU : 29352257 ||| U = U) :
    Follows U r (unitParity id idx ok s) := by
  unfold unitParity
  repeat' first
    | with_reducible assumption
    | intro _
    | with_reducible refine inverseUse_follows ?_ (lor_sub (by decide) hU)
    | with_reducible refine bumpN_follows ?_ (lor_sub (by decide) hU)
    | with_reducible refine unitMod_follows ?_ (lor_sub (by decide) hU)
    | with_reducible refine toOpening_follows ?_ (lor_sub (by decide) hU)
    | with_reducible refine engineFault_follows ?_ (lor_sub (by decide) hU)
    | with_reducible refine membersGone_follows ?_ (lor_sub (by decide) hU)
    | with_reducible refine unitFail_follows ?_ (lor_sub (by decide) hU)
    | with_reducible refine Follows.ite ?_ ?_
    | split
    | (extract_lets +onlyGivenNames x; refine Follows.cut (x := x) ?_ ?_; rotate_left; clear_value x; intro _; rotate_right; subst x)
    | (extract_lets +onlyGivenNames x; clear_value x)
    | with_reducible exact Follows.refl _ _

end Sys2Proof.Machine
end

