-- ==== Sys2Proof/Laws/FollowsLinkOps.lean ====
section
/-!
SUPPORT. Laws/FollowsLinkOps.lean: the operations of Machine/LinkOps.lean keep what `Follows` states.
-/

namespace Sys2Proof.Machine

open Sys2Proof

theorem bandFreed_follows {pool band : Nat} {U : Nat} {r s : State} (h : Follows U r s) (hU : 331776 ||| U = U) :
    Follows U r (bandFreed pool band s) := by
  unfold bandFreed
  repeat' first
    | with_reducible assumption
    | intro _
    | with_reducible refine groupMod_follows ?_ (lor_sub (by decide) hU)
    | with_reducible refine foldl_follows ?_ ?_
    | with_reducible refine Follows.ite ?_ ?_
    | with_reducible exact Follows.set_upd_map_par (by assumption) (lor_sub (by decide) hU)
    | (with_reducible refine Follows.set_upd_map_par ?_ (lor_sub (by decide) hU); first | with_reducible refine groupMod_follows ?_ (lor_sub (by decide) hU) | with_reducible refine foldl_follows ?_ ?_ | with_reducible refine Follows.ite ?_ ?_ | with_reducible exact Follows.refl _ _)
    | split
    | (extract_lets +onlyGivenNames x; refine Follows.cut (x := x) ?_ ?_; rotate_left; clear_value x; intro _; rotate_right; subst x)
    | (extract_lets +onlyGivenNames x; clear_value x)
    | with_reducible exact Follows.refl _ _

theorem salvageProgram_follows {pool row m : Nat} {U : Nat} {r s : State} (h : Follows U r s) (hU : 18415633 ||| U = U) :
    Follows U r (salvageProgram pool row m s) := by
  unfold salvageProgram
  repeat' first
    | with_reducible assumption
    | intro _
    | with_reducible refine pageProgram_follows ?_ (lor_sub (by decide) hU)
    | split
    | with_reducible exact Follows.refl _ _

theorem salvageEnds_follows {pool row m : Nat} {U : Nat} {r s : State} (h : Follows U r s) (hU : 262144 ||| U = U) :
    Follows U r (salvageEnds pool row m s) := by
  unfold salvageEnds
  repeat' first
    | with_reducible assumption
    | intro _
    | with_reducible refine groupMod_follows ?_ (lor_sub (by decide) hU)
    | split
    | (extract_lets +onlyGivenNames x; refine Follows.cut (x := x) ?_ ?_; rotate_left; clear_value x; intro _; rotate_right; subst x)
    | (extract_lets +onlyGivenNames x; clear_value x)
    | with_reducible exact Follows.refl _ _

theorem salvageLost_follows {pool row m : Nat} {U : Nat} {r s : State} (h : Follows U r s) (hU : 18678033 ||| U = U) :
    Follows U r (salvageLost pool row m s) := by
  unfold salvageLost
  repeat' first
    | with_reducible assumption
    | intro _
    | with_reducible refine rowDecode_follows ?_ (lor_sub (by decide) hU)
    | with_reducible refine salvageProgram_follows ?_ (lor_sub (by decide) hU)
    | with_reducible refine rowLost_follows ?_ (lor_sub (by decide) hU)
    | with_reducible refine salvageEnds_follows ?_ (lor_sub (by decide) hU)
    | with_reducible refine Follows.ite ?_ ?_
    | split
    | with_reducible exact Follows.refl _ _

theorem salvageRetry_follows {pool row m slot : Nat} {c : NandCmd} {U : Nat} {r s : State} (h : Follows U r s) (hU : 18678033 ||| U = U) :
    Follows U r (salvageRetry pool row m slot c s) := by
  unfold salvageRetry
  repeat' first
    | with_reducible assumption
    | intro _
    | with_reducible refine nandIssue_follows ?_ (lor_sub (by decide) hU)
    | with_reducible refine salvageLost_follows ?_ (lor_sub (by decide) hU)
    | split
    | with_reducible exact Follows.refl _ _

theorem nandFails_follows {slot : Nat} {c : NandCmd} {U : Nat} {r s : State} (h : Follows U r s) (hU : 20967761 ||| U = U) :
    Follows U r (nandFails slot c s) := by
  unfold nandFails
  repeat' first
    | with_reducible assumption
    | intro _
    | with_reducible refine foldS_follows ?_ ?_
    | with_reducible refine directLost_follows ?_ (lor_sub (by decide) hU)
    | with_reducible refine memberFails_follows ?_ (lor_sub (by decide) hU)
    | with_reducible refine programFailed_follows ?_ (lor_sub (by decide) hU)
    | with_reducible refine blockRetire_follows ?_ (lor_sub (by decide) hU)
    | with_reducible refine bandFreed_follows ?_ (lor_sub (by decide) hU)
    | with_reducible refine salvageLost_follows ?_ (lor_sub (by decide) hU)
    | with_reducible refine dieMod_follows ?_ (lor_sub (by decide) hU)
    | with_reducible refine Follows.ite ?_ ?_
    | split
    | (extract_lets +onlyGivenNames x; refine Follows.cut (x := x) ?_ ?_; rotate_left; clear_value x; intro _; rotate_right; subst x)
    | (extract_lets +onlyGivenNames x; clear_value x)
    | with_reducible exact Follows.refl _ _

theorem dieEnds_follows {slot die : Nat} {U : Nat} {r s : State} (h : Follows U r s) (hU : 524288 ||| U = U) :
    Follows U r (dieEnds slot die s) := by
  unfold dieEnds
  repeat' first
    | with_reducible assumption
    | intro _
    | with_reducible refine dieMod_follows ?_ (lor_sub (by decide) hU)
    | split
    | (extract_lets +onlyGivenNames x; refine Follows.cut (x := x) ?_ ?_; rotate_left; clear_value x; intro _; rotate_right; subst x)
    | (extract_lets +onlyGivenNames x; clear_value x)
    | with_reducible exact Follows.refl _ _

theorem memberRetry_follows {id idx m slot : Nat} {c : NandCmd} {U : Nat} {r s : State} (h : Follows U r s) (hU : 20963585 ||| U = U) :
    Follows U r (memberRetry id idx m slot c s) := by
  unfold memberRetry
  repeat' first
    | with_reducible assumption
    | intro _
    | with_reducible refine memberFails_follows ?_ (lor_sub (by decide) hU)
    | with_reducible refine bump_follows ?_ (lor_sub (by decide) hU)
    | with_reducible refine when_follows ?_ ?_
    | with_reducible refine rowAhead_follows ?_ (lor_sub (by decide) hU)
    | with_reducible refine readIssue_follows ?_ (lor_sub (by decide) hU)
    | with_reducible refine Follows.ite ?_ ?_
    | split
    | (extract_lets +onlyGivenNames x; refine Follows.cut (x := x) ?_ ?_; rotate_left; clear_value x; intro _; rotate_right; subst x)
    | (extract_lets +onlyGivenNames x; clear_value x)
    | with_reducible exact Follows.refl _ _

theorem slotTime_follows {slot micros : Nat} {U : Nat} {r s : State} (h : Follows U r s) (hU : 131072 ||| U = U) :
    Follows U r (slotTime slot micros s) := by
  unfold slotTime
  repeat' first
    | with_reducible assumption
    | intro _
    | with_reducible exact Follows.set_rds (by assumption) (lor_sub (by decide) hU)
    | (with_reducible refine Follows.set_rds ?_ (lor_sub (by decide) hU); first | with_reducible exact Follows.refl _ _)
    | split
    | (extract_lets +onlyGivenNames x; refine Follows.cut (x := x) ?_ ?_; rotate_left; clear_value x; intro _; rotate_right; subst x)
    | (extract_lets +onlyGivenNames x; clear_value x)
    | refine Follows.snd (by assumption) ?_
    | refine Follows.fst (by assumption) ?_
    | dsimp only
    | with_reducible exact Follows.refl _ _

theorem nandOk_follows {slot : Nat} {c : NandCmd} {micros : Nat} {U : Nat} {r s : State} (h : Follows U r s) (hU : 29356305 ||| U = U) :
    Follows U r (nandOk slot c micros s) := by
  unfold nandOk
  repeat' first
    | with_reducible assumption
    | intro _
    | with_reducible refine foldS_follows ?_ ?_
    | with_reducible refine directDone_follows ?_ (lor_sub (by decide) hU)
    | with_reducible refine slotTime_follows ?_ (lor_sub (by decide) hU)
    | with_reducible refine directRetry_follows ?_ (lor_sub (by decide) hU)
    | with_reducible refine memberRetry_follows ?_ (lor_sub (by decide) hU)
    | with_reducible refine salvageRetry_follows ?_ (lor_sub (by decide) hU)
    | with_reducible refine setLevel_follows ?_ (lor_sub (by decide) hU)
    | with_reducible refine memberArrives_follows ?_ (lor_sub (by decide) hU)
    | with_reducible refine salvageProgram_follows ?_ (lor_sub (by decide) hU)
    | with_reducible refine dieEnds_follows ?_ (lor_sub (by decide) hU)
    | with_reducible refine memberOnFlash_follows ?_ (lor_sub (by decide) hU)
    | with_reducible refine salvageEnds_follows ?_ (lor_sub (by decide) hU)
    | with_reducible refine bandFreed_follows ?_ (lor_sub (by decide) hU)
    | with_reducible refine bump_follows ?_ (lor_sub (by decide) hU)
    | with_reducible refine dieMod_follows ?_ (lor_sub (by decide) hU)
    | with_reducible refine Follows.ite ?_ ?_
    | split
    | (extract_lets +onlyGivenNames x; refine Follows.cut (x := x) ?_ ?_; rotate_left; clear_value x; intro _; rotate_right; subst x)
    | (extract_lets +onlyGivenNames x; clear_value x)
    | with_reducible exact Follows.refl _ _

theorem linkLost_follows {slot : Nat} {U : Nat} {r s : State} (h : Follows U r s) (hU : 20967761 ||| U = U) :
    Follows U r (linkLost slot s) := by
  unfold linkLost
  repeat' first
    | with_reducible assumption
    | intro _
    | with_reducible refine foldS_follows ?_ ?_
    | with_reducible refine nandOwnsEnd_follows ?_ (lor_sub (by decide) hU)
    | with_reducible refine portMod_follows ?_ (lor_sub (by decide) hU)
    | with_reducible refine wrB_follows ?_ (lor_sub (by decide) hU)
    | with_reducible refine slotMod_follows ?_ (lor_sub (by decide) hU)
    | with_reducible refine when_follows ?_ ?_
    | with_reducible refine slotSharesLost_follows ?_ (lor_sub (by decide) hU)
    | with_reducible refine nandFails_follows ?_ (lor_sub (by decide) hU)
    | with_reducible refine foldl_follows ?_ ?_
    | split
    | (extract_lets +onlyGivenNames x; refine Follows.cut (x := x) ?_ ?_; rotate_left; clear_value x; intro _; rotate_right; subst x)
    | (extract_lets +onlyGivenNames x; clear_value x)
    | refine Follows.snd (by assumption) ?_
    | refine Follows.fst (by assumption) ?_
    | dsimp only
    | with_reducible exact Follows.refl _ _

theorem portFail_follows {slot : Nat} {U : Nat} {r s : State} (h : Follows U r s) (hU : 20967761 ||| U = U) :
    Follows U r (portFail slot s) := by
  unfold portFail
  repeat' first
    | with_reducible assumption
    | intro _
    | with_reducible refine wr_follows ?_ (lor_sub (by decide) hU)
    | with_reducible refine setLinkUp_follows ?_ (lor_sub (by decide) hU)
    | with_reducible refine linkLost_follows ?_ (lor_sub (by decide) hU)
    | with_reducible refine Follows.ite ?_ ?_
    | split
    | with_reducible exact Follows.refl _ _

theorem portFault_follows {slot source : Nat} {U : Nat} {r s : State} (h : Follows U r s) (hU : 20967761 ||| U = U) :
    Follows U r (portFault slot source s) := by
  unfold portFault
  repeat' first
    | with_reducible assumption
    | intro _
    | with_reducible refine faultCount_follows ?_ (lor_sub (by decide) hU)
    | with_reducible refine portFail_follows ?_ (lor_sub (by decide) hU)
    | with_reducible refine faultClear_follows ?_ (lor_sub (by decide) hU)
    | with_reducible refine Follows.ite ?_ ?_
    | split
    | (extract_lets +onlyGivenNames x; refine Follows.cut (x := x) ?_ ?_; rotate_left; clear_value x; intro _; rotate_right; subst x)
    | (extract_lets +onlyGivenNames x; clear_value x)
    | refine Follows.snd (by assumption) ?_
    | refine Follows.fst (by assumption) ?_
    | dsimp only
    | with_reducible exact Follows.refl _ _

theorem oarRetrain_follows {slot : Nat} {U : Nat} {r s : State} (h : Follows U r s) (hU : 20967761 ||| U = U) :
    Follows U r (oarRetrain slot s) := by
  unfold oarRetrain
  repeat' first
    | with_reducible assumption
    | intro _
    | with_reducible refine oarRetrainBase_follows ?_ (lor_sub (by decide) hU)
    | with_reducible refine portFault_follows ?_ (lor_sub (by decide) hU)
    | with_reducible refine Follows.ite ?_ ?_
    | split
    | with_reducible exact Follows.refl _ _

theorem protoError_follows {slot : Nat} {U : Nat} {r s : State} (h : Follows U r s) (hU : 20967761 ||| U = U) :
    Follows U r (protoError slot s) := by
  unfold protoError
  repeat' first
    | with_reducible assumption
    | intro _
    | with_reducible refine bump_follows ?_ (lor_sub (by decide) hU)
    | with_reducible refine portFault_follows ?_ (lor_sub (by decide) hU)
    | with_reducible refine oarRetrain_follows ?_ (lor_sub (by decide) hU)
    | split
    | with_reducible exact Follows.refl _ _

theorem bladeFault_follows {slot : Nat} {U : Nat} {r s : State} (h : Follows U r s) (hU : 18710849 ||| U = U) :
    Follows U r (bladeFault slot s) := by
  unfold bladeFault
  repeat' first
    | with_reducible assumption
    | intro _
    | with_reducible refine faultCount_follows ?_ (lor_sub (by decide) hU)
    | with_reducible refine slotSharesLost_follows ?_ (lor_sub (by decide) hU)
    | with_reducible refine faultClear_follows ?_ (lor_sub (by decide) hU)
    | with_reducible refine Follows.ite ?_ ?_
    | split
    | (extract_lets +onlyGivenNames x; refine Follows.cut (x := x) ?_ ?_; rotate_left; clear_value x; intro _; rotate_right; subst x)
    | (extract_lets +onlyGivenNames x; clear_value x)
    | refine Follows.snd (by assumption) ?_
    | refine Follows.fst (by assumption) ?_
    | dsimp only
    | with_reducible exact Follows.refl _ _

theorem nandComplete_follows {slot tag status micros : Nat} {U : Nat} {r s : State} (h : Follows U r s) (hU : 29356497 ||| U = U) :
    Follows U r (nandComplete slot tag status micros s) := by
  unfold nandComplete
  repeat' first
    | with_reducible assumption
    | intro _
    | with_reducible refine protoError_follows ?_ (lor_sub (by decide) hU)
    | with_reducible refine portMod_follows ?_ (lor_sub (by decide) hU)
    | with_reducible refine nandOwnsEnd_follows ?_ (lor_sub (by decide) hU)
    | with_reducible refine when_follows ?_ ?_
    | with_reducible refine dieServed_follows ?_ (lor_sub (by decide) hU)
    | with_reducible refine bump_follows ?_ (lor_sub (by decide) hU)
    | with_reducible refine nandOk_follows ?_ (lor_sub (by decide) hU)
    | with_reducible refine nandIssue_follows ?_ (lor_sub (by decide) hU)
    | with_reducible refine headFenced_follows ?_ (lor_sub (by decide) hU)
    | with_reducible refine nandFails_follows ?_ (lor_sub (by decide) hU)
    | with_reducible refine dieMod_follows ?_ (lor_sub (by decide) hU)
    | with_reducible refine bladeFault_follows ?_ (lor_sub (by decide) hU)
    | with_reducible refine dieEnds_follows ?_ (lor_sub (by decide) hU)
    | with_reducible refine portPump_follows ?_ (lor_sub (by decide) hU)
    | with_reducible refine Follows.ite ?_ ?_
    | split
    | (extract_lets +onlyGivenNames x; refine Follows.cut (x := x) ?_ ?_; rotate_left; clear_value x; intro _; rotate_right; subst x)
    | (extract_lets +onlyGivenNames x; clear_value x)
    | with_reducible exact Follows.refl _ _

theorem nandTimeout_follows {slot tag : Nat} {U : Nat} {r s : State} (h : Follows U r s) (hU : 20967761 ||| U = U) :
    Follows U r (nandTimeout slot tag s) := by
  unfold nandTimeout
  repeat' first
    | with_reducible assumption
    | intro _
    | with_reducible refine portMod_follows ?_ (lor_sub (by decide) hU)
    | with_reducible refine bump_follows ?_ (lor_sub (by decide) hU)
    | with_reducible refine when_follows ?_ ?_
    | with_reducible refine dieServed_follows ?_ (lor_sub (by decide) hU)
    | with_reducible refine bladeFault_follows ?_ (lor_sub (by decide) hU)
    | with_reducible refine nandFails_follows ?_ (lor_sub (by decide) hU)
    | with_reducible refine portPump_follows ?_ (lor_sub (by decide) hU)
    | with_reducible refine Follows.ite ?_ ?_
    | split
    | (extract_lets +onlyGivenNames x; refine Follows.cut (x := x) ?_ ?_; rotate_left; clear_value x; intro _; rotate_right; subst x)
    | (extract_lets +onlyGivenNames x; clear_value x)
    | with_reducible exact Follows.refl _ _

theorem readRecord_follows {slot tag cw : Nat} {raw erased crcOk decodes : Bool} {U : Nat} {r s : State} (h : Follows U r s) (hU : 20967761 ||| U = U) :
    Follows U r (readRecord slot tag cw raw erased crcOk decodes s) := by
  unfold readRecord
  repeat' first
    | with_reducible assumption
    | intro _
    | with_reducible refine protoError_follows ?_ (lor_sub (by decide) hU)
    | with_reducible refine when_follows ?_ ?_
    | with_reducible refine bump_follows ?_ (lor_sub (by decide) hU)
    | with_reducible refine bumpN_follows ?_ (lor_sub (by decide) hU)
    | with_reducible refine portMod_follows ?_ (lor_sub (by decide) hU)
    | with_reducible refine Follows.ite ?_ ?_
    | split
    | (extract_lets +onlyGivenNames x; refine Follows.cut (x := x) ?_ ?_; rotate_left; clear_value x; intro _; rotate_right; subst x)
    | (extract_lets +onlyGivenNames x; clear_value x)
    | with_reducible exact Follows.refl _ _

end Sys2Proof.Machine
end

