-- ==== Sys2Proof/Laws/FollowsNvme.lean ====
section
/-!
SUPPORT. Laws/FollowsNvme.lean: the operations of Machine/Nvme.lean keep what `Follows` states.
-/

namespace Sys2Proof.Machine

open Sys2Proof

theorem adminCmd_follows {seat qp cid need : Nat} {cap : Capsule} {f : Nat → Ctrl → State → State} {U : Nat} {r s : State} (h : Follows U r s) (hf : ∀ x0 x1 x2, Follows U r x2 → Follows U r (f x0 x1 x2)) (hU : 16785409 ||| U = U) :
    Follows U r (adminCmd seat qp cid need cap f s) := by
  unfold adminCmd
  repeat' first
    | with_reducible assumption
    | intro _
    | with_reducible refine fromQp_follows ?_ ?_ (lor_sub (by decide) hU)
    | with_reducible refine countStatus_follows ?_ (lor_sub (by decide) hU)
    | with_reducible refine nvSend_follows ?_ (lor_sub (by decide) hU)
    | with_reducible refine Follows.ite ?_ ?_
    | refine hf _ _ _ ?_
    | split
    | refine Follows.snd (by assumption) ?_
    | refine Follows.fst (by assumption) ?_
    | dsimp only
    | with_reducible exact Follows.refl _ _

theorem connectRefuse_follows {seat qp cid : Nat} {st : NvSts} {U : Nat} {r s : State} (h : Follows U r s) (hU : 16785409 ||| U = U) :
    Follows U r (connectRefuse seat qp cid st s) := by
  unfold connectRefuse
  repeat' first
    | with_reducible assumption
    | intro _
    | with_reducible refine bump_follows ?_ (lor_sub (by decide) hU)
    | with_reducible refine nvSend_follows ?_ (lor_sub (by decide) hU)
    | split
    | with_reducible exact Follows.refl _ _

theorem ctrlTear_follows {seat c : Nat} {U : Nat} {r s : State} (h : Follows U r s) (hU : 18342337 ||| U = U) :
    Follows U r (ctrlTear seat c s) := by
  unfold ctrlTear
  repeat' first
    | with_reducible assumption
    | intro _
    | with_reducible refine foldS_follows ?_ ?_
    | with_reducible refine qpDisconnect_follows ?_ (lor_sub (by decide) hU)
    | with_reducible exact Follows.set_nv (by assumption) (lor_sub (by decide) hU)
    | (with_reducible refine Follows.set_nv ?_ (lor_sub (by decide) hU); first | with_reducible refine foldS_follows ?_ ?_ | with_reducible refine qpDisconnect_follows ?_ (lor_sub (by decide) hU) | with_reducible exact Follows.refl _ _)
    | split
    | (extract_lets +onlyGivenNames x; refine Follows.cut (x := x) ?_ ?_; rotate_left; clear_value x; intro _; rotate_right; subst x)
    | (extract_lets +onlyGivenNames x; clear_value x)
    | with_reducible exact Follows.refl _ _

theorem holdFail_follows {id : Nat} {U : Nat} {r s : State} (h : Follows U r s) (hU : 18276353 ||| U = U) :
    Follows U r (holdFail id s) := by
  unfold holdFail
  repeat' first
    | with_reducible assumption
    | intro _
    | with_reducible refine finishCmd_follows ?_ (lor_sub (by decide) hU)
    | split
    | with_reducible exact Follows.refl _ _

theorem ioArrive_follows {seat qp cid nsid lba count : Nat} {op : CmdOp} {cap : Capsule} {U : Nat} {r s : State} (h : Follows U r s) (hU : 18276353 ||| U = U) :
    Follows U r (ioArrive seat qp cid nsid lba count op cap s) := by
  unfold ioArrive
  repeat' first
    | with_reducible assumption
    | intro _
    | with_reducible refine fromQp_follows ?_ ?_ (lor_sub (by decide) hU)
    | with_reducible refine countStatus_follows ?_ (lor_sub (by decide) hU)
    | with_reducible refine nvSend_follows ?_ (lor_sub (by decide) hU)
    | with_reducible refine bump_follows ?_ (lor_sub (by decide) hU)
    | with_reducible refine setQp_follows ?_ (lor_sub (by decide) hU)
    | with_reducible refine cmdPush_follows ?_ (lor_sub (by decide) hU)
    | with_reducible refine when_follows ?_ ?_
    | with_reducible refine holdFail_follows ?_ (lor_sub (by decide) hU)
    | with_reducible refine Follows.ite ?_ ?_
    | with_reducible exact Follows.set_nv (by assumption) (lor_sub (by decide) hU)
    | (with_reducible refine Follows.set_nv ?_ (lor_sub (by decide) hU); first | with_reducible refine fromQp_follows ?_ ?_ (lor_sub (by decide) hU) | with_reducible refine countStatus_follows ?_ (lor_sub (by decide) hU) | with_reducible refine nvSend_follows ?_ (lor_sub (by decide) hU) | with_reducible refine bump_follows ?_ (lor_sub (by decide) hU) | with_reducible refine setQp_follows ?_ (lor_sub (by decide) hU) | with_reducible refine cmdPush_follows ?_ (lor_sub (by decide) hU) | with_reducible refine when_follows ?_ ?_ | with_reducible refine holdFail_follows ?_ (lor_sub (by decide) hU) | with_reducible refine Follows.ite ?_ ?_ | with_reducible exact Follows.refl _ _)
    | split
    | (extract_lets +onlyGivenNames x; refine Follows.cut (x := x) ?_ ?_; rotate_left; clear_value x; intro _; rotate_right; subst x)
    | (extract_lets +onlyGivenNames x; clear_value x)
    | refine Follows.snd (by assumption) ?_
    | refine Follows.fst (by assumption) ?_
    | dsimp only
    | with_reducible exact Follows.refl _ _

theorem setZone_follows {zk : Nat} {z : Zone} {U : Nat} {r s : State} (h : Follows U r s) (hU : 65536 ||| U = U) :
    Follows U r (setZone zk z s) := by
  unfold setZone
  repeat' first
    | with_reducible assumption
    | intro _
    | with_reducible exact Follows.set_map (by assumption) (lor_sub (by decide) hU)
    | (with_reducible refine Follows.set_map ?_ (lor_sub (by decide) hU); first | with_reducible exact Follows.refl _ _)
    | split
    | (extract_lets +onlyGivenNames x; refine Follows.cut (x := x) ?_ ?_; rotate_left; clear_value x; intro _; rotate_right; subst x)
    | (extract_lets +onlyGivenNames x; clear_value x)
    | with_reducible exact Follows.refl _ _

theorem zoneOpen_follows {zk seat : Nat} {U : Nat} {r s t : State} (h : Follows U r s) (hU : 65536 ||| U = U) (he : zoneOpen zk seat s = some t) : Follows U r t := by
  unfold zoneOpen at he
  dsimp only at he
  repeat' split at he
  all_goals first
    | cases he; first | exact h | exact setZone_follows h (lor_sub (by decide) hU)
    | cases he

theorem zoneAdmit_follows {c : Cmd} {p : NsParams} {U : Nat} {r s : State} (h : Follows U r s) (hU : 65536 ||| U = U) :
    Follows U r (zoneAdmit c p s).2 := by
  unfold zoneAdmit
  repeat' first
    | with_reducible assumption
    | intro _
    | with_reducible refine setZone_follows ?_ (lor_sub (by decide) hU)
    | with_reducible refine Follows.ite ?_ ?_
    | split
    | (extract_lets +onlyGivenNames x; refine Follows.cut (x := x) ?_ ?_; rotate_left; clear_value x; intro _; rotate_right; subst x)
    | (extract_lets +onlyGivenNames x; clear_value x)
    | refine Follows.snd (by assumption) ?_
    | refine Follows.fst (by assumption) ?_
    | dsimp only
    | with_reducible exact Follows.refl _ _
    | exact zoneOpen_follows (by with_reducible assumption) (lor_sub (by decide) hU) (by assumption)

theorem zoneWritesFail_follows {nsid zone size : Nat} {U : Nat} {r s : State} (h : Follows U r s) (hU : 18341889 ||| U = U) :
    Follows U r (zoneWritesFail nsid zone size s) := by
  unfold zoneWritesFail
  repeat' first
    | with_reducible assumption
    | intro _
    | with_reducible refine foldS_follows ?_ ?_
    | with_reducible refine ingestError_follows ?_ (lor_sub (by decide) hU)
    | split
    | refine Follows.snd (by assumption) ?_
    | refine Follows.fst (by assumption) ?_
    | dsimp only
    | with_reducible exact Follows.refl _ _

theorem zoneSeal_follows {pool nsid zone home : Nat} {U : Nat} {r s : State} (h : Follows U r s) (hU : 18714897 ||| U = U) :
    Follows U r (zoneSeal pool nsid zone home s) := by
  unfold zoneSeal
  repeat' first
    | with_reducible assumption
    | intro _
    | with_reducible refine rowClose_follows ?_ (lor_sub (by decide) hU)
    | split
    | with_reducible exact Follows.refl _ _

theorem zoneFree_follows {pool nsid zone home : Nat} {U : Nat} {r s : State} (h : Follows U r s) (hU : 17072449 ||| U = U) :
    Follows U r (zoneFree pool nsid zone home s) := by
  unfold zoneFree
  repeat' first
    | with_reducible assumption
    | intro _
    | with_reducible refine dirtySub_follows ?_ (lor_sub (by decide) hU)
    | with_reducible refine rowMod_follows ?_ (lor_sub (by decide) hU)
    | with_reducible refine redundancy_follows ?_ (lor_sub (by decide) hU)
    | split
    | (extract_lets +onlyGivenNames x; refine Follows.cut (x := x) ?_ ?_; rotate_left; clear_value x; intro _; rotate_right; subst x)
    | (extract_lets +onlyGivenNames x; clear_value x)
    | with_reducible exact Follows.refl _ _

theorem zoneDrop_follows {zk : Nat} {U : Nat} {r s : State} (h : Follows U r s) (hU : 65536 ||| U = U) :
    Follows U r (zoneDrop zk s) := by
  unfold zoneDrop
  repeat' first
    | with_reducible assumption
    | intro _
    | with_reducible refine Follows.ite ?_ ?_
    | with_reducible exact Follows.set_map (by assumption) (lor_sub (by decide) hU)
    | (with_reducible refine Follows.set_map ?_ (lor_sub (by decide) hU); first | with_reducible refine Follows.ite ?_ ?_ | with_reducible exact Follows.refl _ _)
    | split
    | (extract_lets +onlyGivenNames x; refine Follows.cut (x := x) ?_ ?_; rotate_left; clear_value x; intro _; rotate_right; subst x)
    | (extract_lets +onlyGivenNames x; clear_value x)
    | with_reducible exact Follows.refl _ _

theorem zoneAction_follows {c : Cmd} {p : NsParams} {action : Nat} {U : Nat} {r s : State} (h : Follows U r s) (hU : 18870609 ||| U = U) :
    Follows U r (zoneAction c p action s).2 := by
  unfold zoneAction
  repeat' first
    | with_reducible assumption
    | intro _
    | with_reducible refine setZone_follows ?_ (lor_sub (by decide) hU)
    | with_reducible refine zoneWritesFail_follows ?_ (lor_sub (by decide) hU)
    | with_reducible refine zoneSeal_follows ?_ (lor_sub (by decide) hU)
    | with_reducible refine zoneFree_follows ?_ (lor_sub (by decide) hU)
    | with_reducible refine zoneDrop_follows ?_ (lor_sub (by decide) hU)
    | with_reducible refine Follows.ite ?_ ?_
    | with_reducible exact Follows.set_map (by assumption) (lor_sub (by decide) hU)
    | (with_reducible refine Follows.set_map ?_ (lor_sub (by decide) hU); first | with_reducible refine setZone_follows ?_ (lor_sub (by decide) hU) | with_reducible refine zoneWritesFail_follows ?_ (lor_sub (by decide) hU) | with_reducible refine zoneSeal_follows ?_ (lor_sub (by decide) hU) | with_reducible refine zoneFree_follows ?_ (lor_sub (by decide) hU) | with_reducible refine zoneDrop_follows ?_ (lor_sub (by decide) hU) | with_reducible refine Follows.ite ?_ ?_ | with_reducible exact Follows.refl _ _)
    | split
    | (extract_lets +onlyGivenNames x; refine Follows.cut (x := x) ?_ ?_; rotate_left; clear_value x; intro _; rotate_right; subst x)
    | (extract_lets +onlyGivenNames x; clear_value x)
    | refine Follows.snd (by assumption) ?_
    | refine Follows.fst (by assumption) ?_
    | dsimp only
    | with_reducible exact Follows.refl _ _
    | exact zoneOpen_follows (by with_reducible assumption) (lor_sub (by decide) hU) (by assumption)

theorem unitUpdate_follows {nsid pool handle : Nat} {U : Nat} {r s : State} (h : Follows U r s) (hU : 18714897 ||| U = U) :
    Follows U r (unitUpdate nsid pool handle s) := by
  unfold unitUpdate
  repeat' first
    | with_reducible assumption
    | intro _
    | with_reducible refine foldS_follows ?_ ?_
    | with_reducible refine rowClose_follows ?_ (lor_sub (by decide) hU)
    | split
    | with_reducible exact Follows.refl _ _

theorem cmdMatch_follows {id : Nat} {n : Ns} {U : Nat} {r s : State} (h : Follows U r s) (hU : 1064960 ||| U = U) :
    Follows U r (cmdMatch id n s) := by
  unfold cmdMatch
  repeat' first
    | with_reducible assumption
    | intro _
    | with_reducible refine ownStart_follows ?_ (lor_sub (by decide) hU)
    | with_reducible refine stStart_follows ?_ (lor_sub (by decide) hU)
    | with_reducible refine cmdMod_follows ?_ (lor_sub (by decide) hU)
    | split
    | (extract_lets +onlyGivenNames x; refine Follows.cut (x := x) ?_ ?_; rotate_left; clear_value x; intro _; rotate_right; subst x)
    | (extract_lets +onlyGivenNames x; clear_value x)
    | refine Follows.snd (by assumption) ?_
    | refine Follows.fst (by assumption) ?_
    | dsimp only
    | with_reducible exact Follows.refl _ _

theorem writeTake_follows {id : Nat} {c : Cmd} {U : Nat} {r s : State} (h : Follows U r s) (hU : 27259217 ||| U = U) :
    Follows U r (writeTake id c s) := by
  unfold writeTake
  repeat' first
    | with_reducible assumption
    | intro _
    | with_reducible refine cmdMod_follows ?_ (lor_sub (by decide) hU)
    | with_reducible refine locksAsk_follows ?_ (lor_sub (by decide) hU)
    | with_reducible refine lockGo_follows ?_ (lor_sub (by decide) hU)
    | split
    | (extract_lets +onlyGivenNames x; refine Follows.cut (x := x) ?_ ?_; rotate_left; clear_value x; intro _; rotate_right; subst x)
    | (extract_lets +onlyGivenNames x; clear_value x)
    | with_reducible exact Follows.refl _ _

theorem deallocTake_follows {id : Nat} {c : Cmd} {p : NsParams} {U : Nat} {r s : State} (h : Follows U r s) (hU : 27259217 ||| U = U) :
    Follows U r (deallocTake id c p s) := by
  unfold deallocTake
  repeat' first
    | with_reducible assumption
    | intro _
    | with_reducible refine bumpN_follows ?_ (lor_sub (by decide) hU)
    | with_reducible refine finishCmd_follows ?_ (lor_sub (by decide) hU)
    | with_reducible refine cmdMod_follows ?_ (lor_sub (by decide) hU)
    | with_reducible refine locksAsk_follows ?_ (lor_sub (by decide) hU)
    | with_reducible refine lockGo_follows ?_ (lor_sub (by decide) hU)
    | with_reducible refine Follows.ite ?_ ?_
    | split
    | (extract_lets +onlyGivenNames x; refine Follows.cut (x := x) ?_ ?_; rotate_left; clear_value x; intro _; rotate_right; subst x)
    | (extract_lets +onlyGivenNames x; clear_value x)
    | with_reducible exact Follows.refl _ _

theorem cmdGo_follows {id : Nat} {c : Cmd} {p : NsParams} {U : Nat} {r s : State} (h : Follows U r s) (hU : 27259217 ||| U = U) :
    Follows U r (cmdGo id c p s) := by
  unfold cmdGo
  repeat' first
    | with_reducible assumption
    | intro _
    | with_reducible refine readStart_follows ?_ (lor_sub (by decide) hU)
    | with_reducible refine finishCmd_follows ?_ (lor_sub (by decide) hU)
    | with_reducible refine deallocTake_follows ?_ (lor_sub (by decide) hU)
    | with_reducible refine zoneAction_follows ?_ (lor_sub (by decide) hU)
    | with_reducible refine nvData_follows ?_ (lor_sub (by decide) hU)
    | with_reducible refine dropCmd_follows ?_ (lor_sub (by decide) hU)
    | with_reducible refine unitUpdate_follows ?_ (lor_sub (by decide) hU)
    | with_reducible refine zoneAdmit_follows ?_ (lor_sub (by decide) hU)
    | with_reducible refine writeTake_follows ?_ (lor_sub (by decide) hU)
    | with_reducible refine Follows.ite ?_ ?_
    | split
    | (extract_lets +onlyGivenNames x; refine Follows.cut (x := x) ?_ ?_; rotate_left; clear_value x; intro _; rotate_right; subst x)
    | (extract_lets +onlyGivenNames x; clear_value x)
    | refine Follows.snd (by assumption) ?_
    | refine Follows.fst (by assumption) ?_
    | dsimp only
    | with_reducible exact Follows.refl _ _

theorem engineTake_follows {seat : Nat} {U : Nat} {r s : State} (h : Follows U r s) (hU : 29356369 ||| U = U) :
    Follows U r (engineTake seat s) := by
  unfold engineTake
  dsimp only
  repeat' first
    | with_reducible assumption
    | intro _
    | with_reducible refine bumpN_follows ?_ (lor_sub (by decide) hU)
    | with_reducible refine setQp_follows ?_ (lor_sub (by decide) hU)
    | with_reducible refine finishCmd_follows ?_ (lor_sub (by decide) hU)
    | with_reducible refine takeTokens_follows ?_ (lor_sub (by decide) hU)
    | with_reducible refine cmdMatch_follows ?_ (lor_sub (by decide) hU)
    | with_reducible refine cmdGo_follows ?_ (lor_sub (by decide) hU)
    | with_reducible exact Follows.set_nv (by assumption) (lor_sub (by decide) hU)
    | (with_reducible refine Follows.set_nv ?_ (lor_sub (by decide) hU); first | with_reducible refine bumpN_follows ?_ (lor_sub (by decide) hU) | with_reducible refine setQp_follows ?_ (lor_sub (by decide) hU) | with_reducible refine finishCmd_follows ?_ (lor_sub (by decide) hU) | with_reducible refine takeTokens_follows ?_ (lor_sub (by decide) hU) | with_reducible refine cmdMatch_follows ?_ (lor_sub (by decide) hU) | with_reducible refine cmdGo_follows ?_ (lor_sub (by decide) hU) | with_reducible exact Follows.refl _ _)
    | split
    | with_reducible exact Follows.refl _ _

end Sys2Proof.Machine
end

