-- ==== Sys2Proof/Laws/FollowsIngest.lean ====
section
/-!
SUPPORT. Laws/FollowsIngest.lean: the operations of Machine/Ingest.lean keep what `Follows` states.
-/

namespace Sys2Proof.Machine

open Sys2Proof

theorem dictSet_follows {f : Nat → Nat → Fld} {d v : Nat} {U : Nat} {r s : State} (h : Follows U r s) (hU : 1 ||| U = U) :
    Follows U r (dictSet f d v s) := by
  unfold dictSet
  repeat' first
    | with_reducible assumption
    | intro _
    | with_reducible refine foldS_follows ?_ ?_
    | with_reducible refine wr_follows ?_ (lor_sub (by decide) hU)
    | split
    | with_reducible exact Follows.refl _ _

theorem dictEmpty_follows {d : Nat} {U : Nat} {r s : State} (h : Follows U r s) (hU : 32769 ||| U = U) :
    Follows U r (dictEmpty d s) := by
  unfold dictEmpty
  repeat' first
    | with_reducible assumption
    | intro _
    | with_reducible refine dictSet_follows ?_ (lor_sub (by decide) hU)
    | with_reducible exact Follows.set_ing (by assumption) (lor_sub (by decide) hU)
    | (with_reducible refine Follows.set_ing ?_ (lor_sub (by decide) hU); first | with_reducible refine dictSet_follows ?_ (lor_sub (by decide) hU) | with_reducible exact Follows.refl _ _)
    | split
    | (extract_lets +onlyGivenNames x; refine Follows.cut (x := x) ?_ ?_; rotate_left; clear_value x; intro _; rotate_right; subst x)
    | (extract_lets +onlyGivenNames x; clear_value x)
    | with_reducible exact Follows.refl _ _

theorem retireCheck_follows  {U : Nat} {r s : State} (h : Follows U r s) (hU : 16810433 ||| U = U) :
    Follows U r (retireCheck s) := by
  unfold retireCheck
  repeat' first
    | with_reducible assumption
    | intro _
    | with_reducible refine foldS_follows ?_ ?_
    | with_reducible refine dictEmpty_follows ?_ (lor_sub (by decide) hU)
    | with_reducible refine mbxComplete_follows ?_ (lor_sub (by decide) hU)
    | with_reducible refine Follows.ite ?_ ?_
    | split
    | (extract_lets +onlyGivenNames x; refine Follows.cut (x := x) ?_ ?_; rotate_left; clear_value x; intro _; rotate_right; subst x)
    | (extract_lets +onlyGivenNames x; clear_value x)
    | with_reducible exact Follows.refl _ _

theorem strayTake_follows {cmd idx : Nat} {U : Nat} {r s : State} (h : Follows U r s) (hU : 16801793 ||| U = U) :
    Follows U r (strayTake cmd idx s) := by
  unfold strayTake
  repeat' first
    | with_reducible assumption
    | intro _
    | with_reducible refine setQp_follows ?_ (lor_sub (by decide) hU)
    | with_reducible refine qpDrain_follows ?_ (lor_sub (by decide) hU)
    | with_reducible refine pullAll_follows ?_ (lor_sub (by decide) hU)
    | split
    | refine Follows.snd (by assumption) ?_
    | refine Follows.fst (by assumption) ?_
    | dsimp only
    | with_reducible exact Follows.refl _ _

theorem pulled_follows {seat q bytes : Nat} {U : Nat} {r s : State} (h : Follows U r s) (hU : 16785409 ||| U = U) :
    Follows U r (pulled seat q bytes s) := by
  unfold pulled
  repeat' first
    | with_reducible assumption
    | intro _
    | with_reducible refine setQp_follows ?_ (lor_sub (by decide) hU)
    | with_reducible refine qpDrain_follows ?_ (lor_sub (by decide) hU)
    | split
    | (extract_lets +onlyGivenNames x; refine Follows.cut (x := x) ?_ ?_; rotate_left; clear_value x; intro _; rotate_right; subst x)
    | (extract_lets +onlyGivenNames x; clear_value x)
    | with_reducible exact Follows.refl _ _

theorem readResponse_follows {cmd idx data : Nat} {md : Md} {lost : Bool} {err : IngestErr} {U : Nat} {r s : State} (h : Follows U r s) (hU : 27259345 ||| U = U) :
    Follows U r (readResponse cmd idx data md lost err s) := by
  unfold readResponse
  dsimp only
  repeat' first
    | with_reducible assumption
    | intro _
    | with_reducible refine qpFail_follows ?_ (lor_sub (by decide) hU)
    | with_reducible refine fromQp_follows ?_ ?_ (lor_sub (by decide) hU)
    | with_reducible refine cmdMod_follows ?_ (lor_sub (by decide) hU)
    | with_reducible refine blkMod_follows ?_ (lor_sub (by decide) hU)
    | with_reducible refine pulled_follows ?_ (lor_sub (by decide) hU)
    | with_reducible refine engineErr_follows ?_ (lor_sub (by decide) hU)
    | with_reducible refine pullAll_follows ?_ (lor_sub (by decide) hU)
    | with_reducible refine blkLand_follows ?_ (lor_sub (by decide) hU)
    | with_reducible refine strayTake_follows ?_ (lor_sub (by decide) hU)
    | with_reducible refine Follows.ite ?_ ?_
    | split
    | with_reducible exact Follows.refl _ _

theorem fpMiss_follows {cmd idx : Nat} {U : Nat} {r s : State} (h : Follows U r s) (hU : 27259217 ||| U = U) :
    Follows U r (fpMiss cmd idx s) := by
  unfold fpMiss
  repeat' first
    | with_reducible assumption
    | intro _
    | with_reducible refine blkMod_follows ?_ (lor_sub (by decide) hU)
    | with_reducible refine blkReady_follows ?_ (lor_sub (by decide) hU)
    | split
    | (extract_lets +onlyGivenNames x; refine Follows.cut (x := x) ?_ ?_; rotate_left; clear_value x; intro _; rotate_right; subst x)
    | (extract_lets +onlyGivenNames x; clear_value x)
    | with_reducible exact Follows.refl _ _

theorem fpDone_follows {cmd idx : Nat} {err : IngestErr} {U : Nat} {r s : State} (h : Follows U r s) (hU : 27259217 ||| U = U) :
    Follows U r (fpDone cmd idx err s) := by
  unfold fpDone
  repeat' first
    | with_reducible assumption
    | intro _
    | with_reducible refine blkMod_follows ?_ (lor_sub (by decide) hU)
    | with_reducible refine engineErr_follows ?_ (lor_sub (by decide) hU)
    | with_reducible refine slotAsk_follows ?_ (lor_sub (by decide) hU)
    | with_reducible refine slotTouch_follows ?_ (lor_sub (by decide) hU)
    | with_reducible refine digSnoop_follows ?_ (lor_sub (by decide) hU)
    | with_reducible refine bump_follows ?_ (lor_sub (by decide) hU)
    | with_reducible refine fpMiss_follows ?_ (lor_sub (by decide) hU)
    | with_reducible refine fpPut_follows ?_ (lor_sub (by decide) hU)
    | with_reducible refine holdRec_follows ?_ (lor_sub (by decide) hU)
    | with_reducible refine when_follows ?_ ?_
    | with_reducible refine recAdd_follows ?_ (lor_sub (by decide) hU)
    | with_reducible refine Follows.ite ?_ ?_
    | split
    | (extract_lets +onlyGivenNames x; refine Follows.cut (x := x) ?_ ?_; rotate_left; clear_value x; intro _; rotate_right; subst x)
    | (extract_lets +onlyGivenNames x; clear_value x)
    | with_reducible exact Follows.refl _ _

theorem jobEnd_follows {cmd idx : Nat} {verifyOk : Bool} {err : IngestErr} {U : Nat} {r s : State} (h : Follows U r s) (hU : 27259217 ||| U = U) :
    Follows U r (jobEnd cmd idx verifyOk err s) := by
  unfold jobEnd
  repeat' first
    | with_reducible assumption
    | intro _
    | with_reducible refine blkMod_follows ?_ (lor_sub (by decide) hU)
    | with_reducible refine engineErr_follows ?_ (lor_sub (by decide) hU)
    | with_reducible refine bump_follows ?_ (lor_sub (by decide) hU)
    | with_reducible refine blkRaw_follows ?_ (lor_sub (by decide) hU)
    | with_reducible refine engineFault_follows ?_ (lor_sub (by decide) hU)
    | with_reducible refine bumpN_follows ?_ (lor_sub (by decide) hU)
    | with_reducible refine blkReady_follows ?_ (lor_sub (by decide) hU)
    | with_reducible refine Follows.ite ?_ ?_
    | split
    | (extract_lets +onlyGivenNames x; refine Follows.cut (x := x) ?_ ?_; rotate_left; clear_value x; intro _; rotate_right; subst x)
    | (extract_lets +onlyGivenNames x; clear_value x)
    | with_reducible exact Follows.refl _ _

theorem groupTry_follows {seat num lat : Nat} {U : Nat} {r s : State} (h : Follows U r s) (hU : 20439489 ||| U = U) :
    Follows U r (groupTry seat num lat s) := by
  unfold groupTry
  dsimp only
  repeat' first
    | with_reducible assumption
    | intro _
    | with_reducible refine ftLog_follows ?_ (lor_sub (by decide) hU)
    | with_reducible refine linesAsk_follows ?_ (lor_sub (by decide) hU)
    | with_reducible refine when_follows ?_ ?_
    | with_reducible refine bump_follows ?_ (lor_sub (by decide) hU)
    | with_reducible refine grpMod_follows ?_ (lor_sub (by decide) hU)
    | with_reducible refine grpAccept_follows ?_ (lor_sub (by decide) hU)
    | with_reducible refine retireCheck_follows ?_ (lor_sub (by decide) hU)
    | with_reducible refine Follows.ite ?_ ?_
    | split
    | refine Follows.snd (by assumption) ?_
    | refine Follows.fst (by assumption) ?_
    | dsimp only
    | with_reducible exact Follows.refl _ _

end Sys2Proof.Machine
end

