-- ==== Sys2Proof/Laws/FollowsSnapOps.lean ====
section
/-!
SUPPORT. Laws/FollowsSnapOps.lean: the operations of Machine/SnapOps.lean keep what `Follows` states.
-/

namespace Sys2Proof.Machine

open Sys2Proof

theorem snpEvent_follows {ev : Fld} {bit : Nat} {U : Nat} {r s : State} (h : Follows U r s) (hU : 16777537 ||| U = U) :
    Follows U r (snpEvent ev bit s) := by
  unfold snpEvent
  repeat' first
    | with_reducible assumption
    | intro _
    | with_reducible refine event_follows ?_ (lor_sub (by decide) hU)
    | split
    | with_reducible exact Follows.refl _ _

theorem newOwner_follows {nsid : Nat} {U : Nat} {r s : State} (h : Follows U r s) (hU : 4194304 ||| U = U) :
    Follows U r (newOwner nsid s).2 := by
  unfold newOwner
  repeat' first
    | with_reducible assumption
    | intro _
    | with_reducible exact Follows.set_snp (by assumption) (lor_sub (by decide) hU)
    | (with_reducible refine Follows.set_snp ?_ (lor_sub (by decide) hU); first | with_reducible exact Follows.refl _ _)
    | split
    | (extract_lets +onlyGivenNames x; refine Follows.cut (x := x) ?_ ?_; rotate_left; clear_value x; intro _; rotate_right; subst x)
    | (extract_lets +onlyGivenNames x; clear_value x)
    | with_reducible exact Follows.refl _ _

theorem snapsGone_follows  {U : Nat} {r s : State} (h : Follows U r s) (hU : 4194304 ||| U = U) :
    Follows U r (snapsGone s) := by
  unfold snapsGone
  repeat' first
    | with_reducible assumption
    | intro _
    | with_reducible exact Follows.set_snp (by assumption) (lor_sub (by decide) hU)
    | (with_reducible refine Follows.set_snp ?_ (lor_sub (by decide) hU); first | with_reducible exact Follows.refl _ _)
    | split
    | (extract_lets +onlyGivenNames x; refine Follows.cut (x := x) ?_ ?_; rotate_left; clear_value x; intro _; rotate_right; subst x)
    | (extract_lets +onlyGivenNames x; clear_value x)
    | with_reducible exact Follows.refl _ _

theorem dirsShare_follows {src dst : Nat} {U : Nat} {r s : State} (h : Follows U r s) (hU : 65536 ||| U = U) :
    Follows U r (dirsShare src dst s) := by
  unfold dirsShare
  repeat' first
    | with_reducible assumption
    | intro _
    | with_reducible refine foldS_follows ?_ ?_
    | with_reducible refine refreshShared_follows ?_ (lor_sub (by decide) hU)
    | with_reducible exact Follows.set_map (by assumption) (lor_sub (by decide) hU)
    | (with_reducible refine Follows.set_map ?_ (lor_sub (by decide) hU); first | with_reducible refine foldS_follows ?_ ?_ | with_reducible refine refreshShared_follows ?_ (lor_sub (by decide) hU) | with_reducible exact Follows.refl _ _)
    | split
    | (extract_lets +onlyGivenNames x; refine Follows.cut (x := x) ?_ ?_; rotate_left; clear_value x; intro _; rotate_right; subst x)
    | (extract_lets +onlyGivenNames x; clear_value x)
    | refine Follows.snd (by assumption) ?_
    | refine Follows.fst (by assumption) ?_
    | dsimp only
    | with_reducible exact Follows.refl _ _

theorem dirsRetire_follows {nsid owner tenant : Nat} {U : Nat} {r s : State} (h : Follows U r s) (hU : 4259840 ||| U = U) :
    Follows U r (dirsRetire nsid owner tenant s) := by
  unfold dirsRetire
  repeat' first
    | with_reducible assumption
    | intro _
    | with_reducible refine newOwner_follows ?_ (lor_sub (by decide) hU)
    | with_reducible refine foldl_follows ?_ ?_
    | with_reducible refine Follows.ite ?_ ?_
    | with_reducible exact Follows.set_map (by assumption) (lor_sub (by decide) hU)
    | (with_reducible refine Follows.set_map ?_ (lor_sub (by decide) hU); first | with_reducible refine newOwner_follows ?_ (lor_sub (by decide) hU) | with_reducible refine foldl_follows ?_ ?_ | with_reducible refine Follows.ite ?_ ?_ | with_reducible exact Follows.refl _ _)
    | split
    | (extract_lets +onlyGivenNames x; refine Follows.cut (x := x) ?_ ?_; rotate_left; clear_value x; intro _; rotate_right; subst x)
    | (extract_lets +onlyGivenNames x; clear_value x)
    | refine Follows.snd (by assumption) ?_
    | refine Follows.fst (by assumption) ?_
    | dsimp only
    | with_reducible exact Follows.refl _ _

theorem nsRemove_follows {nsid : Nat} {U : Nat} {r s : State} (h : Follows U r s) (hU : 4308992 ||| U = U) :
    Follows U r (nsRemove nsid s) := by
  unfold nsRemove
  repeat' first
    | with_reducible assumption
    | intro _
    | with_reducible refine foldl_follows ?_ ?_
    | with_reducible refine Follows.ite ?_ ?_
    | with_reducible exact Follows.set_nv_ing_map_snp (by assumption) (lor_sub (by decide) hU)
    | (with_reducible refine Follows.set_nv_ing_map_snp ?_ (lor_sub (by decide) hU); first | with_reducible refine foldl_follows ?_ ?_ | with_reducible refine Follows.ite ?_ ?_ | with_reducible exact Follows.refl _ _)
    | split
    | (extract_lets +onlyGivenNames x; refine Follows.cut (x := x) ?_ ?_; rotate_left; clear_value x; intro _; rotate_right; subst x)
    | (extract_lets +onlyGivenNames x; clear_value x)
    | refine Follows.snd (by assumption) ?_
    | refine Follows.fst (by assumption) ?_
    | dsimp only
    | with_reducible exact Follows.refl _ _

theorem snapMod_follows {id : Nat} {f : Snap → Snap} {U : Nat} {r s : State} (h : Follows U r s) (hU : 4194304 ||| U = U) :
    Follows U r (snapMod id f s) := by
  unfold snapMod
  repeat' first
    | with_reducible assumption
    | intro _
    | with_reducible exact Follows.set_snp (by assumption) (lor_sub (by decide) hU)
    | (with_reducible refine Follows.set_snp ?_ (lor_sub (by decide) hU); first | with_reducible exact Follows.refl _ _)
    | split
    | (extract_lets +onlyGivenNames x; refine Follows.cut (x := x) ?_ ?_; rotate_left; clear_value x; intro _; rotate_right; subst x)
    | (extract_lets +onlyGivenNames x; clear_value x)
    | with_reducible exact Follows.refl _ _

theorem imageTake_follows {id i : Nat} {U : Nat} {r s : State} (h : Follows U r s) (hU : 4259840 ||| U = U) :
    Follows U r (imageTake id i s) := by
  unfold imageTake
  repeat' first
    | with_reducible assumption
    | intro _
    | with_reducible refine newOwner_follows ?_ (lor_sub (by decide) hU)
    | with_reducible refine snapMod_follows ?_ (lor_sub (by decide) hU)
    | with_reducible refine dirsShare_follows ?_ (lor_sub (by decide) hU)
    | with_reducible refine Follows.ite ?_ ?_
    | split
    | (extract_lets +onlyGivenNames x; refine Follows.cut (x := x) ?_ ?_; rotate_left; clear_value x; intro _; rotate_right; subst x)
    | (extract_lets +onlyGivenNames x; clear_value x)
    | refine Follows.snd (by assumption) ?_
    | refine Follows.fst (by assumption) ?_
    | dsimp only
    | with_reducible exact Follows.refl _ _

theorem imagesDue_follows {sides : List Nat} {t : Nat} {U : Nat} {r s : State} (h : Follows U r s) (hU : 4259840 ||| U = U) :
    Follows U r (imagesDue sides t s) := by
  unfold imagesDue
  repeat' first
    | with_reducible assumption
    | intro _
    | with_reducible refine foldS_follows ?_ ?_
    | with_reducible refine imageTake_follows ?_ (lor_sub (by decide) hU)
    | split
    | (extract_lets +onlyGivenNames x; refine Follows.cut (x := x) ?_ ?_; rotate_left; clear_value x; intro _; rotate_right; subst x)
    | (extract_lets +onlyGivenNames x; clear_value x)
    | refine Follows.snd (by assumption) ?_
    | refine Follows.fst (by assumption) ?_
    | dsimp only
    | with_reducible exact Follows.refl _ _

theorem snapTake_follows {late : Bool} {id : Nat} {U : Nat} {r s : State} (h : Follows U r s) (hU : 21037377 ||| U = U) :
    Follows U r (snapTake late id s) := by
  unfold snapTake
  repeat' first
    | with_reducible assumption
    | intro _
    | with_reducible refine foldS_follows ?_ ?_
    | with_reducible refine dlogClose_follows ?_ (lor_sub (by decide) hU)
    | with_reducible refine imageTake_follows ?_ (lor_sub (by decide) hU)
    | with_reducible refine snapMod_follows ?_ (lor_sub (by decide) hU)
    | with_reducible refine snpEvent_follows ?_ (lor_sub (by decide) hU)
    | with_reducible refine when_follows ?_ ?_
    | with_reducible refine bump_follows ?_ (lor_sub (by decide) hU)
    | with_reducible refine Follows.ite ?_ ?_
    | split
    | (extract_lets +onlyGivenNames x; refine Follows.cut (x := x) ?_ ?_; rotate_left; clear_value x; intro _; rotate_right; subst x)
    | (extract_lets +onlyGivenNames x; clear_value x)
    | with_reducible exact Follows.refl _ _

theorem snapsEdge_follows  {U : Nat} {r s : State} (h : Follows U r s) (hU : 21037377 ||| U = U) :
    Follows U r (snapsEdge s) := by
  unfold snapsEdge
  repeat' first
    | with_reducible assumption
    | intro _
    | with_reducible refine foldS_follows ?_ ?_
    | with_reducible refine snapTake_follows ?_ (lor_sub (by decide) hU)
    | split
    | (extract_lets +onlyGivenNames x; refine Follows.cut (x := x) ?_ ?_; rotate_left; clear_value x; intro _; rotate_right; subst x)
    | (extract_lets +onlyGivenNames x; clear_value x)
    | refine Follows.snd (by assumption) ?_
    | refine Follows.fst (by assumption) ?_
    | dsimp only
    | with_reducible exact Follows.refl _ _

theorem snapsLate_follows  {U : Nat} {r s : State} (h : Follows U r s) (hU : 21037377 ||| U = U) :
    Follows U r (snapsLate s) := by
  unfold snapsLate
  repeat' first
    | with_reducible assumption
    | intro _
    | with_reducible refine foldS_follows ?_ ?_
    | with_reducible refine snapTake_follows ?_ (lor_sub (by decide) hU)
    | split
    | (extract_lets +onlyGivenNames x; refine Follows.cut (x := x) ?_ ?_; rotate_left; clear_value x; intro _; rotate_right; subst x)
    | (extract_lets +onlyGivenNames x; clear_value x)
    | refine Follows.snd (by assumption) ?_
    | refine Follows.fst (by assumption) ?_
    | dsimp only
    | with_reducible exact Follows.refl _ _

theorem imageClone_follows {n : Nat} {l : Link} {U : Nat} {r s : State} (h : Follows U r s) (hU : 4259840 ||| U = U) :
    Follows U r (imageClone n l s) := by
  unfold imageClone
  repeat' first
    | with_reducible assumption
    | intro _
    | with_reducible refine foldS_follows ?_ ?_
    | with_reducible refine dirsRetire_follows ?_ (lor_sub (by decide) hU)
    | with_reducible refine dirsShare_follows ?_ (lor_sub (by decide) hU)
    | split
    | (extract_lets +onlyGivenNames x; refine Follows.cut (x := x) ?_ ?_; rotate_left; clear_value x; intro _; rotate_right; subst x)
    | (extract_lets +onlyGivenNames x; clear_value x)
    | refine Follows.snd (by assumption) ?_
    | refine Follows.fst (by assumption) ?_
    | dsimp only
    | with_reducible exact Follows.refl _ _

theorem imageSwap_follows {n : Nat} {l : Link} {U : Nat} {r s : State} (h : Follows U r s) (hU : 4259840 ||| U = U) :
    Follows U r (imageSwap n l s) := by
  unfold imageSwap
  repeat' first
    | with_reducible assumption
    | intro _
    | with_reducible refine foldS_follows ?_ ?_
    | with_reducible refine dirsRetire_follows ?_ (lor_sub (by decide) hU)
    | with_reducible refine dirsShare_follows ?_ (lor_sub (by decide) hU)
    | split
    | (extract_lets +onlyGivenNames x; refine Follows.cut (x := x) ?_ ?_; rotate_left; clear_value x; intro _; rotate_right; subst x)
    | (extract_lets +onlyGivenNames x; clear_value x)
    | refine Follows.snd (by assumption) ?_
    | refine Follows.fst (by assumption) ?_
    | dsimp only
    | with_reducible exact Follows.refl _ _

theorem imageDrop_follows {n : Nat} {l : Link} {U : Nat} {r s : State} (h : Follows U r s) (hU : 4259840 ||| U = U) :
    Follows U r (imageDrop n l s) := by
  unfold imageDrop
  repeat' first
    | with_reducible assumption
    | intro _
    | with_reducible refine foldS_follows ?_ ?_
    | with_reducible refine dirsRetire_follows ?_ (lor_sub (by decide) hU)
    | split
    | (extract_lets +onlyGivenNames x; refine Follows.cut (x := x) ?_ ?_; rotate_left; clear_value x; intro _; rotate_right; subst x)
    | (extract_lets +onlyGivenNames x; clear_value x)
    | refine Follows.snd (by assumption) ?_
    | refine Follows.fst (by assumption) ?_
    | dsimp only
    | with_reducible exact Follows.refl _ _

theorem replicaSet_follows {l : List Nat} {b : Bool} {U : Nat} {r s : State} (h : Follows U r s) (hU : 16384 ||| U = U) :
    Follows U r (replicaSet l b s) := by
  unfold replicaSet
  repeat' first
    | with_reducible assumption
    | intro _
    | with_reducible refine foldS_follows ?_ ?_
    | with_reducible exact Follows.set_nv (by assumption) (lor_sub (by decide) hU)
    | (with_reducible refine Follows.set_nv ?_ (lor_sub (by decide) hU); first | with_reducible refine foldS_follows ?_ ?_ | with_reducible exact Follows.refl _ _)
    | split
    | (extract_lets +onlyGivenNames x; refine Follows.cut (x := x) ?_ ?_; rotate_left; clear_value x; intro _; rotate_right; subst x)
    | (extract_lets +onlyGivenNames x; clear_value x)
    | with_reducible exact Follows.refl _ _

theorem linkInstall_follows {n : Nat} {p : LinkParams} {U : Nat} {r s : State} (h : Follows U r s) (hU : 4276224 ||| U = U) :
    Follows U r (linkInstall n p s) := by
  unfold linkInstall
  repeat' first
    | with_reducible assumption
    | intro _
    | with_reducible refine replicaSet_follows ?_ (lor_sub (by decide) hU)
    | with_reducible refine imageClone_follows ?_ (lor_sub (by decide) hU)
    | with_reducible refine Follows.ite ?_ ?_
    | with_reducible exact Follows.set_snp (by assumption) (lor_sub (by decide) hU)
    | (with_reducible refine Follows.set_snp ?_ (lor_sub (by decide) hU); first | with_reducible refine replicaSet_follows ?_ (lor_sub (by decide) hU) | with_reducible refine imageClone_follows ?_ (lor_sub (by decide) hU) | with_reducible refine Follows.ite ?_ ?_ | with_reducible exact Follows.refl _ _)
    | split
    | (extract_lets +onlyGivenNames x; refine Follows.cut (x := x) ?_ ?_; rotate_left; clear_value x; intro _; rotate_right; subst x)
    | (extract_lets +onlyGivenNames x; clear_value x)
    | with_reducible exact Follows.refl _ _

theorem linkRemove_follows {n : Nat} {U : Nat} {r s : State} (h : Follows U r s) (hU : 4259840 ||| U = U) :
    Follows U r (linkRemove n s) := by
  unfold linkRemove
  repeat' first
    | with_reducible assumption
    | intro _
    | with_reducible refine when_follows ?_ ?_
    | with_reducible refine imageDrop_follows ?_ (lor_sub (by decide) hU)
    | with_reducible exact Follows.set_snp (by assumption) (lor_sub (by decide) hU)
    | (with_reducible refine Follows.set_snp ?_ (lor_sub (by decide) hU); first | with_reducible refine when_follows ?_ ?_ | with_reducible refine imageDrop_follows ?_ (lor_sub (by decide) hU) | with_reducible exact Follows.refl _ _)
    | split
    | (extract_lets +onlyGivenNames x; refine Follows.cut (x := x) ?_ ?_; rotate_left; clear_value x; intro _; rotate_right; subst x)
    | (extract_lets +onlyGivenNames x; clear_value x)
    | with_reducible exact Follows.refl _ _

theorem snapDrop_follows {id : Nat} {U : Nat} {r s : State} (h : Follows U r s) (hU : 4259840 ||| U = U) :
    Follows U r (snapDrop id s) := by
  unfold snapDrop
  repeat' first
    | with_reducible assumption
    | intro _
    | with_reducible refine foldS_follows ?_ ?_
    | with_reducible refine snapMod_follows ?_ (lor_sub (by decide) hU)
    | with_reducible refine snapsGone_follows ?_ (lor_sub (by decide) hU)
    | with_reducible refine Follows.ite ?_ ?_
    | with_reducible exact Follows.set_map (by assumption) (lor_sub (by decide) hU)
    | (with_reducible refine Follows.set_map ?_ (lor_sub (by decide) hU); first | with_reducible refine foldS_follows ?_ ?_ | with_reducible refine snapMod_follows ?_ (lor_sub (by decide) hU) | with_reducible refine snapsGone_follows ?_ (lor_sub (by decide) hU) | with_reducible refine Follows.ite ?_ ?_ | with_reducible exact Follows.refl _ _)
    | with_reducible exact Follows.set_snp (by assumption) (lor_sub (by decide) hU)
    | (with_reducible refine Follows.set_snp ?_ (lor_sub (by decide) hU); first | with_reducible refine foldS_follows ?_ ?_ | with_reducible refine snapMod_follows ?_ (lor_sub (by decide) hU) | with_reducible refine snapsGone_follows ?_ (lor_sub (by decide) hU) | with_reducible refine Follows.ite ?_ ?_ | with_reducible exact Follows.refl _ _)
    | split
    | (extract_lets +onlyGivenNames x; refine Follows.cut (x := x) ?_ ?_; rotate_left; clear_value x; intro _; rotate_right; subst x)
    | (extract_lets +onlyGivenNames x; clear_value x)
    | with_reducible exact Follows.refl _ _

theorem imagesSplit_follows {seat ext : Nat} {q : Option Nat} {U : Nat} {r s : State} (h : Follows U r s) (hU : 65536 ||| U = U) :
    Follows U r (imagesSplit seat ext q s) := by
  unfold imagesSplit
  repeat' first
    | with_reducible assumption
    | intro _
    | with_reducible refine foldS_follows ?_ ?_
    | with_reducible refine dirsShare_follows ?_ (lor_sub (by decide) hU)
    | with_reducible refine Follows.ite ?_ ?_
    | split
    | (extract_lets +onlyGivenNames x; refine Follows.cut (x := x) ?_ ?_; rotate_left; clear_value x; intro _; rotate_right; subst x)
    | (extract_lets +onlyGivenNames x; clear_value x)
    | refine Follows.snd (by assumption) ?_
    | refine Follows.fst (by assumption) ?_
    | dsimp only
    | with_reducible exact Follows.refl _ _

end Sys2Proof.Machine
end

