-- ==== Sys2Proof/Laws/FollowsMapRun.lean ====
section
/-!
SUPPORT. Laws/FollowsMapRun.lean: the operations of Machine/MapRun.lean keep what `Follows` states.
-/

namespace Sys2Proof.Machine

open Sys2Proof

theorem entTag_follows {owner lba tag : Nat} {U : Nat} {r s : State} (h : Follows U r s) (hU : 65536 ||| U = U) :
    Follows U r (entTag owner lba tag s) := by
  unfold entTag
  repeat' first
    | with_reducible assumption
    | intro _
    | with_reducible exact Follows.set_map (by assumption) (lor_sub (by decide) hU)
    | (with_reducible refine Follows.set_map ?_ (lor_sub (by decide) hU); first | with_reducible exact Follows.refl _ _)
    | split
    | (extract_lets +onlyGivenNames x; refine Follows.cut (x := x) ?_ ?_; rotate_left; clear_value x; intro _; rotate_right; subst x)
    | (extract_lets +onlyGivenNames x; clear_value x)
    | with_reducible exact Follows.refl _ _

theorem recUsed_follows {tenant handle : Nat} {U : Nat} {r s : State} (h : Follows U r s) (hU : 65536 ||| U = U) :
    Follows U r (recUsed tenant handle s) := by
  unfold recUsed
  repeat' first
    | with_reducible assumption
    | intro _
    | with_reducible exact Follows.set_map (by assumption) (lor_sub (by decide) hU)
    | (with_reducible refine Follows.set_map ?_ (lor_sub (by decide) hU); first | with_reducible exact Follows.refl _ _)
    | split
    | (extract_lets +onlyGivenNames x; refine Follows.cut (x := x) ?_ ?_; rotate_left; clear_value x; intro _; rotate_right; subst x)
    | (extract_lets +onlyGivenNames x; clear_value x)
    | with_reducible exact Follows.refl _ _

theorem rowReplay_follows {pool row seat stream : Nat} {U : Nat} {r s : State} (h : Follows U r s) (hU : 262144 ||| U = U) :
    Follows U r (rowReplay pool row seat stream s) := by
  unfold rowReplay
  repeat' first
    | with_reducible assumption
    | intro _
    | with_reducible refine groupMod_follows ?_ (lor_sub (by decide) hU)
    | with_reducible refine Follows.ite ?_ ?_
    | split
    | (extract_lets +onlyGivenNames x; refine Follows.cut (x := x) ?_ ?_; rotate_left; clear_value x; intro _; rotate_right; subst x)
    | (extract_lets +onlyGivenNames x; clear_value x)
    | with_reducible exact Follows.refl _ _

theorem countSet_follows {tenant handle n : Nat} {U : Nat} {r s : State} (h : Follows U r s) (hU : 65537 ||| U = U) :
    Follows U r (countSet tenant handle n s) := by
  unfold countSet
  repeat' first
    | with_reducible assumption
    | intro _
    | with_reducible refine clear_follows ?_ (lor_sub (by decide) hU)
    | with_reducible refine setRec_follows ?_ (lor_sub (by decide) hU)
    | with_reducible refine recWrite_follows ?_ (lor_sub (by decide) hU)
    | with_reducible refine foldl_follows ?_ ?_
    | with_reducible refine Follows.ite ?_ ?_
    | with_reducible exact Follows.set_map (by assumption) (lor_sub (by decide) hU)
    | (with_reducible refine Follows.set_map ?_ (lor_sub (by decide) hU); first | with_reducible refine clear_follows ?_ (lor_sub (by decide) hU) | with_reducible refine setRec_follows ?_ (lor_sub (by decide) hU) | with_reducible refine recWrite_follows ?_ (lor_sub (by decide) hU) | with_reducible refine foldl_follows ?_ ?_ | with_reducible refine Follows.ite ?_ ?_ | with_reducible exact Follows.refl _ _)
    | split
    | (extract_lets +onlyGivenNames x; refine Follows.cut (x := x) ?_ ?_; rotate_left; clear_value x; intro _; rotate_right; subst x)
    | (extract_lets +onlyGivenNames x; clear_value x)
    | refine Follows.snd (by assumption) ?_
    | refine Follows.fst (by assumption) ?_
    | dsimp only
    | with_reducible exact Follows.refl _ _

theorem deltaReplay_follows {seat : Nat} {d : Delta} {U : Nat} {r s : State} (h : Follows U r s) (hU : 327681 ||| U = U) :
    Follows U r (deltaReplay seat d s) := by
  unfold deltaReplay
  repeat' first
    | with_reducible assumption
    | intro _
    | with_reducible refine zoneCommit_follows ?_ (lor_sub (by decide) hU)
    | with_reducible refine recPage_follows ?_ (lor_sub (by decide) hU)
    | with_reducible refine setRec_follows ?_ (lor_sub (by decide) hU)
    | with_reducible refine recWrite_follows ?_ (lor_sub (by decide) hU)
    | with_reducible refine recUsed_follows ?_ (lor_sub (by decide) hU)
    | with_reducible refine commitEnt_follows ?_ (lor_sub (by decide) hU)
    | with_reducible refine entTag_follows ?_ (lor_sub (by decide) hU)
    | with_reducible refine incRef_follows ?_ (lor_sub (by decide) hU)
    | with_reducible refine when_follows ?_ ?_
    | with_reducible refine zoneZero_follows ?_ (lor_sub (by decide) hU)
    | with_reducible refine foldS_follows ?_ ?_
    | with_reducible refine commitDealloc_follows ?_ (lor_sub (by decide) hU)
    | with_reducible refine rowReplay_follows ?_ (lor_sub (by decide) hU)
    | with_reducible refine segsSet_follows ?_ (lor_sub (by decide) hU)
    | with_reducible refine countSet_follows ?_ (lor_sub (by decide) hU)
    | with_reducible refine Follows.ite ?_ ?_
    | split
    | (extract_lets +onlyGivenNames x; refine Follows.cut (x := x) ?_ ?_; rotate_left; clear_value x; intro _; rotate_right; subst x)
    | (extract_lets +onlyGivenNames x; clear_value x)
    | refine Follows.snd (by assumption) ?_
    | refine Follows.fst (by assumption) ?_
    | dsimp only
    | with_reducible exact Follows.refl _ _

theorem slcResize_follows  {U : Nat} {r s : State} (h : Follows U r s) (hU : 262144 ||| U = U) :
    Follows U r (slcResize s) := by
  unfold slcResize
  repeat' first
    | with_reducible assumption
    | intro _
    | with_reducible refine foldS_follows ?_ ?_
    | with_reducible refine groupMod_follows ?_ (lor_sub (by decide) hU)
    | split
    | (extract_lets +onlyGivenNames x; refine Follows.cut (x := x) ?_ ?_; rotate_left; clear_value x; intro _; rotate_right; subst x)
    | (extract_lets +onlyGivenNames x; clear_value x)
    | refine Follows.snd (by assumption) ?_
    | refine Follows.fst (by assumption) ?_
    | dsimp only
    | with_reducible exact Follows.refl _ _

theorem ckptStart_follows  {U : Nat} {r s : State} (h : Follows U r s) (hU : 327681 ||| U = U) :
    Follows U r (ckptStart s) := by
  unfold ckptStart
  repeat' first
    | with_reducible assumption
    | intro _
    | with_reducible refine foldS_follows ?_ ?_
    | with_reducible refine dlogClose_follows ?_ (lor_sub (by decide) hU)
    | with_reducible refine bump_follows ?_ (lor_sub (by decide) hU)
    | with_reducible refine slcResize_follows ?_ (lor_sub (by decide) hU)
    | with_reducible refine wr_follows ?_ (lor_sub (by decide) hU)
    | with_reducible refine Follows.ite ?_ ?_
    | with_reducible exact Follows.set_map (by assumption) (lor_sub (by decide) hU)
    | (with_reducible refine Follows.set_map ?_ (lor_sub (by decide) hU); first | with_reducible refine foldS_follows ?_ ?_ | with_reducible refine dlogClose_follows ?_ (lor_sub (by decide) hU) | with_reducible refine bump_follows ?_ (lor_sub (by decide) hU) | with_reducible refine slcResize_follows ?_ (lor_sub (by decide) hU) | with_reducible refine wr_follows ?_ (lor_sub (by decide) hU) | with_reducible refine Follows.ite ?_ ?_ | with_reducible exact Follows.refl _ _)
    | split
    | (extract_lets +onlyGivenNames x; refine Follows.cut (x := x) ?_ ?_; rotate_left; clear_value x; intro _; rotate_right; subst x)
    | (extract_lets +onlyGivenNames x; clear_value x)
    | with_reducible exact Follows.refl _ _

theorem ckptMod_follows {f : Ckpt → Ckpt} {U : Nat} {r s : State} (h : Follows U r s) (hU : 65536 ||| U = U) :
    Follows U r (ckptMod f s) := by
  unfold ckptMod
  repeat' first
    | with_reducible assumption
    | intro _
    | with_reducible exact Follows.set_map (by assumption) (lor_sub (by decide) hU)
    | (with_reducible refine Follows.set_map ?_ (lor_sub (by decide) hU); first | with_reducible exact Follows.refl _ _)
    | split
    | (extract_lets +onlyGivenNames x; refine Follows.cut (x := x) ?_ ?_; rotate_left; clear_value x; intro _; rotate_right; subst x)
    | (extract_lets +onlyGivenNames x; clear_value x)
    | with_reducible exact Follows.refl _ _

theorem imageWrite_follows {seat : Nat} {h : PageHead} {U : Nat} {r s : State} (hs : Follows U r s) (hU : 65536 ||| U = U) :
    Follows U r (imageWrite seat h s).2 := by
  unfold imageWrite
  repeat' first
    | with_reducible assumption
    | intro _
    | with_reducible refine pageClose_follows ?_ (lor_sub (by decide) hU)
    | with_reducible refine headsDone_follows ?_ (lor_sub (by decide) hU)
    | split
    | (extract_lets +onlyGivenNames x; refine Follows.cut (x := x) ?_ ?_; rotate_left; clear_value x; intro _; rotate_right; subst x)
    | (extract_lets +onlyGivenNames x; clear_value x)
    | with_reducible exact Follows.refl _ _

theorem imagesProgrammed_follows {seat : Nat} {U : Nat} {r s : State} (h : Follows U r s) (hU : 65537 ||| U = U) :
    Follows U r (imagesProgrammed seat s) := by
  unfold imagesProgrammed
  repeat' first
    | with_reducible assumption
    | intro _
    | with_reducible refine foldS_follows ?_ ?_
    | with_reducible refine imageWrite_follows ?_ (lor_sub (by decide) hU)
    | with_reducible refine ckptMod_follows ?_ (lor_sub (by decide) hU)
    | with_reducible refine wr_follows ?_ (lor_sub (by decide) hU)
    | with_reducible refine Follows.ite ?_ ?_
    | with_reducible exact Follows.set_map (by assumption) (lor_sub (by decide) hU)
    | (with_reducible refine Follows.set_map ?_ (lor_sub (by decide) hU); first | with_reducible refine foldS_follows ?_ ?_ | with_reducible refine imageWrite_follows ?_ (lor_sub (by decide) hU) | with_reducible refine ckptMod_follows ?_ (lor_sub (by decide) hU) | with_reducible refine wr_follows ?_ (lor_sub (by decide) hU) | with_reducible refine Follows.ite ?_ ?_ | with_reducible exact Follows.refl _ _)
    | split
    | (extract_lets +onlyGivenNames x; refine Follows.cut (x := x) ?_ ?_; rotate_left; clear_value x; intro _; rotate_right; subst x)
    | (extract_lets +onlyGivenNames x; clear_value x)
    | refine Follows.snd (by assumption) ?_
    | refine Follows.fst (by assumption) ?_
    | dsimp only
    | with_reducible exact Follows.refl _ _

theorem anchorWrite_follows {seat root gen ext start : Nat} {intact : Bool} {U : Nat} {r s : State} (h : Follows U r s) (hU : 65537 ||| U = U) :
    Follows U r (anchorWrite seat root gen ext start intact s) := by
  unfold anchorWrite
  repeat' first
    | with_reducible assumption
    | intro _
    | with_reducible refine ancWrote_follows ?_ (lor_sub (by decide) hU)
    | with_reducible exact Follows.set_map (by assumption) (lor_sub (by decide) hU)
    | (with_reducible refine Follows.set_map ?_ (lor_sub (by decide) hU); first | with_reducible refine ancWrote_follows ?_ (lor_sub (by decide) hU) | with_reducible exact Follows.refl _ _)
    | split
    | (extract_lets +onlyGivenNames x; refine Follows.cut (x := x) ?_ ?_; rotate_left; clear_value x; intro _; rotate_right; subst x)
    | (extract_lets +onlyGivenNames x; clear_value x)
    | with_reducible exact Follows.refl _ _

theorem rootProgrammed_follows {seat : Nat} {intact : Bool} {U : Nat} {r s : State} (h : Follows U r s) (hU : 65537 ||| U = U) :
    Follows U r (rootProgrammed seat intact s) := by
  unfold rootProgrammed
  repeat' first
    | with_reducible assumption
    | intro _
    | with_reducible refine imageWrite_follows ?_ (lor_sub (by decide) hU)
    | with_reducible refine ckptMod_follows ?_ (lor_sub (by decide) hU)
    | with_reducible refine anchorWrite_follows ?_ (lor_sub (by decide) hU)
    | with_reducible refine when_follows ?_ ?_
    | with_reducible refine Follows.ite ?_ ?_
    | with_reducible exact Follows.set_map (by assumption) (lor_sub (by decide) hU)
    | (with_reducible refine Follows.set_map ?_ (lor_sub (by decide) hU); first | with_reducible refine imageWrite_follows ?_ (lor_sub (by decide) hU) | with_reducible refine ckptMod_follows ?_ (lor_sub (by decide) hU) | with_reducible refine anchorWrite_follows ?_ (lor_sub (by decide) hU) | with_reducible refine when_follows ?_ ?_ | with_reducible refine Follows.ite ?_ ?_ | with_reducible exact Follows.refl _ _)
    | split
    | (extract_lets +onlyGivenNames x; refine Follows.cut (x := x) ?_ ?_; rotate_left; clear_value x; intro _; rotate_right; subst x)
    | (extract_lets +onlyGivenNames x; clear_value x)
    | refine Follows.snd (by assumption) ?_
    | refine Follows.fst (by assumption) ?_
    | dsimp only
    | with_reducible exact Follows.refl _ _

theorem ckptTrim_follows  {U : Nat} {r s : State} (h : Follows U r s) (hU : 65536 ||| U = U) :
    Follows U r (ckptTrim s) := by
  unfold ckptTrim
  repeat' first
    | with_reducible assumption
    | intro _
    | with_reducible exact Follows.set_map (by assumption) (lor_sub (by decide) hU)
    | (with_reducible refine Follows.set_map ?_ (lor_sub (by decide) hU); first | with_reducible exact Follows.refl _ _)
    | split
    | (extract_lets +onlyGivenNames x; refine Follows.cut (x := x) ?_ ?_; rotate_left; clear_value x; intro _; rotate_right; subst x)
    | (extract_lets +onlyGivenNames x; clear_value x)
    | refine Follows.snd (by assumption) ?_
    | refine Follows.fst (by assumption) ?_
    | dsimp only
    | with_reducible exact Follows.refl _ _

theorem mediaRaise_follows  {U : Nat} {r s : State} (h : Follows U r s) (hU : 4097 ||| U = U) :
    Follows U r (mediaRaise s) := by
  unfold mediaRaise
  repeat' first
    | with_reducible assumption
    | intro _
    | with_reducible refine wr_follows ?_ (lor_sub (by decide) hU)
    | with_reducible refine Follows.ite ?_ ?_
    | with_reducible exact Follows.set_upd (by assumption) (lor_sub (by decide) hU)
    | (with_reducible refine Follows.set_upd ?_ (lor_sub (by decide) hU); first | with_reducible refine wr_follows ?_ (lor_sub (by decide) hU) | with_reducible refine Follows.ite ?_ ?_ | with_reducible exact Follows.refl _ _)
    | split
    | (extract_lets +onlyGivenNames x; refine Follows.cut (x := x) ?_ ?_; rotate_left; clear_value x; intro _; rotate_right; subst x)
    | (extract_lets +onlyGivenNames x; clear_value x)
    | with_reducible exact Follows.refl _ _

theorem ckptDone_follows  {U : Nat} {r s : State} (h : Follows U r s) (hU : 1119233 ||| U = U) :
    Follows U r (ckptDone s) := by
  unfold ckptDone
  repeat' first
    | with_reducible assumption
    | intro _
    | with_reducible refine foldS_follows ?_ ?_
    | with_reducible refine wr_follows ?_ (lor_sub (by decide) hU)
    | with_reducible refine ckptTrim_follows ?_ (lor_sub (by decide) hU)
    | with_reducible refine pairControl_follows ?_ (lor_sub (by decide) hU)
    | with_reducible refine mediaRaise_follows ?_ (lor_sub (by decide) hU)
    | with_reducible refine Follows.ite ?_ ?_
    | with_reducible exact Follows.set_pwr_map (by assumption) (lor_sub (by decide) hU)
    | (with_reducible refine Follows.set_pwr_map ?_ (lor_sub (by decide) hU); first | with_reducible refine foldS_follows ?_ ?_ | with_reducible refine wr_follows ?_ (lor_sub (by decide) hU) | with_reducible refine ckptTrim_follows ?_ (lor_sub (by decide) hU) | with_reducible refine pairControl_follows ?_ (lor_sub (by decide) hU) | with_reducible refine mediaRaise_follows ?_ (lor_sub (by decide) hU) | with_reducible refine Follows.ite ?_ ?_ | with_reducible exact Follows.refl _ _)
    | split
    | (extract_lets +onlyGivenNames x; refine Follows.cut (x := x) ?_ ?_; rotate_left; clear_value x; intro _; rotate_right; subst x)
    | (extract_lets +onlyGivenNames x; clear_value x)
    | refine Follows.snd (by assumption) ?_
    | refine Follows.fst (by assumption) ?_
    | dsimp only
    | with_reducible exact Follows.refl _ _

theorem ckptOverdue_follows  {U : Nat} {r s : State} (h : Follows U r s) (hU : 16843073 ||| U = U) :
    Follows U r (ckptOverdue s) := by
  unfold ckptOverdue
  repeat' first
    | with_reducible assumption
    | intro _
    | with_reducible refine foldS_follows ?_ ?_
    | with_reducible refine bump_follows ?_ (lor_sub (by decide) hU)
    | with_reducible refine ckptMod_follows ?_ (lor_sub (by decide) hU)
    | with_reducible refine mapFault_follows ?_ (lor_sub (by decide) hU)
    | with_reducible refine Follows.ite ?_ ?_
    | split
    | (extract_lets +onlyGivenNames x; refine Follows.cut (x := x) ?_ ?_; rotate_left; clear_value x; intro _; rotate_right; subst x)
    | (extract_lets +onlyGivenNames x; clear_value x)
    | with_reducible exact Follows.refl _ _

theorem mapSyncSend_follows {seat seq : Nat} {recs : List Delta} {U : Nat} {r s : State} (h : Follows U r s) (hU : 1114113 ||| U = U) :
    Follows U r (mapSyncSend seat seq recs s) := by
  unfold mapSyncSend
  repeat' first
    | with_reducible assumption
    | intro _
    | with_reducible refine pairEnqueue_follows ?_ (lor_sub (by decide) hU)
    | with_reducible refine Follows.ite ?_ ?_
    | with_reducible exact Follows.set_map (by assumption) (lor_sub (by decide) hU)
    | (with_reducible refine Follows.set_map ?_ (lor_sub (by decide) hU); first | with_reducible refine pairEnqueue_follows ?_ (lor_sub (by decide) hU) | with_reducible refine Follows.ite ?_ ?_ | with_reducible exact Follows.refl _ _)
    | split
    | (extract_lets +onlyGivenNames x; refine Follows.cut (x := x) ?_ ?_; rotate_left; clear_value x; intro _; rotate_right; subst x)
    | (extract_lets +onlyGivenNames x; clear_value x)
    | refine Follows.snd (by assumption) ?_
    | refine Follows.fst (by assumption) ?_
    | dsimp only
    | with_reducible exact Follows.refl _ _

theorem pageOnFlash_follows {seat kind : Nat} {U : Nat} {r s : State} (h : Follows U r s) (hU : 65536 ||| U = U) :
    Follows U r (pageOnFlash seat kind s) := by
  unfold pageOnFlash
  repeat' first
    | with_reducible assumption
    | intro _
    | with_reducible exact Follows.set_map (by assumption) (lor_sub (by decide) hU)
    | (with_reducible refine Follows.set_map ?_ (lor_sub (by decide) hU); first | with_reducible exact Follows.refl _ _)
    | split
    | (extract_lets +onlyGivenNames x; refine Follows.cut (x := x) ?_ ?_; rotate_left; clear_value x; intro _; rotate_right; subst x)
    | (extract_lets +onlyGivenNames x; clear_value x)
    | refine Follows.snd (by assumption) ?_
    | refine Follows.fst (by assumption) ?_
    | dsimp only
    | with_reducible exact Follows.refl _ _

theorem dlogProgrammed_follows {seat : Nat} {U : Nat} {r s : State} (h : Follows U r s) (hU : 1409025 ||| U = U) :
    Follows U r (dlogProgrammed seat s) := by
  unfold dlogProgrammed
  repeat' first
    | with_reducible assumption
    | intro _
    | with_reducible refine pageOnFlash_follows ?_ (lor_sub (by decide) hU)
    | with_reducible refine dirtySub_follows ?_ (lor_sub (by decide) hU)
    | with_reducible refine mapSyncSend_follows ?_ (lor_sub (by decide) hU)
    | with_reducible refine Follows.ite ?_ ?_
    | with_reducible exact Follows.set_map_par (by assumption) (lor_sub (by decide) hU)
    | (with_reducible refine Follows.set_map_par ?_ (lor_sub (by decide) hU); first | with_reducible refine pageOnFlash_follows ?_ (lor_sub (by decide) hU) | with_reducible refine dirtySub_follows ?_ (lor_sub (by decide) hU) | with_reducible refine mapSyncSend_follows ?_ (lor_sub (by decide) hU) | with_reducible refine Follows.ite ?_ ?_ | with_reducible exact Follows.refl _ _)
    | split
    | (extract_lets +onlyGivenNames x; refine Follows.cut (x := x) ?_ ?_; rotate_left; clear_value x; intro _; rotate_right; subst x)
    | (extract_lets +onlyGivenNames x; clear_value x)
    | with_reducible exact Follows.refl _ _

theorem pageEvict_follows {seat k : Nat} {U : Nat} {r s : State} (h : Follows U r s) (hU : 65536 ||| U = U) :
    Follows U r (pageEvict seat k s) := by
  unfold pageEvict
  repeat' first
    | with_reducible assumption
    | intro _
    | with_reducible refine tcDropFrame_follows ?_ (lor_sub (by decide) hU)
    | with_reducible exact Follows.set_map (by assumption) (lor_sub (by decide) hU)
    | (with_reducible refine Follows.set_map ?_ (lor_sub (by decide) hU); first | with_reducible refine tcDropFrame_follows ?_ (lor_sub (by decide) hU) | with_reducible exact Follows.refl _ _)
    | split
    | (extract_lets +onlyGivenNames x; refine Follows.cut (x := x) ?_ ?_; rotate_left; clear_value x; intro _; rotate_right; subst x)
    | (extract_lets +onlyGivenNames x; clear_value x)
    | with_reducible exact Follows.refl _ _

theorem pageFilled_follows {seat k : Nat} {U : Nat} {r s : State} (h : Follows U r s) (hU : 458753 ||| U = U) :
    Follows U r (pageFilled seat k s) := by
  unfold pageFilled
  repeat' first
    | with_reducible assumption
    | intro _
    | with_reducible refine wr_follows ?_ (lor_sub (by decide) hU)
    | with_reducible refine pageEvict_follows ?_ (lor_sub (by decide) hU)
    | with_reducible refine frameTake_follows ?_ (lor_sub (by decide) hU)
    | with_reducible refine bump_follows ?_ (lor_sub (by decide) hU)
    | with_reducible refine foldS_follows ?_ ?_
    | with_reducible refine unitLookup_follows ?_ (lor_sub (by decide) hU)
    | with_reducible refine Follows.ite ?_ ?_
    | with_reducible exact Follows.set_map (by assumption) (lor_sub (by decide) hU)
    | (with_reducible refine Follows.set_map ?_ (lor_sub (by decide) hU); first | with_reducible refine wr_follows ?_ (lor_sub (by decide) hU) | with_reducible refine pageEvict_follows ?_ (lor_sub (by decide) hU) | with_reducible refine frameTake_follows ?_ (lor_sub (by decide) hU) | with_reducible refine bump_follows ?_ (lor_sub (by decide) hU) | with_reducible refine foldS_follows ?_ ?_ | with_reducible refine unitLookup_follows ?_ (lor_sub (by decide) hU) | with_reducible refine Follows.ite ?_ ?_ | with_reducible exact Follows.refl _ _)
    | split
    | (extract_lets +onlyGivenNames x; refine Follows.cut (x := x) ?_ ?_; rotate_left; clear_value x; intro _; rotate_right; subst x)
    | (extract_lets +onlyGivenNames x; clear_value x)
    | refine Follows.snd (by assumption) ?_
    | refine Follows.fst (by assumption) ?_
    | dsimp only
    | with_reducible exact Follows.refl _ _

theorem lineLooked_follows {seat line cmd : Nat} {U : Nat} {r s : State} (h : Follows U r s) (hU : 32768 ||| U = U) :
    Follows U r (lineLooked seat line cmd s) := by
  unfold lineLooked
  repeat' first
    | with_reducible assumption
    | intro _
    | with_reducible refine Follows.ite ?_ ?_
    | with_reducible exact Follows.set_ing (by assumption) (lor_sub (by decide) hU)
    | (with_reducible refine Follows.set_ing ?_ (lor_sub (by decide) hU); first | with_reducible refine Follows.ite ?_ ?_ | with_reducible exact Follows.refl _ _)
    | split
    | (extract_lets +onlyGivenNames x; refine Follows.cut (x := x) ?_ ?_; rotate_left; clear_value x; intro _; rotate_right; subst x)
    | (extract_lets +onlyGivenNames x; clear_value x)
    | with_reducible exact Follows.refl _ _

theorem lineFilled_follows {seat lane cycles : Nat} {ecc : Bool} {U : Nat} {r s : State} (h : Follows U r s) (hU : 491521 ||| U = U) :
    Follows U r (lineFilled seat lane cycles ecc s) := by
  unfold lineFilled
  repeat' first
    | with_reducible assumption
    | intro _
    | with_reducible refine bump_follows ?_ (lor_sub (by decide) hU)
    | with_reducible refine bumpN_follows ?_ (lor_sub (by decide) hU)
    | with_reducible refine setTc_follows ?_ (lor_sub (by decide) hU)
    | with_reducible refine tcInsert_follows ?_ (lor_sub (by decide) hU)
    | with_reducible refine lineLooked_follows ?_ (lor_sub (by decide) hU)
    | with_reducible refine unitLookup_follows ?_ (lor_sub (by decide) hU)
    | with_reducible refine Follows.ite ?_ ?_
    | split
    | (extract_lets +onlyGivenNames x; refine Follows.cut (x := x) ?_ ?_; rotate_left; clear_value x; intro _; rotate_right; subst x)
    | (extract_lets +onlyGivenNames x; clear_value x)
    | with_reducible exact Follows.refl _ _

theorem bringupStops_follows {step : Nat} {U : Nat} {r s : State} (h : Follows U r s) (hU : 1 ||| U = U) :
    Follows U r (bringupStops step s) := by
  unfold bringupStops
  repeat' first
    | with_reducible assumption
    | intro _
    | with_reducible refine wr_follows ?_ (lor_sub (by decide) hU)
    | split
    | with_reducible exact Follows.refl _ _

theorem imageLoad_follows {im : MapImage} {U : Nat} {r s : State} (h : Follows U r s) (hU : 327680 ||| U = U) :
    Follows U r (imageLoad im s) := by
  unfold imageLoad
  repeat' first
    | with_reducible assumption
    | intro _
    | with_reducible refine foldl_follows ?_ ?_
    | with_reducible refine Follows.ite ?_ ?_
    | with_reducible exact Follows.set_map_par (by assumption) (lor_sub (by decide) hU)
    | (with_reducible refine Follows.set_map_par ?_ (lor_sub (by decide) hU); first | with_reducible refine foldl_follows ?_ ?_ | with_reducible refine Follows.ite ?_ ?_ | with_reducible exact Follows.refl _ _)
    | split
    | (extract_lets +onlyGivenNames x; refine Follows.cut (x := x) ?_ ?_; rotate_left; clear_value x; intro _; rotate_right; subst x)
    | (extract_lets +onlyGivenNames x; clear_value x)
    | refine Follows.snd (by assumption) ?_
    | refine Follows.fst (by assumption) ?_
    | dsimp only
    | with_reducible exact Follows.refl _ _

theorem dlogReplay_follows {bad : List Nat} {ext seat start : Nat} {U : Nat} {r s : State} (h : Follows U r s) (hU : 327681 ||| U = U) :
    Follows U r (dlogReplay bad ext seat start s) := by
  unfold dlogReplay
  repeat' first
    | with_reducible assumption
    | intro _
    | with_reducible refine foldS_follows ?_ ?_
    | with_reducible refine deltaReplay_follows ?_ (lor_sub (by decide) hU)
    | with_reducible refine imagesSplit_follows ?_ (lor_sub (by decide) hU)
    | with_reducible refine wr_follows ?_ (lor_sub (by decide) hU)
    | split
    | (extract_lets +onlyGivenNames x; refine Follows.cut (x := x) ?_ ?_; rotate_left; clear_value x; intro _; rotate_right; subst x)
    | (extract_lets +onlyGivenNames x; clear_value x)
    | with_reducible exact Follows.refl _ _

theorem imageApply_follows {seat side : Nat} {U : Nat} {r s : State} (h : Follows U r s) (hU : 17137985 ||| U = U) :
    Follows U r (imageApply seat side s) := by
  unfold imageApply
  repeat' first
    | with_reducible assumption
    | intro _
    | with_reducible refine foldS_follows ?_ ?_
    | with_reducible refine deltaReplay_follows ?_ (lor_sub (by decide) hU)
    | with_reducible refine dlogAdd_follows ?_ (lor_sub (by decide) hU)
    | with_reducible refine dirtyAdd_follows ?_ (lor_sub (by decide) hU)
    | with_reducible refine wr_follows ?_ (lor_sub (by decide) hU)
    | with_reducible refine when_follows ?_ ?_
    | with_reducible refine event_follows ?_ (lor_sub (by decide) hU)
    | with_reducible refine Follows.ite ?_ ?_
    | split
    | (extract_lets +onlyGivenNames x; refine Follows.cut (x := x) ?_ ?_; rotate_left; clear_value x; intro _; rotate_right; subst x)
    | (extract_lets +onlyGivenNames x; clear_value x)
    | refine Follows.snd (by assumption) ?_
    | refine Follows.fst (by assumption) ?_
    | dsimp only
    | with_reducible exact Follows.refl _ _

theorem orphansCount_follows {pool row seat : Nat} {on : List Nat} {U : Nat} {r s : State} (h : Follows U r s) (hU : 1 ||| U = U) :
    Follows U r (orphansCount pool row seat on s) := by
  unfold orphansCount
  repeat' first
    | with_reducible assumption
    | intro _
    | with_reducible refine bumpN_follows ?_ (lor_sub (by decide) hU)
    | split
    | refine Follows.snd (by assumption) ?_
    | refine Follows.fst (by assumption) ?_
    | dsimp only
    | with_reducible exact Follows.refl _ _

theorem rowScan_follows {im : MapImage} {p : Nat × Nat} {U : Nat} {r s : State} (h : Follows U r s) (hU : 262145 ||| U = U) :
    Follows U r (rowScan im p s) := by
  unfold rowScan
  repeat' first
    | with_reducible assumption
    | intro _
    | with_reducible refine orphansCount_follows ?_ (lor_sub (by decide) hU)
    | with_reducible refine rowMod_follows ?_ (lor_sub (by decide) hU)
    | with_reducible refine Follows.ite ?_ ?_
    | split
    | (extract_lets +onlyGivenNames x; refine Follows.cut (x := x) ?_ ?_; rotate_left; clear_value x; intro _; rotate_right; subst x)
    | (extract_lets +onlyGivenNames x; clear_value x)
    | refine Follows.snd (by assumption) ?_
    | refine Follows.fst (by assumption) ?_
    | dsimp only
    | with_reducible exact Follows.refl _ _

theorem rowShort_follows {pool : Nat} {g : Group} {row : Nat} {U : Nat} {r s : State} (h : Follows U r s) (hU : 17039617 ||| U = U) :
    Follows U r (rowShort pool g row s) := by
  unfold rowShort
  repeat' first
    | with_reducible assumption
    | intro _
    | with_reducible refine rowMod_follows ?_ (lor_sub (by decide) hU)
    | with_reducible refine rowLost_follows ?_ (lor_sub (by decide) hU)
    | split
    | (extract_lets +onlyGivenNames x; refine Follows.cut (x := x) ?_ ?_; rotate_left; clear_value x; intro _; rotate_right; subst x)
    | (extract_lets +onlyGivenNames x; clear_value x)
    | with_reducible exact Follows.refl _ _

theorem rowResync_follows {bad imgs : List (Nat × Nat)} {pool : Nat} {g : Group} {e : Nat × Row} {U : Nat} {r s : State} (h : Follows U r s) (hU : 18714961 ||| U = U) :
    Follows U r (rowResync bad imgs pool g e s) := by
  unfold rowResync
  repeat' first
    | with_reducible assumption
    | intro _
    | with_reducible refine rowShort_follows ?_ (lor_sub (by decide) hU)
    | with_reducible refine rowMod_follows ?_ (lor_sub (by decide) hU)
    | with_reducible refine when_follows ?_ ?_
    | with_reducible refine dirtyAdd_follows ?_ (lor_sub (by decide) hU)
    | with_reducible refine bump_follows ?_ (lor_sub (by decide) hU)
    | with_reducible refine rowRewrite_follows ?_ (lor_sub (by decide) hU)
    | with_reducible refine Follows.ite ?_ ?_
    | split
    | (extract_lets +onlyGivenNames x; refine Follows.cut (x := x) ?_ ?_; rotate_left; clear_value x; intro _; rotate_right; subst x)
    | (extract_lets +onlyGivenNames x; clear_value x)
    | refine Follows.snd (by assumption) ?_
    | refine Follows.fst (by assumption) ?_
    | dsimp only
    | with_reducible exact Follows.refl _ _

theorem resyncAll_follows {bad imgs scanned : List (Nat × Nat)} {U : Nat} {r s : State} (h : Follows U r s) (hU : 18714961 ||| U = U) :
    Follows U r (resyncAll bad imgs scanned s) := by
  unfold resyncAll
  repeat' first
    | with_reducible assumption
    | intro _
    | with_reducible refine foldS_follows ?_ ?_
    | with_reducible refine rowResync_follows ?_ (lor_sub (by decide) hU)
    | split
    | (extract_lets +onlyGivenNames x; refine Follows.cut (x := x) ?_ ?_; rotate_left; clear_value x; intro _; rotate_right; subst x)
    | (extract_lets +onlyGivenNames x; clear_value x)
    | refine Follows.snd (by assumption) ?_
    | refine Follows.fst (by assumption) ?_
    | dsimp only
    | with_reducible exact Follows.refl _ _

theorem reshapeResume_follows  {U : Nat} {r s : State} (h : Follows U r s) (hU : 262144 ||| U = U) :
    Follows U r (reshapeResume s) := by
  unfold reshapeResume
  repeat' first
    | with_reducible assumption
    | intro _
    | with_reducible refine groupMod_follows ?_ (lor_sub (by decide) hU)
    | with_reducible refine Follows.ite ?_ ?_
    | with_reducible exact Follows.set_par (by assumption) (lor_sub (by decide) hU)
    | (with_reducible refine Follows.set_par ?_ (lor_sub (by decide) hU); first | with_reducible refine groupMod_follows ?_ (lor_sub (by decide) hU) | with_reducible refine Follows.ite ?_ ?_ | with_reducible exact Follows.refl _ _)
    | split
    | (extract_lets +onlyGivenNames x; refine Follows.cut (x := x) ?_ ?_; rotate_left; clear_value x; intro _; rotate_right; subst x)
    | (extract_lets +onlyGivenNames x; clear_value x)
    | with_reducible exact Follows.refl _ _

theorem bringupJoins_follows  {U : Nat} {r s : State} (h : Follows U r s) (hU : 1048577 ||| U = U) :
    Follows U r (bringupJoins s) := by
  unfold bringupJoins
  repeat' first
    | with_reducible assumption
    | intro _
    | with_reducible refine wr_follows ?_ (lor_sub (by decide) hU)
    | with_reducible refine Follows.ite ?_ ?_
    | with_reducible exact Follows.set_pair (by assumption) (lor_sub (by decide) hU)
    | (with_reducible refine Follows.set_pair ?_ (lor_sub (by decide) hU); first | with_reducible refine wr_follows ?_ (lor_sub (by decide) hU) | with_reducible refine Follows.ite ?_ ?_ | with_reducible exact Follows.refl _ _)
    | split
    | (extract_lets +onlyGivenNames x; refine Follows.cut (x := x) ?_ ?_; rotate_left; clear_value x; intro _; rotate_right; subst x)
    | (extract_lets +onlyGivenNames x; clear_value x)
    | with_reducible exact Follows.refl _ _

theorem recoveryEnds_follows  {U : Nat} {r s : State} (h : Follows U r s) (hU : 18088769 ||| U = U) :
    Follows U r (recoveryEnds s) := by
  unfold recoveryEnds
  repeat' first
    | with_reducible assumption
    | intro _
    | with_reducible refine bringupJoins_follows ?_ (lor_sub (by decide) hU)
    | with_reducible refine redundancy_follows ?_ (lor_sub (by decide) hU)
    | with_reducible refine foldS_follows ?_ ?_
    | with_reducible refine wr_follows ?_ (lor_sub (by decide) hU)
    | with_reducible refine reshapeResume_follows ?_ (lor_sub (by decide) hU)
    | with_reducible exact Follows.set_boot (by assumption) (lor_sub (by decide) hU)
    | (with_reducible refine Follows.set_boot ?_ (lor_sub (by decide) hU); first | with_reducible refine bringupJoins_follows ?_ (lor_sub (by decide) hU) | with_reducible refine redundancy_follows ?_ (lor_sub (by decide) hU) | with_reducible refine foldS_follows ?_ ?_ | with_reducible refine wr_follows ?_ (lor_sub (by decide) hU) | with_reducible refine reshapeResume_follows ?_ (lor_sub (by decide) hU) | with_reducible exact Follows.refl _ _)
    | split
    | (extract_lets +onlyGivenNames x; refine Follows.cut (x := x) ?_ ?_; rotate_left; clear_value x; intro _; rotate_right; subst x)
    | (extract_lets +onlyGivenNames x; clear_value x)
    | with_reducible exact Follows.refl _ _

theorem recoverFrom_follows {bad badLog : List (Nat × Nat)} {im : MapImage} {ext : Nat} {start : Nat → Nat} {U : Nat} {r s : State} (h : Follows U r s) (hU : 22909777 ||| U = U) :
    Follows U r (recoverFrom bad badLog im ext start s) := by
  unfold recoverFrom
  repeat' first
    | with_reducible assumption
    | intro _
    | with_reducible refine imageLoad_follows ?_ (lor_sub (by decide) hU)
    | with_reducible refine foldS_follows ?_ ?_
    | with_reducible refine dlogReplay_follows ?_ (lor_sub (by decide) hU)
    | with_reducible refine imageApply_follows ?_ (lor_sub (by decide) hU)
    | with_reducible refine imagesSplit_follows ?_ (lor_sub (by decide) hU)
    | with_reducible refine snapsLate_follows ?_ (lor_sub (by decide) hU)
    | with_reducible refine rowScan_follows ?_ (lor_sub (by decide) hU)
    | with_reducible refine resyncAll_follows ?_ (lor_sub (by decide) hU)
    | with_reducible refine recoveryEnds_follows ?_ (lor_sub (by decide) hU)
    | split
    | (extract_lets +onlyGivenNames x; refine Follows.cut (x := x) ?_ ?_; rotate_left; clear_value x; intro _; rotate_right; subst x)
    | (extract_lets +onlyGivenNames x; clear_value x)
    | refine Follows.snd (by assumption) ?_
    | refine Follows.fst (by assumption) ?_
    | dsimp only
    | with_reducible exact Follows.refl _ _

theorem mapRecover_follows {bad badLog : List (Nat × Nat)} {U : Nat} {r s : State} (h : Follows U r s) (hU : 22909777 ||| U = U) :
    Follows U r (mapRecover bad badLog s) := by
  unfold mapRecover
  repeat' first
    | with_reducible assumption
    | intro _
    | with_reducible refine recoverFrom_follows ?_ (lor_sub (by decide) hU)
    | with_reducible refine foldS_follows ?_ ?_
    | with_reducible refine wr_follows ?_ (lor_sub (by decide) hU)
    | with_reducible refine mapFault_follows ?_ (lor_sub (by decide) hU)
    | with_reducible refine bringupStops_follows ?_ (lor_sub (by decide) hU)
    | with_reducible refine Follows.ite ?_ ?_
    | with_reducible exact Follows.set_map (by assumption) (lor_sub (by decide) hU)
    | (with_reducible refine Follows.set_map ?_ (lor_sub (by decide) hU); first | with_reducible refine recoverFrom_follows ?_ (lor_sub (by decide) hU) | with_reducible refine foldS_follows ?_ ?_ | with_reducible refine wr_follows ?_ (lor_sub (by decide) hU) | with_reducible refine mapFault_follows ?_ (lor_sub (by decide) hU) | with_reducible refine bringupStops_follows ?_ (lor_sub (by decide) hU) | with_reducible refine Follows.ite ?_ ?_ | with_reducible exact Follows.refl _ _)
    | split
    | (extract_lets +onlyGivenNames x; refine Follows.cut (x := x) ?_ ?_; rotate_left; clear_value x; intro _; rotate_right; subst x)
    | (extract_lets +onlyGivenNames x; clear_value x)
    | with_reducible exact Follows.refl _ _

end Sys2Proof.Machine
end

