-- ==== Sys2Proof/Laws/FollowsCollectOps.lean ====
section
/-!
SUPPORT. Laws/FollowsCollectOps.lean: the operations of Machine/CollectOps.lean keep what `Follows` states.
-/

namespace Sys2Proof.Machine

open Sys2Proof

theorem gcLevels_follows {pool : Nat} {U : Nat} {r s : State} (h : Follows U r s) (hU : 262144 ||| U = U) :
    Follows U r (gcLevels pool s) := by
  unfold gcLevels
  repeat' first
    | with_reducible assumption
    | intro _
    | with_reducible refine groupMod_follows ?_ (lor_sub (by decide) hU)
    | split
    | (extract_lets +onlyGivenNames x; refine Follows.cut (x := x) ?_ ?_; rotate_left; clear_value x; intro _; rotate_right; subst x)
    | (extract_lets +onlyGivenNames x; clear_value x)
    | with_reducible exact Follows.refl _ _

theorem poolSeal_follows {pool : Nat} {U : Nat} {r s : State} (h : Follows U r s) (hU : 18714897 ||| U = U) :
    Follows U r (poolSeal pool s) := by
  unfold poolSeal
  repeat' first
    | with_reducible assumption
    | intro _
    | with_reducible refine foldS_follows ?_ ?_
    | with_reducible refine rowClose_follows ?_ (lor_sub (by decide) hU)
    | split
    | refine Follows.snd (by assumption) ?_
    | refine Follows.fst (by assumption) ?_
    | dsimp only
    | with_reducible exact Follows.refl _ _

theorem poolEdge_follows {pool : Nat} {U : Nat} {r s : State} (h : Follows U r s) (hU : 18870545 ||| U = U) :
    Follows U r (poolEdge pool s) := by
  unfold poolEdge
  repeat' first
    | with_reducible assumption
    | intro _
    | with_reducible refine groupMod_follows ?_ (lor_sub (by decide) hU)
    | with_reducible refine poolWritesFail_follows ?_ (lor_sub (by decide) hU)
    | with_reducible refine poolSeal_follows ?_ (lor_sub (by decide) hU)
    | with_reducible refine coxRaise_follows ?_ (lor_sub (by decide) hU)
    | with_reducible refine Follows.ite ?_ ?_
    | split
    | (extract_lets +onlyGivenNames x; refine Follows.cut (x := x) ?_ ?_; rotate_left; clear_value x; intro _; rotate_right; subst x)
    | (extract_lets +onlyGivenNames x; clear_value x)
    | with_reducible exact Follows.refl _ _

theorem victimSelect_follows {pool : Nat} {U : Nat} {r s : State} (h : Follows U r s) (hU : 262144 ||| U = U) :
    Follows U r (victimSelect pool s) := by
  unfold victimSelect
  dsimp only
  repeat' first
    | with_reducible assumption
    | intro _
    | with_reducible refine rowMod_follows ?_ (lor_sub (by decide) hU)
    | with_reducible refine groupMod_follows ?_ (lor_sub (by decide) hU)
    | with_reducible refine Follows.ite ?_ ?_
    | split
    | with_reducible exact Follows.refl _ _

theorem gcCopy_follows {pool a : Nat} {tagsOk : Bool} {e : Ext} {g : Group} {U : Nat} {r s : State} (h : Follows U r s) (hU : 20812113 ||| U = U) :
    Follows U r (gcCopy pool a tagsOk e g s) := by
  unfold gcCopy
  repeat' first
    | with_reducible assumption
    | intro _
    | with_reducible refine tagMismatch_follows ?_ (lor_sub (by decide) hU)
    | with_reducible refine extAppend_follows ?_ (lor_sub (by decide) hU)
    | with_reducible refine extFetch_follows ?_ (lor_sub (by decide) hU)
    | with_reducible refine groupMod_follows ?_ (lor_sub (by decide) hU)
    | with_reducible refine charge_follows ?_ (lor_sub (by decide) hU)
    | with_reducible refine Follows.ite ?_ ?_
    | split
    | (extract_lets +onlyGivenNames x; refine Follows.cut (x := x) ?_ ?_; rotate_left; clear_value x; intro _; rotate_right; subst x)
    | (extract_lets +onlyGivenNames x; clear_value x)
    | refine Follows.snd (by assumption) ?_
    | refine Follows.fst (by assumption) ?_
    | dsimp only
    | with_reducible exact Follows.refl _ _

theorem gcMove_follows {pool a : Nat} {tagsOk : Bool} {U : Nat} {r s : State} (h : Follows U r s) (hU : 20812113 ||| U = U) :
    Follows U r (gcMove pool a tagsOk s) := by
  unfold gcMove
  repeat' first
    | with_reducible assumption
    | intro _
    | with_reducible refine gcCopy_follows ?_ (lor_sub (by decide) hU)
    | with_reducible refine moveExt_follows ?_ (lor_sub (by decide) hU)
    | with_reducible refine groupMod_follows ?_ (lor_sub (by decide) hU)
    | with_reducible refine Follows.ite ?_ ?_
    | with_reducible exact Follows.set_map (by assumption) (lor_sub (by decide) hU)
    | (with_reducible refine Follows.set_map ?_ (lor_sub (by decide) hU); first | with_reducible refine gcCopy_follows ?_ (lor_sub (by decide) hU) | with_reducible refine moveExt_follows ?_ (lor_sub (by decide) hU) | with_reducible refine groupMod_follows ?_ (lor_sub (by decide) hU) | with_reducible refine Follows.ite ?_ ?_ | with_reducible exact Follows.refl _ _)
    | split
    | (extract_lets +onlyGivenNames x; refine Follows.cut (x := x) ?_ ?_; rotate_left; clear_value x; intro _; rotate_right; subst x)
    | (extract_lets +onlyGivenNames x; clear_value x)
    | with_reducible exact Follows.refl _ _

theorem rekeyMove_follows {pool a : Nat} {U : Nat} {r s : State} (h : Follows U r s) (hU : 29200721 ||| U = U) :
    Follows U r (rekeyMove pool a s) := by
  unfold rekeyMove
  dsimp only
  repeat' first
    | with_reducible assumption
    | intro _
    | with_reducible refine slotAsk_follows ?_ (lor_sub (by decide) hU)
    | with_reducible refine takeCounter_follows ?_ (lor_sub (by decide) hU)
    | with_reducible refine bump_follows ?_ (lor_sub (by decide) hU)
    | with_reducible refine slotTouch_follows ?_ (lor_sub (by decide) hU)
    | with_reducible refine extAppend_follows ?_ (lor_sub (by decide) hU)
    | with_reducible refine moveExtAs_follows ?_ (lor_sub (by decide) hU)
    | with_reducible refine charge_follows ?_ (lor_sub (by decide) hU)
    | with_reducible refine Follows.ite ?_ ?_
    | split
    | refine Follows.snd (by assumption) ?_
    | refine Follows.fst (by assumption) ?_
    | dsimp only
    | with_reducible exact Follows.refl _ _

theorem moveCommit_follows {pool a : Nat} {tagsOk : Bool} {U : Nat} {r s : State} (h : Follows U r s) (hU : 29200721 ||| U = U) :
    Follows U r (moveCommit pool a tagsOk s) := by
  unfold moveCommit
  repeat' first
    | with_reducible assumption
    | intro _
    | with_reducible refine gcMove_follows ?_ (lor_sub (by decide) hU)
    | with_reducible refine rekeyMove_follows ?_ (lor_sub (by decide) hU)
    | with_reducible refine Follows.ite ?_ ?_
    | split
    | (extract_lets +onlyGivenNames x; refine Follows.cut (x := x) ?_ ?_; rotate_left; clear_value x; intro _; rotate_right; subst x)
    | (extract_lets +onlyGivenNames x; clear_value x)
    | with_reducible exact Follows.refl _ _

theorem rekeyEdge_follows  {U : Nat} {r s : State} (h : Follows U r s) (hU : 8388608 ||| U = U) :
    Follows U r (rekeyEdge s) := by
  unfold rekeyEdge
  repeat' first
    | with_reducible assumption
    | intro _
    | with_reducible refine foldS_follows ?_ ?_
    | with_reducible refine domainMod_follows ?_ (lor_sub (by decide) hU)
    | with_reducible refine Follows.ite ?_ ?_
    | split
    | (extract_lets +onlyGivenNames x; refine Follows.cut (x := x) ?_ ?_; rotate_left; clear_value x; intro _; rotate_right; subst x)
    | (extract_lets +onlyGivenNames x; clear_value x)
    | refine Follows.snd (by assumption) ?_
    | refine Follows.fst (by assumption) ?_
    | dsimp only
    | with_reducible exact Follows.refl _ _

theorem rowErase_follows {pool row : Nat} {U : Nat} {r s : State} (h : Follows U r s) (hU : 17105217 ||| U = U) :
    Follows U r (rowErase pool row s) := by
  unfold rowErase
  repeat' first
    | with_reducible assumption
    | intro _
    | with_reducible refine foldS_follows ?_ ?_
    | with_reducible refine dlogClose_follows ?_ (lor_sub (by decide) hU)
    | with_reducible refine rowMod_follows ?_ (lor_sub (by decide) hU)
    | with_reducible refine groupMod_follows ?_ (lor_sub (by decide) hU)
    | with_reducible refine redundancy_follows ?_ (lor_sub (by decide) hU)
    | with_reducible refine Follows.ite ?_ ?_
    | split
    | (extract_lets +onlyGivenNames x; refine Follows.cut (x := x) ?_ ?_; rotate_left; clear_value x; intro _; rotate_right; subst x)
    | (extract_lets +onlyGivenNames x; clear_value x)
    | with_reducible exact Follows.refl _ _

theorem bandErase_follows {pool band : Nat} {U : Nat} {r s : State} (h : Follows U r s) (hU : 18681857 ||| U = U) :
    Follows U r (bandErase pool band s) := by
  unfold bandErase
  repeat' first
    | with_reducible assumption
    | intro _
    | with_reducible refine groupMod_follows ?_ (lor_sub (by decide) hU)
    | with_reducible refine foldS_follows ?_ ?_
    | with_reducible refine nandIssue_follows ?_ (lor_sub (by decide) hU)
    | with_reducible refine bandFreed_follows ?_ (lor_sub (by decide) hU)
    | with_reducible refine Follows.ite ?_ ?_
    | split
    | (extract_lets +onlyGivenNames x; refine Follows.cut (x := x) ?_ ?_; rotate_left; clear_value x; intro _; rotate_right; subst x)
    | (extract_lets +onlyGivenNames x; clear_value x)
    | with_reducible exact Follows.refl _ _

theorem discardCheck_follows  {U : Nat} {r s : State} (h : Follows U r s) (hU : 16843201 ||| U = U) :
    Follows U r (discardCheck s) := by
  unfold discardCheck
  repeat' first
    | with_reducible assumption
    | intro _
    | with_reducible refine mbxComplete_follows ?_ (lor_sub (by decide) hU)
    | with_reducible refine Follows.ite ?_ ?_
    | with_reducible exact Follows.set_map (by assumption) (lor_sub (by decide) hU)
    | (with_reducible refine Follows.set_map ?_ (lor_sub (by decide) hU); first | with_reducible refine mbxComplete_follows ?_ (lor_sub (by decide) hU) | with_reducible refine Follows.ite ?_ ?_ | with_reducible exact Follows.refl _ _)
    | split
    | (extract_lets +onlyGivenNames x; refine Follows.cut (x := x) ?_ ?_; rotate_left; clear_value x; intro _; rotate_right; subst x)
    | (extract_lets +onlyGivenNames x; clear_value x)
    | with_reducible exact Follows.refl _ _

theorem reshapeFinish_follows  {U : Nat} {r s : State} (h : Follows U r s) (hU : 17039681 ||| U = U) :
    Follows U r (reshapeFinish s) := by
  unfold reshapeFinish
  repeat' first
    | with_reducible assumption
    | intro _
    | with_reducible refine groupMod_follows ?_ (lor_sub (by decide) hU)
    | with_reducible refine foldS_follows ?_ ?_
    | with_reducible refine wr_follows ?_ (lor_sub (by decide) hU)
    | with_reducible refine redundancy_follows ?_ (lor_sub (by decide) hU)
    | with_reducible refine Follows.ite ?_ ?_
    | with_reducible exact Follows.set_par (by assumption) (lor_sub (by decide) hU)
    | (with_reducible refine Follows.set_par ?_ (lor_sub (by decide) hU); first | with_reducible refine groupMod_follows ?_ (lor_sub (by decide) hU) | with_reducible refine foldS_follows ?_ ?_ | with_reducible refine wr_follows ?_ (lor_sub (by decide) hU) | with_reducible refine redundancy_follows ?_ (lor_sub (by decide) hU) | with_reducible refine Follows.ite ?_ ?_ | with_reducible exact Follows.refl _ _)
    | split
    | (extract_lets +onlyGivenNames x; refine Follows.cut (x := x) ?_ ?_; rotate_left; clear_value x; intro _; rotate_right; subst x)
    | (extract_lets +onlyGivenNames x; clear_value x)
    | refine Follows.snd (by assumption) ?_
    | refine Follows.fst (by assumption) ?_
    | dsimp only
    | with_reducible exact Follows.refl _ _

theorem roomFound_follows  {U : Nat} {r s : State} (h : Follows U r s) (hU : 18870737 ||| U = U) :
    Follows U r (roomFound s) := by
  unfold roomFound
  repeat' first
    | with_reducible assumption
    | intro _
    | with_reducible refine foldS_follows ?_ ?_
    | with_reducible refine rewritesRetry_follows ?_ (lor_sub (by decide) hU)
    | with_reducible refine appendRetry_follows ?_ (lor_sub (by decide) hU)
    | with_reducible refine discardCheck_follows ?_ (lor_sub (by decide) hU)
    | with_reducible refine reshapeFinish_follows ?_ (lor_sub (by decide) hU)
    | split
    | with_reducible exact Follows.refl _ _

theorem releasePage_follows {owner k : Nat} {U : Nat} {r s : State} (h : Follows U r s) (hU : 98305 ||| U = U) :
    Follows U r (releasePage owner k s) := by
  unfold releasePage
  dsimp only
  repeat' first
    | with_reducible assumption
    | intro _
    | with_reducible refine tcDropFrame_follows ?_ (lor_sub (by decide) hU)
    | with_reducible refine refreshShared_follows ?_ (lor_sub (by decide) hU)
    | with_reducible refine foldS_follows ?_ ?_
    | with_reducible refine entRelease_follows ?_ (lor_sub (by decide) hU)
    | with_reducible refine dlogAdd_follows ?_ (lor_sub (by decide) hU)
    | with_reducible refine Follows.ite ?_ ?_
    | with_reducible exact Follows.set_map (by assumption) (lor_sub (by decide) hU)
    | (with_reducible refine Follows.set_map ?_ (lor_sub (by decide) hU); first | with_reducible refine tcDropFrame_follows ?_ (lor_sub (by decide) hU) | with_reducible refine refreshShared_follows ?_ (lor_sub (by decide) hU) | with_reducible refine foldS_follows ?_ ?_ | with_reducible refine entRelease_follows ?_ (lor_sub (by decide) hU) | with_reducible refine dlogAdd_follows ?_ (lor_sub (by decide) hU) | with_reducible refine Follows.ite ?_ ?_ | with_reducible exact Follows.refl _ _)
    | split
    | refine Follows.snd (by assumption) ?_
    | refine Follows.fst (by assumption) ?_
    | dsimp only
    | with_reducible exact Follows.refl _ _

theorem ownerDone_follows {owner : Nat} {U : Nat} {r s : State} (h : Follows U r s) (hU : 4259840 ||| U = U) :
    Follows U r (ownerDone owner s) := by
  unfold ownerDone
  repeat' first
    | with_reducible assumption
    | intro _
    | with_reducible refine snapsGone_follows ?_ (lor_sub (by decide) hU)
    | with_reducible refine Follows.ite ?_ ?_
    | with_reducible exact Follows.set_map (by assumption) (lor_sub (by decide) hU)
    | (with_reducible refine Follows.set_map ?_ (lor_sub (by decide) hU); first | with_reducible refine snapsGone_follows ?_ (lor_sub (by decide) hU) | with_reducible refine Follows.ite ?_ ?_ | with_reducible exact Follows.refl _ _)
    | split
    | (extract_lets +onlyGivenNames x; refine Follows.cut (x := x) ?_ ?_; rotate_left; clear_value x; intro _; rotate_right; subst x)
    | (extract_lets +onlyGivenNames x; clear_value x)
    | refine Follows.snd (by assumption) ?_
    | refine Follows.fst (by assumption) ?_
    | dsimp only
    | with_reducible exact Follows.refl _ _

theorem releaseSweep_follows {owner lba : Nat} {U : Nat} {r s : State} (h : Follows U r s) (hU : 6389761 ||| U = U) :
    Follows U r (releaseSweep owner lba s) := by
  unfold releaseSweep
  repeat' first
    | with_reducible assumption
    | intro _
    | with_reducible refine releasePage_follows ?_ (lor_sub (by decide) hU)
    | with_reducible refine charge_follows ?_ (lor_sub (by decide) hU)
    | with_reducible refine ownerDone_follows ?_ (lor_sub (by decide) hU)
    | with_reducible refine commitEnt_follows ?_ (lor_sub (by decide) hU)
    | with_reducible refine dlogAdd_follows ?_ (lor_sub (by decide) hU)
    | with_reducible refine Follows.ite ?_ ?_
    | split
    | (extract_lets +onlyGivenNames x; refine Follows.cut (x := x) ?_ ?_; rotate_left; clear_value x; intro _; rotate_right; subst x)
    | (extract_lets +onlyGivenNames x; clear_value x)
    | with_reducible exact Follows.refl _ _

theorem recount_follows {tenant handle : Nat} {U : Nat} {r s : State} (h : Follows U r s) (hU : 2195457 ||| U = U) :
    Follows U r (recount tenant handle s) := by
  unfold recount
  repeat' first
    | with_reducible assumption
    | intro _
    | with_reducible refine charge_follows ?_ (lor_sub (by decide) hU)
    | with_reducible refine countSet_follows ?_ (lor_sub (by decide) hU)
    | with_reducible refine freeIdle_follows ?_ (lor_sub (by decide) hU)
    | with_reducible refine dlogAdd_follows ?_ (lor_sub (by decide) hU)
    | with_reducible refine foldl_follows ?_ ?_
    | with_reducible refine Follows.ite ?_ ?_
    | split
    | (extract_lets +onlyGivenNames x; refine Follows.cut (x := x) ?_ ?_; rotate_left; clear_value x; intro _; rotate_right; subst x)
    | (extract_lets +onlyGivenNames x; clear_value x)
    | with_reducible exact Follows.refl _ _

theorem dedupPass_follows {nsid lba handle : Nat} {U : Nat} {r s : State} (h : Follows U r s) (hU : 3260417 ||| U = U) :
    Follows U r (dedupPass nsid lba handle s) := by
  unfold dedupPass
  repeat' first
    | with_reducible assumption
    | intro _
    | with_reducible refine cmdMatch_follows ?_ (lor_sub (by decide) hU)
    | with_reducible refine locksAsk_follows ?_ (lor_sub (by decide) hU)
    | with_reducible refine holdRec_follows ?_ (lor_sub (by decide) hU)
    | with_reducible refine grpNew_follows ?_ (lor_sub (by decide) hU)
    | with_reducible refine recAdd_follows ?_ (lor_sub (by decide) hU)
    | with_reducible refine charge_follows ?_ (lor_sub (by decide) hU)
    | with_reducible refine Follows.ite ?_ ?_
    | with_reducible exact Follows.set_ing (by assumption) (lor_sub (by decide) hU)
    | (with_reducible refine Follows.set_ing ?_ (lor_sub (by decide) hU); first | with_reducible refine cmdMatch_follows ?_ (lor_sub (by decide) hU) | with_reducible refine locksAsk_follows ?_ (lor_sub (by decide) hU) | with_reducible refine holdRec_follows ?_ (lor_sub (by decide) hU) | with_reducible refine grpNew_follows ?_ (lor_sub (by decide) hU) | with_reducible refine recAdd_follows ?_ (lor_sub (by decide) hU) | with_reducible refine charge_follows ?_ (lor_sub (by decide) hU) | with_reducible refine Follows.ite ?_ ?_ | with_reducible exact Follows.refl _ _)
    | with_reducible exact Follows.set_nv (by assumption) (lor_sub (by decide) hU)
    | (with_reducible refine Follows.set_nv ?_ (lor_sub (by decide) hU); first | with_reducible refine cmdMatch_follows ?_ (lor_sub (by decide) hU) | with_reducible refine locksAsk_follows ?_ (lor_sub (by decide) hU) | with_reducible refine holdRec_follows ?_ (lor_sub (by decide) hU) | with_reducible refine grpNew_follows ?_ (lor_sub (by decide) hU) | with_reducible refine recAdd_follows ?_ (lor_sub (by decide) hU) | with_reducible refine charge_follows ?_ (lor_sub (by decide) hU) | with_reducible refine Follows.ite ?_ ?_ | with_reducible exact Follows.refl _ _)
    | split
    | (extract_lets +onlyGivenNames x; refine Follows.cut (x := x) ?_ ?_; rotate_left; clear_value x; intro _; rotate_right; subst x)
    | (extract_lets +onlyGivenNames x; clear_value x)
    | refine Follows.snd (by assumption) ?_
    | refine Follows.fst (by assumption) ?_
    | dsimp only
    | with_reducible exact Follows.refl _ _

theorem lostSweep_follows {nsid lba : Nat} {U : Nat} {r s : State} (h : Follows U r s) (hU : 2162753 ||| U = U) :
    Follows U r (lostSweep nsid lba s) := by
  unfold lostSweep
  repeat' first
    | with_reducible assumption
    | intro _
    | with_reducible refine logFw_follows ?_ (lor_sub (by decide) hU)
    | with_reducible refine charge_follows ?_ (lor_sub (by decide) hU)
    | with_reducible refine Follows.ite ?_ ?_
    | with_reducible exact Follows.set_map (by assumption) (lor_sub (by decide) hU)
    | (with_reducible refine Follows.set_map ?_ (lor_sub (by decide) hU); first | with_reducible refine logFw_follows ?_ (lor_sub (by decide) hU) | with_reducible refine charge_follows ?_ (lor_sub (by decide) hU) | with_reducible refine Follows.ite ?_ ?_ | with_reducible exact Follows.refl _ _)
    | split
    | (extract_lets +onlyGivenNames x; refine Follows.cut (x := x) ?_ ?_; rotate_left; clear_value x; intro _; rotate_right; subst x)
    | (extract_lets +onlyGivenNames x; clear_value x)
    | with_reducible exact Follows.refl _ _

end Sys2Proof.Machine
end

