-- ==== Sys2Proof/Laws/FollowsStripes.lean ====
section
/-!
SUPPORT. Laws/FollowsStripes.lean: the operations of Machine/Stripes.lean keep what `Follows` states.
-/

namespace Sys2Proof.Machine

open Sys2Proof

theorem parityVerify_follows {pool row : Nat} {opens : Bool} {pages : List (List Nat)} {U : Nat} {r s : State} (h : Follows U r s) (hU : 2359297 ||| U = U) :
    Follows U r (parityVerify pool row opens pages s) := by
  unfold parityVerify
  repeat' first
    | with_reducible assumption
    | intro _
    | with_reducible refine rowMod_follows ?_ (lor_sub (by decide) hU)
    | with_reducible refine charge_follows ?_ (lor_sub (by decide) hU)
    | with_reducible refine bump_follows ?_ (lor_sub (by decide) hU)
    | with_reducible refine Follows.ite ?_ ?_
    | split
    | (extract_lets +onlyGivenNames x; refine Follows.cut (x := x) ?_ ?_; rotate_left; clear_value x; intro _; rotate_right; subst x)
    | (extract_lets +onlyGivenNames x; clear_value x)
    | with_reducible exact Follows.refl _ _

theorem targetRetire_follows {pool n m : Nat} {U : Nat} {r s : State} (h : Follows U r s) (hU : 18612225 ||| U = U) :
    Follows U r (targetRetire pool n m s) := by
  unfold targetRetire
  repeat' first
    | with_reducible assumption
    | intro _
    | with_reducible refine blockRetireOn_follows ?_ (lor_sub (by decide) hU)
    | split
    | with_reducible exact Follows.refl _ _

theorem shareReplace_follows {pool : Nat} {r : Rebuild} {U : Nat} {r0 s : State} (h : Follows U r0 s) (hU : 17039681 ||| U = U) :
    Follows U r0 (shareReplace pool r s) := by
  unfold shareReplace
  repeat' first
    | with_reducible assumption
    | intro _
    | with_reducible refine groupMod_follows ?_ (lor_sub (by decide) hU)
    | with_reducible refine slotRelease_follows ?_ (lor_sub (by decide) hU)
    | with_reducible refine redundancy_follows ?_ (lor_sub (by decide) hU)
    | with_reducible refine Follows.ite ?_ ?_
    | split
    | (extract_lets +onlyGivenNames x; refine Follows.cut (x := x) ?_ ?_; rotate_left; clear_value x; intro _; rotate_right; subst x)
    | (extract_lets +onlyGivenNames x; clear_value x)
    | with_reducible exact Follows.refl _ _

theorem rebuildsEnd_follows {pool : Nat} {U : Nat} {r s : State} (h : Follows U r s) (hU : 17039681 ||| U = U) :
    Follows U r (rebuildsEnd pool s) := by
  unfold rebuildsEnd
  repeat' first
    | with_reducible assumption
    | intro _
    | with_reducible refine foldS_follows ?_ ?_
    | with_reducible refine shareReplace_follows ?_ (lor_sub (by decide) hU)
    | with_reducible refine Follows.ite ?_ ?_
    | split
    | (extract_lets +onlyGivenNames x; refine Follows.cut (x := x) ?_ ?_; rotate_left; clear_value x; intro _; rotate_right; subst x)
    | (extract_lets +onlyGivenNames x; clear_value x)
    | refine Follows.snd (by assumption) ?_
    | refine Follows.fst (by assumption) ?_
    | dsimp only
    | with_reducible exact Follows.refl _ _

theorem restartingSet_follows {slot : Nat} {v : Bool} {U : Nat} {r s : State} (h : Follows U r s) (hU : 262144 ||| U = U) :
    Follows U r (restartingSet slot v s) := by
  unfold restartingSet
  repeat' first
    | with_reducible assumption
    | intro _
    | with_reducible refine Follows.ite ?_ ?_
    | with_reducible exact Follows.set_par (by assumption) (lor_sub (by decide) hU)
    | (with_reducible refine Follows.set_par ?_ (lor_sub (by decide) hU); first | with_reducible refine Follows.ite ?_ ?_ | with_reducible exact Follows.refl _ _)
    | split
    | (extract_lets +onlyGivenNames x; refine Follows.cut (x := x) ?_ ?_; rotate_left; clear_value x; intro _; rotate_right; subst x)
    | (extract_lets +onlyGivenNames x; clear_value x)
    | with_reducible exact Follows.refl _ _

theorem caughtUp_follows {slot : Nat} {U : Nat} {r s : State} (h : Follows U r s) (hU : 17043777 ||| U = U) :
    Follows U r (caughtUp slot s) := by
  unfold caughtUp
  repeat' first
    | with_reducible assumption
    | intro _
    | with_reducible refine restartingSet_follows ?_ (lor_sub (by decide) hU)
    | with_reducible refine redundancy_follows ?_ (lor_sub (by decide) hU)
    | with_reducible refine Follows.ite ?_ ?_
    | with_reducible exact Follows.set_upd (by assumption) (lor_sub (by decide) hU)
    | (with_reducible refine Follows.set_upd ?_ (lor_sub (by decide) hU); first | with_reducible refine restartingSet_follows ?_ (lor_sub (by decide) hU) | with_reducible refine redundancy_follows ?_ (lor_sub (by decide) hU) | with_reducible refine Follows.ite ?_ ?_ | with_reducible exact Follows.refl _ _)
    | split
    | (extract_lets +onlyGivenNames x; refine Follows.cut (x := x) ?_ ?_; rotate_left; clear_value x; intro _; rotate_right; subst x)
    | (extract_lets +onlyGivenNames x; clear_value x)
    | with_reducible exact Follows.refl _ _

theorem catchRow_follows {pool slot row : Nat} {checksOk progOk : Bool} {U : Nat} {r s : State} (h : Follows U r s) (hU : 20812113 ||| U = U) :
    Follows U r (catchRow pool slot row checksOk progOk s) := by
  unfold catchRow
  repeat' first
    | with_reducible assumption
    | intro _
    | with_reducible refine caughtUp_follows ?_ (lor_sub (by decide) hU)
    | with_reducible refine when_follows ?_ ?_
    | with_reducible refine bump_follows ?_ (lor_sub (by decide) hU)
    | with_reducible refine rowLost_follows ?_ (lor_sub (by decide) hU)
    | with_reducible refine foldS_follows ?_ ?_
    | with_reducible refine blockRetire_follows ?_ (lor_sub (by decide) hU)
    | with_reducible refine rowMod_follows ?_ (lor_sub (by decide) hU)
    | with_reducible refine rowDecode_follows ?_ (lor_sub (by decide) hU)
    | with_reducible refine rowHead_follows ?_ (lor_sub (by decide) hU)
    | with_reducible refine memberOnFlash_follows ?_ (lor_sub (by decide) hU)
    | with_reducible refine charge_follows ?_ (lor_sub (by decide) hU)
    | with_reducible refine Follows.ite ?_ ?_
    | with_reducible exact Follows.set_upd (by assumption) (lor_sub (by decide) hU)
    | (with_reducible refine Follows.set_upd ?_ (lor_sub (by decide) hU); first | with_reducible refine caughtUp_follows ?_ (lor_sub (by decide) hU) | with_reducible refine when_follows ?_ ?_ | with_reducible refine bump_follows ?_ (lor_sub (by decide) hU) | with_reducible refine rowLost_follows ?_ (lor_sub (by decide) hU) | with_reducible refine foldS_follows ?_ ?_ | with_reducible refine blockRetire_follows ?_ (lor_sub (by decide) hU) | with_reducible refine rowMod_follows ?_ (lor_sub (by decide) hU) | with_reducible refine rowDecode_follows ?_ (lor_sub (by decide) hU) | with_reducible refine rowHead_follows ?_ (lor_sub (by decide) hU) | with_reducible refine memberOnFlash_follows ?_ (lor_sub (by decide) hU) | with_reducible refine charge_follows ?_ (lor_sub (by decide) hU) | with_reducible refine Follows.ite ?_ ?_ | with_reducible exact Follows.refl _ _)
    | split
    | (extract_lets +onlyGivenNames x; refine Follows.cut (x := x) ?_ ?_; rotate_left; clear_value x; intro _; rotate_right; subst x)
    | (extract_lets +onlyGivenNames x; clear_value x)
    | with_reducible exact Follows.refl _ _

theorem rebuildStep_follows {pool row : Nat} {checksOk progOk : Bool} {U : Nat} {r s : State} (h : Follows U r s) (hU : 20808017 ||| U = U) :
    Follows U r (rebuildStep pool row checksOk progOk s) := by
  unfold rebuildStep
  dsimp only
  repeat' first
    | with_reducible assumption
    | intro _
    | with_reducible refine rebuildsEnd_follows ?_ (lor_sub (by decide) hU)
    | with_reducible refine groupMod_follows ?_ (lor_sub (by decide) hU)
    | with_reducible refine when_follows ?_ ?_
    | with_reducible refine bump_follows ?_ (lor_sub (by decide) hU)
    | with_reducible refine rowLost_follows ?_ (lor_sub (by decide) hU)
    | with_reducible refine foldS_follows ?_ ?_
    | with_reducible refine targetRetire_follows ?_ (lor_sub (by decide) hU)
    | with_reducible refine rowMod_follows ?_ (lor_sub (by decide) hU)
    | with_reducible refine rowDecode_follows ?_ (lor_sub (by decide) hU)
    | with_reducible refine rowHead_follows ?_ (lor_sub (by decide) hU)
    | with_reducible refine memberOnFlash_follows ?_ (lor_sub (by decide) hU)
    | with_reducible refine charge_follows ?_ (lor_sub (by decide) hU)
    | with_reducible refine Follows.ite ?_ ?_
    | split
    | with_reducible exact Follows.refl _ _

theorem walkMod_follows {f : Reshape → Reshape} {U : Nat} {r s : State} (h : Follows U r s) (hU : 262144 ||| U = U) :
    Follows U r (walkMod f s) := by
  unfold walkMod
  repeat' first
    | with_reducible assumption
    | intro _
    | with_reducible exact Follows.set_par (by assumption) (lor_sub (by decide) hU)
    | (with_reducible refine Follows.set_par ?_ (lor_sub (by decide) hU); first | with_reducible exact Follows.refl _ _)
    | split
    | (extract_lets +onlyGivenNames x; refine Follows.cut (x := x) ?_ ?_; rotate_left; clear_value x; intro _; rotate_right; subst x)
    | (extract_lets +onlyGivenNames x; clear_value x)
    | with_reducible exact Follows.refl _ _

theorem boundWrite_follows {active : Bool} {U : Nat} {r s : State} (h : Follows U r s) (hU : 262145 ||| U = U) :
    Follows U r (boundWrite active s) := by
  unfold boundWrite
  repeat' first
    | with_reducible assumption
    | intro _
    | with_reducible refine ancWrote_follows ?_ (lor_sub (by decide) hU)
    | with_reducible refine walkMod_follows ?_ (lor_sub (by decide) hU)
    | with_reducible refine foldS_follows ?_ ?_
    | with_reducible refine wr_follows ?_ (lor_sub (by decide) hU)
    | with_reducible exact Follows.set_par (by assumption) (lor_sub (by decide) hU)
    | (with_reducible refine Follows.set_par ?_ (lor_sub (by decide) hU); first | with_reducible refine ancWrote_follows ?_ (lor_sub (by decide) hU) | with_reducible refine walkMod_follows ?_ (lor_sub (by decide) hU) | with_reducible refine foldS_follows ?_ ?_ | with_reducible refine wr_follows ?_ (lor_sub (by decide) hU) | with_reducible exact Follows.refl _ _)
    | split
    | (extract_lets +onlyGivenNames x; refine Follows.cut (x := x) ?_ ?_; rotate_left; clear_value x; intro _; rotate_right; subst x)
    | (extract_lets +onlyGivenNames x; clear_value x)
    | with_reducible exact Follows.refl _ _

theorem walkTurn_follows {row : Nat} {U : Nat} {r s : State} (h : Follows U r s) (hU : 262145 ||| U = U) :
    Follows U r (walkTurn row s) := by
  unfold walkTurn
  repeat' first
    | with_reducible assumption
    | intro _
    | with_reducible refine boundWrite_follows ?_ (lor_sub (by decide) hU)
    | with_reducible refine groupMod_follows ?_ (lor_sub (by decide) hU)
    | with_reducible refine walkMod_follows ?_ (lor_sub (by decide) hU)
    | with_reducible refine foldS_follows ?_ ?_
    | with_reducible refine bump_follows ?_ (lor_sub (by decide) hU)
    | with_reducible refine Follows.ite ?_ ?_
    | split
    | (extract_lets +onlyGivenNames x; refine Follows.cut (x := x) ?_ ?_; rotate_left; clear_value x; intro _; rotate_right; subst x)
    | (extract_lets +onlyGivenNames x; clear_value x)
    | with_reducible exact Follows.refl _ _

theorem walkEnd_follows  {U : Nat} {r s : State} (h : Follows U r s) (hU : 17039681 ||| U = U) :
    Follows U r (walkEnd s) := by
  unfold walkEnd
  repeat' first
    | with_reducible assumption
    | intro _
    | with_reducible refine boundWrite_follows ?_ (lor_sub (by decide) hU)
    | with_reducible refine walkMod_follows ?_ (lor_sub (by decide) hU)
    | with_reducible refine reshapeFinish_follows ?_ (lor_sub (by decide) hU)
    | split
    | (extract_lets +onlyGivenNames x; refine Follows.cut (x := x) ?_ ?_; rotate_left; clear_value x; intro _; rotate_right; subst x)
    | (extract_lets +onlyGivenNames x; clear_value x)
    | with_reducible exact Follows.refl _ _

theorem rowConvert_follows {pool : Nat} {g : Group} {row : Nat} {U : Nat} {r s : State} (h : Follows U r s) (hU : 20812113 ||| U = U) :
    Follows U r (rowConvert pool g row s) := by
  unfold rowConvert
  repeat' first
    | with_reducible assumption
    | intro _
    | with_reducible refine extMove_follows ?_ (lor_sub (by decide) hU)
    | with_reducible refine charge_follows ?_ (lor_sub (by decide) hU)
    | with_reducible refine rowMod_follows ?_ (lor_sub (by decide) hU)
    | with_reducible refine when_follows ?_ ?_
    | with_reducible refine foldS_follows ?_ ?_
    | with_reducible refine bump_follows ?_ (lor_sub (by decide) hU)
    | with_reducible refine walkMod_follows ?_ (lor_sub (by decide) hU)
    | with_reducible refine walkTurn_follows ?_ (lor_sub (by decide) hU)
    | with_reducible refine boundWrite_follows ?_ (lor_sub (by decide) hU)
    | with_reducible refine foldl_follows ?_ ?_
    | with_reducible refine Follows.ite ?_ ?_
    | split
    | (extract_lets +onlyGivenNames x; refine Follows.cut (x := x) ?_ ?_; rotate_left; clear_value x; intro _; rotate_right; subst x)
    | (extract_lets +onlyGivenNames x; clear_value x)
    | refine Follows.snd (by assumption) ?_
    | refine Follows.fst (by assumption) ?_
    | dsimp only
    | with_reducible exact Follows.refl _ _
    | with_reducible refine foldl_fst_follows ?_ ?_
    | with_reducible refine foldl_snd_follows ?_ ?_

theorem walkStep_follows  {U : Nat} {r s : State} (h : Follows U r s) (hU : 20812113 ||| U = U) :
    Follows U r (walkStep s) := by
  unfold walkStep
  repeat' first
    | with_reducible assumption
    | intro _
    | with_reducible refine boundWrite_follows ?_ (lor_sub (by decide) hU)
    | with_reducible refine walkMod_follows ?_ (lor_sub (by decide) hU)
    | with_reducible refine walkEnd_follows ?_ (lor_sub (by decide) hU)
    | with_reducible refine rowClose_follows ?_ (lor_sub (by decide) hU)
    | with_reducible refine rowConvert_follows ?_ (lor_sub (by decide) hU)
    | with_reducible refine Follows.ite ?_ ?_
    | split
    | (extract_lets +onlyGivenNames x; refine Follows.cut (x := x) ?_ ?_; rotate_left; clear_value x; intro _; rotate_right; subst x)
    | (extract_lets +onlyGivenNames x; clear_value x)
    | with_reducible exact Follows.refl _ _

theorem walkSpoiled_follows {bad : List Nat} {U : Nat} {r s : State} (h : Follows U r s) (hU : 17039617 ||| U = U) :
    Follows U r (walkSpoiled bad s) := by
  unfold walkSpoiled
  repeat' first
    | with_reducible assumption
    | intro _
    | with_reducible refine foldS_follows ?_ ?_
    | with_reducible refine tagMismatch_follows ?_ (lor_sub (by decide) hU)
    | with_reducible refine Follows.ite ?_ ?_
    | split
    | (extract_lets +onlyGivenNames x; refine Follows.cut (x := x) ?_ ?_; rotate_left; clear_value x; intro _; rotate_right; subst x)
    | (extract_lets +onlyGivenNames x; clear_value x)
    | refine Follows.snd (by assumption) ?_
    | refine Follows.fst (by assumption) ?_
    | dsimp only
    | with_reducible exact Follows.refl _ _

theorem ownCreate_follows {pool : Bool} {i side : Nat} {U : Nat} {r s : State} (h : Follows U r s) (hU : 1048577 ||| U = U) :
    Follows U r (ownCreate pool i side s) := by
  unfold ownCreate
  repeat' first
    | with_reducible assumption
    | intro _
    | with_reducible refine pairControl_follows ?_ (lor_sub (by decide) hU)
    | with_reducible exact Follows.set_pair (by assumption) (lor_sub (by decide) hU)
    | (with_reducible refine Follows.set_pair ?_ (lor_sub (by decide) hU); first | with_reducible refine pairControl_follows ?_ (lor_sub (by decide) hU) | with_reducible exact Follows.refl _ _)
    | split
    | (extract_lets +onlyGivenNames x; refine Follows.cut (x := x) ?_ ?_; rotate_left; clear_value x; intro _; rotate_right; subst x)
    | (extract_lets +onlyGivenNames x; clear_value x)
    | with_reducible exact Follows.refl _ _

theorem onGroup_follows {pool : Nat} {f : Group → State → Sts × Nat × List Nat × State} {U : Nat} {r s : State} (h : Follows U r s) (hf : ∀ x0 x1, Follows U r x1 → Follows U r ((f x0 x1).2.2.2)) :
    Follows U r (onGroup pool f s).2.2.2 := by
  unfold onGroup
  repeat' first
    | with_reducible assumption
    | intro _
    | with_reducible refine refuse_follows ?_
    | with_reducible refine Follows.ite ?_ ?_
    | refine hf _ _ ?_
    | split
    | refine Follows.snd (by assumption) ?_
    | refine Follows.fst (by assumption) ?_
    | dsimp only
    | with_reducible exact Follows.refl _ _

theorem walkReverse_follows {g : Group} {U : Nat} {r s : State} (h : Follows U r s) (hU : 262145 ||| U = U) :
    Follows U r (walkReverse g s) := by
  unfold walkReverse
  repeat' first
    | with_reducible assumption
    | intro _
    | with_reducible refine walkTurn_follows ?_ (lor_sub (by decide) hU)
    | with_reducible refine walkMod_follows ?_ (lor_sub (by decide) hU)
    | with_reducible refine Follows.ite ?_ ?_
    | split
    | (extract_lets +onlyGivenNames x; refine Follows.cut (x := x) ?_ ?_; rotate_left; clear_value x; intro _; rotate_right; subst x)
    | (extract_lets +onlyGivenNames x; clear_value x)
    | with_reducible exact Follows.refl _ _

end Sys2Proof.Machine
end

