-- ==== Sys2Proof/Laws/FollowsBlades.lean ====
section
/-!
SUPPORT. Laws/FollowsBlades.lean: the operations of Machine/Blades.lean keep what `Follows` states.
-/

namespace Sys2Proof.Machine

open Sys2Proof

theorem attestStart_follows {slot : Nat} {U : Nat} {r s : State} (h : Follows U r s) (hU : 17301504 ||| U = U) :
    Follows U r (attestStart slot s) := by
  unfold attestStart
  repeat' first
    | with_reducible assumption
    | intro _
    | with_reducible refine slotMod_follows ?_ (lor_sub (by decide) hU)
    | with_reducible refine emit_follows ?_ (lor_sub (by decide) hU)
    | split
    | (extract_lets +onlyGivenNames x; refine Follows.cut (x := x) ?_ ?_; rotate_left; clear_value x; intro _; rotate_right; subst x)
    | (extract_lets +onlyGivenNames x; clear_value x)
    | with_reducible exact Follows.refl _ _

theorem attestAnswer_follows {slot : Nat} {ok : Bool} {U : Nat} {r s : State} (h : Follows U r s) (hU : 17301953 ||| U = U) :
    Follows U r (attestAnswer slot ok s) := by
  unfold attestAnswer
  repeat' first
    | with_reducible assumption
    | intro _
    | with_reducible refine slotMod_follows ?_ (lor_sub (by decide) hU)
    | with_reducible refine mbxComplete_follows ?_ (lor_sub (by decide) hU)
    | with_reducible refine Follows.ite ?_ ?_
    | split
    | (extract_lets +onlyGivenNames x; refine Follows.cut (x := x) ?_ ?_; rotate_left; clear_value x; intro _; rotate_right; subst x)
    | (extract_lets +onlyGivenNames x; clear_value x)
    | with_reducible exact Follows.refl _ _

theorem restartLost_follows {slot : Nat} {U : Nat} {r s : State} (h : Follows U r s) (hU : 18714945 ||| U = U) :
    Follows U r (restartLost slot s) := by
  unfold restartLost
  repeat' first
    | with_reducible assumption
    | intro _
    | with_reducible refine slotSharesLost_follows ?_ (lor_sub (by decide) hU)
    | with_reducible refine Follows.ite ?_ ?_
    | with_reducible exact Follows.set_upd (by assumption) (lor_sub (by decide) hU)
    | (with_reducible refine Follows.set_upd ?_ (lor_sub (by decide) hU); first | with_reducible refine slotSharesLost_follows ?_ (lor_sub (by decide) hU) | with_reducible refine Follows.ite ?_ ?_ | with_reducible exact Follows.refl _ _)
    | split
    | (extract_lets +onlyGivenNames x; refine Follows.cut (x := x) ?_ ?_; rotate_left; clear_value x; intro _; rotate_right; subst x)
    | (extract_lets +onlyGivenNames x; clear_value x)
    | with_reducible exact Follows.refl _ _

theorem attestFailed_follows {slot : Nat} {U : Nat} {r s : State} (h : Follows U r s) (hU : 18715073 ||| U = U) :
    Follows U r (attestFailed slot s) := by
  unfold attestFailed
  repeat' first
    | with_reducible assumption
    | intro _
    | with_reducible refine slotMod_follows ?_ (lor_sub (by decide) hU)
    | with_reducible refine wrB_follows ?_ (lor_sub (by decide) hU)
    | with_reducible refine coxRaise_follows ?_ (lor_sub (by decide) hU)
    | with_reducible refine restartLost_follows ?_ (lor_sub (by decide) hU)
    | with_reducible refine slotSharesLost_follows ?_ (lor_sub (by decide) hU)
    | with_reducible refine attestAnswer_follows ?_ (lor_sub (by decide) hU)
    | split
    | (extract_lets +onlyGivenNames x; refine Follows.cut (x := x) ?_ ?_; rotate_left; clear_value x; intro _; rotate_right; subst x)
    | (extract_lets +onlyGivenNames x; clear_value x)
    | with_reducible exact Follows.refl _ _

theorem targetBack_follows {slot : Nat} {U : Nat} {r s : State} (h : Follows U r s) (hU : 262144 ||| U = U) :
    Follows U r (targetBack slot s) := by
  unfold targetBack
  repeat' first
    | with_reducible assumption
    | intro _
    | with_reducible refine foldS_follows ?_ ?_
    | with_reducible refine groupMod_follows ?_ (lor_sub (by decide) hU)
    | with_reducible refine Follows.ite ?_ ?_
    | split
    | (extract_lets +onlyGivenNames x; refine Follows.cut (x := x) ?_ ?_; rotate_left; clear_value x; intro _; rotate_right; subst x)
    | (extract_lets +onlyGivenNames x; clear_value x)
    | refine Follows.snd (by assumption) ?_
    | refine Follows.fst (by assumption) ?_
    | dsimp only
    | with_reducible exact Follows.refl _ _

theorem fenceClaim_follows {slot : Nat} {U : Nat} {r s : State} (h : Follows U r s) (hU : 18350081 ||| U = U) :
    Follows U r (fenceClaim slot s) := by
  unfold fenceClaim
  repeat' first
    | with_reducible assumption
    | intro _
    | with_reducible refine slotAssign_follows ?_ (lor_sub (by decide) hU)
    | with_reducible refine Follows.ite ?_ ?_
    | split
    | with_reducible exact Follows.refl _ _

theorem attestPassed_follows {slot root : Nat} {g : BladeGeom} {U : Nat} {r s : State} (h : Follows U r s) (hU : 18612673 ||| U = U) :
    Follows U r (attestPassed slot root g s) := by
  unfold attestPassed
  repeat' first
    | with_reducible assumption
    | intro _
    | with_reducible refine slotMod_follows ?_ (lor_sub (by decide) hU)
    | with_reducible refine wrB_follows ?_ (lor_sub (by decide) hU)
    | with_reducible refine wr_follows ?_ (lor_sub (by decide) hU)
    | with_reducible refine attestAnswer_follows ?_ (lor_sub (by decide) hU)
    | with_reducible refine targetBack_follows ?_ (lor_sub (by decide) hU)
    | with_reducible refine fenceClaim_follows ?_ (lor_sub (by decide) hU)
    | with_reducible refine foldS_follows ?_ ?_
    | with_reducible refine when_follows ?_ ?_
    | with_reducible refine targetsFind_follows ?_ (lor_sub (by decide) hU)
    | with_reducible refine portPump_follows ?_ (lor_sub (by decide) hU)
    | split
    | (extract_lets +onlyGivenNames x; refine Follows.cut (x := x) ?_ ?_; rotate_left; clear_value x; intro _; rotate_right; subst x)
    | (extract_lets +onlyGivenNames x; clear_value x)
    | refine Follows.snd (by assumption) ?_
    | refine Follows.fst (by assumption) ?_
    | dsimp only
    | with_reducible exact Follows.refl _ _

theorem attestDone_follows {slot root : Nat} {sigOk : Bool} {measures : List Nat} {g : BladeGeom} {U : Nat} {r s : State} (h : Follows U r s) (hU : 18715073 ||| U = U) :
    Follows U r (attestDone slot root sigOk measures g s) := by
  unfold attestDone
  repeat' first
    | with_reducible assumption
    | intro _
    | with_reducible refine attestFailed_follows ?_ (lor_sub (by decide) hU)
    | with_reducible refine attestPassed_follows ?_ (lor_sub (by decide) hU)
    | with_reducible refine caughtUp_follows ?_ (lor_sub (by decide) hU)
    | with_reducible refine restartLost_follows ?_ (lor_sub (by decide) hU)
    | with_reducible refine Follows.ite ?_ ?_
    | with_reducible exact Follows.set_upd (by assumption) (lor_sub (by decide) hU)
    | (with_reducible refine Follows.set_upd ?_ (lor_sub (by decide) hU); first | with_reducible refine attestFailed_follows ?_ (lor_sub (by decide) hU) | with_reducible refine attestPassed_follows ?_ (lor_sub (by decide) hU) | with_reducible refine caughtUp_follows ?_ (lor_sub (by decide) hU) | with_reducible refine restartLost_follows ?_ (lor_sub (by decide) hU) | with_reducible refine Follows.ite ?_ ?_ | with_reducible exact Follows.refl _ _)
    | split
    | (extract_lets +onlyGivenNames x; refine Follows.cut (x := x) ?_ ?_; rotate_left; clear_value x; intro _; rotate_right; subst x)
    | (extract_lets +onlyGivenNames x; clear_value x)
    | with_reducible exact Follows.refl _ _

theorem insertionBounds_follows  {U : Nat} {r s : State} (h : Follows U r s) (hU : 18715073 ||| U = U) :
    Follows U r (insertionBounds s) := by
  unfold insertionBounds
  repeat' first
    | with_reducible assumption
    | intro _
    | with_reducible refine foldS_follows ?_ ?_
    | with_reducible refine attestFailed_follows ?_ (lor_sub (by decide) hU)
    | with_reducible refine Follows.ite ?_ ?_
    | split
    | (extract_lets +onlyGivenNames x; refine Follows.cut (x := x) ?_ ?_; rotate_left; clear_value x; intro _; rotate_right; subst x)
    | (extract_lets +onlyGivenNames x; clear_value x)
    | with_reducible exact Follows.refl _ _

theorem heartbeatTimeout_follows {slot : Nat} {U : Nat} {r s : State} (h : Follows U r s) (hU : 20967889 ||| U = U) :
    Follows U r (heartbeatTimeout slot s) := by
  unfold heartbeatTimeout
  repeat' first
    | with_reducible assumption
    | intro _
    | with_reducible refine linkLost_follows ?_ (lor_sub (by decide) hU)
    | with_reducible refine attestStart_follows ?_ (lor_sub (by decide) hU)
    | with_reducible refine roomFound_follows ?_ (lor_sub (by decide) hU)
    | with_reducible refine Follows.ite ?_ ?_
    | split
    | with_reducible exact Follows.refl _ _

theorem oarControl_follows {slot code : Nat} {U : Nat} {r s : State} (h : Follows U r s) (hU : 17301504 ||| U = U) :
    Follows U r (oarControl slot code s) := by
  unfold oarControl
  repeat' first
    | with_reducible assumption
    | intro _
    | with_reducible refine emit_follows ?_ (lor_sub (by decide) hU)
    | with_reducible refine portMod_follows ?_ (lor_sub (by decide) hU)
    | split
    | (extract_lets +onlyGivenNames x; refine Follows.cut (x := x) ?_ ?_; rotate_left; clear_value x; intro _; rotate_right; subst x)
    | (extract_lets +onlyGivenNames x; clear_value x)
    | with_reducible exact Follows.refl _ _

theorem trainStart_follows {slot : Nat} {U : Nat} {r s : State} (h : Follows U r s) (hU : 524289 ||| U = U) :
    Follows U r (trainStart slot s) := by
  unfold trainStart
  repeat' first
    | with_reducible assumption
    | intro _
    | with_reducible refine wr_follows ?_ (lor_sub (by decide) hU)
    | with_reducible refine portMod_follows ?_ (lor_sub (by decide) hU)
    | with_reducible refine Follows.ite ?_ ?_
    | split
    | (extract_lets +onlyGivenNames x; refine Follows.cut (x := x) ?_ ?_; rotate_left; clear_value x; intro _; rotate_right; subst x)
    | (extract_lets +onlyGivenNames x; clear_value x)
    | with_reducible exact Follows.refl _ _

theorem slotPower_follows {slot : Nat} {U : Nat} {r s : State} (h : Follows U r s) (hU : 17301505 ||| U = U) :
    Follows U r (slotPower slot s) := by
  unfold slotPower
  repeat' first
    | with_reducible assumption
    | intro _
    | with_reducible refine setPwren_follows ?_ (lor_sub (by decide) hU)
    | with_reducible refine when_follows ?_ ?_
    | with_reducible refine trainStart_follows ?_ (lor_sub (by decide) hU)
    | split
    | (extract_lets +onlyGivenNames x; refine Follows.cut (x := x) ?_ ?_; rotate_left; clear_value x; intro _; rotate_right; subst x)
    | (extract_lets +onlyGivenNames x; clear_value x)
    | with_reducible exact Follows.refl _ _

theorem linkTrained_follows {slot cmdBuf wdataBuf mgmtBuf : Nat} {U : Nat} {r s : State} (h : Follows U r s) (hU : 17301825 ||| U = U) :
    Follows U r (linkTrained slot cmdBuf wdataBuf mgmtBuf s) := by
  unfold linkTrained
  repeat' first
    | with_reducible assumption
    | intro _
    | with_reducible refine portMod_follows ?_ (lor_sub (by decide) hU)
    | with_reducible refine wr_follows ?_ (lor_sub (by decide) hU)
    | with_reducible refine setLinkUp_follows ?_ (lor_sub (by decide) hU)
    | with_reducible refine emit_follows ?_ (lor_sub (by decide) hU)
    | with_reducible refine oarControl_follows ?_ (lor_sub (by decide) hU)
    | with_reducible refine oarPut_follows ?_ (lor_sub (by decide) hU)
    | with_reducible refine when_follows ?_ ?_
    | with_reducible refine attestStart_follows ?_ (lor_sub (by decide) hU)
    | with_reducible refine Follows.ite ?_ ?_
    | split
    | (extract_lets +onlyGivenNames x; refine Follows.cut (x := x) ?_ ?_; rotate_left; clear_value x; intro _; rotate_right; subst x)
    | (extract_lets +onlyGivenNames x; clear_value x)
    | with_reducible exact Follows.refl _ _

theorem trainRetry_follows {slot : Nat} {U : Nat} {r s : State} (h : Follows U r s) (hU : 524289 ||| U = U) :
    Follows U r (trainRetry slot s) := by
  unfold trainRetry
  repeat' first
    | with_reducible assumption
    | intro _
    | with_reducible refine wr_follows ?_ (lor_sub (by decide) hU)
    | with_reducible refine trainStart_follows ?_ (lor_sub (by decide) hU)
    | with_reducible refine Follows.ite ?_ ?_
    | split
    | (extract_lets +onlyGivenNames x; refine Follows.cut (x := x) ?_ ?_; rotate_left; clear_value x; intro _; rotate_right; subst x)
    | (extract_lets +onlyGivenNames x; clear_value x)
    | with_reducible exact Follows.refl _ _

theorem linkDown_follows {slot : Nat} {U : Nat} {r s : State} (h : Follows U r s) (hU : 20967889 ||| U = U) :
    Follows U r (linkDown slot s) := by
  unfold linkDown
  repeat' first
    | with_reducible assumption
    | intro _
    | with_reducible refine wr_follows ?_ (lor_sub (by decide) hU)
    | with_reducible refine setLinkUp_follows ?_ (lor_sub (by decide) hU)
    | with_reducible refine linkLost_follows ?_ (lor_sub (by decide) hU)
    | with_reducible refine attestAnswer_follows ?_ (lor_sub (by decide) hU)
    | with_reducible refine portMod_follows ?_ (lor_sub (by decide) hU)
    | with_reducible refine roomFound_follows ?_ (lor_sub (by decide) hU)
    | with_reducible refine oarRetrain_follows ?_ (lor_sub (by decide) hU)
    | with_reducible refine Follows.ite ?_ ?_
    | split
    | (extract_lets +onlyGivenNames x; refine Follows.cut (x := x) ?_ ?_; rotate_left; clear_value x; intro _; rotate_right; subst x)
    | (extract_lets +onlyGivenNames x; clear_value x)
    | with_reducible exact Follows.refl _ _

theorem retrainLimit_follows {slot : Nat} {U : Nat} {r s : State} (h : Follows U r s) (hU : 20967889 ||| U = U) :
    Follows U r (retrainLimit slot s) := by
  unfold retrainLimit
  repeat' first
    | with_reducible assumption
    | intro _
    | with_reducible refine portFail_follows ?_ (lor_sub (by decide) hU)
    | with_reducible refine attestAnswer_follows ?_ (lor_sub (by decide) hU)
    | with_reducible refine roomFound_follows ?_ (lor_sub (by decide) hU)
    | with_reducible refine Follows.ite ?_ ?_
    | split
    | (extract_lets +onlyGivenNames x; refine Follows.cut (x := x) ?_ ?_; rotate_left; clear_value x; intro _; rotate_right; subst x)
    | (extract_lets +onlyGivenNames x; clear_value x)
    | with_reducible exact Follows.refl _ _

theorem oarNakSend_follows {slot : Nat} {U : Nat} {r s : State} (h : Follows U r s) (hU : 17301504 ||| U = U) :
    Follows U r (oarNakSend slot s) := by
  unfold oarNakSend
  repeat' first
    | with_reducible assumption
    | intro _
    | with_reducible refine oarControl_follows ?_ (lor_sub (by decide) hU)
    | split
    | with_reducible exact Follows.refl _ _

theorem mgmtDeliver_follows {slot : Nat} {m : MgmtMsg} {U : Nat} {r s : State} (h : Follows U r s) (hU : 18350081 ||| U = U) :
    Follows U r (mgmtDeliver slot m s) := by
  unfold mgmtDeliver
  repeat' first
    | with_reducible assumption
    | intro _
    | with_reducible refine portMod_follows ?_ (lor_sub (by decide) hU)
    | with_reducible refine portPump_follows ?_ (lor_sub (by decide) hU)
    | with_reducible refine Follows.ite ?_ ?_
    | split
    | (extract_lets +onlyGivenNames x; refine Follows.cut (x := x) ?_ ?_; rotate_left; clear_value x; intro _; rotate_right; subst x)
    | (extract_lets +onlyGivenNames x; clear_value x)
    | with_reducible exact Follows.refl _ _

theorem dataFrame_follows {slot seq ack chan len : Nat} {credits : List Nat} {crcOk typeOk : Bool} {m : MgmtMsg} {U : Nat} {r s : State} (h : Follows U r s) (hU : 20967761 ||| U = U) :
    Follows U r (dataFrame slot seq ack chan len credits crcOk typeOk m s) := by
  unfold dataFrame
  repeat' first
    | with_reducible assumption
    | intro _
    | with_reducible refine oarNakSend_follows ?_ (lor_sub (by decide) hU)
    | with_reducible refine protoError_follows ?_ (lor_sub (by decide) hU)
    | with_reducible refine oarAcked_follows ?_ (lor_sub (by decide) hU)
    | with_reducible refine oarControl_follows ?_ (lor_sub (by decide) hU)
    | with_reducible refine portMod_follows ?_ (lor_sub (by decide) hU)
    | with_reducible refine oarCredits_follows ?_ (lor_sub (by decide) hU)
    | with_reducible refine when_follows ?_ ?_
    | with_reducible refine mgmtDeliver_follows ?_ (lor_sub (by decide) hU)
    | with_reducible refine Follows.ite ?_ ?_
    | split
    | (extract_lets +onlyGivenNames x; refine Follows.cut (x := x) ?_ ?_; rotate_left; clear_value x; intro _; rotate_right; subst x)
    | (extract_lets +onlyGivenNames x; clear_value x)
    | with_reducible exact Follows.refl _ _

theorem replayFrom_follows {slot after : Nat} {U : Nat} {r s : State} (h : Follows U r s) (hU : 20967889 ||| U = U) :
    Follows U r (replayFrom slot after s) := by
  unfold replayFrom
  repeat' first
    | with_reducible assumption
    | intro _
    | with_reducible refine oarRetrain_follows ?_ (lor_sub (by decide) hU)
    | with_reducible refine roomFound_follows ?_ (lor_sub (by decide) hU)
    | with_reducible refine oarReplay_follows ?_ (lor_sub (by decide) hU)
    | with_reducible refine portMod_follows ?_ (lor_sub (by decide) hU)
    | with_reducible refine Follows.ite ?_ ?_
    | split
    | (extract_lets +onlyGivenNames x; refine Follows.cut (x := x) ?_ ?_; rotate_left; clear_value x; intro _; rotate_right; subst x)
    | (extract_lets +onlyGivenNames x; clear_value x)
    | with_reducible exact Follows.refl _ _

theorem linkEdge_follows {fec : List FecSample} {U : Nat} {r s : State} (h : Follows U r s) (hU : 524289 ||| U = U) :
    Follows U r (linkEdge fec s) := by
  unfold linkEdge
  repeat' first
    | with_reducible assumption
    | intro _
    | with_reducible refine foldS_follows ?_ ?_
    | with_reducible refine bumpN_follows ?_ (lor_sub (by decide) hU)
    | with_reducible refine portMod_follows ?_ (lor_sub (by decide) hU)
    | with_reducible refine wr_follows ?_ (lor_sub (by decide) hU)
    | with_reducible refine foldl_follows ?_ ?_
    | with_reducible refine Follows.ite ?_ ?_
    | split
    | (extract_lets +onlyGivenNames x; refine Follows.cut (x := x) ?_ ?_; rotate_left; clear_value x; intro _; rotate_right; subst x)
    | (extract_lets +onlyGivenNames x; clear_value x)
    | refine Follows.snd (by assumption) ?_
    | refine Follows.fst (by assumption) ?_
    | dsimp only
    | with_reducible exact Follows.refl _ _

theorem presentStable_follows {slot : Nat} {U : Nat} {r s : State} (h : Follows U r s) (hU : 17301825 ||| U = U) :
    Follows U r (presentStable slot s) := by
  unfold presentStable
  repeat' first
    | with_reducible assumption
    | intro _
    | with_reducible refine wr_follows ?_ (lor_sub (by decide) hU)
    | with_reducible refine slotEvent_follows ?_ (lor_sub (by decide) hU)
    | with_reducible refine when_follows ?_ ?_
    | with_reducible refine slotPower_follows ?_ (lor_sub (by decide) hU)
    | with_reducible refine Follows.ite ?_ ?_
    | split
    | with_reducible exact Follows.refl _ _

theorem absentDetect_follows {slot : Nat} {U : Nat} {r s : State} (h : Follows U r s) (hU : 20967889 ||| U = U) :
    Follows U r (absentDetect slot s) := by
  unfold absentDetect
  repeat' first
    | with_reducible assumption
    | intro _
    | with_reducible refine wr_follows ?_ (lor_sub (by decide) hU)
    | with_reducible refine slotEvent_follows ?_ (lor_sub (by decide) hU)
    | with_reducible refine when_follows ?_ ?_
    | with_reducible refine slotPower_follows ?_ (lor_sub (by decide) hU)
    | with_reducible refine setLinkUp_follows ?_ (lor_sub (by decide) hU)
    | with_reducible refine restartLost_follows ?_ (lor_sub (by decide) hU)
    | with_reducible refine linkLost_follows ?_ (lor_sub (by decide) hU)
    | with_reducible refine attestAnswer_follows ?_ (lor_sub (by decide) hU)
    | with_reducible refine portMod_follows ?_ (lor_sub (by decide) hU)
    | with_reducible refine slotMod_follows ?_ (lor_sub (by decide) hU)
    | with_reducible refine slotRelease_follows ?_ (lor_sub (by decide) hU)
    | with_reducible refine roomFound_follows ?_ (lor_sub (by decide) hU)
    | with_reducible refine Follows.ite ?_ ?_
    | split
    | (extract_lets +onlyGivenNames x; refine Follows.cut (x := x) ?_ ?_; rotate_left; clear_value x; intro _; rotate_right; subst x)
    | (extract_lets +onlyGivenNames x; clear_value x)
    | with_reducible exact Follows.refl _ _

theorem waitWrite_follows {f : Fld} {v : Nat} {U : Nat} {r s : State} (h : Follows U r s) (hU : 2 ||| U = U) :
    Follows U r (waitWrite f v s) := by
  unfold waitWrite
  repeat' first
    | with_reducible assumption
    | intro _
    | with_reducible exact Follows.set_bus (by assumption) (lor_sub (by decide) hU)
    | (with_reducible refine Follows.set_bus ?_ (lor_sub (by decide) hU); first | with_reducible exact Follows.refl _ _)
    | split
    | (extract_lets +onlyGivenNames x; refine Follows.cut (x := x) ?_ ?_; rotate_left; clear_value x; intro _; rotate_right; subst x)
    | (extract_lets +onlyGivenNames x; clear_value x)
    | with_reducible exact Follows.refl _ _

theorem pwrOffWrite_follows {slot : Nat} {off : Bool} {U : Nat} {r s : State} (h : Follows U r s) (hU : 3 ||| U = U) :
    Follows U r (pwrOffWrite slot off s) := by
  unfold pwrOffWrite
  repeat' first
    | with_reducible assumption
    | intro _
    | with_reducible refine wr_follows ?_ (lor_sub (by decide) hU)
    | with_reducible refine waitWrite_follows ?_ (lor_sub (by decide) hU)
    | with_reducible refine Follows.ite ?_ ?_
    | split
    | with_reducible exact Follows.refl _ _

theorem powerEdge_follows {slot : Nat} {U : Nat} {r s : State} (h : Follows U r s) (hU : 17301505 ||| U = U) :
    Follows U r (powerEdge slot s) := by
  unfold powerEdge
  repeat' first
    | with_reducible assumption
    | intro _
    | with_reducible refine wr_follows ?_ (lor_sub (by decide) hU)
    | with_reducible refine slotPower_follows ?_ (lor_sub (by decide) hU)
    | with_reducible refine Follows.ite ?_ ?_
    | split
    | with_reducible exact Follows.refl _ _

theorem fenceAcked_follows {slot epoch : Nat} {U : Nat} {r s : State} (h : Follows U r s) (hU : 18350081 ||| U = U) :
    Follows U r (fenceAcked slot epoch s) := by
  unfold fenceAcked
  repeat' first
    | with_reducible assumption
    | intro _
    | with_reducible refine slotMod_follows ?_ (lor_sub (by decide) hU)
    | with_reducible refine wr_follows ?_ (lor_sub (by decide) hU)
    | with_reducible refine wrB_follows ?_ (lor_sub (by decide) hU)
    | with_reducible refine portMod_follows ?_ (lor_sub (by decide) hU)
    | with_reducible refine when_follows ?_ ?_
    | with_reducible refine portPump_follows ?_ (lor_sub (by decide) hU)
    | with_reducible refine Follows.ite ?_ ?_
    | split
    | (extract_lets +onlyGivenNames x; refine Follows.cut (x := x) ?_ ?_; rotate_left; clear_value x; intro _; rotate_right; subst x)
    | (extract_lets +onlyGivenNames x; clear_value x)
    | with_reducible exact Follows.refl _ _

theorem ringPut_follows {ccw : Bool} {dest src type seq hops stamp : Nat} {payload : List Nat} {U : Nat} {r s : State} (h : Follows U r s) (hU : 16777216 ||| U = U) :
    Follows U r (ringPut ccw dest src type seq hops stamp payload s) := by
  unfold ringPut
  repeat' first
    | with_reducible assumption
    | intro _
    | with_reducible refine emit_follows ?_ (lor_sub (by decide) hU)
    | split
    | with_reducible exact Follows.refl _ _

theorem ringSend_follows {ccw : Bool} {slot type : Nat} {payload : List Nat} {U : Nat} {r s : State} (h : Follows U r s) (hU : 17301504 ||| U = U) :
    Follows U r (ringSend ccw slot type payload s) := by
  unfold ringSend
  repeat' first
    | with_reducible assumption
    | intro _
    | with_reducible refine ringPut_follows ?_ (lor_sub (by decide) hU)
    | with_reducible exact Follows.set_bld (by assumption) (lor_sub (by decide) hU)
    | (with_reducible refine Follows.set_bld ?_ (lor_sub (by decide) hU); first | with_reducible refine ringPut_follows ?_ (lor_sub (by decide) hU) | with_reducible exact Follows.refl _ _)
    | split
    | (extract_lets +onlyGivenNames x; refine Follows.cut (x := x) ?_ ?_; rotate_left; clear_value x; intro _; rotate_right; subst x)
    | (extract_lets +onlyGivenNames x; clear_value x)
    | with_reducible exact Follows.refl _ _

theorem indSend_follows {slot : Nat} {U : Nat} {r s : State} (h : Follows U r s) (hU : 17301505 ||| U = U) :
    Follows U r (indSend slot s) := by
  unfold indSend
  repeat' first
    | with_reducible assumption
    | intro _
    | with_reducible refine wr_follows ?_ (lor_sub (by decide) hU)
    | with_reducible refine slotMod_follows ?_ (lor_sub (by decide) hU)
    | with_reducible refine bump_follows ?_ (lor_sub (by decide) hU)
    | with_reducible refine ringSend_follows ?_ (lor_sub (by decide) hU)
    | with_reducible refine Follows.ite ?_ ?_
    | split
    | (extract_lets +onlyGivenNames x; refine Follows.cut (x := x) ?_ ?_; rotate_left; clear_value x; intro _; rotate_right; subst x)
    | (extract_lets +onlyGivenNames x; clear_value x)
    | with_reducible exact Follows.refl _ _

theorem indTimeout_follows {slot : Nat} {U : Nat} {r s : State} (h : Follows U r s) (hU : 17301505 ||| U = U) :
    Follows U r (indTimeout slot s) := by
  unfold indTimeout
  repeat' first
    | with_reducible assumption
    | intro _
    | with_reducible refine bump_follows ?_ (lor_sub (by decide) hU)
    | with_reducible refine slotMod_follows ?_ (lor_sub (by decide) hU)
    | with_reducible refine ringSend_follows ?_ (lor_sub (by decide) hU)
    | with_reducible refine wr_follows ?_ (lor_sub (by decide) hU)
    | split
    | (extract_lets +onlyGivenNames x; refine Follows.cut (x := x) ?_ ?_; rotate_left; clear_value x; intro _; rotate_right; subst x)
    | (extract_lets +onlyGivenNames x; clear_value x)
    | with_reducible exact Follows.refl _ _

theorem sweepMod_follows {f : Sweep → Sweep} {U : Nat} {r s : State} (h : Follows U r s) (hU : 524288 ||| U = U) :
    Follows U r (sweepMod f s) := by
  unfold sweepMod
  repeat' first
    | with_reducible assumption
    | intro _
    | with_reducible exact Follows.set_bld (by assumption) (lor_sub (by decide) hU)
    | (with_reducible refine Follows.set_bld ?_ (lor_sub (by decide) hU); first | with_reducible exact Follows.refl _ _)
    | split
    | (extract_lets +onlyGivenNames x; refine Follows.cut (x := x) ?_ ?_; rotate_left; clear_value x; intro _; rotate_right; subst x)
    | (extract_lets +onlyGivenNames x; clear_value x)
    | with_reducible exact Follows.refl _ _

theorem sweepEnd_follows  {U : Nat} {r s : State} (h : Follows U r s) (hU : 524289 ||| U = U) :
    Follows U r (sweepEnd s) := by
  unfold sweepEnd
  repeat' first
    | with_reducible assumption
    | intro _
    | with_reducible refine foldS_follows ?_ ?_
    | with_reducible refine wr_follows ?_ (lor_sub (by decide) hU)
    | with_reducible refine wrB_follows ?_ (lor_sub (by decide) hU)
    | with_reducible exact Follows.set_bld (by assumption) (lor_sub (by decide) hU)
    | (with_reducible refine Follows.set_bld ?_ (lor_sub (by decide) hU); first | with_reducible refine foldS_follows ?_ ?_ | with_reducible refine wr_follows ?_ (lor_sub (by decide) hU) | with_reducible refine wrB_follows ?_ (lor_sub (by decide) hU) | with_reducible exact Follows.refl _ _)
    | split
    | (extract_lets +onlyGivenNames x; refine Follows.cut (x := x) ?_ ?_; rotate_left; clear_value x; intro _; rotate_right; subst x)
    | (extract_lets +onlyGivenNames x; clear_value x)
    | with_reducible exact Follows.refl _ _

theorem sweepGoN_follows {n : Nat} {U : Nat} {r s : State} (h : Follows U r s) (hU : 17301505 ||| U = U) : Follows U r (sweepGoN n s) := by
  induction n generalizing s with
  | zero => exact h
  | succ n ih =>
    unfold sweepGoN
    repeat' first
      | with_reducible assumption
      | with_reducible refine ih ?_
      | with_reducible refine ringSend_follows ?_ (lor_sub (by decide) hU)
      | with_reducible refine sweepMod_follows ?_ (lor_sub (by decide) hU)
      | with_reducible refine sweepEnd_follows ?_ (lor_sub (by decide) hU)
      | with_reducible refine Follows.ite ?_ ?_
      | split

theorem sweepGo_follows  {U : Nat} {r s : State} (h : Follows U r s) (hU : 17301505 ||| U = U) :
    Follows U r (sweepGo s) := by
  unfold sweepGo
  repeat' first
    | with_reducible assumption
    | intro _
    | with_reducible refine sweepGoN_follows ?_ (lor_sub (by decide) hU)
    | split
    | refine Follows.snd (by assumption) ?_
    | refine Follows.fst (by assumption) ?_
    | dsimp only
    | with_reducible exact Follows.refl _ _

theorem sweepStart_follows  {U : Nat} {r s : State} (h : Follows U r s) (hU : 17301505 ||| U = U) :
    Follows U r (sweepStart s) := by
  unfold sweepStart
  repeat' first
    | with_reducible assumption
    | intro _
    | with_reducible refine wr_follows ?_ (lor_sub (by decide) hU)
    | with_reducible refine sweepGo_follows ?_ (lor_sub (by decide) hU)
    | with_reducible refine Follows.ite ?_ ?_
    | with_reducible exact Follows.set_bld (by assumption) (lor_sub (by decide) hU)
    | (with_reducible refine Follows.set_bld ?_ (lor_sub (by decide) hU); first | with_reducible refine wr_follows ?_ (lor_sub (by decide) hU) | with_reducible refine sweepGo_follows ?_ (lor_sub (by decide) hU) | with_reducible refine Follows.ite ?_ ?_ | with_reducible exact Follows.refl _ _)
    | split
    | (extract_lets +onlyGivenNames x; refine Follows.cut (x := x) ?_ ?_; rotate_left; clear_value x; intro _; rotate_right; subst x)
    | (extract_lets +onlyGivenNames x; clear_value x)
    | with_reducible exact Follows.refl _ _

theorem healthReply_follows {slot : Nat} {h : HealthReply} {U : Nat} {r s : State} (hs : Follows U r s) (hU : 17301825 ||| U = U) :
    Follows U r (healthReply slot h s) := by
  unfold healthReply
  repeat' first
    | with_reducible assumption
    | intro _
    | with_reducible refine sweepMod_follows ?_ (lor_sub (by decide) hU)
    | with_reducible refine wr_follows ?_ (lor_sub (by decide) hU)
    | with_reducible refine slotMod_follows ?_ (lor_sub (by decide) hU)
    | with_reducible refine when_follows ?_ ?_
    | with_reducible refine slotEvent_follows ?_ (lor_sub (by decide) hU)
    | with_reducible refine indSend_follows ?_ (lor_sub (by decide) hU)
    | with_reducible refine sweepGo_follows ?_ (lor_sub (by decide) hU)
    | with_reducible refine Follows.ite ?_ ?_
    | split
    | (extract_lets +onlyGivenNames x; refine Follows.cut (x := x) ?_ ?_; rotate_left; clear_value x; intro _; rotate_right; subst x)
    | (extract_lets +onlyGivenNames x; clear_value x)
    | with_reducible exact Follows.refl _ _

theorem pollTimeout_follows {slot : Nat} {U : Nat} {r s : State} (h : Follows U r s) (hU : 17301825 ||| U = U) :
    Follows U r (pollTimeout slot s) := by
  unfold pollTimeout
  repeat' first
    | with_reducible assumption
    | intro _
    | with_reducible refine sweepMod_follows ?_ (lor_sub (by decide) hU)
    | with_reducible refine ringSend_follows ?_ (lor_sub (by decide) hU)
    | with_reducible refine bump_follows ?_ (lor_sub (by decide) hU)
    | with_reducible refine faultNote_follows ?_ (lor_sub (by decide) hU)
    | with_reducible refine sweepGo_follows ?_ (lor_sub (by decide) hU)
    | with_reducible refine Follows.ite ?_ ?_
    | split
    | (extract_lets +onlyGivenNames x; refine Follows.cut (x := x) ?_ ?_; rotate_left; clear_value x; intro _; rotate_right; subst x)
    | (extract_lets +onlyGivenNames x; clear_value x)
    | with_reducible exact Follows.refl _ _

end Sys2Proof.Machine
end

