-- ==== Sys2Proof/Laws/FollowsCoxOps.lean ====
section
/-!
SUPPORT. Laws/FollowsCoxOps.lean: the operations of Machine/CoxOps.lean keep what `Follows` states.
-/

namespace Sys2Proof.Machine

open Sys2Proof

theorem mbxEvent_follows {ev : Fld} {raised : Bool} {U : Nat} {r s : State} (h : Follows U r s) (hU : 16777537 ||| U = U) :
    Follows U r (mbxEvent ev raised s) := by
  unfold mbxEvent
  repeat' first
    | with_reducible assumption
    | intro _
    | with_reducible refine setEvent_follows ?_ (lor_sub (by decide) hU)
    | split
    | with_reducible exact Follows.refl _ _

theorem commandsRestart_follows  {U : Nat} {r s : State} (h : Follows U r s) (hU : 16777473 ||| U = U) :
    Follows U r (commandsRestart s) := by
  unfold commandsRestart
  repeat' first
    | with_reducible assumption
    | intro _
    | with_reducible refine foldS_follows ?_ ?_
    | with_reducible refine bump_follows ?_ (lor_sub (by decide) hU)
    | with_reducible refine issueReads_follows ?_ (lor_sub (by decide) hU)
    | with_reducible refine Follows.ite ?_ ?_
    | with_reducible exact Follows.set_pci (by assumption) (lor_sub (by decide) hU)
    | (with_reducible refine Follows.set_pci ?_ (lor_sub (by decide) hU); first | with_reducible refine foldS_follows ?_ ?_ | with_reducible refine bump_follows ?_ (lor_sub (by decide) hU) | with_reducible refine issueReads_follows ?_ (lor_sub (by decide) hU) | with_reducible refine Follows.ite ?_ ?_ | with_reducible exact Follows.refl _ _)
    | split
    | (extract_lets +onlyGivenNames x; refine Follows.cut (x := x) ?_ ?_; rotate_left; clear_value x; intro _; rotate_right; subst x)
    | (extract_lets +onlyGivenNames x; clear_value x)
    | with_reducible exact Follows.refl _ _

theorem coxMoves_follows {gap : Nat} {U : Nat} {r s : State} (h : Follows U r s) (hU : 16777569 ||| U = U) :
    Follows U r (coxMoves gap s) := by
  unfold coxMoves
  repeat' first
    | with_reducible assumption
    | intro _
    | with_reducible refine wr_follows ?_ (lor_sub (by decide) hU)
    | with_reducible refine bump_follows ?_ (lor_sub (by decide) hU)
    | with_reducible refine mbxEvent_follows ?_ (lor_sub (by decide) hU)
    | with_reducible refine commandsRestart_follows ?_ (lor_sub (by decide) hU)
    | with_reducible exact Follows.set_cox (by assumption) (lor_sub (by decide) hU)
    | (with_reducible refine Follows.set_cox ?_ (lor_sub (by decide) hU); first | with_reducible refine wr_follows ?_ (lor_sub (by decide) hU) | with_reducible refine bump_follows ?_ (lor_sub (by decide) hU) | with_reducible refine mbxEvent_follows ?_ (lor_sub (by decide) hU) | with_reducible refine commandsRestart_follows ?_ (lor_sub (by decide) hU) | with_reducible exact Follows.refl _ _)
    | split
    | (extract_lets +onlyGivenNames x; refine Follows.cut (x := x) ?_ ?_; rotate_left; clear_value x; intro _; rotate_right; subst x)
    | (extract_lets +onlyGivenNames x; clear_value x)
    | with_reducible exact Follows.refl _ _

theorem coxFaults_follows {gap : Nat} {U : Nat} {r s : State} (h : Follows U r s) (hU : 16778081 ||| U = U) :
    Follows U r (coxFaults gap s) := by
  unfold coxFaults
  repeat' first
    | with_reducible assumption
    | intro _
    | with_reducible refine headHalt_follows ?_ (lor_sub (by decide) hU)
    | with_reducible refine coxMoves_follows ?_ (lor_sub (by decide) hU)
    | with_reducible refine wr_follows ?_ (lor_sub (by decide) hU)
    | with_reducible refine Follows.ite ?_ ?_
    | split
    | with_reducible exact Follows.refl _ _

theorem drillFaults_follows {l : List Nat} {U : Nat} {r s : State} (h : Follows U r s) (hU : 16777537 ||| U = U) :
    Follows U r (drillFaults l s) := by
  unfold drillFaults
  repeat' first
    | with_reducible assumption
    | intro _
    | with_reducible refine foldS_follows ?_ ?_
    | with_reducible refine faultCount_follows ?_ (lor_sub (by decide) hU)
    | with_reducible refine mbxEvent_follows ?_ (lor_sub (by decide) hU)
    | with_reducible refine faultClear_follows ?_ (lor_sub (by decide) hU)
    | with_reducible refine Follows.ite ?_ ?_
    | split
    | (extract_lets +onlyGivenNames x; refine Follows.cut (x := x) ?_ ?_; rotate_left; clear_value x; intro _; rotate_right; subst x)
    | (extract_lets +onlyGivenNames x; clear_value x)
    | refine Follows.snd (by assumption) ?_
    | refine Follows.fst (by assumption) ?_
    | dsimp only
    | with_reducible exact Follows.refl _ _

theorem drillEnds_follows {d : Drill} {gap2 : Nat} {U : Nat} {r s : State} (h : Follows U r s) (hU : 16777697 ||| U = U) :
    Follows U r (drillEnds d gap2 s) := by
  unfold drillEnds
  repeat' first
    | with_reducible assumption
    | intro _
    | with_reducible refine wr_follows ?_ (lor_sub (by decide) hU)
    | with_reducible refine bump_follows ?_ (lor_sub (by decide) hU)
    | with_reducible refine drillFaults_follows ?_ (lor_sub (by decide) hU)
    | with_reducible refine mbxComplete_follows ?_ (lor_sub (by decide) hU)
    | with_reducible exact Follows.set_cox (by assumption) (lor_sub (by decide) hU)
    | (with_reducible refine Follows.set_cox ?_ (lor_sub (by decide) hU); first | with_reducible refine wr_follows ?_ (lor_sub (by decide) hU) | with_reducible refine bump_follows ?_ (lor_sub (by decide) hU) | with_reducible refine drillFaults_follows ?_ (lor_sub (by decide) hU) | with_reducible refine mbxComplete_follows ?_ (lor_sub (by decide) hU) | with_reducible exact Follows.refl _ _)
    | split
    | (extract_lets +onlyGivenNames x; refine Follows.cut (x := x) ?_ ?_; rotate_left; clear_value x; intro _; rotate_right; subst x)
    | (extract_lets +onlyGivenNames x; clear_value x)
    | with_reducible exact Follows.refl _ _

theorem coxReturns_follows {gap : Nat} {passed : Bool} {U : Nat} {r s : State} (h : Follows U r s) (hU : 16777697 ||| U = U) :
    Follows U r (coxReturns gap passed s) := by
  unfold coxReturns
  dsimp only
  repeat' first
    | with_reducible assumption
    | intro _
    | with_reducible refine mbxEvent_follows ?_ (lor_sub (by decide) hU)
    | with_reducible refine drillEnds_follows ?_ (lor_sub (by decide) hU)
    | with_reducible refine Follows.ite ?_ ?_
    | with_reducible exact Follows.set_cox (by assumption) (lor_sub (by decide) hU)
    | (with_reducible refine Follows.set_cox ?_ (lor_sub (by decide) hU); first | with_reducible refine mbxEvent_follows ?_ (lor_sub (by decide) hU) | with_reducible refine drillEnds_follows ?_ (lor_sub (by decide) hU) | with_reducible refine Follows.ite ?_ ?_ | with_reducible exact Follows.refl _ _)
    | split
    | with_reducible exact Follows.refl _ _

theorem coxEdge_follows  {U : Nat} {r s : State} (h : Follows U r s) (hU : 16777697 ||| U = U) :
    Follows U r (coxEdge s) := by
  unfold coxEdge
  dsimp only
  repeat' first
    | with_reducible assumption
    | intro _
    | with_reducible refine coxMoves_follows ?_ (lor_sub (by decide) hU)
    | with_reducible refine wr_follows ?_ (lor_sub (by decide) hU)
    | with_reducible refine drillEnds_follows ?_ (lor_sub (by decide) hU)
    | with_reducible exact Follows.set_cox (by assumption) (lor_sub (by decide) hU)
    | (with_reducible refine Follows.set_cox ?_ (lor_sub (by decide) hU); first | with_reducible refine coxMoves_follows ?_ (lor_sub (by decide) hU) | with_reducible refine wr_follows ?_ (lor_sub (by decide) hU) | with_reducible refine drillEnds_follows ?_ (lor_sub (by decide) hU) | with_reducible exact Follows.refl _ _)
    | split
    | with_reducible exact Follows.refl _ _

theorem drillStart_follows {slot gap : Nat} {faults : List Nat} {U : Nat} {r s : State} (h : Follows U r s) (hU : 33 ||| U = U) :
    Follows U r (drillStart slot gap faults s).2 := by
  unfold drillStart
  repeat' first
    | with_reducible assumption
    | intro _
    | with_reducible refine wr_follows ?_ (lor_sub (by decide) hU)
    | with_reducible refine Follows.ite ?_ ?_
    | with_reducible exact Follows.set_cox (by assumption) (lor_sub (by decide) hU)
    | (with_reducible refine Follows.set_cox ?_ (lor_sub (by decide) hU); first | with_reducible refine wr_follows ?_ (lor_sub (by decide) hU) | with_reducible refine Follows.ite ?_ ?_ | with_reducible exact Follows.refl _ _)
    | split
    | (extract_lets +onlyGivenNames x; refine Follows.cut (x := x) ?_ ?_; rotate_left; clear_value x; intro _; rotate_right; subst x)
    | (extract_lets +onlyGivenNames x; clear_value x)
    | with_reducible exact Follows.refl _ _

end Sys2Proof.Machine
end

