-- ==== Sys2Proof/Laws/FollowsMgmtOps.lean ====
section
/-!
SUPPORT. Laws/FollowsMgmtOps.lean: the operations of Machine/MgmtOps.lean keep what `Follows` states.
-/

namespace Sys2Proof.Machine

open Sys2Proof

theorem mctpSend_follows {kind : OutKind} {args : List Nat} {U : Nat} {r s : State} (h : Follows U r s) (hU : 16777217 ||| U = U) :
    Follows U r (mctpSend kind args s) := by
  unfold mctpSend
  repeat' first
    | with_reducible assumption
    | intro _
    | with_reducible refine emit_follows ?_ (lor_sub (by decide) hU)
    | with_reducible refine bump_follows ?_ (lor_sub (by decide) hU)
    | split
    | with_reducible exact Follows.refl _ _

theorem mctpTake_follows {m : MctpIn} {free : Bool} {f : State → State} {U : Nat} {r s : State} (h : Follows U r s) (hf : ∀ x0, Follows U r x0 → Follows U r (f x0)) (hU : 1 ||| U = U) :
    Follows U r (mctpTake m free f s) := by
  unfold mctpTake
  repeat' first
    | with_reducible assumption
    | intro _
    | with_reducible refine bump_follows ?_ (lor_sub (by decide) hU)
    | with_reducible refine Follows.ite ?_ ?_
    | refine hf _ ?_
    | split
    | (extract_lets +onlyGivenNames x; refine Follows.cut (x := x) ?_ ?_; rotate_left; clear_value x; intro _; rotate_right; subst x)
    | (extract_lets +onlyGivenNames x; clear_value x)
    | refine Follows.snd (by assumption) ?_
    | refine Follows.fst (by assumption) ?_
    | dsimp only
    | with_reducible exact Follows.refl _ _

end Sys2Proof.Machine
end

