-- ==== Sys2Proof/Laws/FollowsPairRun.lean ====
section
/-!
SUPPORT. Laws/FollowsPairRun.lean: the operations of Machine/PairRun.lean keep what `Follows` states.
-/

namespace Sys2Proof.Machine

open Sys2Proof

theorem sessionEnd_follows  {U : Nat} {r s : State} (h : Follows U r s) (hU : 17859017 ||| U = U) :
    Follows U r (sessionEnd s) := by
  unfold sessionEnd
  repeat' first
    | with_reducible assumption
    | intro _
    | with_reducible refine foldS_follows ?_ ?_
    | with_reducible refine laneMod_follows ?_ (lor_sub (by decide) hU)
    | with_reducible refine wr_follows ?_ (lor_sub (by decide) hU)
    | with_reducible refine failbackStops_follows ?_ (lor_sub (by decide) hU)
    | with_reducible exact Follows.set_stk_ing_pair (by assumption) (lor_sub (by decide) hU) rfl
    | (with_reducible refine Follows.set_stk_ing_pair ?_ (lor_sub (by decide) hU) rfl; first | with_reducible refine foldS_follows ?_ ?_ | with_reducible refine laneMod_follows ?_ (lor_sub (by decide) hU) | with_reducible refine wr_follows ?_ (lor_sub (by decide) hU) | with_reducible refine failbackStops_follows ?_ (lor_sub (by decide) hU) | with_reducible exact Follows.refl _ _)
    | split
    | (extract_lets +onlyGivenNames x; refine Follows.cut (x := x) ?_ ?_; rotate_left; clear_value x; intro _; rotate_right; subst x)
    | (extract_lets +onlyGivenNames x; clear_value x)
    | with_reducible exact Follows.refl _ _

theorem frameStarts_follows {seat cls bytes tick : Nat} {U : Nat} {r s : State} (h : Follows U r s) (hU : 17826129 ||| U = U) :
    Follows U r (frameStarts seat cls bytes tick s) := by
  unfold frameStarts
  repeat' first
    | with_reducible assumption
    | intro _
    | with_reducible refine wr_follows ?_ (lor_sub (by decide) hU)
    | with_reducible refine bumpN_follows ?_ (lor_sub (by decide) hU)
    | with_reducible refine laneMod_follows ?_ (lor_sub (by decide) hU)
    | with_reducible refine keelSend_follows ?_ (lor_sub (by decide) hU)
    | with_reducible refine when_follows ?_ ?_
    | with_reducible refine pairEvent_follows ?_ (lor_sub (by decide) hU)
    | with_reducible refine pairEnqueue_follows ?_ (lor_sub (by decide) hU)
    | with_reducible refine Follows.ite ?_ ?_
    | split
    | (extract_lets +onlyGivenNames x; refine Follows.cut (x := x) ?_ ?_; rotate_left; clear_value x; intro _; rotate_right; subst x)
    | (extract_lets +onlyGivenNames x; clear_value x)
    | with_reducible exact Follows.refl _ _

theorem openSend_follows {seat typ : Nat} {words : List Nat} {U : Nat} {r s : State} (h : Follows U r s) (hU : 51380225 ||| U = U) :
    Follows U r (openSend seat typ words s) := by
  unfold openSend
  repeat' first
    | with_reducible assumption
    | intro _
    | with_reducible refine openValue_follows ?_ (lor_sub (by decide) hU)
    | with_reducible refine bumpN_follows ?_ (lor_sub (by decide) hU)
    | with_reducible refine laneMod_follows ?_ (lor_sub (by decide) hU)
    | with_reducible refine emit_follows ?_ (lor_sub (by decide) hU)
    | split
    | (extract_lets +onlyGivenNames x; refine Follows.cut (x := x) ?_ ?_; rotate_left; clear_value x; intro _; rotate_right; subst x)
    | (extract_lets +onlyGivenNames x; clear_value x)
    | refine Follows.snd (by assumption) ?_
    | refine Follows.fst (by assumption) ?_
    | dsimp only
    | with_reducible exact Follows.refl _ _

theorem pairBare_follows {seat cls typ tick : Nat} {words : List Nat} {U : Nat} {r s : State} (h : Follows U r s) (hU : 17826129 ||| U = U) :
    Follows U r (pairBare seat cls typ tick words s) := by
  unfold pairBare
  repeat' first
    | with_reducible assumption
    | intro _
    | with_reducible refine frameStarts_follows ?_ (lor_sub (by decide) hU)
    | with_reducible refine emit_follows ?_ (lor_sub (by decide) hU)
    | with_reducible refine Follows.ite ?_ ?_
    | split
    | (extract_lets +onlyGivenNames x; refine Follows.cut (x := x) ?_ ?_; rotate_left; clear_value x; intro _; rotate_right; subst x)
    | (extract_lets +onlyGivenNames x; clear_value x)
    | with_reducible exact Follows.refl _ _

theorem bareQueue_follows {seat typ : Nat} {U : Nat} {r s : State} (h : Follows U r s) (hU : 1048576 ||| U = U) :
    Follows U r (bareQueue seat typ s) := by
  unfold bareQueue
  repeat' first
    | with_reducible assumption
    | intro _
    | with_reducible refine laneMod_follows ?_ (lor_sub (by decide) hU)
    | with_reducible refine Follows.ite ?_ ?_
    | split
    | (extract_lets +onlyGivenNames x; refine Follows.cut (x := x) ?_ ?_; rotate_left; clear_value x; intro _; rotate_right; subst x)
    | (extract_lets +onlyGivenNames x; clear_value x)
    | with_reducible exact Follows.refl _ _

theorem frameAgain_follows {seat tick : Nat} {f : PairFrame} {U : Nat} {r s : State} (h : Follows U r s) (hU : 17826129 ||| U = U) :
    Follows U r (frameAgain seat tick f s) := by
  unfold frameAgain
  repeat' first
    | with_reducible assumption
    | intro _
    | with_reducible refine laneMod_follows ?_ (lor_sub (by decide) hU)
    | with_reducible refine bump_follows ?_ (lor_sub (by decide) hU)
    | with_reducible refine frameStarts_follows ?_ (lor_sub (by decide) hU)
    | with_reducible refine emit_follows ?_ (lor_sub (by decide) hU)
    | with_reducible refine laneFails_follows ?_ (lor_sub (by decide) hU)
    | with_reducible refine Follows.ite ?_ ?_
    | split
    | (extract_lets +onlyGivenNames x; refine Follows.cut (x := x) ?_ ?_; rotate_left; clear_value x; intro _; rotate_right; subst x)
    | (extract_lets +onlyGivenNames x; clear_value x)
    | with_reducible exact Follows.refl _ _

theorem frameNew_follows {seat cls tick : Nat} {load : PairLoad} {bytes : Nat} {U : Nat} {r s : State} (h : Follows U r s) (hU : 17858897 ||| U = U) :
    Follows U r (frameNew seat cls tick load bytes s) := by
  unfold frameNew
  repeat' first
    | with_reducible assumption
    | intro _
    | with_reducible refine laneMod_follows ?_ (lor_sub (by decide) hU)
    | with_reducible refine wr_follows ?_ (lor_sub (by decide) hU)
    | with_reducible refine frameStarts_follows ?_ (lor_sub (by decide) hU)
    | with_reducible refine emit_follows ?_ (lor_sub (by decide) hU)
    | with_reducible refine foldS_follows ?_ ?_
    | with_reducible refine grpMod_follows ?_ (lor_sub (by decide) hU)
    | split
    | (extract_lets +onlyGivenNames x; refine Follows.cut (x := x) ?_ ?_; rotate_left; clear_value x; intro _; rotate_right; subst x)
    | (extract_lets +onlyGivenNames x; clear_value x)
    | with_reducible exact Follows.refl _ _

theorem nextStart_follows {seat cls tick : Nat} {x : PairNext} {U : Nat} {r s : State} (h : Follows U r s) (hU : 17858897 ||| U = U) :
    Follows U r (nextStart seat cls tick x s) := by
  unfold nextStart
  repeat' first
    | with_reducible assumption
    | intro _
    | with_reducible refine laneMod_follows ?_ (lor_sub (by decide) hU)
    | with_reducible refine pairBare_follows ?_ (lor_sub (by decide) hU)
    | with_reducible refine frameAgain_follows ?_ (lor_sub (by decide) hU)
    | with_reducible refine frameNew_follows ?_ (lor_sub (by decide) hU)
    | split
    | (extract_lets +onlyGivenNames x; refine Follows.cut (x := x) ?_ ?_; rotate_left; clear_value x; intro _; rotate_right; subst x)
    | (extract_lets +onlyGivenNames x; clear_value x)
    | with_reducible exact Follows.refl _ _

theorem frameDefer_follows {seat cls w : Nat} {U : Nat} {r s : State} (h : Follows U r s) (hU : 1048577 ||| U = U) :
    Follows U r (frameDefer seat cls w s) := by
  unfold frameDefer
  repeat' first
    | with_reducible assumption
    | intro _
    | with_reducible refine laneMod_follows ?_ (lor_sub (by decide) hU)
    | with_reducible refine bump_follows ?_ (lor_sub (by decide) hU)
    | with_reducible refine Follows.ite ?_ ?_
    | split
    | (extract_lets +onlyGivenNames x; refine Follows.cut (x := x) ?_ ?_; rotate_left; clear_value x; intro _; rotate_right; subst x)
    | (extract_lets +onlyGivenNames x; clear_value x)
    | with_reducible exact Follows.refl _ _

theorem frameSend_follows {lane tick : Nat} {U : Nat} {r s : State} (h : Follows U r s) (hU : 17858897 ||| U = U) :
    Follows U r (frameSend lane tick s) := by
  unfold frameSend
  repeat' first
    | with_reducible assumption
    | intro _
    | with_reducible refine foldS_follows ?_ ?_
    | with_reducible refine frameDefer_follows ?_ (lor_sub (by decide) hU)
    | with_reducible refine laneMod_follows ?_ (lor_sub (by decide) hU)
    | with_reducible refine nextStart_follows ?_ (lor_sub (by decide) hU)
    | with_reducible refine Follows.ite ?_ ?_
    | split
    | (extract_lets +onlyGivenNames x; refine Follows.cut (x := x) ?_ ?_; rotate_left; clear_value x; intro _; rotate_right; subst x)
    | (extract_lets +onlyGivenNames x; clear_value x)
    | refine Follows.snd (by assumption) ?_
    | refine Follows.fst (by assumption) ?_
    | dsimp only
    | with_reducible exact Follows.refl _ _

theorem heartbeatsSend_follows  {U : Nat} {r s : State} (h : Follows U r s) (hU : 17826129 ||| U = U) :
    Follows U r (heartbeatsSend s) := by
  unfold heartbeatsSend
  repeat' first
    | with_reducible assumption
    | intro _
    | with_reducible refine foldS_follows ?_ ?_
    | with_reducible refine pairBare_follows ?_ (lor_sub (by decide) hU)
    | with_reducible refine foldl_follows ?_ ?_
    | with_reducible refine Follows.ite ?_ ?_
    | split
    | refine Follows.snd (by assumption) ?_
    | refine Follows.fst (by assumption) ?_
    | dsimp only
    | with_reducible exact Follows.refl _ _

theorem hellosSend_follows  {U : Nat} {r s : State} (h : Follows U r s) (hU : 51380225 ||| U = U) :
    Follows U r (hellosSend s) := by
  unfold hellosSend
  repeat' first
    | with_reducible assumption
    | intro _
    | with_reducible refine foldS_follows ?_ ?_
    | with_reducible refine openSend_follows ?_ (lor_sub (by decide) hU)
    | with_reducible refine Follows.ite ?_ ?_
    | split
    | (extract_lets +onlyGivenNames x; refine Follows.cut (x := x) ?_ ?_; rotate_left; clear_value x; intro _; rotate_right; subst x)
    | (extract_lets +onlyGivenNames x; clear_value x)
    | refine Follows.snd (by assumption) ?_
    | refine Follows.fst (by assumption) ?_
    | dsimp only
    | with_reducible exact Follows.refl _ _

theorem strokeStamp_follows {stamp : Nat} {U : Nat} {r s : State} (h : Follows U r s) (hU : 16777537 ||| U = U) :
    Follows U r (strokeStamp stamp s) := by
  unfold strokeStamp
  repeat' first
    | with_reducible assumption
    | intro _
    | with_reducible refine bump_follows ?_ (lor_sub (by decide) hU)
    | with_reducible refine event_follows ?_ (lor_sub (by decide) hU)
    | with_reducible refine wr_follows ?_ (lor_sub (by decide) hU)
    | with_reducible refine Follows.ite ?_ ?_
    | split
    | (extract_lets +onlyGivenNames x; refine Follows.cut (x := x) ?_ ?_; rotate_left; clear_value x; intro _; rotate_right; subst x)
    | (extract_lets +onlyGivenNames x; clear_value x)
    | with_reducible exact Follows.refl _ _

theorem rxOpen_follows {seat : Nat} {f : PHdr} {U : Nat} {r s : State} (h : Follows U r s) (hU : 17826129 ||| U = U) :
    Follows U r (rxOpen seat f s).2 := by
  unfold rxOpen
  repeat' first
    | with_reducible assumption
    | intro _
    | with_reducible refine bump_follows ?_ (lor_sub (by decide) hU)
    | with_reducible refine pairFault_follows ?_ (lor_sub (by decide) hU)
    | with_reducible refine bumpN_follows ?_ (lor_sub (by decide) hU)
    | with_reducible refine strokeStamp_follows ?_ (lor_sub (by decide) hU)
    | with_reducible refine keelSend_follows ?_ (lor_sub (by decide) hU)
    | with_reducible refine laneMod_follows ?_ (lor_sub (by decide) hU)
    | with_reducible refine Follows.ite ?_ ?_
    | split
    | (extract_lets +onlyGivenNames x; refine Follows.cut (x := x) ?_ ?_; rotate_left; clear_value x; intro _; rotate_right; subst x)
    | (extract_lets +onlyGivenNames x; clear_value x)
    | with_reducible exact Follows.refl _ _

theorem refusalNote_follows {seat seq : Nat} {U : Nat} {r s : State} (h : Follows U r s) (hU : 16777537 ||| U = U) :
    Follows U r (refusalNote seat seq s) := by
  unfold refusalNote
  repeat' first
    | with_reducible assumption
    | intro _
    | with_reducible refine bump_follows ?_ (lor_sub (by decide) hU)
    | with_reducible refine pairEvent_follows ?_ (lor_sub (by decide) hU)
    | with_reducible refine logE_follows ?_ (lor_sub (by decide) hU)
    | split
    | with_reducible exact Follows.refl _ _

theorem refused_follows {seat seq : Nat} {U : Nat} {r s : State} (h : Follows U r s) (hU : 18342209 ||| U = U) :
    Follows U r (refused seat seq s) := by
  unfold refused
  repeat' first
    | with_reducible assumption
    | intro _
    | with_reducible refine refusalNote_follows ?_ (lor_sub (by decide) hU)
    | with_reducible refine foldS_follows ?_ ?_
    | with_reducible refine ingestError_follows ?_ (lor_sub (by decide) hU)
    | split
    | (extract_lets +onlyGivenNames x; refine Follows.cut (x := x) ?_ ?_; rotate_left; clear_value x; intro _; rotate_right; subst x)
    | (extract_lets +onlyGivenNames x; clear_value x)
    | with_reducible exact Follows.refl _ _

theorem ackTake_follows {seat : Nat} {f : PHdr} {U : Nat} {r s : State} (h : Follows U r s) (hU : 18342209 ||| U = U) :
    Follows U r (ackTake seat f s).2 := by
  unfold ackTake
  repeat' first
    | with_reducible assumption
    | intro _
    | with_reducible refine refused_follows ?_ (lor_sub (by decide) hU)
    | with_reducible refine laneMod_follows ?_ (lor_sub (by decide) hU)
    | with_reducible refine Follows.ite ?_ ?_
    | with_reducible exact Follows.set_ing (by assumption) (lor_sub (by decide) hU)
    | (with_reducible refine Follows.set_ing ?_ (lor_sub (by decide) hU); first | with_reducible refine refused_follows ?_ (lor_sub (by decide) hU) | with_reducible refine laneMod_follows ?_ (lor_sub (by decide) hU) | with_reducible refine Follows.ite ?_ ?_ | with_reducible exact Follows.refl _ _)
    | split
    | (extract_lets +onlyGivenNames x; refine Follows.cut (x := x) ?_ ?_; rotate_left; clear_value x; intro _; rotate_right; subst x)
    | (extract_lets +onlyGivenNames x; clear_value x)
    | with_reducible exact Follows.refl _ _

theorem seqTake_follows {seat lane seq : Nat} {U : Nat} {r s : State} (h : Follows U r s) (hU : 17826113 ||| U = U) :
    Follows U r (seqTake seat lane seq s).2 := by
  unfold seqTake
  repeat' first
    | with_reducible assumption
    | intro _
    | with_reducible refine wr_follows ?_ (lor_sub (by decide) hU)
    | with_reducible refine laneMod_follows ?_ (lor_sub (by decide) hU)
    | with_reducible refine bump_follows ?_ (lor_sub (by decide) hU)
    | with_reducible refine bareQueue_follows ?_ (lor_sub (by decide) hU)
    | with_reducible refine pairFault_follows ?_ (lor_sub (by decide) hU)
    | with_reducible refine Follows.ite ?_ ?_
    | split
    | (extract_lets +onlyGivenNames x; refine Follows.cut (x := x) ?_ ?_; rotate_left; clear_value x; intro _; rotate_right; subst x)
    | (extract_lets +onlyGivenNames x; clear_value x)
    | with_reducible exact Follows.refl _ _

theorem frameRefuse_follows {seat seq : Nat} {groups : List Nat} {U : Nat} {r s : State} (h : Follows U r s) (hU : 17826113 ||| U = U) :
    Follows U r (frameRefuse seat seq groups s) := by
  unfold frameRefuse
  repeat' first
    | with_reducible assumption
    | intro _
    | with_reducible refine laneMod_follows ?_ (lor_sub (by decide) hU)
    | with_reducible refine refusalNote_follows ?_ (lor_sub (by decide) hU)
    | split
    | with_reducible exact Follows.refl _ _

theorem viewMod_follows {seat : Nat} {f : Standby → Standby} {U : Nat} {r s : State} (h : Follows U r s) (hU : 1048576 ||| U = U) :
    Follows U r (viewMod seat f s) := by
  unfold viewMod
  repeat' first
    | with_reducible assumption
    | intro _
    | with_reducible exact Follows.set_pair (by assumption) (lor_sub (by decide) hU)
    | (with_reducible refine Follows.set_pair ?_ (lor_sub (by decide) hU); first | with_reducible exact Follows.refl _ _)
    | split
    | (extract_lets +onlyGivenNames x; refine Follows.cut (x := x) ?_ ?_; rotate_left; clear_value x; intro _; rotate_right; subst x)
    | (extract_lets +onlyGivenNames x; clear_value x)
    | with_reducible exact Follows.refl _ _

theorem tagsCount_follows {seat : Nat} {recs : List Delta} {U : Nat} {r s : State} (h : Follows U r s) (hU : 1 ||| U = U) :
    Follows U r (tagsCount seat recs s) := by
  unfold tagsCount
  repeat' first
    | with_reducible assumption
    | intro _
    | with_reducible refine bumpN_follows ?_ (lor_sub (by decide) hU)
    | split
    | with_reducible exact Follows.refl _ _

theorem viewApply_follows {seat : Nat} {recs : List Delta} {U : Nat} {r s : State} (h : Follows U r s) (hU : 1048576 ||| U = U) :
    Follows U r (viewApply seat recs s) := by
  unfold viewApply
  repeat' first
    | with_reducible assumption
    | intro _
    | with_reducible refine viewMod_follows ?_ (lor_sub (by decide) hU)
    | with_reducible refine foldl_follows ?_ ?_
    | split
    | (extract_lets +onlyGivenNames x; refine Follows.cut (x := x) ?_ ?_; rotate_left; clear_value x; intro _; rotate_right; subst x)
    | (extract_lets +onlyGivenNames x; clear_value x)
    | with_reducible exact Follows.refl _ _

theorem journalTake_follows {seat : Nat} {recs : List Delta} {U : Nat} {r s : State} (h : Follows U r s) (hU : 1048576 ||| U = U) :
    Follows U r (journalTake seat recs s) := by
  unfold journalTake
  repeat' first
    | with_reducible assumption
    | intro _
    | with_reducible refine laneMod_follows ?_ (lor_sub (by decide) hU)
    | with_reducible refine foldS_follows ?_ ?_
    | with_reducible refine viewApply_follows ?_ (lor_sub (by decide) hU)
    | with_reducible refine Follows.ite ?_ ?_
    | split
    | (extract_lets +onlyGivenNames x; refine Follows.cut (x := x) ?_ ?_; rotate_left; clear_value x; intro _; rotate_right; subst x)
    | (extract_lets +onlyGivenNames x; clear_value x)
    | with_reducible exact Follows.refl _ _

theorem standbyRow_follows {pool row seat stream : Nat} {U : Nat} {r s : State} (h : Follows U r s) (hU : 262144 ||| U = U) :
    Follows U r (standbyRow pool row seat stream s) := by
  unfold standbyRow
  repeat' first
    | with_reducible assumption
    | intro _
    | with_reducible refine groupMod_follows ?_ (lor_sub (by decide) hU)
    | with_reducible refine rowReplay_follows ?_ (lor_sub (by decide) hU)
    | with_reducible refine Follows.ite ?_ ?_
    | with_reducible exact Follows.set_par (by assumption) (lor_sub (by decide) hU)
    | (with_reducible refine Follows.set_par ?_ (lor_sub (by decide) hU); first | with_reducible refine groupMod_follows ?_ (lor_sub (by decide) hU) | with_reducible refine rowReplay_follows ?_ (lor_sub (by decide) hU) | with_reducible refine Follows.ite ?_ ?_ | with_reducible exact Follows.refl _ _)
    | split
    | (extract_lets +onlyGivenNames x; refine Follows.cut (x := x) ?_ ?_; rotate_left; clear_value x; intro _; rotate_right; subst x)
    | (extract_lets +onlyGivenNames x; clear_value x)
    | with_reducible exact Follows.refl _ _

theorem standbyMove_follows {d : Delta} {U : Nat} {r s : State} (h : Follows U r s) (hU : 262144 ||| U = U) :
    Follows U r (standbyMove d s) := by
  unfold standbyMove
  repeat' first
    | with_reducible assumption
    | intro _
    | with_reducible exact Follows.set_par (by assumption) (lor_sub (by decide) hU)
    | (with_reducible refine Follows.set_par ?_ (lor_sub (by decide) hU); first | with_reducible exact Follows.refl _ _)
    | split
    | (extract_lets +onlyGivenNames x; refine Follows.cut (x := x) ?_ ?_; rotate_left; clear_value x; intro _; rotate_right; subst x)
    | (extract_lets +onlyGivenNames x; clear_value x)
    | with_reducible exact Follows.refl _ _

theorem standbyProgrammed_follows {seat pool row : Nat} {U : Nat} {r s : State} (h : Follows U r s) (hU : 1310720 ||| U = U) :
    Follows U r (standbyProgrammed seat pool row s) := by
  unfold standbyProgrammed
  repeat' first
    | with_reducible assumption
    | intro _
    | with_reducible refine viewMod_follows ?_ (lor_sub (by decide) hU)
    | with_reducible refine rowMod_follows ?_ (lor_sub (by decide) hU)
    | with_reducible refine foldl_follows ?_ ?_
    | with_reducible exact Follows.set_par (by assumption) (lor_sub (by decide) hU)
    | (with_reducible refine Follows.set_par ?_ (lor_sub (by decide) hU); first | with_reducible refine viewMod_follows ?_ (lor_sub (by decide) hU) | with_reducible refine rowMod_follows ?_ (lor_sub (by decide) hU) | with_reducible refine foldl_follows ?_ ?_ | with_reducible exact Follows.refl _ _)
    | split
    | (extract_lets +onlyGivenNames x; refine Follows.cut (x := x) ?_ ?_; rotate_left; clear_value x; intro _; rotate_right; subst x)
    | (extract_lets +onlyGivenNames x; clear_value x)
    | refine Follows.snd (by assumption) ?_
    | refine Follows.fst (by assumption) ?_
    | dsimp only
    | with_reducible exact Follows.refl _ _

theorem syncTake_follows {seat page : Nat} {recs : List Delta} {rows : List (Nat × Nat)} {U : Nat} {r s : State} (h : Follows U r s) (hU : 1310720 ||| U = U) :
    Follows U r (syncTake seat page recs rows s) := by
  unfold syncTake
  repeat' first
    | with_reducible assumption
    | intro _
    | with_reducible refine viewMod_follows ?_ (lor_sub (by decide) hU)
    | with_reducible refine foldS_follows ?_ ?_
    | with_reducible refine standbyRow_follows ?_ (lor_sub (by decide) hU)
    | with_reducible refine standbyMove_follows ?_ (lor_sub (by decide) hU)
    | with_reducible refine standbyProgrammed_follows ?_ (lor_sub (by decide) hU)
    | split
    | (extract_lets +onlyGivenNames x; refine Follows.cut (x := x) ?_ ?_; rotate_left; clear_value x; intro _; rotate_right; subst x)
    | (extract_lets +onlyGivenNames x; clear_value x)
    | refine Follows.snd (by assumption) ?_
    | refine Follows.fst (by assumption) ?_
    | dsimp only
    | with_reducible exact Follows.refl _ _

theorem viewFold_follows {seat : Nat} {sides : List Nat} {l : List (Nat × Delta)} {U : Nat} {r s : State} (h : Follows U r s) (hU : 4521985 ||| U = U) :
    Follows U r (viewFold seat sides l s) := by
  unfold viewFold
  repeat' first
    | with_reducible assumption
    | intro _
    | with_reducible refine foldS_follows ?_ ?_
    | with_reducible refine imagesDue_follows ?_ (lor_sub (by decide) hU)
    | with_reducible refine deltaReplay_follows ?_ (lor_sub (by decide) hU)
    | with_reducible refine Follows.ite ?_ ?_
    | split
    | refine Follows.snd (by assumption) ?_
    | refine Follows.fst (by assumption) ?_
    | dsimp only
    | with_reducible exact Follows.refl _ _

theorem noticeTake_follows {side gen ext : Nat} {roots logStart : List Nat} {U : Nat} {r s : State} (h : Follows U r s) (hU : 5570561 ||| U = U) :
    Follows U r (noticeTake side gen ext roots logStart s) := by
  unfold noticeTake
  repeat' first
    | with_reducible assumption
    | intro _
    | with_reducible refine foldS_follows ?_ ?_
    | with_reducible refine viewFold_follows ?_ (lor_sub (by decide) hU)
    | with_reducible refine viewMod_follows ?_ (lor_sub (by decide) hU)
    | with_reducible refine imagesDue_follows ?_ (lor_sub (by decide) hU)
    | with_reducible exact Follows.set_pair (by assumption) (lor_sub (by decide) hU)
    | (with_reducible refine Follows.set_pair ?_ (lor_sub (by decide) hU); first | with_reducible refine foldS_follows ?_ ?_ | with_reducible refine viewFold_follows ?_ (lor_sub (by decide) hU) | with_reducible refine viewMod_follows ?_ (lor_sub (by decide) hU) | with_reducible refine imagesDue_follows ?_ (lor_sub (by decide) hU) | with_reducible exact Follows.refl _ _)
    | split
    | (extract_lets +onlyGivenNames x; refine Follows.cut (x := x) ?_ ?_; rotate_left; clear_value x; intro _; rotate_right; subst x)
    | (extract_lets +onlyGivenNames x; clear_value x)
    | refine Follows.snd (by assumption) ?_
    | refine Follows.fst (by assumption) ?_
    | dsimp only
    | with_reducible exact Follows.refl _ _

theorem objectTell_follows {o : CfgObj} {U : Nat} {r s : State} (h : Follows U r s) (hU : 1048577 ||| U = U) :
    Follows U r (objectTell o s) := by
  unfold objectTell
  repeat' first
    | with_reducible assumption
    | intro _
    | with_reducible refine pairControl_follows ?_ (lor_sub (by decide) hU)
    | split
    | with_reducible exact Follows.refl _ _

theorem objectTake_follows {o : CfgObj} {U : Nat} {r s : State} (h : Follows U r s) (hU : 12959745 ||| U = U) :
    Follows U r (objectTake o s) := by
  unfold objectTake
  dsimp only
  repeat' first
    | with_reducible assumption
    | intro _
    | with_reducible refine stInstall_follows ?_ (lor_sub (by decide) hU)
    | with_reducible refine setNs_follows ?_ (lor_sub (by decide) hU)
    | with_reducible refine nsRemove_follows ?_ (lor_sub (by decide) hU)
    | with_reducible refine groupMod_follows ?_ (lor_sub (by decide) hU)
    | with_reducible refine pinsWake_follows ?_ (lor_sub (by decide) hU)
    | with_reducible refine live_follows ?_ ?_
    | with_reducible refine snapDrop_follows ?_ (lor_sub (by decide) hU)
    | with_reducible refine linkInstall_follows ?_ (lor_sub (by decide) hU)
    | with_reducible refine foldS_follows ?_ ?_
    | with_reducible refine viewFold_follows ?_ (lor_sub (by decide) hU)
    | with_reducible refine imageSwap_follows ?_ (lor_sub (by decide) hU)
    | with_reducible refine linkRemove_follows ?_ (lor_sub (by decide) hU)
    | with_reducible refine when_follows ?_ ?_
    | with_reducible refine replicaSet_follows ?_ (lor_sub (by decide) hU)
    | with_reducible refine foldl_follows ?_ ?_
    | with_reducible refine Follows.ite ?_ ?_
    | with_reducible exact Follows.set_keys (by assumption) (lor_sub (by decide) hU)
    | (with_reducible refine Follows.set_keys ?_ (lor_sub (by decide) hU); first | with_reducible refine stInstall_follows ?_ (lor_sub (by decide) hU) | with_reducible refine setNs_follows ?_ (lor_sub (by decide) hU) | with_reducible refine nsRemove_follows ?_ (lor_sub (by decide) hU) | with_reducible refine groupMod_follows ?_ (lor_sub (by decide) hU) | with_reducible refine pinsWake_follows ?_ (lor_sub (by decide) hU) | with_reducible refine live_follows ?_ ?_ | with_reducible refine snapDrop_follows ?_ (lor_sub (by decide) hU) | with_reducible refine linkInstall_follows ?_ (lor_sub (by decide) hU) | with_reducible refine foldS_follows ?_ ?_ | with_reducible refine viewFold_follows ?_ (lor_sub (by decide) hU) | with_reducible refine imageSwap_follows ?_ (lor_sub (by decide) hU) | with_reducible refine linkRemove_follows ?_ (lor_sub (by decide) hU) | with_reducible refine when_follows ?_ ?_ | with_reducible refine replicaSet_follows ?_ (lor_sub (by decide) hU) | with_reducible refine foldl_follows ?_ ?_ | with_reducible refine Follows.ite ?_ ?_ | with_reducible exact Follows.refl _ _)
    | with_reducible exact Follows.set_nv (by assumption) (lor_sub (by decide) hU)
    | (with_reducible refine Follows.set_nv ?_ (lor_sub (by decide) hU); first | with_reducible refine stInstall_follows ?_ (lor_sub (by decide) hU) | with_reducible refine setNs_follows ?_ (lor_sub (by decide) hU) | with_reducible refine nsRemove_follows ?_ (lor_sub (by decide) hU) | with_reducible refine groupMod_follows ?_ (lor_sub (by decide) hU) | with_reducible refine pinsWake_follows ?_ (lor_sub (by decide) hU) | with_reducible refine live_follows ?_ ?_ | with_reducible refine snapDrop_follows ?_ (lor_sub (by decide) hU) | with_reducible refine linkInstall_follows ?_ (lor_sub (by decide) hU) | with_reducible refine foldS_follows ?_ ?_ | with_reducible refine viewFold_follows ?_ (lor_sub (by decide) hU) | with_reducible refine imageSwap_follows ?_ (lor_sub (by decide) hU) | with_reducible refine linkRemove_follows ?_ (lor_sub (by decide) hU) | with_reducible refine when_follows ?_ ?_ | with_reducible refine replicaSet_follows ?_ (lor_sub (by decide) hU) | with_reducible refine foldl_follows ?_ ?_ | with_reducible refine Follows.ite ?_ ?_ | with_reducible exact Follows.refl _ _)
    | with_reducible exact Follows.set_nv_snp (by assumption) (lor_sub (by decide) hU)
    | (with_reducible refine Follows.set_nv_snp ?_ (lor_sub (by decide) hU); first | with_reducible refine stInstall_follows ?_ (lor_sub (by decide) hU) | with_reducible refine setNs_follows ?_ (lor_sub (by decide) hU) | with_reducible refine nsRemove_follows ?_ (lor_sub (by decide) hU) | with_reducible refine groupMod_follows ?_ (lor_sub (by decide) hU) | with_reducible refine pinsWake_follows ?_ (lor_sub (by decide) hU) | with_reducible refine live_follows ?_ ?_ | with_reducible refine snapDrop_follows ?_ (lor_sub (by decide) hU) | with_reducible refine linkInstall_follows ?_ (lor_sub (by decide) hU) | with_reducible refine foldS_follows ?_ ?_ | with_reducible refine viewFold_follows ?_ (lor_sub (by decide) hU) | with_reducible refine imageSwap_follows ?_ (lor_sub (by decide) hU) | with_reducible refine linkRemove_follows ?_ (lor_sub (by decide) hU) | with_reducible refine when_follows ?_ ?_ | with_reducible refine replicaSet_follows ?_ (lor_sub (by decide) hU) | with_reducible refine foldl_follows ?_ ?_ | with_reducible refine Follows.ite ?_ ?_ | with_reducible exact Follows.refl _ _)
    | with_reducible exact Follows.set_par (by assumption) (lor_sub (by decide) hU)
    | (with_reducible refine Follows.set_par ?_ (lor_sub (by decide) hU); first | with_reducible refine stInstall_follows ?_ (lor_sub (by decide) hU) | with_reducible refine setNs_follows ?_ (lor_sub (by decide) hU) | with_reducible refine nsRemove_follows ?_ (lor_sub (by decide) hU) | with_reducible refine groupMod_follows ?_ (lor_sub (by decide) hU) | with_reducible refine pinsWake_follows ?_ (lor_sub (by decide) hU) | with_reducible refine live_follows ?_ ?_ | with_reducible refine snapDrop_follows ?_ (lor_sub (by decide) hU) | with_reducible refine linkInstall_follows ?_ (lor_sub (by decide) hU) | with_reducible refine foldS_follows ?_ ?_ | with_reducible refine viewFold_follows ?_ (lor_sub (by decide) hU) | with_reducible refine imageSwap_follows ?_ (lor_sub (by decide) hU) | with_reducible refine linkRemove_follows ?_ (lor_sub (by decide) hU) | with_reducible refine when_follows ?_ ?_ | with_reducible refine replicaSet_follows ?_ (lor_sub (by decide) hU) | with_reducible refine foldl_follows ?_ ?_ | with_reducible refine Follows.ite ?_ ?_ | with_reducible exact Follows.refl _ _)
    | with_reducible exact Follows.set_snp (by assumption) (lor_sub (by decide) hU)
    | (with_reducible refine Follows.set_snp ?_ (lor_sub (by decide) hU); first | with_reducible refine stInstall_follows ?_ (lor_sub (by decide) hU) | with_reducible refine setNs_follows ?_ (lor_sub (by decide) hU) | with_reducible refine nsRemove_follows ?_ (lor_sub (by decide) hU) | with_reducible refine groupMod_follows ?_ (lor_sub (by decide) hU) | with_reducible refine pinsWake_follows ?_ (lor_sub (by decide) hU) | with_reducible refine live_follows ?_ ?_ | with_reducible refine snapDrop_follows ?_ (lor_sub (by decide) hU) | with_reducible refine linkInstall_follows ?_ (lor_sub (by decide) hU) | with_reducible refine foldS_follows ?_ ?_ | with_reducible refine viewFold_follows ?_ (lor_sub (by decide) hU) | with_reducible refine imageSwap_follows ?_ (lor_sub (by decide) hU) | with_reducible refine linkRemove_follows ?_ (lor_sub (by decide) hU) | with_reducible refine when_follows ?_ ?_ | with_reducible refine replicaSet_follows ?_ (lor_sub (by decide) hU) | with_reducible refine foldl_follows ?_ ?_ | with_reducible refine Follows.ite ?_ ?_ | with_reducible exact Follows.refl _ _)
    | split
    | refine Follows.snd (by assumption) ?_
    | refine Follows.fst (by assumption) ?_
    | dsimp only
    | with_reducible exact Follows.refl _ _

theorem ownsTell_follows  {U : Nat} {r s : State} (h : Follows U r s) (hU : 1048577 ||| U = U) :
    Follows U r (ownsTell s) := by
  unfold ownsTell
  repeat' first
    | with_reducible assumption
    | intro _
    | with_reducible refine foldS_follows ?_ ?_
    | with_reducible refine pairControl_follows ?_ (lor_sub (by decide) hU)
    | split
    | refine Follows.snd (by assumption) ?_
    | refine Follows.fst (by assumption) ?_
    | dsimp only
    | with_reducible exact Follows.refl _ _

theorem ownTake_follows {k owner epoch stroke : Nat} {U : Nat} {r s : State} (h : Follows U r s) (hU : 1048576 ||| U = U) :
    Follows U r (ownTake k owner epoch stroke s) := by
  unfold ownTake
  repeat' first
    | with_reducible assumption
    | intro _
    | with_reducible refine Follows.ite ?_ ?_
    | with_reducible exact Follows.set_pair (by assumption) (lor_sub (by decide) hU)
    | (with_reducible refine Follows.set_pair ?_ (lor_sub (by decide) hU); first | with_reducible refine Follows.ite ?_ ?_ | with_reducible exact Follows.refl _ _)
    | split
    | (extract_lets +onlyGivenNames x; refine Follows.cut (x := x) ?_ ?_; rotate_left; clear_value x; intro _; rotate_right; subst x)
    | (extract_lets +onlyGivenNames x; clear_value x)
    | with_reducible exact Follows.refl _ _

theorem ownDue_follows  {U : Nat} {r s : State} (h : Follows U r s) (hU : 17850369 ||| U = U) :
    Follows U r (ownDue s) := by
  unfold ownDue
  repeat' first
    | with_reducible assumption
    | intro _
    | with_reducible refine foldS_follows ?_ ?_
    | with_reducible refine ownInstall_follows ?_ (lor_sub (by decide) hU)
    | with_reducible refine anaChanged_follows ?_ (lor_sub (by decide) hU)
    | with_reducible refine Follows.ite ?_ ?_
    | with_reducible exact Follows.set_pair (by assumption) (lor_sub (by decide) hU)
    | (with_reducible refine Follows.set_pair ?_ (lor_sub (by decide) hU); first | with_reducible refine foldS_follows ?_ ?_ | with_reducible refine ownInstall_follows ?_ (lor_sub (by decide) hU) | with_reducible refine anaChanged_follows ?_ (lor_sub (by decide) hU) | with_reducible refine Follows.ite ?_ ?_ | with_reducible exact Follows.refl _ _)
    | split
    | (extract_lets +onlyGivenNames x; refine Follows.cut (x := x) ?_ ?_; rotate_left; clear_value x; intro _; rotate_right; subst x)
    | (extract_lets +onlyGivenNames x; clear_value x)
    | refine Follows.snd (by assumption) ?_
    | refine Follows.fst (by assumption) ?_
    | dsimp only
    | with_reducible exact Follows.refl _ _

theorem claimStart_follows {boot : Bool} {U : Nat} {r s : State} (h : Follows U r s) (hU : 18350081 ||| U = U) :
    Follows U r (claimStart boot s) := by
  unfold claimStart
  repeat' first
    | with_reducible assumption
    | intro _
    | with_reducible refine foldS_follows ?_ ?_
    | with_reducible refine oarPut_follows ?_ (lor_sub (by decide) hU)
    | with_reducible refine emit_follows ?_ (lor_sub (by decide) hU)
    | with_reducible exact Follows.set_pair (by assumption) (lor_sub (by decide) hU)
    | (with_reducible refine Follows.set_pair ?_ (lor_sub (by decide) hU); first | with_reducible refine foldS_follows ?_ ?_ | with_reducible refine oarPut_follows ?_ (lor_sub (by decide) hU) | with_reducible refine emit_follows ?_ (lor_sub (by decide) hU) | with_reducible exact Follows.refl _ _)
    | split
    | (extract_lets +onlyGivenNames x; refine Follows.cut (x := x) ?_ ?_; rotate_left; clear_value x; intro _; rotate_right; subst x)
    | (extract_lets +onlyGivenNames x; clear_value x)
    | with_reducible exact Follows.refl _ _

theorem arm_follows {byHearing : Bool} {U : Nat} {r s : State} (h : Follows U r s) (hU : 18374977 ||| U = U) :
    Follows U r (arm byHearing s) := by
  unfold arm
  repeat' first
    | with_reducible assumption
    | intro _
    | with_reducible refine pairTo_follows ?_ (lor_sub (by decide) hU)
    | with_reducible refine pairEvent_follows ?_ (lor_sub (by decide) hU)
    | with_reducible refine anaChanged_follows ?_ (lor_sub (by decide) hU)
    | with_reducible refine claimStart_follows ?_ (lor_sub (by decide) hU)
    | with_reducible refine Follows.ite ?_ ?_
    | with_reducible exact Follows.set_pair (by assumption) (lor_sub (by decide) hU)
    | (with_reducible refine Follows.set_pair ?_ (lor_sub (by decide) hU); first | with_reducible refine pairTo_follows ?_ (lor_sub (by decide) hU) | with_reducible refine pairEvent_follows ?_ (lor_sub (by decide) hU) | with_reducible refine anaChanged_follows ?_ (lor_sub (by decide) hU) | with_reducible refine claimStart_follows ?_ (lor_sub (by decide) hU) | with_reducible refine Follows.ite ?_ ?_ | with_reducible exact Follows.refl _ _)
    | split
    | (extract_lets +onlyGivenNames x; refine Follows.cut (x := x) ?_ ?_; rotate_left; clear_value x; intro _; rotate_right; subst x)
    | (extract_lets +onlyGivenNames x; clear_value x)
    | with_reducible exact Follows.refl _ _

theorem fencesRaise_follows {l : List Nat} {port epoch : Nat} {U : Nat} {r s : State} (h : Follows U r s) (hU : 17301505 ||| U = U) :
    Follows U r (fencesRaise l port epoch s) := by
  unfold fencesRaise
  repeat' first
    | with_reducible assumption
    | intro _
    | with_reducible refine foldS_follows ?_ ?_
    | with_reducible refine fenceRaise_follows ?_ (lor_sub (by decide) hU)
    | split
    | with_reducible exact Follows.refl _ _

theorem takeReplay_follows {sides : List Nat} {log : List (Nat × List Delta)} {U : Nat} {r s : State} (h : Follows U r s) (hU : 22909265 ||| U = U) :
    Follows U r (takeReplay sides log s) := by
  unfold takeReplay
  repeat' first
    | with_reducible assumption
    | intro _
    | with_reducible refine foldS_follows ?_ ?_
    | with_reducible refine viewFold_follows ?_ (lor_sub (by decide) hU)
    | with_reducible refine standbyRow_follows ?_ (lor_sub (by decide) hU)
    | with_reducible refine standbyMove_follows ?_ (lor_sub (by decide) hU)
    | with_reducible refine deltaReplay_follows ?_ (lor_sub (by decide) hU)
    | with_reducible refine rowReplay_follows ?_ (lor_sub (by decide) hU)
    | with_reducible refine viewMod_follows ?_ (lor_sub (by decide) hU)
    | with_reducible refine imagesDue_follows ?_ (lor_sub (by decide) hU)
    | with_reducible refine snapsLate_follows ?_ (lor_sub (by decide) hU)
    | with_reducible refine when_follows ?_ ?_
    | with_reducible refine snpEvent_follows ?_ (lor_sub (by decide) hU)
    | with_reducible refine rowMod_follows ?_ (lor_sub (by decide) hU)
    | with_reducible refine bump_follows ?_ (lor_sub (by decide) hU)
    | with_reducible refine rowRewrite_follows ?_ (lor_sub (by decide) hU)
    | with_reducible exact Follows.set_par (by assumption) (lor_sub (by decide) hU)
    | (with_reducible refine Follows.set_par ?_ (lor_sub (by decide) hU); first | with_reducible refine foldS_follows ?_ ?_ | with_reducible refine viewFold_follows ?_ (lor_sub (by decide) hU) | with_reducible refine standbyRow_follows ?_ (lor_sub (by decide) hU) | with_reducible refine standbyMove_follows ?_ (lor_sub (by decide) hU) | with_reducible refine deltaReplay_follows ?_ (lor_sub (by decide) hU) | with_reducible refine rowReplay_follows ?_ (lor_sub (by decide) hU) | with_reducible refine viewMod_follows ?_ (lor_sub (by decide) hU) | with_reducible refine imagesDue_follows ?_ (lor_sub (by decide) hU) | with_reducible refine snapsLate_follows ?_ (lor_sub (by decide) hU) | with_reducible refine when_follows ?_ ?_ | with_reducible refine snpEvent_follows ?_ (lor_sub (by decide) hU) | with_reducible refine rowMod_follows ?_ (lor_sub (by decide) hU) | with_reducible refine bump_follows ?_ (lor_sub (by decide) hU) | with_reducible refine rowRewrite_follows ?_ (lor_sub (by decide) hU) | with_reducible exact Follows.refl _ _)
    | split
    | (extract_lets +onlyGivenNames x; refine Follows.cut (x := x) ?_ ?_; rotate_left; clear_value x; intro _; rotate_right; subst x)
    | (extract_lets +onlyGivenNames x; clear_value x)
    | refine Follows.snd (by assumption) ?_
    | refine Follows.fst (by assumption) ?_
    | dsimp only
    | with_reducible exact Follows.refl _ _

theorem takeDone_follows {log : List (Nat × List Delta)} {U : Nat} {r s : State} (h : Follows U r s) (hU : 22933841 ||| U = U) :
    Follows U r (takeDone log s) := by
  unfold takeDone
  repeat' first
    | with_reducible assumption
    | intro _
    | with_reducible refine takeReplay_follows ?_ (lor_sub (by decide) hU)
    | with_reducible refine wr_follows ?_ (lor_sub (by decide) hU)
    | with_reducible refine bump_follows ?_ (lor_sub (by decide) hU)
    | with_reducible refine anaChanged_follows ?_ (lor_sub (by decide) hU)
    | with_reducible refine Follows.ite ?_ ?_
    | with_reducible exact Follows.set_pair (by assumption) (lor_sub (by decide) hU)
    | (with_reducible refine Follows.set_pair ?_ (lor_sub (by decide) hU); first | with_reducible refine takeReplay_follows ?_ (lor_sub (by decide) hU) | with_reducible refine wr_follows ?_ (lor_sub (by decide) hU) | with_reducible refine bump_follows ?_ (lor_sub (by decide) hU) | with_reducible refine anaChanged_follows ?_ (lor_sub (by decide) hU) | with_reducible refine Follows.ite ?_ ?_ | with_reducible exact Follows.refl _ _)
    | split
    | (extract_lets +onlyGivenNames x; refine Follows.cut (x := x) ?_ ?_; rotate_left; clear_value x; intro _; rotate_right; subst x)
    | (extract_lets +onlyGivenNames x; clear_value x)
    | with_reducible exact Follows.refl _ _

theorem claimWon_follows {c : Claim} {U : Nat} {r s : State} (h : Follows U r s) (hU : 22933977 ||| U = U) :
    Follows U r (claimWon c s) := by
  unfold claimWon
  repeat' first
    | with_reducible assumption
    | intro _
    | with_reducible refine sessionEnd_follows ?_ (lor_sub (by decide) hU)
    | with_reducible refine pairTo_follows ?_ (lor_sub (by decide) hU)
    | with_reducible refine pairEvent_follows ?_ (lor_sub (by decide) hU)
    | with_reducible refine foldS_follows ?_ ?_
    | with_reducible refine ownInstall_follows ?_ (lor_sub (by decide) hU)
    | with_reducible refine fencesRaise_follows ?_ (lor_sub (by decide) hU)
    | with_reducible refine anaChanged_follows ?_ (lor_sub (by decide) hU)
    | with_reducible refine ftLog_follows ?_ (lor_sub (by decide) hU)
    | with_reducible refine takeDone_follows ?_ (lor_sub (by decide) hU)
    | with_reducible refine Follows.ite ?_ ?_
    | with_reducible exact Follows.set_pair (by assumption) (lor_sub (by decide) hU)
    | (with_reducible refine Follows.set_pair ?_ (lor_sub (by decide) hU); first | with_reducible refine sessionEnd_follows ?_ (lor_sub (by decide) hU) | with_reducible refine pairTo_follows ?_ (lor_sub (by decide) hU) | with_reducible refine pairEvent_follows ?_ (lor_sub (by decide) hU) | with_reducible refine foldS_follows ?_ ?_ | with_reducible refine ownInstall_follows ?_ (lor_sub (by decide) hU) | with_reducible refine fencesRaise_follows ?_ (lor_sub (by decide) hU) | with_reducible refine anaChanged_follows ?_ (lor_sub (by decide) hU) | with_reducible refine ftLog_follows ?_ (lor_sub (by decide) hU) | with_reducible refine takeDone_follows ?_ (lor_sub (by decide) hU) | with_reducible refine Follows.ite ?_ ?_ | with_reducible exact Follows.refl _ _)
    | split
    | (extract_lets +onlyGivenNames x; refine Follows.cut (x := x) ?_ ?_; rotate_left; clear_value x; intro _; rotate_right; subst x)
    | (extract_lets +onlyGivenNames x; clear_value x)
    | refine Follows.snd (by assumption) ?_
    | refine Follows.fst (by assumption) ?_
    | dsimp only
    | with_reducible exact Follows.refl _ _

theorem claimLost_follows  {U : Nat} {r s : State} (h : Follows U r s) (hU : 18342345 ||| U = U) :
    Follows U r (claimLost s) := by
  unfold claimLost
  repeat' first
    | with_reducible assumption
    | intro _
    | with_reducible refine pairEvent_follows ?_ (lor_sub (by decide) hU)
    | with_reducible refine headFenced_follows ?_ (lor_sub (by decide) hU)
    | with_reducible refine sessionEnd_follows ?_ (lor_sub (by decide) hU)
    | with_reducible refine when_follows ?_ ?_
    | with_reducible refine wr_follows ?_ (lor_sub (by decide) hU)
    | with_reducible exact Follows.set_pair (by assumption) (lor_sub (by decide) hU)
    | (with_reducible refine Follows.set_pair ?_ (lor_sub (by decide) hU); first | with_reducible refine pairEvent_follows ?_ (lor_sub (by decide) hU) | with_reducible refine headFenced_follows ?_ (lor_sub (by decide) hU) | with_reducible refine sessionEnd_follows ?_ (lor_sub (by decide) hU) | with_reducible refine when_follows ?_ ?_ | with_reducible refine wr_follows ?_ (lor_sub (by decide) hU) | with_reducible exact Follows.refl _ _)
    | split
    | (extract_lets +onlyGivenNames x; refine Follows.cut (x := x) ?_ ?_; rotate_left; clear_value x; intro _; rotate_right; subst x)
    | (extract_lets +onlyGivenNames x; clear_value x)
    | with_reducible exact Follows.refl _ _

theorem claimUndecided_follows  {U : Nat} {r s : State} (h : Follows U r s) (hU : 17826113 ||| U = U) :
    Follows U r (claimUndecided s) := by
  unfold claimUndecided
  repeat' first
    | with_reducible assumption
    | intro _
    | with_reducible refine when_follows ?_ ?_
    | with_reducible refine pairEvent_follows ?_ (lor_sub (by decide) hU)
    | with_reducible refine Follows.ite ?_ ?_
    | with_reducible exact Follows.set_pair (by assumption) (lor_sub (by decide) hU)
    | (with_reducible refine Follows.set_pair ?_ (lor_sub (by decide) hU); first | with_reducible refine when_follows ?_ ?_ | with_reducible refine pairEvent_follows ?_ (lor_sub (by decide) hU) | with_reducible refine Follows.ite ?_ ?_ | with_reducible exact Follows.refl _ _)
    | split
    | (extract_lets +onlyGivenNames x; refine Follows.cut (x := x) ?_ ?_; rotate_left; clear_value x; intro _; rotate_right; subst x)
    | (extract_lets +onlyGivenNames x; clear_value x)
    | with_reducible exact Follows.refl _ _

theorem claimDecide_follows  {U : Nat} {r s : State} (h : Follows U r s) (hU : 23065049 ||| U = U) :
    Follows U r (claimDecide s) := by
  unfold claimDecide
  repeat' first
    | with_reducible assumption
    | intro _
    | with_reducible refine claimLost_follows ?_ (lor_sub (by decide) hU)
    | with_reducible refine claimWon_follows ?_ (lor_sub (by decide) hU)
    | with_reducible refine claimUndecided_follows ?_ (lor_sub (by decide) hU)
    | with_reducible refine Follows.ite ?_ ?_
    | split
    | with_reducible exact Follows.refl _ _

theorem witnessReply_follows {slot term side : Nat} {accepted : Bool} {U : Nat} {r s : State} (h : Follows U r s) (hU : 23065049 ||| U = U) :
    Follows U r (witnessReply slot term side accepted s) := by
  unfold witnessReply
  repeat' first
    | with_reducible assumption
    | intro _
    | with_reducible refine claimDecide_follows ?_ (lor_sub (by decide) hU)
    | with_reducible refine Follows.ite ?_ ?_
    | with_reducible exact Follows.set_pair (by assumption) (lor_sub (by decide) hU)
    | (with_reducible refine Follows.set_pair ?_ (lor_sub (by decide) hU); first | with_reducible refine claimDecide_follows ?_ (lor_sub (by decide) hU) | with_reducible refine Follows.ite ?_ ?_ | with_reducible exact Follows.refl _ _)
    | split
    | (extract_lets +onlyGivenNames x; refine Follows.cut (x := x) ?_ ?_; rotate_left; clear_value x; intro _; rotate_right; subst x)
    | (extract_lets +onlyGivenNames x; clear_value x)
    | with_reducible exact Follows.refl _ _

theorem windowClose_follows  {U : Nat} {r s : State} (h : Follows U r s) (hU : 23065049 ||| U = U) :
    Follows U r (windowClose s) := by
  unfold windowClose
  repeat' first
    | with_reducible assumption
    | intro _
    | with_reducible refine wr_follows ?_ (lor_sub (by decide) hU)
    | with_reducible refine headFenced_follows ?_ (lor_sub (by decide) hU)
    | with_reducible refine sessionEnd_follows ?_ (lor_sub (by decide) hU)
    | with_reducible refine pairTo_follows ?_ (lor_sub (by decide) hU)
    | with_reducible refine ftLog_follows ?_ (lor_sub (by decide) hU)
    | with_reducible refine arm_follows ?_ (lor_sub (by decide) hU)
    | with_reducible refine claimDecide_follows ?_ (lor_sub (by decide) hU)
    | with_reducible refine Follows.ite ?_ ?_
    | with_reducible exact Follows.set_pair (by assumption) (lor_sub (by decide) hU)
    | (with_reducible refine Follows.set_pair ?_ (lor_sub (by decide) hU); first | with_reducible refine wr_follows ?_ (lor_sub (by decide) hU) | with_reducible refine headFenced_follows ?_ (lor_sub (by decide) hU) | with_reducible refine sessionEnd_follows ?_ (lor_sub (by decide) hU) | with_reducible refine pairTo_follows ?_ (lor_sub (by decide) hU) | with_reducible refine ftLog_follows ?_ (lor_sub (by decide) hU) | with_reducible refine arm_follows ?_ (lor_sub (by decide) hU) | with_reducible refine claimDecide_follows ?_ (lor_sub (by decide) hU) | with_reducible refine Follows.ite ?_ ?_ | with_reducible exact Follows.refl _ _)
    | split
    | (extract_lets +onlyGivenNames x; refine Follows.cut (x := x) ?_ ?_; rotate_left; clear_value x; intro _; rotate_right; subst x)
    | (extract_lets +onlyGivenNames x; clear_value x)
    | with_reducible exact Follows.refl _ _

theorem sidesSeal_follows {sides : List Nat} {U : Nat} {r s : State} (h : Follows U r s) (hU : 18714897 ||| U = U) :
    Follows U r (sidesSeal sides s) := by
  unfold sidesSeal
  repeat' first
    | with_reducible assumption
    | intro _
    | with_reducible refine foldS_follows ?_ ?_
    | with_reducible refine rowClose_follows ?_ (lor_sub (by decide) hU)
    | with_reducible refine Follows.ite ?_ ?_
    | split
    | refine Follows.snd (by assumption) ?_
    | refine Follows.fst (by assumption) ?_
    | dsimp only
    | with_reducible exact Follows.refl _ _

theorem failbackEdge_follows  {U : Nat} {r s : State} (h : Follows U r s) (hU : 18739473 ||| U = U) :
    Follows U r (failbackEdge s) := by
  unfold failbackEdge
  repeat' first
    | with_reducible assumption
    | intro _
    | with_reducible refine when_follows ?_ ?_
    | with_reducible refine sidesSeal_follows ?_ (lor_sub (by decide) hU)
    | with_reducible refine anaChanged_follows ?_ (lor_sub (by decide) hU)
    | with_reducible refine Follows.ite ?_ ?_
    | with_reducible exact Follows.set_pair (by assumption) (lor_sub (by decide) hU)
    | (with_reducible refine Follows.set_pair ?_ (lor_sub (by decide) hU); first | with_reducible refine when_follows ?_ ?_ | with_reducible refine sidesSeal_follows ?_ (lor_sub (by decide) hU) | with_reducible refine anaChanged_follows ?_ (lor_sub (by decide) hU) | with_reducible refine Follows.ite ?_ ?_ | with_reducible exact Follows.refl _ _)
    | split
    | (extract_lets +onlyGivenNames x; refine Follows.cut (x := x) ?_ ?_; rotate_left; clear_value x; intro _; rotate_right; subst x)
    | (extract_lets +onlyGivenNames x; clear_value x)
    | with_reducible exact Follows.refl _ _

theorem failbackTry_follows  {U : Nat} {r s : State} (h : Follows U r s) (hU : 1048577 ||| U = U) :
    Follows U r (failbackTry s) := by
  unfold failbackTry
  repeat' first
    | with_reducible assumption
    | intro _
    | with_reducible refine pairControl_follows ?_ (lor_sub (by decide) hU)
    | with_reducible refine Follows.ite ?_ ?_
    | with_reducible exact Follows.set_pair (by assumption) (lor_sub (by decide) hU)
    | (with_reducible refine Follows.set_pair ?_ (lor_sub (by decide) hU); first | with_reducible refine pairControl_follows ?_ (lor_sub (by decide) hU) | with_reducible refine Follows.ite ?_ ?_ | with_reducible exact Follows.refl _ _)
    | split
    | (extract_lets +onlyGivenNames x; refine Follows.cut (x := x) ?_ ?_; rotate_left; clear_value x; intro _; rotate_right; subst x)
    | (extract_lets +onlyGivenNames x; clear_value x)
    | with_reducible exact Follows.refl _ _

theorem failbackHeld_follows  {U : Nat} {r s : State} (h : Follows U r s) (hU : 1048577 ||| U = U) :
    Follows U r (failbackHeld s) := by
  unfold failbackHeld
  repeat' first
    | with_reducible assumption
    | intro _
    | with_reducible refine pairControl_follows ?_ (lor_sub (by decide) hU)
    | with_reducible refine Follows.ite ?_ ?_
    | with_reducible exact Follows.set_pair (by assumption) (lor_sub (by decide) hU)
    | (with_reducible refine Follows.set_pair ?_ (lor_sub (by decide) hU); first | with_reducible refine pairControl_follows ?_ (lor_sub (by decide) hU) | with_reducible refine Follows.ite ?_ ?_ | with_reducible exact Follows.refl _ _)
    | split
    | (extract_lets +onlyGivenNames x; refine Follows.cut (x := x) ?_ ?_; rotate_left; clear_value x; intro _; rotate_right; subst x)
    | (extract_lets +onlyGivenNames x; clear_value x)
    | with_reducible exact Follows.refl _ _

theorem failbackFence_follows  {U : Nat} {r s : State} (h : Follows U r s) (hU : 18350081 ||| U = U) :
    Follows U r (failbackFence s) := by
  unfold failbackFence
  repeat' first
    | with_reducible assumption
    | intro _
    | with_reducible refine fencesRaise_follows ?_ (lor_sub (by decide) hU)
    | with_reducible refine foldS_follows ?_ ?_
    | with_reducible refine pairControl_follows ?_ (lor_sub (by decide) hU)
    | with_reducible refine Follows.ite ?_ ?_
    | with_reducible exact Follows.set_pair (by assumption) (lor_sub (by decide) hU)
    | (with_reducible refine Follows.set_pair ?_ (lor_sub (by decide) hU); first | with_reducible refine fencesRaise_follows ?_ (lor_sub (by decide) hU) | with_reducible refine foldS_follows ?_ ?_ | with_reducible refine pairControl_follows ?_ (lor_sub (by decide) hU) | with_reducible refine Follows.ite ?_ ?_ | with_reducible exact Follows.refl _ _)
    | split
    | (extract_lets +onlyGivenNames x; refine Follows.cut (x := x) ?_ ?_; rotate_left; clear_value x; intro _; rotate_right; subst x)
    | (extract_lets +onlyGivenNames x; clear_value x)
    | refine Follows.snd (by assumption) ?_
    | refine Follows.fst (by assumption) ?_
    | dsimp only
    | with_reducible exact Follows.refl _ _

theorem failbackFenced_follows {epoch : Nat} {U : Nat} {r s : State} (h : Follows U r s) (hU : 1048577 ||| U = U) :
    Follows U r (failbackFenced epoch s) := by
  unfold failbackFenced
  repeat' first
    | with_reducible assumption
    | intro _
    | with_reducible refine pairControl_follows ?_ (lor_sub (by decide) hU)
    | with_reducible refine Follows.ite ?_ ?_
    | split
    | with_reducible exact Follows.refl _ _

theorem anchorsWrite_follows  {U : Nat} {r s : State} (h : Follows U r s) (hU : 65537 ||| U = U) :
    Follows U r (anchorsWrite s) := by
  unfold anchorsWrite
  repeat' first
    | with_reducible assumption
    | intro _
    | with_reducible refine foldS_follows ?_ ?_
    | with_reducible refine imageWrite_follows ?_ (lor_sub (by decide) hU)
    | with_reducible refine anchorWrite_follows ?_ (lor_sub (by decide) hU)
    | with_reducible refine wr_follows ?_ (lor_sub (by decide) hU)
    | with_reducible refine foldl_follows ?_ ?_
    | with_reducible refine Follows.ite ?_ ?_
    | with_reducible exact Follows.set_map (by assumption) (lor_sub (by decide) hU)
    | (with_reducible refine Follows.set_map ?_ (lor_sub (by decide) hU); first | with_reducible refine foldS_follows ?_ ?_ | with_reducible refine imageWrite_follows ?_ (lor_sub (by decide) hU) | with_reducible refine anchorWrite_follows ?_ (lor_sub (by decide) hU) | with_reducible refine wr_follows ?_ (lor_sub (by decide) hU) | with_reducible refine foldl_follows ?_ ?_ | with_reducible refine Follows.ite ?_ ?_ | with_reducible exact Follows.refl _ _)
    | split
    | (extract_lets +onlyGivenNames x; refine Follows.cut (x := x) ?_ ?_; rotate_left; clear_value x; intro _; rotate_right; subst x)
    | (extract_lets +onlyGivenNames x; clear_value x)
    | refine Follows.snd (by assumption) ?_
    | refine Follows.fst (by assumption) ?_
    | dsimp only
    | with_reducible exact Follows.refl _ _

theorem failbackEnds_follows {f : Failback} {U : Nat} {r s : State} (h : Follows U r s) (hU : 17850817 ||| U = U) :
    Follows U r (failbackEnds f s) := by
  unfold failbackEnds
  repeat' first
    | with_reducible assumption
    | intro _
    | with_reducible refine pairTo_follows ?_ (lor_sub (by decide) hU)
    | with_reducible refine pairEvent_follows ?_ (lor_sub (by decide) hU)
    | with_reducible refine bump_follows ?_ (lor_sub (by decide) hU)
    | with_reducible refine anaChanged_follows ?_ (lor_sub (by decide) hU)
    | with_reducible refine mbxComplete_follows ?_ (lor_sub (by decide) hU)
    | with_reducible exact Follows.set_pair (by assumption) (lor_sub (by decide) hU)
    | (with_reducible refine Follows.set_pair ?_ (lor_sub (by decide) hU); first | with_reducible refine pairTo_follows ?_ (lor_sub (by decide) hU) | with_reducible refine pairEvent_follows ?_ (lor_sub (by decide) hU) | with_reducible refine bump_follows ?_ (lor_sub (by decide) hU) | with_reducible refine anaChanged_follows ?_ (lor_sub (by decide) hU) | with_reducible refine mbxComplete_follows ?_ (lor_sub (by decide) hU) | with_reducible exact Follows.refl _ _)
    | split
    | (extract_lets +onlyGivenNames x; refine Follows.cut (x := x) ?_ ?_; rotate_left; clear_value x; intro _; rotate_right; subst x)
    | (extract_lets +onlyGivenNames x; clear_value x)
    | with_reducible exact Follows.refl _ _

theorem failbackIn_follows {epoch : Nat} {U : Nat} {r s : State} (h : Follows U r s) (hU : 22933969 ||| U = U) :
    Follows U r (failbackIn epoch s) := by
  unfold failbackIn
  repeat' first
    | with_reducible assumption
    | intro _
    | with_reducible refine takeReplay_follows ?_ (lor_sub (by decide) hU)
    | with_reducible refine foldS_follows ?_ ?_
    | with_reducible refine wr_follows ?_ (lor_sub (by decide) hU)
    | with_reducible refine slotMod_follows ?_ (lor_sub (by decide) hU)
    | with_reducible refine ancWrote_follows ?_ (lor_sub (by decide) hU)
    | with_reducible refine wrB_follows ?_ (lor_sub (by decide) hU)
    | with_reducible refine when_follows ?_ ?_
    | with_reducible refine anchorsWrite_follows ?_ (lor_sub (by decide) hU)
    | with_reducible refine pairControl_follows ?_ (lor_sub (by decide) hU)
    | with_reducible refine failbackEnds_follows ?_ (lor_sub (by decide) hU)
    | with_reducible refine Follows.ite ?_ ?_
    | with_reducible exact Follows.set_pair (by assumption) (lor_sub (by decide) hU)
    | (with_reducible refine Follows.set_pair ?_ (lor_sub (by decide) hU); first | with_reducible refine takeReplay_follows ?_ (lor_sub (by decide) hU) | with_reducible refine foldS_follows ?_ ?_ | with_reducible refine wr_follows ?_ (lor_sub (by decide) hU) | with_reducible refine slotMod_follows ?_ (lor_sub (by decide) hU) | with_reducible refine ancWrote_follows ?_ (lor_sub (by decide) hU) | with_reducible refine wrB_follows ?_ (lor_sub (by decide) hU) | with_reducible refine when_follows ?_ ?_ | with_reducible refine anchorsWrite_follows ?_ (lor_sub (by decide) hU) | with_reducible refine pairControl_follows ?_ (lor_sub (by decide) hU) | with_reducible refine failbackEnds_follows ?_ (lor_sub (by decide) hU) | with_reducible refine Follows.ite ?_ ?_ | with_reducible exact Follows.refl _ _)
    | split
    | (extract_lets +onlyGivenNames x; refine Follows.cut (x := x) ?_ ?_; rotate_left; clear_value x; intro _; rotate_right; subst x)
    | (extract_lets +onlyGivenNames x; clear_value x)
    | with_reducible exact Follows.refl _ _

theorem failbackOut_follows  {U : Nat} {r s : State} (h : Follows U r s) (hU : 17850817 ||| U = U) :
    Follows U r (failbackOut s) := by
  unfold failbackOut
  repeat' first
    | with_reducible assumption
    | intro _
    | with_reducible refine failbackEnds_follows ?_ (lor_sub (by decide) hU)
    | with_reducible refine Follows.ite ?_ ?_
    | with_reducible exact Follows.set_pair (by assumption) (lor_sub (by decide) hU)
    | (with_reducible refine Follows.set_pair ?_ (lor_sub (by decide) hU); first | with_reducible refine failbackEnds_follows ?_ (lor_sub (by decide) hU) | with_reducible refine Follows.ite ?_ ?_ | with_reducible exact Follows.refl _ _)
    | split
    | (extract_lets +onlyGivenNames x; refine Follows.cut (x := x) ?_ ?_; rotate_left; clear_value x; intro _; rotate_right; subst x)
    | (extract_lets +onlyGivenNames x; clear_value x)
    | with_reducible exact Follows.refl _ _

theorem failbackTake_follows {f : Nat} {cancel : Bool} {U : Nat} {r s : State} (h : Follows U r s) (hU : 1048576 ||| U = U) :
    Follows U r (failbackTake f cancel s) := by
  unfold failbackTake
  repeat' first
    | with_reducible assumption
    | intro _
    | with_reducible refine Follows.ite ?_ ?_
    | with_reducible exact Follows.set_pair (by assumption) (lor_sub (by decide) hU)
    | (with_reducible refine Follows.set_pair ?_ (lor_sub (by decide) hU); first | with_reducible refine Follows.ite ?_ ?_ | with_reducible exact Follows.refl _ _)
    | split
    | (extract_lets +onlyGivenNames x; refine Follows.cut (x := x) ?_ ?_; rotate_left; clear_value x; intro _; rotate_right; subst x)
    | (extract_lets +onlyGivenNames x; clear_value x)
    | with_reducible exact Follows.refl _ _

theorem joinRefuse_follows  {U : Nat} {r s : State} (h : Follows U r s) (hU : 17826113 ||| U = U) :
    Follows U r (joinRefuse s) := by
  unfold joinRefuse
  repeat' first
    | with_reducible assumption
    | intro _
    | with_reducible refine pairEvent_follows ?_ (lor_sub (by decide) hU)
    | with_reducible refine when_follows ?_ ?_
    | with_reducible refine wr_follows ?_ (lor_sub (by decide) hU)
    | with_reducible exact Follows.set_pair (by assumption) (lor_sub (by decide) hU)
    | (with_reducible refine Follows.set_pair ?_ (lor_sub (by decide) hU); first | with_reducible refine pairEvent_follows ?_ (lor_sub (by decide) hU) | with_reducible refine when_follows ?_ ?_ | with_reducible refine wr_follows ?_ (lor_sub (by decide) hU) | with_reducible exact Follows.refl _ _)
    | split
    | (extract_lets +onlyGivenNames x; refine Follows.cut (x := x) ?_ ?_; rotate_left; clear_value x; intro _; rotate_right; subst x)
    | (extract_lets +onlyGivenNames x; clear_value x)
    | with_reducible exact Follows.refl _ _

theorem helloTake_follows {seat : Nat} {h : Hello} {U : Nat} {r s : State} (hs : Follows U r s) (hU : 17940937 ||| U = U) :
    Follows U r (helloTake seat h s) := by
  unfold helloTake
  repeat' first
    | with_reducible assumption
    | intro _
    | with_reducible refine when_follows ?_ ?_
    | with_reducible refine strokeStamp_follows ?_ (lor_sub (by decide) hU)
    | with_reducible refine sessionEnd_follows ?_ (lor_sub (by decide) hU)
    | with_reducible refine pairTo_follows ?_ (lor_sub (by decide) hU)
    | with_reducible refine ftLog_follows ?_ (lor_sub (by decide) hU)
    | with_reducible refine wr_follows ?_ (lor_sub (by decide) hU)
    | with_reducible refine joinRefuse_follows ?_ (lor_sub (by decide) hU)
    | with_reducible refine Follows.ite ?_ ?_
    | with_reducible exact Follows.set_pair (by assumption) (lor_sub (by decide) hU)
    | (with_reducible refine Follows.set_pair ?_ (lor_sub (by decide) hU); first | with_reducible refine when_follows ?_ ?_ | with_reducible refine strokeStamp_follows ?_ (lor_sub (by decide) hU) | with_reducible refine sessionEnd_follows ?_ (lor_sub (by decide) hU) | with_reducible refine pairTo_follows ?_ (lor_sub (by decide) hU) | with_reducible refine ftLog_follows ?_ (lor_sub (by decide) hU) | with_reducible refine wr_follows ?_ (lor_sub (by decide) hU) | with_reducible refine joinRefuse_follows ?_ (lor_sub (by decide) hU) | with_reducible refine Follows.ite ?_ ?_ | with_reducible exact Follows.refl _ _)
    | split
    | (extract_lets +onlyGivenNames x; refine Follows.cut (x := x) ?_ ?_; rotate_left; clear_value x; intro _; rotate_right; subst x)
    | (extract_lets +onlyGivenNames x; clear_value x)
    | with_reducible exact Follows.refl _ _

theorem journalAll_follows  {U : Nat} {r s : State} (h : Follows U r s) (hU : 1048577 ||| U = U) :
    Follows U r (journalAll s) := by
  unfold journalAll
  repeat' first
    | with_reducible assumption
    | intro _
    | with_reducible refine foldS_follows ?_ ?_
    | with_reducible refine journalAdd_follows ?_ (lor_sub (by decide) hU)
    | split
    | refine Follows.snd (by assumption) ?_
    | refine Follows.fst (by assumption) ?_
    | dsimp only
    | with_reducible exact Follows.refl _ _

theorem bulkSend_follows {recs : List Delta} {U : Nat} {r s : State} (h : Follows U r s) (hU : 1048577 ||| U = U) :
    Follows U r (bulkSend recs s) := by
  unfold bulkSend
  repeat' first
    | with_reducible assumption
    | intro _
    | with_reducible refine foldS_follows ?_ ?_
    | with_reducible refine pairEnqueue_follows ?_ (lor_sub (by decide) hU)
    | split
    | with_reducible exact Follows.refl _ _

theorem exchangeTake_follows {ok sameOwner : Bool} {U : Nat} {r s : State} (h : Follows U r s) (hU : 17859017 ||| U = U) :
    Follows U r (exchangeTake ok sameOwner s) := by
  unfold exchangeTake
  repeat' first
    | with_reducible assumption
    | intro _
    | with_reducible refine keyEvent_follows ?_ (lor_sub (by decide) hU)
    | with_reducible refine joinRefuse_follows ?_ (lor_sub (by decide) hU)
    | with_reducible refine sessionEnd_follows ?_ (lor_sub (by decide) hU)
    | with_reducible refine foldS_follows ?_ ?_
    | with_reducible refine wr_follows ?_ (lor_sub (by decide) hU)
    | with_reducible refine laneMod_follows ?_ (lor_sub (by decide) hU)
    | with_reducible refine when_follows ?_ ?_
    | with_reducible refine pairTo_follows ?_ (lor_sub (by decide) hU)
    | with_reducible refine bulkSend_follows ?_ (lor_sub (by decide) hU)
    | with_reducible refine journalAll_follows ?_ (lor_sub (by decide) hU)
    | with_reducible refine Follows.ite ?_ ?_
    | with_reducible exact Follows.set_pair (by assumption) (lor_sub (by decide) hU)
    | (with_reducible refine Follows.set_pair ?_ (lor_sub (by decide) hU); first | with_reducible refine keyEvent_follows ?_ (lor_sub (by decide) hU) | with_reducible refine joinRefuse_follows ?_ (lor_sub (by decide) hU) | with_reducible refine sessionEnd_follows ?_ (lor_sub (by decide) hU) | with_reducible refine foldS_follows ?_ ?_ | with_reducible refine wr_follows ?_ (lor_sub (by decide) hU) | with_reducible refine laneMod_follows ?_ (lor_sub (by decide) hU) | with_reducible refine when_follows ?_ ?_ | with_reducible refine pairTo_follows ?_ (lor_sub (by decide) hU) | with_reducible refine bulkSend_follows ?_ (lor_sub (by decide) hU) | with_reducible refine journalAll_follows ?_ (lor_sub (by decide) hU) | with_reducible refine Follows.ite ?_ ?_ | with_reducible exact Follows.refl _ _)
    | split
    | (extract_lets +onlyGivenNames x; refine Follows.cut (x := x) ?_ ?_; rotate_left; clear_value x; intro _; rotate_right; subst x)
    | (extract_lets +onlyGivenNames x; clear_value x)
    | with_reducible exact Follows.refl _ _

theorem sidesDecide_follows {peerServes : Bool} {U : Nat} {r s : State} (h : Follows U r s) (hU : 17826113 ||| U = U) :
    Follows U r (sidesDecide peerServes s) := by
  unfold sidesDecide
  dsimp only
  repeat' first
    | with_reducible assumption
    | intro _
    | with_reducible refine pairTo_follows ?_ (lor_sub (by decide) hU)
    | with_reducible refine Follows.ite ?_ ?_
    | with_reducible exact Follows.set_pair (by assumption) (lor_sub (by decide) hU)
    | (with_reducible refine Follows.set_pair ?_ (lor_sub (by decide) hU); first | with_reducible refine pairTo_follows ?_ (lor_sub (by decide) hU) | with_reducible refine Follows.ite ?_ ?_ | with_reducible exact Follows.refl _ _)
    | split
    | with_reducible exact Follows.refl _ _

theorem joinOwner_follows  {U : Nat} {r s : State} (h : Follows U r s) (hU : 18714897 ||| U = U) :
    Follows U r (joinOwner s) := by
  unfold joinOwner
  repeat' first
    | with_reducible assumption
    | intro _
    | with_reducible refine bulkSend_follows ?_ (lor_sub (by decide) hU)
    | with_reducible refine pairEnqueue_follows ?_ (lor_sub (by decide) hU)
    | with_reducible refine ownsTell_follows ?_ (lor_sub (by decide) hU)
    | with_reducible refine sidesSeal_follows ?_ (lor_sub (by decide) hU)
    | with_reducible refine ckptStart_follows ?_ (lor_sub (by decide) hU)
    | with_reducible refine Follows.ite ?_ ?_
    | with_reducible exact Follows.set_pair (by assumption) (lor_sub (by decide) hU)
    | (with_reducible refine Follows.set_pair ?_ (lor_sub (by decide) hU); first | with_reducible refine bulkSend_follows ?_ (lor_sub (by decide) hU) | with_reducible refine pairEnqueue_follows ?_ (lor_sub (by decide) hU) | with_reducible refine ownsTell_follows ?_ (lor_sub (by decide) hU) | with_reducible refine sidesSeal_follows ?_ (lor_sub (by decide) hU) | with_reducible refine ckptStart_follows ?_ (lor_sub (by decide) hU) | with_reducible refine Follows.ite ?_ ?_ | with_reducible exact Follows.refl _ _)
    | split
    | (extract_lets +onlyGivenNames x; refine Follows.cut (x := x) ?_ ?_; rotate_left; clear_value x; intro _; rotate_right; subst x)
    | (extract_lets +onlyGivenNames x; clear_value x)
    | with_reducible exact Follows.refl _ _

theorem phaseStep_follows {b : Beat} {U : Nat} {r s : State} (h : Follows U r s) (hU : 9 ||| U = U) :
    Follows U r (phaseStep b s) := by
  unfold phaseStep
  repeat' first
    | with_reducible assumption
    | intro _
    | with_reducible refine setTicks_follows ?_ (lor_sub (by decide) hU)
    | with_reducible refine wr_follows ?_ (lor_sub (by decide) hU)
    | with_reducible exact Follows.set_stk (by assumption) (lor_sub (by decide) hU) rfl
    | (with_reducible refine Follows.set_stk ?_ (lor_sub (by decide) hU) rfl; first | with_reducible refine setTicks_follows ?_ (lor_sub (by decide) hU) | with_reducible refine wr_follows ?_ (lor_sub (by decide) hU) | with_reducible exact Follows.refl _ _)
    | split
    | (extract_lets +onlyGivenNames x; refine Follows.cut (x := x) ?_ ?_; rotate_left; clear_value x; intro _; rotate_right; subst x)
    | extract_lets +onlyGivenNames x
    | with_reducible exact Follows.refl _ _

theorem joinAgree_follows {b : Beat} {U : Nat} {r s : State} (h : Follows U r s) (hU : 18714969 ||| U = U) :
    Follows U r (joinAgree b s) := by
  unfold joinAgree
  repeat' first
    | with_reducible assumption
    | intro _
    | with_reducible refine when_follows ?_ ?_
    | with_reducible refine phaseStep_follows ?_ (lor_sub (by decide) hU)
    | with_reducible refine wrB_follows ?_ (lor_sub (by decide) hU)
    | with_reducible refine sidesDecide_follows ?_ (lor_sub (by decide) hU)
    | with_reducible refine joinOwner_follows ?_ (lor_sub (by decide) hU)
    | with_reducible refine Follows.ite ?_ ?_
    | with_reducible exact Follows.set_stk_pair (by assumption) (lor_sub (by decide) hU) rfl
    | (with_reducible refine Follows.set_stk_pair ?_ (lor_sub (by decide) hU) rfl; first | with_reducible refine when_follows ?_ ?_ | with_reducible refine phaseStep_follows ?_ (lor_sub (by decide) hU) | with_reducible refine wrB_follows ?_ (lor_sub (by decide) hU) | with_reducible refine sidesDecide_follows ?_ (lor_sub (by decide) hU) | with_reducible refine joinOwner_follows ?_ (lor_sub (by decide) hU) | with_reducible refine Follows.ite ?_ ?_ | with_reducible exact Follows.refl _ _)
    | split
    | (extract_lets +onlyGivenNames x; refine Follows.cut (x := x) ?_ ?_; rotate_left; clear_value x; intro _; rotate_right; subst x)
    | (extract_lets +onlyGivenNames x; clear_value x)
    | with_reducible exact Follows.refl _ _

theorem joinDone_follows  {U : Nat} {r s : State} (h : Follows U r s) (hU : 17826113 ||| U = U) :
    Follows U r (joinDone s) := by
  unfold joinDone
  repeat' first
    | with_reducible assumption
    | intro _
    | with_reducible refine pairControl_follows ?_ (lor_sub (by decide) hU)
    | with_reducible refine pairTo_follows ?_ (lor_sub (by decide) hU)
    | with_reducible refine Follows.ite ?_ ?_
    | with_reducible exact Follows.set_pair (by assumption) (lor_sub (by decide) hU)
    | (with_reducible refine Follows.set_pair ?_ (lor_sub (by decide) hU); first | with_reducible refine pairControl_follows ?_ (lor_sub (by decide) hU) | with_reducible refine pairTo_follows ?_ (lor_sub (by decide) hU) | with_reducible refine Follows.ite ?_ ?_ | with_reducible exact Follows.refl _ _)
    | split
    | (extract_lets +onlyGivenNames x; refine Follows.cut (x := x) ?_ ?_; rotate_left; clear_value x; intro _; rotate_right; subst x)
    | (extract_lets +onlyGivenNames x; clear_value x)
    | with_reducible exact Follows.refl _ _

theorem offsetTake_follows {b : Beat} {U : Nat} {r s : State} (h : Follows U r s) (hU : 9 ||| U = U) :
    Follows U r (offsetTake b s) := by
  unfold offsetTake
  repeat' first
    | with_reducible assumption
    | intro _
    | with_reducible refine wr_follows ?_ (lor_sub (by decide) hU)
    | with_reducible refine when_follows ?_ ?_
    | with_reducible exact Follows.set_stk (by assumption) (lor_sub (by decide) hU) rfl
    | (with_reducible refine Follows.set_stk ?_ (lor_sub (by decide) hU) rfl; first | with_reducible refine wr_follows ?_ (lor_sub (by decide) hU) | with_reducible refine when_follows ?_ ?_ | with_reducible exact Follows.refl _ _)
    | split
    | (extract_lets +onlyGivenNames x; refine Follows.cut (x := x) ?_ ?_; rotate_left; clear_value x; intro _; rotate_right; subst x)
    | (extract_lets +onlyGivenNames x; clear_value x)
    | with_reducible exact Follows.refl _ _

theorem heartbeatTake_follows {b : Beat} {U : Nat} {r s : State} (h : Follows U r s) (hU : 23065049 ||| U = U) :
    Follows U r (heartbeatTake b s) := by
  unfold heartbeatTake
  repeat' first
    | with_reducible assumption
    | intro _
    | with_reducible refine strokeStamp_follows ?_ (lor_sub (by decide) hU)
    | with_reducible refine offsetTake_follows ?_ (lor_sub (by decide) hU)
    | with_reducible refine when_follows ?_ ?_
    | with_reducible refine failbackHeld_follows ?_ (lor_sub (by decide) hU)
    | with_reducible refine wr_follows ?_ (lor_sub (by decide) hU)
    | with_reducible refine pairTo_follows ?_ (lor_sub (by decide) hU)
    | with_reducible refine anaChanged_follows ?_ (lor_sub (by decide) hU)
    | with_reducible refine arm_follows ?_ (lor_sub (by decide) hU)
    | with_reducible refine claimDecide_follows ?_ (lor_sub (by decide) hU)
    | with_reducible refine joinAgree_follows ?_ (lor_sub (by decide) hU)
    | with_reducible refine joinDone_follows ?_ (lor_sub (by decide) hU)
    | with_reducible refine Follows.ite ?_ ?_
    | with_reducible exact Follows.set_pair (by assumption) (lor_sub (by decide) hU)
    | (with_reducible refine Follows.set_pair ?_ (lor_sub (by decide) hU); first | with_reducible refine strokeStamp_follows ?_ (lor_sub (by decide) hU) | with_reducible refine offsetTake_follows ?_ (lor_sub (by decide) hU) | with_reducible refine when_follows ?_ ?_ | with_reducible refine failbackHeld_follows ?_ (lor_sub (by decide) hU) | with_reducible refine wr_follows ?_ (lor_sub (by decide) hU) | with_reducible refine pairTo_follows ?_ (lor_sub (by decide) hU) | with_reducible refine anaChanged_follows ?_ (lor_sub (by decide) hU) | with_reducible refine arm_follows ?_ (lor_sub (by decide) hU) | with_reducible refine claimDecide_follows ?_ (lor_sub (by decide) hU) | with_reducible refine joinAgree_follows ?_ (lor_sub (by decide) hU) | with_reducible refine joinDone_follows ?_ (lor_sub (by decide) hU) | with_reducible refine Follows.ite ?_ ?_ | with_reducible exact Follows.refl _ _)
    | split
    | (extract_lets +onlyGivenNames x; refine Follows.cut (x := x) ?_ ?_; rotate_left; clear_value x; intro _; rotate_right; subst x)
    | (extract_lets +onlyGivenNames x; clear_value x)
    | with_reducible exact Follows.refl _ _

end Sys2Proof.Machine
end

