-- ==== Sys2Proof/Laws/FollowsRating.lean ====
section
/-!
SUPPORT. Laws/FollowsRating.lean: the operations of Machine/Rating.lean keep what `Follows` states.
-/

namespace Sys2Proof.Machine

open Sys2Proof

theorem loopFlagsClear_follows {seat mask : Nat} {U : Nat} {r s : State} (h : Follows U r s) (hU : 2097152 ||| U = U) :
    Follows U r (loopFlagsClear seat mask s) := by
  unfold loopFlagsClear
  repeat' first
    | with_reducible assumption
    | intro _
    | with_reducible refine loopMod_follows ?_ (lor_sub (by decide) hU)
    | split
    | with_reducible exact Follows.refl _ _

theorem loopFlagsSet_follows {seat mask : Nat} {U : Nat} {r s : State} (h : Follows U r s) (hU : 2097152 ||| U = U) :
    Follows U r (loopFlagsSet seat mask s) := by
  unfold loopFlagsSet
  repeat' first
    | with_reducible assumption
    | intro _
    | with_reducible refine loopMod_follows ?_ (lor_sub (by decide) hU)
    | split
    | with_reducible exact Follows.refl _ _

theorem loopMissesClear_follows {seat : Nat} {U : Nat} {r s : State} (h : Follows U r s) (hU : 2097152 ||| U = U) :
    Follows U r (loopMissesClear seat s) := by
  unfold loopMissesClear
  repeat' first
    | with_reducible assumption
    | intro _
    | with_reducible refine loopMod_follows ?_ (lor_sub (by decide) hU)
    | split
    | (extract_lets +onlyGivenNames x; refine Follows.cut (x := x) ?_ ?_; rotate_left; clear_value x; intro _; rotate_right; subst x)
    | (extract_lets +onlyGivenNames x; clear_value x)
    | with_reducible exact Follows.refl _ _

end Sys2Proof.Machine
end

