-- ==== Sys2Proof/Laws/FollowsSnapshots.lean ====
section
/-!
SUPPORT. Laws/FollowsSnapshots.lean: the operations of Machine/Snapshots.lean keep what `Follows` states.
-/

namespace Sys2Proof.Machine

open Sys2Proof

theorem groupStore_follows {cg tenant : Nat} {members : List Nat} {U : Nat} {r s : State} (h : Follows U r s) (hU : 14008321 ||| U = U) :
    Follows U r (groupStore cg tenant members s) := by
  unfold groupStore
  repeat' first
    | with_reducible assumption
    | intro _
    | with_reducible refine objectTake_follows ?_ (lor_sub (by decide) hU)
    | with_reducible refine objectTell_follows ?_ (lor_sub (by decide) hU)
    | split
    | with_reducible exact Follows.refl _ _

theorem snapRegister_follows {cg t : Nat} {slot : Option Nat} {U : Nat} {r s : State} (h : Follows U r s) (hU : 5242881 ||| U = U) :
    Follows U r (snapRegister cg t slot s).2 := by
  unfold snapRegister
  repeat' first
    | with_reducible assumption
    | intro _
    | with_reducible refine when_follows ?_ ?_
    | with_reducible refine pairControl_follows ?_ (lor_sub (by decide) hU)
    | with_reducible refine Follows.ite ?_ ?_
    | with_reducible exact Follows.set_snp (by assumption) (lor_sub (by decide) hU)
    | (with_reducible refine Follows.set_snp ?_ (lor_sub (by decide) hU); first | with_reducible refine when_follows ?_ ?_ | with_reducible refine pairControl_follows ?_ (lor_sub (by decide) hU) | with_reducible refine Follows.ite ?_ ?_ | with_reducible exact Follows.refl _ _)
    | split
    | (extract_lets +onlyGivenNames x; refine Follows.cut (x := x) ?_ ?_; rotate_left; clear_value x; intro _; rotate_right; subst x)
    | (extract_lets +onlyGivenNames x; clear_value x)
    | with_reducible exact Follows.refl _ _

theorem snapConfirm_follows {id : Nat} {U : Nat} {r s : State} (h : Follows U r s) (hU : 20971969 ||| U = U) :
    Follows U r (snapConfirm id s) := by
  unfold snapConfirm
  repeat' first
    | with_reducible assumption
    | intro _
    | with_reducible refine snapMod_follows ?_ (lor_sub (by decide) hU)
    | with_reducible refine mbxComplete_follows ?_ (lor_sub (by decide) hU)
    | with_reducible refine Follows.ite ?_ ?_
    | split
    | (extract_lets +onlyGivenNames x; refine Follows.cut (x := x) ?_ ?_; rotate_left; clear_value x; intro _; rotate_right; subst x)
    | (extract_lets +onlyGivenNames x; clear_value x)
    | with_reducible exact Follows.refl _ _

theorem epochCancel_follows {id : Nat} {U : Nat} {r s : State} (h : Follows U r s) (hU : 4194304 ||| U = U) :
    Follows U r (epochCancel id s) := by
  unfold epochCancel
  repeat' first
    | with_reducible assumption
    | intro _
    | with_reducible refine Follows.ite ?_ ?_
    | with_reducible exact Follows.set_snp (by assumption) (lor_sub (by decide) hU)
    | (with_reducible refine Follows.set_snp ?_ (lor_sub (by decide) hU); first | with_reducible refine Follows.ite ?_ ?_ | with_reducible exact Follows.refl _ _)
    | split
    | (extract_lets +onlyGivenNames x; refine Follows.cut (x := x) ?_ ?_; rotate_left; clear_value x; intro _; rotate_right; subst x)
    | (extract_lets +onlyGivenNames x; clear_value x)
    | with_reducible exact Follows.refl _ _

theorem snapsWait_follows  {U : Nat} {r s : State} (h : Follows U r s) (hU : 22020545 ||| U = U) :
    Follows U r (snapsWait s) := by
  unfold snapsWait
  repeat' first
    | with_reducible assumption
    | intro _
    | with_reducible refine foldS_follows ?_ ?_
    | with_reducible refine pairControl_follows ?_ (lor_sub (by decide) hU)
    | with_reducible refine epochCancel_follows ?_ (lor_sub (by decide) hU)
    | with_reducible refine mbxComplete_follows ?_ (lor_sub (by decide) hU)
    | with_reducible exact Follows.set_snp (by assumption) (lor_sub (by decide) hU)
    | (with_reducible refine Follows.set_snp ?_ (lor_sub (by decide) hU); first | with_reducible refine foldS_follows ?_ ?_ | with_reducible refine pairControl_follows ?_ (lor_sub (by decide) hU) | with_reducible refine epochCancel_follows ?_ (lor_sub (by decide) hU) | with_reducible refine mbxComplete_follows ?_ (lor_sub (by decide) hU) | with_reducible exact Follows.refl _ _)
    | split
    | (extract_lets +onlyGivenNames x; refine Follows.cut (x := x) ?_ ?_; rotate_left; clear_value x; intro _; rotate_right; subst x)
    | (extract_lets +onlyGivenNames x; clear_value x)
    | refine Follows.snd (by assumption) ?_
    | refine Follows.fst (by assumption) ?_
    | dsimp only
    | with_reducible exact Follows.refl _ _

theorem snapTold_follows {id cg t : Nat} {remove : Bool} {U : Nat} {r s : State} (h : Follows U r s) (hU : 12959745 ||| U = U) :
    Follows U r (snapTold id cg t remove s) := by
  unfold snapTold
  repeat' first
    | with_reducible assumption
    | intro _
    | with_reducible refine objectTake_follows ?_ (lor_sub (by decide) hU)
    | with_reducible refine Follows.ite ?_ ?_
    | with_reducible exact Follows.set_snp (by assumption) (lor_sub (by decide) hU)
    | (with_reducible refine Follows.set_snp ?_ (lor_sub (by decide) hU); first | with_reducible refine objectTake_follows ?_ (lor_sub (by decide) hU) | with_reducible refine Follows.ite ?_ ?_ | with_reducible exact Follows.refl _ _)
    | split
    | (extract_lets +onlyGivenNames x; refine Follows.cut (x := x) ?_ ?_; rotate_left; clear_value x; intro _; rotate_right; subst x)
    | (extract_lets +onlyGivenNames x; clear_value x)
    | with_reducible exact Follows.refl _ _

end Sys2Proof.Machine
end

