-- ==== Sys2Proof/Laws/FollowsReplication.lean ====
section
/-!
SUPPORT. Laws/FollowsReplication.lean: the operations of Machine/Replication.lean keep what `Follows` states.
-/

namespace Sys2Proof.Machine

open Sys2Proof

theorem linkMod_follows {n : Nat} {f : Link → Link} {U : Nat} {r s : State} (h : Follows U r s) (hU : 4194304 ||| U = U) :
    Follows U r (linkMod n f s) := by
  unfold linkMod
  repeat' first
    | with_reducible assumption
    | intro _
    | with_reducible exact Follows.set_snp (by assumption) (lor_sub (by decide) hU)
    | (with_reducible refine Follows.set_snp ?_ (lor_sub (by decide) hU); first | with_reducible exact Follows.refl _ _)
    | split
    | (extract_lets +onlyGivenNames x; refine Follows.cut (x := x) ?_ ?_; rotate_left; clear_value x; intro _; rotate_right; subst x)
    | (extract_lets +onlyGivenNames x; clear_value x)
    | with_reducible exact Follows.refl _ _

theorem partMod_follows {n k : Nat} {f : Part → Part} {U : Nat} {r s : State} (h : Follows U r s) (hU : 4194304 ||| U = U) :
    Follows U r (partMod n k f s) := by
  unfold partMod
  repeat' first
    | with_reducible assumption
    | intro _
    | with_reducible refine linkMod_follows ?_ (lor_sub (by decide) hU)
    | split
    | (extract_lets +onlyGivenNames x; refine Follows.cut (x := x) ?_ ?_; rotate_left; clear_value x; intro _; rotate_right; subst x)
    | (extract_lets +onlyGivenNames x; clear_value x)
    | with_reducible exact Follows.refl _ _

theorem replSend_follows {n k typ len : Nat} {words : List Nat} {U : Nat} {r s : State} (h : Follows U r s) (hU : 20979713 ||| U = U) :
    Follows U r (replSend n k typ len words s) := by
  unfold replSend
  repeat' first
    | with_reducible assumption
    | intro _
    | with_reducible refine linkMod_follows ?_ (lor_sub (by decide) hU)
    | with_reducible refine qpSend_follows ?_ (lor_sub (by decide) hU)
    | split
    | (extract_lets +onlyGivenNames x; refine Follows.cut (x := x) ?_ ?_; rotate_left; clear_value x; intro _; rotate_right; subst x)
    | (extract_lets +onlyGivenNames x; clear_value x)
    | with_reducible exact Follows.refl _ _

theorem partHeard_follows {n k : Nat} {U : Nat} {r s : State} (h : Follows U r s) (hU : 4194304 ||| U = U) :
    Follows U r (partHeard n k s) := by
  unfold partHeard
  repeat' first
    | with_reducible assumption
    | intro _
    | with_reducible refine partMod_follows ?_ (lor_sub (by decide) hU)
    | split
    | (extract_lets +onlyGivenNames x; refine Follows.cut (x := x) ?_ ?_; rotate_left; clear_value x; intro _; rotate_right; subst x)
    | (extract_lets +onlyGivenNames x; clear_value x)
    | with_reducible exact Follows.refl _ _

theorem partClose_follows {n k : Nat} {U : Nat} {r s : State} (h : Follows U r s) (hU : 22536641 ||| U = U) :
    Follows U r (partClose n k s) := by
  unfold partClose
  repeat' first
    | with_reducible assumption
    | intro _
    | with_reducible refine freeQp_follows ?_ (lor_sub (by decide) hU)
    | with_reducible refine qpDisconnect_follows ?_ (lor_sub (by decide) hU)
    | with_reducible refine partMod_follows ?_ (lor_sub (by decide) hU)
    | with_reducible refine Follows.ite ?_ ?_
    | split
    | (extract_lets +onlyGivenNames x; refine Follows.cut (x := x) ?_ ?_; rotate_left; clear_value x; intro _; rotate_right; subst x)
    | (extract_lets +onlyGivenNames x; clear_value x)
    | with_reducible exact Follows.refl _ _

theorem partConnect_follows {n k : Nat} {U : Nat} {r s : State} (h : Follows U r s) (hU : 20979713 ||| U = U) :
    Follows U r (partConnect n k s) := by
  unfold partConnect
  repeat' first
    | with_reducible assumption
    | intro _
    | with_reducible refine setQp_follows ?_ (lor_sub (by decide) hU)
    | with_reducible refine partMod_follows ?_ (lor_sub (by decide) hU)
    | with_reducible refine cmSend_follows ?_ (lor_sub (by decide) hU)
    | split
    | (extract_lets +onlyGivenNames x; refine Follows.cut (x := x) ?_ ?_; rotate_left; clear_value x; intro _; rotate_right; subst x)
    | (extract_lets +onlyGivenNames x; clear_value x)
    | with_reducible exact Follows.refl _ _

theorem linkFail_follows {n : Nat} {U : Nat} {r s : State} (h : Follows U r s) (hU : 22536641 ||| U = U) :
    Follows U r (linkFail n s) := by
  unfold linkFail
  repeat' first
    | with_reducible assumption
    | intro _
    | with_reducible refine foldS_follows ?_ ?_
    | with_reducible refine partClose_follows ?_ (lor_sub (by decide) hU)
    | with_reducible refine when_follows ?_ ?_
    | with_reducible refine imageDrop_follows ?_ (lor_sub (by decide) hU)
    | with_reducible refine linkMod_follows ?_ (lor_sub (by decide) hU)
    | with_reducible refine snpEvent_follows ?_ (lor_sub (by decide) hU)
    | with_reducible refine Follows.ite ?_ ?_
    | split
    | (extract_lets +onlyGivenNames x; refine Follows.cut (x := x) ?_ ?_; rotate_left; clear_value x; intro _; rotate_right; subst x)
    | (extract_lets +onlyGivenNames x; clear_value x)
    | with_reducible exact Follows.refl _ _

theorem replRefused_follows {n : Nat} {U : Nat} {r s : State} (h : Follows U r s) (hU : 20971841 ||| U = U) :
    Follows U r (replRefused n s) := by
  unfold replRefused
  repeat' first
    | with_reducible assumption
    | intro _
    | with_reducible refine linkMod_follows ?_ (lor_sub (by decide) hU)
    | with_reducible refine snpEvent_follows ?_ (lor_sub (by decide) hU)
    | split
    | (extract_lets +onlyGivenNames x; refine Follows.cut (x := x) ?_ ?_; rotate_left; clear_value x; intro _; rotate_right; subst x)
    | (extract_lets +onlyGivenNames x; clear_value x)
    | with_reducible exact Follows.refl _ _

theorem linkTell_follows {n : Nat} {U : Nat} {r s : State} (h : Follows U r s) (hU : 1048577 ||| U = U) :
    Follows U r (linkTell n s) := by
  unfold linkTell
  repeat' first
    | with_reducible assumption
    | intro _
    | with_reducible refine objectTell_follows ?_ (lor_sub (by decide) hU)
    | split
    | with_reducible exact Follows.refl _ _

theorem partOffer_follows {n k : Nat} {U : Nat} {r s : State} (h : Follows U r s) (hU : 20979713 ||| U = U) :
    Follows U r (partOffer n k s) := by
  unfold partOffer
  repeat' first
    | with_reducible assumption
    | intro _
    | with_reducible refine partMod_follows ?_ (lor_sub (by decide) hU)
    | with_reducible refine replSend_follows ?_ (lor_sub (by decide) hU)
    | with_reducible refine linkMod_follows ?_ (lor_sub (by decide) hU)
    | with_reducible refine Follows.ite ?_ ?_
    | split
    | (extract_lets +onlyGivenNames x; refine Follows.cut (x := x) ?_ ?_; rotate_left; clear_value x; intro _; rotate_right; subst x)
    | (extract_lets +onlyGivenNames x; clear_value x)
    | with_reducible exact Follows.refl _ _

theorem partsEdge_follows  {U : Nat} {r s : State} (h : Follows U r s) (hU : 22536641 ||| U = U) :
    Follows U r (partsEdge s) := by
  unfold partsEdge
  repeat' first
    | with_reducible assumption
    | intro _
    | with_reducible refine foldS_follows ?_ ?_
    | with_reducible refine partMod_follows ?_ (lor_sub (by decide) hU)
    | with_reducible refine partClose_follows ?_ (lor_sub (by decide) hU)
    | with_reducible refine linkMod_follows ?_ (lor_sub (by decide) hU)
    | with_reducible refine partOffer_follows ?_ (lor_sub (by decide) hU)
    | split
    | (extract_lets +onlyGivenNames x; refine Follows.cut (x := x) ?_ ?_; rotate_left; clear_value x; intro _; rotate_right; subst x)
    | (extract_lets +onlyGivenNames x; clear_value x)
    | refine Follows.snd (by assumption) ?_
    | refine Follows.fst (by assumption) ?_
    | dsimp only
    | with_reducible exact Follows.refl _ _

theorem epochOpen_follows {n k : Nat} {U : Nat} {r s : State} (h : Follows U r s) (hU : 20979713 ||| U = U) :
    Follows U r (epochOpen n k s) := by
  unfold epochOpen
  repeat' first
    | with_reducible assumption
    | intro _
    | with_reducible refine partMod_follows ?_ (lor_sub (by decide) hU)
    | with_reducible refine replSend_follows ?_ (lor_sub (by decide) hU)
    | with_reducible refine partOffer_follows ?_ (lor_sub (by decide) hU)
    | with_reducible refine Follows.ite ?_ ?_
    | split
    | (extract_lets +onlyGivenNames x; refine Follows.cut (x := x) ?_ ?_; rotate_left; clear_value x; intro _; rotate_right; subst x)
    | (extract_lets +onlyGivenNames x; clear_value x)
    | with_reducible exact Follows.refl _ _

theorem replRead_follows {l : Link} {ns bytes : Nat} {U : Nat} {r s : State} (h : Follows U r s) (hU : 2097168 ||| U = U) :
    Follows U r (replRead l ns bytes s) := by
  unfold replRead
  repeat' first
    | with_reducible assumption
    | intro _
    | with_reducible refine takeTokens_follows ?_ (lor_sub (by decide) hU)
    | with_reducible refine keelSend_follows ?_ (lor_sub (by decide) hU)
    | split
    | with_reducible exact Follows.refl _ _

theorem deltaRead_follows {l : Link} {e : DeltaEnt} {U : Nat} {r s : State} (h : Follows U r s) (hU : 2097168 ||| U = U) :
    Follows U r (deltaRead l e s) := by
  unfold deltaRead
  repeat' first
    | with_reducible assumption
    | intro _
    | with_reducible refine replRead_follows ?_ (lor_sub (by decide) hU)
    | with_reducible refine Follows.ite ?_ ?_
    | split
    | with_reducible exact Follows.refl _ _

theorem deltaCompute_follows {n k : Nat} {U : Nat} {r s : State} (h : Follows U r s) (hU : 23076881 ||| U = U) :
    Follows U r (deltaCompute n k s) := by
  unfold deltaCompute
  repeat' first
    | with_reducible assumption
    | intro _
    | with_reducible refine partMod_follows ?_ (lor_sub (by decide) hU)
    | with_reducible refine foldS_follows ?_ ?_
    | with_reducible refine deltaRead_follows ?_ (lor_sub (by decide) hU)
    | with_reducible refine epochOpen_follows ?_ (lor_sub (by decide) hU)
    | with_reducible refine Follows.ite ?_ ?_
    | split
    | (extract_lets +onlyGivenNames x; refine Follows.cut (x := x) ?_ ?_; rotate_left; clear_value x; intro _; rotate_right; subst x)
    | (extract_lets +onlyGivenNames x; clear_value x)
    | with_reducible exact Follows.refl _ _

theorem snapLetGo_follows {id : Nat} {U : Nat} {r s : State} (h : Follows U r s) (hU : 5308417 ||| U = U) :
    Follows U r (snapLetGo id s) := by
  unfold snapLetGo
  repeat' first
    | with_reducible assumption
    | intro _
    | with_reducible refine snapDrop_follows ?_ (lor_sub (by decide) hU)
    | with_reducible refine objectTell_follows ?_ (lor_sub (by decide) hU)
    | with_reducible refine Follows.ite ?_ ?_
    | split
    | with_reducible exact Follows.refl _ _

theorem epochCommitted_follows {n e : Nat} {U : Nat} {r s : State} (h : Follows U r s) (hU : 22085953 ||| U = U) :
    Follows U r (epochCommitted n e s) := by
  unfold epochCommitted
  repeat' first
    | with_reducible assumption
    | intro _
    | with_reducible refine linkMod_follows ?_ (lor_sub (by decide) hU)
    | with_reducible refine snpEvent_follows ?_ (lor_sub (by decide) hU)
    | with_reducible refine linkTell_follows ?_ (lor_sub (by decide) hU)
    | with_reducible refine snapLetGo_follows ?_ (lor_sub (by decide) hU)
    | with_reducible refine Follows.ite ?_ ?_
    | split
    | (extract_lets +onlyGivenNames x; refine Follows.cut (x := x) ?_ ?_; rotate_left; clear_value x; intro _; rotate_right; subst x)
    | (extract_lets +onlyGivenNames x; clear_value x)
    | with_reducible exact Follows.refl _ _

theorem epochStart_follows {n : Nat} {U : Nat} {r s : State} (h : Follows U r s) (hU : 5242881 ||| U = U) :
    Follows U r (epochStart n s) := by
  unfold epochStart
  repeat' first
    | with_reducible assumption
    | intro _
    | with_reducible refine linkMod_follows ?_ (lor_sub (by decide) hU)
    | with_reducible refine snapRegister_follows ?_ (lor_sub (by decide) hU)
    | with_reducible refine linkTell_follows ?_ (lor_sub (by decide) hU)
    | with_reducible refine Follows.ite ?_ ?_
    | split
    | (extract_lets +onlyGivenNames x; refine Follows.cut (x := x) ?_ ?_; rotate_left; clear_value x; intro _; rotate_right; subst x)
    | (extract_lets +onlyGivenNames x; clear_value x)
    | refine Follows.snd (by assumption) ?_
    | refine Follows.fst (by assumption) ?_
    | dsimp only
    | with_reducible exact Follows.refl _ _

theorem intervalEdge_follows {n : Nat} {U : Nat} {r s : State} (h : Follows U r s) (hU : 5242881 ||| U = U) :
    Follows U r (intervalEdge n s) := by
  unfold intervalEdge
  repeat' first
    | with_reducible assumption
    | intro _
    | with_reducible refine linkMod_follows ?_ (lor_sub (by decide) hU)
    | with_reducible refine epochStart_follows ?_ (lor_sub (by decide) hU)
    | with_reducible refine Follows.ite ?_ ?_
    | split
    | (extract_lets +onlyGivenNames x; refine Follows.cut (x := x) ?_ ?_; rotate_left; clear_value x; intro _; rotate_right; subst x)
    | (extract_lets +onlyGivenNames x; clear_value x)
    | with_reducible exact Follows.refl _ _

theorem wantTake_follows {n k epoch batch : Nat} {want : List Nat} {U : Nat} {r s : State} (h : Follows U r s) (hU : 6291472 ||| U = U) :
    Follows U r (wantTake n k epoch batch want s) := by
  unfold wantTake
  repeat' first
    | with_reducible assumption
    | intro _
    | with_reducible refine foldS_follows ?_ ?_
    | with_reducible refine replRead_follows ?_ (lor_sub (by decide) hU)
    | with_reducible refine partMod_follows ?_ (lor_sub (by decide) hU)
    | with_reducible refine Follows.ite ?_ ?_
    | split
    | (extract_lets +onlyGivenNames x; refine Follows.cut (x := x) ?_ ?_; rotate_left; clear_value x; intro _; rotate_right; subst x)
    | (extract_lets +onlyGivenNames x; clear_value x)
    | with_reducible exact Follows.refl _ _

theorem replWrite_follows {n k len : Nat} {words : List Nat} {U : Nat} {r s : State} (h : Follows U r s) (hU : 16785409 ||| U = U) :
    Follows U r (replWrite n k len words s) := by
  unfold replWrite
  repeat' first
    | with_reducible assumption
    | intro _
    | with_reducible refine qpSend_follows ?_ (lor_sub (by decide) hU)
    | split
    | with_reducible exact Follows.refl _ _

theorem readyTake_follows {n k epoch batch len : Nat} {U : Nat} {r s : State} (h : Follows U r s) (hU : 20980033 ||| U = U) :
    Follows U r (readyTake n k epoch batch len s) := by
  unfold readyTake
  repeat' first
    | with_reducible assumption
    | intro _
    | with_reducible refine replSend_follows ?_ (lor_sub (by decide) hU)
    | with_reducible refine replRefused_follows ?_ (lor_sub (by decide) hU)
    | with_reducible refine linkMod_follows ?_ (lor_sub (by decide) hU)
    | with_reducible refine foldS_follows ?_ ?_
    | with_reducible refine replWrite_follows ?_ (lor_sub (by decide) hU)
    | with_reducible refine partMod_follows ?_ (lor_sub (by decide) hU)
    | with_reducible refine Follows.ite ?_ ?_
    | split
    | (extract_lets +onlyGivenNames x; refine Follows.cut (x := x) ?_ ?_; rotate_left; clear_value x; intro _; rotate_right; subst x)
    | (extract_lets +onlyGivenNames x; clear_value x)
    | with_reducible exact Follows.refl _ _

theorem batchAcked_follows {n k epoch batch : Nat} {U : Nat} {r s : State} (h : Follows U r s) (hU : 20979713 ||| U = U) :
    Follows U r (batchAcked n k epoch batch s) := by
  unfold batchAcked
  repeat' first
    | with_reducible assumption
    | intro _
    | with_reducible refine partMod_follows ?_ (lor_sub (by decide) hU)
    | with_reducible refine partOffer_follows ?_ (lor_sub (by decide) hU)
    | with_reducible refine Follows.ite ?_ ?_
    | split
    | (extract_lets +onlyGivenNames x; refine Follows.cut (x := x) ?_ ?_; rotate_left; clear_value x; intro _; rotate_right; subst x)
    | (extract_lets +onlyGivenNames x; clear_value x)
    | with_reducible exact Follows.refl _ _

theorem batchNaked_follows {n k epoch batch : Nat} {U : Nat} {r s : State} (h : Follows U r s) (hU : 22536641 ||| U = U) :
    Follows U r (batchNaked n k epoch batch s) := by
  unfold batchNaked
  repeat' first
    | with_reducible assumption
    | intro _
    | with_reducible refine replRefused_follows ?_ (lor_sub (by decide) hU)
    | with_reducible refine partMod_follows ?_ (lor_sub (by decide) hU)
    | with_reducible refine linkFail_follows ?_ (lor_sub (by decide) hU)
    | with_reducible refine partOffer_follows ?_ (lor_sub (by decide) hU)
    | with_reducible refine Follows.ite ?_ ?_
    | split
    | (extract_lets +onlyGivenNames x; refine Follows.cut (x := x) ?_ ?_; rotate_left; clear_value x; intro _; rotate_right; subst x)
    | (extract_lets +onlyGivenNames x; clear_value x)
    | with_reducible exact Follows.refl _ _

theorem openTake_follows {n k epoch parts batches : Nat} {U : Nat} {r s : State} (h : Follows U r s) (hU : 4194304 ||| U = U) :
    Follows U r (openTake n k epoch parts batches s) := by
  unfold openTake
  repeat' first
    | with_reducible assumption
    | intro _
    | with_reducible refine linkMod_follows ?_ (lor_sub (by decide) hU)
    | with_reducible refine partMod_follows ?_ (lor_sub (by decide) hU)
    | with_reducible refine Follows.ite ?_ ?_
    | split
    | (extract_lets +onlyGivenNames x; refine Follows.cut (x := x) ?_ ?_; rotate_left; clear_value x; intro _; rotate_right; subst x)
    | (extract_lets +onlyGivenNames x; clear_value x)
    | with_reducible exact Follows.refl _ _

theorem offerTake_follows {n k epoch batch : Nat} {ents : List DeltaEnt} {U : Nat} {r s : State} (h : Follows U r s) (hU : 20979713 ||| U = U) :
    Follows U r (offerTake n k epoch batch ents s) := by
  unfold offerTake
  repeat' first
    | with_reducible assumption
    | intro _
    | with_reducible refine replSend_follows ?_ (lor_sub (by decide) hU)
    | with_reducible refine partMod_follows ?_ (lor_sub (by decide) hU)
    | with_reducible refine linkMod_follows ?_ (lor_sub (by decide) hU)
    | with_reducible refine foldl_follows ?_ ?_
    | with_reducible refine Follows.ite ?_ ?_
    | split
    | (extract_lets +onlyGivenNames x; refine Follows.cut (x := x) ?_ ?_; rotate_left; clear_value x; intro _; rotate_right; subst x)
    | (extract_lets +onlyGivenNames x; clear_value x)
    | with_reducible exact Follows.refl _ _

theorem replLand_follows {id : Nat} {data : Nat} {st : Stored} {U : Nat} {r s : State} (h : Follows U r s) (hU : 27259217 ||| U = U) :
    Follows U r (replLand id data st s) := by
  unfold replLand
  repeat' first
    | with_reducible assumption
    | intro _
    | with_reducible refine when_follows ?_ ?_
    | with_reducible refine bumpN_follows ?_ (lor_sub (by decide) hU)
    | with_reducible refine digSnoop_follows ?_ (lor_sub (by decide) hU)
    | with_reducible refine bump_follows ?_ (lor_sub (by decide) hU)
    | with_reducible refine recAdd_follows ?_ (lor_sub (by decide) hU)
    | with_reducible refine blkReady_follows ?_ (lor_sub (by decide) hU)
    | with_reducible refine Follows.ite ?_ ?_
    | with_reducible exact Follows.set_ing (by assumption) (lor_sub (by decide) hU)
    | (with_reducible refine Follows.set_ing ?_ (lor_sub (by decide) hU); first | with_reducible refine when_follows ?_ ?_ | with_reducible refine bumpN_follows ?_ (lor_sub (by decide) hU) | with_reducible refine digSnoop_follows ?_ (lor_sub (by decide) hU) | with_reducible refine bump_follows ?_ (lor_sub (by decide) hU) | with_reducible refine recAdd_follows ?_ (lor_sub (by decide) hU) | with_reducible refine blkReady_follows ?_ (lor_sub (by decide) hU) | with_reducible refine Follows.ite ?_ ?_ | with_reducible exact Follows.refl _ _)
    | split
    | (extract_lets +onlyGivenNames x; refine Follows.cut (x := x) ?_ ?_; rotate_left; clear_value x; intro _; rotate_right; subst x)
    | (extract_lets +onlyGivenNames x; clear_value x)
    | with_reducible exact Follows.refl _ _

theorem entryApply_follows {l : Link} {k i : Nat} {e : DeltaEnt} {n : Nat} {U : Nat} {r s : State} (h : Follows U r s) (hU : 31453521 ||| U = U) :
    Follows U r (entryApply l k i e n s) := by
  unfold entryApply
  repeat' first
    | with_reducible assumption
    | intro _
    | with_reducible refine ownStart_follows ?_ (lor_sub (by decide) hU)
    | with_reducible refine partMod_follows ?_ (lor_sub (by decide) hU)
    | with_reducible refine grpNew_follows ?_ (lor_sub (by decide) hU)
    | with_reducible refine recAdd_follows ?_ (lor_sub (by decide) hU)
    | with_reducible refine holdRec_follows ?_ (lor_sub (by decide) hU)
    | with_reducible refine replLand_follows ?_ (lor_sub (by decide) hU)
    | with_reducible refine Follows.ite ?_ ?_
    | with_reducible exact Follows.set_ing (by assumption) (lor_sub (by decide) hU)
    | (with_reducible refine Follows.set_ing ?_ (lor_sub (by decide) hU); first | with_reducible refine ownStart_follows ?_ (lor_sub (by decide) hU) | with_reducible refine partMod_follows ?_ (lor_sub (by decide) hU) | with_reducible refine grpNew_follows ?_ (lor_sub (by decide) hU) | with_reducible refine recAdd_follows ?_ (lor_sub (by decide) hU) | with_reducible refine holdRec_follows ?_ (lor_sub (by decide) hU) | with_reducible refine replLand_follows ?_ (lor_sub (by decide) hU) | with_reducible refine Follows.ite ?_ ?_ | with_reducible exact Follows.refl _ _)
    | with_reducible exact Follows.set_nv (by assumption) (lor_sub (by decide) hU)
    | (with_reducible refine Follows.set_nv ?_ (lor_sub (by decide) hU); first | with_reducible refine ownStart_follows ?_ (lor_sub (by decide) hU) | with_reducible refine partMod_follows ?_ (lor_sub (by decide) hU) | with_reducible refine grpNew_follows ?_ (lor_sub (by decide) hU) | with_reducible refine recAdd_follows ?_ (lor_sub (by decide) hU) | with_reducible refine holdRec_follows ?_ (lor_sub (by decide) hU) | with_reducible refine replLand_follows ?_ (lor_sub (by decide) hU) | with_reducible refine Follows.ite ?_ ?_ | with_reducible exact Follows.refl _ _)
    | split
    | (extract_lets +onlyGivenNames x; refine Follows.cut (x := x) ?_ ?_; rotate_left; clear_value x; intro _; rotate_right; subst x)
    | (extract_lets +onlyGivenNames x; clear_value x)
    | refine Follows.snd (by assumption) ?_
    | refine Follows.fst (by assumption) ?_
    | dsimp only
    | with_reducible exact Follows.refl _ _

theorem batchRefuse_follows {n k epoch batch : Nat} {U : Nat} {r s : State} (h : Follows U r s) (hU : 22536641 ||| U = U) :
    Follows U r (batchRefuse n k epoch batch s) := by
  unfold batchRefuse
  repeat' first
    | with_reducible assumption
    | intro _
    | with_reducible refine partMod_follows ?_ (lor_sub (by decide) hU)
    | with_reducible refine replSend_follows ?_ (lor_sub (by decide) hU)
    | with_reducible refine replRefused_follows ?_ (lor_sub (by decide) hU)
    | with_reducible refine linkFail_follows ?_ (lor_sub (by decide) hU)
    | with_reducible refine Follows.ite ?_ ?_
    | split
    | (extract_lets +onlyGivenNames x; refine Follows.cut (x := x) ?_ ?_; rotate_left; clear_value x; intro _; rotate_right; subst x)
    | (extract_lets +onlyGivenNames x; clear_value x)
    | with_reducible exact Follows.refl _ _

theorem batchEnd_follows {n k epoch batch : Nat} {recs : List ReplRec} {U : Nat} {r s : State} (h : Follows U r s) (hU : 31453649 ||| U = U) :
    Follows U r (batchEnd n k epoch batch recs s) := by
  unfold batchEnd
  dsimp only
  repeat' first
    | with_reducible assumption
    | intro _
    | with_reducible refine linkMod_follows ?_ (lor_sub (by decide) hU)
    | with_reducible refine batchRefuse_follows ?_ (lor_sub (by decide) hU)
    | with_reducible refine partMod_follows ?_ (lor_sub (by decide) hU)
    | with_reducible refine foldS_follows ?_ ?_
    | with_reducible refine entryApply_follows ?_ (lor_sub (by decide) hU)
    | with_reducible refine replSend_follows ?_ (lor_sub (by decide) hU)
    | with_reducible refine foldl_follows ?_ ?_
    | with_reducible refine Follows.ite ?_ ?_
    | split
    | refine Follows.snd (by assumption) ?_
    | refine Follows.fst (by assumption) ?_
    | dsimp only
    | with_reducible exact Follows.refl _ _

theorem partCheck_follows {n k : Nat} {U : Nat} {r s : State} (h : Follows U r s) (hU : 22536641 ||| U = U) :
    Follows U r (partCheck n k s) := by
  unfold partCheck
  repeat' first
    | with_reducible assumption
    | intro _
    | with_reducible refine partMod_follows ?_ (lor_sub (by decide) hU)
    | with_reducible refine replSend_follows ?_ (lor_sub (by decide) hU)
    | with_reducible refine batchRefuse_follows ?_ (lor_sub (by decide) hU)
    | with_reducible refine Follows.ite ?_ ?_
    | split
    | (extract_lets +onlyGivenNames x; refine Follows.cut (x := x) ?_ ?_; rotate_left; clear_value x; intro _; rotate_right; subst x)
    | (extract_lets +onlyGivenNames x; clear_value x)
    | with_reducible exact Follows.refl _ _

theorem replCheck_follows  {U : Nat} {r s : State} (h : Follows U r s) (hU : 22536641 ||| U = U) :
    Follows U r (replCheck s) := by
  unfold replCheck
  repeat' first
    | with_reducible assumption
    | intro _
    | with_reducible refine foldS_follows ?_ ?_
    | with_reducible refine partCheck_follows ?_ (lor_sub (by decide) hU)
    | split
    | refine Follows.snd (by assumption) ?_
    | refine Follows.fst (by assumption) ?_
    | dsimp only
    | with_reducible exact Follows.refl _ _

theorem doneTake_follows {n k epoch : Nat} {U : Nat} {r s : State} (h : Follows U r s) (hU : 22094145 ||| U = U) :
    Follows U r (doneTake n k epoch s) := by
  unfold doneTake
  dsimp only
  repeat' first
    | with_reducible assumption
    | intro _
    | with_reducible refine partMod_follows ?_ (lor_sub (by decide) hU)
    | with_reducible refine imageSwap_follows ?_ (lor_sub (by decide) hU)
    | with_reducible refine linkMod_follows ?_ (lor_sub (by decide) hU)
    | with_reducible refine foldS_follows ?_ ?_
    | with_reducible refine replSend_follows ?_ (lor_sub (by decide) hU)
    | with_reducible refine snpEvent_follows ?_ (lor_sub (by decide) hU)
    | with_reducible refine linkTell_follows ?_ (lor_sub (by decide) hU)
    | with_reducible refine Follows.ite ?_ ?_
    | split
    | refine Follows.snd (by assumption) ?_
    | refine Follows.fst (by assumption) ?_
    | dsimp only
    | with_reducible exact Follows.refl _ _

theorem replHeard_follows {n k len : Nat} {U : Nat} {r s : State} (h : Follows U r s) (hU : 4194304 ||| U = U) :
    Follows U r (replHeard n k len s) := by
  unfold replHeard
  repeat' first
    | with_reducible assumption
    | intro _
    | with_reducible refine partHeard_follows ?_ (lor_sub (by decide) hU)
    | with_reducible refine linkMod_follows ?_ (lor_sub (by decide) hU)
    | split
    | (extract_lets +onlyGivenNames x; refine Follows.cut (x := x) ?_ ?_; rotate_left; clear_value x; intro _; rotate_right; subst x)
    | (extract_lets +onlyGivenNames x; clear_value x)
    | with_reducible exact Follows.refl _ _

theorem replHello_follows {n k : Nat} {h : ReplHello} {U : Nat} {r s : State} (hs : Follows U r s) (hU : 22536641 ||| U = U) :
    Follows U r (replHello n k h s) := by
  unfold replHello
  dsimp only
  repeat' first
    | with_reducible assumption
    | intro _
    | with_reducible refine partClose_follows ?_ (lor_sub (by decide) hU)
    | with_reducible refine partMod_follows ?_ (lor_sub (by decide) hU)
    | with_reducible refine replHeard_follows ?_ (lor_sub (by decide) hU)
    | with_reducible refine replSend_follows ?_ (lor_sub (by decide) hU)
    | with_reducible refine logFw_follows ?_ (lor_sub (by decide) hU)
    | with_reducible refine linkFail_follows ?_ (lor_sub (by decide) hU)
    | with_reducible refine linkMod_follows ?_ (lor_sub (by decide) hU)
    | with_reducible refine epochCommitted_follows ?_ (lor_sub (by decide) hU)
    | with_reducible refine Follows.ite ?_ ?_
    | split
    | with_reducible exact Follows.refl _ _

theorem replKex_follows {n k : Nat} {ok : Bool} {U : Nat} {r s : State} (h : Follows U r s) (hU : 22536641 ||| U = U) :
    Follows U r (replKex n k ok s) := by
  unfold replKex
  repeat' first
    | with_reducible assumption
    | intro _
    | with_reducible refine keyEvent_follows ?_ (lor_sub (by decide) hU)
    | with_reducible refine partClose_follows ?_ (lor_sub (by decide) hU)
    | with_reducible refine partMod_follows ?_ (lor_sub (by decide) hU)
    | with_reducible refine replHeard_follows ?_ (lor_sub (by decide) hU)
    | with_reducible refine replSend_follows ?_ (lor_sub (by decide) hU)
    | with_reducible refine when_follows ?_ ?_
    | with_reducible refine linkMod_follows ?_ (lor_sub (by decide) hU)
    | with_reducible refine epochOpen_follows ?_ (lor_sub (by decide) hU)
    | with_reducible refine Follows.ite ?_ ?_
    | split
    | (extract_lets +onlyGivenNames x; refine Follows.cut (x := x) ?_ ?_; rotate_left; clear_value x; intro _; rotate_right; subst x)
    | (extract_lets +onlyGivenNames x; clear_value x)
    | with_reducible exact Follows.refl _ _

theorem linkTimeout_follows {n k : Nat} {U : Nat} {r s : State} (h : Follows U r s) (hU : 22536641 ||| U = U) :
    Follows U r (linkTimeout n k s) := by
  unfold linkTimeout
  repeat' first
    | with_reducible assumption
    | intro _
    | with_reducible refine partClose_follows ?_ (lor_sub (by decide) hU)
    | with_reducible refine partMod_follows ?_ (lor_sub (by decide) hU)
    | with_reducible refine snpEvent_follows ?_ (lor_sub (by decide) hU)
    | with_reducible refine Follows.ite ?_ ?_
    | split
    | (extract_lets +onlyGivenNames x; refine Follows.cut (x := x) ?_ ?_; rotate_left; clear_value x; intro _; rotate_right; subst x)
    | (extract_lets +onlyGivenNames x; clear_value x)
    | with_reducible exact Follows.refl _ _

theorem linkReconnect_follows {n k : Nat} {U : Nat} {r s : State} (h : Follows U r s) (hU : 22536641 ||| U = U) :
    Follows U r (linkReconnect n k s) := by
  unfold linkReconnect
  repeat' first
    | with_reducible assumption
    | intro _
    | with_reducible refine partClose_follows ?_ (lor_sub (by decide) hU)
    | with_reducible refine partMod_follows ?_ (lor_sub (by decide) hU)
    | with_reducible refine partConnect_follows ?_ (lor_sub (by decide) hU)
    | with_reducible refine Follows.ite ?_ ?_
    | split
    | (extract_lets +onlyGivenNames x; refine Follows.cut (x := x) ?_ ?_; rotate_left; clear_value x; intro _; rotate_right; subst x)
    | (extract_lets +onlyGivenNames x; clear_value x)
    | with_reducible exact Follows.refl _ _

theorem replAbort_follows {n : Nat} {whole : Bool} {U : Nat} {r s : State} (h : Follows U r s) (hU : 22536641 ||| U = U) :
    Follows U r (replAbort n whole s) := by
  unfold replAbort
  repeat' first
    | with_reducible assumption
    | intro _
    | with_reducible refine linkFail_follows ?_ (lor_sub (by decide) hU)
    | with_reducible refine when_follows ?_ ?_
    | with_reducible refine imageClone_follows ?_ (lor_sub (by decide) hU)
    | with_reducible refine linkMod_follows ?_ (lor_sub (by decide) hU)
    | with_reducible refine linkTell_follows ?_ (lor_sub (by decide) hU)
    | with_reducible refine snapLetGo_follows ?_ (lor_sub (by decide) hU)
    | with_reducible refine Follows.ite ?_ ?_
    | split
    | (extract_lets +onlyGivenNames x; refine Follows.cut (x := x) ?_ ?_; rotate_left; clear_value x; intro _; rotate_right; subst x)
    | (extract_lets +onlyGivenNames x; clear_value x)
    | with_reducible exact Follows.refl _ _

theorem onLink_follows {link : Nat} {f : Link → State → Sts × Nat × List Nat × State} {U : Nat} {r s : State} (h : Follows U r s) (hf : ∀ x0 x1, Follows U r x1 → Follows U r ((f x0 x1).2.2.2)) :
    Follows U r (onLink link f s).2.2.2 := by
  unfold onLink
  repeat' first
    | with_reducible assumption
    | intro _
    | with_reducible refine refuse_follows ?_
    | refine hf _ _ ?_
    | split
    | refine Follows.snd (by assumption) ?_
    | refine Follows.fst (by assumption) ?_
    | dsimp only
    | with_reducible exact Follows.refl _ _

theorem linkEnd_follows {link : Nat} {promoted : Bool} {U : Nat} {r s : State} (h : Follows U r s) (hU : 30925249 ||| U = U) :
    Follows U r (linkEnd link promoted s) := by
  unfold linkEnd
  repeat' first
    | with_reducible assumption
    | intro _
    | with_reducible refine foldS_follows ?_ ?_
    | with_reducible refine partClose_follows ?_ (lor_sub (by decide) hU)
    | with_reducible refine objectTake_follows ?_ (lor_sub (by decide) hU)
    | with_reducible refine objectTell_follows ?_ (lor_sub (by decide) hU)
    | split
    | (extract_lets +onlyGivenNames x; refine Follows.cut (x := x) ?_ ?_; rotate_left; clear_value x; intro _; rotate_right; subst x)
    | (extract_lets +onlyGivenNames x; clear_value x)
    | with_reducible exact Follows.refl _ _

theorem onSession_follows {link part len : Nat} {f : State → State} {U : Nat} {r s : State} (h : Follows U r s) (hf : ∀ x0, Follows U r x0 → Follows U r (f x0)) (hU : 4194304 ||| U = U) :
    Follows U r (onSession link part len f s) := by
  unfold onSession
  repeat' first
    | with_reducible assumption
    | intro _
    | with_reducible refine replHeard_follows ?_ (lor_sub (by decide) hU)
    | with_reducible refine Follows.ite ?_ ?_
    | refine hf _ ?_
    | split
    | refine Follows.snd (by assumption) ?_
    | refine Follows.fst (by assumption) ?_
    | dsimp only
    | with_reducible exact Follows.refl _ _

theorem snpLinkSelect_follows {value : Nat} {U : Nat} {r s : State} (h : Follows U r s) (hU : 1 ||| U = U) :
    Follows U r (snpLinkSelect value s) := by
  unfold snpLinkSelect
  repeat' first
    | with_reducible assumption
    | intro _
    | with_reducible refine wr_follows ?_ (lor_sub (by decide) hU)
    | with_reducible refine wrB_follows ?_ (lor_sub (by decide) hU)
    | with_reducible refine Follows.ite ?_ ?_
    | split
    | (extract_lets +onlyGivenNames x; refine Follows.cut (x := x) ?_ ?_; rotate_left; clear_value x; intro _; rotate_right; subst x)
    | (extract_lets +onlyGivenNames x; clear_value x)
    | with_reducible exact Follows.refl _ _

end Sys2Proof.Machine
end

