-- ==== Sys2Proof/Laws/FollowsTrust.lean ====
section
/-!
SUPPORT. Laws/FollowsTrust.lean: the operations of Machine/Trust.lean keep what `Follows` states.
-/

namespace Sys2Proof.Machine

open Sys2Proof

theorem authFail_follows  {U : Nat} {r s : State} (h : Follows U r s) (hU : 16777537 ||| U = U) :
    Follows U r (authFail s) := by
  unfold authFail
  repeat' first
    | with_reducible assumption
    | intro _
    | with_reducible refine keyEvent_follows ?_ (lor_sub (by decide) hU)
    | split
    | with_reducible exact Follows.refl _ _

theorem domainNew_follows {d tenant gen : Nat} {ns share : Bool} {U : Nat} {r s : State} (h : Follows U r s) (hU : 9437185 ||| U = U) :
    Follows U r (domainNew d tenant gen ns share s) := by
  unfold domainNew
  repeat' first
    | with_reducible assumption
    | intro _
    | with_reducible refine ancWrote_follows ?_ (lor_sub (by decide) hU)
    | with_reducible refine objectTell_follows ?_ (lor_sub (by decide) hU)
    | with_reducible exact Follows.set_keys (by assumption) (lor_sub (by decide) hU)
    | (with_reducible refine Follows.set_keys ?_ (lor_sub (by decide) hU); first | with_reducible refine ancWrote_follows ?_ (lor_sub (by decide) hU) | with_reducible refine objectTell_follows ?_ (lor_sub (by decide) hU) | with_reducible exact Follows.refl _ _)
    | split
    | (extract_lets +onlyGivenNames x; refine Follows.cut (x := x) ?_ ?_; rotate_left; clear_value x; intro _; rotate_right; subst x)
    | (extract_lets +onlyGivenNames x; clear_value x)
    | with_reducible exact Follows.refl _ _

theorem onDomain_follows {domain : Nat} {f : Domain → State → Sts × Nat × List Nat × State} {U : Nat} {r s : State} (h : Follows U r s) (hf : ∀ x0 x1, Follows U r x1 → Follows U r ((f x0 x1).2.2.2)) :
    Follows U r (onDomain domain f s).2.2.2 := by
  unfold onDomain
  repeat' first
    | with_reducible assumption
    | intro _
    | with_reducible refine refuse_follows ?_
    | refine hf _ _ ?_
    | split
    | refine Follows.snd (by assumption) ?_
    | refine Follows.fst (by assumption) ?_
    | dsimp only
    | with_reducible exact Follows.refl _ _

theorem keyDomainSelect_follows {value : Nat} {U : Nat} {r s : State} (h : Follows U r s) (hU : 1 ||| U = U) :
    Follows U r (keyDomainSelect value s) := by
  unfold keyDomainSelect
  repeat' first
    | with_reducible assumption
    | intro _
    | with_reducible refine wr_follows ?_ (lor_sub (by decide) hU)
    | split
    | (extract_lets +onlyGivenNames x; refine Follows.cut (x := x) ?_ ?_; rotate_left; clear_value x; intro _; rotate_right; subst x)
    | (extract_lets +onlyGivenNames x; clear_value x)
    | with_reducible exact Follows.refl _ _

theorem rollTold_follows {d g t : Nat} {U : Nat} {r s : State} (h : Follows U r s) (hU : 8388608 ||| U = U) :
    Follows U r (rollTold d g t s) := by
  unfold rollTold
  repeat' first
    | with_reducible assumption
    | intro _
    | with_reducible refine domainMod_follows ?_ (lor_sub (by decide) hU)
    | with_reducible refine Follows.ite ?_ ?_
    | split
    | (extract_lets +onlyGivenNames x; refine Follows.cut (x := x) ?_ ?_; rotate_left; clear_value x; intro _; rotate_right; subst x)
    | (extract_lets +onlyGivenNames x; clear_value x)
    | with_reducible exact Follows.refl _ _

theorem limitRolls_follows  {U : Nat} {r s : State} (h : Follows U r s) (hU : 26214721 ||| U = U) :
    Follows U r (limitRolls s) := by
  unfold limitRolls
  repeat' first
    | with_reducible assumption
    | intro _
    | with_reducible refine foldS_follows ?_ ?_
    | with_reducible refine rollRequest_follows ?_ (lor_sub (by decide) hU)
    | with_reducible refine Follows.ite ?_ ?_
    | split
    | (extract_lets +onlyGivenNames x; refine Follows.cut (x := x) ?_ ?_; rotate_left; clear_value x; intro _; rotate_right; subst x)
    | (extract_lets +onlyGivenNames x; clear_value x)
    | refine Follows.snd (by assumption) ?_
    | refine Follows.fst (by assumption) ?_
    | dsimp only
    | with_reducible exact Follows.refl _ _

theorem domainFalls_follows {d : Nat} {tell : Bool} {U : Nat} {r s : State} (h : Follows U r s) (hU : 30925249 ||| U = U) :
    Follows U r (domainFalls d tell s) := by
  unfold domainFalls
  repeat' first
    | with_reducible assumption
    | intro _
    | with_reducible refine domainMod_follows ?_ (lor_sub (by decide) hU)
    | with_reducible refine when_follows ?_ ?_
    | with_reducible refine objectTell_follows ?_ (lor_sub (by decide) hU)
    | with_reducible refine foldS_follows ?_ ?_
    | with_reducible refine partClose_follows ?_ (lor_sub (by decide) hU)
    | with_reducible refine linkRemove_follows ?_ (lor_sub (by decide) hU)
    | with_reducible refine snapDrop_follows ?_ (lor_sub (by decide) hU)
    | with_reducible refine nsRemove_follows ?_ (lor_sub (by decide) hU)
    | split
    | (extract_lets +onlyGivenNames x; refine Follows.cut (x := x) ?_ ?_; rotate_left; clear_value x; intro _; rotate_right; subst x)
    | (extract_lets +onlyGivenNames x; clear_value x)
    | refine Follows.snd (by assumption) ?_
    | refine Follows.fst (by assumption) ?_
    | dsimp only
    | with_reducible exact Follows.refl _ _

theorem erasesDue_follows  {U : Nat} {r s : State} (h : Follows U r s) (hU : 30925249 ||| U = U) :
    Follows U r (erasesDue s) := by
  unfold erasesDue
  repeat' first
    | with_reducible assumption
    | intro _
    | with_reducible refine foldS_follows ?_ ?_
    | with_reducible refine domainFalls_follows ?_ (lor_sub (by decide) hU)
    | with_reducible refine Follows.ite ?_ ?_
    | split
    | refine Follows.snd (by assumption) ?_
    | refine Follows.fst (by assumption) ?_
    | dsimp only
    | with_reducible exact Follows.refl _ _

theorem slotsClear_follows {d : Nat} {U : Nat} {r s : State} (h : Follows U r s) (hU : 8388608 ||| U = U) :
    Follows U r (slotsClear d s) := by
  unfold slotsClear
  repeat' first
    | with_reducible assumption
    | intro _
    | with_reducible exact Follows.set_keys (by assumption) (lor_sub (by decide) hU)
    | (with_reducible refine Follows.set_keys ?_ (lor_sub (by decide) hU); first | with_reducible exact Follows.refl _ _)
    | split
    | (extract_lets +onlyGivenNames x; refine Follows.cut (x := x) ?_ ?_; rotate_left; clear_value x; intro _; rotate_right; subst x)
    | (extract_lets +onlyGivenNames x; clear_value x)
    | with_reducible exact Follows.refl _ _

theorem eraseEnds_follows {d : Nat} {U : Nat} {r s : State} (h : Follows U r s) (hU : 25166273 ||| U = U) :
    Follows U r (eraseEnds d s) := by
  unfold eraseEnds
  repeat' first
    | with_reducible assumption
    | intro _
    | with_reducible refine domainMod_follows ?_ (lor_sub (by decide) hU)
    | with_reducible refine bump_follows ?_ (lor_sub (by decide) hU)
    | with_reducible refine keyEvent_follows ?_ (lor_sub (by decide) hU)
    | with_reducible refine mbxComplete_follows ?_ (lor_sub (by decide) hU)
    | split
    | (extract_lets +onlyGivenNames x; refine Follows.cut (x := x) ?_ ?_; rotate_left; clear_value x; intro _; rotate_right; subst x)
    | (extract_lets +onlyGivenNames x; clear_value x)
    | with_reducible exact Follows.refl _ _

theorem eraseWaitsPeer_follows {d : Nat} {U : Nat} {r s : State} (h : Follows U r s) (hU : 25166273 ||| U = U) :
    Follows U r (eraseWaitsPeer d s) := by
  unfold eraseWaitsPeer
  repeat' first
    | with_reducible assumption
    | intro _
    | with_reducible refine domainMod_follows ?_ (lor_sub (by decide) hU)
    | with_reducible refine keyEvent_follows ?_ (lor_sub (by decide) hU)
    | with_reducible refine mbxComplete_follows ?_ (lor_sub (by decide) hU)
    | split
    | (extract_lets +onlyGivenNames x; refine Follows.cut (x := x) ?_ ?_; rotate_left; clear_value x; intro _; rotate_right; subst x)
    | (extract_lets +onlyGivenNames x; clear_value x)
    | with_reducible exact Follows.refl _ _

theorem erasesWait_follows  {U : Nat} {r s : State} (h : Follows U r s) (hU : 25166273 ||| U = U) :
    Follows U r (erasesWait s) := by
  unfold erasesWait
  repeat' first
    | with_reducible assumption
    | intro _
    | with_reducible refine foldS_follows ?_ ?_
    | with_reducible refine eraseWaitsPeer_follows ?_ (lor_sub (by decide) hU)
    | with_reducible refine Follows.ite ?_ ?_
    | split
    | refine Follows.snd (by assumption) ?_
    | refine Follows.fst (by assumption) ?_
    | dsimp only
    | with_reducible exact Follows.refl _ _

theorem eraseTold_follows {d t : Nat} {U : Nat} {r s : State} (h : Follows U r s) (hU : 30925249 ||| U = U) :
    Follows U r (eraseTold d t s) := by
  unfold eraseTold
  repeat' first
    | with_reducible assumption
    | intro _
    | with_reducible refine domainFalls_follows ?_ (lor_sub (by decide) hU)
    | with_reducible refine domainMod_follows ?_ (lor_sub (by decide) hU)
    | with_reducible refine ancWrote_follows ?_ (lor_sub (by decide) hU)
    | with_reducible refine bump_follows ?_ (lor_sub (by decide) hU)
    | with_reducible refine keyEvent_follows ?_ (lor_sub (by decide) hU)
    | with_reducible refine Follows.ite ?_ ?_
    | split
    | (extract_lets +onlyGivenNames x; refine Follows.cut (x := x) ?_ ?_; rotate_left; clear_value x; intro _; rotate_right; subst x)
    | (extract_lets +onlyGivenNames x; clear_value x)
    | with_reducible exact Follows.refl _ _

theorem eraseAcked_follows {d : Nat} {U : Nat} {r s : State} (h : Follows U r s) (hU : 25166273 ||| U = U) :
    Follows U r (eraseAcked d s) := by
  unfold eraseAcked
  repeat' first
    | with_reducible assumption
    | intro _
    | with_reducible refine eraseEnds_follows ?_ (lor_sub (by decide) hU)
    | with_reducible refine Follows.ite ?_ ?_
    | split
    | (extract_lets +onlyGivenNames x; refine Follows.cut (x := x) ?_ ?_; rotate_left; clear_value x; intro _; rotate_right; subst x)
    | (extract_lets +onlyGivenNames x; clear_value x)
    | with_reducible exact Follows.refl _ _

theorem erasesTell_follows  {U : Nat} {r s : State} (h : Follows U r s) (hU : 1048577 ||| U = U) :
    Follows U r (erasesTell s) := by
  unfold erasesTell
  repeat' first
    | with_reducible assumption
    | intro _
    | with_reducible refine foldS_follows ?_ ?_
    | with_reducible refine pairControl_follows ?_ (lor_sub (by decide) hU)
    | with_reducible refine Follows.ite ?_ ?_
    | split
    | refine Follows.snd (by assumption) ?_
    | refine Follows.fst (by assumption) ?_
    | dsimp only
    | with_reducible exact Follows.refl _ _

theorem setCtx_follows {seat n : Nat} {c : DigCtx} {U : Nat} {r s : State} (h : Follows U r s) (hU : 8388608 ||| U = U) :
    Follows U r (setCtx seat n c s) := by
  unfold setCtx
  repeat' first
    | with_reducible assumption
    | intro _
    | with_reducible exact Follows.set_keys (by assumption) (lor_sub (by decide) hU)
    | (with_reducible refine Follows.set_keys ?_ (lor_sub (by decide) hU); first | with_reducible exact Follows.refl _ _)
    | split
    | (extract_lets +onlyGivenNames x; refine Follows.cut (x := x) ?_ ?_; rotate_left; clear_value x; intro _; rotate_right; subst x)
    | (extract_lets +onlyGivenNames x; clear_value x)
    | with_reducible exact Follows.refl _ _

theorem digCtxSelect_follows {seat value : Nat} {U : Nat} {r s : State} (h : Follows U r s) (hU : 1 ||| U = U) :
    Follows U r (digCtxSelect seat value s) := by
  unfold digCtxSelect
  repeat' first
    | with_reducible assumption
    | intro _
    | with_reducible refine wr_follows ?_ (lor_sub (by decide) hU)
    | with_reducible refine wrB_follows ?_ (lor_sub (by decide) hU)
    | split
    | (extract_lets +onlyGivenNames x; refine Follows.cut (x := x) ?_ ?_; rotate_left; clear_value x; intro _; rotate_right; subst x)
    | (extract_lets +onlyGivenNames x; clear_value x)
    | with_reducible exact Follows.refl _ _

theorem digRead_follows {seat w : Nat} {U : Nat} {r s : State} (h : Follows U r s) (hU : 8388609 ||| U = U) :
    Follows U r (digRead seat w s).2 := by
  unfold digRead
  repeat' first
    | with_reducible assumption
    | intro _
    | with_reducible refine setCtx_follows ?_ (lor_sub (by decide) hU)
    | with_reducible refine wrB_follows ?_ (lor_sub (by decide) hU)
    | with_reducible refine bump_follows ?_ (lor_sub (by decide) hU)
    | with_reducible refine Follows.ite ?_ ?_
    | split
    | (extract_lets +onlyGivenNames x; refine Follows.cut (x := x) ?_ ?_; rotate_left; clear_value x; intro _; rotate_right; subst x)
    | (extract_lets +onlyGivenNames x; clear_value x)
    | with_reducible exact Follows.refl _ _

end Sys2Proof.Machine
end

