-- ==== Sys2Proof/Laws/FollowsUpdate.lean ====
section
/-!
SUPPORT. Laws/FollowsUpdate.lean: the operations of Machine/Update.lean keep what `Follows` states.
-/

namespace Sys2Proof.Machine

open Sys2Proof

theorem updShow_follows  {U : Nat} {r s : State} (h : Follows U r s) (hU : 1 ||| U = U) :
    Follows U r (updShow s) := by
  unfold updShow
  repeat' first
    | with_reducible assumption
    | intro _
    | with_reducible refine wr_follows ?_ (lor_sub (by decide) hU)
    | with_reducible refine wrB_follows ?_ (lor_sub (by decide) hU)
    | with_reducible refine Follows.ite ?_ ?_
    | split
    | (extract_lets +onlyGivenNames x; refine Follows.cut (x := x) ?_ ?_; rotate_left; clear_value x; intro _; rotate_right; subst x)
    | (extract_lets +onlyGivenNames x; clear_value x)
    | with_reducible exact Follows.refl _ _

theorem updMod_follows {f : Upd → Upd} {U : Nat} {r s : State} (h : Follows U r s) (hU : 4097 ||| U = U) :
    Follows U r (updMod f s) := by
  unfold updMod
  repeat' first
    | with_reducible assumption
    | intro _
    | with_reducible refine updShow_follows ?_ (lor_sub (by decide) hU)
    | with_reducible exact Follows.set_upd (by assumption) (lor_sub (by decide) hU)
    | (with_reducible refine Follows.set_upd ?_ (lor_sub (by decide) hU); first | with_reducible refine updShow_follows ?_ (lor_sub (by decide) hU) | with_reducible exact Follows.refl _ _)
    | split
    | (extract_lets +onlyGivenNames x; refine Follows.cut (x := x) ?_ ?_; rotate_left; clear_value x; intro _; rotate_right; subst x)
    | (extract_lets +onlyGivenNames x; clear_value x)
    | with_reducible exact Follows.refl _ _

theorem updEvent_follows {ev : Fld} {bit : Nat} {U : Nat} {r s : State} (h : Follows U r s) (hU : 16777537 ||| U = U) :
    Follows U r (updEvent ev bit s) := by
  unfold updEvent
  repeat' first
    | with_reducible assumption
    | intro _
    | with_reducible refine event_follows ?_ (lor_sub (by decide) hU)
    | split
    | with_reducible exact Follows.refl _ _

theorem updRefuse_follows {reason : Nat} {U : Nat} {r s : State} (h : Follows U r s) (hU : 16781633 ||| U = U) :
    Follows U r (updRefuse reason s) := by
  unfold updRefuse
  repeat' first
    | with_reducible assumption
    | intro _
    | with_reducible refine updMod_follows ?_ (lor_sub (by decide) hU)
    | with_reducible refine wr_follows ?_ (lor_sub (by decide) hU)
    | with_reducible refine updEvent_follows ?_ (lor_sub (by decide) hU)
    | split
    | (extract_lets +onlyGivenNames x; refine Follows.cut (x := x) ?_ ?_; rotate_left; clear_value x; intro _; rotate_right; subst x)
    | (extract_lets +onlyGivenNames x; clear_value x)
    | with_reducible exact Follows.refl _ _

theorem updEmpty_follows  {U : Nat} {r s : State} (h : Follows U r s) (hU : 4097 ||| U = U) :
    Follows U r (updEmpty s) := by
  unfold updEmpty
  repeat' first
    | with_reducible assumption
    | intro _
    | with_reducible refine updMod_follows ?_ (lor_sub (by decide) hU)
    | with_reducible refine wr_follows ?_ (lor_sub (by decide) hU)
    | split
    | with_reducible exact Follows.refl _ _

theorem pieceAck_follows {p : PieceMsg} {status : Nat} {U : Nat} {r s : State} (h : Follows U r s) (hU : 16777217 ||| U = U) :
    Follows U r (pieceAck p status s) := by
  unfold pieceAck
  repeat' first
    | with_reducible assumption
    | intro _
    | with_reducible refine mctpSend_follows ?_ (lor_sub (by decide) hU)
    | split
    | with_reducible exact Follows.refl _ _

theorem pieceTake_follows {p : PieceMsg} {U : Nat} {r s : State} (h : Follows U r s) (hU : 16781313 ||| U = U) :
    Follows U r (pieceTake p s) := by
  unfold pieceTake
  repeat' first
    | with_reducible assumption
    | intro _
    | with_reducible refine pieceAck_follows ?_ (lor_sub (by decide) hU)
    | with_reducible refine bump_follows ?_ (lor_sub (by decide) hU)
    | with_reducible refine updMod_follows ?_ (lor_sub (by decide) hU)
    | with_reducible refine Follows.ite ?_ ?_
    | with_reducible exact Follows.set_upd (by assumption) (lor_sub (by decide) hU)
    | (with_reducible refine Follows.set_upd ?_ (lor_sub (by decide) hU); first | with_reducible refine pieceAck_follows ?_ (lor_sub (by decide) hU) | with_reducible refine bump_follows ?_ (lor_sub (by decide) hU) | with_reducible refine updMod_follows ?_ (lor_sub (by decide) hU) | with_reducible refine Follows.ite ?_ ?_ | with_reducible exact Follows.refl _ _)
    | split
    | (extract_lets +onlyGivenNames x; refine Follows.cut (x := x) ?_ ?_; rotate_left; clear_value x; intro _; rotate_right; subst x)
    | (extract_lets +onlyGivenNames x; clear_value x)
    | with_reducible exact Follows.refl _ _

theorem updUnschedule_follows  {U : Nat} {r s : State} (h : Follows U r s) (hU : 4097 ||| U = U) :
    Follows U r (updUnschedule s) := by
  unfold updUnschedule
  repeat' first
    | with_reducible assumption
    | intro _
    | with_reducible refine updMod_follows ?_ (lor_sub (by decide) hU)
    | with_reducible refine Follows.ite ?_ ?_
    | split
    | (extract_lets +onlyGivenNames x; refine Follows.cut (x := x) ?_ ?_; rotate_left; clear_value x; intro _; rotate_right; subst x)
    | (extract_lets +onlyGivenNames x; clear_value x)
    | with_reducible exact Follows.refl _ _

theorem updTold_follows {t : Nat} {cancel : Bool} {U : Nat} {r s : State} (h : Follows U r s) (hU : 4097 ||| U = U) :
    Follows U r (updTold t cancel s) := by
  unfold updTold
  repeat' first
    | with_reducible assumption
    | intro _
    | with_reducible refine updUnschedule_follows ?_ (lor_sub (by decide) hU)
    | with_reducible refine updMod_follows ?_ (lor_sub (by decide) hU)
    | with_reducible refine Follows.ite ?_ ?_
    | split
    | (extract_lets +onlyGivenNames x; refine Follows.cut (x := x) ?_ ?_; rotate_left; clear_value x; intro _; rotate_right; subst x)
    | (extract_lets +onlyGivenNames x; clear_value x)
    | with_reducible exact Follows.refl _ _

theorem updPeerDone_follows {reads minor : Nat} {U : Nat} {r s : State} (h : Follows U r s) (hU : 1052673 ||| U = U) :
    Follows U r (updPeerDone reads minor s) := by
  unfold updPeerDone
  repeat' first
    | with_reducible assumption
    | intro _
    | with_reducible refine updMod_follows ?_ (lor_sub (by decide) hU)
    | with_reducible refine Follows.ite ?_ ?_
    | with_reducible exact Follows.set_pair (by assumption) (lor_sub (by decide) hU)
    | (with_reducible refine Follows.set_pair ?_ (lor_sub (by decide) hU); first | with_reducible refine updMod_follows ?_ (lor_sub (by decide) hU) | with_reducible refine Follows.ite ?_ ?_ | with_reducible exact Follows.refl _ _)
    | split
    | (extract_lets +onlyGivenNames x; refine Follows.cut (x := x) ?_ ?_; rotate_left; clear_value x; intro _; rotate_right; subst x)
    | (extract_lets +onlyGivenNames x; clear_value x)
    | with_reducible exact Follows.refl _ _

theorem actBegin_follows  {U : Nat} {r s : State} (h : Follows U r s) (hU : 16781633 ||| U = U) :
    Follows U r (actBegin s) := by
  unfold actBegin
  repeat' first
    | with_reducible assumption
    | intro _
    | with_reducible refine updMod_follows ?_ (lor_sub (by decide) hU)
    | with_reducible refine updUnschedule_follows ?_ (lor_sub (by decide) hU)
    | with_reducible refine updEvent_follows ?_ (lor_sub (by decide) hU)
    | with_reducible refine Follows.ite ?_ ?_
    | split
    | (extract_lets +onlyGivenNames x; refine Follows.cut (x := x) ?_ ?_; rotate_left; clear_value x; intro _; rotate_right; subst x)
    | (extract_lets +onlyGivenNames x; clear_value x)
    | with_reducible exact Follows.refl _ _

theorem actEnds_follows  {U : Nat} {r s : State} (h : Follows U r s) (hU : 1052673 ||| U = U) :
    Follows U r (actEnds s) := by
  unfold actEnds
  repeat' first
    | with_reducible assumption
    | intro _
    | with_reducible refine pairControl_follows ?_ (lor_sub (by decide) hU)
    | with_reducible refine updMod_follows ?_ (lor_sub (by decide) hU)
    | split
    | (extract_lets +onlyGivenNames x; refine Follows.cut (x := x) ?_ ?_; rotate_left; clear_value x; intro _; rotate_right; subst x)
    | (extract_lets +onlyGivenNames x; clear_value x)
    | with_reducible exact Follows.refl _ _

theorem actAbandon_follows  {U : Nat} {r s : State} (h : Follows U r s) (hU : 17830209 ||| U = U) :
    Follows U r (actAbandon s) := by
  unfold actAbandon
  repeat' first
    | with_reducible assumption
    | intro _
    | with_reducible refine actEnds_follows ?_ (lor_sub (by decide) hU)
    | with_reducible refine updEvent_follows ?_ (lor_sub (by decide) hU)
    | split
    | with_reducible exact Follows.refl _ _

theorem actRollback_follows  {U : Nat} {r s : State} (h : Follows U r s) (hU : 17830753 ||| U = U) :
    Follows U r (actRollback s) := by
  unfold actRollback
  repeat' first
    | with_reducible assumption
    | intro _
    | with_reducible refine when_follows ?_ ?_
    | with_reducible refine coxMoves_follows ?_ (lor_sub (by decide) hU)
    | with_reducible refine wr_follows ?_ (lor_sub (by decide) hU)
    | with_reducible refine actEnds_follows ?_ (lor_sub (by decide) hU)
    | with_reducible refine updEvent_follows ?_ (lor_sub (by decide) hU)
    | with_reducible refine Follows.ite ?_ ?_
    | with_reducible exact Follows.set_boot (by assumption) (lor_sub (by decide) hU)
    | (with_reducible refine Follows.set_boot ?_ (lor_sub (by decide) hU); first | with_reducible refine when_follows ?_ ?_ | with_reducible refine coxMoves_follows ?_ (lor_sub (by decide) hU) | with_reducible refine wr_follows ?_ (lor_sub (by decide) hU) | with_reducible refine actEnds_follows ?_ (lor_sub (by decide) hU) | with_reducible refine updEvent_follows ?_ (lor_sub (by decide) hU) | with_reducible refine Follows.ite ?_ ?_ | with_reducible exact Follows.refl _ _)
    | split
    | (extract_lets +onlyGivenNames x; refine Follows.cut (x := x) ?_ ?_; rotate_left; clear_value x; intro _; rotate_right; subst x)
    | (extract_lets +onlyGivenNames x; clear_value x)
    | with_reducible exact Follows.refl _ _

theorem actComplete_follows  {U : Nat} {r s : State} (h : Follows U r s) (hU : 17830209 ||| U = U) :
    Follows U r (actComplete s) := by
  unfold actComplete
  repeat' first
    | with_reducible assumption
    | intro _
    | with_reducible refine pairControl_follows ?_ (lor_sub (by decide) hU)
    | with_reducible refine updEmpty_follows ?_ (lor_sub (by decide) hU)
    | with_reducible refine updMod_follows ?_ (lor_sub (by decide) hU)
    | with_reducible refine wr_follows ?_ (lor_sub (by decide) hU)
    | with_reducible refine bump_follows ?_ (lor_sub (by decide) hU)
    | with_reducible refine updEvent_follows ?_ (lor_sub (by decide) hU)
    | with_reducible refine Follows.ite ?_ ?_
    | split
    | (extract_lets +onlyGivenNames x; refine Follows.cut (x := x) ?_ ?_; rotate_left; clear_value x; intro _; rotate_right; subst x)
    | (extract_lets +onlyGivenNames x; clear_value x)
    | refine Follows.snd (by assumption) ?_
    | refine Follows.fst (by assumption) ?_
    | dsimp only
    | with_reducible exact Follows.refl _ _

theorem actStep_follows {act : ActProgress} {U : Nat} {r s : State} (h : Follows U r s) (hU : 17830753 ||| U = U) :
    Follows U r (actStep act s) := by
  unfold actStep
  repeat' first
    | with_reducible assumption
    | intro _
    | with_reducible refine updMod_follows ?_ (lor_sub (by decide) hU)
    | with_reducible refine actAbandon_follows ?_ (lor_sub (by decide) hU)
    | with_reducible refine actRollback_follows ?_ (lor_sub (by decide) hU)
    | with_reducible refine mbxEvent_follows ?_ (lor_sub (by decide) hU)
    | with_reducible refine actComplete_follows ?_ (lor_sub (by decide) hU)
    | with_reducible refine when_follows ?_ ?_
    | with_reducible refine coxMoves_follows ?_ (lor_sub (by decide) hU)
    | with_reducible refine wr_follows ?_ (lor_sub (by decide) hU)
    | with_reducible refine Follows.ite ?_ ?_
    | with_reducible exact Follows.set_boot (by assumption) (lor_sub (by decide) hU)
    | (with_reducible refine Follows.set_boot ?_ (lor_sub (by decide) hU); first | with_reducible refine updMod_follows ?_ (lor_sub (by decide) hU) | with_reducible refine actAbandon_follows ?_ (lor_sub (by decide) hU) | with_reducible refine actRollback_follows ?_ (lor_sub (by decide) hU) | with_reducible refine mbxEvent_follows ?_ (lor_sub (by decide) hU) | with_reducible refine actComplete_follows ?_ (lor_sub (by decide) hU) | with_reducible refine when_follows ?_ ?_ | with_reducible refine coxMoves_follows ?_ (lor_sub (by decide) hU) | with_reducible refine wr_follows ?_ (lor_sub (by decide) hU) | with_reducible refine Follows.ite ?_ ?_ | with_reducible exact Follows.refl _ _)
    | split
    | (extract_lets +onlyGivenNames x; refine Follows.cut (x := x) ?_ ?_; rotate_left; clear_value x; intro _; rotate_right; subst x)
    | (extract_lets +onlyGivenNames x; clear_value x)
    | with_reducible exact Follows.refl _ _

theorem updEdge_follows {act : ActProgress} {U : Nat} {r s : State} (h : Follows U r s) (hU : 17838945 ||| U = U) :
    Follows U r (updEdge act s) := by
  unfold updEdge
  repeat' first
    | with_reducible assumption
    | intro _
    | with_reducible refine actBegin_follows ?_ (lor_sub (by decide) hU)
    | with_reducible refine updMod_follows ?_ (lor_sub (by decide) hU)
    | with_reducible refine actStep_follows ?_ (lor_sub (by decide) hU)
    | with_reducible refine heldServe_follows ?_ (lor_sub (by decide) hU)
    | with_reducible refine Follows.ite ?_ ?_
    | split
    | (extract_lets +onlyGivenNames x; refine Follows.cut (x := x) ?_ ?_; rotate_left; clear_value x; intro _; rotate_right; subst x)
    | (extract_lets +onlyGivenNames x; clear_value x)
    | with_reducible exact Follows.refl _ _

theorem bridgesShow_follows  {U : Nat} {r s : State} (h : Follows U r s) (hU : 16777537 ||| U = U) :
    Follows U r (bridgesShow s) := by
  unfold bridgesShow
  repeat' first
    | with_reducible assumption
    | intro _
    | with_reducible refine wr_follows ?_ (lor_sub (by decide) hU)
    | with_reducible refine when_follows ?_ ?_
    | with_reducible refine updEvent_follows ?_ (lor_sub (by decide) hU)
    | with_reducible refine Follows.ite ?_ ?_
    | split
    | (extract_lets +onlyGivenNames x; refine Follows.cut (x := x) ?_ ?_; rotate_left; clear_value x; intro _; rotate_right; subst x)
    | (extract_lets +onlyGivenNames x; clear_value x)
    | with_reducible exact Follows.refl _ _

end Sys2Proof.Machine
end

