-- ==== Sys2Proof/Laws/FollowsNamespaces.lean ====
section
/-!
SUPPORT. Laws/FollowsNamespaces.lean: the operations of Machine/Namespaces.lean keep what `Follows` states.
-/

namespace Sys2Proof.Machine

open Sys2Proof

theorem onNs_follows {nsid : Nat} {f : Ns → State → Sts × Nat × List Nat × State} {U : Nat} {r s : State} (h : Follows U r s) (hf : ∀ x0 x1, Follows U r x1 → Follows U r ((f x0 x1).2.2.2)) :
    Follows U r (onNs nsid f s).2.2.2 := by
  unfold onNs
  repeat' first
    | with_reducible assumption
    | intro _
    | with_reducible refine refuse_follows ?_
    | with_reducible refine Follows.ite ?_ ?_
    | refine hf _ _ ?_
    | split
    | refine Follows.snd (by assumption) ?_
    | refine Follows.fst (by assumption) ?_
    | dsimp only
    | with_reducible exact Follows.refl _ _

theorem subsysStore_follows {sub : Nat} {x : Subsys} {U : Nat} {r s : State} (h : Follows U r s) (hU : 1064961 ||| U = U) :
    Follows U r (subsysStore sub x s) := by
  unfold subsysStore
  repeat' first
    | with_reducible assumption
    | intro _
    | with_reducible refine objectTell_follows ?_ (lor_sub (by decide) hU)
    | with_reducible exact Follows.set_nv (by assumption) (lor_sub (by decide) hU)
    | (with_reducible refine Follows.set_nv ?_ (lor_sub (by decide) hU); first | with_reducible refine objectTell_follows ?_ (lor_sub (by decide) hU) | with_reducible exact Follows.refl _ _)
    | split
    | (extract_lets +onlyGivenNames x; refine Follows.cut (x := x) ?_ ?_; rotate_left; clear_value x; intro _; rotate_right; subst x)
    | (extract_lets +onlyGivenNames x; clear_value x)
    | with_reducible exact Follows.refl _ _

theorem tenantStore_follows {t : Nat} {x : Tenant} {U : Nat} {r s : State} (h : Follows U r s) (hU : 1064961 ||| U = U) :
    Follows U r (tenantStore t x s) := by
  unfold tenantStore
  repeat' first
    | with_reducible assumption
    | intro _
    | with_reducible refine objectTell_follows ?_ (lor_sub (by decide) hU)
    | with_reducible exact Follows.set_nv (by assumption) (lor_sub (by decide) hU)
    | (with_reducible refine Follows.set_nv ?_ (lor_sub (by decide) hU); first | with_reducible refine objectTell_follows ?_ (lor_sub (by decide) hU) | with_reducible exact Follows.refl _ _)
    | split
    | (extract_lets +onlyGivenNames x; refine Follows.cut (x := x) ?_ ?_; rotate_left; clear_value x; intro _; rotate_right; subst x)
    | (extract_lets +onlyGivenNames x; clear_value x)
    | with_reducible exact Follows.refl _ _

theorem entriesRelease_follows {nsid : Nat} {U : Nat} {r s : State} (h : Follows U r s) (hU : 98305 ||| U = U) :
    Follows U r (entriesRelease nsid s) := by
  unfold entriesRelease
  repeat' first
    | with_reducible assumption
    | intro _
    | with_reducible refine foldS_follows ?_ ?_
    | with_reducible refine commitEnt_follows ?_ (lor_sub (by decide) hU)
    | with_reducible refine dlogAdd_follows ?_ (lor_sub (by decide) hU)
    | with_reducible refine Follows.ite ?_ ?_
    | with_reducible exact Follows.set_map (by assumption) (lor_sub (by decide) hU)
    | (with_reducible refine Follows.set_map ?_ (lor_sub (by decide) hU); first | with_reducible refine foldS_follows ?_ ?_ | with_reducible refine commitEnt_follows ?_ (lor_sub (by decide) hU) | with_reducible refine dlogAdd_follows ?_ (lor_sub (by decide) hU) | with_reducible refine Follows.ite ?_ ?_ | with_reducible exact Follows.refl _ _)
    | split
    | (extract_lets +onlyGivenNames x; refine Follows.cut (x := x) ?_ ?_; rotate_left; clear_value x; intro _; rotate_right; subst x)
    | (extract_lets +onlyGivenNames x; clear_value x)
    | refine Follows.snd (by assumption) ?_
    | refine Follows.fst (by assumption) ?_
    | dsimp only
    | with_reducible exact Follows.refl _ _

theorem imageRelease_follows {id : Nat} {U : Nat} {r s : State} (h : Follows U r s) (hU : 4292609 ||| U = U) :
    Follows U r (imageRelease id s) := by
  unfold imageRelease
  repeat' first
    | with_reducible assumption
    | intro _
    | with_reducible refine snapDrop_follows ?_ (lor_sub (by decide) hU)
    | with_reducible refine foldS_follows ?_ ?_
    | with_reducible refine releasePage_follows ?_ (lor_sub (by decide) hU)
    | with_reducible refine ownerDone_follows ?_ (lor_sub (by decide) hU)
    | split
    | (extract_lets +onlyGivenNames x; refine Follows.cut (x := x) ?_ ?_; rotate_left; clear_value x; intro _; rotate_right; subst x)
    | (extract_lets +onlyGivenNames x; clear_value x)
    | with_reducible exact Follows.refl _ _

theorem discardStart_follows {slot target : Nat} {tenant : Bool} {U : Nat} {r s : State} (h : Follows U r s) (hU : 22910225 ||| U = U) :
    Follows U r (discardStart slot target tenant s) := by
  unfold discardStart
  repeat' first
    | with_reducible assumption
    | intro _
    | with_reducible refine foldS_follows ?_ ?_
    | with_reducible refine entriesRelease_follows ?_ (lor_sub (by decide) hU)
    | with_reducible refine imageRelease_follows ?_ (lor_sub (by decide) hU)
    | with_reducible refine rowClose_follows ?_ (lor_sub (by decide) hU)
    | with_reducible refine rowMod_follows ?_ (lor_sub (by decide) hU)
    | with_reducible refine foldl_follows ?_ ?_
    | with_reducible refine Follows.ite ?_ ?_
    | with_reducible exact Follows.set_pwr_map (by assumption) (lor_sub (by decide) hU)
    | (with_reducible refine Follows.set_pwr_map ?_ (lor_sub (by decide) hU); first | with_reducible refine foldS_follows ?_ ?_ | with_reducible refine entriesRelease_follows ?_ (lor_sub (by decide) hU) | with_reducible refine imageRelease_follows ?_ (lor_sub (by decide) hU) | with_reducible refine rowClose_follows ?_ (lor_sub (by decide) hU) | with_reducible refine rowMod_follows ?_ (lor_sub (by decide) hU) | with_reducible refine foldl_follows ?_ ?_ | with_reducible refine Follows.ite ?_ ?_ | with_reducible exact Follows.refl _ _)
    | split
    | (extract_lets +onlyGivenNames x; refine Follows.cut (x := x) ?_ ?_; rotate_left; clear_value x; intro _; rotate_right; subst x)
    | (extract_lets +onlyGivenNames x; clear_value x)
    | refine Follows.snd (by assumption) ?_
    | refine Follows.fst (by assumption) ?_
    | dsimp only
    | with_reducible exact Follows.refl _ _

theorem discardRun_follows {slot target : Nat} {tenant ok : Bool} {U : Nat} {r s : State} (h : Follows U r s) (hU : 22910225 ||| U = U) :
    Follows U r (discardRun slot target tenant ok s).2 := by
  unfold discardRun
  repeat' first
    | with_reducible assumption
    | intro _
    | with_reducible refine discardStart_follows ?_ (lor_sub (by decide) hU)
    | with_reducible refine Follows.ite ?_ ?_
    | split
    | with_reducible exact Follows.refl _ _

theorem discardAbort_follows  {U : Nat} {r s : State} (h : Follows U r s) (hU : 327680 ||| U = U) :
    Follows U r (discardAbort s) := by
  unfold discardAbort
  repeat' first
    | with_reducible assumption
    | intro _
    | with_reducible refine foldS_follows ?_ ?_
    | with_reducible refine rowMod_follows ?_ (lor_sub (by decide) hU)
    | with_reducible exact Follows.set_map (by assumption) (lor_sub (by decide) hU)
    | (with_reducible refine Follows.set_map ?_ (lor_sub (by decide) hU); first | with_reducible refine foldS_follows ?_ ?_ | with_reducible refine rowMod_follows ?_ (lor_sub (by decide) hU) | with_reducible exact Follows.refl _ _)
    | split
    | (extract_lets +onlyGivenNames x; refine Follows.cut (x := x) ?_ ?_; rotate_left; clear_value x; intro _; rotate_right; subst x)
    | (extract_lets +onlyGivenNames x; clear_value x)
    | with_reducible exact Follows.refl _ _

end Sys2Proof.Machine
end

