-- ==== Sys2Proof/Laws/FollowsPair.lean ====
section
/-!
SUPPORT. Laws/FollowsPair.lean: the operations of Machine/Pair.lean keep what `Follows` states.
-/

namespace Sys2Proof.Machine

open Sys2Proof

theorem loadAcked_follows {l : PairLoad} {U : Nat} {r s : State} (h : Follows U r s) (hU : 29360577 ||| U = U) :
    Follows U r (loadAcked l s) := by
  unfold loadAcked
  repeat' first
    | with_reducible assumption
    | intro _
    | with_reducible refine snapConfirm_follows ?_ (lor_sub (by decide) hU)
    | with_reducible refine eraseAcked_follows ?_ (lor_sub (by decide) hU)
    | split
    | with_reducible exact Follows.refl _ _

theorem headerTake_follows {seat : Nat} {f : PHdr} {U : Nat} {r s : State} (h : Follows U r s) (hU : 30925265 ||| U = U) :
    Follows U r (headerTake seat f s).2 := by
  unfold headerTake
  dsimp only
  repeat' first
    | with_reducible assumption
    | intro _
    | with_reducible refine rxOpen_follows ?_ (lor_sub (by decide) hU)
    | with_reducible refine ackTake_follows ?_ (lor_sub (by decide) hU)
    | with_reducible refine foldS_follows ?_ ?_
    | with_reducible refine loadAcked_follows ?_ (lor_sub (by decide) hU)
    | with_reducible refine Follows.ite ?_ ?_
    | split
    | refine Follows.snd (by assumption) ?_
    | refine Follows.fst (by assumption) ?_
    | dsimp only
    | with_reducible exact Follows.refl _ _

theorem streamTake_follows {seat : Nat} {f : PHdr} {body : State → State} {U : Nat} {r s : State} (h : Follows U r s) (hbody : ∀ x0, Follows U r x0 → Follows U r (body x0)) (hU : 30925265 ||| U = U) :
    Follows U r (streamTake seat f body s) := by
  unfold streamTake
  repeat' first
    | with_reducible assumption
    | intro _
    | with_reducible refine live_follows ?_ ?_
    | with_reducible refine headerTake_follows ?_ (lor_sub (by decide) hU)
    | with_reducible refine seqTake_follows ?_ (lor_sub (by decide) hU)
    | with_reducible refine Follows.ite ?_ ?_
    | refine hbody _ ?_
    | split
    | (extract_lets +onlyGivenNames x; refine Follows.cut (x := x) ?_ ?_; rotate_left; clear_value x; intro _; rotate_right; subst x)
    | (extract_lets +onlyGivenNames x; clear_value x)
    | refine Follows.snd (by assumption) ?_
    | refine Follows.fst (by assumption) ?_
    | dsimp only
    | with_reducible exact Follows.refl _ _

theorem ctlTake_follows {seat : Nat} {c : Ctl} {U : Nat} {r s : State} (h : Follows U r s) (hU : 31453649 ||| U = U) :
    Follows U r (ctlTake seat c s) := by
  unfold ctlTake
  repeat' first
    | with_reducible assumption
    | intro _
    | with_reducible refine ownTake_follows ?_ (lor_sub (by decide) hU)
    | with_reducible refine noticeTake_follows ?_ (lor_sub (by decide) hU)
    | with_reducible refine failbackTake_follows ?_ (lor_sub (by decide) hU)
    | with_reducible refine failbackOut_follows ?_ (lor_sub (by decide) hU)
    | with_reducible refine failbackIn_follows ?_ (lor_sub (by decide) hU)
    | with_reducible refine objectTake_follows ?_ (lor_sub (by decide) hU)
    | with_reducible refine laneMod_follows ?_ (lor_sub (by decide) hU)
    | with_reducible refine pairEnqueue_follows ?_ (lor_sub (by decide) hU)
    | with_reducible refine wr_follows ?_ (lor_sub (by decide) hU)
    | with_reducible refine snapTold_follows ?_ (lor_sub (by decide) hU)
    | with_reducible refine eraseTold_follows ?_ (lor_sub (by decide) hU)
    | with_reducible refine rollTold_follows ?_ (lor_sub (by decide) hU)
    | with_reducible refine updTold_follows ?_ (lor_sub (by decide) hU)
    | with_reducible refine updPeerDone_follows ?_ (lor_sub (by decide) hU)
    | with_reducible refine Follows.ite ?_ ?_
    | with_reducible exact Follows.set_pair (by assumption) (lor_sub (by decide) hU)
    | (with_reducible refine Follows.set_pair ?_ (lor_sub (by decide) hU); first | with_reducible refine ownTake_follows ?_ (lor_sub (by decide) hU) | with_reducible refine noticeTake_follows ?_ (lor_sub (by decide) hU) | with_reducible refine failbackTake_follows ?_ (lor_sub (by decide) hU) | with_reducible refine failbackOut_follows ?_ (lor_sub (by decide) hU) | with_reducible refine failbackIn_follows ?_ (lor_sub (by decide) hU) | with_reducible refine objectTake_follows ?_ (lor_sub (by decide) hU) | with_reducible refine laneMod_follows ?_ (lor_sub (by decide) hU) | with_reducible refine pairEnqueue_follows ?_ (lor_sub (by decide) hU) | with_reducible refine wr_follows ?_ (lor_sub (by decide) hU) | with_reducible refine snapTold_follows ?_ (lor_sub (by decide) hU) | with_reducible refine eraseTold_follows ?_ (lor_sub (by decide) hU) | with_reducible refine rollTold_follows ?_ (lor_sub (by decide) hU) | with_reducible refine updTold_follows ?_ (lor_sub (by decide) hU) | with_reducible refine updPeerDone_follows ?_ (lor_sub (by decide) hU) | with_reducible refine Follows.ite ?_ ?_ | with_reducible exact Follows.refl _ _)
    | split
    | (extract_lets +onlyGivenNames x; refine Follows.cut (x := x) ?_ ?_; rotate_left; clear_value x; intro _; rotate_right; subst x)
    | (extract_lets +onlyGivenNames x; clear_value x)
    | with_reducible exact Follows.refl _ _

theorem bulkOwn_follows {seat : Nat} {recs : List Delta} {U : Nat} {r s : State} (h : Follows U r s) (hU : 18714961 ||| U = U) :
    Follows U r (bulkOwn seat recs s) := by
  unfold bulkOwn
  repeat' first
    | with_reducible assumption
    | intro _
    | with_reducible refine foldS_follows ?_ ?_
    | with_reducible refine deltaReplay_follows ?_ (lor_sub (by decide) hU)
    | with_reducible refine rowReplay_follows ?_ (lor_sub (by decide) hU)
    | with_reducible refine rowMod_follows ?_ (lor_sub (by decide) hU)
    | with_reducible refine rowRewrite_follows ?_ (lor_sub (by decide) hU)
    | with_reducible refine Follows.ite ?_ ?_
    | with_reducible exact Follows.set_par (by assumption) (lor_sub (by decide) hU)
    | (with_reducible refine Follows.set_par ?_ (lor_sub (by decide) hU); first | with_reducible refine foldS_follows ?_ ?_ | with_reducible refine deltaReplay_follows ?_ (lor_sub (by decide) hU) | with_reducible refine rowReplay_follows ?_ (lor_sub (by decide) hU) | with_reducible refine rowMod_follows ?_ (lor_sub (by decide) hU) | with_reducible refine rowRewrite_follows ?_ (lor_sub (by decide) hU) | with_reducible refine Follows.ite ?_ ?_ | with_reducible exact Follows.refl _ _)
    | split
    | (extract_lets +onlyGivenNames x; refine Follows.cut (x := x) ?_ ?_; rotate_left; clear_value x; intro _; rotate_right; subst x)
    | (extract_lets +onlyGivenNames x; clear_value x)
    | with_reducible exact Follows.refl _ _

theorem fencesGoOn_follows {epoch : Nat} {log : List (Nat × List Delta)} {U : Nat} {r s : State} (h : Follows U r s) (hU : 22933841 ||| U = U) :
    Follows U r (fencesGoOn epoch log s) := by
  unfold fencesGoOn
  repeat' first
    | with_reducible assumption
    | intro _
    | with_reducible refine takeDone_follows ?_ (lor_sub (by decide) hU)
    | with_reducible refine failbackFenced_follows ?_ (lor_sub (by decide) hU)
    | split
    | with_reducible exact Follows.refl _ _

theorem windowsDue_follows  {U : Nat} {r s : State} (h : Follows U r s) (hU : 1048577 ||| U = U) :
    Follows U r (windowsDue s) := by
  unfold windowsDue
  repeat' first
    | with_reducible assumption
    | intro _
    | with_reducible refine wr_follows ?_ (lor_sub (by decide) hU)
    | with_reducible refine Follows.ite ?_ ?_
    | with_reducible exact Follows.set_pair (by assumption) (lor_sub (by decide) hU)
    | (with_reducible refine Follows.set_pair ?_ (lor_sub (by decide) hU); first | with_reducible refine wr_follows ?_ (lor_sub (by decide) hU) | with_reducible refine Follows.ite ?_ ?_ | with_reducible exact Follows.refl _ _)
    | split
    | (extract_lets +onlyGivenNames x; refine Follows.cut (x := x) ?_ ?_; rotate_left; clear_value x; intro _; rotate_right; subst x)
    | (extract_lets +onlyGivenNames x; clear_value x)
    | with_reducible exact Follows.refl _ _

end Sys2Proof.Machine
end

