-- ==== Sys2Proof/Laws/FollowsMailbox.lean ====
section
/-!
SUPPORT. Laws/FollowsMailbox.lean: the operations of Machine/Mailbox.lean keep what `Follows` states.
-/

namespace Sys2Proof.Machine

open Sys2Proof

theorem mbxAbort_follows {slot : Nat} {U : Nat} {r s : State} (h : Follows U r s) (hU : 17138113 ||| U = U) :
    Follows U r (mbxAbort slot s) := by
  unfold mbxAbort
  repeat' first
    | with_reducible assumption
    | intro _
    | with_reducible refine mbxComplete_follows ?_ (lor_sub (by decide) hU)
    | with_reducible refine when_follows ?_ ?_
    | with_reducible refine discardAbort_follows ?_ (lor_sub (by decide) hU)
    | with_reducible refine Follows.ite ?_ ?_
    | with_reducible exact Follows.set_ing (by assumption) (lor_sub (by decide) hU)
    | (with_reducible refine Follows.set_ing ?_ (lor_sub (by decide) hU); first | with_reducible refine mbxComplete_follows ?_ (lor_sub (by decide) hU) | with_reducible refine when_follows ?_ ?_ | with_reducible refine discardAbort_follows ?_ (lor_sub (by decide) hU) | with_reducible refine Follows.ite ?_ ?_ | with_reducible exact Follows.refl _ _)
    | split
    | (extract_lets +onlyGivenNames x; refine Follows.cut (x := x) ?_ ?_; rotate_left; clear_value x; intro _; rotate_right; subst x)
    | (extract_lets +onlyGivenNames x; clear_value x)
    | with_reducible exact Follows.refl _ _

theorem paramApply_follows {o : EasyObj} {id v : Nat} {U : Nat} {r s : State} (h : Follows U r s) (hU : 278657 ||| U = U) :
    Follows U r (paramApply o id v s) := by
  unfold paramApply
  repeat' first
    | with_reducible assumption
    | intro _
    | with_reducible refine wr_follows ?_ (lor_sub (by decide) hU)
    | with_reducible refine pinsWake_follows ?_ (lor_sub (by decide) hU)
    | with_reducible refine groupMod_follows ?_ (lor_sub (by decide) hU)
    | with_reducible refine when_follows ?_ ?_
    | with_reducible refine linksUp_follows ?_ (lor_sub (by decide) hU)
    | with_reducible exact Follows.set_mbx (by assumption) (lor_sub (by decide) hU)
    | (with_reducible refine Follows.set_mbx ?_ (lor_sub (by decide) hU); first | with_reducible refine wr_follows ?_ (lor_sub (by decide) hU) | with_reducible refine pinsWake_follows ?_ (lor_sub (by decide) hU) | with_reducible refine groupMod_follows ?_ (lor_sub (by decide) hU) | with_reducible refine when_follows ?_ ?_ | with_reducible refine linksUp_follows ?_ (lor_sub (by decide) hU) | with_reducible exact Follows.refl _ _)
    | with_reducible exact Follows.set_nv (by assumption) (lor_sub (by decide) hU)
    | (with_reducible refine Follows.set_nv ?_ (lor_sub (by decide) hU); first | with_reducible refine wr_follows ?_ (lor_sub (by decide) hU) | with_reducible refine pinsWake_follows ?_ (lor_sub (by decide) hU) | with_reducible refine groupMod_follows ?_ (lor_sub (by decide) hU) | with_reducible refine when_follows ?_ ?_ | with_reducible refine linksUp_follows ?_ (lor_sub (by decide) hU) | with_reducible exact Follows.refl _ _)
    | split
    | (extract_lets +onlyGivenNames x; refine Follows.cut (x := x) ?_ ?_; rotate_left; clear_value x; intro _; rotate_right; subst x)
    | (extract_lets +onlyGivenNames x; clear_value x)
    | with_reducible exact Follows.refl _ _

theorem settingsTell_follows {o : EasyObj} {U : Nat} {r s : State} (h : Follows U r s) (hU : 1048577 ||| U = U) :
    Follows U r (settingsTell o s) := by
  unfold settingsTell
  repeat' first
    | with_reducible assumption
    | intro _
    | with_reducible refine objectTell_follows ?_ (lor_sub (by decide) hU)
    | split
    | with_reducible exact Follows.refl _ _

theorem paramsEdge_follows  {U : Nat} {r s : State} (h : Follows U r s) (hU : 1327233 ||| U = U) :
    Follows U r (paramsEdge s) := by
  unfold paramsEdge
  repeat' first
    | with_reducible assumption
    | intro _
    | with_reducible refine foldS_follows ?_ ?_
    | with_reducible refine paramApply_follows ?_ (lor_sub (by decide) hU)
    | with_reducible refine when_follows ?_ ?_
    | with_reducible refine settingsTell_follows ?_ (lor_sub (by decide) hU)
    | with_reducible exact Follows.set_mbx (by assumption) (lor_sub (by decide) hU)
    | (with_reducible refine Follows.set_mbx ?_ (lor_sub (by decide) hU); first | with_reducible refine foldS_follows ?_ ?_ | with_reducible refine paramApply_follows ?_ (lor_sub (by decide) hU) | with_reducible refine when_follows ?_ ?_ | with_reducible refine settingsTell_follows ?_ (lor_sub (by decide) hU) | with_reducible exact Follows.refl _ _)
    | split
    | (extract_lets +onlyGivenNames x; refine Follows.cut (x := x) ?_ ?_; rotate_left; clear_value x; intro _; rotate_right; subst x)
    | (extract_lets +onlyGivenNames x; clear_value x)
    | refine Follows.snd (by assumption) ?_
    | refine Follows.fst (by assumption) ?_
    | dsimp only
    | with_reducible exact Follows.refl _ _

theorem easyMod_follows {o : EasyObj} {f : EasyAll → EasyAll} {U : Nat} {r s : State} (h : Follows U r s) (hU : 128 ||| U = U) :
    Follows U r (easyMod o f s) := by
  unfold easyMod
  repeat' first
    | with_reducible assumption
    | intro _
    | with_reducible exact Follows.set_mbx (by assumption) (lor_sub (by decide) hU)
    | (with_reducible refine Follows.set_mbx ?_ (lor_sub (by decide) hU); first | with_reducible exact Follows.refl _ _)
    | split
    | (extract_lets +onlyGivenNames x; refine Follows.cut (x := x) ?_ ?_; rotate_left; clear_value x; intro _; rotate_right; subst x)
    | (extract_lets +onlyGivenNames x; clear_value x)
    | with_reducible exact Follows.refl _ _

theorem easyInstall_follows {adm : Admission} {l : List Nat} {U : Nat} {r s : State} (h : Follows U r s) (hU : 16385 ||| U = U) :
    Follows U r (easyInstall adm l s) := by
  unfold easyInstall
  repeat' first
    | with_reducible assumption
    | intro _
    | with_reducible refine foldS_follows ?_ ?_
    | with_reducible refine stInstall_follows ?_ (lor_sub (by decide) hU)
    | split
    | (extract_lets +onlyGivenNames x; refine Follows.cut (x := x) ?_ ?_; rotate_left; clear_value x; intro _; rotate_right; subst x)
    | (extract_lets +onlyGivenNames x; clear_value x)
    | refine Follows.snd (by assumption) ?_
    | refine Follows.fst (by assumption) ?_
    | dsimp only
    | with_reducible exact Follows.refl _ _

theorem onEasy_follows {slot opc : Nat} {o : EasyObj} {body : EasyAll → State → Option (Sts × Nat × List Nat) × State} {U : Nat} {r s : State} (h : Follows U r s) (hbody : ∀ x0 x1, Follows U r x1 → Follows U r ((body x0 x1).2)) (hU : 16777665 ||| U = U) :
    Follows U r (onEasy slot opc o body s) := by
  unfold onEasy
  repeat' first
    | with_reducible assumption
    | intro _
    | with_reducible refine mbxRun_follows ?_ ?_ (lor_sub (by decide) hU)
    | with_reducible refine refuse_follows ?_
    | with_reducible refine mbxBegin_follows ?_ ?_ (lor_sub (by decide) hU)
    | with_reducible refine Follows.ite ?_ ?_
    | refine hbody _ _ ?_
    | split
    | refine Follows.snd (by assumption) ?_
    | refine Follows.fst (by assumption) ?_
    | dsimp only
    | with_reducible exact Follows.refl _ _

theorem easyRelease_follows {o : EasyObj} {U : Nat} {r s : State} (h : Follows U r s) (hU : 2113665 ||| U = U) :
    Follows U r (easyRelease o s) := by
  unfold easyRelease
  repeat' first
    | with_reducible assumption
    | intro _
    | with_reducible refine easyInstall_follows ?_ (lor_sub (by decide) hU)
    | with_reducible refine when_follows ?_ ?_
    | with_reducible refine wr_follows ?_ (lor_sub (by decide) hU)
    | with_reducible refine setRate_follows ?_ (lor_sub (by decide) hU)
    | with_reducible exact Follows.set_mbx (by assumption) (lor_sub (by decide) hU)
    | (with_reducible refine Follows.set_mbx ?_ (lor_sub (by decide) hU); first | with_reducible refine easyInstall_follows ?_ (lor_sub (by decide) hU) | with_reducible refine when_follows ?_ ?_ | with_reducible refine wr_follows ?_ (lor_sub (by decide) hU) | with_reducible refine setRate_follows ?_ (lor_sub (by decide) hU) | with_reducible exact Follows.refl _ _)
    | split
    | (extract_lets +onlyGivenNames x; refine Follows.cut (x := x) ?_ ?_; rotate_left; clear_value x; intro _; rotate_right; subst x)
    | (extract_lets +onlyGivenNames x; clear_value x)
    | with_reducible exact Follows.refl _ _

theorem easyCommit_follows {o : EasyObj} {e : EasyAll} {slot : Nat} {U : Nat} {r s : State} (h : Follows U r s) (hU : 18104769 ||| U = U) :
    Follows U r (easyCommit o e slot s) := by
  unfold easyCommit
  repeat' first
    | with_reducible assumption
    | intro _
    | with_reducible refine foldS_follows ?_ ?_
    | with_reducible refine paramApply_follows ?_ (lor_sub (by decide) hU)
    | with_reducible refine stInstall_follows ?_ (lor_sub (by decide) hU)
    | with_reducible refine when_follows ?_ ?_
    | with_reducible refine wr_follows ?_ (lor_sub (by decide) hU)
    | with_reducible refine settingsTell_follows ?_ (lor_sub (by decide) hU)
    | with_reducible refine mbxComplete_follows ?_ (lor_sub (by decide) hU)
    | with_reducible refine Follows.ite ?_ ?_
    | with_reducible exact Follows.set_mbx (by assumption) (lor_sub (by decide) hU)
    | (with_reducible refine Follows.set_mbx ?_ (lor_sub (by decide) hU); first | with_reducible refine foldS_follows ?_ ?_ | with_reducible refine paramApply_follows ?_ (lor_sub (by decide) hU) | with_reducible refine stInstall_follows ?_ (lor_sub (by decide) hU) | with_reducible refine when_follows ?_ ?_ | with_reducible refine wr_follows ?_ (lor_sub (by decide) hU) | with_reducible refine settingsTell_follows ?_ (lor_sub (by decide) hU) | with_reducible refine mbxComplete_follows ?_ (lor_sub (by decide) hU) | with_reducible refine Follows.ite ?_ ?_ | with_reducible exact Follows.refl _ _)
    | split
    | (extract_lets +onlyGivenNames x; refine Follows.cut (x := x) ?_ ?_; rotate_left; clear_value x; intro _; rotate_right; subst x)
    | (extract_lets +onlyGivenNames x; clear_value x)
    | refine Follows.snd (by assumption) ?_
    | refine Follows.fst (by assumption) ?_
    | dsimp only
    | with_reducible exact Follows.refl _ _

theorem easyEdge_follows  {U : Nat} {r s : State} (h : Follows U r s) (hU : 18104769 ||| U = U) :
    Follows U r (easyEdge s) := by
  unfold easyEdge
  repeat' first
    | with_reducible assumption
    | intro _
    | with_reducible refine foldS_follows ?_ ?_
    | with_reducible refine easyCommit_follows ?_ (lor_sub (by decide) hU)
    | split
    | refine Follows.snd (by assumption) ?_
    | refine Follows.fst (by assumption) ?_
    | dsimp only
    | with_reducible exact Follows.refl _ _

theorem frontEnd_follows {b : Bool} {U : Nat} {r s : State} (h : Follows U r s) (hU : 1 ||| U = U) :
    Follows U r (frontEnd b s) := by
  unfold frontEnd
  repeat' first
    | with_reducible assumption
    | intro _
    | with_reducible refine foldS_follows ?_ ?_
    | with_reducible refine wrB_follows ?_ (lor_sub (by decide) hU)
    | split
    | with_reducible exact Follows.refl _ _

theorem showTriggers_follows {seat : Nat} {U : Nat} {r s : State} (h : Follows U r s) (hU : 1 ||| U = U) :
    Follows U r (showTriggers seat s) := by
  unfold showTriggers
  repeat' first
    | with_reducible assumption
    | intro _
    | with_reducible refine wrB_follows ?_ (lor_sub (by decide) hU)
    | split
    | (extract_lets +onlyGivenNames x; refine Follows.cut (x := x) ?_ ?_; rotate_left; clear_value x; intro _; rotate_right; subst x)
    | (extract_lets +onlyGivenNames x; clear_value x)
    | with_reducible exact Follows.refl _ _

end Sys2Proof.Machine
end

