-- ==== Sys2Proof/Laws/FollowsReset.lean ====
section
/-!
SUPPORT. Laws/FollowsReset.lean: the operations of Machine/Reset.lean keep what `Follows` states.
-/

namespace Sys2Proof.Machine

open Sys2Proof

theorem mailboxesReset_follows  {U : Nat} {r s : State} (h : Follows U r s) (hU : 16777665 ||| U = U) :
    Follows U r (mailboxesReset s) := by
  unfold mailboxesReset
  repeat' first
    | with_reducible assumption
    | intro _
    | with_reducible refine foldS_follows ?_ ?_
    | with_reducible refine mbxBusy_follows ?_ (lor_sub (by decide) hU)
    | with_reducible refine setSlot_follows ?_ (lor_sub (by decide) hU)
    | with_reducible refine when_follows ?_ ?_
    | with_reducible refine mbxComplete_follows ?_ (lor_sub (by decide) hU)
    | with_reducible refine wr_follows ?_ (lor_sub (by decide) hU)
    | with_reducible refine Follows.ite ?_ ?_
    | with_reducible exact Follows.set_mbx (by assumption) (lor_sub (by decide) hU)
    | (with_reducible refine Follows.set_mbx ?_ (lor_sub (by decide) hU); first | with_reducible refine foldS_follows ?_ ?_ | with_reducible refine mbxBusy_follows ?_ (lor_sub (by decide) hU) | with_reducible refine setSlot_follows ?_ (lor_sub (by decide) hU) | with_reducible refine when_follows ?_ ?_ | with_reducible refine mbxComplete_follows ?_ (lor_sub (by decide) hU) | with_reducible refine wr_follows ?_ (lor_sub (by decide) hU) | with_reducible refine Follows.ite ?_ ?_ | with_reducible exact Follows.refl _ _)
    | split
    | (extract_lets +onlyGivenNames x; refine Follows.cut (x := x) ?_ ?_; rotate_left; clear_value x; intro _; rotate_right; subst x)
    | (extract_lets +onlyGivenNames x; clear_value x)
    | with_reducible exact Follows.refl _ _

theorem functionReset_follows {U : Nat} {r s : State} (h : Follows U r s) (hU : 16777667 ||| U = U) : Follows U r (functionReset s) := by
  have hm : Follows U r (mailboxesReset s) := mailboxesReset_follows h (lor_sub (by decide) hU)
  unfold functionReset
  generalize mailboxesReset s = m at hm
  exact ⟨hm.queue, hm.said, hm.drawn, hm.seats, fun x => by dsimp only; exact fkeep_sorted (hm.regs x) _, hm.floors, fun p hp => by
    cases p <;> first | exact hm.frame _ hp | exact absurd (hp.symm.trans (bit_of (by decide) hU)) (by decide)⟩

theorem resetState_follows {power : Bool} {U : Nat} {r s : State} (h : Follows U r s) (hU : 16777215 ||| U = U) : Follows U r (resetState power s) := by
  unfold resetState
  exact ⟨h.queue, h.said, h.drawn, h.seats, fun x => by dsimp only [keptRegs]; exact fkeep_sorted (h.regs x) _, h.floors, fun p hp => by
    cases p <;> first | exact h.frame _ hp | exact absurd (hp.symm.trans (bit_of (by decide) hU)) (by decide)⟩

theorem causeShow_follows {c : ResetCause} {U : Nat} {r s : State} (h : Follows U r s) (hU : 1 ||| U = U) :
    Follows U r (causeShow c s) := by
  unfold causeShow
  repeat' first
    | with_reducible assumption
    | intro _
    | with_reducible refine wrB_follows ?_ (lor_sub (by decide) hU)
    | split
    | with_reducible exact Follows.refl _ _

theorem fullReset_follows {c : ResetCause} {U : Nat} {r s : State} (h : Follows U r s) (hU : 33554431 ||| U = U) :
    Follows U r (fullReset c s) := by
  unfold fullReset
  repeat' first
    | with_reducible assumption
    | intro _
    | with_reducible refine resetState_follows ?_ (lor_sub (by decide) hU)
    | with_reducible refine causeShow_follows ?_ (lor_sub (by decide) hU)
    | with_reducible refine updShow_follows ?_ (lor_sub (by decide) hU)
    | with_reducible refine foldS_follows ?_ ?_
    | with_reducible refine emit_follows ?_ (lor_sub (by decide) hU)
    | split
    | (extract_lets +onlyGivenNames x; refine Follows.cut (x := x) ?_ ?_; rotate_left; clear_value x; intro _; rotate_right; subst x)
    | (extract_lets +onlyGivenNames x; clear_value x)
    | with_reducible exact Follows.refl _ _

end Sys2Proof.Machine
end

