-- ==== Sys2Proof/Laws/FollowsMemory.lean ====
section
/-!
SUPPORT. Laws/FollowsMemory.lean: the operations of Machine/Memory.lean keep what `Follows` states.
-/

namespace Sys2Proof.Machine

open Sys2Proof

theorem drmEvent_follows {seat : Nat} {ev : Nat → Fld} {bit : Nat} {U : Nat} {r s : State} (h : Follows U r s) (hU : 16777537 ||| U = U) :
    Follows U r (drmEvent seat ev bit s) := by
  unfold drmEvent
  repeat' first
    | with_reducible assumption
    | intro _
    | with_reducible refine event_follows ?_ (lor_sub (by decide) hU)
    | split
    | with_reducible exact Follows.refl _ _

theorem chanMod_follows {seat ch : Nat} {f : DramCh → DramCh} {U : Nat} {r s : State} (h : Follows U r s) (hU : 2048 ||| U = U) :
    Follows U r (chanMod seat ch f s) := by
  unfold chanMod
  repeat' first
    | with_reducible assumption
    | intro _
    | with_reducible exact Follows.set_dram (by assumption) (lor_sub (by decide) hU)
    | (with_reducible refine Follows.set_dram ?_ (lor_sub (by decide) hU); first | with_reducible exact Follows.refl _ _)
    | split
    | (extract_lets +onlyGivenNames x; refine Follows.cut (x := x) ?_ ?_; rotate_left; clear_value x; intro _; rotate_right; subst x)
    | (extract_lets +onlyGivenNames x; clear_value x)
    | with_reducible exact Follows.refl _ _

theorem remapShow_follows {seat ch : Nat} {U : Nat} {r s : State} (h : Follows U r s) (hU : 1 ||| U = U) :
    Follows U r (remapShow seat ch s) := by
  unfold remapShow
  repeat' first
    | with_reducible assumption
    | intro _
    | with_reducible refine wr_follows ?_ (lor_sub (by decide) hU)
    | with_reducible refine wrBit_follows ?_ (lor_sub (by decide) hU)
    | split
    | (extract_lets +onlyGivenNames x; refine Follows.cut (x := x) ?_ ?_; rotate_left; clear_value x; intro _; rotate_right; subst x)
    | (extract_lets +onlyGivenNames x; clear_value x)
    | with_reducible exact Follows.refl _ _

theorem channelFails_follows {seat : Nat} {U : Nat} {r s : State} (h : Follows U r s) (hU : 16778049 ||| U = U) :
    Follows U r (channelFails seat s) := by
  unfold channelFails
  repeat' first
    | with_reducible assumption
    | intro _
    | with_reducible refine drmEvent_follows ?_ (lor_sub (by decide) hU)
    | with_reducible refine headHalt_follows ?_ (lor_sub (by decide) hU)
    | split
    | with_reducible exact Follows.refl _ _

theorem remapStart_follows {seat ch line : Nat} {U : Nat} {r s : State} (h : Follows U r s) (hU : 2048 ||| U = U) :
    Follows U r (remapStart seat ch line s) := by
  unfold remapStart
  repeat' first
    | with_reducible assumption
    | intro _
    | with_reducible refine chanMod_follows ?_ (lor_sub (by decide) hU)
    | with_reducible refine Follows.ite ?_ ?_
    | split
    | (extract_lets +onlyGivenNames x; refine Follows.cut (x := x) ?_ ?_; rotate_left; clear_value x; intro _; rotate_right; subst x)
    | (extract_lets +onlyGivenNames x; clear_value x)
    | refine Follows.snd (by assumption) ?_
    | refine Follows.fst (by assumption) ?_
    | dsimp only
    | with_reducible exact Follows.refl _ _

theorem remapDone_follows {seat ch : Nat} {U : Nat} {r s : State} (h : Follows U r s) (hU : 16779585 ||| U = U) :
    Follows U r (remapDone seat ch s) := by
  unfold remapDone
  repeat' first
    | with_reducible assumption
    | intro _
    | with_reducible refine chanMod_follows ?_ (lor_sub (by decide) hU)
    | with_reducible refine ancWrote_follows ?_ (lor_sub (by decide) hU)
    | with_reducible refine remapShow_follows ?_ (lor_sub (by decide) hU)
    | with_reducible refine drmEvent_follows ?_ (lor_sub (by decide) hU)
    | with_reducible refine when_follows ?_ ?_
    | split
    | (extract_lets +onlyGivenNames x; refine Follows.cut (x := x) ?_ ?_; rotate_left; clear_value x; intro _; rotate_right; subst x)
    | (extract_lets +onlyGivenNames x; clear_value x)
    | with_reducible exact Follows.refl _ _

theorem caRetry_follows {seat ch retries : Nat} {ok : Bool} {U : Nat} {r s : State} (h : Follows U r s) (hU : 16778049 ||| U = U) :
    Follows U r (caRetry seat ch retries ok s) := by
  unfold caRetry
  repeat' first
    | with_reducible assumption
    | intro _
    | with_reducible refine faultCount_follows ?_ (lor_sub (by decide) hU)
    | with_reducible refine channelFails_follows ?_ (lor_sub (by decide) hU)
    | with_reducible refine faultClear_follows ?_ (lor_sub (by decide) hU)
    | with_reducible refine bumpN_follows ?_ (lor_sub (by decide) hU)
    | with_reducible refine foldS_follows ?_ ?_
    | with_reducible refine Follows.ite ?_ ?_
    | split
    | (extract_lets +onlyGivenNames x; refine Follows.cut (x := x) ?_ ?_; rotate_left; clear_value x; intro _; rotate_right; subst x)
    | (extract_lets +onlyGivenNames x; clear_value x)
    | refine Follows.snd (by assumption) ?_
    | refine Follows.fst (by assumption) ?_
    | dsimp only
    | with_reducible exact Follows.refl _ _

theorem lineCorrected_follows {h : LineHit} {U : Nat} {r s : State} (hs : Follows U r s) (hU : 16779585 ||| U = U) :
    Follows U r (lineCorrected h s) := by
  unfold lineCorrected
  repeat' first
    | with_reducible assumption
    | intro _
    | with_reducible refine bump_follows ?_ (lor_sub (by decide) hU)
    | with_reducible refine drmEvent_follows ?_ (lor_sub (by decide) hU)
    | with_reducible refine faultCount_follows ?_ (lor_sub (by decide) hU)
    | with_reducible refine wr_follows ?_ (lor_sub (by decide) hU)
    | with_reducible refine faultClear_follows ?_ (lor_sub (by decide) hU)
    | with_reducible refine remapStart_follows ?_ (lor_sub (by decide) hU)
    | with_reducible refine Follows.ite ?_ ?_
    | split
    | (extract_lets +onlyGivenNames x; refine Follows.cut (x := x) ?_ ?_; rotate_left; clear_value x; intro _; rotate_right; subst x)
    | (extract_lets +onlyGivenNames x; clear_value x)
    | refine Follows.snd (by assumption) ?_
    | refine Follows.fst (by assumption) ?_
    | dsimp only
    | with_reducible exact Follows.refl _ _

theorem poisonSent_follows  {U : Nat} {r s : State} (h : Follows U r s) (hU : 16777537 ||| U = U) :
    Follows U r (poisonSent s) := by
  unfold poisonSent
  repeat' first
    | with_reducible assumption
    | intro _
    | with_reducible refine emit_follows ?_ (lor_sub (by decide) hU)
    | with_reducible refine bump_follows ?_ (lor_sub (by decide) hU)
    | with_reducible refine setEvent_follows ?_ (lor_sub (by decide) hU)
    | split
    | with_reducible exact Follows.refl _ _

theorem unitFromFlash_follows {id idx : Nat} {U : Nat} {r s : State} (h : Follows U r s) (hU : 20966145 ||| U = U) :
    Follows U r (unitFromFlash id idx s) := by
  unfold unitFromFlash
  dsimp only
  repeat' first
    | with_reducible assumption
    | intro _
    | with_reducible refine headHalt_follows ?_ (lor_sub (by decide) hU)
    | with_reducible refine unitMod_follows ?_ (lor_sub (by decide) hU)
    | with_reducible refine directRead_follows ?_ (lor_sub (by decide) hU)
    | with_reducible refine unitRebuild_follows ?_ (lor_sub (by decide) hU)
    | with_reducible refine Follows.ite ?_ ?_
    | with_reducible exact Follows.set_dram (by assumption) (lor_sub (by decide) hU)
    | (with_reducible refine Follows.set_dram ?_ (lor_sub (by decide) hU); first | with_reducible refine headHalt_follows ?_ (lor_sub (by decide) hU) | with_reducible refine unitMod_follows ?_ (lor_sub (by decide) hU) | with_reducible refine directRead_follows ?_ (lor_sub (by decide) hU) | with_reducible refine unitRebuild_follows ?_ (lor_sub (by decide) hU) | with_reducible refine Follows.ite ?_ ?_ | with_reducible exact Follows.refl _ _)
    | split
    | with_reducible exact Follows.refl _ _

theorem consumerActs_follows {seat : Nat} {u : DramUser} {U : Nat} {r s : State} (h : Follows U r s) (hU : 20966209 ||| U = U) :
    Follows U r (consumerActs seat u s) := by
  unfold consumerActs
  repeat' first
    | with_reducible assumption
    | intro _
    | with_reducible refine poisonSent_follows ?_ (lor_sub (by decide) hU)
    | with_reducible refine pageEvict_follows ?_ (lor_sub (by decide) hU)
    | with_reducible refine headHalt_follows ?_ (lor_sub (by decide) hU)
    | with_reducible refine unitFromFlash_follows ?_ (lor_sub (by decide) hU)
    | with_reducible refine viewMod_follows ?_ (lor_sub (by decide) hU)
    | with_reducible refine unitFail_follows ?_ (lor_sub (by decide) hU)
    | with_reducible refine ingestError_follows ?_ (lor_sub (by decide) hU)
    | with_reducible refine Follows.ite ?_ ?_
    | with_reducible exact Follows.set_ing (by assumption) (lor_sub (by decide) hU)
    | (with_reducible refine Follows.set_ing ?_ (lor_sub (by decide) hU); first | with_reducible refine poisonSent_follows ?_ (lor_sub (by decide) hU) | with_reducible refine pageEvict_follows ?_ (lor_sub (by decide) hU) | with_reducible refine headHalt_follows ?_ (lor_sub (by decide) hU) | with_reducible refine unitFromFlash_follows ?_ (lor_sub (by decide) hU) | with_reducible refine viewMod_follows ?_ (lor_sub (by decide) hU) | with_reducible refine unitFail_follows ?_ (lor_sub (by decide) hU) | with_reducible refine ingestError_follows ?_ (lor_sub (by decide) hU) | with_reducible refine Follows.ite ?_ ?_ | with_reducible exact Follows.refl _ _)
    | split
    | (extract_lets +onlyGivenNames x; refine Follows.cut (x := x) ?_ ?_; rotate_left; clear_value x; intro _; rotate_right; subst x)
    | (extract_lets +onlyGivenNames x; clear_value x)
    | with_reducible exact Follows.refl _ _

theorem lineUncorrected_follows {h : LineHit} {U : Nat} {r s : State} (hs : Follows U r s) (hU : 20966209 ||| U = U) :
    Follows U r (lineUncorrected h s) := by
  unfold lineUncorrected
  repeat' first
    | with_reducible assumption
    | intro _
    | with_reducible refine bump_follows ?_ (lor_sub (by decide) hU)
    | with_reducible refine drmEvent_follows ?_ (lor_sub (by decide) hU)
    | with_reducible refine faultCount_follows ?_ (lor_sub (by decide) hU)
    | with_reducible refine channelFails_follows ?_ (lor_sub (by decide) hU)
    | with_reducible refine faultClear_follows ?_ (lor_sub (by decide) hU)
    | with_reducible refine live_follows ?_ ?_
    | with_reducible refine consumerActs_follows ?_ (lor_sub (by decide) hU)
    | with_reducible refine remapStart_follows ?_ (lor_sub (by decide) hU)
    | with_reducible refine Follows.ite ?_ ?_
    | split
    | (extract_lets +onlyGivenNames x; refine Follows.cut (x := x) ?_ ?_; rotate_left; clear_value x; intro _; rotate_right; subst x)
    | (extract_lets +onlyGivenNames x; clear_value x)
    | refine Follows.snd (by assumption) ?_
    | refine Follows.fst (by assumption) ?_
    | dsimp only
    | with_reducible exact Follows.refl _ _

theorem lineHit_follows {h : LineHit} {U : Nat} {r s : State} (hs : Follows U r s) (hU : 20966209 ||| U = U) :
    Follows U r (lineHit h s) := by
  unfold lineHit
  repeat' first
    | with_reducible assumption
    | intro _
    | with_reducible refine lineCorrected_follows ?_ (lor_sub (by decide) hU)
    | with_reducible refine lineUncorrected_follows ?_ (lor_sub (by decide) hU)
    | with_reducible refine Follows.ite ?_ ?_
    | split
    | with_reducible exact Follows.refl _ _

theorem scrubChannel_follows {hits : List LineHit} {seat ch : Nat} {U : Nat} {r s : State} (h : Follows U r s) (hU : 20966209 ||| U = U) :
    Follows U r (scrubChannel hits seat ch s) := by
  unfold scrubChannel
  repeat' first
    | with_reducible assumption
    | intro _
    | with_reducible refine bump_follows ?_ (lor_sub (by decide) hU)
    | with_reducible refine chanMod_follows ?_ (lor_sub (by decide) hU)
    | with_reducible refine when_follows ?_ ?_
    | with_reducible refine foldS_follows ?_ ?_
    | with_reducible refine live_follows ?_ ?_
    | with_reducible refine lineHit_follows ?_ (lor_sub (by decide) hU)
    | with_reducible refine Follows.ite ?_ ?_
    | split
    | (extract_lets +onlyGivenNames x; refine Follows.cut (x := x) ?_ ?_; rotate_left; clear_value x; intro _; rotate_right; subst x)
    | (extract_lets +onlyGivenNames x; clear_value x)
    | with_reducible exact Follows.refl _ _

theorem scrubEdge_follows {hits : List LineHit} {U : Nat} {r s : State} (h : Follows U r s) (hU : 20966209 ||| U = U) :
    Follows U r (scrubEdge hits s) := by
  unfold scrubEdge
  repeat' first
    | with_reducible assumption
    | intro _
    | with_reducible refine foldS_follows ?_ ?_
    | with_reducible refine charge_follows ?_ (lor_sub (by decide) hU)
    | with_reducible refine scrubChannel_follows ?_ (lor_sub (by decide) hU)
    | with_reducible refine Follows.ite ?_ ?_
    | split
    | with_reducible exact Follows.refl _ _

theorem ancWord_follows {seat value bad : Nat} {U : Nat} {r s : State} (h : Follows U r s) (hU : 33554433 ||| U = U) :
    Follows U r (ancWord seat value bad s) := by
  unfold ancWord
  repeat' first
    | with_reducible assumption
    | intro _
    | with_reducible refine wr_follows ?_ (lor_sub (by decide) hU)
    | with_reducible refine Follows.ite ?_ ?_
    | split
    | (extract_lets +onlyGivenNames x; refine Follows.cut (x := x) ?_ ?_; rotate_left; clear_value x; intro _; rotate_right; subst x)
    | (extract_lets +onlyGivenNames x; clear_value x)
    | with_reducible exact Follows.refl _ _
    | with_reducible refine draw_follows ?_ (lor_sub (by decide) hU)

theorem ancRead_follows {seat value corrected bad : Nat} {U : Nat} {r s : State} (h : Follows U r s) (hU : 50331969 ||| U = U) :
    Follows U r (ancRead seat value corrected bad s) := by
  unfold ancRead
  repeat' first
    | with_reducible assumption
    | intro _
    | with_reducible refine bumpN_follows ?_ (lor_sub (by decide) hU)
    | with_reducible refine when_follows ?_ ?_
    | with_reducible refine event_follows ?_ (lor_sub (by decide) hU)
    | with_reducible refine foldS_follows ?_ ?_
    | with_reducible refine faultNote_follows ?_ (lor_sub (by decide) hU)
    | with_reducible refine ancWord_follows ?_ (lor_sub (by decide) hU)
    | split
    | (extract_lets +onlyGivenNames x; refine Follows.cut (x := x) ?_ ?_; rotate_left; clear_value x; intro _; rotate_right; subst x)
    | (extract_lets +onlyGivenNames x; clear_value x)
    | with_reducible exact Follows.refl _ _

end Sys2Proof.Machine
end

