-- ==== Sys2Proof/Laws/FollowsBoot.lean ====
section
/-!
SUPPORT. Laws/FollowsBoot.lean: the operations of Machine/Boot.lean keep what `Follows` states.
-/

namespace Sys2Proof.Machine

open Sys2Proof

theorem intxShow_follows  {U : Nat} {r s : State} (h : Follows U r s) (hU : 16777473 ||| U = U) :
    Follows U r (intxShow s) := by
  unfold intxShow
  repeat' first
    | with_reducible assumption
    | intro _
    | with_reducible refine upstream_follows ?_ (lor_sub (by decide) hU)
    | with_reducible refine Follows.ite ?_ ?_
    | with_reducible exact Follows.set_pci (by assumption) (lor_sub (by decide) hU)
    | (with_reducible refine Follows.set_pci ?_ (lor_sub (by decide) hU); first | with_reducible refine upstream_follows ?_ (lor_sub (by decide) hU) | with_reducible refine Follows.ite ?_ ?_ | with_reducible exact Follows.refl _ _)
    | split
    | (extract_lets +onlyGivenNames x; refine Follows.cut (x := x) ?_ ?_; rotate_left; clear_value x; intro _; rotate_right; subst x)
    | (extract_lets +onlyGivenNames x; clear_value x)
    | with_reducible exact Follows.refl _ _

theorem bootEvent_follows {bit : Nat} {U : Nat} {r s : State} (h : Follows U r s) (hU : 16777473 ||| U = U) :
    Follows U r (bootEvent bit s) := by
  unfold bootEvent
  repeat' first
    | with_reducible assumption
    | intro _
    | with_reducible refine wrBit_follows ?_ (lor_sub (by decide) hU)
    | with_reducible refine intxShow_follows ?_ (lor_sub (by decide) hU)
    | split
    | with_reducible exact Follows.refl _ _

theorem setPhase_follows {p : Nat} {U : Nat} {r s : State} (h : Follows U r s) (hU : 1 ||| U = U) :
    Follows U r (setPhase p s) := by
  unfold setPhase
  repeat' first
    | with_reducible assumption
    | intro _
    | with_reducible refine wr_follows ?_ (lor_sub (by decide) hU)
    | split
    | with_reducible exact Follows.refl _ _

theorem bootWait_follows  {U : Nat} {r s : State} (h : Follows U r s) (hU : 16777985 ||| U = U) :
    Follows U r (bootWait s) := by
  unfold bootWait
  repeat' first
    | with_reducible assumption
    | intro _
    | with_reducible refine setPhase_follows ?_ (lor_sub (by decide) hU)
    | with_reducible refine wr_follows ?_ (lor_sub (by decide) hU)
    | with_reducible refine bootEvent_follows ?_ (lor_sub (by decide) hU)
    | with_reducible exact Follows.set_boot (by assumption) (lor_sub (by decide) hU)
    | (with_reducible refine Follows.set_boot ?_ (lor_sub (by decide) hU); first | with_reducible refine setPhase_follows ?_ (lor_sub (by decide) hU) | with_reducible refine wr_follows ?_ (lor_sub (by decide) hU) | with_reducible refine bootEvent_follows ?_ (lor_sub (by decide) hU) | with_reducible exact Follows.refl _ _)
    | split
    | (extract_lets +onlyGivenNames x; refine Follows.cut (x := x) ?_ ?_; rotate_left; clear_value x; intro _; rotate_right; subst x)
    | (extract_lets +onlyGivenNames x; clear_value x)
    | with_reducible exact Follows.refl _ _

theorem floorsTorn_follows {torn : List Nat} {U : Nat} {r s : State} (h : Follows U r s) (hU : 16777545 ||| U = U) : Follows U r (floorsTorn torn s) := by
  unfold floorsTorn
  refine foldS_follows ⟨h.queue, h.said, h.drawn, h.seats, h.regs, fun x => ⟨?_, fun e he => ?_⟩, fun p hp => by
    cases p <;> first | exact h.frame _ hp | exact absurd (hp.symm.trans (bit_of (by decide) hU)) (by decide)⟩ ?_
  · dsimp only; exact fmapV_sorted (h.floors x).1 _
  · obtain ⟨y, hy, rfl⟩ := List.mem_map.mp he
    exact (h.floors x).2 y hy
  · exact fun _ s hs => event_follows (bump_follows hs (lor_sub (by decide) hU)) (lor_sub (by decide) hU)

theorem floorWrites_follows {value : Nat} {fails : Nat} {U : Nat} {r s : State} (h : Follows U r s) (hU : 9 ||| U = U) :
    Follows U r (floorWrites value fails s).1 := by
  unfold floorWrites
  repeat' first
    | with_reducible assumption
    | intro _
    | with_reducible refine foldS_follows ?_ ?_
    | with_reducible refine writeFloor_follows ?_ (lor_sub (by decide) hU)
    | with_reducible refine Follows.ite ?_ ?_
    | split
    | (extract_lets +onlyGivenNames x; refine Follows.cut (x := x) ?_ ?_; rotate_left; clear_value x; intro _; rotate_right; subst x)
    | (extract_lets +onlyGivenNames x; clear_value x)
    | with_reducible exact Follows.refl _ _

theorem stepOneFails_follows  {U : Nat} {r s : State} (h : Follows U r s) (hU : 1 ||| U = U) :
    Follows U r (stepOneFails s) := by
  unfold stepOneFails
  repeat' first
    | with_reducible assumption
    | intro _
    | with_reducible refine wr_follows ?_ (lor_sub (by decide) hU)
    | split
    | with_reducible exact Follows.refl _ _

theorem bootStart_follows {b : BootRom} {U : Nat} {r s : State} (h : Follows U r s) (hU : 50332493 ||| U = U) :
    Follows U r (bootStart b s) := by
  unfold bootStart
  repeat' first
    | with_reducible assumption
    | intro _
    | with_reducible refine setPhase_follows ?_ (lor_sub (by decide) hU)
    | with_reducible refine floorsTorn_follows ?_ (lor_sub (by decide) hU)
    | with_reducible refine wr_follows ?_ (lor_sub (by decide) hU)
    | with_reducible refine setTicks_follows ?_ (lor_sub (by decide) hU)
    | with_reducible refine openValue_follows ?_ (lor_sub (by decide) hU)
    | with_reducible refine stepOneFails_follows ?_ (lor_sub (by decide) hU)
    | with_reducible refine floorWrites_follows ?_ (lor_sub (by decide) hU)
    | with_reducible refine event_follows ?_ (lor_sub (by decide) hU)
    | with_reducible refine bootEvent_follows ?_ (lor_sub (by decide) hU)
    | with_reducible refine bootWait_follows ?_ (lor_sub (by decide) hU)
    | with_reducible refine Follows.ite ?_ ?_
    | with_reducible exact Follows.set_hw_boot (by assumption) (lor_sub (by decide) hU) rfl
    | (with_reducible refine Follows.set_hw_boot ?_ (lor_sub (by decide) hU) rfl; first | with_reducible refine setPhase_follows ?_ (lor_sub (by decide) hU) | with_reducible refine floorsTorn_follows ?_ (lor_sub (by decide) hU) | with_reducible refine wr_follows ?_ (lor_sub (by decide) hU) | with_reducible refine setTicks_follows ?_ (lor_sub (by decide) hU) | with_reducible refine openValue_follows ?_ (lor_sub (by decide) hU) | with_reducible refine stepOneFails_follows ?_ (lor_sub (by decide) hU) | with_reducible refine floorWrites_follows ?_ (lor_sub (by decide) hU) | with_reducible refine event_follows ?_ (lor_sub (by decide) hU) | with_reducible refine bootEvent_follows ?_ (lor_sub (by decide) hU) | with_reducible refine bootWait_follows ?_ (lor_sub (by decide) hU) | with_reducible refine Follows.ite ?_ ?_ | with_reducible exact Follows.refl _ _)
    | with_reducible exact Follows.set_stk (by assumption) (lor_sub (by decide) hU) rfl
    | (with_reducible refine Follows.set_stk ?_ (lor_sub (by decide) hU) rfl; first | with_reducible refine setPhase_follows ?_ (lor_sub (by decide) hU) | with_reducible refine floorsTorn_follows ?_ (lor_sub (by decide) hU) | with_reducible refine wr_follows ?_ (lor_sub (by decide) hU) | with_reducible refine setTicks_follows ?_ (lor_sub (by decide) hU) | with_reducible refine openValue_follows ?_ (lor_sub (by decide) hU) | with_reducible refine stepOneFails_follows ?_ (lor_sub (by decide) hU) | with_reducible refine floorWrites_follows ?_ (lor_sub (by decide) hU) | with_reducible refine event_follows ?_ (lor_sub (by decide) hU) | with_reducible refine bootEvent_follows ?_ (lor_sub (by decide) hU) | with_reducible refine bootWait_follows ?_ (lor_sub (by decide) hU) | with_reducible refine Follows.ite ?_ ?_ | with_reducible exact Follows.refl _ _)
    | split
    | (extract_lets +onlyGivenNames x; refine Follows.cut (x := x) ?_ ?_; rotate_left; clear_value x; intro _; rotate_right; subst x)
    | extract_lets +onlyGivenNames x
    | refine Follows.snd (by assumption) ?_
    | refine Follows.fst (by assumption) ?_
    | dsimp only
    | with_reducible exact Follows.refl _ _

theorem bootCtxFree_follows  {U : Nat} {r s : State} (h : Follows U r s) (hU : 8388609 ||| U = U) :
    Follows U r (bootCtxFree s) := by
  unfold bootCtxFree
  repeat' first
    | with_reducible assumption
    | intro _
    | with_reducible refine wr_follows ?_ (lor_sub (by decide) hU)
    | with_reducible exact Follows.set_keys (by assumption) (lor_sub (by decide) hU)
    | (with_reducible refine Follows.set_keys ?_ (lor_sub (by decide) hU); first | with_reducible refine wr_follows ?_ (lor_sub (by decide) hU) | with_reducible exact Follows.refl _ _)
    | split
    | (extract_lets +onlyGivenNames x; refine Follows.cut (x := x) ?_ ?_; rotate_left; clear_value x; intro _; rotate_right; subst x)
    | (extract_lets +onlyGivenNames x; clear_value x)
    | with_reducible exact Follows.refl _ _

theorem bootRefuse_follows {reason : Nat} {U : Nat} {r s : State} (h : Follows U r s) (hU : 25166593 ||| U = U) :
    Follows U r (bootRefuse reason s) := by
  unfold bootRefuse
  repeat' first
    | with_reducible assumption
    | intro _
    | with_reducible refine bootCtxFree_follows ?_ (lor_sub (by decide) hU)
    | with_reducible refine wr_follows ?_ (lor_sub (by decide) hU)
    | with_reducible refine bump_follows ?_ (lor_sub (by decide) hU)
    | with_reducible refine bootEvent_follows ?_ (lor_sub (by decide) hU)
    | with_reducible refine bootWait_follows ?_ (lor_sub (by decide) hU)
    | with_reducible refine Follows.ite ?_ ?_
    | split
    | with_reducible exact Follows.refl _ _

theorem bodyTake_follows {h : ImageHeader} {off len : Nat} {tagsOk : Bool} {U : Nat} {r s : State} (hs : Follows U r s) (hU : 25166593 ||| U = U) :
    Follows U r (bodyTake h off len tagsOk s) := by
  unfold bodyTake
  repeat' first
    | with_reducible assumption
    | intro _
    | with_reducible refine setCtx_follows ?_ (lor_sub (by decide) hU)
    | with_reducible refine wr_follows ?_ (lor_sub (by decide) hU)
    | with_reducible refine digBoot_follows ?_ (lor_sub (by decide) hU)
    | with_reducible refine bump_follows ?_ (lor_sub (by decide) hU)
    | with_reducible refine bootRefuse_follows ?_ (lor_sub (by decide) hU)
    | with_reducible refine setPhase_follows ?_ (lor_sub (by decide) hU)
    | with_reducible refine Follows.ite ?_ ?_
    | split
    | (extract_lets +onlyGivenNames x; refine Follows.cut (x := x) ?_ ?_; rotate_left; clear_value x; intro _; rotate_right; subst x)
    | (extract_lets +onlyGivenNames x; clear_value x)
    | with_reducible exact Follows.refl _ _

theorem windowWrite_follows {off len : Nat} {tagsOk : Bool} {U : Nat} {r s : State} (h : Follows U r s) (hU : 25166593 ||| U = U) :
    Follows U r (windowWrite off len tagsOk s) := by
  unfold windowWrite
  dsimp only
  repeat' first
    | with_reducible assumption
    | intro _
    | with_reducible refine bootRefuse_follows ?_ (lor_sub (by decide) hU)
    | with_reducible refine wr_follows ?_ (lor_sub (by decide) hU)
    | with_reducible refine bodyTake_follows ?_ (lor_sub (by decide) hU)
    | with_reducible refine setPhase_follows ?_ (lor_sub (by decide) hU)
    | with_reducible refine when_follows ?_ ?_
    | with_reducible refine Follows.ite ?_ ?_
    | with_reducible exact Follows.set_boot (by assumption) (lor_sub (by decide) hU)
    | (with_reducible refine Follows.set_boot ?_ (lor_sub (by decide) hU); first | with_reducible refine bootRefuse_follows ?_ (lor_sub (by decide) hU) | with_reducible refine wr_follows ?_ (lor_sub (by decide) hU) | with_reducible refine bodyTake_follows ?_ (lor_sub (by decide) hU) | with_reducible refine setPhase_follows ?_ (lor_sub (by decide) hU) | with_reducible refine when_follows ?_ ?_ | with_reducible refine Follows.ite ?_ ?_ | with_reducible exact Follows.refl _ _)
    | split
    | with_reducible exact Follows.refl _ _

theorem headerChecked_follows {h : ImageHeader} {c : HeaderChecks} {U : Nat} {r s : State} (hs : Follows U r s) (hU : 25166593 ||| U = U) :
    Follows U r (headerChecked h c s) := by
  unfold headerChecked
  repeat' first
    | with_reducible assumption
    | intro _
    | with_reducible refine bootRefuse_follows ?_ (lor_sub (by decide) hU)
    | with_reducible refine slotFill_follows ?_ (lor_sub (by decide) hU)
    | with_reducible refine setCtx_follows ?_ (lor_sub (by decide) hU)
    | with_reducible refine wr_follows ?_ (lor_sub (by decide) hU)
    | with_reducible refine setPhase_follows ?_ (lor_sub (by decide) hU)
    | with_reducible refine bootEvent_follows ?_ (lor_sub (by decide) hU)
    | with_reducible refine Follows.ite ?_ ?_
    | with_reducible exact Follows.set_boot (by assumption) (lor_sub (by decide) hU)
    | (with_reducible refine Follows.set_boot ?_ (lor_sub (by decide) hU); first | with_reducible refine bootRefuse_follows ?_ (lor_sub (by decide) hU) | with_reducible refine slotFill_follows ?_ (lor_sub (by decide) hU) | with_reducible refine setCtx_follows ?_ (lor_sub (by decide) hU) | with_reducible refine wr_follows ?_ (lor_sub (by decide) hU) | with_reducible refine setPhase_follows ?_ (lor_sub (by decide) hU) | with_reducible refine bootEvent_follows ?_ (lor_sub (by decide) hU) | with_reducible refine Follows.ite ?_ ?_ | with_reducible exact Follows.refl _ _)
    | split
    | (extract_lets +onlyGivenNames x; refine Follows.cut (x := x) ?_ ?_; rotate_left; clear_value x; intro _; rotate_right; subst x)
    | (extract_lets +onlyGivenNames x; clear_value x)
    | with_reducible exact Follows.refl _ _

theorem coxStarts_follows {h : ImageHeader} {U : Nat} {r s : State} (hs : Follows U r s) (hU : 25690881 ||| U = U) :
    Follows U r (coxStarts h s) := by
  unfold coxStarts
  repeat' first
    | with_reducible assumption
    | intro _
    | with_reducible refine setCtx_follows ?_ (lor_sub (by decide) hU)
    | with_reducible refine wr_follows ?_ (lor_sub (by decide) hU)
    | with_reducible refine bump_follows ?_ (lor_sub (by decide) hU)
    | with_reducible refine bootEvent_follows ?_ (lor_sub (by decide) hU)
    | with_reducible refine setPhase_follows ?_ (lor_sub (by decide) hU)
    | with_reducible refine intxShow_follows ?_ (lor_sub (by decide) hU)
    | with_reducible refine foldS_follows ?_ ?_
    | with_reducible refine slotPower_follows ?_ (lor_sub (by decide) hU)
    | with_reducible exact Follows.set_boot (by assumption) (lor_sub (by decide) hU)
    | (with_reducible refine Follows.set_boot ?_ (lor_sub (by decide) hU); first | with_reducible refine setCtx_follows ?_ (lor_sub (by decide) hU) | with_reducible refine wr_follows ?_ (lor_sub (by decide) hU) | with_reducible refine bump_follows ?_ (lor_sub (by decide) hU) | with_reducible refine bootEvent_follows ?_ (lor_sub (by decide) hU) | with_reducible refine setPhase_follows ?_ (lor_sub (by decide) hU) | with_reducible refine intxShow_follows ?_ (lor_sub (by decide) hU) | with_reducible refine foldS_follows ?_ ?_ | with_reducible refine slotPower_follows ?_ (lor_sub (by decide) hU) | with_reducible exact Follows.refl _ _)
    | split
    | (extract_lets +onlyGivenNames x; refine Follows.cut (x := x) ?_ ?_; rotate_left; clear_value x; intro _; rotate_right; subst x)
    | (extract_lets +onlyGivenNames x; clear_value x)
    | with_reducible exact Follows.refl _ _

theorem imageVerified_follows {equal sramOk : Bool} {U : Nat} {r s : State} (h : Follows U r s) (hU : 25690881 ||| U = U) :
    Follows U r (imageVerified equal sramOk s) := by
  unfold imageVerified
  repeat' first
    | with_reducible assumption
    | intro _
    | with_reducible refine bootEvent_follows ?_ (lor_sub (by decide) hU)
    | with_reducible refine bootRefuse_follows ?_ (lor_sub (by decide) hU)
    | with_reducible refine bump_follows ?_ (lor_sub (by decide) hU)
    | with_reducible refine coxStarts_follows ?_ (lor_sub (by decide) hU)
    | with_reducible refine Follows.ite ?_ ?_
    | split
    | with_reducible exact Follows.refl _ _

theorem bootRestart_follows  {U : Nat} {r s : State} (h : Follows U r s) (hU : 25166593 ||| U = U) :
    Follows U r (bootRestart s) := by
  unfold bootRestart
  repeat' first
    | with_reducible assumption
    | intro _
    | with_reducible refine bootRefuse_follows ?_ (lor_sub (by decide) hU)
    | with_reducible refine Follows.ite ?_ ?_
    | split
    | with_reducible exact Follows.refl _ _

theorem bootDiscard_follows  {U : Nat} {r s : State} (h : Follows U r s) (hU : 8389121 ||| U = U) :
    Follows U r (bootDiscard s) := by
  unfold bootDiscard
  repeat' first
    | with_reducible assumption
    | intro _
    | with_reducible refine bootCtxFree_follows ?_ (lor_sub (by decide) hU)
    | with_reducible refine setPhase_follows ?_ (lor_sub (by decide) hU)
    | with_reducible refine wr_follows ?_ (lor_sub (by decide) hU)
    | with_reducible refine Follows.ite ?_ ?_
    | with_reducible exact Follows.set_boot (by assumption) (lor_sub (by decide) hU)
    | (with_reducible refine Follows.set_boot ?_ (lor_sub (by decide) hU); first | with_reducible refine bootCtxFree_follows ?_ (lor_sub (by decide) hU) | with_reducible refine setPhase_follows ?_ (lor_sub (by decide) hU) | with_reducible refine wr_follows ?_ (lor_sub (by decide) hU) | with_reducible refine Follows.ite ?_ ?_ | with_reducible exact Follows.refl _ _)
    | split
    | (extract_lets +onlyGivenNames x; refine Follows.cut (x := x) ?_ ?_; rotate_left; clear_value x; intro _; rotate_right; subst x)
    | (extract_lets +onlyGivenNames x; clear_value x)
    | with_reducible exact Follows.refl _ _

theorem bootRestarted_follows  {U : Nat} {r s : State} (h : Follows U r s) (hU : 16777985 ||| U = U) :
    Follows U r (bootRestarted s) := by
  unfold bootRestarted
  repeat' first
    | with_reducible assumption
    | intro _
    | with_reducible refine bootEvent_follows ?_ (lor_sub (by decide) hU)
    | with_reducible refine intxShow_follows ?_ (lor_sub (by decide) hU)
    | with_reducible refine Follows.ite ?_ ?_
    | with_reducible exact Follows.set_boot (by assumption) (lor_sub (by decide) hU)
    | (with_reducible refine Follows.set_boot ?_ (lor_sub (by decide) hU); first | with_reducible refine bootEvent_follows ?_ (lor_sub (by decide) hU) | with_reducible refine intxShow_follows ?_ (lor_sub (by decide) hU) | with_reducible refine Follows.ite ?_ ?_ | with_reducible exact Follows.refl _ _)
    | split
    | (extract_lets +onlyGivenNames x; refine Follows.cut (x := x) ?_ ?_; rotate_left; clear_value x; intro _; rotate_right; subst x)
    | (extract_lets +onlyGivenNames x; clear_value x)
    | with_reducible exact Follows.refl _ _

theorem stepFails_follows {step : Nat} {what : List Nat} {U : Nat} {r s : State} (h : Follows U r s) (hU : 65 ||| U = U) :
    Follows U r (stepFails step what s) := by
  unfold stepFails
  repeat' first
    | with_reducible assumption
    | intro _
    | with_reducible refine logFw_follows ?_ (lor_sub (by decide) hU)
    | with_reducible refine bringupStops_follows ?_ (lor_sub (by decide) hU)
    | split
    | with_reducible exact Follows.refl _ _

theorem selfTestDone_follows {passed : List Bool} {U : Nat} {r s : State} (h : Follows U r s) (hU : 577 ||| U = U) :
    Follows U r (selfTestDone passed s) := by
  unfold selfTestDone
  repeat' first
    | with_reducible assumption
    | intro _
    | with_reducible refine foldS_follows ?_ ?_
    | with_reducible refine wr_follows ?_ (lor_sub (by decide) hU)
    | with_reducible refine wrB_follows ?_ (lor_sub (by decide) hU)
    | with_reducible refine stepFails_follows ?_ (lor_sub (by decide) hU)
    | with_reducible refine Follows.ite ?_ ?_
    | with_reducible exact Follows.set_boot (by assumption) (lor_sub (by decide) hU)
    | (with_reducible refine Follows.set_boot ?_ (lor_sub (by decide) hU); first | with_reducible refine foldS_follows ?_ ?_ | with_reducible refine wr_follows ?_ (lor_sub (by decide) hU) | with_reducible refine wrB_follows ?_ (lor_sub (by decide) hU) | with_reducible refine stepFails_follows ?_ (lor_sub (by decide) hU) | with_reducible refine Follows.ite ?_ ?_ | with_reducible exact Follows.refl _ _)
    | split
    | (extract_lets +onlyGivenNames x; refine Follows.cut (x := x) ?_ ?_; rotate_left; clear_value x; intro _; rotate_right; subst x)
    | (extract_lets +onlyGivenNames x; clear_value x)
    | with_reducible exact Follows.refl _ _

theorem stepsJoin_follows  {U : Nat} {r s : State} (h : Follows U r s) (hU : 1 ||| U = U) :
    Follows U r (stepsJoin s) := by
  unfold stepsJoin
  repeat' first
    | with_reducible assumption
    | intro _
    | with_reducible refine wr_follows ?_ (lor_sub (by decide) hU)
    | with_reducible refine Follows.ite ?_ ?_
    | split
    | with_reducible exact Follows.refl _ _

theorem chanTrained_follows {d : Dimm} {U : Nat} {r s : State} (h : Follows U r s) (hU : 2049 ||| U = U) :
    Follows U r (chanTrained d s) := by
  unfold chanTrained
  repeat' first
    | with_reducible assumption
    | intro _
    | with_reducible refine wr_follows ?_ (lor_sub (by decide) hU)
    | with_reducible refine wrB_follows ?_ (lor_sub (by decide) hU)
    | with_reducible refine wrBit_follows ?_ (lor_sub (by decide) hU)
    | with_reducible refine chanMod_follows ?_ (lor_sub (by decide) hU)
    | with_reducible refine foldS_follows ?_ ?_
    | with_reducible refine remapShow_follows ?_ (lor_sub (by decide) hU)
    | with_reducible refine Follows.ite ?_ ?_
    | split
    | (extract_lets +onlyGivenNames x; refine Follows.cut (x := x) ?_ ?_; rotate_left; clear_value x; intro _; rotate_right; subst x)
    | (extract_lets +onlyGivenNames x; clear_value x)
    | with_reducible exact Follows.refl _ _

theorem dramTrained_follows {dimms : List Dimm} {U : Nat} {r s : State} (h : Follows U r s) (hU : 2625 ||| U = U) :
    Follows U r (dramTrained dimms s) := by
  unfold dramTrained
  repeat' first
    | with_reducible assumption
    | intro _
    | with_reducible refine foldS_follows ?_ ?_
    | with_reducible refine chanTrained_follows ?_ (lor_sub (by decide) hU)
    | with_reducible refine when_follows ?_ ?_
    | with_reducible refine wr_follows ?_ (lor_sub (by decide) hU)
    | with_reducible refine stepsJoin_follows ?_ (lor_sub (by decide) hU)
    | with_reducible refine stepFails_follows ?_ (lor_sub (by decide) hU)
    | with_reducible refine Follows.ite ?_ ?_
    | with_reducible exact Follows.set_boot (by assumption) (lor_sub (by decide) hU)
    | (with_reducible refine Follows.set_boot ?_ (lor_sub (by decide) hU); first | with_reducible refine foldS_follows ?_ ?_ | with_reducible refine chanTrained_follows ?_ (lor_sub (by decide) hU) | with_reducible refine when_follows ?_ ?_ | with_reducible refine wr_follows ?_ (lor_sub (by decide) hU) | with_reducible refine stepsJoin_follows ?_ (lor_sub (by decide) hU) | with_reducible refine stepFails_follows ?_ (lor_sub (by decide) hU) | with_reducible refine Follows.ite ?_ ?_ | with_reducible exact Follows.refl _ _)
    | split
    | (extract_lets +onlyGivenNames x; refine Follows.cut (x := x) ?_ ?_; rotate_left; clear_value x; intro _; rotate_right; subst x)
    | (extract_lets +onlyGivenNames x; clear_value x)
    | refine Follows.snd (by assumption) ?_
    | refine Follows.fst (by assumption) ?_
    | dsimp only
    | with_reducible exact Follows.refl _ _

theorem discoveryDone_follows  {U : Nat} {r s : State} (h : Follows U r s) (hU : 18711361 ||| U = U) :
    Follows U r (discoveryDone s) := by
  unfold discoveryDone
  repeat' first
    | with_reducible assumption
    | intro _
    | with_reducible refine foldS_follows ?_ ?_
    | with_reducible refine when_follows ?_ ?_
    | with_reducible refine slotSharesLost_follows ?_ (lor_sub (by decide) hU)
    | with_reducible refine stepsJoin_follows ?_ (lor_sub (by decide) hU)
    | with_reducible refine Follows.ite ?_ ?_
    | with_reducible exact Follows.set_boot (by assumption) (lor_sub (by decide) hU)
    | (with_reducible refine Follows.set_boot ?_ (lor_sub (by decide) hU); first | with_reducible refine foldS_follows ?_ ?_ | with_reducible refine when_follows ?_ ?_ | with_reducible refine slotSharesLost_follows ?_ (lor_sub (by decide) hU) | with_reducible refine stepsJoin_follows ?_ (lor_sub (by decide) hU) | with_reducible refine Follows.ite ?_ ?_ | with_reducible exact Follows.refl _ _)
    | split
    | (extract_lets +onlyGivenNames x; refine Follows.cut (x := x) ?_ ?_; rotate_left; clear_value x; intro _; rotate_right; subst x)
    | (extract_lets +onlyGivenNames x; clear_value x)
    | with_reducible exact Follows.refl _ _

theorem sideRecovery_follows {r : RecoveryInfo} {U : Nat} {r0 s : State} (h : Follows U r0 s) (hU : 26481473 ||| U = U) :
    Follows U r0 (sideRecovery r s) := by
  unfold sideRecovery
  repeat' first
    | with_reducible assumption
    | intro _
    | with_reducible refine foldS_follows ?_ ?_
    | with_reducible refine logFw_follows ?_ (lor_sub (by decide) hU)
    | with_reducible refine stepFails_follows ?_ (lor_sub (by decide) hU)
    | with_reducible refine wr_follows ?_ (lor_sub (by decide) hU)
    | with_reducible refine countersResume_follows ?_ (lor_sub (by decide) hU)
    | with_reducible refine recoveryEnds_follows ?_ (lor_sub (by decide) hU)
    | with_reducible refine updShow_follows ?_ (lor_sub (by decide) hU)
    | with_reducible refine Follows.ite ?_ ?_
    | with_reducible exact Follows.set_pair (by assumption) (lor_sub (by decide) hU)
    | (with_reducible refine Follows.set_pair ?_ (lor_sub (by decide) hU); first | with_reducible refine foldS_follows ?_ ?_ | with_reducible refine logFw_follows ?_ (lor_sub (by decide) hU) | with_reducible refine stepFails_follows ?_ (lor_sub (by decide) hU) | with_reducible refine wr_follows ?_ (lor_sub (by decide) hU) | with_reducible refine countersResume_follows ?_ (lor_sub (by decide) hU) | with_reducible refine recoveryEnds_follows ?_ (lor_sub (by decide) hU) | with_reducible refine updShow_follows ?_ (lor_sub (by decide) hU) | with_reducible refine Follows.ite ?_ ?_ | with_reducible exact Follows.refl _ _)
    | with_reducible exact Follows.set_upd (by assumption) (lor_sub (by decide) hU)
    | (with_reducible refine Follows.set_upd ?_ (lor_sub (by decide) hU); first | with_reducible refine foldS_follows ?_ ?_ | with_reducible refine logFw_follows ?_ (lor_sub (by decide) hU) | with_reducible refine stepFails_follows ?_ (lor_sub (by decide) hU) | with_reducible refine wr_follows ?_ (lor_sub (by decide) hU) | with_reducible refine countersResume_follows ?_ (lor_sub (by decide) hU) | with_reducible refine recoveryEnds_follows ?_ (lor_sub (by decide) hU) | with_reducible refine updShow_follows ?_ (lor_sub (by decide) hU) | with_reducible refine Follows.ite ?_ ?_ | with_reducible exact Follows.refl _ _)
    | split
    | (extract_lets +onlyGivenNames x; refine Follows.cut (x := x) ?_ ?_; rotate_left; clear_value x; intro _; rotate_right; subst x)
    | (extract_lets +onlyGivenNames x; clear_value x)
    | with_reducible exact Follows.refl _ _

theorem frontEndOpens_follows  {U : Nat} {r s : State} (h : Follows U r s) (hU : 16801793 ||| U = U) :
    Follows U r (frontEndOpens s) := by
  unfold frontEndOpens
  repeat' first
    | with_reducible assumption
    | intro _
    | with_reducible refine frontEnd_follows ?_ (lor_sub (by decide) hU)
    | with_reducible refine foldS_follows ?_ ?_
    | with_reducible refine linksUp_follows ?_ (lor_sub (by decide) hU)
    | with_reducible refine wr_follows ?_ (lor_sub (by decide) hU)
    | with_reducible refine anaChanged_follows ?_ (lor_sub (by decide) hU)
    | with_reducible refine Follows.ite ?_ ?_
    | split
    | with_reducible exact Follows.refl _ _

theorem stepTwelve_follows  {U : Nat} {r s : State} (h : Follows U r s) (hU : 1 ||| U = U) :
    Follows U r (stepTwelve s) := by
  unfold stepTwelve
  repeat' first
    | with_reducible assumption
    | intro _
    | with_reducible refine wr_follows ?_ (lor_sub (by decide) hU)
    | with_reducible refine Follows.ite ?_ ?_
    | split
    | with_reducible exact Follows.refl _ _

end Sys2Proof.Machine
end

