-- ==== Sys2Proof/Laws/FollowsEndpoint.lean ====
section
/-!
SUPPORT. Laws/FollowsEndpoint.lean: the operations of Machine/Endpoint.lean keep what `Follows` states.
-/

namespace Sys2Proof.Machine

open Sys2Proof

theorem pciEvent_follows {ev : Fld} {U : Nat} {r s : State} (h : Follows U r s) (hU : 16777537 ||| U = U) :
    Follows U r (pciEvent ev s) := by
  unfold pciEvent
  repeat' first
    | with_reducible assumption
    | intro _
    | with_reducible refine setEvent_follows ?_ (lor_sub (by decide) hU)
    | split
    | with_reducible exact Follows.refl _ _

theorem msgsFlush_follows  {U : Nat} {r s : State} (h : Follows U r s) (hU : 16777473 ||| U = U) :
    Follows U r (msgsFlush s) := by
  unfold msgsFlush
  repeat' first
    | with_reducible assumption
    | intro _
    | with_reducible refine foldS_follows ?_ ?_
    | with_reducible refine upstream_follows ?_ (lor_sub (by decide) hU)
    | with_reducible exact Follows.set_pci (by assumption) (lor_sub (by decide) hU)
    | (with_reducible refine Follows.set_pci ?_ (lor_sub (by decide) hU); first | with_reducible refine foldS_follows ?_ ?_ | with_reducible refine upstream_follows ?_ (lor_sub (by decide) hU) | with_reducible exact Follows.refl _ _)
    | split
    | (extract_lets +onlyGivenNames x; refine Follows.cut (x := x) ?_ ?_; rotate_left; clear_value x; intro _; rotate_right; subst x)
    | (extract_lets +onlyGivenNames x; clear_value x)
    | with_reducible exact Follows.refl _ _

theorem configured_follows {f : State → State} {U : Nat} {r s : State} (h : Follows U r s) (hf : ∀ x0, Follows U r x0 → Follows U r (f x0)) :
    Follows U r (configured f s) := by
  unfold configured
  repeat' first
    | with_reducible assumption
    | intro _
    | with_reducible refine Follows.ite ?_ ?_
    | refine hf _ ?_
    | split
    | refine Follows.snd (by assumption) ?_
    | refine Follows.fst (by assumption) ?_
    | dsimp only
    | with_reducible exact Follows.refl _ _

theorem linkDrops_follows  {U : Nat} {r s : State} (h : Follows U r s) (hU : 1 ||| U = U) :
    Follows U r (linkDrops s) := by
  unfold linkDrops
  repeat' first
    | with_reducible assumption
    | intro _
    | with_reducible refine wr_follows ?_ (lor_sub (by decide) hU)
    | split
    | with_reducible exact Follows.refl _ _

theorem faceReset_follows  {U : Nat} {r s : State} (h : Follows U r s) (hU : 16777667 ||| U = U) :
    Follows U r (faceReset s) := by
  unfold faceReset
  repeat' first
    | with_reducible assumption
    | intro _
    | with_reducible refine functionReset_follows ?_ (lor_sub (by decide) hU)
    | with_reducible refine wr_follows ?_ (lor_sub (by decide) hU)
    | with_reducible refine linkDrops_follows ?_ (lor_sub (by decide) hU)
    | with_reducible refine intxShow_follows ?_ (lor_sub (by decide) hU)
    | with_reducible refine pciEvent_follows ?_ (lor_sub (by decide) hU)
    | with_reducible exact Follows.set_pci (by assumption) (lor_sub (by decide) hU)
    | (with_reducible refine Follows.set_pci ?_ (lor_sub (by decide) hU); first | with_reducible refine functionReset_follows ?_ (lor_sub (by decide) hU) | with_reducible refine wr_follows ?_ (lor_sub (by decide) hU) | with_reducible refine linkDrops_follows ?_ (lor_sub (by decide) hU) | with_reducible refine intxShow_follows ?_ (lor_sub (by decide) hU) | with_reducible refine pciEvent_follows ?_ (lor_sub (by decide) hU) | with_reducible exact Follows.refl _ _)
    | split
    | (extract_lets +onlyGivenNames x; refine Follows.cut (x := x) ?_ ?_; rotate_left; clear_value x; intro _; rotate_right; subst x)
    | (extract_lets +onlyGivenNames x; clear_value x)
    | with_reducible exact Follows.refl _ _

theorem scopedReset_follows {c : ResetCause} {U : Nat} {r s : State} (h : Follows U r s) (hU : 33554431 ||| U = U) :
    Follows U r (scopedReset c s) := by
  unfold scopedReset
  repeat' first
    | with_reducible assumption
    | intro _
    | with_reducible refine faceReset_follows ?_ (lor_sub (by decide) hU)
    | with_reducible refine fullReset_follows ?_ (lor_sub (by decide) hU)
    | with_reducible refine Follows.ite ?_ ?_
    | split
    | with_reducible exact Follows.refl _ _

theorem requestsStop_follows  {U : Nat} {r s : State} (h : Follows U r s) (hU : 256 ||| U = U) :
    Follows U r (requestsStop s) := by
  unfold requestsStop
  repeat' first
    | with_reducible assumption
    | intro _
    | with_reducible exact Follows.set_pci (by assumption) (lor_sub (by decide) hU)
    | (with_reducible refine Follows.set_pci ?_ (lor_sub (by decide) hU); first | with_reducible exact Follows.refl _ _)
    | split
    | (extract_lets +onlyGivenNames x; refine Follows.cut (x := x) ?_ ?_; rotate_left; clear_value x; intro _; rotate_right; subst x)
    | (extract_lets +onlyGivenNames x; clear_value x)
    | with_reducible exact Follows.refl _ _

theorem bmeClears_follows  {U : Nat} {r s : State} (h : Follows U r s) (hU : 16777665 ||| U = U) :
    Follows U r (bmeClears s) := by
  unfold bmeClears
  repeat' first
    | with_reducible assumption
    | intro _
    | with_reducible refine foldS_follows ?_ ?_
    | with_reducible refine mbxComplete_follows ?_ (lor_sub (by decide) hU)
    | with_reducible refine requestsStop_follows ?_ (lor_sub (by decide) hU)
    | split
    | (extract_lets +onlyGivenNames x; refine Follows.cut (x := x) ?_ ?_; rotate_left; clear_value x; intro _; rotate_right; subst x)
    | (extract_lets +onlyGivenNames x; clear_value x)
    | with_reducible exact Follows.refl _ _

theorem slotsCut_follows  {U : Nat} {r s : State} (h : Follows U r s) (hU : 128 ||| U = U) :
    Follows U r (slotsCut s) := by
  unfold slotsCut
  repeat' first
    | with_reducible assumption
    | intro _
    | with_reducible refine Follows.ite ?_ ?_
    | with_reducible exact Follows.set_mbx (by assumption) (lor_sub (by decide) hU)
    | (with_reducible refine Follows.set_mbx ?_ (lor_sub (by decide) hU); first | with_reducible refine Follows.ite ?_ ?_ | with_reducible exact Follows.refl _ _)
    | split
    | (extract_lets +onlyGivenNames x; refine Follows.cut (x := x) ?_ ?_; rotate_left; clear_value x; intro _; rotate_right; subst x)
    | (extract_lets +onlyGivenNames x; clear_value x)
    | with_reducible exact Follows.refl _ _

theorem flrEnds_follows {micros : Nat} {timedOut : Bool} {U : Nat} {r s : State} (h : Follows U r s) (hU : 16778179 ||| U = U) :
    Follows U r (flrEnds micros timedOut s) := by
  unfold flrEnds
  repeat' first
    | with_reducible assumption
    | intro _
    | with_reducible refine lower_follows ?_ (lor_sub (by decide) hU)
    | with_reducible refine when_follows ?_ ?_
    | with_reducible refine pciEvent_follows ?_ (lor_sub (by decide) hU)
    | with_reducible refine functionReset_follows ?_ (lor_sub (by decide) hU)
    | with_reducible refine wr_follows ?_ (lor_sub (by decide) hU)
    | with_reducible refine bootRestarted_follows ?_ (lor_sub (by decide) hU)
    | with_reducible refine Follows.ite ?_ ?_
    | with_reducible exact Follows.set_pci (by assumption) (lor_sub (by decide) hU)
    | (with_reducible refine Follows.set_pci ?_ (lor_sub (by decide) hU); first | with_reducible refine lower_follows ?_ (lor_sub (by decide) hU) | with_reducible refine when_follows ?_ ?_ | with_reducible refine pciEvent_follows ?_ (lor_sub (by decide) hU) | with_reducible refine functionReset_follows ?_ (lor_sub (by decide) hU) | with_reducible refine wr_follows ?_ (lor_sub (by decide) hU) | with_reducible refine bootRestarted_follows ?_ (lor_sub (by decide) hU) | with_reducible refine Follows.ite ?_ ?_ | with_reducible exact Follows.refl _ _)
    | split
    | (extract_lets +onlyGivenNames x; refine Follows.cut (x := x) ?_ ?_; rotate_left; clear_value x; intro _; rotate_right; subst x)
    | (extract_lets +onlyGivenNames x; clear_value x)
    | with_reducible exact Follows.refl _ _

theorem inputFails_follows {slot : Nat} {U : Nat} {r s : State} (h : Follows U r s) (hU : 16777665 ||| U = U) :
    Follows U r (inputFails slot s) := by
  unfold inputFails
  repeat' first
    | with_reducible assumption
    | intro _
    | with_reducible refine mbxComplete_follows ?_ (lor_sub (by decide) hU)
    | with_reducible refine Follows.ite ?_ ?_
    | with_reducible exact Follows.set_pci (by assumption) (lor_sub (by decide) hU)
    | (with_reducible refine Follows.set_pci ?_ (lor_sub (by decide) hU); first | with_reducible refine mbxComplete_follows ?_ (lor_sub (by decide) hU) | with_reducible refine Follows.ite ?_ ?_ | with_reducible exact Follows.refl _ _)
    | split
    | (extract_lets +onlyGivenNames x; refine Follows.cut (x := x) ?_ ?_; rotate_left; clear_value x; intro _; rotate_right; subst x)
    | (extract_lets +onlyGivenNames x; clear_value x)
    | with_reducible exact Follows.refl _ _

theorem poisonReceived_follows  {U : Nat} {r s : State} (h : Follows U r s) (hU : 50331969 ||| U = U) :
    Follows U r (poisonReceived s) := by
  unfold poisonReceived
  repeat' first
    | with_reducible assumption
    | intro _
    | with_reducible refine bump_follows ?_ (lor_sub (by decide) hU)
    | with_reducible refine pciEvent_follows ?_ (lor_sub (by decide) hU)
    | with_reducible refine aerUncorr_follows ?_ (lor_sub (by decide) hU)
    | split
    | with_reducible exact Follows.refl _ _

theorem completion_follows {tag : Nat} {r : CplResult} {U : Nat} {r0 s : State} (h : Follows U r0 s) (hU : 50332097 ||| U = U) :
    Follows U r0 (completion tag r s) := by
  unfold completion
  repeat' first
    | with_reducible assumption
    | intro _
    | with_reducible refine aerUncorr_follows ?_ (lor_sub (by decide) hU)
    | with_reducible refine when_follows ?_ ?_
    | with_reducible refine lower_follows ?_ (lor_sub (by decide) hU)
    | with_reducible refine poisonReceived_follows ?_ (lor_sub (by decide) hU)
    | with_reducible refine bump_follows ?_ (lor_sub (by decide) hU)
    | with_reducible refine inputFails_follows ?_ (lor_sub (by decide) hU)
    | with_reducible refine Follows.ite ?_ ?_
    | with_reducible exact Follows.set_pci (by assumption) (lor_sub (by decide) hU)
    | (with_reducible refine Follows.set_pci ?_ (lor_sub (by decide) hU); first | with_reducible refine aerUncorr_follows ?_ (lor_sub (by decide) hU) | with_reducible refine when_follows ?_ ?_ | with_reducible refine lower_follows ?_ (lor_sub (by decide) hU) | with_reducible refine poisonReceived_follows ?_ (lor_sub (by decide) hU) | with_reducible refine bump_follows ?_ (lor_sub (by decide) hU) | with_reducible refine inputFails_follows ?_ (lor_sub (by decide) hU) | with_reducible refine Follows.ite ?_ ?_ | with_reducible exact Follows.refl _ _)
    | split
    | (extract_lets +onlyGivenNames x; refine Follows.cut (x := x) ?_ ?_; rotate_left; clear_value x; intro _; rotate_right; subst x)
    | (extract_lets +onlyGivenNames x; clear_value x)
    | with_reducible exact Follows.refl _ _

theorem completionTimeout_follows {tag : Nat} {U : Nat} {r s : State} (h : Follows U r s) (hU : 50332097 ||| U = U) :
    Follows U r (completionTimeout tag s) := by
  unfold completionTimeout
  repeat' first
    | with_reducible assumption
    | intro _
    | with_reducible refine lower_follows ?_ (lor_sub (by decide) hU)
    | with_reducible refine aerUncorr_follows ?_ (lor_sub (by decide) hU)
    | with_reducible refine when_follows ?_ ?_
    | with_reducible refine pciEvent_follows ?_ (lor_sub (by decide) hU)
    | with_reducible refine inputFails_follows ?_ (lor_sub (by decide) hU)
    | with_reducible refine Follows.ite ?_ ?_
    | with_reducible exact Follows.set_pci (by assumption) (lor_sub (by decide) hU)
    | (with_reducible refine Follows.set_pci ?_ (lor_sub (by decide) hU); first | with_reducible refine lower_follows ?_ (lor_sub (by decide) hU) | with_reducible refine aerUncorr_follows ?_ (lor_sub (by decide) hU) | with_reducible refine when_follows ?_ ?_ | with_reducible refine pciEvent_follows ?_ (lor_sub (by decide) hU) | with_reducible refine inputFails_follows ?_ (lor_sub (by decide) hU) | with_reducible refine Follows.ite ?_ ?_ | with_reducible exact Follows.refl _ _)
    | split
    | (extract_lets +onlyGivenNames x; refine Follows.cut (x := x) ?_ ?_; rotate_left; clear_value x; intro _; rotate_right; subst x)
    | (extract_lets +onlyGivenNames x; clear_value x)
    | with_reducible exact Follows.refl _ _

theorem poisonedWrite_follows {bar off : Nat} {U : Nat} {r s : State} (h : Follows U r s) (hU : 58721217 ||| U = U) :
    Follows U r (poisonedWrite bar off s) := by
  unfold poisonedWrite
  repeat' first
    | with_reducible assumption
    | intro _
    | with_reducible refine poisonReceived_follows ?_ (lor_sub (by decide) hU)
    | with_reducible refine setSlot_follows ?_ (lor_sub (by decide) hU)
    | with_reducible refine bootRefuse_follows ?_ (lor_sub (by decide) hU)
    | with_reducible refine Follows.ite ?_ ?_
    | split
    | (extract_lets +onlyGivenNames x; refine Follows.cut (x := x) ?_ ?_; rotate_left; clear_value x; intro _; rotate_right; subst x)
    | (extract_lets +onlyGivenNames x; clear_value x)
    | with_reducible exact Follows.refl _ _

theorem scopeWrite_follows {value : Nat} {U : Nat} {r s : State} (h : Follows U r s) (hU : 1 ||| U = U) :
    Follows U r (scopeWrite value s) := by
  unfold scopeWrite
  repeat' first
    | with_reducible assumption
    | intro _
    | with_reducible refine wr_follows ?_ (lor_sub (by decide) hU)
    | with_reducible refine Follows.ite ?_ ?_
    | split
    | with_reducible exact Follows.refl _ _

end Sys2Proof.Machine
end

