-- ==== Sys2Proof/Laws/FollowsPower.lean ====
section
/-!
SUPPORT. Laws/FollowsPower.lean: the operations of Machine/Power.lean keep what `Follows` states.
-/

namespace Sys2Proof.Machine

open Sys2Proof

theorem unitRefuse_follows {seat u source : Nat} {U : Nat} {r s : State} (h : Follows U r s) (hU : 1 ||| U = U) :
    Follows U r (unitRefuse seat u source s) := by
  unfold unitRefuse
  repeat' first
    | with_reducible assumption
    | intro _
    | with_reducible refine bump_follows ?_ (lor_sub (by decide) hU)
    | with_reducible refine wr_follows ?_ (lor_sub (by decide) hU)
    | split
    | with_reducible exact Follows.refl _ _

theorem unitAbort_follows {seat u source : Nat} {U : Nat} {r s : State} (h : Follows U r s) (hU : 1 ||| U = U) :
    Follows U r (unitAbort seat u source s) := by
  unfold unitAbort
  repeat' first
    | with_reducible assumption
    | intro _
    | with_reducible refine bump_follows ?_ (lor_sub (by decide) hU)
    | with_reducible refine wr_follows ?_ (lor_sub (by decide) hU)
    | split
    | with_reducible exact Follows.refl _ _

theorem paddleEntry_follows {seat u : Nat} {work abort : Option Nat} {U : Nat} {r s : State} (h : Follows U r s) (hU : 1 ||| U = U) :
    Follows U r (paddleEntry seat u work abort s) := by
  unfold paddleEntry
  repeat' first
    | with_reducible assumption
    | intro _
    | with_reducible refine unitRefuse_follows ?_ (lor_sub (by decide) hU)
    | with_reducible refine unitAbort_follows ?_ (lor_sub (by decide) hU)
    | with_reducible refine wr_follows ?_ (lor_sub (by decide) hU)
    | with_reducible refine Follows.ite ?_ ?_
    | split
    | with_reducible exact Follows.refl _ _

theorem easyLoses_follows {seat u : Nat} {U : Nat} {r s : State} (h : Follows U r s) (hU : 8716289 ||| U = U) :
    Follows U r (easyLoses seat u s) := by
  unfold easyLoses
  repeat' first
    | with_reducible assumption
    | intro _
    | with_reducible refine wr_follows ?_ (lor_sub (by decide) hU)
    | with_reducible refine setTc_follows ?_ (lor_sub (by decide) hU)
    | with_reducible exact Follows.set_keys (by assumption) (lor_sub (by decide) hU)
    | (with_reducible refine Follows.set_keys ?_ (lor_sub (by decide) hU); first | with_reducible refine wr_follows ?_ (lor_sub (by decide) hU) | with_reducible refine setTc_follows ?_ (lor_sub (by decide) hU) | with_reducible exact Follows.refl _ _)
    | with_reducible exact Follows.set_par (by assumption) (lor_sub (by decide) hU)
    | (with_reducible refine Follows.set_par ?_ (lor_sub (by decide) hU); first | with_reducible refine wr_follows ?_ (lor_sub (by decide) hU) | with_reducible refine setTc_follows ?_ (lor_sub (by decide) hU) | with_reducible exact Follows.refl _ _)
    | split
    | (extract_lets +onlyGivenNames x; refine Follows.cut (x := x) ?_ ?_; rotate_left; clear_value x; intro _; rotate_right; subst x)
    | (extract_lets +onlyGivenNames x; clear_value x)
    | with_reducible exact Follows.refl _ _

theorem easyEntry_follows {seat u : Nat} {work abort : Option Nat} {U : Nat} {r s : State} (h : Follows U r s) (hU : 8716289 ||| U = U) :
    Follows U r (easyEntry seat u work abort s) := by
  unfold easyEntry
  repeat' first
    | with_reducible assumption
    | intro _
    | with_reducible refine unitRefuse_follows ?_ (lor_sub (by decide) hU)
    | with_reducible refine unitAbort_follows ?_ (lor_sub (by decide) hU)
    | with_reducible refine wr_follows ?_ (lor_sub (by decide) hU)
    | with_reducible refine easyLoses_follows ?_ (lor_sub (by decide) hU)
    | with_reducible refine Follows.ite ?_ ?_
    | split
    | with_reducible exact Follows.refl _ _

theorem hldEvent_follows {ev : Fld} {bit : Nat} {U : Nat} {r s : State} (h : Follows U r s) (hU : 16777537 ||| U = U) :
    Follows U r (hldEvent ev bit s) := by
  unfold hldEvent
  repeat' first
    | with_reducible assumption
    | intro _
    | with_reducible refine event_follows ?_ (lor_sub (by decide) hU)
    | split
    | with_reducible exact Follows.refl _ _

theorem imageBegin_follows {seat side : Nat} {U : Nat} {r s : State} (h : Follows U r s) (hU : 66561 ||| U = U) :
    Follows U r (imageBegin seat side s) := by
  unfold imageBegin
  repeat' first
    | with_reducible assumption
    | intro _
    | with_reducible refine foldS_follows ?_ ?_
    | with_reducible refine pageClose_follows ?_ (lor_sub (by decide) hU)
    | with_reducible refine ancWrote_follows ?_ (lor_sub (by decide) hU)
    | with_reducible refine foldl_follows ?_ ?_
    | with_reducible refine Follows.ite ?_ ?_
    | with_reducible exact Follows.set_pwr (by assumption) (lor_sub (by decide) hU)
    | (with_reducible refine Follows.set_pwr ?_ (lor_sub (by decide) hU); first | with_reducible refine foldS_follows ?_ ?_ | with_reducible refine pageClose_follows ?_ (lor_sub (by decide) hU) | with_reducible refine ancWrote_follows ?_ (lor_sub (by decide) hU) | with_reducible refine foldl_follows ?_ ?_ | with_reducible refine Follows.ite ?_ ?_ | with_reducible exact Follows.refl _ _)
    | split
    | (extract_lets +onlyGivenNames x; refine Follows.cut (x := x) ?_ ?_; rotate_left; clear_value x; intro _; rotate_right; subst x)
    | (extract_lets +onlyGivenNames x; clear_value x)
    | refine Follows.snd (by assumption) ?_
    | refine Follows.fst (by assumption) ?_
    | dsimp only
    | with_reducible exact Follows.refl _ _

theorem erasesSuspend_follows  {U : Nat} {r s : State} (h : Follows U r s) (hU : 18350081 ||| U = U) :
    Follows U r (erasesSuspend s) := by
  unfold erasesSuspend
  repeat' first
    | with_reducible assumption
    | intro _
    | with_reducible refine foldS_follows ?_ ?_
    | with_reducible refine when_follows ?_ ?_
    | with_reducible refine dieSuspend_follows ?_ (lor_sub (by decide) hU)
    | split
    | (extract_lets +onlyGivenNames x; refine Follows.cut (x := x) ?_ ?_; rotate_left; clear_value x; intro _; rotate_right; subst x)
    | (extract_lets +onlyGivenNames x; clear_value x)
    | with_reducible exact Follows.refl _ _

theorem haulDone_follows  {U : Nat} {r s : State} (h : Follows U r s) (hU : 16777729 ||| U = U) :
    Follows U r (haulDone s) := by
  unfold haulDone
  repeat' first
    | with_reducible assumption
    | intro _
    | with_reducible refine wr_follows ?_ (lor_sub (by decide) hU)
    | with_reducible refine linksQuiet_follows ?_ (lor_sub (by decide) hU)
    | with_reducible refine emit_follows ?_ (lor_sub (by decide) hU)
    | with_reducible exact Follows.set_boot (by assumption) (lor_sub (by decide) hU)
    | (with_reducible refine Follows.set_boot ?_ (lor_sub (by decide) hU); first | with_reducible refine wr_follows ?_ (lor_sub (by decide) hU) | with_reducible refine linksQuiet_follows ?_ (lor_sub (by decide) hU) | with_reducible refine emit_follows ?_ (lor_sub (by decide) hU) | with_reducible exact Follows.refl _ _)
    | split
    | (extract_lets +onlyGivenNames x; refine Follows.cut (x := x) ?_ ?_; rotate_left; clear_value x; intro _; rotate_right; subst x)
    | (extract_lets +onlyGivenNames x; clear_value x)
    | with_reducible exact Follows.refl _ _

theorem updStops_follows  {U : Nat} {r s : State} (h : Follows U r s) (hU : 17830209 ||| U = U) :
    Follows U r (updStops s) := by
  unfold updStops
  repeat' first
    | with_reducible assumption
    | intro _
    | with_reducible refine updUnschedule_follows ?_ (lor_sub (by decide) hU)
    | with_reducible refine updEvent_follows ?_ (lor_sub (by decide) hU)
    | with_reducible refine actAbandon_follows ?_ (lor_sub (by decide) hU)
    | with_reducible refine Follows.ite ?_ ?_
    | split
    | with_reducible exact Follows.refl _ _

theorem alertPin_follows {b : Bool} {U : Nat} {r s : State} (h : Follows U r s) (hU : 16778240 ||| U = U) :
    Follows U r (alertPin b s) := by
  unfold alertPin
  repeat' first
    | with_reducible assumption
    | intro _
    | with_reducible refine emit_follows ?_ (lor_sub (by decide) hU)
    | with_reducible refine Follows.ite ?_ ?_
    | with_reducible exact Follows.set_pwr (by assumption) (lor_sub (by decide) hU)
    | (with_reducible refine Follows.set_pwr ?_ (lor_sub (by decide) hU); first | with_reducible refine emit_follows ?_ (lor_sub (by decide) hU) | with_reducible refine Follows.ite ?_ ?_ | with_reducible exact Follows.refl _ _)
    | split
    | (extract_lets +onlyGivenNames x; refine Follows.cut (x := x) ?_ ?_; rotate_left; clear_value x; intro _; rotate_right; subst x)
    | (extract_lets +onlyGivenNames x; clear_value x)
    | with_reducible exact Follows.refl _ _

theorem haulStart_follows {thermal : Bool} {U : Nat} {r s : State} (h : Follows U r s) (hU : 18872129 ||| U = U) :
    Follows U r (haulStart thermal s) := by
  unfold haulStart
  repeat' first
    | with_reducible assumption
    | intro _
    | with_reducible refine foldS_follows ?_ ?_
    | with_reducible refine unitWake_follows ?_ (lor_sub (by decide) hU)
    | with_reducible refine wr_follows ?_ (lor_sub (by decide) hU)
    | with_reducible refine wrB_follows ?_ (lor_sub (by decide) hU)
    | with_reducible refine when_follows ?_ ?_
    | with_reducible refine alertPin_follows ?_ (lor_sub (by decide) hU)
    | with_reducible refine hldEvent_follows ?_ (lor_sub (by decide) hU)
    | with_reducible refine pfrFireWhere_follows ?_ (lor_sub (by decide) hU)
    | with_reducible refine frontEnd_follows ?_ (lor_sub (by decide) hU)
    | with_reducible refine pushesDrop_follows ?_ (lor_sub (by decide) hU)
    | with_reducible refine logsDrop_follows ?_ (lor_sub (by decide) hU)
    | with_reducible refine ingestDrop_follows ?_ (lor_sub (by decide) hU)
    | with_reducible refine dropCmd_follows ?_ (lor_sub (by decide) hU)
    | with_reducible refine updStops_follows ?_ (lor_sub (by decide) hU)
    | with_reducible refine dlogClose_follows ?_ (lor_sub (by decide) hU)
    | with_reducible refine imageBegin_follows ?_ (lor_sub (by decide) hU)
    | with_reducible refine erasesSuspend_follows ?_ (lor_sub (by decide) hU)
    | with_reducible refine haulDone_follows ?_ (lor_sub (by decide) hU)
    | with_reducible refine Follows.ite ?_ ?_
    | with_reducible exact Follows.set_pair (by assumption) (lor_sub (by decide) hU)
    | (with_reducible refine Follows.set_pair ?_ (lor_sub (by decide) hU); first | with_reducible refine foldS_follows ?_ ?_ | with_reducible refine unitWake_follows ?_ (lor_sub (by decide) hU) | with_reducible refine wr_follows ?_ (lor_sub (by decide) hU) | with_reducible refine wrB_follows ?_ (lor_sub (by decide) hU) | with_reducible refine when_follows ?_ ?_ | with_reducible refine alertPin_follows ?_ (lor_sub (by decide) hU) | with_reducible refine hldEvent_follows ?_ (lor_sub (by decide) hU) | with_reducible refine pfrFireWhere_follows ?_ (lor_sub (by decide) hU) | with_reducible refine frontEnd_follows ?_ (lor_sub (by decide) hU) | with_reducible refine pushesDrop_follows ?_ (lor_sub (by decide) hU) | with_reducible refine logsDrop_follows ?_ (lor_sub (by decide) hU) | with_reducible refine ingestDrop_follows ?_ (lor_sub (by decide) hU) | with_reducible refine dropCmd_follows ?_ (lor_sub (by decide) hU) | with_reducible refine updStops_follows ?_ (lor_sub (by decide) hU) | with_reducible refine dlogClose_follows ?_ (lor_sub (by decide) hU) | with_reducible refine imageBegin_follows ?_ (lor_sub (by decide) hU) | with_reducible refine erasesSuspend_follows ?_ (lor_sub (by decide) hU) | with_reducible refine haulDone_follows ?_ (lor_sub (by decide) hU) | with_reducible refine Follows.ite ?_ ?_ | with_reducible exact Follows.refl _ _)
    | split
    | (extract_lets +onlyGivenNames x; refine Follows.cut (x := x) ?_ ?_; rotate_left; clear_value x; intro _; rotate_right; subst x)
    | (extract_lets +onlyGivenNames x; clear_value x)
    | with_reducible exact Follows.refl _ _

theorem imageProgrammed_follows {seat side : Nat} {U : Nat} {r s : State} (h : Follows U r s) (hU : 1025 ||| U = U) :
    Follows U r (imageProgrammed seat side s) := by
  unfold imageProgrammed
  repeat' first
    | with_reducible assumption
    | intro _
    | with_reducible refine wr_follows ?_ (lor_sub (by decide) hU)
    | with_reducible refine Follows.ite ?_ ?_
    | with_reducible exact Follows.set_pwr (by assumption) (lor_sub (by decide) hU)
    | (with_reducible refine Follows.set_pwr ?_ (lor_sub (by decide) hU); first | with_reducible refine wr_follows ?_ (lor_sub (by decide) hU) | with_reducible refine Follows.ite ?_ ?_ | with_reducible exact Follows.refl _ _)
    | split
    | (extract_lets +onlyGivenNames x; refine Follows.cut (x := x) ?_ ?_; rotate_left; clear_value x; intro _; rotate_right; subst x)
    | (extract_lets +onlyGivenNames x; clear_value x)
    | with_reducible exact Follows.refl _ _

theorem markProgrammed_follows {seat side micros : Nat} {U : Nat} {r s : State} (h : Follows U r s) (hU : 16844289 ||| U = U) :
    Follows U r (markProgrammed seat side micros s) := by
  unfold markProgrammed
  repeat' first
    | with_reducible assumption
    | intro _
    | with_reducible refine headsDone_follows ?_ (lor_sub (by decide) hU)
    | with_reducible refine haulDone_follows ?_ (lor_sub (by decide) hU)
    | with_reducible refine Follows.ite ?_ ?_
    | with_reducible exact Follows.set_pwr (by assumption) (lor_sub (by decide) hU)
    | (with_reducible refine Follows.set_pwr ?_ (lor_sub (by decide) hU); first | with_reducible refine headsDone_follows ?_ (lor_sub (by decide) hU) | with_reducible refine haulDone_follows ?_ (lor_sub (by decide) hU) | with_reducible refine Follows.ite ?_ ?_ | with_reducible exact Follows.refl _ _)
    | split
    | (extract_lets +onlyGivenNames x; refine Follows.cut (x := x) ?_ ?_; rotate_left; clear_value x; intro _; rotate_right; subst x)
    | (extract_lets +onlyGivenNames x; clear_value x)
    | with_reducible exact Follows.refl _ _

theorem tempTake_follows {seat t : Nat} {U : Nat} {r s : State} (h : Follows U r s) (hU : 1025 ||| U = U) :
    Follows U r (tempTake seat t s) := by
  unfold tempTake
  repeat' first
    | with_reducible assumption
    | intro _
    | with_reducible refine wr_follows ?_ (lor_sub (by decide) hU)
    | with_reducible refine wrB_follows ?_ (lor_sub (by decide) hU)
    | with_reducible refine when_follows ?_ ?_
    | with_reducible refine bump_follows ?_ (lor_sub (by decide) hU)
    | with_reducible refine Follows.ite ?_ ?_
    | with_reducible exact Follows.set_pwr (by assumption) (lor_sub (by decide) hU)
    | (with_reducible refine Follows.set_pwr ?_ (lor_sub (by decide) hU); first | with_reducible refine wr_follows ?_ (lor_sub (by decide) hU) | with_reducible refine wrB_follows ?_ (lor_sub (by decide) hU) | with_reducible refine when_follows ?_ ?_ | with_reducible refine bump_follows ?_ (lor_sub (by decide) hU) | with_reducible refine Follows.ite ?_ ?_ | with_reducible exact Follows.refl _ _)
    | split
    | (extract_lets +onlyGivenNames x; refine Follows.cut (x := x) ?_ ?_; rotate_left; clear_value x; intro _; rotate_right; subst x)
    | (extract_lets +onlyGivenNames x; clear_value x)
    | with_reducible exact Follows.refl _ _

theorem tempsEdge_follows {temps : List Nat} {U : Nat} {r s : State} (h : Follows U r s) (hU : 16778561 ||| U = U) :
    Follows U r (tempsEdge temps s) := by
  unfold tempsEdge
  repeat' first
    | with_reducible assumption
    | intro _
    | with_reducible refine foldS_follows ?_ ?_
    | with_reducible refine tempTake_follows ?_ (lor_sub (by decide) hU)
    | with_reducible refine when_follows ?_ ?_
    | with_reducible refine faultNote_follows ?_ (lor_sub (by decide) hU)
    | with_reducible refine coxRaise_follows ?_ (lor_sub (by decide) hU)
    | with_reducible refine wrB_follows ?_ (lor_sub (by decide) hU)
    | with_reducible refine alertPin_follows ?_ (lor_sub (by decide) hU)
    | with_reducible refine Follows.ite ?_ ?_
    | split
    | (extract_lets +onlyGivenNames x; refine Follows.cut (x := x) ?_ ?_; rotate_left; clear_value x; intro _; rotate_right; subst x)
    | (extract_lets +onlyGivenNames x; clear_value x)
    | refine Follows.snd (by assumption) ?_
    | refine Follows.fst (by assumption) ?_
    | dsimp only
    | with_reducible exact Follows.refl _ _

theorem brownOut_follows {rail : Nat} {U : Nat} {r s : State} (h : Follows U r s) (hU : 33554431 ||| U = U) :
    Follows U r (brownOut rail s) := by
  unfold brownOut
  repeat' first
    | with_reducible assumption
    | intro _
    | with_reducible refine fullReset_follows ?_ (lor_sub (by decide) hU)
    | with_reducible refine wr_follows ?_ (lor_sub (by decide) hU)
    | with_reducible refine wrBit_follows ?_ (lor_sub (by decide) hU)
    | with_reducible refine Follows.ite ?_ ?_
    | with_reducible exact Follows.set_hw_pci (by assumption) (lor_sub (by decide) hU) rfl
    | (with_reducible refine Follows.set_hw_pci ?_ (lor_sub (by decide) hU) rfl; first | with_reducible refine fullReset_follows ?_ (lor_sub (by decide) hU) | with_reducible refine wr_follows ?_ (lor_sub (by decide) hU) | with_reducible refine wrBit_follows ?_ (lor_sub (by decide) hU) | with_reducible refine Follows.ite ?_ ?_ | with_reducible exact Follows.refl _ _)
    | split
    | (extract_lets +onlyGivenNames x; refine Follows.cut (x := x) ?_ ?_; rotate_left; clear_value x; intro _; rotate_right; subst x)
    | (extract_lets +onlyGivenNames x; clear_value x)
    | with_reducible exact Follows.refl _ _

theorem supplyBack_follows {rail : Nat} {b : BootRom} {U : Nat} {r s : State} (h : Follows U r s) (hU : 50332493 ||| U = U) :
    Follows U r (supplyBack rail b s) := by
  unfold supplyBack
  repeat' first
    | with_reducible assumption
    | intro _
    | with_reducible refine wrBit_follows ?_ (lor_sub (by decide) hU)
    | with_reducible refine bootStart_follows ?_ (lor_sub (by decide) hU)
    | with_reducible refine Follows.ite ?_ ?_
    | with_reducible exact Follows.set_hw (by assumption) (lor_sub (by decide) hU) rfl
    | (with_reducible refine Follows.set_hw ?_ (lor_sub (by decide) hU) rfl; first | with_reducible refine wrBit_follows ?_ (lor_sub (by decide) hU) | with_reducible refine bootStart_follows ?_ (lor_sub (by decide) hU) | with_reducible refine Follows.ite ?_ ?_ | with_reducible exact Follows.refl _ _)
    | split
    | (extract_lets +onlyGivenNames x; refine Follows.cut (x := x) ?_ ?_; rotate_left; clear_value x; intro _; rotate_right; subst x)
    | (extract_lets +onlyGivenNames x; clear_value x)
    | with_reducible exact Follows.refl _ _

end Sys2Proof.Machine
end

