-- ==== Sys2Proof/Laws/FollowsHealth.lean ====
section
/-!
SUPPORT. Laws/FollowsHealth.lean: the operations of Machine/Health.lean keep what `Follows` states.
-/

namespace Sys2Proof.Machine

open Sys2Proof

theorem pfrClear_follows {seat : Nat} {U : Nat} {r s : State} (h : Follows U r s) (hU : 65 ||| U = U) :
    Follows U r (pfrClear seat s) := by
  unfold pfrClear
  repeat' first
    | with_reducible assumption
    | intro _
    | with_reducible refine wr_follows ?_ (lor_sub (by decide) hU)
    | with_reducible exact Follows.set_health (by assumption) (lor_sub (by decide) hU)
    | (with_reducible refine Follows.set_health ?_ (lor_sub (by decide) hU); first | with_reducible refine wr_follows ?_ (lor_sub (by decide) hU) | with_reducible exact Follows.refl _ _)
    | split
    | (extract_lets +onlyGivenNames x; refine Follows.cut (x := x) ?_ ?_; rotate_left; clear_value x; intro _; rotate_right; subst x)
    | (extract_lets +onlyGivenNames x; clear_value x)
    | with_reducible exact Follows.refl _ _

theorem pfrDisarm_follows {seat : Nat} {U : Nat} {r s : State} (h : Follows U r s) (hU : 65 ||| U = U) :
    Follows U r (pfrDisarm seat s) := by
  unfold pfrDisarm
  repeat' first
    | with_reducible assumption
    | intro _
    | with_reducible refine showTriggers_follows ?_ (lor_sub (by decide) hU)
    | with_reducible refine foldS_follows ?_ ?_
    | with_reducible refine wr_follows ?_ (lor_sub (by decide) hU)
    | with_reducible exact Follows.set_health (by assumption) (lor_sub (by decide) hU)
    | (with_reducible refine Follows.set_health ?_ (lor_sub (by decide) hU); first | with_reducible refine showTriggers_follows ?_ (lor_sub (by decide) hU) | with_reducible refine foldS_follows ?_ ?_ | with_reducible refine wr_follows ?_ (lor_sub (by decide) hU) | with_reducible exact Follows.refl _ _)
    | split
    | (extract_lets +onlyGivenNames x; refine Follows.cut (x := x) ?_ ?_; rotate_left; clear_value x; intro _; rotate_right; subst x)
    | (extract_lets +onlyGivenNames x; clear_value x)
    | with_reducible exact Follows.refl _ _

theorem pfrSoft_follows {seat mask : Nat} {U : Nat} {r s : State} (h : Follows U r s) (hU : 16777281 ||| U = U) :
    Follows U r (pfrSoft seat mask s) := by
  unfold pfrSoft
  repeat' first
    | with_reducible assumption
    | intro _
    | with_reducible refine foldS_follows ?_ ?_
    | with_reducible refine pfrFire_follows ?_ (lor_sub (by decide) hU)
    | with_reducible refine Follows.ite ?_ ?_
    | split
    | with_reducible exact Follows.refl _ _

theorem pfrSelect_follows {seat record : Nat} {U : Nat} {r s : State} (h : Follows U r s) (hU : 1 ||| U = U) :
    Follows U r (pfrSelect seat record s) := by
  unfold pfrSelect
  repeat' first
    | with_reducible assumption
    | intro _
    | with_reducible refine foldS_follows ?_ ?_
    | with_reducible refine wr_follows ?_ (lor_sub (by decide) hU)
    | split
    | (extract_lets +onlyGivenNames x; refine Follows.cut (x := x) ?_ ?_; rotate_left; clear_value x; intro _; rotate_right; subst x)
    | (extract_lets +onlyGivenNames x; clear_value x)
    | with_reducible exact Follows.refl _ _

theorem answerOpen_follows {fields : List Nat} {U : Nat} {r s : State} (h : Follows U r s) (hU : 50331649 ||| U = U) :
    Follows U r (answerOpen fields s) := by
  unfold answerOpen
  repeat' first
    | with_reducible assumption
    | intro _
    | with_reducible refine mctpSend_follows ?_ (lor_sub (by decide) hU)
    | with_reducible refine openValue_follows ?_ (lor_sub (by decide) hU)
    | split
    | refine Follows.snd (by assumption) ?_
    | refine Follows.fst (by assumption) ?_
    | dsimp only
    | with_reducible exact Follows.refl _ _

theorem eventOut_follows  {U : Nat} {r s : State} (h : Follows U r s) (hU : 16777281 ||| U = U) :
    Follows U r (eventOut s) := by
  unfold eventOut
  repeat' first
    | with_reducible assumption
    | intro _
    | with_reducible refine mctpSend_follows ?_ (lor_sub (by decide) hU)
    | with_reducible refine Follows.ite ?_ ?_
    | with_reducible exact Follows.set_health (by assumption) (lor_sub (by decide) hU)
    | (with_reducible refine Follows.set_health ?_ (lor_sub (by decide) hU); first | with_reducible refine mctpSend_follows ?_ (lor_sub (by decide) hU) | with_reducible refine Follows.ite ?_ ?_ | with_reducible exact Follows.refl _ _)
    | split
    | (extract_lets +onlyGivenNames x; refine Follows.cut (x := x) ?_ ?_; rotate_left; clear_value x; intro _; rotate_right; subst x)
    | (extract_lets +onlyGivenNames x; clear_value x)
    | with_reducible exact Follows.refl _ _

theorem eventNext_follows  {U : Nat} {r s : State} (h : Follows U r s) (hU : 16777281 ||| U = U) :
    Follows U r (eventNext s) := by
  unfold eventNext
  repeat' first
    | with_reducible assumption
    | intro _
    | with_reducible refine eventOut_follows ?_ (lor_sub (by decide) hU)
    | with_reducible refine Follows.ite ?_ ?_
    | split
    | with_reducible exact Follows.refl _ _

theorem eventAdd_follows {sensor value : Nat} {U : Nat} {r s : State} (h : Follows U r s) (hU : 16777281 ||| U = U) :
    Follows U r (eventAdd sensor value s) := by
  unfold eventAdd
  repeat' first
    | with_reducible assumption
    | intro _
    | with_reducible refine when_follows ?_ ?_
    | with_reducible refine bump_follows ?_ (lor_sub (by decide) hU)
    | with_reducible refine eventNext_follows ?_ (lor_sub (by decide) hU)
    | with_reducible refine Follows.ite ?_ ?_
    | with_reducible exact Follows.set_health (by assumption) (lor_sub (by decide) hU)
    | (with_reducible refine Follows.set_health ?_ (lor_sub (by decide) hU); first | with_reducible refine when_follows ?_ ?_ | with_reducible refine bump_follows ?_ (lor_sub (by decide) hU) | with_reducible refine eventNext_follows ?_ (lor_sub (by decide) hU) | with_reducible refine Follows.ite ?_ ?_ | with_reducible exact Follows.refl _ _)
    | split
    | (extract_lets +onlyGivenNames x; refine Follows.cut (x := x) ?_ ?_; rotate_left; clear_value x; intro _; rotate_right; subst x)
    | (extract_lets +onlyGivenNames x; clear_value x)
    | with_reducible exact Follows.refl _ _

theorem sensorsEdge_follows  {U : Nat} {r s : State} (h : Follows U r s) (hU : 16777281 ||| U = U) :
    Follows U r (sensorsEdge s) := by
  unfold sensorsEdge
  repeat' first
    | with_reducible assumption
    | intro _
    | with_reducible refine when_follows ?_ ?_
    | with_reducible refine foldS_follows ?_ ?_
    | with_reducible refine eventAdd_follows ?_ (lor_sub (by decide) hU)
    | with_reducible refine Follows.ite ?_ ?_
    | with_reducible exact Follows.set_health (by assumption) (lor_sub (by decide) hU)
    | (with_reducible refine Follows.set_health ?_ (lor_sub (by decide) hU); first | with_reducible refine when_follows ?_ ?_ | with_reducible refine foldS_follows ?_ ?_ | with_reducible refine eventAdd_follows ?_ (lor_sub (by decide) hU) | with_reducible refine Follows.ite ?_ ?_ | with_reducible exact Follows.refl _ _)
    | split
    | (extract_lets +onlyGivenNames x; refine Follows.cut (x := x) ?_ ?_; rotate_left; clear_value x; intro _; rotate_right; subst x)
    | (extract_lets +onlyGivenNames x; clear_value x)
    | refine Follows.snd (by assumption) ?_
    | refine Follows.fst (by assumption) ?_
    | dsimp only
    | with_reducible exact Follows.refl _ _

end Sys2Proof.Machine
end

