-- ==== Sys2Proof/Laws/FollowsSpdm.lean ====
section
/-!
SUPPORT. Laws/FollowsSpdm.lean: the operations of Machine/Spdm.lean keep what `Follows` states.
-/

namespace Sys2Proof.Machine

open Sys2Proof

theorem spdmSend_follows {mctp : Bool} {fields : List Nat} {U : Nat} {r s : State} (h : Follows U r s) (hU : 16777473 ||| U = U) :
    Follows U r (spdmSend mctp fields s) := by
  unfold spdmSend
  repeat' first
    | with_reducible assumption
    | intro _
    | with_reducible refine mctpSend_follows ?_ (lor_sub (by decide) hU)
    | with_reducible refine emit_follows ?_ (lor_sub (by decide) hU)
    | with_reducible refine Follows.ite ?_ ?_
    | with_reducible exact Follows.set_pci (by assumption) (lor_sub (by decide) hU)
    | (with_reducible refine Follows.set_pci ?_ (lor_sub (by decide) hU); first | with_reducible refine mctpSend_follows ?_ (lor_sub (by decide) hU) | with_reducible refine emit_follows ?_ (lor_sub (by decide) hU) | with_reducible refine Follows.ite ?_ ?_ | with_reducible exact Follows.refl _ _)
    | split
    | (extract_lets +onlyGivenNames x; refine Follows.cut (x := x) ?_ ?_; rotate_left; clear_value x; intro _; rotate_right; subst x)
    | (extract_lets +onlyGivenNames x; clear_value x)
    | with_reducible exact Follows.refl _ _

theorem spdmError_follows {mctp : Bool} {code : Nat} {U : Nat} {r s : State} (h : Follows U r s) (hU : 16777473 ||| U = U) :
    Follows U r (spdmError mctp code s) := by
  unfold spdmError
  repeat' first
    | with_reducible assumption
    | intro _
    | with_reducible refine spdmSend_follows ?_ (lor_sub (by decide) hU)
    | split
    | with_reducible exact Follows.refl _ _

theorem setConn_follows {mctp : Bool} {c : SpdmConn} {U : Nat} {r s : State} (h : Follows U r s) (hU : 8388608 ||| U = U) :
    Follows U r (setConn mctp c s) := by
  unfold setConn
  repeat' first
    | with_reducible assumption
    | intro _
    | with_reducible exact Follows.set_keys (by assumption) (lor_sub (by decide) hU)
    | (with_reducible refine Follows.set_keys ?_ (lor_sub (by decide) hU); first | with_reducible exact Follows.refl _ _)
    | split
    | (extract_lets +onlyGivenNames x; refine Follows.cut (x := x) ?_ ?_; rotate_left; clear_value x; intro _; rotate_right; subst x)
    | (extract_lets +onlyGivenNames x; clear_value x)
    | with_reducible exact Follows.refl _ _

theorem spdmTake_follows {mctp : Bool} {f : State → State} {U : Nat} {r s : State} (h : Follows U r s) (hf : ∀ x0, Follows U r x0 → Follows U r (f x0)) (hU : 1 ||| U = U) :
    Follows U r (spdmTake mctp f s) := by
  unfold spdmTake
  repeat' first
    | with_reducible assumption
    | intro _
    | with_reducible refine bump_follows ?_ (lor_sub (by decide) hU)
    | with_reducible refine Follows.ite ?_ ?_
    | refine hf _ ?_
    | split
    | refine Follows.snd (by assumption) ?_
    | refine Follows.fst (by assumption) ?_
    | dsimp only
    | with_reducible exact Follows.refl _ _

theorem spdmAgreed_follows {mctp : Bool} {f : SpdmConn → State → State} {U : Nat} {r s : State} (h : Follows U r s) (hf : ∀ x0 x1, Follows U r x1 → Follows U r (f x0 x1)) (hU : 16777473 ||| U = U) :
    Follows U r (spdmAgreed mctp f s) := by
  unfold spdmAgreed
  repeat' first
    | with_reducible assumption
    | intro _
    | with_reducible refine spdmTake_follows ?_ ?_ (lor_sub (by decide) hU)
    | with_reducible refine spdmError_follows ?_ (lor_sub (by decide) hU)
    | with_reducible refine Follows.ite ?_ ?_
    | refine hf _ _ ?_
    | split
    | refine Follows.snd (by assumption) ?_
    | refine Follows.fst (by assumption) ?_
    | dsimp only
    | with_reducible exact Follows.refl _ _

theorem spdmSigned_follows {mctp : Bool} {c : SpdmConn} {t : Nat} {fields : List Nat} {U : Nat} {r s : State} (h : Follows U r s) (hU : 25166081 ||| U = U) :
    Follows U r (spdmSigned mctp c t fields s) := by
  unfold spdmSigned
  repeat' first
    | with_reducible assumption
    | intro _
    | with_reducible refine setConn_follows ?_ (lor_sub (by decide) hU)
    | with_reducible refine spdmSend_follows ?_ (lor_sub (by decide) hU)
    | split
    | (extract_lets +onlyGivenNames x; refine Follows.cut (x := x) ?_ ?_; rotate_left; clear_value x; intro _; rotate_right; subst x)
    | (extract_lets +onlyGivenNames x; clear_value x)
    | with_reducible exact Follows.refl _ _

theorem secureShow_follows  {U : Nat} {r s : State} (h : Follows U r s) (hU : 1 ||| U = U) :
    Follows U r (secureShow s) := by
  unfold secureShow
  repeat' first
    | with_reducible assumption
    | intro _
    | with_reducible refine wrB_follows ?_ (lor_sub (by decide) hU)
    | split
    | refine Follows.snd (by assumption) ?_
    | refine Follows.fst (by assumption) ?_
    | dsimp only
    | with_reducible exact Follows.refl _ _

theorem sessionEvent_follows  {U : Nat} {r s : State} (h : Follows U r s) (hU : 16777537 ||| U = U) :
    Follows U r (sessionEvent s) := by
  unfold sessionEvent
  repeat' first
    | with_reducible assumption
    | intro _
    | with_reducible refine keyEvent_follows ?_ (lor_sub (by decide) hU)
    | with_reducible refine secureShow_follows ?_ (lor_sub (by decide) hU)
    | split
    | with_reducible exact Follows.refl _ _

theorem inSession_follows {mctp : Bool} {session : Nat} {f : SpdmSession → State → State} {U : Nat} {r s : State} (h : Follows U r s) (hf : ∀ x0 x1, Follows U r x1 → Follows U r (f x0 x1)) (hU : 16777473 ||| U = U) :
    Follows U r (inSession mctp session f s) := by
  unfold inSession
  repeat' first
    | with_reducible assumption
    | intro _
    | with_reducible refine spdmTake_follows ?_ ?_ (lor_sub (by decide) hU)
    | with_reducible refine spdmError_follows ?_ (lor_sub (by decide) hU)
    | with_reducible refine Follows.ite ?_ ?_
    | refine hf _ _ ?_
    | split
    | refine Follows.snd (by assumption) ?_
    | refine Follows.fst (by assumption) ?_
    | dsimp only
    | with_reducible exact Follows.refl _ _

theorem sessionDrop_follows {session : Nat} {U : Nat} {r s : State} (h : Follows U r s) (hU : 8388608 ||| U = U) :
    Follows U r (sessionDrop session s) := by
  unfold sessionDrop
  repeat' first
    | with_reducible assumption
    | intro _
    | with_reducible exact Follows.set_keys (by assumption) (lor_sub (by decide) hU)
    | (with_reducible refine Follows.set_keys ?_ (lor_sub (by decide) hU); first | with_reducible exact Follows.refl _ _)
    | split
    | (extract_lets +onlyGivenNames x; refine Follows.cut (x := x) ?_ ?_; rotate_left; clear_value x; intro _; rotate_right; subst x)
    | (extract_lets +onlyGivenNames x; clear_value x)
    | with_reducible exact Follows.refl _ _

end Sys2Proof.Machine
end

