-- ==== Sys2Proof/Laws/FollowsKeelCox.lean ====
section
/-!
SUPPORT. Laws/FollowsKeelCox.lean: the operations of Machine/KeelCox.lean keep what `Follows` states.
-/

namespace Sys2Proof.Machine

open Sys2Proof

theorem keelEnd_follows {x y : Nat} {detour : Bool} {U : Nat} {r s : State} (h : Follows U r s) (hU : 1 ||| U = U) :
    Follows U r (keelEnd x y detour s) := by
  unfold keelEnd
  repeat' first
    | with_reducible assumption
    | intro _
    | with_reducible refine wrBit_follows ?_ (lor_sub (by decide) hU)
    | split
    | with_reducible exact Follows.refl _ _

theorem keelRoutes_follows  {U : Nat} {r s : State} (h : Follows U r s) (hU : 1 ||| U = U) :
    Follows U r (keelRoutes s) := by
  unfold keelRoutes
  repeat' first
    | with_reducible assumption
    | intro _
    | with_reducible refine foldS_follows ?_ ?_
    | with_reducible refine wrBit_follows ?_ (lor_sub (by decide) hU)
    | split
    | with_reducible exact Follows.refl _ _

theorem keelLinkFail_follows {x y : Nat} {U : Nat} {r s : State} (h : Follows U r s) (hU : 529 ||| U = U) :
    Follows U r (keelLinkFail x y s) := by
  unfold keelLinkFail
  repeat' first
    | with_reducible assumption
    | intro _
    | with_reducible refine keelEnd_follows ?_ (lor_sub (by decide) hU)
    | with_reducible refine headHalt_follows ?_ (lor_sub (by decide) hU)
    | with_reducible refine keelRoutes_follows ?_ (lor_sub (by decide) hU)
    | with_reducible refine Follows.ite ?_ ?_
    | with_reducible exact Follows.set_keel (by assumption) (lor_sub (by decide) hU)
    | (with_reducible refine Follows.set_keel ?_ (lor_sub (by decide) hU); first | with_reducible refine keelEnd_follows ?_ (lor_sub (by decide) hU) | with_reducible refine headHalt_follows ?_ (lor_sub (by decide) hU) | with_reducible refine keelRoutes_follows ?_ (lor_sub (by decide) hU) | with_reducible refine Follows.ite ?_ ?_ | with_reducible exact Follows.refl _ _)
    | split
    | (extract_lets +onlyGivenNames x; refine Follows.cut (x := x) ?_ ?_; rotate_left; clear_value x; intro _; rotate_right; subst x)
    | (extract_lets +onlyGivenNames x; clear_value x)
    | with_reducible exact Follows.refl _ _

theorem keelFair_follows  {U : Nat} {r s : State} (h : Follows U r s) (hU : 81 ||| U = U) :
    Follows U r (keelFair s) := by
  unfold keelFair
  repeat' first
    | with_reducible assumption
    | intro _
    | with_reducible refine foldS_follows ?_ ?_
    | with_reducible refine wr_follows ?_ (lor_sub (by decide) hU)
    | with_reducible refine when_follows ?_ ?_
    | with_reducible refine bump_follows ?_ (lor_sub (by decide) hU)
    | with_reducible refine logFw_follows ?_ (lor_sub (by decide) hU)
    | with_reducible refine keelMod_follows ?_ (lor_sub (by decide) hU)
    | with_reducible exact Follows.set_keel (by assumption) (lor_sub (by decide) hU)
    | (with_reducible refine Follows.set_keel ?_ (lor_sub (by decide) hU); first | with_reducible refine foldS_follows ?_ ?_ | with_reducible refine wr_follows ?_ (lor_sub (by decide) hU) | with_reducible refine when_follows ?_ ?_ | with_reducible refine bump_follows ?_ (lor_sub (by decide) hU) | with_reducible refine logFw_follows ?_ (lor_sub (by decide) hU) | with_reducible refine keelMod_follows ?_ (lor_sub (by decide) hU) | with_reducible exact Follows.refl _ _)
    | split
    | (extract_lets +onlyGivenNames x; refine Follows.cut (x := x) ?_ ?_; rotate_left; clear_value x; intro _; rotate_right; subst x)
    | (extract_lets +onlyGivenNames x; clear_value x)
    | with_reducible exact Follows.refl _ _

theorem coxFault_follows {gap : Nat} {U : Nat} {r s : State} (h : Follows U r s) (hU : 17830753 ||| U = U) :
    Follows U r (coxFault gap s) := by
  unfold coxFault
  repeat' first
    | with_reducible assumption
    | intro _
    | with_reducible refine actRollback_follows ?_ (lor_sub (by decide) hU)
    | with_reducible refine coxFaults_follows ?_ (lor_sub (by decide) hU)
    | with_reducible refine Follows.ite ?_ ?_
    | split
    | with_reducible exact Follows.refl _ _

end Sys2Proof.Machine
end

