-- ==== Sys2Proof/Laws/FollowsStroke.lean ====
section
/-!
SUPPORT. Laws/FollowsStroke.lean: the operations of Machine/Stroke.lean keep what `Follows` states.
-/

namespace Sys2Proof.Machine

open Sys2Proof

theorem inputMod_follows {i : Input} {f : StkInput → StkInput} {U : Nat} {r s : State} (h : Follows U r s) (hU : 8 ||| U = U) :
    Follows U r (inputMod i f s) := by
  unfold inputMod
  repeat' first
    | with_reducible assumption
    | intro _
    | with_reducible exact Follows.set_stk (by assumption) (lor_sub (by decide) hU) rfl
    | (with_reducible refine Follows.set_stk ?_ (lor_sub (by decide) hU) rfl; first | with_reducible exact Follows.refl _ _)
    | split
    | (extract_lets +onlyGivenNames x; refine Follows.cut (x := x) ?_ ?_; rotate_left; clear_value x; intro _; rotate_right; subst x)
    | (extract_lets +onlyGivenNames x; clear_value x)
    | with_reducible exact Follows.refl _ _

theorem stkEvent_follows {ev : Fld} {bit : Nat} {U : Nat} {r s : State} (h : Follows U r s) (hU : 16777537 ||| U = U) :
    Follows U r (stkEvent ev bit s) := by
  unfold stkEvent
  repeat' first
    | with_reducible assumption
    | intro _
    | with_reducible refine event_follows ?_ (lor_sub (by decide) hU)
    | split
    | with_reducible exact Follows.refl _ _

theorem setPeriod_follows {p : Nat} {U : Nat} {r s : State} (h : Follows U r s) (hU : 1 ||| U = U) :
    Follows U r (setPeriod p s) := by
  unfold setPeriod
  repeat' first
    | with_reducible assumption
    | intro _
    | with_reducible refine wr_follows ?_ (lor_sub (by decide) hU)
    | split
    | with_reducible exact Follows.refl _ _

theorem periodCheck_follows {i : Input} {U : Nat} {r s : State} (h : Follows U r s) (hU : 16777545 ||| U = U) :
    Follows U r (periodCheck i s) := by
  unfold periodCheck
  repeat' first
    | with_reducible assumption
    | intro _
    | with_reducible refine stkEvent_follows ?_ (lor_sub (by decide) hU)
    | with_reducible refine setPeriod_follows ?_ (lor_sub (by decide) hU)
    | with_reducible refine when_follows ?_ ?_
    | with_reducible refine Follows.ite ?_ ?_
    | with_reducible exact Follows.set_stk (by assumption) (lor_sub (by decide) hU) rfl
    | (with_reducible refine Follows.set_stk ?_ (lor_sub (by decide) hU) rfl; first | with_reducible refine stkEvent_follows ?_ (lor_sub (by decide) hU) | with_reducible refine setPeriod_follows ?_ (lor_sub (by decide) hU) | with_reducible refine when_follows ?_ ?_ | with_reducible refine Follows.ite ?_ ?_ | with_reducible exact Follows.refl _ _)
    | split
    | (extract_lets +onlyGivenNames x; refine Follows.cut (x := x) ?_ ?_; rotate_left; clear_value x; intro _; rotate_right; subst x)
    | (extract_lets +onlyGivenNames x; clear_value x)
    | with_reducible exact Follows.refl _ _

theorem takeRole_follows {i : Input} {U : Nat} {r s : State} (h : Follows U r s) (hU : 9 ||| U = U) :
    Follows U r (takeRole i s) := by
  unfold takeRole
  repeat' first
    | with_reducible assumption
    | intro _
    | with_reducible refine wr_follows ?_ (lor_sub (by decide) hU)
    | with_reducible exact Follows.set_stk (by assumption) (lor_sub (by decide) hU) rfl
    | (with_reducible refine Follows.set_stk ?_ (lor_sub (by decide) hU) rfl; first | with_reducible refine wr_follows ?_ (lor_sub (by decide) hU) | with_reducible exact Follows.refl _ _)
    | split
    | (extract_lets +onlyGivenNames x; refine Follows.cut (x := x) ?_ ?_; rotate_left; clear_value x; intro _; rotate_right; subst x)
    | (extract_lets +onlyGivenNames x; clear_value x)
    | with_reducible exact Follows.refl _ _

theorem switchRole_follows {i : Input} {U : Nat} {r s : State} (h : Follows U r s) (hU : 16777545 ||| U = U) :
    Follows U r (switchRole i s) := by
  unfold switchRole
  repeat' first
    | with_reducible assumption
    | intro _
    | with_reducible refine takeRole_follows ?_ (lor_sub (by decide) hU)
    | with_reducible refine bump_follows ?_ (lor_sub (by decide) hU)
    | with_reducible refine stkEvent_follows ?_ (lor_sub (by decide) hU)
    | with_reducible refine periodCheck_follows ?_ (lor_sub (by decide) hU)
    | with_reducible refine Follows.ite ?_ ?_
    | with_reducible exact Follows.set_stk (by assumption) (lor_sub (by decide) hU) rfl
    | (with_reducible refine Follows.set_stk ?_ (lor_sub (by decide) hU) rfl; first | with_reducible refine takeRole_follows ?_ (lor_sub (by decide) hU) | with_reducible refine bump_follows ?_ (lor_sub (by decide) hU) | with_reducible refine stkEvent_follows ?_ (lor_sub (by decide) hU) | with_reducible refine periodCheck_follows ?_ (lor_sub (by decide) hU) | with_reducible refine Follows.ite ?_ ?_ | with_reducible exact Follows.refl _ _)
    | split
    | (extract_lets +onlyGivenNames x; refine Follows.cut (x := x) ?_ ?_; rotate_left; clear_value x; intro _; rotate_right; subst x)
    | (extract_lets +onlyGivenNames x; clear_value x)
    | with_reducible exact Follows.refl _ _

theorem firstActive_follows {i : Input} {U : Nat} {r s : State} (h : Follows U r s) (hU : 16777545 ||| U = U) :
    Follows U r (firstActive i s) := by
  unfold firstActive
  repeat' first
    | with_reducible assumption
    | intro _
    | with_reducible refine takeRole_follows ?_ (lor_sub (by decide) hU)
    | with_reducible refine wr_follows ?_ (lor_sub (by decide) hU)
    | with_reducible refine stkEvent_follows ?_ (lor_sub (by decide) hU)
    | with_reducible refine periodCheck_follows ?_ (lor_sub (by decide) hU)
    | with_reducible exact Follows.set_stk (by assumption) (lor_sub (by decide) hU) rfl
    | (with_reducible refine Follows.set_stk ?_ (lor_sub (by decide) hU) rfl; first | with_reducible refine takeRole_follows ?_ (lor_sub (by decide) hU) | with_reducible refine wr_follows ?_ (lor_sub (by decide) hU) | with_reducible refine stkEvent_follows ?_ (lor_sub (by decide) hU) | with_reducible refine periodCheck_follows ?_ (lor_sub (by decide) hU) | with_reducible exact Follows.refl _ _)
    | split
    | (extract_lets +onlyGivenNames x; refine Follows.cut (x := x) ?_ ?_; rotate_left; clear_value x; intro _; rotate_right; subst x)
    | (extract_lets +onlyGivenNames x; clear_value x)
    | with_reducible exact Follows.refl _ _

theorem lockLost_follows {i : Input} {U : Nat} {r s : State} (h : Follows U r s) (hU : 16777545 ||| U = U) :
    Follows U r (lockLost i s) := by
  unfold lockLost
  repeat' first
    | with_reducible assumption
    | intro _
    | with_reducible refine wr_follows ?_ (lor_sub (by decide) hU)
    | with_reducible refine stkEvent_follows ?_ (lor_sub (by decide) hU)
    | with_reducible refine bump_follows ?_ (lor_sub (by decide) hU)
    | with_reducible refine durability_follows ?_ (lor_sub (by decide) hU)
    | with_reducible refine switchRole_follows ?_ (lor_sub (by decide) hU)
    | with_reducible refine Follows.ite ?_ ?_
    | with_reducible exact Follows.set_stk (by assumption) (lor_sub (by decide) hU) rfl
    | (with_reducible refine Follows.set_stk ?_ (lor_sub (by decide) hU) rfl; first | with_reducible refine wr_follows ?_ (lor_sub (by decide) hU) | with_reducible refine stkEvent_follows ?_ (lor_sub (by decide) hU) | with_reducible refine bump_follows ?_ (lor_sub (by decide) hU) | with_reducible refine durability_follows ?_ (lor_sub (by decide) hU) | with_reducible refine switchRole_follows ?_ (lor_sub (by decide) hU) | with_reducible refine Follows.ite ?_ ?_ | with_reducible exact Follows.refl _ _)
    | split
    | (extract_lets +onlyGivenNames x; refine Follows.cut (x := x) ?_ ?_; rotate_left; clear_value x; intro _; rotate_right; subst x)
    | (extract_lets +onlyGivenNames x; clear_value x)
    | with_reducible exact Follows.refl _ _

theorem lockTaken_follows {i : Input} {U : Nat} {r s : State} (h : Follows U r s) (hU : 16777545 ||| U = U) :
    Follows U r (lockTaken i s) := by
  unfold lockTaken
  repeat' first
    | with_reducible assumption
    | intro _
    | with_reducible refine wr_follows ?_ (lor_sub (by decide) hU)
    | with_reducible refine inputMod_follows ?_ (lor_sub (by decide) hU)
    | with_reducible refine durability_follows ?_ (lor_sub (by decide) hU)
    | with_reducible exact Follows.set_stk (by assumption) (lor_sub (by decide) hU) rfl
    | (with_reducible refine Follows.set_stk ?_ (lor_sub (by decide) hU) rfl; first | with_reducible refine wr_follows ?_ (lor_sub (by decide) hU) | with_reducible refine inputMod_follows ?_ (lor_sub (by decide) hU) | with_reducible refine durability_follows ?_ (lor_sub (by decide) hU) | with_reducible exact Follows.refl _ _)
    | split
    | (extract_lets +onlyGivenNames x; refine Follows.cut (x := x) ?_ ?_; rotate_left; clear_value x; intro _; rotate_right; subst x)
    | (extract_lets +onlyGivenNames x; clear_value x)
    | with_reducible exact Follows.refl _ _

theorem edgeJudge_follows {i : Input} {interval : Nat} {lead : Int} {U : Nat} {r s : State} (h : Follows U r s) (hU : 16777545 ||| U = U) :
    Follows U r (edgeJudge i interval lead s) := by
  unfold edgeJudge
  repeat' first
    | with_reducible assumption
    | intro _
    | with_reducible refine inputMod_follows ?_ (lor_sub (by decide) hU)
    | with_reducible refine wr_follows ?_ (lor_sub (by decide) hU)
    | with_reducible refine lockLost_follows ?_ (lor_sub (by decide) hU)
    | with_reducible refine lockTaken_follows ?_ (lor_sub (by decide) hU)
    | with_reducible refine Follows.ite ?_ ?_
    | split
    | (extract_lets +onlyGivenNames x; refine Follows.cut (x := x) ?_ ?_; rotate_left; clear_value x; intro _; rotate_right; subst x)
    | (extract_lets +onlyGivenNames x; clear_value x)
    | with_reducible exact Follows.refl _ _

theorem edgeSteer_follows {i : Input} {lead : Int} {U : Nat} {r s : State} (h : Follows U r s) (hU : 9 ||| U = U) :
    Follows U r (edgeSteer i lead s) := by
  unfold edgeSteer
  dsimp only
  repeat' first
    | with_reducible assumption
    | intro _
    | with_reducible refine setPeriod_follows ?_ (lor_sub (by decide) hU)
    | with_reducible refine wr_follows ?_ (lor_sub (by decide) hU)
    | with_reducible refine Follows.ite ?_ ?_
    | with_reducible exact Follows.set_stk (by assumption) (lor_sub (by decide) hU) rfl
    | (with_reducible refine Follows.set_stk ?_ (lor_sub (by decide) hU) rfl; first | with_reducible refine setPeriod_follows ?_ (lor_sub (by decide) hU) | with_reducible refine wr_follows ?_ (lor_sub (by decide) hU) | with_reducible refine Follows.ite ?_ ?_ | with_reducible exact Follows.refl _ _)
    | split
    | with_reducible exact Follows.refl _ _

theorem roleFill_follows  {U : Nat} {r s : State} (h : Follows U r s) (hU : 16777545 ||| U = U) :
    Follows U r (roleFill s) := by
  unfold roleFill
  repeat' first
    | with_reducible assumption
    | intro _
    | with_reducible refine firstActive_follows ?_ (lor_sub (by decide) hU)
    | with_reducible refine Follows.ite ?_ ?_
    | split
    | with_reducible exact Follows.refl _ _

theorem skewShow_follows  {U : Nat} {r s : State} (h : Follows U r s) (hU : 1 ||| U = U) :
    Follows U r (skewShow s) := by
  unfold skewShow
  repeat' first
    | with_reducible assumption
    | intro _
    | with_reducible refine wr_follows ?_ (lor_sub (by decide) hU)
    | with_reducible refine Follows.ite ?_ ?_
    | split
    | with_reducible exact Follows.refl _ _

theorem inputEdges_follows {l : List (Input × Nat × Int)} {U : Nat} {r s : State} (h : Follows U r s) (hU : 16777545 ||| U = U) :
    Follows U r (inputEdges l s) := by
  unfold inputEdges
  repeat' first
    | with_reducible assumption
    | intro _
    | with_reducible refine foldS_follows ?_ ?_
    | with_reducible refine edgeJudge_follows ?_ (lor_sub (by decide) hU)
    | with_reducible refine edgeSteer_follows ?_ (lor_sub (by decide) hU)
    | with_reducible refine roleFill_follows ?_ (lor_sub (by decide) hU)
    | with_reducible refine skewShow_follows ?_ (lor_sub (by decide) hU)
    | with_reducible refine Follows.ite ?_ ?_
    | split
    | (extract_lets +onlyGivenNames x; refine Follows.cut (x := x) ?_ ?_; rotate_left; clear_value x; intro _; rotate_right; subst x)
    | (extract_lets +onlyGivenNames x; clear_value x)
    | refine Follows.snd (by assumption) ?_
    | refine Follows.fst (by assumption) ?_
    | dsimp only
    | with_reducible exact Follows.refl _ _

theorem switchNow_follows  {U : Nat} {r s : State} (h : Follows U r s) (hU : 8 ||| U = U) :
    Follows U r (switchNow s) := by
  unfold switchNow
  repeat' first
    | with_reducible assumption
    | intro _
    | with_reducible refine Follows.ite ?_ ?_
    | with_reducible exact Follows.set_stk (by assumption) (lor_sub (by decide) hU) rfl
    | (with_reducible refine Follows.set_stk ?_ (lor_sub (by decide) hU) rfl; first | with_reducible refine Follows.ite ?_ ?_ | with_reducible exact Follows.refl _ _)
    | split
    | (extract_lets +onlyGivenNames x; refine Follows.cut (x := x) ?_ ?_; rotate_left; clear_value x; intro _; rotate_right; subst x)
    | (extract_lets +onlyGivenNames x; clear_value x)
    | with_reducible exact Follows.refl _ _

theorem schedWrite_follows {i : Nat} {phase : Bool} {value : Nat} {U : Nat} {r s : State} (h : Follows U r s) (hU : 16777539 ||| U = U) :
    Follows U r (schedWrite i phase value s) := by
  unfold schedWrite
  repeat' first
    | with_reducible assumption
    | intro _
    | with_reducible refine stkEvent_follows ?_ (lor_sub (by decide) hU)
    | with_reducible refine waitWrite_follows ?_ (lor_sub (by decide) hU)
    | with_reducible refine Follows.ite ?_ ?_
    | split
    | (extract_lets +onlyGivenNames x; refine Follows.cut (x := x) ?_ ?_; rotate_left; clear_value x; intro _; rotate_right; subst x)
    | (extract_lets +onlyGivenNames x; clear_value x)
    | with_reducible exact Follows.refl _ _

theorem switchEdge_follows  {U : Nat} {r s : State} (h : Follows U r s) (hU : 16777545 ||| U = U) :
    Follows U r (switchEdge s) := by
  unfold switchEdge
  repeat' first
    | with_reducible assumption
    | intro _
    | with_reducible refine switchRole_follows ?_ (lor_sub (by decide) hU)
    | with_reducible refine Follows.ite ?_ ?_
    | with_reducible exact Follows.set_stk (by assumption) (lor_sub (by decide) hU) rfl
    | (with_reducible refine Follows.set_stk ?_ (lor_sub (by decide) hU) rfl; first | with_reducible refine switchRole_follows ?_ (lor_sub (by decide) hU) | with_reducible refine Follows.ite ?_ ?_ | with_reducible exact Follows.refl _ _)
    | split
    | (extract_lets +onlyGivenNames x; refine Follows.cut (x := x) ?_ ?_; rotate_left; clear_value x; intro _; rotate_right; subst x)
    | (extract_lets +onlyGivenNames x; clear_value x)
    | with_reducible exact Follows.refl _ _

theorem rampEdge_follows  {U : Nat} {r s : State} (h : Follows U r s) (hU : 9 ||| U = U) :
    Follows U r (rampEdge s) := by
  unfold rampEdge
  repeat' first
    | with_reducible assumption
    | intro _
    | with_reducible refine setPeriod_follows ?_ (lor_sub (by decide) hU)
    | with_reducible refine Follows.ite ?_ ?_
    | with_reducible exact Follows.set_stk (by assumption) (lor_sub (by decide) hU) rfl
    | (with_reducible refine Follows.set_stk ?_ (lor_sub (by decide) hU) rfl; first | with_reducible refine setPeriod_follows ?_ (lor_sub (by decide) hU) | with_reducible refine Follows.ite ?_ ?_ | with_reducible exact Follows.refl _ _)
    | split
    | (extract_lets +onlyGivenNames x; refine Follows.cut (x := x) ?_ ?_; rotate_left; clear_value x; intro _; rotate_right; subst x)
    | (extract_lets +onlyGivenNames x; clear_value x)
    | with_reducible exact Follows.refl _ _

theorem slewEdge_follows  {U : Nat} {r s : State} (h : Follows U r s) (hU : 9 ||| U = U) :
    Follows U r (slewEdge s) := by
  unfold slewEdge
  repeat' first
    | with_reducible assumption
    | intro _
    | with_reducible refine wr_follows ?_ (lor_sub (by decide) hU)
    | with_reducible refine Follows.ite ?_ ?_
    | with_reducible exact Follows.set_stk (by assumption) (lor_sub (by decide) hU) rfl
    | (with_reducible refine Follows.set_stk ?_ (lor_sub (by decide) hU) rfl; first | with_reducible refine wr_follows ?_ (lor_sub (by decide) hU) | with_reducible refine Follows.ite ?_ ?_ | with_reducible exact Follows.refl _ _)
    | split
    | (extract_lets +onlyGivenNames x; refine Follows.cut (x := x) ?_ ?_; rotate_left; clear_value x; intro _; rotate_right; subst x)
    | (extract_lets +onlyGivenNames x; clear_value x)
    | with_reducible exact Follows.refl _ _

theorem steerEdge_follows  {U : Nat} {r s : State} (h : Follows U r s) (hU : 8 ||| U = U) :
    Follows U r (steerEdge s) := by
  unfold steerEdge
  repeat' first
    | with_reducible assumption
    | intro _
    | with_reducible refine Follows.ite ?_ ?_
    | with_reducible exact Follows.set_stk (by assumption) (lor_sub (by decide) hU) rfl
    | (with_reducible refine Follows.set_stk ?_ (lor_sub (by decide) hU) rfl; first | with_reducible refine Follows.ite ?_ ?_ | with_reducible exact Follows.refl _ _)
    | split
    | (extract_lets +onlyGivenNames x; refine Follows.cut (x := x) ?_ ?_; rotate_left; clear_value x; intro _; rotate_right; subst x)
    | (extract_lets +onlyGivenNames x; clear_value x)
    | with_reducible exact Follows.refl _ _

theorem floorEdge_follows {ok : Bool} {U : Nat} {r s : State} (h : Follows U r s) (hU : 16777545 ||| U = U) :
    Follows U r (floorEdge ok s) := by
  unfold floorEdge
  repeat' first
    | with_reducible assumption
    | intro _
    | with_reducible refine writeFloor_follows ?_ (lor_sub (by decide) hU)
    | with_reducible refine wr_follows ?_ (lor_sub (by decide) hU)
    | with_reducible refine stkEvent_follows ?_ (lor_sub (by decide) hU)
    | with_reducible refine faultNote_follows ?_ (lor_sub (by decide) hU)
    | with_reducible refine foldl_follows ?_ ?_
    | with_reducible refine Follows.ite ?_ ?_
    | split
    | (extract_lets +onlyGivenNames x; refine Follows.cut (x := x) ?_ ?_; rotate_left; clear_value x; intro _; rotate_right; subst x)
    | (extract_lets +onlyGivenNames x; clear_value x)
    | refine Follows.snd (by assumption) ?_
    | refine Follows.fst (by assumption) ?_
    | dsimp only
    | with_reducible exact Follows.refl _ _

end Sys2Proof.Machine
end

