-- ==== Sys2Proof/Laws/FollowsEdge.lean ====
section
/-!
SUPPORT. Laws/FollowsEdge.lean: the operations of Machine/Edge.lean keep what `Follows` states.
-/

namespace Sys2Proof.Machine

open Sys2Proof

theorem slotTakes_follows {keys : List Nat} {n : Nat} {U : Nat} {r s : State} (h : Follows U r s) (hU : 17301505 ||| U = U) :
    Follows U r (slotTakes keys n s) := by
  unfold slotTakes
  repeat' first
    | with_reducible assumption
    | intro _
    | with_reducible refine when_follows ?_ ?_
    | with_reducible refine running_follows ?_ ?_
    | with_reducible refine indSend_follows ?_ (lor_sub (by decide) hU)
    | with_reducible refine powerEdge_follows ?_ (lor_sub (by decide) hU)
    | split
    | with_reducible exact Follows.refl _ _

theorem windowsHold_follows  {U : Nat} {r s : State} (h : Follows U r s) (hU : 8192 ||| U = U) :
    Follows U r (windowsHold s) := by
  unfold windowsHold
  repeat' first
    | with_reducible assumption
    | intro _
    | with_reducible exact Follows.set_fe (by assumption) (lor_sub (by decide) hU)
    | (with_reducible refine Follows.set_fe ?_ (lor_sub (by decide) hU); first | with_reducible exact Follows.refl _ _)
    | split
    | (extract_lets +onlyGivenNames x; refine Follows.cut (x := x) ?_ ?_; rotate_left; clear_value x; intro _; rotate_right; subst x)
    | (extract_lets +onlyGivenNames x; clear_value x)
    | refine Follows.snd (by assumption) ?_
    | refine Follows.fst (by assumption) ?_
    | dsimp only
    | with_reducible exact Follows.refl _ _

theorem writesTake_follows  {U : Nat} {r s : State} (h : Follows U r s) (hU : 26747211 ||| U = U) :
    Follows U r (writesTake s) := by
  unfold writesTake
  repeat' first
    | with_reducible assumption
    | intro _
    | with_reducible refine foldS_follows ?_ ?_
    | with_reducible refine wr_follows ?_ (lor_sub (by decide) hU)
    | with_reducible refine when_follows ?_ ?_
    | with_reducible refine limitRolls_follows ?_ (lor_sub (by decide) hU)
    | with_reducible refine windowsHold_follows ?_ (lor_sub (by decide) hU)
    | with_reducible refine slotTakes_follows ?_ (lor_sub (by decide) hU)
    | with_reducible refine Follows.ite ?_ ?_
    | with_reducible exact Follows.set_bus (by assumption) (lor_sub (by decide) hU)
    | (with_reducible refine Follows.set_bus ?_ (lor_sub (by decide) hU); first | with_reducible refine foldS_follows ?_ ?_ | with_reducible refine wr_follows ?_ (lor_sub (by decide) hU) | with_reducible refine when_follows ?_ ?_ | with_reducible refine limitRolls_follows ?_ (lor_sub (by decide) hU) | with_reducible refine windowsHold_follows ?_ (lor_sub (by decide) hU) | with_reducible refine slotTakes_follows ?_ (lor_sub (by decide) hU) | with_reducible refine Follows.ite ?_ ?_ | with_reducible exact Follows.refl _ _)
    | with_reducible exact Follows.set_stk (by assumption) (lor_sub (by decide) hU) rfl
    | (with_reducible refine Follows.set_stk ?_ (lor_sub (by decide) hU) rfl; first | with_reducible refine foldS_follows ?_ ?_ | with_reducible refine wr_follows ?_ (lor_sub (by decide) hU) | with_reducible refine when_follows ?_ ?_ | with_reducible refine limitRolls_follows ?_ (lor_sub (by decide) hU) | with_reducible refine windowsHold_follows ?_ (lor_sub (by decide) hU) | with_reducible refine slotTakes_follows ?_ (lor_sub (by decide) hU) | with_reducible refine Follows.ite ?_ ?_ | with_reducible exact Follows.refl _ _)
    | split
    | (extract_lets +onlyGivenNames x; refine Follows.cut (x := x) ?_ ?_; rotate_left; clear_value x; intro _; rotate_right; subst x)
    | (extract_lets +onlyGivenNames x; clear_value x)
    | refine Follows.snd (by assumption) ?_
    | refine Follows.fst (by assumption) ?_
    | dsimp only
    | with_reducible exact Follows.refl _ _

theorem duesTake_follows  {U : Nat} {r s : State} (h : Follows U r s) (hU : 31453681 ||| U = U) :
    Follows U r (duesTake s) := by
  unfold duesTake
  repeat' first
    | with_reducible assumption
    | intro _
    | with_reducible refine insertionBounds_follows ?_ (lor_sub (by decide) hU)
    | with_reducible refine coxEdge_follows ?_ (lor_sub (by decide) hU)
    | with_reducible refine easyEdge_follows ?_ (lor_sub (by decide) hU)
    | with_reducible refine paramsEdge_follows ?_ (lor_sub (by decide) hU)
    | with_reducible refine snapsWait_follows ?_ (lor_sub (by decide) hU)
    | with_reducible refine ownDue_follows ?_ (lor_sub (by decide) hU)
    | with_reducible refine rollsDue_follows ?_ (lor_sub (by decide) hU)
    | with_reducible refine foldS_follows ?_ ?_
    | with_reducible refine sealRetry_follows ?_ (lor_sub (by decide) hU)
    | with_reducible refine windowsDue_follows ?_ (lor_sub (by decide) hU)
    | with_reducible refine failbackEdge_follows ?_ (lor_sub (by decide) hU)
    | with_reducible refine failbackTry_follows ?_ (lor_sub (by decide) hU)
    | with_reducible refine joinDone_follows ?_ (lor_sub (by decide) hU)
    | with_reducible refine erasesDue_follows ?_ (lor_sub (by decide) hU)
    | with_reducible refine erasesWait_follows ?_ (lor_sub (by decide) hU)
    | split
    | with_reducible exact Follows.refl _ _

theorem ratePeriod_follows {seat : Nat} {U : Nat} {r s : State} (h : Follows U r s) (hU : 2097153 ||| U = U) :
    Follows U r (ratePeriod seat s) := by
  unfold ratePeriod
  repeat' first
    | with_reducible assumption
    | intro _
    | with_reducible refine rateSettings_follows ?_ (lor_sub (by decide) hU)
    | with_reducible refine bucketsEdge_follows ?_ (lor_sub (by decide) hU)
    | with_reducible refine bgEdge_follows ?_ (lor_sub (by decide) hU)
    | split
    | with_reducible exact Follows.refl _ _

theorem bucketAdvance_follows  {U : Nat} {r s : State} (h : Follows U r s) (hU : 65 ||| U = U) :
    Follows U r (bucketAdvance s) := by
  unfold bucketAdvance
  repeat' first
    | with_reducible assumption
    | intro _
    | with_reducible refine foldS_follows ?_ ?_
    | with_reducible refine showEntries_follows ?_ (lor_sub (by decide) hU)
    | with_reducible refine wr_follows ?_ (lor_sub (by decide) hU)
    | with_reducible exact Follows.set_health (by assumption) (lor_sub (by decide) hU)
    | (with_reducible refine Follows.set_health ?_ (lor_sub (by decide) hU); first | with_reducible refine foldS_follows ?_ ?_ | with_reducible refine showEntries_follows ?_ (lor_sub (by decide) hU) | with_reducible refine wr_follows ?_ (lor_sub (by decide) hU) | with_reducible exact Follows.refl _ _)
    | split
    | (extract_lets +onlyGivenNames x; refine Follows.cut (x := x) ?_ ?_; rotate_left; clear_value x; intro _; rotate_right; subst x)
    | (extract_lets +onlyGivenNames x; clear_value x)
    | with_reducible exact Follows.refl _ _

theorem periodics_follows {e : EdgeInfo} {U : Nat} {r s : State} (h : Follows U r s) (hU : 20966225 ||| U = U) :
    Follows U r (periodics e s) := by
  unfold periodics
  repeat' first
    | with_reducible assumption
    | intro _
    | with_reducible refine foldS_follows ?_ ?_
    | with_reducible refine ratePeriod_follows ?_ (lor_sub (by decide) hU)
    | with_reducible refine when_follows ?_ ?_
    | with_reducible refine keelFair_follows ?_ (lor_sub (by decide) hU)
    | with_reducible refine scrubEdge_follows ?_ (lor_sub (by decide) hU)
    | with_reducible refine running_follows ?_ ?_
    | with_reducible refine ckptStart_follows ?_ (lor_sub (by decide) hU)
    | with_reducible refine sweepStart_follows ?_ (lor_sub (by decide) hU)
    | with_reducible refine bucketAdvance_follows ?_ (lor_sub (by decide) hU)
    | split
    | with_reducible exact Follows.refl _ _

theorem slowMark_follows {seat slot : Nat} {U : Nat} {r s : State} (h : Follows U r s) (hU : 131073 ||| U = U) :
    Follows U r (slowMark seat slot s) := by
  unfold slowMark
  repeat' first
    | with_reducible assumption
    | intro _
    | with_reducible refine wrBit_follows ?_ (lor_sub (by decide) hU)
    | with_reducible refine Follows.ite ?_ ?_
    | with_reducible exact Follows.set_rds (by assumption) (lor_sub (by decide) hU)
    | (with_reducible refine Follows.set_rds ?_ (lor_sub (by decide) hU); first | with_reducible refine wrBit_follows ?_ (lor_sub (by decide) hU) | with_reducible refine Follows.ite ?_ ?_ | with_reducible exact Follows.refl _ _)
    | split
    | (extract_lets +onlyGivenNames x; refine Follows.cut (x := x) ?_ ?_; rotate_left; clear_value x; intro _; rotate_right; subst x)
    | (extract_lets +onlyGivenNames x; clear_value x)
    | with_reducible exact Follows.refl _ _

theorem slowEdge_follows  {U : Nat} {r s : State} (h : Follows U r s) (hU : 131073 ||| U = U) :
    Follows U r (slowEdge s) := by
  unfold slowEdge
  repeat' first
    | with_reducible assumption
    | intro _
    | with_reducible refine foldS_follows ?_ ?_
    | with_reducible refine slowMark_follows ?_ (lor_sub (by decide) hU)
    | with_reducible exact Follows.set_rds (by assumption) (lor_sub (by decide) hU)
    | (with_reducible refine Follows.set_rds ?_ (lor_sub (by decide) hU); first | with_reducible refine foldS_follows ?_ ?_ | with_reducible refine slowMark_follows ?_ (lor_sub (by decide) hU) | with_reducible exact Follows.refl _ _)
    | split
    | (extract_lets +onlyGivenNames x; refine Follows.cut (x := x) ?_ ?_; rotate_left; clear_value x; intro _; rotate_right; subst x)
    | (extract_lets +onlyGivenNames x; clear_value x)
    | refine Follows.snd (by assumption) ?_
    | refine Follows.fst (by assumption) ?_
    | dsimp only
    | with_reducible exact Follows.refl _ _

theorem lanesEdge_follows  {U : Nat} {r s : State} (h : Follows U r s) (hU : 1048577 ||| U = U) :
    Follows U r (lanesEdge s) := by
  unfold lanesEdge
  repeat' first
    | with_reducible assumption
    | intro _
    | with_reducible refine foldS_follows ?_ ?_
    | with_reducible refine wr_follows ?_ (lor_sub (by decide) hU)
    | with_reducible refine laneMod_follows ?_ (lor_sub (by decide) hU)
    | split
    | (extract_lets +onlyGivenNames x; refine Follows.cut (x := x) ?_ ?_; rotate_left; clear_value x; intro _; rotate_right; subst x)
    | (extract_lets +onlyGivenNames x; clear_value x)
    | with_reducible exact Follows.refl _ _

theorem enginesEdge_follows  {U : Nat} {r s : State} (h : Follows U r s) (hU : 16385 ||| U = U) :
    Follows U r (enginesEdge s) := by
  unfold enginesEdge
  repeat' first
    | with_reducible assumption
    | intro _
    | with_reducible refine foldS_follows ?_ ?_
    | with_reducible refine bump_follows ?_ (lor_sub (by decide) hU)
    | with_reducible refine wr_follows ?_ (lor_sub (by decide) hU)
    | with_reducible exact Follows.set_nv (by assumption) (lor_sub (by decide) hU)
    | (with_reducible refine Follows.set_nv ?_ (lor_sub (by decide) hU); first | with_reducible refine foldS_follows ?_ ?_ | with_reducible refine bump_follows ?_ (lor_sub (by decide) hU) | with_reducible refine wr_follows ?_ (lor_sub (by decide) hU) | with_reducible exact Follows.refl _ _)
    | split
    | (extract_lets +onlyGivenNames x; refine Follows.cut (x := x) ?_ ?_; rotate_left; clear_value x; intro _; rotate_right; subst x)
    | (extract_lets +onlyGivenNames x; clear_value x)
    | with_reducible exact Follows.refl _ _

theorem logEdge_follows  {U : Nat} {r s : State} (h : Follows U r s) (hU : 65 ||| U = U) :
    Follows U r (logEdge s) := by
  unfold logEdge
  repeat' first
    | with_reducible assumption
    | intro _
    | with_reducible refine foldS_follows ?_ ?_
    | with_reducible refine logE_follows ?_ (lor_sub (by decide) hU)
    | with_reducible exact Follows.set_health (by assumption) (lor_sub (by decide) hU)
    | (with_reducible refine Follows.set_health ?_ (lor_sub (by decide) hU); first | with_reducible refine foldS_follows ?_ ?_ | with_reducible refine logE_follows ?_ (lor_sub (by decide) hU) | with_reducible exact Follows.refl _ _)
    | split
    | (extract_lets +onlyGivenNames x; refine Follows.cut (x := x) ?_ ?_; rotate_left; clear_value x; intro _; rotate_right; subst x)
    | (extract_lets +onlyGivenNames x; clear_value x)
    | refine Follows.snd (by assumption) ?_
    | refine Follows.fst (by assumption) ?_
    | dsimp only
    | with_reducible exact Follows.refl _ _

theorem strokeTriggers_follows  {U : Nat} {r s : State} (h : Follows U r s) (hU : 16777281 ||| U = U) :
    Follows U r (strokeTriggers s) := by
  unfold strokeTriggers
  repeat' first
    | with_reducible assumption
    | intro _
    | with_reducible refine foldS_follows ?_ ?_
    | with_reducible refine pfrFire_follows ?_ (lor_sub (by decide) hU)
    | with_reducible refine Follows.ite ?_ ?_
    | split
    | with_reducible exact Follows.refl _ _

theorem serviceEdge_follows {e : EdgeInfo} {U : Nat} {r s : State} (h : Follows U r s) (hU : 65008625 ||| U = U) :
    Follows U r (serviceEdge e s) := by
  unfold serviceEdge
  repeat' first
    | with_reducible assumption
    | intro _
    | with_reducible refine duesTake_follows ?_ (lor_sub (by decide) hU)
    | with_reducible refine snapsEdge_follows ?_ (lor_sub (by decide) hU)
    | with_reducible refine updEdge_follows ?_ (lor_sub (by decide) hU)
    | with_reducible refine bridgesShow_follows ?_ (lor_sub (by decide) hU)
    | with_reducible refine rekeyEdge_follows ?_ (lor_sub (by decide) hU)
    | with_reducible refine foldS_follows ?_ ?_
    | with_reducible refine gcLevels_follows ?_ (lor_sub (by decide) hU)
    | with_reducible refine poolEdge_follows ?_ (lor_sub (by decide) hU)
    | with_reducible refine targetsTake_follows ?_ (lor_sub (by decide) hU)
    | with_reducible refine heartbeatsSend_follows ?_ (lor_sub (by decide) hU)
    | with_reducible refine hellosSend_follows ?_ (lor_sub (by decide) hU)
    | with_reducible refine partsEdge_follows ?_ (lor_sub (by decide) hU)
    | with_reducible refine ftLog_follows ?_ (lor_sub (by decide) hU)
    | with_reducible refine stepTwelve_follows ?_ (lor_sub (by decide) hU)
    | with_reducible refine walkSpoiled_follows ?_ (lor_sub (by decide) hU)
    | with_reducible refine redundancy_follows ?_ (lor_sub (by decide) hU)
    | split
    | with_reducible exact Follows.refl _ _

theorem countEdge_follows  {U : Nat} {r s : State} (h : Follows U r s) (hU : 9 ||| U = U) :
    Follows U r (countEdge s) := by
  unfold countEdge
  repeat' first
    | with_reducible assumption
    | intro _
    | with_reducible refine setTicks_follows ?_ (lor_sub (by decide) hU)
    | with_reducible refine when_follows ?_ ?_
    | with_reducible refine bump_follows ?_ (lor_sub (by decide) hU)
    | with_reducible exact Follows.set_stk (by assumption) (lor_sub (by decide) hU) rfl
    | (with_reducible refine Follows.set_stk ?_ (lor_sub (by decide) hU) rfl; first | with_reducible refine setTicks_follows ?_ (lor_sub (by decide) hU) | with_reducible refine when_follows ?_ ?_ | with_reducible refine bump_follows ?_ (lor_sub (by decide) hU) | with_reducible exact Follows.refl _ _)
    | split
    | (extract_lets +onlyGivenNames x; refine Follows.cut (x := x) ?_ ?_; rotate_left; clear_value x; intro _; rotate_right; subst x)
    | extract_lets +onlyGivenNames x
    | with_reducible exact Follows.refl _ _

theorem synthEdge_follows  {U : Nat} {r s : State} (h : Follows U r s) (hU : 16777545 ||| U = U) :
    Follows U r (synthEdge s) := by
  unfold synthEdge
  repeat' first
    | with_reducible assumption
    | intro _
    | with_reducible refine switchEdge_follows ?_ (lor_sub (by decide) hU)
    | with_reducible refine rampEdge_follows ?_ (lor_sub (by decide) hU)
    | with_reducible refine slewEdge_follows ?_ (lor_sub (by decide) hU)
    | with_reducible refine steerEdge_follows ?_ (lor_sub (by decide) hU)
    | split
    | with_reducible exact Follows.refl _ _

theorem packageEdge_follows {e : EdgeInfo} {U : Nat} {r s : State} (h : Follows U r s) (hU : 16778561 ||| U = U) :
    Follows U r (packageEdge e s) := by
  unfold packageEdge
  repeat' first
    | with_reducible assumption
    | intro _
    | with_reducible refine tempsEdge_follows ?_ (lor_sub (by decide) hU)
    | with_reducible refine wr_follows ?_ (lor_sub (by decide) hU)
    | with_reducible refine when_follows ?_ ?_
    | with_reducible refine wrB_follows ?_ (lor_sub (by decide) hU)
    | split
    | with_reducible exact Follows.refl _ _

theorem edgeFirst_follows {e : EdgeInfo} {U : Nat} {r s : State} (h : Follows U r s) (hU : 26747227 ||| U = U) :
    Follows U r (edgeFirst e s) := by
  unfold edgeFirst
  repeat' first
    | with_reducible assumption
    | intro _
    | with_reducible refine live_follows ?_ ?_
    | with_reducible refine keelEdge_follows ?_ (lor_sub (by decide) hU)
    | with_reducible refine foldS_follows ?_ ?_
    | with_reducible refine digServe_follows ?_ (lor_sub (by decide) hU)
    | with_reducible refine countEdge_follows ?_ (lor_sub (by decide) hU)
    | with_reducible refine writesTake_follows ?_ (lor_sub (by decide) hU)
    | with_reducible refine logEdge_follows ?_ (lor_sub (by decide) hU)
    | with_reducible refine floorEdge_follows ?_ (lor_sub (by decide) hU)
    | with_reducible refine synthEdge_follows ?_ (lor_sub (by decide) hU)
    | split
    | with_reducible exact Follows.refl _ _

theorem edgeRest_follows {e : EdgeInfo} {U : Nat} {r s : State} (h : Follows U r s) (hU : 67108849 ||| U = U) :
    Follows U r (edgeRest e s) := by
  unfold edgeRest
  repeat' first
    | with_reducible assumption
    | intro _
    | with_reducible refine live_follows ?_ ?_
    | with_reducible refine lanesEdge_follows ?_ (lor_sub (by decide) hU)
    | with_reducible refine running_follows ?_ ?_
    | with_reducible refine serviceEdge_follows ?_ (lor_sub (by decide) hU)
    | with_reducible refine periodics_follows ?_ (lor_sub (by decide) hU)
    | with_reducible refine enginesEdge_follows ?_ (lor_sub (by decide) hU)
    | with_reducible refine linkEdge_follows ?_ (lor_sub (by decide) hU)
    | with_reducible refine slowEdge_follows ?_ (lor_sub (by decide) hU)
    | with_reducible refine foldS_follows ?_ ?_
    | with_reducible refine rateLatch_follows ?_ (lor_sub (by decide) hU)
    | with_reducible refine acceptShow_follows ?_ (lor_sub (by decide) hU)
    | with_reducible refine readShow_follows ?_ (lor_sub (by decide) hU)
    | with_reducible refine packageEdge_follows ?_ (lor_sub (by decide) hU)
    | with_reducible refine strokeTriggers_follows ?_ (lor_sub (by decide) hU)
    | with_reducible refine sensorsEdge_follows ?_ (lor_sub (by decide) hU)
    | split
    | with_reducible exact Follows.refl _ _

theorem strokeEdge_follows {e : EdgeInfo} {U : Nat} {r s : State} (h : Follows U r s) (hU : 67108859 ||| U = U) :
    Follows U r (strokeEdge e s) := by
  unfold strokeEdge
  repeat' first
    | with_reducible assumption
    | intro _
    | with_reducible refine edgeFirst_follows ?_ (lor_sub (by decide) hU)
    | with_reducible refine edgeRest_follows ?_ (lor_sub (by decide) hU)
    | with_reducible exact Follows.set_stk (by assumption) (lor_sub (by decide) hU) rfl
    | (with_reducible refine Follows.set_stk ?_ (lor_sub (by decide) hU) rfl; first | with_reducible refine edgeFirst_follows ?_ (lor_sub (by decide) hU) | with_reducible refine edgeRest_follows ?_ (lor_sub (by decide) hU) | with_reducible exact Follows.refl _ _)
    | split
    | (extract_lets +onlyGivenNames x; refine Follows.cut (x := x) ?_ ?_; rotate_left; clear_value x; intro _; rotate_right; subst x)
    | (extract_lets +onlyGivenNames x; clear_value x)
    | with_reducible exact Follows.refl _ _

end Sys2Proof.Machine
end

