-- ==== Sys2Proof/Laws/FollowsRegAccess.lean ====
section
/-!
SUPPORT. Laws/FollowsRegAccess.lean: the operations of Machine/RegAccess.lean keep what `Follows` states.
-/

namespace Sys2Proof.Machine

open Sys2Proof

theorem linkCounterSet_follows {a : Nat} {g : Nat → Nat} {U : Nat} {r s : State} (h : Follows U r s) (hU : 4194304 ||| U = U) :
    Follows U r (linkCounterSet a g s) := by
  unfold linkCounterSet
  repeat' first
    | with_reducible assumption
    | intro _
    | with_reducible refine linkMod_follows ?_ (lor_sub (by decide) hU)
    | with_reducible refine Follows.ite ?_ ?_
    | split
    | (extract_lets +onlyGivenNames x; refine Follows.cut (x := x) ?_ ?_; rotate_left; clear_value x; intro _; rotate_right; subst x)
    | (extract_lets +onlyGivenNames x; clear_value x)
    | with_reducible exact Follows.refl _ _

theorem readEffect_follows {a req : Nat} {r : RegRef} {U : Nat} {r0 s : State} (h : Follows U r0 s) (hU : 6291459 ||| U = U) :
    Follows U r0 (readEffect a req r s) := by
  unfold readEffect
  repeat' first
    | with_reducible assumption
    | intro _
    | with_reducible refine wr_follows ?_ (lor_sub (by decide) hU)
    | with_reducible refine clear_follows ?_ (lor_sub (by decide) hU)
    | with_reducible refine loopMissesClear_follows ?_ (lor_sub (by decide) hU)
    | with_reducible refine linkCounterSet_follows ?_ (lor_sub (by decide) hU)
    | with_reducible refine foldl_follows ?_ ?_
    | with_reducible refine Follows.ite ?_ ?_
    | with_reducible exact Follows.set_bus (by assumption) (lor_sub (by decide) hU)
    | (with_reducible refine Follows.set_bus ?_ (lor_sub (by decide) hU); first | with_reducible refine wr_follows ?_ (lor_sub (by decide) hU) | with_reducible refine clear_follows ?_ (lor_sub (by decide) hU) | with_reducible refine loopMissesClear_follows ?_ (lor_sub (by decide) hU) | with_reducible refine linkCounterSet_follows ?_ (lor_sub (by decide) hU) | with_reducible refine foldl_follows ?_ ?_ | with_reducible refine Follows.ite ?_ ?_ | with_reducible exact Follows.refl _ _)
    | split
    | (extract_lets +onlyGivenNames x; refine Follows.cut (x := x) ?_ ?_; rotate_left; clear_value x; intro _; rotate_right; subst x)
    | (extract_lets +onlyGivenNames x; clear_value x)
    | with_reducible exact Follows.refl _ _

theorem regRead_follows {a req : Nat} {U : Nat} {r s : State} (h : Follows U r s) (hU : 14680067 ||| U = U) :
    Follows U r (regRead a req s).2 := by
  unfold regRead
  repeat' first
    | with_reducible assumption
    | intro _
    | with_reducible refine digRead_follows ?_ (lor_sub (by decide) hU)
    | with_reducible refine readEffect_follows ?_ (lor_sub (by decide) hU)
    | with_reducible refine Follows.ite ?_ ?_
    | split
    | refine Follows.snd (by assumption) ?_
    | refine Follows.fst (by assumption) ?_
    | dsimp only
    | with_reducible exact Follows.refl _ _

theorem busRead_follows {a req : Nat} {U : Nat} {r s : State} (h : Follows U r s) (hU : 65012035 ||| U = U) :
    Follows U r (busRead a req s) := by
  unfold busRead
  repeat' first
    | with_reducible assumption
    | intro _
    | with_reducible refine emit_follows ?_ (lor_sub (by decide) hU)
    | with_reducible refine regRead_follows ?_ (lor_sub (by decide) hU)
    | with_reducible refine logAccess_follows ?_ (lor_sub (by decide) hU)
    | with_reducible refine unsupported_follows ?_ (lor_sub (by decide) hU)
    | with_reducible refine Follows.ite ?_ ?_
    | split
    | refine Follows.snd (by assumption) ?_
    | refine Follows.fst (by assumption) ?_
    | dsimp only
    | with_reducible exact Follows.refl _ _

theorem fieldWrite_follows {a : Nat} {acc : Acc} {f : Fld} {v : Nat} {U : Nat} {r s : State} (h : Follows U r s) (hU : 3 ||| U = U) :
    Follows U r (fieldWrite a acc f v s) := by
  unfold fieldWrite
  repeat' first
    | with_reducible assumption
    | intro _
    | with_reducible refine wr_follows ?_ (lor_sub (by decide) hU)
    | with_reducible refine waitWrite_follows ?_ (lor_sub (by decide) hU)
    | with_reducible refine Follows.ite ?_ ?_
    | split
    | with_reducible exact Follows.refl _ _

theorem fieldsAgain_follows {a : Nat} {r : RegRef} {events : Nat} {U : Nat} {r0 s : State} (h : Follows U r0 s) (hU : 16777537 ||| U = U) :
    Follows U r0 (fieldsAgain a r events s) := by
  unfold fieldsAgain
  repeat' first
    | with_reducible assumption
    | intro _
    | with_reducible refine setEvent_follows ?_ (lor_sub (by decide) hU)
    | with_reducible refine wr_follows ?_ (lor_sub (by decide) hU)
    | with_reducible refine foldl_follows ?_ ?_
    | with_reducible refine Follows.ite ?_ ?_
    | split
    | (extract_lets +onlyGivenNames x; refine Follows.cut (x := x) ?_ ?_; rotate_left; clear_value x; intro _; rotate_right; subst x)
    | (extract_lets +onlyGivenNames x; clear_value x)
    | with_reducible exact Follows.refl _ _

theorem eventsAfter_follows {a : Nat} {r : RegRef} {events : Nat} {U : Nat} {r0 s : State} (h : Follows U r0 s) (hU : 18874689 ||| U = U) :
    Follows U r0 (eventsAfter a r events s) := by
  unfold eventsAfter
  repeat' first
    | with_reducible assumption
    | intro _
    | with_reducible refine foldS_follows ?_ ?_
    | with_reducible refine when_follows ?_ ?_
    | with_reducible refine wrBit_follows ?_ (lor_sub (by decide) hU)
    | with_reducible refine loopFlagsSet_follows ?_ (lor_sub (by decide) hU)
    | with_reducible refine fieldsAgain_follows ?_ (lor_sub (by decide) hU)
    | with_reducible refine Follows.ite ?_ ?_
    | split
    | with_reducible exact Follows.refl _ _

theorem pkgHook_follows {a v : Nat} {U : Nat} {r s t : State} (h : Follows U r s) (hU : 25527243 ||| U = U) (he : pkgHook a v s = some t) : Follows U r t := by
  unfold pkgHook at he
  repeat' split at he
  all_goals cases he
  all_goals repeat' first
    | with_reducible assumption
    | intro _
    | with_reducible refine when_follows ?_ ?_
    | with_reducible refine waitWrite_follows ?_ (lor_sub (by decide) hU)
    | with_reducible refine switchNow_follows ?_ (lor_sub (by decide) hU)
    | with_reducible refine schedWrite_follows ?_ (lor_sub (by decide) hU)
    | with_reducible refine snpLinkSelect_follows ?_ (lor_sub (by decide) hU)
    | with_reducible refine keyDomainSelect_follows ?_ (lor_sub (by decide) hU)
    | with_reducible refine mbxAbort_follows ?_ (lor_sub (by decide) hU)
    | with_reducible refine bootRestart_follows ?_ (lor_sub (by decide) hU)
    | with_reducible refine scopeWrite_follows ?_ (lor_sub (by decide) hU)
    | with_reducible refine pwrOffWrite_follows ?_ (lor_sub (by decide) hU)

theorem seatHook_follows {n off v : Nat} {U : Nat} {r s t : State} (h : Follows U r s) (hU : 52429123 ||| U = U) (he : seatHook n off v s = some t) : Follows U r t := by
  unfold seatHook at he
  repeat' split at he
  all_goals cases he
  all_goals repeat' first
    | with_reducible assumption
    | intro _
    | with_reducible refine when_follows ?_ ?_
    | with_reducible refine running_follows ?_ ?_
    | with_reducible refine waitWrite_follows ?_ (lor_sub (by decide) hU)
    | with_reducible refine qpSelect_follows ?_ (lor_sub (by decide) hU)
    | with_reducible refine loopFlagsClear_follows ?_ (lor_sub (by decide) hU)
    | with_reducible refine digCtxSelect_follows ?_ (lor_sub (by decide) hU)
    | with_reducible refine pfrClear_follows ?_ (lor_sub (by decide) hU)
    | with_reducible refine pfrDisarm_follows ?_ (lor_sub (by decide) hU)
    | with_reducible refine pfrSoft_follows ?_ (lor_sub (by decide) hU)
    | with_reducible refine pfrSelect_follows ?_ (lor_sub (by decide) hU)
    | with_reducible refine ancRead_follows ?_ (lor_sub (by decide) hU)

theorem hook_follows {a v : Nat} {U : Nat} {r s t : State} (h : Follows U r s) (hU : 61178827 ||| U = U) (he : hook a v s = some t) : Follows U r t := by
  unfold hook at he
  split at he
  · exact seatHook_follows h (lor_sub (by decide) hU) he
  · exact pkgHook_follows h (lor_sub (by decide) hU) he

theorem slotCtrlFields_follows {r : RegRef} {v : Nat} {U : Nat} {r0 s : State} (h : Follows U r0 s) (hU : 2 ||| U = U) :
    Follows U r0 (slotCtrlFields r v s) := by
  unfold slotCtrlFields
  repeat' first
    | with_reducible assumption
    | intro _
    | with_reducible refine waitWrite_follows ?_ (lor_sub (by decide) hU)
    | with_reducible refine foldl_follows ?_ ?_
    | with_reducible refine Follows.ite ?_ ?_
    | split
    | with_reducible exact Follows.refl _ _

theorem regWrite_follows {a req v events : Nat} {U : Nat} {r s : State} (h : Follows U r s) (hU : 61178827 ||| U = U) :
    Follows U r (regWrite a req v events s) := by
  unfold regWrite
  repeat' first
    | with_reducible assumption
    | intro _
    | with_reducible refine aerWrite_follows ?_ (lor_sub (by decide) hU)
    | with_reducible refine fieldWrite_follows ?_ (lor_sub (by decide) hU)
    | with_reducible refine slotCtrlFields_follows ?_ (lor_sub (by decide) hU)
    | with_reducible refine eventsAfter_follows ?_ (lor_sub (by decide) hU)
    | with_reducible refine intxShow_follows ?_ (lor_sub (by decide) hU)
    | with_reducible refine foldl_follows ?_ ?_
    | with_reducible refine Follows.ite ?_ ?_
    | with_reducible exact Follows.set_bus (by assumption) (lor_sub (by decide) hU)
    | (with_reducible refine Follows.set_bus ?_ (lor_sub (by decide) hU); first | with_reducible refine aerWrite_follows ?_ (lor_sub (by decide) hU) | with_reducible refine fieldWrite_follows ?_ (lor_sub (by decide) hU) | with_reducible refine slotCtrlFields_follows ?_ (lor_sub (by decide) hU) | with_reducible refine eventsAfter_follows ?_ (lor_sub (by decide) hU) | with_reducible refine intxShow_follows ?_ (lor_sub (by decide) hU) | with_reducible refine foldl_follows ?_ ?_ | with_reducible refine Follows.ite ?_ ?_ | with_reducible exact Follows.refl _ _)
    | split
    | (extract_lets +onlyGivenNames x; refine Follows.cut (x := x) ?_ ?_; rotate_left; clear_value x; intro _; rotate_right; subst x)
    | (extract_lets +onlyGivenNames x; clear_value x)
    | with_reducible exact Follows.refl _ _
    | exact hook_follows (by with_reducible assumption) (lor_sub (by decide) hU) (by assumption)

theorem busWrite_follows {a req v events : Nat} {U : Nat} {r s : State} (h : Follows U r s) (hU : 61178827 ||| U = U) :
    Follows U r (busWrite a req v events s) := by
  unfold busWrite
  repeat' first
    | with_reducible assumption
    | intro _
    | with_reducible refine regWrite_follows ?_ (lor_sub (by decide) hU)
    | with_reducible refine logAccess_follows ?_ (lor_sub (by decide) hU)
    | with_reducible refine emit_follows ?_ (lor_sub (by decide) hU)
    | with_reducible refine unsupported_follows ?_ (lor_sub (by decide) hU)
    | with_reducible refine Follows.ite ?_ ?_
    | split
    | with_reducible exact Follows.refl _ _

theorem countAfter_follows {a : Nat} {U : Nat} {r s : State} (h : Follows U r s) (hU : 6291457 ||| U = U) :
    Follows U r (countAfter a s) := by
  unfold countAfter
  repeat' first
    | with_reducible assumption
    | intro _
    | with_reducible refine bump_follows ?_ (lor_sub (by decide) hU)
    | with_reducible refine loopMod_follows ?_ (lor_sub (by decide) hU)
    | with_reducible refine linkCounterSet_follows ?_ (lor_sub (by decide) hU)
    | with_reducible refine foldl_follows ?_ ?_
    | with_reducible refine Follows.ite ?_ ?_
    | split
    | (extract_lets +onlyGivenNames x; refine Follows.cut (x := x) ?_ ?_; rotate_left; clear_value x; intro _; rotate_right; subst x)
    | (extract_lets +onlyGivenNames x; clear_value x)
    | with_reducible exact Follows.refl _ _

theorem badAccess_follows {addr size : Nat} {write : Bool} {U : Nat} {r s : State} (h : Follows U r s) (hU : 50331969 ||| U = U) :
    Follows U r (badAccess addr size write s) := by
  unfold badAccess
  repeat' first
    | with_reducible assumption
    | intro _
    | with_reducible refine unsupported_follows ?_ (lor_sub (by decide) hU)
    | with_reducible refine logAccess_follows ?_ (lor_sub (by decide) hU)
    | with_reducible refine when_follows ?_ ?_
    | with_reducible refine emit_follows ?_ (lor_sub (by decide) hU)
    | with_reducible refine Follows.ite ?_ ?_
    | split
    | with_reducible exact Follows.refl _ _

theorem seatAccess_follows {seat off : Nat} {write : Option Nat} {req stall : Nat} {U : Nat} {r s : State} (h : Follows U r s) (hU : 65373147 ||| U = U) :
    Follows U r (seatAccess seat off write req stall s) := by
  unfold seatAccess
  repeat' first
    | with_reducible assumption
    | intro _
    | with_reducible refine keelSend_follows ?_ (lor_sub (by decide) hU)
    | with_reducible refine unitWake_follows ?_ (lor_sub (by decide) hU)
    | with_reducible refine busWrite_follows ?_ (lor_sub (by decide) hU)
    | with_reducible refine busRead_follows ?_ (lor_sub (by decide) hU)
    | with_reducible refine Follows.ite ?_ ?_
    | split
    | (extract_lets +onlyGivenNames x; refine Follows.cut (x := x) ?_ ?_; rotate_left; clear_value x; intro _; rotate_right; subst x)
    | (extract_lets +onlyGivenNames x; clear_value x)
    | with_reducible exact Follows.refl _ _

end Sys2Proof.Machine
end

