-- ==== Sys2Proof/Laws/State.lean ====
section
/-!
SUPPORT. Laws/State.lean: what the basic operations leave alone, field by field.
-/

namespace Sys2Proof.Machine

@[simp] theorem wr_bus (f : Fld) (v : Nat) (s : State) : (wr f v s).bus = s.bus := rfl
@[simp] theorem wr_hw (f : Fld) (v : Nat) (s : State) : (wr f v s).hw = s.hw := rfl
@[simp] theorem wr_stk (f : Fld) (v : Nat) (s : State) : (wr f v s).stk = s.stk := rfl
@[simp] theorem wr_keel (f : Fld) (v : Nat) (s : State) : (wr f v s).keel = s.keel := rfl
@[simp] theorem wr_cox (f : Fld) (v : Nat) (s : State) : (wr f v s).cox = s.cox := rfl
@[simp] theorem wr_health (f : Fld) (v : Nat) (s : State) : (wr f v s).health = s.health := rfl
@[simp] theorem wr_mbx (f : Fld) (v : Nat) (s : State) : (wr f v s).mbx = s.mbx := rfl
@[simp] theorem wr_pci (f : Fld) (v : Nat) (s : State) : (wr f v s).pci = s.pci := rfl
@[simp] theorem wr_boot (f : Fld) (v : Nat) (s : State) : (wr f v s).boot = s.boot := rfl
@[simp] theorem wr_pwr (f : Fld) (v : Nat) (s : State) : (wr f v s).pwr = s.pwr := rfl
@[simp] theorem wr_dram (f : Fld) (v : Nat) (s : State) : (wr f v s).dram = s.dram := rfl
@[simp] theorem wr_upd (f : Fld) (v : Nat) (s : State) : (wr f v s).upd = s.upd := rfl
@[simp] theorem wr_fe (f : Fld) (v : Nat) (s : State) : (wr f v s).fe = s.fe := rfl
@[simp] theorem wr_nv (f : Fld) (v : Nat) (s : State) : (wr f v s).nv = s.nv := rfl
@[simp] theorem wr_ing (f : Fld) (v : Nat) (s : State) : (wr f v s).ing = s.ing := rfl
@[simp] theorem wr_map (f : Fld) (v : Nat) (s : State) : (wr f v s).map = s.map := rfl
@[simp] theorem wr_rds (f : Fld) (v : Nat) (s : State) : (wr f v s).rds = s.rds := rfl
@[simp] theorem wr_par (f : Fld) (v : Nat) (s : State) : (wr f v s).par = s.par := rfl
@[simp] theorem wr_bld (f : Fld) (v : Nat) (s : State) : (wr f v s).bld = s.bld := rfl
@[simp] theorem wr_pair (f : Fld) (v : Nat) (s : State) : (wr f v s).pair = s.pair := rfl
@[simp] theorem wr_rate (f : Fld) (v : Nat) (s : State) : (wr f v s).rate = s.rate := rfl
@[simp] theorem wr_snp (f : Fld) (v : Nat) (s : State) : (wr f v s).snp = s.snp := rfl
@[simp] theorem wr_keys (f : Fld) (v : Nat) (s : State) : (wr f v s).keys = s.keys := rfl
@[simp] theorem wr_pending (f : Fld) (v : Nat) (s : State) : (wr f v s).pending = s.pending := rfl
@[simp] theorem wr_out (f : Fld) (v : Nat) (s : State) : (wr f v s).out = s.out := rfl
@[simp] theorem wr_freeCount (f : Fld) (v : Nat) (s : State) : (wr f v s).freeCount = s.freeCount := rfl

@[simp] theorem wrB_bus (f : Fld) (b : Bool) (s : State) : (wrB f b s).bus = s.bus := rfl
@[simp] theorem wrB_hw (f : Fld) (b : Bool) (s : State) : (wrB f b s).hw = s.hw := rfl
@[simp] theorem wrB_stk (f : Fld) (b : Bool) (s : State) : (wrB f b s).stk = s.stk := rfl
@[simp] theorem wrB_keel (f : Fld) (b : Bool) (s : State) : (wrB f b s).keel = s.keel := rfl
@[simp] theorem wrB_cox (f : Fld) (b : Bool) (s : State) : (wrB f b s).cox = s.cox := rfl
@[simp] theorem wrB_health (f : Fld) (b : Bool) (s : State) : (wrB f b s).health = s.health := rfl
@[simp] theorem wrB_mbx (f : Fld) (b : Bool) (s : State) : (wrB f b s).mbx = s.mbx := rfl
@[simp] theorem wrB_pci (f : Fld) (b : Bool) (s : State) : (wrB f b s).pci = s.pci := rfl
@[simp] theorem wrB_boot (f : Fld) (b : Bool) (s : State) : (wrB f b s).boot = s.boot := rfl
@[simp] theorem wrB_pwr (f : Fld) (b : Bool) (s : State) : (wrB f b s).pwr = s.pwr := rfl
@[simp] theorem wrB_dram (f : Fld) (b : Bool) (s : State) : (wrB f b s).dram = s.dram := rfl
@[simp] theorem wrB_upd (f : Fld) (b : Bool) (s : State) : (wrB f b s).upd = s.upd := rfl
@[simp] theorem wrB_fe (f : Fld) (b : Bool) (s : State) : (wrB f b s).fe = s.fe := rfl
@[simp] theorem wrB_nv (f : Fld) (b : Bool) (s : State) : (wrB f b s).nv = s.nv := rfl
@[simp] theorem wrB_ing (f : Fld) (b : Bool) (s : State) : (wrB f b s).ing = s.ing := rfl
@[simp] theorem wrB_map (f : Fld) (b : Bool) (s : State) : (wrB f b s).map = s.map := rfl
@[simp] theorem wrB_rds (f : Fld) (b : Bool) (s : State) : (wrB f b s).rds = s.rds := rfl
@[simp] theorem wrB_par (f : Fld) (b : Bool) (s : State) : (wrB f b s).par = s.par := rfl
@[simp] theorem wrB_bld (f : Fld) (b : Bool) (s : State) : (wrB f b s).bld = s.bld := rfl
@[simp] theorem wrB_pair (f : Fld) (b : Bool) (s : State) : (wrB f b s).pair = s.pair := rfl
@[simp] theorem wrB_rate (f : Fld) (b : Bool) (s : State) : (wrB f b s).rate = s.rate := rfl
@[simp] theorem wrB_snp (f : Fld) (b : Bool) (s : State) : (wrB f b s).snp = s.snp := rfl
@[simp] theorem wrB_keys (f : Fld) (b : Bool) (s : State) : (wrB f b s).keys = s.keys := rfl
@[simp] theorem wrB_pending (f : Fld) (b : Bool) (s : State) : (wrB f b s).pending = s.pending := rfl
@[simp] theorem wrB_out (f : Fld) (b : Bool) (s : State) : (wrB f b s).out = s.out := rfl
@[simp] theorem wrB_freeCount (f : Fld) (b : Bool) (s : State) : (wrB f b s).freeCount = s.freeCount := rfl

@[simp] theorem bumpN_bus (f : Fld) (n : Nat) (s : State) : (bumpN f n s).bus = s.bus := rfl
@[simp] theorem bumpN_hw (f : Fld) (n : Nat) (s : State) : (bumpN f n s).hw = s.hw := rfl
@[simp] theorem bumpN_stk (f : Fld) (n : Nat) (s : State) : (bumpN f n s).stk = s.stk := rfl
@[simp] theorem bumpN_keel (f : Fld) (n : Nat) (s : State) : (bumpN f n s).keel = s.keel := rfl
@[simp] theorem bumpN_cox (f : Fld) (n : Nat) (s : State) : (bumpN f n s).cox = s.cox := rfl
@[simp] theorem bumpN_health (f : Fld) (n : Nat) (s : State) : (bumpN f n s).health = s.health := rfl
@[simp] theorem bumpN_mbx (f : Fld) (n : Nat) (s : State) : (bumpN f n s).mbx = s.mbx := rfl
@[simp] theorem bumpN_pci (f : Fld) (n : Nat) (s : State) : (bumpN f n s).pci = s.pci := rfl
@[simp] theorem bumpN_boot (f : Fld) (n : Nat) (s : State) : (bumpN f n s).boot = s.boot := rfl
@[simp] theorem bumpN_pwr (f : Fld) (n : Nat) (s : State) : (bumpN f n s).pwr = s.pwr := rfl
@[simp] theorem bumpN_dram (f : Fld) (n : Nat) (s : State) : (bumpN f n s).dram = s.dram := rfl
@[simp] theorem bumpN_upd (f : Fld) (n : Nat) (s : State) : (bumpN f n s).upd = s.upd := rfl
@[simp] theorem bumpN_fe (f : Fld) (n : Nat) (s : State) : (bumpN f n s).fe = s.fe := rfl
@[simp] theorem bumpN_nv (f : Fld) (n : Nat) (s : State) : (bumpN f n s).nv = s.nv := rfl
@[simp] theorem bumpN_ing (f : Fld) (n : Nat) (s : State) : (bumpN f n s).ing = s.ing := rfl
@[simp] theorem bumpN_map (f : Fld) (n : Nat) (s : State) : (bumpN f n s).map = s.map := rfl
@[simp] theorem bumpN_rds (f : Fld) (n : Nat) (s : State) : (bumpN f n s).rds = s.rds := rfl
@[simp] theorem bumpN_par (f : Fld) (n : Nat) (s : State) : (bumpN f n s).par = s.par := rfl
@[simp] theorem bumpN_bld (f : Fld) (n : Nat) (s : State) : (bumpN f n s).bld = s.bld := rfl
@[simp] theorem bumpN_pair (f : Fld) (n : Nat) (s : State) : (bumpN f n s).pair = s.pair := rfl
@[simp] theorem bumpN_rate (f : Fld) (n : Nat) (s : State) : (bumpN f n s).rate = s.rate := rfl
@[simp] theorem bumpN_snp (f : Fld) (n : Nat) (s : State) : (bumpN f n s).snp = s.snp := rfl
@[simp] theorem bumpN_keys (f : Fld) (n : Nat) (s : State) : (bumpN f n s).keys = s.keys := rfl
@[simp] theorem bumpN_pending (f : Fld) (n : Nat) (s : State) : (bumpN f n s).pending = s.pending := rfl
@[simp] theorem bumpN_out (f : Fld) (n : Nat) (s : State) : (bumpN f n s).out = s.out := rfl
@[simp] theorem bumpN_freeCount (f : Fld) (n : Nat) (s : State) : (bumpN f n s).freeCount = s.freeCount := rfl

@[simp] theorem bump_bus (f : Fld) (s : State) : (bump f s).bus = s.bus := rfl
@[simp] theorem bump_hw (f : Fld) (s : State) : (bump f s).hw = s.hw := rfl
@[simp] theorem bump_stk (f : Fld) (s : State) : (bump f s).stk = s.stk := rfl
@[simp] theorem bump_keel (f : Fld) (s : State) : (bump f s).keel = s.keel := rfl
@[simp] theorem bump_cox (f : Fld) (s : State) : (bump f s).cox = s.cox := rfl
@[simp] theorem bump_health (f : Fld) (s : State) : (bump f s).health = s.health := rfl
@[simp] theorem bump_mbx (f : Fld) (s : State) : (bump f s).mbx = s.mbx := rfl
@[simp] theorem bump_pci (f : Fld) (s : State) : (bump f s).pci = s.pci := rfl
@[simp] theorem bump_boot (f : Fld) (s : State) : (bump f s).boot = s.boot := rfl
@[simp] theorem bump_pwr (f : Fld) (s : State) : (bump f s).pwr = s.pwr := rfl
@[simp] theorem bump_dram (f : Fld) (s : State) : (bump f s).dram = s.dram := rfl
@[simp] theorem bump_upd (f : Fld) (s : State) : (bump f s).upd = s.upd := rfl
@[simp] theorem bump_fe (f : Fld) (s : State) : (bump f s).fe = s.fe := rfl
@[simp] theorem bump_nv (f : Fld) (s : State) : (bump f s).nv = s.nv := rfl
@[simp] theorem bump_ing (f : Fld) (s : State) : (bump f s).ing = s.ing := rfl
@[simp] theorem bump_map (f : Fld) (s : State) : (bump f s).map = s.map := rfl
@[simp] theorem bump_rds (f : Fld) (s : State) : (bump f s).rds = s.rds := rfl
@[simp] theorem bump_par (f : Fld) (s : State) : (bump f s).par = s.par := rfl
@[simp] theorem bump_bld (f : Fld) (s : State) : (bump f s).bld = s.bld := rfl
@[simp] theorem bump_pair (f : Fld) (s : State) : (bump f s).pair = s.pair := rfl
@[simp] theorem bump_rate (f : Fld) (s : State) : (bump f s).rate = s.rate := rfl
@[simp] theorem bump_snp (f : Fld) (s : State) : (bump f s).snp = s.snp := rfl
@[simp] theorem bump_keys (f : Fld) (s : State) : (bump f s).keys = s.keys := rfl
@[simp] theorem bump_pending (f : Fld) (s : State) : (bump f s).pending = s.pending := rfl
@[simp] theorem bump_out (f : Fld) (s : State) : (bump f s).out = s.out := rfl
@[simp] theorem bump_freeCount (f : Fld) (s : State) : (bump f s).freeCount = s.freeCount := rfl

@[simp] theorem lower_bus (f : Fld) (n : Nat) (s : State) : (lower f n s).bus = s.bus := rfl
@[simp] theorem lower_hw (f : Fld) (n : Nat) (s : State) : (lower f n s).hw = s.hw := rfl
@[simp] theorem lower_stk (f : Fld) (n : Nat) (s : State) : (lower f n s).stk = s.stk := rfl
@[simp] theorem lower_keel (f : Fld) (n : Nat) (s : State) : (lower f n s).keel = s.keel := rfl
@[simp] theorem lower_cox (f : Fld) (n : Nat) (s : State) : (lower f n s).cox = s.cox := rfl
@[simp] theorem lower_health (f : Fld) (n : Nat) (s : State) : (lower f n s).health = s.health := rfl
@[simp] theorem lower_mbx (f : Fld) (n : Nat) (s : State) : (lower f n s).mbx = s.mbx := rfl
@[simp] theorem lower_pci (f : Fld) (n : Nat) (s : State) : (lower f n s).pci = s.pci := rfl
@[simp] theorem lower_boot (f : Fld) (n : Nat) (s : State) : (lower f n s).boot = s.boot := rfl
@[simp] theorem lower_pwr (f : Fld) (n : Nat) (s : State) : (lower f n s).pwr = s.pwr := rfl
@[simp] theorem lower_dram (f : Fld) (n : Nat) (s : State) : (lower f n s).dram = s.dram := rfl
@[simp] theorem lower_upd (f : Fld) (n : Nat) (s : State) : (lower f n s).upd = s.upd := rfl
@[simp] theorem lower_fe (f : Fld) (n : Nat) (s : State) : (lower f n s).fe = s.fe := rfl
@[simp] theorem lower_nv (f : Fld) (n : Nat) (s : State) : (lower f n s).nv = s.nv := rfl
@[simp] theorem lower_ing (f : Fld) (n : Nat) (s : State) : (lower f n s).ing = s.ing := rfl
@[simp] theorem lower_map (f : Fld) (n : Nat) (s : State) : (lower f n s).map = s.map := rfl
@[simp] theorem lower_rds (f : Fld) (n : Nat) (s : State) : (lower f n s).rds = s.rds := rfl
@[simp] theorem lower_par (f : Fld) (n : Nat) (s : State) : (lower f n s).par = s.par := rfl
@[simp] theorem lower_bld (f : Fld) (n : Nat) (s : State) : (lower f n s).bld = s.bld := rfl
@[simp] theorem lower_pair (f : Fld) (n : Nat) (s : State) : (lower f n s).pair = s.pair := rfl
@[simp] theorem lower_rate (f : Fld) (n : Nat) (s : State) : (lower f n s).rate = s.rate := rfl
@[simp] theorem lower_snp (f : Fld) (n : Nat) (s : State) : (lower f n s).snp = s.snp := rfl
@[simp] theorem lower_keys (f : Fld) (n : Nat) (s : State) : (lower f n s).keys = s.keys := rfl
@[simp] theorem lower_pending (f : Fld) (n : Nat) (s : State) : (lower f n s).pending = s.pending := rfl
@[simp] theorem lower_out (f : Fld) (n : Nat) (s : State) : (lower f n s).out = s.out := rfl
@[simp] theorem lower_freeCount (f : Fld) (n : Nat) (s : State) : (lower f n s).freeCount = s.freeCount := rfl

@[simp] theorem clear_bus (f : Fld) (s : State) : (clear f s).bus = s.bus := rfl
@[simp] theorem clear_hw (f : Fld) (s : State) : (clear f s).hw = s.hw := rfl
@[simp] theorem clear_stk (f : Fld) (s : State) : (clear f s).stk = s.stk := rfl
@[simp] theorem clear_keel (f : Fld) (s : State) : (clear f s).keel = s.keel := rfl
@[simp] theorem clear_cox (f : Fld) (s : State) : (clear f s).cox = s.cox := rfl
@[simp] theorem clear_health (f : Fld) (s : State) : (clear f s).health = s.health := rfl
@[simp] theorem clear_mbx (f : Fld) (s : State) : (clear f s).mbx = s.mbx := rfl
@[simp] theorem clear_pci (f : Fld) (s : State) : (clear f s).pci = s.pci := rfl
@[simp] theorem clear_boot (f : Fld) (s : State) : (clear f s).boot = s.boot := rfl
@[simp] theorem clear_pwr (f : Fld) (s : State) : (clear f s).pwr = s.pwr := rfl
@[simp] theorem clear_dram (f : Fld) (s : State) : (clear f s).dram = s.dram := rfl
@[simp] theorem clear_upd (f : Fld) (s : State) : (clear f s).upd = s.upd := rfl
@[simp] theorem clear_fe (f : Fld) (s : State) : (clear f s).fe = s.fe := rfl
@[simp] theorem clear_nv (f : Fld) (s : State) : (clear f s).nv = s.nv := rfl
@[simp] theorem clear_ing (f : Fld) (s : State) : (clear f s).ing = s.ing := rfl
@[simp] theorem clear_map (f : Fld) (s : State) : (clear f s).map = s.map := rfl
@[simp] theorem clear_rds (f : Fld) (s : State) : (clear f s).rds = s.rds := rfl
@[simp] theorem clear_par (f : Fld) (s : State) : (clear f s).par = s.par := rfl
@[simp] theorem clear_bld (f : Fld) (s : State) : (clear f s).bld = s.bld := rfl
@[simp] theorem clear_pair (f : Fld) (s : State) : (clear f s).pair = s.pair := rfl
@[simp] theorem clear_rate (f : Fld) (s : State) : (clear f s).rate = s.rate := rfl
@[simp] theorem clear_snp (f : Fld) (s : State) : (clear f s).snp = s.snp := rfl
@[simp] theorem clear_keys (f : Fld) (s : State) : (clear f s).keys = s.keys := rfl
@[simp] theorem clear_pending (f : Fld) (s : State) : (clear f s).pending = s.pending := rfl
@[simp] theorem clear_out (f : Fld) (s : State) : (clear f s).out = s.out := rfl
@[simp] theorem clear_freeCount (f : Fld) (s : State) : (clear f s).freeCount = s.freeCount := rfl

@[simp] theorem emit_regs (k : OutKind) (a : List Nat) (s : State) : (emit k a s).regs = s.regs := rfl
@[simp] theorem emit_bus (k : OutKind) (a : List Nat) (s : State) : (emit k a s).bus = s.bus := rfl
@[simp] theorem emit_hw (k : OutKind) (a : List Nat) (s : State) : (emit k a s).hw = s.hw := rfl
@[simp] theorem emit_stk (k : OutKind) (a : List Nat) (s : State) : (emit k a s).stk = s.stk := rfl
@[simp] theorem emit_keel (k : OutKind) (a : List Nat) (s : State) : (emit k a s).keel = s.keel := rfl
@[simp] theorem emit_cox (k : OutKind) (a : List Nat) (s : State) : (emit k a s).cox = s.cox := rfl
@[simp] theorem emit_health (k : OutKind) (a : List Nat) (s : State) : (emit k a s).health = s.health := rfl
@[simp] theorem emit_mbx (k : OutKind) (a : List Nat) (s : State) : (emit k a s).mbx = s.mbx := rfl
@[simp] theorem emit_pci (k : OutKind) (a : List Nat) (s : State) : (emit k a s).pci = s.pci := rfl
@[simp] theorem emit_boot (k : OutKind) (a : List Nat) (s : State) : (emit k a s).boot = s.boot := rfl
@[simp] theorem emit_pwr (k : OutKind) (a : List Nat) (s : State) : (emit k a s).pwr = s.pwr := rfl
@[simp] theorem emit_dram (k : OutKind) (a : List Nat) (s : State) : (emit k a s).dram = s.dram := rfl
@[simp] theorem emit_upd (k : OutKind) (a : List Nat) (s : State) : (emit k a s).upd = s.upd := rfl
@[simp] theorem emit_fe (k : OutKind) (a : List Nat) (s : State) : (emit k a s).fe = s.fe := rfl
@[simp] theorem emit_nv (k : OutKind) (a : List Nat) (s : State) : (emit k a s).nv = s.nv := rfl
@[simp] theorem emit_ing (k : OutKind) (a : List Nat) (s : State) : (emit k a s).ing = s.ing := rfl
@[simp] theorem emit_map (k : OutKind) (a : List Nat) (s : State) : (emit k a s).map = s.map := rfl
@[simp] theorem emit_rds (k : OutKind) (a : List Nat) (s : State) : (emit k a s).rds = s.rds := rfl
@[simp] theorem emit_par (k : OutKind) (a : List Nat) (s : State) : (emit k a s).par = s.par := rfl
@[simp] theorem emit_bld (k : OutKind) (a : List Nat) (s : State) : (emit k a s).bld = s.bld := rfl
@[simp] theorem emit_pair (k : OutKind) (a : List Nat) (s : State) : (emit k a s).pair = s.pair := rfl
@[simp] theorem emit_rate (k : OutKind) (a : List Nat) (s : State) : (emit k a s).rate = s.rate := rfl
@[simp] theorem emit_snp (k : OutKind) (a : List Nat) (s : State) : (emit k a s).snp = s.snp := rfl
@[simp] theorem emit_keys (k : OutKind) (a : List Nat) (s : State) : (emit k a s).keys = s.keys := rfl
@[simp] theorem emit_pending (k : OutKind) (a : List Nat) (s : State) : (emit k a s).pending = s.pending := rfl
@[simp] theorem emit_freeCount (k : OutKind) (a : List Nat) (s : State) : (emit k a s).freeCount = s.freeCount := rfl

@[simp] theorem idleTick_regs  (s : State) : (idleTick  s).regs = s.regs := rfl
@[simp] theorem idleTick_bus  (s : State) : (idleTick  s).bus = s.bus := rfl
@[simp] theorem idleTick_hw  (s : State) : (idleTick  s).hw = s.hw := rfl
@[simp] theorem idleTick_keel  (s : State) : (idleTick  s).keel = s.keel := rfl
@[simp] theorem idleTick_cox  (s : State) : (idleTick  s).cox = s.cox := rfl
@[simp] theorem idleTick_health  (s : State) : (idleTick  s).health = s.health := rfl
@[simp] theorem idleTick_mbx  (s : State) : (idleTick  s).mbx = s.mbx := rfl
@[simp] theorem idleTick_pci  (s : State) : (idleTick  s).pci = s.pci := rfl
@[simp] theorem idleTick_boot  (s : State) : (idleTick  s).boot = s.boot := rfl
@[simp] theorem idleTick_pwr  (s : State) : (idleTick  s).pwr = s.pwr := rfl
@[simp] theorem idleTick_dram  (s : State) : (idleTick  s).dram = s.dram := rfl
@[simp] theorem idleTick_upd  (s : State) : (idleTick  s).upd = s.upd := rfl
@[simp] theorem idleTick_fe  (s : State) : (idleTick  s).fe = s.fe := rfl
@[simp] theorem idleTick_nv  (s : State) : (idleTick  s).nv = s.nv := rfl
@[simp] theorem idleTick_ing  (s : State) : (idleTick  s).ing = s.ing := rfl
@[simp] theorem idleTick_map  (s : State) : (idleTick  s).map = s.map := rfl
@[simp] theorem idleTick_rds  (s : State) : (idleTick  s).rds = s.rds := rfl
@[simp] theorem idleTick_par  (s : State) : (idleTick  s).par = s.par := rfl
@[simp] theorem idleTick_bld  (s : State) : (idleTick  s).bld = s.bld := rfl
@[simp] theorem idleTick_pair  (s : State) : (idleTick  s).pair = s.pair := rfl
@[simp] theorem idleTick_rate  (s : State) : (idleTick  s).rate = s.rate := rfl
@[simp] theorem idleTick_snp  (s : State) : (idleTick  s).snp = s.snp := rfl
@[simp] theorem idleTick_keys  (s : State) : (idleTick  s).keys = s.keys := rfl
@[simp] theorem idleTick_pending  (s : State) : (idleTick  s).pending = s.pending := rfl
@[simp] theorem idleTick_out  (s : State) : (idleTick  s).out = s.out := rfl
@[simp] theorem idleTick_freeCount  (s : State) : (idleTick  s).freeCount = s.freeCount := rfl

@[simp] theorem ancWrote_bus (n k : Nat) (s : State) : (ancWrote n k s).bus = s.bus := rfl
@[simp] theorem ancWrote_hw (n k : Nat) (s : State) : (ancWrote n k s).hw = s.hw := rfl
@[simp] theorem ancWrote_stk (n k : Nat) (s : State) : (ancWrote n k s).stk = s.stk := rfl
@[simp] theorem ancWrote_keel (n k : Nat) (s : State) : (ancWrote n k s).keel = s.keel := rfl
@[simp] theorem ancWrote_cox (n k : Nat) (s : State) : (ancWrote n k s).cox = s.cox := rfl
@[simp] theorem ancWrote_health (n k : Nat) (s : State) : (ancWrote n k s).health = s.health := rfl
@[simp] theorem ancWrote_mbx (n k : Nat) (s : State) : (ancWrote n k s).mbx = s.mbx := rfl
@[simp] theorem ancWrote_pci (n k : Nat) (s : State) : (ancWrote n k s).pci = s.pci := rfl
@[simp] theorem ancWrote_boot (n k : Nat) (s : State) : (ancWrote n k s).boot = s.boot := rfl
@[simp] theorem ancWrote_pwr (n k : Nat) (s : State) : (ancWrote n k s).pwr = s.pwr := rfl
@[simp] theorem ancWrote_dram (n k : Nat) (s : State) : (ancWrote n k s).dram = s.dram := rfl
@[simp] theorem ancWrote_upd (n k : Nat) (s : State) : (ancWrote n k s).upd = s.upd := rfl
@[simp] theorem ancWrote_fe (n k : Nat) (s : State) : (ancWrote n k s).fe = s.fe := rfl
@[simp] theorem ancWrote_nv (n k : Nat) (s : State) : (ancWrote n k s).nv = s.nv := rfl
@[simp] theorem ancWrote_ing (n k : Nat) (s : State) : (ancWrote n k s).ing = s.ing := rfl
@[simp] theorem ancWrote_map (n k : Nat) (s : State) : (ancWrote n k s).map = s.map := rfl
@[simp] theorem ancWrote_rds (n k : Nat) (s : State) : (ancWrote n k s).rds = s.rds := rfl
@[simp] theorem ancWrote_par (n k : Nat) (s : State) : (ancWrote n k s).par = s.par := rfl
@[simp] theorem ancWrote_bld (n k : Nat) (s : State) : (ancWrote n k s).bld = s.bld := rfl
@[simp] theorem ancWrote_pair (n k : Nat) (s : State) : (ancWrote n k s).pair = s.pair := rfl
@[simp] theorem ancWrote_rate (n k : Nat) (s : State) : (ancWrote n k s).rate = s.rate := rfl
@[simp] theorem ancWrote_snp (n k : Nat) (s : State) : (ancWrote n k s).snp = s.snp := rfl
@[simp] theorem ancWrote_keys (n k : Nat) (s : State) : (ancWrote n k s).keys = s.keys := rfl
@[simp] theorem ancWrote_pending (n k : Nat) (s : State) : (ancWrote n k s).pending = s.pending := rfl
@[simp] theorem ancWrote_out (n k : Nat) (s : State) : (ancWrote n k s).out = s.out := rfl
@[simp] theorem ancWrote_freeCount (n k : Nat) (s : State) : (ancWrote n k s).freeCount = s.freeCount := rfl

@[simp] theorem wrOpen_bus (f : Fld) (s : State) : (wrOpen f s).bus = s.bus := rfl
@[simp] theorem wrOpen_hw (f : Fld) (s : State) : (wrOpen f s).hw = s.hw := rfl
@[simp] theorem wrOpen_stk (f : Fld) (s : State) : (wrOpen f s).stk = s.stk := rfl
@[simp] theorem wrOpen_keel (f : Fld) (s : State) : (wrOpen f s).keel = s.keel := rfl
@[simp] theorem wrOpen_cox (f : Fld) (s : State) : (wrOpen f s).cox = s.cox := rfl
@[simp] theorem wrOpen_health (f : Fld) (s : State) : (wrOpen f s).health = s.health := rfl
@[simp] theorem wrOpen_mbx (f : Fld) (s : State) : (wrOpen f s).mbx = s.mbx := rfl
@[simp] theorem wrOpen_pci (f : Fld) (s : State) : (wrOpen f s).pci = s.pci := rfl
@[simp] theorem wrOpen_boot (f : Fld) (s : State) : (wrOpen f s).boot = s.boot := rfl
@[simp] theorem wrOpen_pwr (f : Fld) (s : State) : (wrOpen f s).pwr = s.pwr := rfl
@[simp] theorem wrOpen_dram (f : Fld) (s : State) : (wrOpen f s).dram = s.dram := rfl
@[simp] theorem wrOpen_upd (f : Fld) (s : State) : (wrOpen f s).upd = s.upd := rfl
@[simp] theorem wrOpen_fe (f : Fld) (s : State) : (wrOpen f s).fe = s.fe := rfl
@[simp] theorem wrOpen_nv (f : Fld) (s : State) : (wrOpen f s).nv = s.nv := rfl
@[simp] theorem wrOpen_ing (f : Fld) (s : State) : (wrOpen f s).ing = s.ing := rfl
@[simp] theorem wrOpen_map (f : Fld) (s : State) : (wrOpen f s).map = s.map := rfl
@[simp] theorem wrOpen_rds (f : Fld) (s : State) : (wrOpen f s).rds = s.rds := rfl
@[simp] theorem wrOpen_par (f : Fld) (s : State) : (wrOpen f s).par = s.par := rfl
@[simp] theorem wrOpen_bld (f : Fld) (s : State) : (wrOpen f s).bld = s.bld := rfl
@[simp] theorem wrOpen_pair (f : Fld) (s : State) : (wrOpen f s).pair = s.pair := rfl
@[simp] theorem wrOpen_rate (f : Fld) (s : State) : (wrOpen f s).rate = s.rate := rfl
@[simp] theorem wrOpen_snp (f : Fld) (s : State) : (wrOpen f s).snp = s.snp := rfl
@[simp] theorem wrOpen_keys (f : Fld) (s : State) : (wrOpen f s).keys = s.keys := rfl
@[simp] theorem wrOpen_pending (f : Fld) (s : State) : (wrOpen f s).pending = s.pending := rfl
@[simp] theorem wrOpen_out (f : Fld) (s : State) : (wrOpen f s).out = s.out := rfl

@[simp] theorem emit_out (k : OutKind) (a : List Nat) (s : State) : (emit k a s).out = ⟨k, a⟩ :: s.out := rfl
@[simp] theorem wrOpen_freeCount (f : Fld) (s : State) : (wrOpen f s).freeCount = s.freeCount + 1 := rfl
@[simp] theorem openValue_fst (s : State) : (openValue s).1 = Config.freeValue s.freeCount := rfl
@[simp] theorem openValue_snd (s : State) : (openValue s).2 = { s with freeCount := s.freeCount + 1 } := rfl

end Sys2Proof.Machine
end

