-- ==== Sys2Proof/Laws/Regs.lean ====
section
/-!
SUPPORT. Laws/Regs.lean: reading a register field after it, or another, was written.
-/

namespace Sys2Proof.Machine

/-- A field reads from the register file alone. -/
theorem rd_congr {s t : State} (h : t.regs = s.regs) (f : Fld) : rd t f = rd s f := by simp only [rd, h]

theorem isSet_congr {s t : State} (h : t.regs = s.regs) (f : Fld) : isSet t f = isSet s f := by simp only [isSet, rd, h]

@[simp] theorem rd_emit (k : OutKind) (a : List Nat) (s : State) (f : Fld) : rd (emit k a s) f = rd s f := rfl
@[simp] theorem isSet_emit (k : OutKind) (a : List Nat) (s : State) (f : Fld) : isSet (emit k a s) f = isSet s f := rfl
@[simp] theorem rd_idleTick (s : State) (f : Fld) : rd (idleTick s) f = rd s f := rfl

/-- A field fits its width. -/
theorem rd_lt (s : State) (f : Fld) : rd s f < 2 ^ f.width := Nat.mod_lt _ (Nat.pow_pos (by decide))

/-- Writing a field leaves every other field alone. -/
theorem rd_wr_ne {f g : Fld} (h : g.key ≠ f.key) (v : Nat) (s : State) : rd (wr f v s) g = rd s g := by
  simp only [rd, wr, fgetD]
  split
  · rw [fget_fdel_ne _ h]
  · rw [fget_fset_ne _ _ h]

/-- A field reads as it was written, cut to its width: everywhere where the value is not the reset value, and in a register file in
canonical form for every value. -/
theorem rd_wr_self {f : Fld} {s : State} (hs : FSorted s.regs) (v : Nat) : rd (wr f v s) f = v % 2 ^ f.width := by
  simp only [rd, wr, fgetD]
  split
  · next h => rw [fget_fdel_self hs]; simp only [Option.getD_none, ← h, Nat.mod_mod]
  · simp only [fget_fset_self, Option.getD_some, Nat.mod_mod]

theorem rd_wr_self_of_ne {f : Fld} {s : State} {v : Nat} (h : v % 2 ^ f.width ≠ f.reset) : rd (wr f v s) f = v % 2 ^ f.width := by
  simp only [rd, wr, fgetD, if_neg h, fget_fset_self, Option.getD_some, Nat.mod_mod]

/-- A value that fits reads back whole. -/
theorem rd_wr_of_lt {f : Fld} {s : State} (hs : FSorted s.regs) {v : Nat} (hv : v < 2 ^ f.width) : rd (wr f v s) f = v := by
  rw [rd_wr_self hs, Nat.mod_eq_of_lt hv]

theorem wr_sorted {s : State} (hs : FSorted s.regs) (f : Fld) (v : Nat) : FSorted (wr f v s).regs := by
  simp only [wr]; split
  · exact fdel_sorted hs _
  · exact fset_sorted hs _ _

/-- Counting saturates at the width of the counter. -/
theorem rd_bumpN {f : Fld} {s : State} (hs : FSorted s.regs) (n : Nat) :
    rd (bumpN f n s) f = min (rd s f + n) (2 ^ f.width - 1) := by
  have : 0 < 2 ^ f.width := Nat.pow_pos (by decide)
  exact rd_wr_of_lt hs (by omega)

theorem rd_bumpN_ne {f g : Fld} (h : g.key ≠ f.key) (n : Nat) (s : State) : rd (bumpN f n s) g = rd s g := rd_wr_ne h _ _
theorem rd_bump_ne {f g : Fld} (h : g.key ≠ f.key) (s : State) : rd (bump f s) g = rd s g := rd_wr_ne h _ _

theorem rd_bump {f : Fld} {s : State} (hs : FSorted s.regs) : rd (bump f s) f = min (rd s f + 1) (2 ^ f.width - 1) := rd_bumpN hs 1

theorem rd_wrB {f : Fld} {s : State} (hs : FSorted s.regs) (hw : f.width = 1) (b : Bool) : rd (wrB f b s) f = b2n b :=
  rd_wr_of_lt hs (by rw [hw]; cases b <;> decide)

theorem rd_wrB_ne {f g : Fld} (h : g.key ≠ f.key) (b : Bool) (s : State) : rd (wrB f b s) g = rd s g := rd_wr_ne h _ _

theorem rd_lower {f : Fld} {s : State} (hs : FSorted s.regs) (n : Nat) : rd (lower f n s) f = rd s f - n :=
  rd_wr_of_lt hs (Nat.lt_of_le_of_lt (Nat.sub_le _ _) (rd_lt s f))

end Sys2Proof.Machine
end

