-- ==== Sys2Proof/Laws/Records.lean ====
section
/-!
SUPPORT. Laws/Records.lean: what recording an event changes: the event's own bit and the records, and no other register.
-/

namespace Sys2Proof.Machine

open Sys2Proof

/-- A register that is no record lies elsewhere than one that is. -/
theorem quiet_ne {f g : Fld} (hf : isRecord f.key = false) (hg : isRecord g.key = true) : f.key ≠ g.key :=
  fun h => absurd (h ▸ hg) (by rw [hf]; decide)

/-- The last block of a seat window holds records (R537, R538). -/
theorem isRecord_of {k n : Nat} (h : 8 * (0x400000 * (n + 1) + 0x1f0000) ≤ k) (h' : k < 8 * (0x400000 * (n + 1) + 0x200000)) :
    isRecord k = true := by
  have h0 : ¬k / 8 < 0x400000 := by omega
  have h1 : 0x400000 ≤ k / 8 := Nat.not_lt.mp h0
  have h2 : k / 8 % 0x400000 / 0x10000 = 31 := by omega
  have h3 : (decide (0x400000 ≤ k / 8) && k / 8 % 0x400000 / 0x10000 == 31) = true := by rw [decide_eq_true h1, h2]; rfl
  unfold isRecord
  dsimp only
  rw [h3, Bool.or_true]

/-- A fold of operations that leave a field alone leaves it alone. -/
theorem rd_foldS {A : Type} {l : List A} {f : A → State → State} {g : Fld} (h : ∀ a ∈ l, ∀ s, rd (f a s) g = rd s g) (s : State) :
    rd (foldS l f s) g = rd s g := by
  induction l generalizing s with
  | nil => rfl
  | cons a t ih =>
    show rd (foldS t f (f a s)) g = _
    rw [ih (fun b hb => h b (List.mem_cons_of_mem _ hb)), h a (List.mem_cons_self ..)]

variable {f : Fld}

theorem rd_sendMsix (hf : isRecord f.key = false) (v : Nat) (s : State) : rd (sendMsix v s) f = rd s f := by
  unfold sendMsix
  split
  · exact rd_wr_ne (f := Reg.PCI_LINK_STATE_PM) (quiet_ne hf (by decide)) 0 s
  · exact rd_bump_ne (quiet_ne hf (by decide)) _

theorem rd_coxRaise (hf : isRecord f.key = false) (s : State) : rd (coxRaise s) f = rd s f := rd_sendMsix hf _ _

theorem rd_logWrite (hf : isRecord f.key = false) (seat cls code : Nat) (raised : Bool) (p : List Nat) (s : State) :
    rd (logWrite seat cls code raised p s) f = rd s f := by
  simp only [logWrite]
  rw [rd_wr_ne (quiet_ne hf (by decide)), rd_wr_ne (quiet_ne hf (by decide))]; rfl

theorem rd_logE (hf : isRecord f.key = false) (seat cls code : Nat) (raised : Bool) (p : List Nat) (s : State) :
    rd (logE seat cls code raised p s) f = rd s f := by
  simp only [logE]
  split
  · split
    · exact rd_logWrite hf ..
    · split
      · exact rd_logWrite hf ..
      · exact rd_bump_ne (quiet_ne hf (by decide)) _
  · rfl

theorem rd_logFw (hf : isRecord f.key = false) (seat code : Nat) (args : List Nat) (s : State) : rd (logFw seat code args s) f = rd s f :=
  rd_logE hf ..

theorem rd_logAccess (hf : isRecord f.key = false) (bar : Nat) (w : Bool) (size off : Nat) (s : State) :
    rd (logAccess bar w size off s) f = rd s f := rd_logE hf ..

theorem rd_pfrFire (hf : isRecord f.key = false) (seat cause : Nat) {t : Nat} (ht : t < 8) (s : State) :
    rd (pfrFire seat t cause s) f = rd s f := by
  have h1 : f.key ≠ (Reg.PFR_STATUS_FULL seat).key :=
    quiet_ne hf (isRecord_of (n := seat) (by simp only [Reg.PFR_STATUS_FULL]; omega) (by simp only [Reg.PFR_STATUS_FULL]; omega))
  have h2 : f.key ≠ (Reg.PFR_STATUS_RECORDS seat).key :=
    quiet_ne hf (isRecord_of (n := seat) (by simp only [Reg.PFR_STATUS_RECORDS]; omega) (by simp only [Reg.PFR_STATUS_RECORDS]; omega))
  have h3 : f.key ≠ (Reg.PFR_TRIG_FIRED seat t).key :=
    quiet_ne hf (isRecord_of (n := seat) (by simp only [Reg.PFR_TRIG_FIRED]; omega) (by simp only [Reg.PFR_TRIG_FIRED]; omega))
  have h4 : f.key ≠ (Reg.PFR_DROPPED_COUNT seat).key :=
    quiet_ne hf (isRecord_of (n := seat) (by simp only [Reg.PFR_DROPPED_COUNT]; omega) (by simp only [Reg.PFR_DROPPED_COUNT]; omega))
  unfold pfrFire
  split
  · rfl
  · dsimp only
    repeat' split
    all_goals first
      | (rw [rd_wrB_ne h1, rd_wr_ne h2, rd_bump_ne h3]; rfl)
      | (rw [rd_bump_ne h4]; rfl)
      | rfl

theorem rd_pfrFireWhere (hf : isRecord f.key = false) (seat cause : Nat) (p : TrigCond → Bool) (s : State) :
    rd (pfrFireWhere seat cause p s) f = rd s f := by
  unfold pfrFireWhere
  refine rd_foldS (fun t ht s => ?_) s
  split
  · split
    · exact rd_pfrFire hf _ _ (by simpa using ht) _
    · rfl
  · rfl

/-- An event changes its own bit and the records (R522, R526). -/
theorem rd_setEvent (hf : isRecord f.key = false) {ev : Fld} (he : f.key ≠ ev.key) (raised : Bool) (s : State) :
    rd (setEvent ev raised s) f = rd s f := by
  simp only [setEvent]
  split <;> split <;> simp only [rd_coxRaise hf, rd_pfrFireWhere hf, rd_logE hf, rd_wr_ne he]

theorem rd_event (hf : isRecord f.key = false) {ev : Fld} (he : f.key ≠ ev.key) (en : Fld) (bit : Nat) (s : State) :
    rd (event ev en bit s) f = rd s f := rd_setEvent hf he ..

/-- The event's own bit is set. -/
theorem rd_setEvent_self {ev : Fld} (hq : isRecord ev.key = false) (hw : ev.width = 1) (h0 : ev.reset = 0) (raised : Bool) (s : State) :
    rd (setEvent ev raised s) ev = 1 := by
  have h : ∀ s, rd (wr ev 1 s) ev = 1 := fun s => by rw [rd_wr_self_of_ne] <;> simp [hw, h0]
  simp only [setEvent]
  split <;> split <;> simp only [rd_coxRaise hq, rd_pfrFireWhere hq, rd_logE hq, h]

theorem rd_event_self {ev : Fld} (hq : isRecord ev.key = false) (hw : ev.width = 1) (h0 : ev.reset = 0) (en : Fld) (bit : Nat) (s : State) :
    rd (event ev en bit s) ev = 1 := rd_setEvent_self hq hw h0 ..

theorem rd_durability (hf : isRecord f.key = false) {g : Fld} (hg : f.key ≠ g.key) (hc : f.key ≠ Reg.PKG_DURABILITY_CHANGED.key) (v : Bool)
    (s : State) : rd (durability g v s) f = rd s f := by
  unfold durability
  split
  · rfl
  · rw [rd_setEvent hf hc, rd_wrB_ne hg]

theorem rd_faultRoom (hf : isRecord f.key = false) (seat : Nat) (s : State) : rd (faultRoom seat s) f = rd s f := by
  have hv : f.key ≠ (Reg.FLT_SEAT_EVICT_COUNT seat).key :=
    quiet_ne hf (isRecord_of (n := seat) (by simp only [Reg.FLT_SEAT_EVICT_COUNT]; omega) (by simp only [Reg.FLT_SEAT_EVICT_COUNT]; omega))
  simp only [faultRoom]
  split
  · rfl
  · split
    · rfl
    · rw [rd_event hf (quiet_ne hf (by decide)), rd_bump_ne hv]; rfl

theorem isRecord_src {i : Nat} (h : i < 32) : isRecord (Reg.FLT_SRC_COUNT_COUNT i).key = true := by
  have : ∀ i < 32, isRecord (Reg.FLT_SRC_COUNT_COUNT i).key = true := by decide
  exact this i h

theorem rd_faultCount (hf : isRecord f.key = false) {source : Nat} (hs : source < 32) (seat inst : Nat) (d : Option Nat) (l : List Nat)
    (s : State) : rd (faultCount seat source inst d l s).1 f = rd s f := by
  have hx : f.key ≠ (Reg.FLT_SEAT_ENTRIES_COUNT seat).key :=
    quiet_ne hf (isRecord_of (n := seat) (by simp only [Reg.FLT_SEAT_ENTRIES_COUNT]; omega) (by simp only [Reg.FLT_SEAT_ENTRIES_COUNT]; omega))
  have hy : f.key ≠ (Reg.FLT_SEAT_EVENTS_COUNT seat).key :=
    quiet_ne hf (isRecord_of (n := seat) (by simp only [Reg.FLT_SEAT_EVENTS_COUNT]; omega) (by simp only [Reg.FLT_SEAT_EVENTS_COUNT]; omega))
  have hz : f.key ≠ (Reg.FLT_SEAT_LASTING_COUNT seat).key :=
    quiet_ne hf (isRecord_of (n := seat) (by simp only [Reg.FLT_SEAT_LASTING_COUNT]; omega) (by simp only [Reg.FLT_SEAT_LASTING_COUNT]; omega))
  have hc : f.key ≠ (Reg.FLT_SRC_COUNT_COUNT source).key := quiet_ne hf (isRecord_src hs)
  have ht : f.key ≠ Reg.FLT_TRANSIENT_COUNT.key := quiet_ne hf (by decide)
  have hl : f.key ≠ Reg.FLT_LASTING_COUNT.key := quiet_ne hf (by decide)
  have he : f.key ≠ Reg.FLT_EVENTS_LASTING.key := quiet_ne hf (by decide)
  have hq : f.key ≠ Reg.LOG_LAST_LASTING_SEQ.key := quiet_ne hf (by decide)
  have base : ∀ (s : State) (m : FMap FaultEntry), rd ({ s with health := { s.health with faults := m } } |> bump Reg.FLT_TRANSIENT_COUNT
      |> bump (Reg.FLT_SRC_COUNT_COUNT source) |> bump (Reg.FLT_SEAT_EVENTS_COUNT seat) |> showEntries seat) f = rd s f := by
    intro s m
    rw [showEntries, rd_wr_ne hx, rd_bump_ne hy, rd_bump_ne hc, rd_bump_ne ht]; rfl
  have hw : ∀ (c : Bool) (v : Nat) (s : State), rd (when c (wr Reg.LOG_LAST_LASTING_SEQ v) s) f = rd s f := by
    intro c v s; unfold when; split
    · rw [rd_wr_ne hq]
    · rfl
  have hr : rd (if fhas s.health.faults (faultKey seat source inst) then s else faultRoom seat s) f = rd s f := by
    split
    · rfl
    · exact rd_faultRoom hf ..
  unfold faultCount
  extract_lets k s1 e cur e2 n c hh s2
  have h2 : rd s2 f = rd s f := (base s1 _).trans hr
  split
  · dsimp only
    rw [rd_pfrFireWhere hf, rd_event hf he, rd_bump_ne hz, rd_bump_ne hl, hw, rd_logE hf, h2]
  · dsimp only
    rw [rd_pfrFireWhere hf, rd_logE hf, h2]

/-- A fault of a source whose consequence is its logbook entry changes the records alone (R517). -/
theorem rd_faultNote (hf : isRecord f.key = false) {source : Nat} (hs : source < 32) (seat inst : Nat) (l : List Nat) (s : State) :
    rd (faultNote seat source inst l s) f = rd s f := by
  simp only [faultNote]
  split
  · show rd (faultCount seat source inst none l s).1 f = _
    exact rd_faultCount hf hs ..
  · exact rd_faultCount hf hs ..

end Sys2Proof.Machine
end

