-- ==== Sys2Proof/Laws/RecordsState.lean ====
section
/-!
SUPPORT. Laws/RecordsState.lean: recording an event leaves every area of the state alone but the registers, the records, the PCIe function's
pending messages and what has been sent.
-/

namespace Sys2Proof.Machine

open Sys2Proof

@[simp] theorem sendMsix_bus (v : Nat) (s : State) : (sendMsix v s).bus = s.bus := (sendMsix_follows (Follows.refl 16777473 s) rfl).frame .bus rfl
@[simp] theorem sendMsix_hw (v : Nat) (s : State) : (sendMsix v s).hw = s.hw := (sendMsix_follows (Follows.refl 16777473 s) rfl).frame .hw rfl
@[simp] theorem sendMsix_stk (v : Nat) (s : State) : (sendMsix v s).stk = s.stk := (sendMsix_follows (Follows.refl 16777473 s) rfl).frame .stk rfl
@[simp] theorem sendMsix_keel (v : Nat) (s : State) : (sendMsix v s).keel = s.keel := (sendMsix_follows (Follows.refl 16777473 s) rfl).frame .keel rfl
@[simp] theorem sendMsix_cox (v : Nat) (s : State) : (sendMsix v s).cox = s.cox := (sendMsix_follows (Follows.refl 16777473 s) rfl).frame .cox rfl
@[simp] theorem sendMsix_health (v : Nat) (s : State) : (sendMsix v s).health = s.health := (sendMsix_follows (Follows.refl 16777473 s) rfl).frame .health rfl
@[simp] theorem sendMsix_mbx (v : Nat) (s : State) : (sendMsix v s).mbx = s.mbx := (sendMsix_follows (Follows.refl 16777473 s) rfl).frame .mbx rfl
@[simp] theorem sendMsix_boot (v : Nat) (s : State) : (sendMsix v s).boot = s.boot := (sendMsix_follows (Follows.refl 16777473 s) rfl).frame .boot rfl
@[simp] theorem sendMsix_pwr (v : Nat) (s : State) : (sendMsix v s).pwr = s.pwr := (sendMsix_follows (Follows.refl 16777473 s) rfl).frame .pwr rfl
@[simp] theorem sendMsix_dram (v : Nat) (s : State) : (sendMsix v s).dram = s.dram := (sendMsix_follows (Follows.refl 16777473 s) rfl).frame .dram rfl
@[simp] theorem sendMsix_upd (v : Nat) (s : State) : (sendMsix v s).upd = s.upd := (sendMsix_follows (Follows.refl 16777473 s) rfl).frame .upd rfl
@[simp] theorem sendMsix_fe (v : Nat) (s : State) : (sendMsix v s).fe = s.fe := (sendMsix_follows (Follows.refl 16777473 s) rfl).frame .fe rfl
@[simp] theorem sendMsix_nv (v : Nat) (s : State) : (sendMsix v s).nv = s.nv := (sendMsix_follows (Follows.refl 16777473 s) rfl).frame .nv rfl
@[simp] theorem sendMsix_ing (v : Nat) (s : State) : (sendMsix v s).ing = s.ing := (sendMsix_follows (Follows.refl 16777473 s) rfl).frame .ing rfl
@[simp] theorem sendMsix_map (v : Nat) (s : State) : (sendMsix v s).map = s.map := (sendMsix_follows (Follows.refl 16777473 s) rfl).frame .map rfl
@[simp] theorem sendMsix_rds (v : Nat) (s : State) : (sendMsix v s).rds = s.rds := (sendMsix_follows (Follows.refl 16777473 s) rfl).frame .rds rfl
@[simp] theorem sendMsix_par (v : Nat) (s : State) : (sendMsix v s).par = s.par := (sendMsix_follows (Follows.refl 16777473 s) rfl).frame .par rfl
@[simp] theorem sendMsix_bld (v : Nat) (s : State) : (sendMsix v s).bld = s.bld := (sendMsix_follows (Follows.refl 16777473 s) rfl).frame .bld rfl
@[simp] theorem sendMsix_pair (v : Nat) (s : State) : (sendMsix v s).pair = s.pair := (sendMsix_follows (Follows.refl 16777473 s) rfl).frame .pair rfl
@[simp] theorem sendMsix_rate (v : Nat) (s : State) : (sendMsix v s).rate = s.rate := (sendMsix_follows (Follows.refl 16777473 s) rfl).frame .rate rfl
@[simp] theorem sendMsix_snp (v : Nat) (s : State) : (sendMsix v s).snp = s.snp := (sendMsix_follows (Follows.refl 16777473 s) rfl).frame .snp rfl
@[simp] theorem sendMsix_keys (v : Nat) (s : State) : (sendMsix v s).keys = s.keys := (sendMsix_follows (Follows.refl 16777473 s) rfl).frame .keys rfl
@[simp] theorem sendMsix_freeCount (v : Nat) (s : State) : (sendMsix v s).freeCount = s.freeCount := (sendMsix_follows (Follows.refl 16777473 s) rfl).frame .freeCount rfl
@[simp] theorem sendMsix_pending (v : Nat) (s : State) : (sendMsix v s).pending = s.pending := (sendMsix_follows (Follows.refl 16777473 s) rfl).queue

@[simp] theorem coxRaise_bus  (s : State) : (coxRaise  s).bus = s.bus := (coxRaise_follows (Follows.refl 16777473 s) rfl).frame .bus rfl
@[simp] theorem coxRaise_hw  (s : State) : (coxRaise  s).hw = s.hw := (coxRaise_follows (Follows.refl 16777473 s) rfl).frame .hw rfl
@[simp] theorem coxRaise_stk  (s : State) : (coxRaise  s).stk = s.stk := (coxRaise_follows (Follows.refl 16777473 s) rfl).frame .stk rfl
@[simp] theorem coxRaise_keel  (s : State) : (coxRaise  s).keel = s.keel := (coxRaise_follows (Follows.refl 16777473 s) rfl).frame .keel rfl
@[simp] theorem coxRaise_cox  (s : State) : (coxRaise  s).cox = s.cox := (coxRaise_follows (Follows.refl 16777473 s) rfl).frame .cox rfl
@[simp] theorem coxRaise_health  (s : State) : (coxRaise  s).health = s.health := (coxRaise_follows (Follows.refl 16777473 s) rfl).frame .health rfl
@[simp] theorem coxRaise_mbx  (s : State) : (coxRaise  s).mbx = s.mbx := (coxRaise_follows (Follows.refl 16777473 s) rfl).frame .mbx rfl
@[simp] theorem coxRaise_boot  (s : State) : (coxRaise  s).boot = s.boot := (coxRaise_follows (Follows.refl 16777473 s) rfl).frame .boot rfl
@[simp] theorem coxRaise_pwr  (s : State) : (coxRaise  s).pwr = s.pwr := (coxRaise_follows (Follows.refl 16777473 s) rfl).frame .pwr rfl
@[simp] theorem coxRaise_dram  (s : State) : (coxRaise  s).dram = s.dram := (coxRaise_follows (Follows.refl 16777473 s) rfl).frame .dram rfl
@[simp] theorem coxRaise_upd  (s : State) : (coxRaise  s).upd = s.upd := (coxRaise_follows (Follows.refl 16777473 s) rfl).frame .upd rfl
@[simp] theorem coxRaise_fe  (s : State) : (coxRaise  s).fe = s.fe := (coxRaise_follows (Follows.refl 16777473 s) rfl).frame .fe rfl
@[simp] theorem coxRaise_nv  (s : State) : (coxRaise  s).nv = s.nv := (coxRaise_follows (Follows.refl 16777473 s) rfl).frame .nv rfl
@[simp] theorem coxRaise_ing  (s : State) : (coxRaise  s).ing = s.ing := (coxRaise_follows (Follows.refl 16777473 s) rfl).frame .ing rfl
@[simp] theorem coxRaise_map  (s : State) : (coxRaise  s).map = s.map := (coxRaise_follows (Follows.refl 16777473 s) rfl).frame .map rfl
@[simp] theorem coxRaise_rds  (s : State) : (coxRaise  s).rds = s.rds := (coxRaise_follows (Follows.refl 16777473 s) rfl).frame .rds rfl
@[simp] theorem coxRaise_par  (s : State) : (coxRaise  s).par = s.par := (coxRaise_follows (Follows.refl 16777473 s) rfl).frame .par rfl
@[simp] theorem coxRaise_bld  (s : State) : (coxRaise  s).bld = s.bld := (coxRaise_follows (Follows.refl 16777473 s) rfl).frame .bld rfl
@[simp] theorem coxRaise_pair  (s : State) : (coxRaise  s).pair = s.pair := (coxRaise_follows (Follows.refl 16777473 s) rfl).frame .pair rfl
@[simp] theorem coxRaise_rate  (s : State) : (coxRaise  s).rate = s.rate := (coxRaise_follows (Follows.refl 16777473 s) rfl).frame .rate rfl
@[simp] theorem coxRaise_snp  (s : State) : (coxRaise  s).snp = s.snp := (coxRaise_follows (Follows.refl 16777473 s) rfl).frame .snp rfl
@[simp] theorem coxRaise_keys  (s : State) : (coxRaise  s).keys = s.keys := (coxRaise_follows (Follows.refl 16777473 s) rfl).frame .keys rfl
@[simp] theorem coxRaise_freeCount  (s : State) : (coxRaise  s).freeCount = s.freeCount := (coxRaise_follows (Follows.refl 16777473 s) rfl).frame .freeCount rfl
@[simp] theorem coxRaise_pending  (s : State) : (coxRaise  s).pending = s.pending := (coxRaise_follows (Follows.refl 16777473 s) rfl).queue

@[simp] theorem logE_bus (a b c : Nat) (r : Bool) (p : List Nat) (s : State) : (logE a b c r p s).bus = s.bus := (logE_follows (Follows.refl 65 s) rfl).frame .bus rfl
@[simp] theorem logE_hw (a b c : Nat) (r : Bool) (p : List Nat) (s : State) : (logE a b c r p s).hw = s.hw := (logE_follows (Follows.refl 65 s) rfl).frame .hw rfl
@[simp] theorem logE_stk (a b c : Nat) (r : Bool) (p : List Nat) (s : State) : (logE a b c r p s).stk = s.stk := (logE_follows (Follows.refl 65 s) rfl).frame .stk rfl
@[simp] theorem logE_keel (a b c : Nat) (r : Bool) (p : List Nat) (s : State) : (logE a b c r p s).keel = s.keel := (logE_follows (Follows.refl 65 s) rfl).frame .keel rfl
@[simp] theorem logE_cox (a b c : Nat) (r : Bool) (p : List Nat) (s : State) : (logE a b c r p s).cox = s.cox := (logE_follows (Follows.refl 65 s) rfl).frame .cox rfl
@[simp] theorem logE_mbx (a b c : Nat) (r : Bool) (p : List Nat) (s : State) : (logE a b c r p s).mbx = s.mbx := (logE_follows (Follows.refl 65 s) rfl).frame .mbx rfl
@[simp] theorem logE_pci (a b c : Nat) (r : Bool) (p : List Nat) (s : State) : (logE a b c r p s).pci = s.pci := (logE_follows (Follows.refl 65 s) rfl).frame .pci rfl
@[simp] theorem logE_boot (a b c : Nat) (r : Bool) (p : List Nat) (s : State) : (logE a b c r p s).boot = s.boot := (logE_follows (Follows.refl 65 s) rfl).frame .boot rfl
@[simp] theorem logE_pwr (a b c : Nat) (r : Bool) (p : List Nat) (s : State) : (logE a b c r p s).pwr = s.pwr := (logE_follows (Follows.refl 65 s) rfl).frame .pwr rfl
@[simp] theorem logE_dram (a b c : Nat) (r : Bool) (p : List Nat) (s : State) : (logE a b c r p s).dram = s.dram := (logE_follows (Follows.refl 65 s) rfl).frame .dram rfl
@[simp] theorem logE_upd (a b c : Nat) (r : Bool) (p : List Nat) (s : State) : (logE a b c r p s).upd = s.upd := (logE_follows (Follows.refl 65 s) rfl).frame .upd rfl
@[simp] theorem logE_fe (a b c : Nat) (r : Bool) (p : List Nat) (s : State) : (logE a b c r p s).fe = s.fe := (logE_follows (Follows.refl 65 s) rfl).frame .fe rfl
@[simp] theorem logE_nv (a b c : Nat) (r : Bool) (p : List Nat) (s : State) : (logE a b c r p s).nv = s.nv := (logE_follows (Follows.refl 65 s) rfl).frame .nv rfl
@[simp] theorem logE_ing (a b c : Nat) (r : Bool) (p : List Nat) (s : State) : (logE a b c r p s).ing = s.ing := (logE_follows (Follows.refl 65 s) rfl).frame .ing rfl
@[simp] theorem logE_map (a b c : Nat) (r : Bool) (p : List Nat) (s : State) : (logE a b c r p s).map = s.map := (logE_follows (Follows.refl 65 s) rfl).frame .map rfl
@[simp] theorem logE_rds (a b c : Nat) (r : Bool) (p : List Nat) (s : State) : (logE a b c r p s).rds = s.rds := (logE_follows (Follows.refl 65 s) rfl).frame .rds rfl
@[simp] theorem logE_par (a b c : Nat) (r : Bool) (p : List Nat) (s : State) : (logE a b c r p s).par = s.par := (logE_follows (Follows.refl 65 s) rfl).frame .par rfl
@[simp] theorem logE_bld (a b c : Nat) (r : Bool) (p : List Nat) (s : State) : (logE a b c r p s).bld = s.bld := (logE_follows (Follows.refl 65 s) rfl).frame .bld rfl
@[simp] theorem logE_pair (a b c : Nat) (r : Bool) (p : List Nat) (s : State) : (logE a b c r p s).pair = s.pair := (logE_follows (Follows.refl 65 s) rfl).frame .pair rfl
@[simp] theorem logE_rate (a b c : Nat) (r : Bool) (p : List Nat) (s : State) : (logE a b c r p s).rate = s.rate := (logE_follows (Follows.refl 65 s) rfl).frame .rate rfl
@[simp] theorem logE_snp (a b c : Nat) (r : Bool) (p : List Nat) (s : State) : (logE a b c r p s).snp = s.snp := (logE_follows (Follows.refl 65 s) rfl).frame .snp rfl
@[simp] theorem logE_keys (a b c : Nat) (r : Bool) (p : List Nat) (s : State) : (logE a b c r p s).keys = s.keys := (logE_follows (Follows.refl 65 s) rfl).frame .keys rfl
@[simp] theorem logE_out (a b c : Nat) (r : Bool) (p : List Nat) (s : State) : (logE a b c r p s).out = s.out := (logE_follows (Follows.refl 65 s) rfl).frame .out rfl
@[simp] theorem logE_freeCount (a b c : Nat) (r : Bool) (p : List Nat) (s : State) : (logE a b c r p s).freeCount = s.freeCount := (logE_follows (Follows.refl 65 s) rfl).frame .freeCount rfl
@[simp] theorem logE_pending (a b c : Nat) (r : Bool) (p : List Nat) (s : State) : (logE a b c r p s).pending = s.pending := (logE_follows (Follows.refl 65 s) rfl).queue

@[simp] theorem logFw_bus (a b : Nat) (p : List Nat) (s : State) : (logFw a b p s).bus = s.bus := (logFw_follows (Follows.refl 65 s) rfl).frame .bus rfl
@[simp] theorem logFw_hw (a b : Nat) (p : List Nat) (s : State) : (logFw a b p s).hw = s.hw := (logFw_follows (Follows.refl 65 s) rfl).frame .hw rfl
@[simp] theorem logFw_stk (a b : Nat) (p : List Nat) (s : State) : (logFw a b p s).stk = s.stk := (logFw_follows (Follows.refl 65 s) rfl).frame .stk rfl
@[simp] theorem logFw_keel (a b : Nat) (p : List Nat) (s : State) : (logFw a b p s).keel = s.keel := (logFw_follows (Follows.refl 65 s) rfl).frame .keel rfl
@[simp] theorem logFw_cox (a b : Nat) (p : List Nat) (s : State) : (logFw a b p s).cox = s.cox := (logFw_follows (Follows.refl 65 s) rfl).frame .cox rfl
@[simp] theorem logFw_mbx (a b : Nat) (p : List Nat) (s : State) : (logFw a b p s).mbx = s.mbx := (logFw_follows (Follows.refl 65 s) rfl).frame .mbx rfl
@[simp] theorem logFw_pci (a b : Nat) (p : List Nat) (s : State) : (logFw a b p s).pci = s.pci := (logFw_follows (Follows.refl 65 s) rfl).frame .pci rfl
@[simp] theorem logFw_boot (a b : Nat) (p : List Nat) (s : State) : (logFw a b p s).boot = s.boot := (logFw_follows (Follows.refl 65 s) rfl).frame .boot rfl
@[simp] theorem logFw_pwr (a b : Nat) (p : List Nat) (s : State) : (logFw a b p s).pwr = s.pwr := (logFw_follows (Follows.refl 65 s) rfl).frame .pwr rfl
@[simp] theorem logFw_dram (a b : Nat) (p : List Nat) (s : State) : (logFw a b p s).dram = s.dram := (logFw_follows (Follows.refl 65 s) rfl).frame .dram rfl
@[simp] theorem logFw_upd (a b : Nat) (p : List Nat) (s : State) : (logFw a b p s).upd = s.upd := (logFw_follows (Follows.refl 65 s) rfl).frame .upd rfl
@[simp] theorem logFw_fe (a b : Nat) (p : List Nat) (s : State) : (logFw a b p s).fe = s.fe := (logFw_follows (Follows.refl 65 s) rfl).frame .fe rfl
@[simp] theorem logFw_nv (a b : Nat) (p : List Nat) (s : State) : (logFw a b p s).nv = s.nv := (logFw_follows (Follows.refl 65 s) rfl).frame .nv rfl
@[simp] theorem logFw_ing (a b : Nat) (p : List Nat) (s : State) : (logFw a b p s).ing = s.ing := (logFw_follows (Follows.refl 65 s) rfl).frame .ing rfl
@[simp] theorem logFw_map (a b : Nat) (p : List Nat) (s : State) : (logFw a b p s).map = s.map := (logFw_follows (Follows.refl 65 s) rfl).frame .map rfl
@[simp] theorem logFw_rds (a b : Nat) (p : List Nat) (s : State) : (logFw a b p s).rds = s.rds := (logFw_follows (Follows.refl 65 s) rfl).frame .rds rfl
@[simp] theorem logFw_par (a b : Nat) (p : List Nat) (s : State) : (logFw a b p s).par = s.par := (logFw_follows (Follows.refl 65 s) rfl).frame .par rfl
@[simp] theorem logFw_bld (a b : Nat) (p : List Nat) (s : State) : (logFw a b p s).bld = s.bld := (logFw_follows (Follows.refl 65 s) rfl).frame .bld rfl
@[simp] theorem logFw_pair (a b : Nat) (p : List Nat) (s : State) : (logFw a b p s).pair = s.pair := (logFw_follows (Follows.refl 65 s) rfl).frame .pair rfl
@[simp] theorem logFw_rate (a b : Nat) (p : List Nat) (s : State) : (logFw a b p s).rate = s.rate := (logFw_follows (Follows.refl 65 s) rfl).frame .rate rfl
@[simp] theorem logFw_snp (a b : Nat) (p : List Nat) (s : State) : (logFw a b p s).snp = s.snp := (logFw_follows (Follows.refl 65 s) rfl).frame .snp rfl
@[simp] theorem logFw_keys (a b : Nat) (p : List Nat) (s : State) : (logFw a b p s).keys = s.keys := (logFw_follows (Follows.refl 65 s) rfl).frame .keys rfl
@[simp] theorem logFw_out (a b : Nat) (p : List Nat) (s : State) : (logFw a b p s).out = s.out := (logFw_follows (Follows.refl 65 s) rfl).frame .out rfl
@[simp] theorem logFw_freeCount (a b : Nat) (p : List Nat) (s : State) : (logFw a b p s).freeCount = s.freeCount := (logFw_follows (Follows.refl 65 s) rfl).frame .freeCount rfl
@[simp] theorem logFw_pending (a b : Nat) (p : List Nat) (s : State) : (logFw a b p s).pending = s.pending := (logFw_follows (Follows.refl 65 s) rfl).queue

@[simp] theorem logAccess_bus (a : Nat) (w : Bool) (b c : Nat) (s : State) : (logAccess a w b c s).bus = s.bus := (logAccess_follows (Follows.refl 65 s) rfl).frame .bus rfl
@[simp] theorem logAccess_hw (a : Nat) (w : Bool) (b c : Nat) (s : State) : (logAccess a w b c s).hw = s.hw := (logAccess_follows (Follows.refl 65 s) rfl).frame .hw rfl
@[simp] theorem logAccess_stk (a : Nat) (w : Bool) (b c : Nat) (s : State) : (logAccess a w b c s).stk = s.stk := (logAccess_follows (Follows.refl 65 s) rfl).frame .stk rfl
@[simp] theorem logAccess_keel (a : Nat) (w : Bool) (b c : Nat) (s : State) : (logAccess a w b c s).keel = s.keel := (logAccess_follows (Follows.refl 65 s) rfl).frame .keel rfl
@[simp] theorem logAccess_cox (a : Nat) (w : Bool) (b c : Nat) (s : State) : (logAccess a w b c s).cox = s.cox := (logAccess_follows (Follows.refl 65 s) rfl).frame .cox rfl
@[simp] theorem logAccess_mbx (a : Nat) (w : Bool) (b c : Nat) (s : State) : (logAccess a w b c s).mbx = s.mbx := (logAccess_follows (Follows.refl 65 s) rfl).frame .mbx rfl
@[simp] theorem logAccess_pci (a : Nat) (w : Bool) (b c : Nat) (s : State) : (logAccess a w b c s).pci = s.pci := (logAccess_follows (Follows.refl 65 s) rfl).frame .pci rfl
@[simp] theorem logAccess_boot (a : Nat) (w : Bool) (b c : Nat) (s : State) : (logAccess a w b c s).boot = s.boot := (logAccess_follows (Follows.refl 65 s) rfl).frame .boot rfl
@[simp] theorem logAccess_pwr (a : Nat) (w : Bool) (b c : Nat) (s : State) : (logAccess a w b c s).pwr = s.pwr := (logAccess_follows (Follows.refl 65 s) rfl).frame .pwr rfl
@[simp] theorem logAccess_dram (a : Nat) (w : Bool) (b c : Nat) (s : State) : (logAccess a w b c s).dram = s.dram := (logAccess_follows (Follows.refl 65 s) rfl).frame .dram rfl
@[simp] theorem logAccess_upd (a : Nat) (w : Bool) (b c : Nat) (s : State) : (logAccess a w b c s).upd = s.upd := (logAccess_follows (Follows.refl 65 s) rfl).frame .upd rfl
@[simp] theorem logAccess_fe (a : Nat) (w : Bool) (b c : Nat) (s : State) : (logAccess a w b c s).fe = s.fe := (logAccess_follows (Follows.refl 65 s) rfl).frame .fe rfl
@[simp] theorem logAccess_nv (a : Nat) (w : Bool) (b c : Nat) (s : State) : (logAccess a w b c s).nv = s.nv := (logAccess_follows (Follows.refl 65 s) rfl).frame .nv rfl
@[simp] theorem logAccess_ing (a : Nat) (w : Bool) (b c : Nat) (s : State) : (logAccess a w b c s).ing = s.ing := (logAccess_follows (Follows.refl 65 s) rfl).frame .ing rfl
@[simp] theorem logAccess_map (a : Nat) (w : Bool) (b c : Nat) (s : State) : (logAccess a w b c s).map = s.map := (logAccess_follows (Follows.refl 65 s) rfl).frame .map rfl
@[simp] theorem logAccess_rds (a : Nat) (w : Bool) (b c : Nat) (s : State) : (logAccess a w b c s).rds = s.rds := (logAccess_follows (Follows.refl 65 s) rfl).frame .rds rfl
@[simp] theorem logAccess_par (a : Nat) (w : Bool) (b c : Nat) (s : State) : (logAccess a w b c s).par = s.par := (logAccess_follows (Follows.refl 65 s) rfl).frame .par rfl
@[simp] theorem logAccess_bld (a : Nat) (w : Bool) (b c : Nat) (s : State) : (logAccess a w b c s).bld = s.bld := (logAccess_follows (Follows.refl 65 s) rfl).frame .bld rfl
@[simp] theorem logAccess_pair (a : Nat) (w : Bool) (b c : Nat) (s : State) : (logAccess a w b c s).pair = s.pair := (logAccess_follows (Follows.refl 65 s) rfl).frame .pair rfl
@[simp] theorem logAccess_rate (a : Nat) (w : Bool) (b c : Nat) (s : State) : (logAccess a w b c s).rate = s.rate := (logAccess_follows (Follows.refl 65 s) rfl).frame .rate rfl
@[simp] theorem logAccess_snp (a : Nat) (w : Bool) (b c : Nat) (s : State) : (logAccess a w b c s).snp = s.snp := (logAccess_follows (Follows.refl 65 s) rfl).frame .snp rfl
@[simp] theorem logAccess_keys (a : Nat) (w : Bool) (b c : Nat) (s : State) : (logAccess a w b c s).keys = s.keys := (logAccess_follows (Follows.refl 65 s) rfl).frame .keys rfl
@[simp] theorem logAccess_out (a : Nat) (w : Bool) (b c : Nat) (s : State) : (logAccess a w b c s).out = s.out := (logAccess_follows (Follows.refl 65 s) rfl).frame .out rfl
@[simp] theorem logAccess_freeCount (a : Nat) (w : Bool) (b c : Nat) (s : State) : (logAccess a w b c s).freeCount = s.freeCount := (logAccess_follows (Follows.refl 65 s) rfl).frame .freeCount rfl
@[simp] theorem logAccess_pending (a : Nat) (w : Bool) (b c : Nat) (s : State) : (logAccess a w b c s).pending = s.pending := (logAccess_follows (Follows.refl 65 s) rfl).queue

@[simp] theorem pfrFireWhere_bus (a b : Nat) (p : TrigCond → Bool) (s : State) : (pfrFireWhere a b p s).bus = s.bus := (pfrFireWhere_follows (Follows.refl 16777281 s) rfl).frame .bus rfl
@[simp] theorem pfrFireWhere_hw (a b : Nat) (p : TrigCond → Bool) (s : State) : (pfrFireWhere a b p s).hw = s.hw := (pfrFireWhere_follows (Follows.refl 16777281 s) rfl).frame .hw rfl
@[simp] theorem pfrFireWhere_stk (a b : Nat) (p : TrigCond → Bool) (s : State) : (pfrFireWhere a b p s).stk = s.stk := (pfrFireWhere_follows (Follows.refl 16777281 s) rfl).frame .stk rfl
@[simp] theorem pfrFireWhere_keel (a b : Nat) (p : TrigCond → Bool) (s : State) : (pfrFireWhere a b p s).keel = s.keel := (pfrFireWhere_follows (Follows.refl 16777281 s) rfl).frame .keel rfl
@[simp] theorem pfrFireWhere_cox (a b : Nat) (p : TrigCond → Bool) (s : State) : (pfrFireWhere a b p s).cox = s.cox := (pfrFireWhere_follows (Follows.refl 16777281 s) rfl).frame .cox rfl
@[simp] theorem pfrFireWhere_mbx (a b : Nat) (p : TrigCond → Bool) (s : State) : (pfrFireWhere a b p s).mbx = s.mbx := (pfrFireWhere_follows (Follows.refl 16777281 s) rfl).frame .mbx rfl
@[simp] theorem pfrFireWhere_pci (a b : Nat) (p : TrigCond → Bool) (s : State) : (pfrFireWhere a b p s).pci = s.pci := (pfrFireWhere_follows (Follows.refl 16777281 s) rfl).frame .pci rfl
@[simp] theorem pfrFireWhere_boot (a b : Nat) (p : TrigCond → Bool) (s : State) : (pfrFireWhere a b p s).boot = s.boot := (pfrFireWhere_follows (Follows.refl 16777281 s) rfl).frame .boot rfl
@[simp] theorem pfrFireWhere_pwr (a b : Nat) (p : TrigCond → Bool) (s : State) : (pfrFireWhere a b p s).pwr = s.pwr := (pfrFireWhere_follows (Follows.refl 16777281 s) rfl).frame .pwr rfl
@[simp] theorem pfrFireWhere_dram (a b : Nat) (p : TrigCond → Bool) (s : State) : (pfrFireWhere a b p s).dram = s.dram := (pfrFireWhere_follows (Follows.refl 16777281 s) rfl).frame .dram rfl
@[simp] theorem pfrFireWhere_upd (a b : Nat) (p : TrigCond → Bool) (s : State) : (pfrFireWhere a b p s).upd = s.upd := (pfrFireWhere_follows (Follows.refl 16777281 s) rfl).frame .upd rfl
@[simp] theorem pfrFireWhere_fe (a b : Nat) (p : TrigCond → Bool) (s : State) : (pfrFireWhere a b p s).fe = s.fe := (pfrFireWhere_follows (Follows.refl 16777281 s) rfl).frame .fe rfl
@[simp] theorem pfrFireWhere_nv (a b : Nat) (p : TrigCond → Bool) (s : State) : (pfrFireWhere a b p s).nv = s.nv := (pfrFireWhere_follows (Follows.refl 16777281 s) rfl).frame .nv rfl
@[simp] theorem pfrFireWhere_ing (a b : Nat) (p : TrigCond → Bool) (s : State) : (pfrFireWhere a b p s).ing = s.ing := (pfrFireWhere_follows (Follows.refl 16777281 s) rfl).frame .ing rfl
@[simp] theorem pfrFireWhere_map (a b : Nat) (p : TrigCond → Bool) (s : State) : (pfrFireWhere a b p s).map = s.map := (pfrFireWhere_follows (Follows.refl 16777281 s) rfl).frame .map rfl
@[simp] theorem pfrFireWhere_rds (a b : Nat) (p : TrigCond → Bool) (s : State) : (pfrFireWhere a b p s).rds = s.rds := (pfrFireWhere_follows (Follows.refl 16777281 s) rfl).frame .rds rfl
@[simp] theorem pfrFireWhere_par (a b : Nat) (p : TrigCond → Bool) (s : State) : (pfrFireWhere a b p s).par = s.par := (pfrFireWhere_follows (Follows.refl 16777281 s) rfl).frame .par rfl
@[simp] theorem pfrFireWhere_bld (a b : Nat) (p : TrigCond → Bool) (s : State) : (pfrFireWhere a b p s).bld = s.bld := (pfrFireWhere_follows (Follows.refl 16777281 s) rfl).frame .bld rfl
@[simp] theorem pfrFireWhere_pair (a b : Nat) (p : TrigCond → Bool) (s : State) : (pfrFireWhere a b p s).pair = s.pair := (pfrFireWhere_follows (Follows.refl 16777281 s) rfl).frame .pair rfl
@[simp] theorem pfrFireWhere_rate (a b : Nat) (p : TrigCond → Bool) (s : State) : (pfrFireWhere a b p s).rate = s.rate := (pfrFireWhere_follows (Follows.refl 16777281 s) rfl).frame .rate rfl
@[simp] theorem pfrFireWhere_snp (a b : Nat) (p : TrigCond → Bool) (s : State) : (pfrFireWhere a b p s).snp = s.snp := (pfrFireWhere_follows (Follows.refl 16777281 s) rfl).frame .snp rfl
@[simp] theorem pfrFireWhere_keys (a b : Nat) (p : TrigCond → Bool) (s : State) : (pfrFireWhere a b p s).keys = s.keys := (pfrFireWhere_follows (Follows.refl 16777281 s) rfl).frame .keys rfl
@[simp] theorem pfrFireWhere_freeCount (a b : Nat) (p : TrigCond → Bool) (s : State) : (pfrFireWhere a b p s).freeCount = s.freeCount := (pfrFireWhere_follows (Follows.refl 16777281 s) rfl).frame .freeCount rfl
@[simp] theorem pfrFireWhere_pending (a b : Nat) (p : TrigCond → Bool) (s : State) : (pfrFireWhere a b p s).pending = s.pending := (pfrFireWhere_follows (Follows.refl 16777281 s) rfl).queue

@[simp] theorem setEvent_bus (e : Fld) (r : Bool) (s : State) : (setEvent e r s).bus = s.bus := (setEvent_follows (Follows.refl 16777537 s) rfl).frame .bus rfl
@[simp] theorem setEvent_hw (e : Fld) (r : Bool) (s : State) : (setEvent e r s).hw = s.hw := (setEvent_follows (Follows.refl 16777537 s) rfl).frame .hw rfl
@[simp] theorem setEvent_stk (e : Fld) (r : Bool) (s : State) : (setEvent e r s).stk = s.stk := (setEvent_follows (Follows.refl 16777537 s) rfl).frame .stk rfl
@[simp] theorem setEvent_keel (e : Fld) (r : Bool) (s : State) : (setEvent e r s).keel = s.keel := (setEvent_follows (Follows.refl 16777537 s) rfl).frame .keel rfl
@[simp] theorem setEvent_cox (e : Fld) (r : Bool) (s : State) : (setEvent e r s).cox = s.cox := (setEvent_follows (Follows.refl 16777537 s) rfl).frame .cox rfl
@[simp] theorem setEvent_mbx (e : Fld) (r : Bool) (s : State) : (setEvent e r s).mbx = s.mbx := (setEvent_follows (Follows.refl 16777537 s) rfl).frame .mbx rfl
@[simp] theorem setEvent_boot (e : Fld) (r : Bool) (s : State) : (setEvent e r s).boot = s.boot := (setEvent_follows (Follows.refl 16777537 s) rfl).frame .boot rfl
@[simp] theorem setEvent_pwr (e : Fld) (r : Bool) (s : State) : (setEvent e r s).pwr = s.pwr := (setEvent_follows (Follows.refl 16777537 s) rfl).frame .pwr rfl
@[simp] theorem setEvent_dram (e : Fld) (r : Bool) (s : State) : (setEvent e r s).dram = s.dram := (setEvent_follows (Follows.refl 16777537 s) rfl).frame .dram rfl
@[simp] theorem setEvent_upd (e : Fld) (r : Bool) (s : State) : (setEvent e r s).upd = s.upd := (setEvent_follows (Follows.refl 16777537 s) rfl).frame .upd rfl
@[simp] theorem setEvent_fe (e : Fld) (r : Bool) (s : State) : (setEvent e r s).fe = s.fe := (setEvent_follows (Follows.refl 16777537 s) rfl).frame .fe rfl
@[simp] theorem setEvent_nv (e : Fld) (r : Bool) (s : State) : (setEvent e r s).nv = s.nv := (setEvent_follows (Follows.refl 16777537 s) rfl).frame .nv rfl
@[simp] theorem setEvent_ing (e : Fld) (r : Bool) (s : State) : (setEvent e r s).ing = s.ing := (setEvent_follows (Follows.refl 16777537 s) rfl).frame .ing rfl
@[simp] theorem setEvent_map (e : Fld) (r : Bool) (s : State) : (setEvent e r s).map = s.map := (setEvent_follows (Follows.refl 16777537 s) rfl).frame .map rfl
@[simp] theorem setEvent_rds (e : Fld) (r : Bool) (s : State) : (setEvent e r s).rds = s.rds := (setEvent_follows (Follows.refl 16777537 s) rfl).frame .rds rfl
@[simp] theorem setEvent_par (e : Fld) (r : Bool) (s : State) : (setEvent e r s).par = s.par := (setEvent_follows (Follows.refl 16777537 s) rfl).frame .par rfl
@[simp] theorem setEvent_bld (e : Fld) (r : Bool) (s : State) : (setEvent e r s).bld = s.bld := (setEvent_follows (Follows.refl 16777537 s) rfl).frame .bld rfl
@[simp] theorem setEvent_pair (e : Fld) (r : Bool) (s : State) : (setEvent e r s).pair = s.pair := (setEvent_follows (Follows.refl 16777537 s) rfl).frame .pair rfl
@[simp] theorem setEvent_rate (e : Fld) (r : Bool) (s : State) : (setEvent e r s).rate = s.rate := (setEvent_follows (Follows.refl 16777537 s) rfl).frame .rate rfl
@[simp] theorem setEvent_snp (e : Fld) (r : Bool) (s : State) : (setEvent e r s).snp = s.snp := (setEvent_follows (Follows.refl 16777537 s) rfl).frame .snp rfl
@[simp] theorem setEvent_keys (e : Fld) (r : Bool) (s : State) : (setEvent e r s).keys = s.keys := (setEvent_follows (Follows.refl 16777537 s) rfl).frame .keys rfl
@[simp] theorem setEvent_freeCount (e : Fld) (r : Bool) (s : State) : (setEvent e r s).freeCount = s.freeCount := (setEvent_follows (Follows.refl 16777537 s) rfl).frame .freeCount rfl
@[simp] theorem setEvent_pending (e : Fld) (r : Bool) (s : State) : (setEvent e r s).pending = s.pending := (setEvent_follows (Follows.refl 16777537 s) rfl).queue

@[simp] theorem event_bus (e n : Fld) (b : Nat) (s : State) : (event e n b s).bus = s.bus := (event_follows (Follows.refl 16777537 s) rfl).frame .bus rfl
@[simp] theorem event_hw (e n : Fld) (b : Nat) (s : State) : (event e n b s).hw = s.hw := (event_follows (Follows.refl 16777537 s) rfl).frame .hw rfl
@[simp] theorem event_stk (e n : Fld) (b : Nat) (s : State) : (event e n b s).stk = s.stk := (event_follows (Follows.refl 16777537 s) rfl).frame .stk rfl
@[simp] theorem event_keel (e n : Fld) (b : Nat) (s : State) : (event e n b s).keel = s.keel := (event_follows (Follows.refl 16777537 s) rfl).frame .keel rfl
@[simp] theorem event_cox (e n : Fld) (b : Nat) (s : State) : (event e n b s).cox = s.cox := (event_follows (Follows.refl 16777537 s) rfl).frame .cox rfl
@[simp] theorem event_mbx (e n : Fld) (b : Nat) (s : State) : (event e n b s).mbx = s.mbx := (event_follows (Follows.refl 16777537 s) rfl).frame .mbx rfl
@[simp] theorem event_boot (e n : Fld) (b : Nat) (s : State) : (event e n b s).boot = s.boot := (event_follows (Follows.refl 16777537 s) rfl).frame .boot rfl
@[simp] theorem event_pwr (e n : Fld) (b : Nat) (s : State) : (event e n b s).pwr = s.pwr := (event_follows (Follows.refl 16777537 s) rfl).frame .pwr rfl
@[simp] theorem event_dram (e n : Fld) (b : Nat) (s : State) : (event e n b s).dram = s.dram := (event_follows (Follows.refl 16777537 s) rfl).frame .dram rfl
@[simp] theorem event_upd (e n : Fld) (b : Nat) (s : State) : (event e n b s).upd = s.upd := (event_follows (Follows.refl 16777537 s) rfl).frame .upd rfl
@[simp] theorem event_fe (e n : Fld) (b : Nat) (s : State) : (event e n b s).fe = s.fe := (event_follows (Follows.refl 16777537 s) rfl).frame .fe rfl
@[simp] theorem event_nv (e n : Fld) (b : Nat) (s : State) : (event e n b s).nv = s.nv := (event_follows (Follows.refl 16777537 s) rfl).frame .nv rfl
@[simp] theorem event_ing (e n : Fld) (b : Nat) (s : State) : (event e n b s).ing = s.ing := (event_follows (Follows.refl 16777537 s) rfl).frame .ing rfl
@[simp] theorem event_map (e n : Fld) (b : Nat) (s : State) : (event e n b s).map = s.map := (event_follows (Follows.refl 16777537 s) rfl).frame .map rfl
@[simp] theorem event_rds (e n : Fld) (b : Nat) (s : State) : (event e n b s).rds = s.rds := (event_follows (Follows.refl 16777537 s) rfl).frame .rds rfl
@[simp] theorem event_par (e n : Fld) (b : Nat) (s : State) : (event e n b s).par = s.par := (event_follows (Follows.refl 16777537 s) rfl).frame .par rfl
@[simp] theorem event_bld (e n : Fld) (b : Nat) (s : State) : (event e n b s).bld = s.bld := (event_follows (Follows.refl 16777537 s) rfl).frame .bld rfl
@[simp] theorem event_pair (e n : Fld) (b : Nat) (s : State) : (event e n b s).pair = s.pair := (event_follows (Follows.refl 16777537 s) rfl).frame .pair rfl
@[simp] theorem event_rate (e n : Fld) (b : Nat) (s : State) : (event e n b s).rate = s.rate := (event_follows (Follows.refl 16777537 s) rfl).frame .rate rfl
@[simp] theorem event_snp (e n : Fld) (b : Nat) (s : State) : (event e n b s).snp = s.snp := (event_follows (Follows.refl 16777537 s) rfl).frame .snp rfl
@[simp] theorem event_keys (e n : Fld) (b : Nat) (s : State) : (event e n b s).keys = s.keys := (event_follows (Follows.refl 16777537 s) rfl).frame .keys rfl
@[simp] theorem event_freeCount (e n : Fld) (b : Nat) (s : State) : (event e n b s).freeCount = s.freeCount := (event_follows (Follows.refl 16777537 s) rfl).frame .freeCount rfl
@[simp] theorem event_pending (e n : Fld) (b : Nat) (s : State) : (event e n b s).pending = s.pending := (event_follows (Follows.refl 16777537 s) rfl).queue

@[simp] theorem durability_bus (f : Fld) (v : Bool) (s : State) : (durability f v s).bus = s.bus := (durability_follows (Follows.refl 16777537 s) rfl).frame .bus rfl
@[simp] theorem durability_hw (f : Fld) (v : Bool) (s : State) : (durability f v s).hw = s.hw := (durability_follows (Follows.refl 16777537 s) rfl).frame .hw rfl
@[simp] theorem durability_stk (f : Fld) (v : Bool) (s : State) : (durability f v s).stk = s.stk := (durability_follows (Follows.refl 16777537 s) rfl).frame .stk rfl
@[simp] theorem durability_keel (f : Fld) (v : Bool) (s : State) : (durability f v s).keel = s.keel := (durability_follows (Follows.refl 16777537 s) rfl).frame .keel rfl
@[simp] theorem durability_cox (f : Fld) (v : Bool) (s : State) : (durability f v s).cox = s.cox := (durability_follows (Follows.refl 16777537 s) rfl).frame .cox rfl
@[simp] theorem durability_mbx (f : Fld) (v : Bool) (s : State) : (durability f v s).mbx = s.mbx := (durability_follows (Follows.refl 16777537 s) rfl).frame .mbx rfl
@[simp] theorem durability_boot (f : Fld) (v : Bool) (s : State) : (durability f v s).boot = s.boot := (durability_follows (Follows.refl 16777537 s) rfl).frame .boot rfl
@[simp] theorem durability_pwr (f : Fld) (v : Bool) (s : State) : (durability f v s).pwr = s.pwr := (durability_follows (Follows.refl 16777537 s) rfl).frame .pwr rfl
@[simp] theorem durability_dram (f : Fld) (v : Bool) (s : State) : (durability f v s).dram = s.dram := (durability_follows (Follows.refl 16777537 s) rfl).frame .dram rfl
@[simp] theorem durability_upd (f : Fld) (v : Bool) (s : State) : (durability f v s).upd = s.upd := (durability_follows (Follows.refl 16777537 s) rfl).frame .upd rfl
@[simp] theorem durability_fe (f : Fld) (v : Bool) (s : State) : (durability f v s).fe = s.fe := (durability_follows (Follows.refl 16777537 s) rfl).frame .fe rfl
@[simp] theorem durability_nv (f : Fld) (v : Bool) (s : State) : (durability f v s).nv = s.nv := (durability_follows (Follows.refl 16777537 s) rfl).frame .nv rfl
@[simp] theorem durability_ing (f : Fld) (v : Bool) (s : State) : (durability f v s).ing = s.ing := (durability_follows (Follows.refl 16777537 s) rfl).frame .ing rfl
@[simp] theorem durability_map (f : Fld) (v : Bool) (s : State) : (durability f v s).map = s.map := (durability_follows (Follows.refl 16777537 s) rfl).frame .map rfl
@[simp] theorem durability_rds (f : Fld) (v : Bool) (s : State) : (durability f v s).rds = s.rds := (durability_follows (Follows.refl 16777537 s) rfl).frame .rds rfl
@[simp] theorem durability_par (f : Fld) (v : Bool) (s : State) : (durability f v s).par = s.par := (durability_follows (Follows.refl 16777537 s) rfl).frame .par rfl
@[simp] theorem durability_bld (f : Fld) (v : Bool) (s : State) : (durability f v s).bld = s.bld := (durability_follows (Follows.refl 16777537 s) rfl).frame .bld rfl
@[simp] theorem durability_pair (f : Fld) (v : Bool) (s : State) : (durability f v s).pair = s.pair := (durability_follows (Follows.refl 16777537 s) rfl).frame .pair rfl
@[simp] theorem durability_rate (f : Fld) (v : Bool) (s : State) : (durability f v s).rate = s.rate := (durability_follows (Follows.refl 16777537 s) rfl).frame .rate rfl
@[simp] theorem durability_snp (f : Fld) (v : Bool) (s : State) : (durability f v s).snp = s.snp := (durability_follows (Follows.refl 16777537 s) rfl).frame .snp rfl
@[simp] theorem durability_keys (f : Fld) (v : Bool) (s : State) : (durability f v s).keys = s.keys := (durability_follows (Follows.refl 16777537 s) rfl).frame .keys rfl
@[simp] theorem durability_freeCount (f : Fld) (v : Bool) (s : State) : (durability f v s).freeCount = s.freeCount := (durability_follows (Follows.refl 16777537 s) rfl).frame .freeCount rfl
@[simp] theorem durability_pending (f : Fld) (v : Bool) (s : State) : (durability f v s).pending = s.pending := (durability_follows (Follows.refl 16777537 s) rfl).queue

@[simp] theorem faultNote_bus (a b c : Nat) (p : List Nat) (s : State) : (faultNote a b c p s).bus = s.bus := (faultNote_follows (Follows.refl 16777537 s) rfl).frame .bus rfl
@[simp] theorem faultNote_hw (a b c : Nat) (p : List Nat) (s : State) : (faultNote a b c p s).hw = s.hw := (faultNote_follows (Follows.refl 16777537 s) rfl).frame .hw rfl
@[simp] theorem faultNote_stk (a b c : Nat) (p : List Nat) (s : State) : (faultNote a b c p s).stk = s.stk := (faultNote_follows (Follows.refl 16777537 s) rfl).frame .stk rfl
@[simp] theorem faultNote_keel (a b c : Nat) (p : List Nat) (s : State) : (faultNote a b c p s).keel = s.keel := (faultNote_follows (Follows.refl 16777537 s) rfl).frame .keel rfl
@[simp] theorem faultNote_cox (a b c : Nat) (p : List Nat) (s : State) : (faultNote a b c p s).cox = s.cox := (faultNote_follows (Follows.refl 16777537 s) rfl).frame .cox rfl
@[simp] theorem faultNote_mbx (a b c : Nat) (p : List Nat) (s : State) : (faultNote a b c p s).mbx = s.mbx := (faultNote_follows (Follows.refl 16777537 s) rfl).frame .mbx rfl
@[simp] theorem faultNote_boot (a b c : Nat) (p : List Nat) (s : State) : (faultNote a b c p s).boot = s.boot := (faultNote_follows (Follows.refl 16777537 s) rfl).frame .boot rfl
@[simp] theorem faultNote_pwr (a b c : Nat) (p : List Nat) (s : State) : (faultNote a b c p s).pwr = s.pwr := (faultNote_follows (Follows.refl 16777537 s) rfl).frame .pwr rfl
@[simp] theorem faultNote_dram (a b c : Nat) (p : List Nat) (s : State) : (faultNote a b c p s).dram = s.dram := (faultNote_follows (Follows.refl 16777537 s) rfl).frame .dram rfl
@[simp] theorem faultNote_upd (a b c : Nat) (p : List Nat) (s : State) : (faultNote a b c p s).upd = s.upd := (faultNote_follows (Follows.refl 16777537 s) rfl).frame .upd rfl
@[simp] theorem faultNote_fe (a b c : Nat) (p : List Nat) (s : State) : (faultNote a b c p s).fe = s.fe := (faultNote_follows (Follows.refl 16777537 s) rfl).frame .fe rfl
@[simp] theorem faultNote_nv (a b c : Nat) (p : List Nat) (s : State) : (faultNote a b c p s).nv = s.nv := (faultNote_follows (Follows.refl 16777537 s) rfl).frame .nv rfl
@[simp] theorem faultNote_ing (a b c : Nat) (p : List Nat) (s : State) : (faultNote a b c p s).ing = s.ing := (faultNote_follows (Follows.refl 16777537 s) rfl).frame .ing rfl
@[simp] theorem faultNote_map (a b c : Nat) (p : List Nat) (s : State) : (faultNote a b c p s).map = s.map := (faultNote_follows (Follows.refl 16777537 s) rfl).frame .map rfl
@[simp] theorem faultNote_rds (a b c : Nat) (p : List Nat) (s : State) : (faultNote a b c p s).rds = s.rds := (faultNote_follows (Follows.refl 16777537 s) rfl).frame .rds rfl
@[simp] theorem faultNote_par (a b c : Nat) (p : List Nat) (s : State) : (faultNote a b c p s).par = s.par := (faultNote_follows (Follows.refl 16777537 s) rfl).frame .par rfl
@[simp] theorem faultNote_bld (a b c : Nat) (p : List Nat) (s : State) : (faultNote a b c p s).bld = s.bld := (faultNote_follows (Follows.refl 16777537 s) rfl).frame .bld rfl
@[simp] theorem faultNote_pair (a b c : Nat) (p : List Nat) (s : State) : (faultNote a b c p s).pair = s.pair := (faultNote_follows (Follows.refl 16777537 s) rfl).frame .pair rfl
@[simp] theorem faultNote_rate (a b c : Nat) (p : List Nat) (s : State) : (faultNote a b c p s).rate = s.rate := (faultNote_follows (Follows.refl 16777537 s) rfl).frame .rate rfl
@[simp] theorem faultNote_snp (a b c : Nat) (p : List Nat) (s : State) : (faultNote a b c p s).snp = s.snp := (faultNote_follows (Follows.refl 16777537 s) rfl).frame .snp rfl
@[simp] theorem faultNote_keys (a b c : Nat) (p : List Nat) (s : State) : (faultNote a b c p s).keys = s.keys := (faultNote_follows (Follows.refl 16777537 s) rfl).frame .keys rfl
@[simp] theorem faultNote_freeCount (a b c : Nat) (p : List Nat) (s : State) : (faultNote a b c p s).freeCount = s.freeCount := (faultNote_follows (Follows.refl 16777537 s) rfl).frame .freeCount rfl
@[simp] theorem faultNote_pending (a b c : Nat) (p : List Nat) (s : State) : (faultNote a b c p s).pending = s.pending := (faultNote_follows (Follows.refl 16777537 s) rfl).queue

end Sys2Proof.Machine
end

