-- ==== Sys2Proof/WellFormed.lean ====
section
/-!
DEFINITION. WellFormed.lean: the operand ranges of a command, from the widths and limits the spec gives each operand.
A command outside them stands for nothing that can reach the block; exec is total on it all the same.
-/

namespace Sys2Proof

/-- Whether a command's operands lie in the ranges the spec gives them. -/
def wellFormed (i : Instr) : Bool :=
  match i with
  | .lowHalfRead addr _ => addr % 4 == 0
  | .lowHalfWrite addr value _ => addr % 4 == 0 && value < 4294967296
  | .highHalfWrite addr value _ => addr % 4 == 0 && value < 4294967296
  | .readClearCounter addr _ _ => addr % 4 == 0
  | .registerWrite addr value _ _ => addr % 4 == 0 && value < 4294967296
  | .bar0BadAccess _ _ _ => true
  | .seatWindowAccess seat off _ _ => 0 < seat && seat < 8 && off < 4194304 && off % 4 == 0
  | .keelLinkFail x y => x < 8 && y < 8 && x != y
  | .coxFault gap => gap <= 2048
  | .coxReturn gap _ => gap <= 2048
  | .strokeInputEdge _ interval _ _ => 0 < interval
  | .strokeInputTimeout _ => true
  | .holdoverEntry _ => true
  | .stkSwitchNow => true
  | .strokeRevert => true
  | .strokeEdge e => e.temps.length <= 8 && e.spoiled.all fun a => decide (a < 4503599627370496)
  | .strokeNoLock => true
  | .stkSchedWrite index _ value => index < 8 && value < 4294967296
  | .feFrameReceive seat sub _ _ _ => seat < 8 && sub < 4
  | .pfcFrame seat sub on off _ => seat < 8 && sub < 4 && on < 256 && off < 256
  | .subportLinkDown seat sub => seat < 8 && sub < 4
  | .rocePacketReceive seat qp _ _ _ _ => seat < 8 && qp < 16384
  | .roceAckReceive seat qp _ => seat < 8 && qp < 16384
  | .qpAckTimeout seat qp => seat < 8 && qp < 16384
  | .cmReq seat _ sub mtu pd => seat < 8 && sub < 4 && mtu < 65536 && pd < 4096
  | .cmRep seat qp => seat < 8 && qp < 16384
  | .cmRtu seat qp => seat < 8 && qp < 16384
  | .cmRej seat qp => seat < 8 && qp < 16384
  | .cmDreq seat qp => seat < 8 && qp < 16384
  | .cmDrep seat qp => seat < 8 && qp < 16384
  | .rdmaWriteFirstPacket seat qp rkey _ _ => seat < 8 && qp < 16384 && rkey < 4294967296
  | .rdmaWriteLastPacket seat qp => seat < 8 && qp < 16384
  | .rdmaReadRequest seat qp rkey _ _ _ => seat < 8 && qp < 16384 && rkey < 4294967296
  | .cnpReceive seat qp => seat < 8 && qp < 16384
  | .nvmeIdentify seat qp sqe _ _ => seat < 8 && qp < 16384 && sqe.cid < 65536
  | .nvmeGetLogPage seat qp sqe page => seat < 8 && qp < 16384 && sqe.cid < 65536 && page < 256
  | .nvmeGetFeatures seat qp sqe fid => seat < 8 && qp < 16384 && sqe.cid < 65536 && fid < 256
  | .nvmeSetFeatures seat qp sqe fid value => seat < 8 && qp < 16384 && sqe.cid < 65536 && fid < 256 && value < 4294967296
  | .nvmeKeepAlive seat qp sqe => seat < 8 && qp < 16384 && sqe.cid < 65536
  | .nvmeAsyncEventRequest seat qp sqe => seat < 8 && qp < 16384 && sqe.cid < 65536
  | .nvmeAbort seat qp sqe _ _ => seat < 8 && qp < 16384 && sqe.cid < 65536
  | .nvmePropertyGet seat qp sqe _ => seat < 8 && qp < 16384 && sqe.cid < 65536
  | .nvmePropertySet seat qp sqe _ _ => seat < 8 && qp < 16384 && sqe.cid < 65536
  | .nvmeConnect seat qp sqe _ _ _ joins => seat < 8 && qp < 16384 && sqe.cid < 65536 && joins.qid < 65536
  | .nvmeDisconnect seat qp sqe => seat < 8 && qp < 16384 && sqe.cid < 65536
  | .nvmeRead seat qp cid _ _ count _ => seat < 8 && qp < 16384 && cid < 65536 && 0 < count && count <= 65536
  | .nvmeWrite seat qp cid _ _ count _ => seat < 8 && qp < 16384 && cid < 65536 && 0 < count && count <= 65536
  | .nvmeWriteZeroes seat qp cid _ _ count _ => seat < 8 && qp < 16384 && cid < 65536 && 0 < count && count <= 65536
  | .nvmeFlush seat qp sqe _ => seat < 8 && qp < 16384 && sqe.cid < 65536
  | .nvmeDatasetManagement seat qp cid _ ranges _ _ => seat < 8 && qp < 16384 && cid < 65536 && ranges.length ≤ 256
  | .nvmeVerify seat qp cid _ _ count _ => seat < 8 && qp < 16384 && cid < 65536 && 0 < count && count <= 65536
  | .nvmeZoneAppend seat qp cid _ _ count _ => seat < 8 && qp < 16384 && cid < 65536 && 0 < count && count <= 65536
  | .nvmeZoneMgmtSend seat qp sqe _ _ _ => seat < 8 && qp < 16384 && sqe.cid < 65536
  | .nvmeZoneMgmtReceive seat qp sqe _ _ => seat < 8 && qp < 16384 && sqe.cid < 65536
  | .nvmeIoMgmtSend seat qp sqe _ _ _ => seat < 8 && qp < 16384 && sqe.cid < 65536
  | .nvmeIoMgmtReceive seat qp sqe _ _ => seat < 8 && qp < 16384 && sqe.cid < 65536
  | .nvmeUnsupportedOpcode seat qp cid opcode => seat < 8 && qp < 16384 && cid < 65536 && opcode < 256
  | .katoExpiry seat ctrl _ => seat < 8 && ctrl < 4096
  | .engineTake seat => seat < 8
  | .sourceBlockExpiry seat _ => seat < 8
  | .nvqQpSelect seat value => seat < 8 && value < 4294967296
  | .rangeLockGrant _ _ => true
  | .rdmaReadResponse _ idx _ _ _ _ => idx < 512
  | .fpLookupDone _ e => e.idx < 512
  | .compressJobEnd _ idx _ _ => idx < 512
  | .zoneRecordsArrive _ idx => idx < 512
  | .groupAccept seat num _ => seat < 8 && num < 4294967296
  | .ftEarlySeal pool row => pool < 32 && row < 4294967296
  | .idleEarlySeal pool row => pool < 32 && row < 4294967296
  | .pageFillDone seat _ => seat < 8
  | .tcLineFill seat lane _ => seat < 8 && lane < 16
  | .ckptImagesProgrammed seat => seat < 8
  | .ckptRootProgrammed seat _ => seat < 8
  | .ckptComplete => true
  | .ckptLate => true
  | .dlogPageProgrammed seat => seat < 8
  | .mapRecovery bad => bad.logs.all fun p => p.1 < 8
  | .gcVictimSelect pool => pool < 32
  | .gcMoveCommit pool addr _ => pool < 32 && addr < 4503599627370496
  | .rowErase pool row => pool < 32 && row < 4294967296
  | .bandErase pool _ => pool < 32
  | .releaseSweep _ _ => true
  | .refRecountSweep tenant handle => tenant < 4096 && handle < 1099511627776
  | .dedupPass _ _ handle => handle < 1099511627776
  | .lostSweep _ _ => true
  | .mapLookupDone _ _ _ => true
  | .parityReconstructDone _ _ _ => true
  | .extentOpened _ _ _ _ _ _ => true
  | .parityVerify pool row _ pages => pool < 32 && row < 4294967296 && pages.length ≤ 48 && pages.all fun p => p.length == 16384 && p.all (· < 256)
  | .rebuildRow pool row _ _ => pool < 32 && row < 4294967296
  | .reshapeRowConvert => true
  | .oarLinkTrained slot _ _ _ => slot < 96
  | .oarTrainRetry slot => slot < 96
  | .oarDataFrame slot seq ack _ _ _ _ _ _ => slot < 96 && seq < 4096 && ack < 4096
  | .oarAck slot a => slot < 96 && a.seq < 4096
  | .oarNak slot a => slot < 96 && a.seq < 4096
  | .oarIdle slot ack _ => slot < 96 && ack < 4096
  | .oarResume slot a => slot < 96 && a.seq < 4096
  | .oarReplayTimeout slot => slot < 96
  | .oarAckTimer slot => slot < 96
  | .oarCreditIdle slot => slot < 96
  | .oarRetrainLimit slot => slot < 96
  | .oarReadRecord slot tag cw _ _ _ _ _ => slot < 96 && tag < 4096 && cw < 8
  | .oarCompletion slot tag status _ => slot < 96 && tag < 4096 && status < 8
  | .oarCmdTimeout slot tag => slot < 96 && tag < 4096
  | .slotPresentStable slot => slot < 96
  | .slotAbsentDetect slot => slot < 96
  | .bldPwrOffWrite slot _ => slot < 96
  | .bldIndicatorWrite slot attn pwr => slot < 96 && attn < 4 && pwr < 4
  | .bladeAttestDone slot _ _ _ _ => slot < 96
  | .bladeHeartbeatTimeout slot => slot < 96
  | .fenceAck slot epoch _ => slot < 96 && epoch < 4294967296
  | .ringFrameReceive _ _ dest f =>
    dest < 256 && f.src < 256 && f.type < 256 && f.seq < 256 && f.hops < 256 && f.stamp < 4294967296 && f.payload.length ≤ 64 && f.payload.all (· < 256)
  | .ringHealthReply slot _ => slot < 96
  | .ringPollTimeout slot => slot < 96
  | .ringIndAck slot => slot < 96
  | .ringButton b => b.slot < 96 && b.seq < 256 && b.stamp < 4294967296
  | .pairLaneFail seat => seat < 8
  | .pairLaneReturn seat => seat < 8
  | .pairFrameSend seat tick => seat < 8 && tick < 1048576
  | .pairHello seat _ => seat < 8
  | .pairExchange seat _ x => seat < 8 && x.stroke < 4294967296
  | .pairHeartbeat seat _ _ => seat < 8
  | .pairControl seat _ _ => seat < 8
  | .pairJournal seat _ _ => seat < 8
  | .pairAck seat _ => seat < 8
  | .pairNak seat _ => seat < 8
  | .pairMapSync seat _ _ _ _ => seat < 8
  | .pairBulk seat _ _ _ => seat < 8
  | .pairAckTimer seat => seat < 8
  | .pairRetxTimeout seat => seat < 8
  | .cWindowClose => true
  | .witnessReply slot term side _ => slot < 96 && term < 4294967296 && side < 2
  | .claimTimeout => true
  | .claimRetry => true
  | .pairFenceTimeout slot _ => slot < 96
  | .pairJoinWaitExpiry => true
  | .pairJoinRetry => true
  | .failbackFence => true
  | .pairStatusGet slot => slot < 64
  | .pairFailbackHold slot _ => slot < 64
  | .pairHandover slot => slot < 64
  | .pairGoSolo slot => slot < 64
  | .pairWindowsSet slot _ _ _ _ => slot < 64
  | .pairLaneSet slot _ _ => slot < 64
  | .rateCompute seat _ _ => seat < 8
  | .rateSetpointSet slot _ _ _ _ => slot < 64
  | .rateOpenSet slot _ _ _ => slot < 64
  | .rateLoopsStage slot seat _ => slot < 64 && seat < 8
  | .rateTableGet slot seat => slot < 64 && seat < 8
  | .rateLoopSelect seat value => seat < 8 && value < 4294967296
  | .snapCreate slot _ _ => slot < 64
  | .snapDelete slot _ => slot < 64
  | .snapList slot _ => slot < 64
  | .snapClone slot _ _ _ => slot < 64
  | .snapInfo slot _ => slot < 64
  | .snapSpace slot _ => slot < 64
  | .cgCreate slot _ _ _ => slot < 64
  | .cgMemberSet slot _ _ _ => slot < 64
  | .cgDelete slot _ => slot < 64
  | .replLinkCreate slot link _ => slot < 64 && link < 256
  | .replEpochNow slot link => slot < 64 && link < 256
  | .replPause slot link _ => slot < 64 && link < 256
  | .replStatusGet slot link => slot < 64 && link < 256
  | .replPromote slot link => slot < 64 && link < 256
  | .replLinkDelete slot link => slot < 64 && link < 256
  | .replIntervalEdge link => link < 256
  | .replDeltaCompute link part => link < 256 && part < 2
  | .replHello link part _ => link < 256 && part < 2
  | .replKex link part _ => link < 256 && part < 2
  | .replOpen link part _ _ _ _ => link < 256 && part < 2
  | .replOffer link part _ _ _ => link < 256 && part < 2
  | .replWant link part _ _ _ => link < 256 && part < 2
  | .replReady link part _ _ _ => link < 256 && part < 2
  | .replBatchEnd link part _ _ _ => link < 256 && part < 2
  | .replBatchAck link part _ _ => link < 256 && part < 2
  | .replBatchNak link part _ _ => link < 256 && part < 2
  | .replDone link part _ => link < 256 && part < 2
  | .replCommit link part _ => link < 256 && part < 2
  | .replAbort link part _ _ => link < 256 && part < 2
  | .replLinkTimeout link part => link < 256 && part < 2
  | .replReconnect link part => link < 256 && part < 2
  | .snpLinkSelect value => value < 4294967296
  | .keySlotFill seat kind domain gen => seat < 8 && kind < 2 && domain < 8192 && gen < 65536
  | .nonceReserveDone seat domain gen => seat < 8 && domain < 8192 && gen < 65536
  | .keyEraseApply domain => domain < 8192
  | .digResultRead seat word => seat < 8 && word < 12
  | .digCtxSelect seat value => seat < 8 && value < 4294967296
  | .keyDomainSelect value => value < 4294967296
  | .spdmGetVersion _ => true
  | .spdmGetCapabilities _ => true
  | .spdmNegotiateAlgorithms _ _ => true
  | .spdmGetDigests _ => true
  | .spdmGetCertificate _ _ => true
  | .spdmChallenge _ _ _ => true
  | .spdmGetMeasurements _ _ _ => true
  | .spdmKeyExchange _ => true
  | .spdmFinish _ _ _ => true
  | .spdmHeartbeat _ _ => true
  | .spdmEndSession _ _ => true
  | .spdmSetCertificate _ _ _ _ => true
  | .spdmVendorDefinedRequest _ _ => true
  | .keyOwnerEnrol slot hash _ => slot < 64 && hash.length == 12
  | .keyDomainCreate slot tenant _ _ => slot < 64 && tenant < 4096
  | .keyDomainErase slot _ => slot < 64
  | .keyRoll slot _ => slot < 64
  | .keyRekeySweep slot _ first last => slot < 64 && first < 65536 && last < 65536
  | .keyStatusGet slot _ => slot < 64
  | .keySvnCommit slot _ _ => slot < 64
  | .keyFkShare slot _ _ _ => slot < 64
  | .keyPartnerEnrol slot _ _ => slot < 64
  | .keyBladeRootEnrol slot _ _ _ => slot < 64
  | .mbxDoorbell slot r => slot < 64 && r.opcode < 65536
  | .mbxAbort slot => slot < 64
  | .mbxCommandStart lane => lane < 8
  | .mbxCommandTimeout slot => slot < 64
  | .sysInfo slot => slot < 64
  | .sysEasyAll slot _ hold => slot < 64 && hold < 65536
  | .easyAllQuiesced _ => true
  | .sysStage slot _ pairs => slot < 64 && pairs.length <= 1024
  | .sysRowAll slot _ _ => slot < 64
  | .sysEasyAbort slot _ => slot < 64
  | .sysEasyList slot => slot < 64
  | .easyHoldLimit _ => true
  | .easyAllExpiry _ => true
  | .sysParamGet slot _ id => slot < 64 && id < 65536
  | .sysParamSet slot _ pairs => slot < 64 && pairs.length <= 1024
  | .sysParamDescribe slot id => slot < 64 && id < 65536
  | .sysHoldupDeclare slot _ _ _ => slot < 64
  | .sysServiceEnter slot _ => slot < 64
  | .sysServiceExit slot => slot < 64
  | .sysCoxDrill slot gap faults => slot < 64 && gap <= 2048 && faults.length <= 6
  | .sysRecoverScan slot => slot < 64
  | .sysRecoverUseGen slot gen _ => slot < 64 && gen < 16777216
  | .sysMapBudget slot _ => slot < 64
  | .nsCreate slot nsid _ => slot < 64 && 0 < nsid && nsid < 4294967295
  | .nsDelete slot _ => slot < 64
  | .nsSecureDiscard slot _ => slot < 64
  | .nsInfo slot _ => slot < 64
  | .subsysCreate slot _ _ _ => slot < 64
  | .subsysHostsSet slot _ _ => slot < 64
  | .anaGroupCreate slot _ _ => slot < 64
  | .mrRegister slot _ tag _ _ _ _ _ => slot < 64 && tag < 256
  | .mrInvalidate slot _ => slot < 64
  | .tenantCreate slot _ _ => slot < 64
  | .tenantDelete slot _ => slot < 64
  | .tenantAddrSet slot _ _ => slot < 64
  | .tenantSecureDiscard slot _ => slot < 64
  | .dictLoad slot _ _ _ _ _ _ _ => slot < 64
  | .dictRetire slot _ => slot < 64
  | .dictSample slot _ _ => slot < 64
  | .groupCreate slot _ _ _ _ _ _ _ => slot < 64
  | .groupDelete slot _ => slot < 64
  | .groupSpareSet slot _ _ => slot < 64
  | .groupShareFail slot _ _ => slot < 64
  | .groupRebuildTarget slot _ _ _ => slot < 64
  | .groupReshape slot _ _ _ _ => slot < 64
  | .bladeInfo slot _ => slot < 64
  | .bladeAttest slot _ => slot < 64
  | .logCopy slot _ => slot < 64
  | .faultGet slot source _ => slot < 64 && source < 32
  | .pfrArm slot seat trig a => slot < 64 && seat < 8 && trig < 8 && a.regs.length <= 48
  | .pwrTimersSet slot unit _ _ => slot < 64 && unit < 18
  | .pwrStateGet slot => slot < 64
  | .mbxInvalidOpcode slot => slot < 64
  | .pcieLinkUp speed width _ => 1 <= speed && speed <= 6 && width <= 16
  | .perstAssert => true
  | .perstDeassert _ => true
  | .pcieHotReset => true
  | .pcieLinkDown => true
  | .faceRestoreDone => true
  | .pcieFlr => true
  | .flrWaitDone micros _ => micros <= 100000
  | .bmeClear => true
  | .bmeSet => true
  | .pmD3hot => true
  | .pmD0 => true
  | .pciePoisonedWrite bar _ => bar == 0 || bar == 2 || bar == 4
  | .pcieCompletion tag _ => tag < 512
  | .pcieCompletionTimeout tag => tag < 512
  | .pcieL1Entry sub => sub <= 2
  | .pcieL1Exit => true
  | .msixUnmask vector => vector.getD 0 < 2048
  | .pciResetScopeWrite value => value < 4294967296
  | .doeRequest _ bytes => bytes <= 65536
  | .doeAbort => true
  | .fullReset _ => true
  | .bootWindowWrite _ len _ => 0 < len
  | .bootHeaderChecked h _ => h.bodyLen < 4294967296
  | .bootImageVerified _ _ => true
  | .bootRestart => true
  | .bootDownloadTimeout => true
  | .bringupDramTrained dimms => dimms.length <= 16
  | .bringupDiscoveryDone => true
  | .sideRecovery _ => true
  | .frontEndOpen => true
  | .unitPaddleEntry seat unit _ _ => seat < 8 && unit < 18
  | .unitEasyEntry seat unit _ _ => seat < 8 && unit < 18
  | .unitWake seat unit source _ => seat < 8 && unit < 18 && source < 256
  | .thermalTrip seat => seat < 8
  | .pwrWarnDetect _ => true
  | .pwrWarnGlitch _ => true
  | .hauloutImageProgrammed seat side => seat < 8 && side < 2
  | .hauloutMarkProgrammed seat side _ => seat < 8 && side < 2
  | .dramCaRetry seat channel retries _ => seat < 8 && channel < 2 && 0 < retries && retries <= 4
  | .dramRemapCopyDone seat channel => seat < 8 && channel < 2
  | .pfrClear seat => seat < 8
  | .pfrDisarm seat => seat < 8
  | .pfrSoftTrigger seat mask => seat < 8 && mask < 256
  | .pfrLinkedFire seat fromSeat fromTrig => seat < 8 && fromSeat < 8 && fromTrig < 8 && seat != fromSeat
  | .pfrSelect seat record => seat < 8 && record < 2048
  | .ancReadAddr seat value corrected bad => seat < 8 && value < 4294967296 && corrected < 16 && bad < 16
  | .i3cEntdaa address => address < 128
  | .i3cSetmrl _ => true
  | .i3cSetmwl _ => true
  | .mctpSetEndpointId _ eid => eid < 256
  | .mctpGetEndpointId _ => true
  | .mctpGetEndpointUuid _ => true
  | .mctpGetVersionSupport _ => true
  | .mctpGetMessageTypeSupport _ => true
  | .pldmGetTid _ => true
  | .pldmSetTid _ tid => tid < 256
  | .pldmGetPldmVersion _ _ => true
  | .pldmGetPldmTypes _ => true
  | .pldmGetPldmCommands _ _ => true
  | .pldmGetPdrRepositoryInfo _ => true
  | .pldmGetPdr _ _ => true
  | .pldmGetSensorReading _ _ => true
  | .pldmGetStateSensorReadings _ _ => true
  | .pldmGetSensorThresholds _ _ => true
  | .pldmSetEventReceiver _ _ => true
  | .pldmEventRetry answered => answered ≤ 64
  | .updPiece _ p => p.piece < 65536
  | .updQuery _ _ => true
  | .updHeaderChecked u _ _ => u.h.bodyLen < 4294967296
  | .updVerifyRun _ => true
  | .updStatusGet slot => slot < 64
  | .updActivate slot _ _ _ => slot < 64
  | .updCancel slot => slot < 64
  | .updDiscard slot => slot < 64
  | .updExport slot => slot < 64
  | .updBitmapGet slot => slot < 64
  | .updVerify slot => slot < 64
  | .bridgeUpdate slot _ => slot < 96
  | .bridgeRestartTimeout slot => slot < 96
  | .supplyLow rail => rail < 7
  | .brownout rail => rail < 7
  | .keelCrcRetransmission seat peer count => seat < 8 && peer < 8 && seat != peer && 0 < count
  | .oarLinkDown slot => slot < 96
  | .ringIndAckTimeout slot => slot < 96
  | .pairLaneTrained seat => seat < 8
  | .pairLaneTrainingLost seat => seat < 8
  | .supplyRestored rail _ => rail < 7
  | .flrTagRelease tag => tag < 512
  | .clusterSelfTestDone passed => passed.length <= 8

end Sys2Proof
end

