-- ==== Sys2Proof/Tests/Slice0.lean ====
section
/-!
SUPPORT. Tests/Slice0.lean: an ill-formed operand for each check, single steps with results from the spec, and for every statement with
hypotheses a state and operands that meet them together.
-/

namespace Sys2Proof.Tests

open Sys2Proof Sys2Proof.Machine

set_option linter.unusedVariables false

/-! ### States of the tests -/

/-- A state with registers set. -/
def setR (l : List (Fld × Nat)) (s : State) : State := l.foldl (fun s x => wr x.1 x.2 s) s
/-- A head whose cox runs. -/
def up : State := setR [(Reg.PKG_BOOT_STATUS_PHASE, 5), (Reg.MBX_STATUS_READY, 1), (Reg.LOG_STATUS_READY, 1), (Reg.PKG_BRINGUP_STEP, 13)]
  { State.reset with stk := { Stk.reset with released := true }, pci := { State.reset.pci with retry := false, bme := true } }
/-- Sixteen valid intervals have been seen on an input. -/
def inp (n : Nat) (lead : Int) : StkInput := ⟨n, List.replicate 16 10000, 65536, lead⟩
def locked : State := setR [(Reg.STK_STATUS_A_LOCKED, 1), (Reg.STK_STATUS_B_LOCKED, 1)]
  { up with stk := { up.stk with inA := inp 16 0, inB := inp 16 100, active := some .a, lockSeen := true } }
/-- A head whose front end is open on seat 0, sub-port 0. -/
def fup : State := setR [(Reg.FE_PORT_STATUS_OPEN 0, 1), (Reg.FE_PORT_STATUS_LINK_UP 0, 1), (Reg.FE_PORT_STATUS_FEC_LOCK 0, 1)] up
/-- A ready queue pair. -/
def qp0 : Qp := ⟨.ready, false, 2, 0, 7, some 0, 9, 4096, 65536, 4096, 0, 8192, false, 1, false, none, 7, 7, 0, [], [], 0, []⟩
def mr0 : Mr := ⟨⟨3, true, 17, 7, 4096, 65536, true, true, 0⟩, none, none⟩
def one (x : Qp) : State := { fup with fe := { fup.fe with qps := [(pairKey 0 5, x)], mrs := [(2, mr0)] } }
/-- A mailbox command of slot 3 runs. -/
def cmdIn (opc : Nat) (s : State) : State :=
  { s with mbx := { s.mbx with slots := [(3, { freeSlot with st := .running, req := { noReq with opcode := opc, tag := 77, vector := 2 } })] } }
/-- A namespace's settings, and an admin queue (5) and an I/O queue (6) of one controller. -/
def np : NsParams := ⟨1, 1, 0, 0, 0, 1024, 8, 1, false, false, 0, true, true, 256, false, 64, 0, 1, false, false, 0⟩
def qa : Qp := { qp0 with admin := true, pd := 0 }
def qi : Qp := { qp0 with pd := 0 }
def ct : Ctrl := ⟨some 1, 44, 5, [6], 5000, 2, [31], [], [], [], []⟩
def ns0 : Ns := ⟨⟨0, np, .opened, 0⟩, none, 65536, none, false⟩
def nvs : State := { fup with
  fe := { fup.fe with qps := [(pairKey 0 5, qa), (pairKey 0 6, qi), (pairKey 0 7, { qi with ctrl := none })] }
  nv := { fup.nv with ns := [(1, ns0)], subsys := [(1, ⟨1, 600, [44]⟩)], tenants := [(1, ⟨[(0, 100)], 0, false⟩)], anas := [(0, 0)], ctrls := [(pairKey 0 0, ct)] }
  par := { fup.par with groups := [(0, ⟨0, [(0, ⟨4, 2, []⟩)], 0, 4, 512, 128, 1000, [], [], [], [], [], false, 10, 100, false, false, [], false, 0, [], 400000, 0, 0, none, [], [], false, [], [], []⟩)] }
  pair := { fup.pair with st := .solo, sides := [0], own := [(0, ⟨0, 0, 0, 0, none⟩), (4096, ⟨0, 0, 0, 0, none⟩)] } }
def cap0 : Capsule := ⟨true, 1, 4104, false, none, none, 0, 0, 0, 0, []⟩
def cmd0 (op : CmdOp) (lba count : Nat) : Cmd := {
  seat := 0, qp := 6, cid := 12, op := op, nsid := 1, lba := lba, count := count, cap := cap0, stage := .waiting, arrived := 65536, epoch := 0
  ownEpoch := 0, p := noParams, left := 0, toPull := 0, failed := none, slots := 0, dirty := 0, takenAt := 0, groups := [], assigned := none, part := 0 }
/-- The same with one command waiting. -/
def nvc (op : CmdOp) (lba count : Nat) : State := { nvs with nv := { nvs.nv with cmds := [(0, cmd0 op lba count)], nextCmd := 1 } }
/-- A write of two blocks in progress; its first block in stage `st`. -/
def npw : NsParams := { np with pi := 0, metaLen := 0 }
def cw (st : CmdStage) : Cmd := { cmd0 .write 0 2 with stage := st, p := npw, left := 2, groups := [0], cap := { cap0 with sglLen := 8192 } }
def blk0 (st : BlkStage) : Blk := ⟨st, 0, ⟨0, 0, 0, 0⟩, ⟨0, 0, 0⟩, false, 0, true, true, none, none, none, none, 0, false, false⟩
def grp0 : Grp := ⟨0, 0, 2, [], true, none, true, none, [], false⟩
def dom0 : Domain := ⟨1, false, 1, false, false, false, false, [1], [], none, 0, none, 11, true, none⟩
def wip (st : CmdStage) (b : Blk) : State := { nvs with
  nv := { nvs.nv with cmds := [(0, cw st)], nextCmd := 1 }
  keys := { nvs.keys with domains := [(0, dom0)], slots := [(0, [slotKey 1 0 0])] }
  ing := { nvs.ing with blks := [(pairKey 0 0, b), (pairKey 0 1, b)], grps := [(pairKey 0 0, grp0)] } }
def gm : Geom := ⟨2, 1, [⟨0, 0, 0, false, false⟩, ⟨1, 0, 0, false, false⟩, ⟨12, 0, 0, false, false⟩]⟩
def row0 (st : RowSt) : Row := ⟨st, 0, 0, false, 0, 0, 12, 60000, 0, [], [], 0, true, 0, 65000, [], false, false, false, false, false⟩
def gp (rows : FMap Row) : Group :=
  ⟨0, [(0, gm)], 0, 2, 512, 128, 5, [(0, ⟨0, [(0, 0), (0, 0), (0, 0)], 0, 0, false, 1, []⟩)], rows, [], [], [], false, 10, 100, false, false, [], false, 0, [], 400000, 0, 0, none, [], [], false, [], [], []⟩
def rowS (r : Row) : State := { nvs with par := { nvs.par with groups := [(0, gp [(0, r)])] } }
/-- A mapped block: namespace 1, LBA 3, handle 5, its extent in row 0; every activity has grants. -/
def ext0 : Ext := ⟨0, 0, 0, 12, 0, 100, 1, 1, 0, 5, 0, 0, 0, 1, 3, 65000, 5, ⟨0, 0, 0⟩, 1, 0, 60000⟩
def rec0 : Rec := ⟨512, 12, 0, 0, 1, 1, 0, 0⟩
def mapped (r : Row) (g : Group → Group) : State := { nvs with
  par := { nvs.par with groups := [(0, g (gp [(0, r)]))], exts := [(512, ext0)] }
  map := { nvs.map with recs := [(recKey 1 5, rec0)], dirs := [(dirKey 1 0, ⟨1, none, true, true, false⟩)], pages := [(1, [(3, ⟨5, false, false, false, false, 7, 0⟩)])] }
  keys := { nvs.keys with domains := [(0, dom0)] }
  rate := (List.range 8).map fun n => (n, { rateReset with grants := [100, 100, 100, 100, 100] }) }
def mimg : MapImage := ⟨[], [], [], [], [], [(0, 0)], [], [], []⟩
/-- A checkpoint in progress on every seat, at a stage. -/
def ckp (n : Nat) : State := { nvs with map := { nvs.map with ckpt := some ⟨9, 60000, (List.range 8).map fun i => (i, n), false, mimg⟩ } }

/-! ### An ill-formed operand for each check of `wellFormed`: the check refuses it -/

theorem test_illFormed_1 :
    (∀ x0, wellFormed (.lowHalfRead 2 x0) = false) ∧
    (∀ x0, wellFormed (.lowHalfWrite 0 4294967296 x0) = false) ∧
    (∀ x0 x1 x2, wellFormed (.seatWindowAccess 0 x0 x1 x2) = false) ∧
    (∀ x0 x1 x2, wellFormed (.seatWindowAccess 8 x0 x1 x2) = false) ∧
    (∀ x0 x1, wellFormed (.seatWindowAccess 1 4194304 x0 x1) = false) ∧
    (∀ x0 x1, wellFormed (.seatWindowAccess 1 2 x0 x1) = false) ∧
    (∀ x0, wellFormed (.keelLinkFail 8 x0) = false) ∧
    (wellFormed (.keelLinkFail 0 8) = false) ∧
    (wellFormed (.keelLinkFail 0 0) = false) ∧
    (wellFormed (.coxFault 2049) = false) ∧
    (∀ x0 x1 x2, wellFormed (.strokeInputEdge x0 0 x1 x2) = false) ∧
    (wellFormed (.strokeEdge ⟨true, List.replicate 9 0, 0, [], [], .running, [], [], .whole⟩) = false) ∧
    (∀ x0 x1, wellFormed (.stkSchedWrite 8 x0 x1) = false) ∧
    (∀ x0 x1 x2, wellFormed (.feFrameReceive 0 4 x0 x1 x2) = false) ∧
    (∀ x0 x1, wellFormed (.pfcFrame 0 0 256 x0 x1) = false) ∧
    (∀ x0, wellFormed (.pfcFrame 0 0 0 256 x0) = false) ∧
    (∀ x0 x1 x2 x3, wellFormed (.rocePacketReceive 0 16384 x0 x1 x2 x3) = false) ∧
    (∀ x0 x1, wellFormed (.cmReq 0 x0 0 65536 x1) = false) := by
  refine ⟨?_, ?_, ?_, ?_, ?_, ?_, ?_, ?_, ?_, ?_, ?_, ?_, ?_, ?_, ?_, ?_, ?_, ?_⟩ <;> intros <;> rfl

theorem test_illFormed_2 :
    (∀ x0, wellFormed (.cmReq 0 x0 0 0 4096) = false) ∧
    (∀ x0 x1, wellFormed (.rdmaWriteFirstPacket 0 0 4294967296 x0 x1) = false) ∧
    (∀ x0, wellFormed (.nvmeGetLogPage 0 0 ⟨0, x0⟩ 256) = false) ∧
    (∀ x0, wellFormed (.nvmeGetFeatures 0 0 ⟨0, x0⟩ 256) = false) ∧
    (∀ x0 x1 x2 x3, wellFormed (.nvmeRead 0 0 65536 x0 x1 x2 x3) = false) ∧
    (∀ x0 x1 x2, wellFormed (.nvmeRead 0 0 0 x0 x1 0 x2) = false) ∧
    (∀ x0 x1 x2, wellFormed (.nvmeRead 0 0 0 x0 x1 65537 x2) = false) ∧
    (wellFormed (.nvmeUnsupportedOpcode 0 0 0 256) = false) ∧
    (∀ x0, wellFormed (.katoExpiry 0 4096 x0) = false) ∧
    (∀ x0 x1 x2 x3 x4, wellFormed (.rdmaReadResponse x0 512 x1 x2 x3 x4) = false) ∧
    (∀ x0, wellFormed (.groupAccept 0 4294967296 x0) = false) ∧
    (∀ x0, wellFormed (.ftEarlySeal 32 x0) = false) ∧
    (wellFormed (.ftEarlySeal 0 4294967296) = false) ∧
    (∀ x0, wellFormed (.tcLineFill 0 16 x0) = false) ∧
    (∀ x0, wellFormed (.gcMoveCommit 0 4503599627370496 x0) = false) ∧
    (∀ x0, wellFormed (.refRecountSweep 4096 x0) = false) ∧
    (wellFormed (.refRecountSweep 0 1099511627776) = false) ∧
    (wellFormed (.parityVerify 0 0 true (List.replicate 49 [])) = false) := by
  refine ⟨?_, ?_, ?_, ?_, ?_, ?_, ?_, ?_, ?_, ?_, ?_, ?_, ?_, ?_, ?_, ?_, ?_, ?_⟩ <;> intros <;> rfl

theorem test_illFormed_3 :
    (wellFormed (.parityVerify 0 0 true [[]]) = false) ∧
    (∀ x0 x1 x2, wellFormed (.oarLinkTrained 96 x0 x1 x2) = false) ∧
    (∀ x0 x1 x2 x3 x4 x5 x6, wellFormed (.oarDataFrame 0 4096 x0 x1 x2 x3 x4 x5 x6) = false) ∧
    (∀ x0 x1 x2 x3 x4 x5, wellFormed (.oarDataFrame 0 0 4096 x0 x1 x2 x3 x4 x5) = false) ∧
    (∀ x0 x1 x2 x3 x4 x5, wellFormed (.oarReadRecord 0 4096 x0 x1 x2 x3 x4 x5) = false) ∧
    (∀ x0 x1 x2 x3 x4, wellFormed (.oarReadRecord 0 0 8 x0 x1 x2 x3 x4) = false) ∧
    (∀ x0, wellFormed (.oarCompletion 0 0 8 x0) = false) ∧
    (∀ x0, wellFormed (.bldIndicatorWrite 0 4 x0) = false) ∧
    (wellFormed (.bldIndicatorWrite 0 0 4) = false) ∧
    (∀ x0, wellFormed (.fenceAck 0 4294967296 x0) = false) ∧
    (wellFormed (.pairFrameSend 0 1048576) = false) ∧
    (∀ x0 x1, wellFormed (.witnessReply 0 4294967296 x0 x1) = false) ∧
    (∀ x0, wellFormed (.witnessReply 0 0 2 x0) = false) ∧
    (wellFormed (.pairStatusGet 64) = false) ∧
    (∀ x0, wellFormed (.replLinkCreate 0 256 x0) = false) ∧
    (wellFormed (.replDeltaCompute 0 2) = false) ∧
    (∀ x0 x1, wellFormed (.keySlotFill 0 2 x0 x1) = false) ∧
    (∀ x0, wellFormed (.keySlotFill 0 0 8192 x0) = false) := by
  refine ⟨?_, ?_, ?_, ?_, ?_, ?_, ?_, ?_, ?_, ?_, ?_, ?_, ?_, ?_, ?_, ?_, ?_, ?_⟩ <;> intros <;> rfl

theorem test_illFormed_4 :
    (wellFormed (.keySlotFill 0 0 0 65536) = false) ∧
    (wellFormed (.digResultRead 0 12) = false) ∧
    (∀ x0, wellFormed (.keyOwnerEnrol 0 [0] x0) = false) ∧
    (∀ x0 x1, wellFormed (.keyRekeySweep 0 x0 65536 x1) = false) ∧
    (∀ x0, wellFormed (.keyRekeySweep 0 x0 0 65536) = false) ∧
    (∀ r : MbxReq, wellFormed (.mbxDoorbell 0 { r with opcode := 65536 }) = false) ∧
    (wellFormed (.mbxCommandStart 8) = false) ∧
    (∀ x0, wellFormed (.sysEasyAll 0 x0 65536) = false) ∧
    (∀ x0, wellFormed (.sysParamGet 0 x0 65536) = false) ∧
    (wellFormed (.sysCoxDrill 0 0 [0, 0, 0, 0, 0, 0, 0]) = false) ∧
    (∀ x0, wellFormed (.sysRecoverUseGen 0 16777216 x0) = false) ∧
    (∀ x0, wellFormed (.nsCreate 0 0 x0) = false) ∧
    (∀ x0, wellFormed (.nsCreate 0 4294967295 x0) = false) ∧
    (∀ x0 x1 x2 x3 x4 x5, wellFormed (.mrRegister 0 x0 256 x1 x2 x3 x4 x5) = false) ∧
    (∀ x0, wellFormed (.faultGet 0 32 x0) = false) ∧
    (∀ x0, wellFormed (.pfrArm 0 0 8 x0) = false) ∧
    (∀ x0 x1, wellFormed (.pwrTimersSet 0 18 x0 x1) = false) ∧
    (∀ x0 x1, wellFormed (.pcieLinkUp 0 x0 x1) = false) := by
  refine ⟨?_, ?_, ?_, ?_, ?_, ?_, ?_, ?_, ?_, ?_, ?_, ?_, ?_, ?_, ?_, ?_, ?_, ?_⟩ <;> intros <;> rfl

theorem test_illFormed_5 :
    (∀ x0 x1, wellFormed (.pcieLinkUp 7 x0 x1) = false) ∧
    (∀ x0, wellFormed (.pcieLinkUp 1 17 x0) = false) ∧
    (∀ x0, wellFormed (.flrWaitDone 100001 x0) = false) ∧
    (∀ x0, wellFormed (.pciePoisonedWrite 7 x0) = false) ∧
    (∀ x0, wellFormed (.pcieCompletion 512 x0) = false) ∧
    (wellFormed (.pcieL1Entry 3) = false) ∧
    (wellFormed (.msixUnmask (some 2048)) = false) ∧
    (∀ x0, wellFormed (.doeRequest x0 65537) = false) ∧
    (∀ x0 x1, wellFormed (.bootWindowWrite x0 0 x1) = false) ∧
    (∀ x0, wellFormed (.bootHeaderChecked ⟨4294967296, 0, 0, 0, 0, 0, 0, 0, 0⟩ x0) = false) ∧
    (wellFormed (.bringupDramTrained (List.replicate 17 ⟨0, 0, 64, false, 1, true⟩)) = false) ∧
    (∀ x0, wellFormed (.unitWake 0 0 256 x0) = false) ∧
    (∀ x0 x1, wellFormed (.dramCaRetry 0 2 x0 x1) = false) ∧
    (∀ x0, wellFormed (.dramCaRetry 0 0 0 x0) = false) ∧
    (∀ x0, wellFormed (.dramCaRetry 0 0 5 x0) = false) ∧
    (wellFormed (.pfrSoftTrigger 0 256) = false) ∧
    (∀ x0, wellFormed (.pfrLinkedFire 0 8 x0) = false) ∧
    (wellFormed (.pfrLinkedFire 0 0 8) = false) := by
  refine ⟨?_, ?_, ?_, ?_, ?_, ?_, ?_, ?_, ?_, ?_, ?_, ?_, ?_, ?_, ?_, ?_, ?_, ?_⟩ <;> intros <;> rfl

theorem test_illFormed_6 :
    (wellFormed (.pfrLinkedFire 0 0 0) = false) ∧
    (wellFormed (.pfrSelect 0 2048) = false) ∧
    (∀ x0, wellFormed (.ancReadAddr 0 0 16 x0) = false) ∧
    (wellFormed (.ancReadAddr 0 0 0 16) = false) ∧
    (wellFormed (.i3cEntdaa 128) = false) ∧
    (∀ x0, wellFormed (.mctpSetEndpointId x0 256) = false) ∧
    (∀ x0, wellFormed (.pldmSetTid x0 256) = false) ∧
    (wellFormed (.pldmEventRetry 65) = false) ∧
    (∀ x0, wellFormed (.updPiece x0 ⟨1, 65536, 1, true⟩) = false) ∧
    (∀ x0 x1, wellFormed (.updHeaderChecked ⟨⟨4294967296, 0, 0, 0, 0, 0, 0, 0, 0⟩, 1, 1, 0, 1, 0⟩ x0 x1) = false) ∧
    (wellFormed (.supplyLow 7) = false) ∧
    (∀ x0, wellFormed (.keelCrcRetransmission 0 8 x0) = false) ∧
    (∀ x0, wellFormed (.keelCrcRetransmission 0 0 x0) = false) ∧
    (wellFormed (.clusterSelfTestDone (List.replicate 9 true)) = false) ∧
    (∀ x0, wellFormed (.mapRecovery ⟨x0, [(8, 0)]⟩) = false) ∧
    (wellFormed (.strokeEdge ⟨true, [], 0, [], [], .running, [], [4503599627370496], .whole⟩) = false) ∧
    (∀ x0, wellFormed (.nvmeKeepAlive 0 0 ⟨65536, x0⟩) = false) ∧
    (∀ x0 x1 x2 x3 x4, wellFormed (.nvmeConnect 0 0 ⟨0, x0⟩ x1 x2 x3 ⟨x4, 65536⟩) = false) := by
  refine ⟨?_, ?_, ?_, ?_, ?_, ?_, ?_, ?_, ?_, ?_, ?_, ?_, ?_, ?_, ?_, ?_, ?_, ?_⟩ <;> intros <;> rfl

theorem test_illFormed_7 :
    (∀ x0, wellFormed (.fpLookupDone 0 ⟨512, x0⟩) = false) ∧
    (∀ x0, wellFormed (.oarResume 0 ⟨4096, x0⟩) = false) ∧
    (∀ x0 x1 x2, wellFormed (.ringFrameReceive x0 x1 0 ⟨0, 0, 0, 256, x2, []⟩) = false) ∧
    (∀ x0 x1, wellFormed (.ringButton ⟨0, x0, 256, x1⟩) = false) ∧
    (∀ x0, wellFormed (.ringButton ⟨0, x0, 0, 4294967296⟩) = false) ∧
    (∀ x0 x1, wellFormed (.pairExchange 0 x0 ⟨x1, 4294967296⟩) = false) := by
  refine ⟨?_, ?_, ?_, ?_, ?_, ?_⟩ <;> intros <;> rfl

theorem test_illFormed_staged (o : EasyObj) (l : List (Nat × Nat)) (h : 1024 < l.length) : wellFormed (.sysStage 0 o l) = false := by
  simp [wellFormed, Nat.not_le.mpr h]

theorem test_illFormed_ranges (c : Capsule) (l : List (Nat × Nat)) (h : 256 < l.length) :
    wellFormed (.nvmeDatasetManagement 0 0 0 0 l true c) = false := by
  simp [wellFormed, Nat.not_le.mpr h]

theorem test_illFormed_byte (l : List Nat) (h : 256 ∈ l) : wellFormed (.parityVerify 0 0 true [l]) = false := by
  simp only [wellFormed, List.all_cons, Bool.and_eq_false_iff]
  exact .inr (.inl (.inr (List.all_eq_false.mpr ⟨256, h, by decide⟩)))

/-! ### Single steps and values that the spec states -/

/-- R45: a difference of exactly 2^31 is not later in either direction; 1 and 2^31 − 1 are. -/
theorem test_strokeLater : strokeLater 2147483648 0 = false ∧ strokeLater 0 2147483648 = false ∧ strokeLater 0 4294967295 = true ∧
    strokeLater 2147483647 0 = true ∧ strokeLater 5 5 = false := by decide

/-- R43: the tick counter has 20 bits. -/
theorem test_tick_wraps : (idleTick { up with stk := { up.stk with tick := 1048575 } }).stk.tick = 0 := by decide

/-- R60: the extended stroke reads as a pair, and the high half as latched at the low read. -/
theorem test_low_half_read : (busRead 0x10018 0 { up with stk := { up.stk with ext := 4294967303 } }).out = [⟨.busRead, [0, 0x10018, 7]⟩] ∧
    fget (busRead 0x10018 0 { up with stk := { up.stk with ext := 4294967303 } }).bus.latches (pairKey 0x10018 0) = some 1 := by decide

/-- R6: an access of another size reads zero. -/
theorem test_bad_access : (badAccess 0x10000 8 false up).out = [⟨.busRead, [0, 0x10000, 0]⟩] := by decide

/-- R9: an offset inside a block that names no register reads zero. -/
theorem test_unnamed_offset : (busRead 0x44 0 up).out = [⟨.busRead, [0, 0x44, 0]⟩] := by decide

/-- R450, R451: at scope FULL a hot reset is a full reset, and the cox no longer runs. -/
theorem test_hot_reset : coxRuns (scopedReset .hotReset up) = false := by decide

/-- R454: while a function-level reset lasts, configuration requests are retried. -/
theorem test_flr : (match execPcieFlr { up with pci := { up.pci with perst := false } } with
    | .next t => t.pci.flr && t.pci.retry && !t.pci.bme | _ => false) = true := by decide

/-- R464: chunks of 16,400 bytes; the last one may be shorter. -/
theorem test_chunks : chunksIn 40000 16399 = 0 ∧ chunksIn 40000 16400 = 1 ∧ chunksIn 40000 40000 = 3 := by decide

/-- R51: a floor is written 65,536 strokes ahead of the highest one, which State.reset holds in slot 0. -/
theorem test_first_floor : (floorWrites 131072 0 State.reset).1.stk.floors = [(0, ⟨65536, 0, true⟩), (1, ⟨131072, 1, true⟩)] := by decide

/-- The queue is first in, first out. -/
theorem test_queue_order : (match step { up with pending := [.pmD3hot, .pmD0] } with
    | .next t => t.pci.d3 && t.pending == [.pmD0] | _ => false) = true := by decide

/-- R215: doubling past the field's width takes the polynomial 0x11D off. -/
theorem test_field : gfMul 0x80 2 = 0x1D ∧ gfMul 0x8E 2 = 1 := by decide

/-- R215: every coefficient of parity 0 is 1, so parity 0 is the XOR of the data. -/
theorem test_parity_zero : (List.range 45).all (fun j => parityCoef 0 j == 1) = true ∧ parityPage 0 [[1, 255], [2, 16], [4, 1]] = [7, 238] := by decide

/-! ### States that meet the hypotheses of the statements -/

namespace D19

theorem witness_StepRunsFrontCommand : ∃ (s : State) (c : Instr) (rest : List Instr), s.pending = c :: rest :=
  ⟨{ up with pending := [.pmD3hot, .pmD0] }, .pmD3hot, [.pmD0], rfl⟩
theorem witness_EveryCommandAnswers : ∃ s : State, s.pending = [] := ⟨up, by decide⟩
theorem witness_StepTakesOneCommand : ∃ s t : State, step s = .next t := ⟨{ up with pending := [.pmD3hot] }, _, rfl⟩
theorem witness_VariantStays : ∃ s t : State, step s = .next t := ⟨{ up with pending := [.fullReset .powerUp] }, _, rfl⟩
theorem witness_FrameOfEveryCommand : ∃ (c : Instr) (s t : State), exec c s = .next t := ⟨.pmD3hot, up, _, rfl⟩
theorem witness_StepKeepsCanonical : ∃ s t : State, Canonical s ∧ step s = .next t :=
  ⟨{ up with pending := [.pmD3hot] }, _, by unfold Canonical FSorted; decide, rfl⟩
theorem witness_CoxRoleIsOne_1 : ∃ n, n < State.reset.hw.seats := ⟨7, by decide⟩
theorem witness_CoxRoleIsOne_2 : ∃ s t : State, step s = .next t := ⟨{ up with pending := [.coxFault 9] }, _, rfl⟩
theorem witness_CoxRoleIsOne_3 : ∃ s t : State, s.cox.active ≠ s.cox.standby ∧ step s = .next t :=
  ⟨{ up with pending := [.coxFault 9] }, _, by decide, rfl⟩
theorem witness_CoxRoleIsOne_4 : ∃ (s : State) (n m : Nat), s.cox.active ≠ s.cox.standby ∧ n < s.hw.seats ∧ m < s.hw.seats ∧ s.hw.seats ≤ 8 ∧
    fget s.bus.waiting (Reg.SEAT_ID_COX_ACTIVE n).key = none ∧ fget s.bus.waiting (Reg.SEAT_ID_COX_ACTIVE m).key = none ∧
    fget s.bus.waiting (Reg.SEAT_ID_COX_STANDBY n).key = none ∧ readFld s .ro (Reg.SEAT_ID_COX_ACTIVE n) = 1 :=
  ⟨up, 0, 7, by decide, by decide, by decide, by decide, by decide, by decide, by decide, by decide⟩
theorem witness_ReservedBitsReadZero_1 : ∃ (s : State) (addr : Nat) (r : RegRef) (i : Nat), target s addr = some r ∧ r.row.wide = false ∧
    (∀ d ∈ r.row.fields, i < d.lsb ∨ d.lsb + d.width ≤ i) := ⟨up, 0x40, _, 6, rfl, rfl, by decide⟩
theorem witness_ReservedBitsReadZero_2 : ∃ (s : State) (addr : Nat) (r : RegRef) (i : Nat), target s addr = some r ∧ r.row.wide = true ∧
    (∀ d ∈ r.row.fields, d.width ≤ (if r.high then 32 + i else i)) := ⟨up, 0x1001c, _, 32, rfl, rfl, by decide⟩
theorem witness_ReservedBitsReadZero_3 : ∃ (s : State) (addr req : Nat), served s addr req = .acts ∧ (target s addr).isNone = true ∧ addr < cfgBase :=
  ⟨up, 0x44, 0, by decide, by decide, by decide⟩
theorem witness_FunctionResetSparesStorage_1 : ∃ s t : State, exec .pcieFlr s = .next t ∧ downloading s = false := ⟨up, _, rfl, by decide⟩
theorem witness_FunctionResetSparesStorage_2 : ∃ (s t : State) (micros : Nat) (timedOut : Bool), exec (.flrWaitDone micros timedOut) s = .next t ∧
    s.pci.flr = true ∧ t.pci.flr = false := ⟨{ up with pci := { up.pci with flr := true } }, _, 5, false, rfl, by decide, by decide⟩
theorem witness_FunctionResetSparesStorage_3 : ∃ s t : State, s.pci.perst = false ∧ rd s Reg.PCI_RESET_SCOPE_SCOPE = 1 ∧
    exec .perstAssert s = .next t := ⟨setR [(Reg.PCI_RESET_SCOPE_SCOPE, 1)] { up with pci := { up.pci with perst := false } }, _, by decide, by decide, rfl⟩
theorem witness_FunctionResetSparesStorage_4 : ∃ s t : State, s.pci.perst = false ∧ rd s Reg.PCI_RESET_SCOPE_SCOPE = 0 ∧
    exec .perstAssert s = .next t := ⟨{ up with pci := { up.pci with perst := false } }, _, by decide, by decide, rfl⟩

end D19

namespace D01

def mb9 : State := { mapped (row0 .programmed) id with stk := { up.stk with ext := 70000 } }
def sleep9 : State := setR [(Reg.PWR_UNIT_STATE_STATE 7 14, 1)] mb9
def lockW9 : State := setR [(Reg.RING_POLL_MISS_COUNT, 5)] mb9
def kl9 : State := setR ((List.range 8).map fun n => (Reg.KEEL_LINK_STATUS_LINK_UP n, 255 - 2 ^ n)) mb9

set_option maxRecDepth 8000 in
theorem witness_WideRegisterAccessCompletes_1 : ∃ (s : State) (addr req : Nat) (r : RegRef) (d : FieldDef) (l : List FieldDef), served s addr req = .acts ∧ target s addr = some r ∧ r.row.wide = true ∧ r.high = false ∧ r.row.fields = d :: l ∧ (seatAddr addr).all (fun p => decide (p.2 < 0x90140) || decide (0x90170 ≤ p.2)) = true := ⟨mb9, 0x10018, 3, _, _, _, by decide, rfl, rfl, rfl, rfl, by decide⟩
set_option maxRecDepth 8000 in
theorem witness_WideRegisterAccessCompletes_2 : ∃ (s : State) (addr _value req : Nat) (r : RegRef) (d : FieldDef) (l : List FieldDef), served s addr req = .acts ∧ target s addr = some r ∧ r.row.wide = true ∧ r.high = false ∧ r.row.fields = d :: l := ⟨mb9, 0x10018, 77, 3, _, _, _, by decide, rfl, rfl, rfl, rfl⟩
set_option maxRecDepth 8000 in
theorem witness_WideRegisterAccessCompletes_3 : ∃ (s : State) (addr _value req : Nat) (r : RegRef) (d : FieldDef) (l : List FieldDef), Canonical s ∧ served s addr req = .acts ∧ target s addr = some r ∧ r.row.wide = true ∧ r.high = true ∧ r.row.fields = d :: l ∧ FSorted s.bus.staged := ⟨mb9, 0x1001c, 77, 3, _, _, _, by unfold Canonical FSorted; decide, by decide, rfl, rfl, rfl, rfl, by unfold FSorted; decide⟩
set_option maxRecDepth 8000 in
theorem witness_WideRegisterAccessCompletes_4 : ∃ (s : State) (seat off req _stall a : Nat) (r : RegRef), a = 0x400000 * (seat + 1) + off ∧ off < 0x200000 ∧ served s a req = .acts ∧ target s a = some r ∧ r.row.wide = false ∧ r.row.fields.all (fun d => !readClears d.acc) = true ∧ (off < 0x90140 ∨ 0x90170 ≤ off) ∧ off ≠ 0x1A0128 ∧ a < cfgBase ∧ (blockUnit off).all (fun u => unitState s seat u == 0) = true := ⟨mb9, 7, 0x1E0100, 0, 0, 0x21E0100, _, by decide, by decide, by decide, rfl, rfl, rfl, by decide, by decide, by decide, by decide⟩
set_option maxRecDepth 8000 in
theorem witness_WideRegisterAccessCompletes_5 : ∃ (s : State) (seat off req _stall a u : Nat) (r : RegRef), Canonical s ∧ a = 0x400000 * (seat + 1) + off ∧ off < 0x200000 ∧ served s a req = .acts ∧ target s a = some r ∧ r.row.wide = false ∧ r.row.fields.all (fun d => !readClears d.acc) = true ∧ (off < 0x90140 ∨ 0x90170 ≤ off) ∧ off ≠ 0x1A0128 ∧ a < cfgBase ∧ blockUnit off = some u ∧ unitState s seat u ≠ 0 := ⟨sleep9, 7, 0x1E0100, 0, 25, 0x21E0100, 14, _, by unfold Canonical FSorted; decide, by decide, by decide, by decide, rfl, rfl, rfl, by decide, by decide, by decide, by decide, by decide⟩
set_option maxRecDepth 8000 in
theorem witness_WideRegisterAccessCompletes_6 : ∃ (s : State) (seat off value req _stall a : Nat) (r : RegRef), Canonical s ∧ a = 0x400000 * (seat + 1) + off ∧ off < 0x200000 ∧ served s a req = .acts ∧ target s a = some r ∧ r.row.wide = false ∧ r.row.fields.Pairwise (fun x y => x.lsb ≠ y.lsb) ∧ (hook a value (keelSend (req - 1) seat keelCtrl 4 s)).isNone = true ∧ a < cfgBase ∧ (blockUnit off).all (fun u => unitState s seat u == 0) = true := ⟨mb9, 7, 0x1A0000, 5, 0, 0, 0x21A0000, _, by unfold Canonical FSorted; decide, by decide, by decide, by decide, rfl, rfl, by decide, by decide, by decide, by decide⟩
set_option maxRecDepth 8000 in
theorem witness_RegisterAccessCompletes_1 : ∃ (s : State) (addr req : Nat) (_event : Bool) (r : RegRef) (d : FieldDef), Canonical s ∧ served s addr req = .acts ∧ target s addr = some r ∧ r.row.wide = false ∧ r.row.fields = [d] ∧ readClears d.acc = true ∧ d.reset r.idx = 0 ∧ 0 < d.width ∧ (seatAddr addr).all (fun p => (decide (p.2 < 0x90140) || decide (0x90170 ≤ p.2)) && p.2 != 0x1A0128) = true ∧ addr ≠ addrOfBit Reg.STK_EXT.key := ⟨lockW9, 0x28018, 0, true, _, _, by unfold Canonical FSorted; decide, by decide, rfl, rfl, rfl, rfl, rfl, by decide, by decide, by decide⟩
set_option maxRecDepth 8000 in
theorem witness_RegisterAccessCompletes_2 : ∃ (s : State) (addr value req : Nat) (r : RegRef), Canonical s ∧ served s addr req = .acts ∧ target s addr = some r ∧ r.row.wide = false ∧ r.row.fields.Pairwise (fun x y => x.lsb ≠ y.lsb) ∧ (hook addr value s).isNone = true ∧ takesNow addr = false := ⟨mb9, 0x10008, 4, 0, _, by unfold Canonical FSorted; decide, by decide, rfl, rfl, by decide, by decide, by decide⟩
theorem witness_RegisterAccessCompletes_3 : ∃ (s : State) (addr size : Nat) (_write : Bool), Canonical s ∧ addr < cfgBase ∧ s.pci.retry = false ∧ s.pci.d3 = false ∧ (size ≠ 4 ∨ addr % 4 ≠ 0) := ⟨mb9, 0x10008, 8, false, by unfold Canonical FSorted; decide⟩
theorem witness_KeelCommandsComplete_1 : ∃ (s : State) (x y : Nat), Canonical s ∧ s.boot.halted = false ∧ x < s.hw.seats ∧ y < s.hw.seats ∧ x ≠ y ∧ keelUp s x y = true ∧ 2 < s.hw.seats ∧ s.hw.seats ≤ 8 := ⟨kl9, 2, 7, by unfold Canonical FSorted; decide⟩
theorem witness_KeelCommandsComplete_2 : ∃ (s : State) (seat peer _count : Nat), Canonical s ∧ seat < s.hw.seats ∧ peer < s.hw.seats := ⟨kl9, 2, 7, 9, by unfold Canonical FSorted; decide⟩

end D01

namespace D02

def mb9 : State := { mapped (row0 .programmed) id with stk := { up.stk with ext := 70000 } }
def ei9 : EdgeInfo := ⟨true, List.replicate 8 40, 100, [], [], .running, [], [], .whole⟩

theorem witness_StrokeInputCommandsComplete_1 : ∃ (s : State) (i : Input) (interval : Nat) (_lead : Int), Canonical s ∧ s.stk.released = true ∧ inputLocked s i = false ∧ 16 ≤ runAfter (inputOf s i) interval := ⟨{ up with stk := { up.stk with inA := inp 15 0 } }, .a, 10000, 5, by unfold Canonical FSorted; decide⟩
theorem witness_StrokeInputCommandsComplete_2 : ∃ (s : State) (i : Input) (interval : Nat) (_lead : Int), Canonical s ∧ s.stk.released = true ∧ inputLocked s i = true ∧ runAfter (inputOf s i) interval ≤ 1 := ⟨locked, .a, 12000, 5, by unfold Canonical FSorted; decide⟩
theorem witness_StrokeInputCommandsComplete_3 : ∃ (s : State) (i : Input), Canonical s ∧ inputLocked s i = true := ⟨locked, .a, by unfold Canonical FSorted; decide⟩
theorem witness_StrokeInputCommandsComplete_4 : ∃ (s : State) (i : Input), s.stk.active = some i ∧ inputLocked s (otherInput i) = true := ⟨locked, .a, by decide⟩
theorem witness_StrokeInputCommandsComplete_5 : ∃ (s : State) , isSet s Reg.STK_CTRL_REVERT = true ∧ s.stk.active = some (otherInput (preferred s)) ∧ inputLocked s (preferred s) = true ∧ (inputOf s (preferred s)).lockedAt + 10000 ≤ s.stk.ext ∧ s.stk.activeSince + 10000 ≤ s.stk.ext ∧ s.stk.preferAt + 10000 ≤ s.stk.ext := ⟨setR [(Reg.STK_CTRL_REVERT, 1), (Reg.STK_CTRL_PREFER, 1)] { locked with stk := { locked.stk with ext := 100000 } }, by decide⟩
theorem witness_StrokeInputCommandsComplete_6 : ∃ (s : State) , Canonical s ∧ s.stk.released = true ∧ s.stk.lockSeen = false ∧ 100000 ≤ s.stk.sinceRelease := ⟨{ up with stk := { up.stk with sinceRelease := 100000 } }, by unfold Canonical FSorted; decide⟩
theorem witness_StrokeClockCommandsComplete_1 : ∃ (s : State) (e : EdgeInfo), s.stk.released = true ∧ s.stk.mid = false ∧ e.part = .whole ∧ s.stk.ext < 18446744073709551615 := ⟨mb9, ei9, by decide⟩
theorem witness_StrokeClockCommandsComplete_2 : ∃ (s : State) (e : EdgeInfo), s.stk.released = true ∧ s.stk.mid = false ∧ e.part = .counts ∧ s.stk.ext < 18446744073709551615 := ⟨mb9, { ei9 with part := .counts }, by decide⟩
theorem witness_StrokeClockCommandsComplete_3 : ∃ (s : State) (_e : EdgeInfo), s.stk.released = true ∧ s.stk.mid = true := ⟨{ mb9 with stk := { mb9.stk with mid := true } }, { ei9 with part := .rest }, by decide⟩
theorem witness_StrokeClockCommandsComplete_4 : ∃ (s : State) (elapsed : Nat), Canonical s ∧ s.stk.released = true ∧ inputLocked s .a = false ∧ inputLocked s .b = false ∧ isSet s Reg.STK_STATUS_HOLDOVER = false ∧ 3 * period s < 256 * elapsed := ⟨setR [(Reg.STK_STATUS_HOLDOVER, 0)] up, 30001, by unfold Canonical FSorted; decide⟩
theorem witness_StrokeClockCommandsComplete_5 : ∃ (s : State) (i v : Nat), 4 ≤ i ∧ i < 8 ∧ (i ≠ 5 ∨ 5000 ≤ v) ∧ (v = 0 ∨ schedNext s (Reg.STK_SCHED_PHASE_STROKES i) < v) := ⟨mb9, 5, 5000, by decide⟩
theorem witness_StrokeClockCommandsComplete_6 : ∃ (s : State) (i v : Nat), 4 ≤ i ∧ i < 8 ∧ (schedNext s (Reg.STK_SCHED_INTERVAL_STROKES i) = 0 ∨ v < schedNext s (Reg.STK_SCHED_INTERVAL_STROKES i)) := ⟨mb9, 5, 4999, by decide⟩
theorem witness_StrokeClockCommandsComplete_7 : ∃ (s : State) (i v : Nat), Canonical s ∧ 4 ≤ i ∧ i < 8 ∧ schedNext s (Reg.STK_SCHED_INTERVAL_STROKES i) ≠ 0 ∧ schedNext s (Reg.STK_SCHED_INTERVAL_STROKES i) ≤ v := ⟨mb9, 4, 9, by unfold Canonical FSorted; decide⟩
theorem witness_CoxCommandsComplete_1 : ∃ (s : State) (_gap : Nat), Canonical s ∧ s.boot.halted = false ∧ coxRuns s = true ∧ s.upd.step < 4 ∧ isSet s Reg.MBX_COX_STANDBY_READY = true ∧ (∀ e ∈ s.mbx.slots, e.2.st ≠ .running) := ⟨setR [(Reg.MBX_COX_STANDBY_READY, 1)] mb9, 300, by unfold Canonical FSorted; decide⟩
theorem witness_CoxCommandsComplete_2 : ∃ (s : State) (_gap : Nat), s.boot.halted = false ∧ coxRuns s = true ∧ s.upd.step < 4 ∧ s.cox.active ≠ 0 ∧ isSet s Reg.MBX_COX_STANDBY_READY = false := ⟨{ mb9 with cox := { mb9.cox with active := 1, standby := 0 } }, 300, by decide⟩

end D02

namespace D03



theorem witness_FramesComplete_1 : ∃ (s : State) (seat sub len src : Nat) (svc : FrameSvc), Canonical s ∧ Runs s ∧ feOpen s seat = true ∧ sub < subPorts s seat ∧ len ≤ 9216 ∧ svc ≠ .unsupported ∧ isBlocked s seat src = false := ⟨fup, 0, 0, 64, 9, .roce, by unfold Canonical Runs FSorted; decide⟩
theorem witness_FramesComplete_2 : ∃ (s : State) (seat sub len src : Nat) (svc : FrameSvc), Canonical s ∧ Runs s ∧ feOpen s seat = true ∧ sub < subPorts s seat ∧ (9216 < len ∨ svc = .unsupported ∨ isBlocked s seat src = true) := ⟨fup, 0, 0, 9217, 9, .roce, by unfold Canonical Runs FSorted; decide⟩
theorem witness_FramesComplete_3 : ∃ (s : State) (seat sub _on _off : Nat), Runs s ∧ subUp s seat sub = true ∧ FSorted s.fe.paused ∧ (∀ e ∈ s.fe.qps, e.2.outq = [] ∧ e.2.reading = []) ∧ (∀ e ∈ s.nv.cmds, e.2.toPull = 0) ∧ (∀ e ∈ s.rds.units, e.2.stage ≠ .placing) := ⟨setR [(Reg.FE_PFC_EN_PRIO 0, 7)] fup, 0, 0, 12, 1, by unfold Runs FSorted; decide⟩
theorem witness_FramesComplete_4 : ∃ (s : State) (seat sub : Nat), Canonical s ∧ Runs s ∧ subUp s seat sub = true := ⟨fup, 0, 0, by unfold Canonical Runs FSorted; decide⟩
theorem witness_FramesComplete_5 : ∃ (s : State) (seat qp _len _sinceCnp : Nat) (op : RoceOp) (_ce : Bool) (x : Qp), Canonical s ∧ Runs s ∧ op.supported = true ∧ qpLive s seat qp = some x ∧ x.outq = [] ∧ x.subport < 4 ∧ subUp s seat x.subport = true ∧ isBlocked s seat x.src = false := ⟨one qp0, 0, 5, 64, 10000, .write, true, qp0, by unfold Canonical Runs FSorted; decide⟩
theorem witness_FramesComplete_6 : ∃ (s : State) (seat qp _len _sinceCnp : Nat) (op : RoceOp) (_ce : Bool) (x : Qp), Runs s ∧ op.supported = false ∧ qpLive s seat qp = some x ∧ subUp s seat x.subport = true ∧ isBlocked s seat x.src = false := ⟨one qp0, 0, 5, 64, 10000, .atomic, true, qp0, by unfold Runs; decide⟩
theorem witness_FramesComplete_7 : ∃ (s : State) (seat qp _bytes : Nat) (x : Qp), Runs s ∧ qpLive s seat qp = some x ∧ subUp s seat x.subport = true ∧ isBlocked s seat x.src = false ∧ x.outq = [] ∧ (∀ e ∈ s.nv.cmds, e.2.qp ≠ qp) := ⟨one qp0, 0, 5, 8192, qp0, by unfold Runs; decide⟩
theorem witness_FramesComplete_8 : ∃ (s : State) (seat qp : Nat) (kind : AckKind) (x : Qp), Canonical s ∧ Runs s ∧ qpLive s seat qp = some x ∧ subUp s seat x.subport = true ∧ isBlocked s seat x.src = false ∧ (kind = .rnr ∧ x.rnrs < x.rnrMax ∨ kind = .sequence ∧ x.retries < x.retryMax) ∧ (∀ e ∈ s.nv.cmds, e.2.qp ≠ qp) := ⟨one qp0, 0, 5, .rnr, qp0, by unfold Canonical Runs FSorted; decide⟩
theorem witness_FramesComplete_9 : ∃ (s : State) (seat qp : Nat) (kind : AckKind) (x : Qp), Runs s ∧ qpLive s seat qp = some x ∧ subUp s seat x.subport = true ∧ isBlocked s seat x.src = false ∧ (kind = .invalidRequest ∨ kind = .remoteAccess ∨ kind = .remoteOperation ∨ kind = .rnr ∧ x.rnrMax ≤ x.rnrs ∨ kind = .sequence ∧ x.retryMax ≤ x.retries) := ⟨one qp0, 0, 5, .remoteAccess, qp0, by unfold Runs; decide⟩
theorem witness_FramesComplete_10 : ∃ (s : State) (seat qp : Nat) (x : Qp), Canonical s ∧ Runs s ∧ qpLive s seat qp = some x ∧ x.unacked + x.requested ≠ 0 ∧ x.retries < x.retryMax := ⟨one qp0, 0, 5, qp0, by unfold Canonical Runs FSorted; decide⟩
theorem witness_FramesComplete_11 : ∃ (s : State) (seat qp : Nat) (x : Qp), Runs s ∧ qpLive s seat qp = some x ∧ x.unacked + x.requested ≠ 0 ∧ x.retryMax ≤ x.retries := ⟨one { qp0 with retries := 7 }, 0, 5, { qp0 with retries := 7 }, by unfold Runs; decide⟩
theorem witness_FramesComplete_12 : ∃ (s : State) (seat qp : Nat) (x : Qp), Canonical s ∧ Runs s ∧ qpLive s seat qp = some x ∧ subUp s seat x.subport = true ∧ isBlocked s seat x.src = false ∧ x.decreased = false ∧ rd s (Reg.FE_CC_MD seat) ≠ 0 := ⟨one qp0, 0, 5, qp0, by unfold Canonical Runs FSorted; decide⟩
theorem witness_ConnectionsComplete_1 : ∃ (s : State) (seat src sub _mtu _pd q : Nat), Canonical s ∧ Runs s ∧ handsOver s seat = false ∧ subUp s seat sub = true ∧ isSet s (Reg.FE_PORT_STATUS_OPEN seat) = true ∧ isBlocked s seat src = false ∧ ((fgetD s.fe.cmReqs (pairKey seat src) []).filter fun n => s.stk.ext < n + 1000).length < rd s (Reg.FE_CM_RATE_COUNT seat) ∧ q < 16384 ∧ qpOf s seat q = none ∧ (∀ p < q, qpOf s seat p ≠ none) := ⟨fup, 0, 9, 0, 4096, 0, 0, by unfold Canonical Runs FSorted; decide⟩
theorem witness_ConnectionsComplete_2 : ∃ (s : State) (seat _src _sub _mtu _pd : Nat), Runs s ∧ handsOver s seat = true := ⟨{ fup with upd := { fup.upd with st := .activating, step := 2, handed := [] } }, 7, 9, 0, 4096, 0, by unfold Runs; decide⟩
theorem witness_ConnectionsComplete_3 : ∃ (s : State) (seat qp : Nat) (x : Qp), Runs s ∧ qpOf s seat qp = some x ∧ subUp s seat x.subport = true ∧ isBlocked s seat x.src = false ∧ x.ours = true ∧ x.st = .connecting := ⟨one { qp0 with ours := true, st := .connecting }, 0, 5, { qp0 with ours := true, st := .connecting }, by unfold Runs; decide⟩
theorem witness_ConnectionsComplete_4 : ∃ (s : State) (seat qp : Nat) (x : Qp), Runs s ∧ qpOf s seat qp = some x ∧ subUp s seat x.subport = true ∧ isBlocked s seat x.src = false ∧ x.ours = false ∧ x.st = .connecting := ⟨one { qp0 with st := .connecting }, 0, 5, { qp0 with st := .connecting }, by unfold Runs; decide⟩
theorem witness_ConnectionsComplete_5 : ∃ (s : State) (seat qp : Nat) (x : Qp), Runs s ∧ qpOf s seat qp = some x ∧ subUp s seat x.subport = true ∧ isBlocked s seat x.src = false ∧ x.ours = true ∧ x.st = .connecting ∧ FSorted s.fe.qps := ⟨one { qp0 with ours := true, st := .connecting }, 0, 5, { qp0 with ours := true, st := .connecting }, by unfold Runs FSorted; decide⟩
theorem witness_ConnectionsComplete_6 : ∃ (s : State) (seat qp : Nat) (x : Qp), Runs s ∧ qpOf s seat qp = some x ∧ subUp s seat x.subport = true ∧ isBlocked s seat x.src = false ∧ FSorted s.fe.qps := ⟨one qp0, 0, 5, qp0, by unfold Runs FSorted; decide⟩
theorem witness_ConnectionsComplete_7 : ∃ (s : State) (seat qp : Nat) (x : Qp), Runs s ∧ qpOf s seat qp = some x ∧ subUp s seat x.subport = true ∧ isBlocked s seat x.src = false ∧ x.st = .draining ∧ FSorted s.fe.qps := ⟨one { qp0 with st := .draining }, 0, 5, { qp0 with st := .draining }, by unfold Runs FSorted; decide⟩
theorem witness_ConnectionsComplete_8 : ∃ (s : State) (seat qp rkey addr len i : Nat) (x : Qp) (m : Mr), Runs s ∧ qpLive s seat qp = some x ∧ subUp s seat x.subport = true ∧ isBlocked s seat x.src = false ∧ mrMatch s x rkey addr len true = some (i, m) ∧ x.writing.all (fun e => e.1 != i) = true := ⟨one qp0, 0, 5, 2 * 256 + 17, 4096, 64, 2, qp0, mr0, by unfold Runs; decide⟩
theorem witness_ConnectionsComplete_9 : ∃ (s : State) (seat qp rkey addr len : Nat) (x : Qp), Runs s ∧ qpLive s seat qp = some x ∧ subUp s seat x.subport = true ∧ isBlocked s seat x.src = false ∧ mrMatch s x rkey addr len true = none := ⟨one qp0, 0, 5, 2 * 256 + 18, 4096, 64, qp0, by unfold Runs; decide⟩
theorem witness_ConnectionsComplete_10 : ∃ (s : State) (seat qp i : Nat) (x : Qp) (m : Mr), Canonical s ∧ Runs s ∧ qpLive s seat qp = some x ∧ subUp s seat x.subport = true ∧ isBlocked s seat x.src = false ∧ x.writing = some (i, m.cur.epoch) ∧ fget s.fe.mrs i = some m ∧ x.outq = [] := ⟨one { qp0 with writing := some (2, 3) }, 0, 5, 2, { qp0 with writing := some (2, 3) }, mr0, by unfold Canonical Runs FSorted; decide⟩
theorem witness_ConnectionsComplete_11 : ∃ (s : State) (seat qp rkey addr len i : Nat) (_again : Bool) (x : Qp) (m : Mr), Canonical s ∧ Runs s ∧ qpLive s seat qp = some x ∧ subUp s seat x.subport = true ∧ isBlocked s seat x.src = false ∧ mrMatch s x rkey addr len false = some (i, m) ∧ x.outq = [] ∧ x.reading = [] ∧ txPaused s seat qp x = false := ⟨one qp0, 0, 5, 2 * 256 + 17, 4096, 64, 2, true, qp0, mr0, by unfold Canonical Runs FSorted; decide⟩
theorem witness_ConnectionsComplete_12 : ∃ (s : State) (slot index _tag pd _base len : Nat) (_remRead _remWrite : Bool), CmdReady slot Opc.mrRegister s ∧ 0 < pd ∧ pd < 4096 ∧ index < 262144 ∧ 0 < len ∧ fget s.fe.mrs index = none := ⟨cmdIn Opc.mrRegister up, 3, 9, 17, 7, 4096, 512, true, false, by unfold CmdReady; decide⟩
theorem witness_ConnectionsComplete_13 : ∃ (s : State) (slot index : Nat) (m : Mr), CmdReady slot Opc.mrInvalidate s ∧ fget s.fe.mrs index = some m ∧ m.prev = none := ⟨cmdIn Opc.mrInvalidate (one qp0), 3, 2, mr0, by unfold CmdReady; decide⟩
theorem witness_ConnectionsComplete_14 : ∃ (s : State) (seat src n : Nat), Runs s ∧ fget s.fe.blocked (pairKey seat src) = some n ∧ n ≤ s.stk.ext ∧ FSorted s.fe.blocked := ⟨{ fup with fe := { fup.fe with blocked := [(pairKey 0 9, 65536)] } }, 0, 9, 65536, by unfold Runs FSorted; decide⟩
theorem witness_ConnectionsComplete_15 : ∃ (s : State) (seat value : Nat) (x : Qp), Canonical s ∧ Runs s ∧ seat < s.hw.seats ∧ qpOf s seat (value % 16384) = some x := ⟨one qp0, 0, 5, qp0, by unfold Canonical Runs FSorted; decide⟩

end D03

namespace D04



theorem witness_AdminCommandsComplete_1 : ∃ (s : State) (seat qp cid _nsid c sub : Nat) (cap : Capsule) (y : Ctrl) (x : Subsys), Canonical s ∧ AdminAt seat qp cid c y s ∧ capCheck cap true 4096 false = none ∧ y.subsys = some sub ∧ fget s.nv.subsys sub = some x ∧ Runs s := ⟨nvs, 0, 5, 9, 1, 0, 1, cap0, ct, ⟨1, 600, [44]⟩, by unfold Canonical AdminAt Hears Runs FSorted; decide⟩
theorem witness_AdminCommandsComplete_2 : ∃ (s : State) (seat qp cid nsid c : Nat) (cap : Capsule) (y : Ctrl), Canonical s ∧ AdminAt seat qp cid c y s ∧ capCheck cap true 4096 false = none ∧ nsFor s y nsid = none ∧ Runs s := ⟨nvs, 0, 5, 9, 2, 0, cap0, ct, by unfold Canonical AdminAt Hears Runs FSorted; decide⟩
theorem witness_AdminCommandsComplete_3 : ∃ (s : State) (seat qp cid _cns _nsid c : Nat) (cap : Capsule) (y : Ctrl), Canonical s ∧ AdminAt seat qp cid c y s ∧ cap.sglTypeOk = false ∧ Runs s := ⟨nvs, 0, 5, 9, 1, 1, 0, { cap0 with sglTypeOk := false }, ct, by unfold Canonical AdminAt Hears Runs FSorted; decide⟩
theorem witness_AdminCommandsComplete_4 : ∃ (s : State) (seat qp cid c : Nat) (cap : Capsule) (y : Ctrl), Canonical s ∧ AdminAt seat qp cid c y s ∧ capCheck cap true 1 false = none ∧ y.subsys.isSome = true ∧ Runs s := ⟨nvs, 0, 5, 9, 0, cap0, ct, by unfold Canonical AdminAt Hears Runs FSorted; decide⟩
theorem witness_AdminCommandsComplete_5 : ∃ (s : State) (seat qp cid c : Nat) (cap : Capsule) (y : Ctrl), Canonical s ∧ AdminAt seat qp cid c y s ∧ capCheck cap true 1 false = none ∧ y.subsys.isSome = true ∧ Runs s := ⟨nvs, 0, 5, 9, 0, cap0, ct, by unfold Canonical AdminAt Hears Runs FSorted; decide⟩
theorem witness_AdminCommandsComplete_6 : ∃ (s : State) (seat qp cid fid c v : Nat) (cap : Capsule) (y : Ctrl), Canonical s ∧ AdminAt seat qp cid c y s ∧ capCheck cap false 0 false = none ∧ (fget y.features fid = some v ∧ fid ≠ 0x0F ∨ fid = 0x0F ∧ v = y.kato) ∧ Runs s := ⟨nvs, 0, 5, 9, 0x0F, 0, 5000, cap0, ct, by unfold Canonical AdminAt Hears Runs FSorted; decide⟩
theorem witness_AdminCommandsComplete_7 : ∃ (s : State) (seat qp cid _fid _value c : Nat) (cap : Capsule) (y : Ctrl), Canonical s ∧ AdminAt seat qp cid c y s ∧ capCheck cap false 0 false = none ∧ Runs s := ⟨nvs, 0, 5, 9, 0x0F, 700, 0, cap0, ct, by unfold Canonical AdminAt Hears Runs FSorted; decide⟩
theorem witness_AdminCommandsComplete_8 : ∃ (s : State) (seat qp cid c : Nat) (cap : Capsule) (y : Ctrl), Canonical s ∧ AdminAt seat qp cid c y s ∧ capCheck cap false 0 false = none ∧ Runs s := ⟨nvs, 0, 5, 9, 0, cap0, ct, by unfold Canonical AdminAt Hears Runs FSorted; decide⟩
theorem witness_AdminCommandsComplete_9 : ∃ (s : State) (seat qp cid c : Nat) (cap : Capsule) (y : Ctrl), Canonical s ∧ AdminAt seat qp cid c y s ∧ capCheck cap false 0 false = none ∧ Runs s := ⟨nvs, 0, 5, 9, 0, cap0, ct, by unfold Canonical AdminAt Hears Runs FSorted; decide⟩
theorem witness_AdminCommandsComplete_10 : ∃ (s : State) (seat qp cid target c : Nat) (cap : Capsule) (y : Ctrl), Canonical s ∧ AdminAt seat qp cid c y s ∧ capCheck cap false 0 false = none ∧ y.aers.contains target = true ∧ Runs s := ⟨nvs, 0, 5, 9, 31, 0, cap0, ct, by unfold Canonical AdminAt Hears Runs FSorted; decide⟩
theorem witness_AdminCommandsComplete_11 : ∃ (s : State) (seat qp cid sq target c : Nat) (cap : Capsule) (y : Ctrl), Canonical s ∧ AdminAt seat qp cid c y s ∧ capCheck cap false 0 false = none ∧ (sq ≠ qp ∨ y.aers.contains target = false) ∧ (∀ e ∈ s.nv.cmds, e.2.seat = seat → e.2.qp = sq → e.2.cid ≠ target) ∧ Runs s := ⟨nvs, 0, 5, 9, 6, 3, 0, cap0, ct, by unfold Canonical AdminAt Hears Runs FSorted; decide⟩
theorem witness_AdminCommandsComplete_12 : ∃ (s : State) (seat qp cid off c v : Nat) (cap : Capsule) (y : Ctrl), Canonical s ∧ AdminAt seat qp cid c y s ∧ capCheck cap false 0 false = none ∧ fget y.props off = some v ∧ Runs s := ⟨{ nvs with nv := { nvs.nv with ctrls := [(pairKey 0 0, { ct with props := [(20, 4)] })] } }, 0, 5, 9, 20, 0, 4, cap0, { ct with props := [(20, 4)] }, by unfold Canonical AdminAt Hears Runs FSorted; decide⟩
theorem witness_AdminCommandsComplete_13 : ∃ (s : State) (seat qp cid _off _value c : Nat) (cap : Capsule) (y : Ctrl), Canonical s ∧ AdminAt seat qp cid c y s ∧ capCheck cap false 0 false = none ∧ Runs s := ⟨nvs, 0, 5, 9, 20, 1, 0, cap0, ct, by unfold Canonical AdminAt Hears Runs FSorted; decide⟩
theorem witness_QueuesComplete_1 : ∃ (s : State) (seat qp _cid _qid nqn host _kato n : Nat) (cap : Capsule) (x : Qp) (sub : Option Nat), Runs s ∧ qpLive s seat qp = some x ∧ subUp s seat x.subport = true ∧ isBlocked s seat x.src = false ∧ x.st = .ready ∧ x.ctrl = none ∧ x.pd = 0 ∧ capCheck cap true 1024 true = none ∧ connectTo s nqn host x.src = some sub ∧ n < 4096 ∧ ctrlOf s seat n = none ∧ (∀ p < n, ctrlOf s seat p ≠ none) := ⟨nvs, 0, 7, 9, 0, 600, 44, 5000, 1, cap0, { qi with ctrl := none }, some 1, by unfold Runs; decide⟩
theorem witness_QueuesComplete_2 : ∃ (s : State) (seat qp _cid _qid nqn host _kato n sub : Nat) (cap : Capsule) (x : Qp) (y : Ctrl), Runs s ∧ qpLive s seat qp = some x ∧ subUp s seat x.subport = true ∧ isBlocked s seat x.src = false ∧ x.st = .ready ∧ x.ctrl = none ∧ x.pd = 0 ∧ capCheck cap true 1024 true = none ∧ connectTo s nqn host x.src = some (some sub) ∧ ctrlOf s seat n = some y ∧ y.host = host ∧ y.subsys = some sub ∧ y.ioQps.length < 128 := ⟨nvs, 0, 7, 9, 1, 600, 44, 5000, 0, 1, cap0, { qi with ctrl := none }, ct, by unfold Runs; decide⟩
theorem witness_QueuesComplete_3 : ∃ (s : State) (seat qp _cid c : Nat) (cap : Capsule) (x : Qp) (y : Ctrl), Runs s ∧ qpLive s seat qp = some x ∧ subUp s seat x.subport = true ∧ isBlocked s seat x.src = false ∧ x.st = .ready ∧ x.admin = false ∧ ctrlOfQp s seat qp = some (c, y) ∧ capCheck cap false 0 false = none := ⟨nvs, 0, 6, 9, 0, cap0, qi, ct, by unfold Runs; decide⟩
theorem witness_QueuesComplete_4 : ∃ (s : State) (seat qp _cid _opcode : Nat) (x : Qp), Canonical s ∧ Runs s ∧ qpLive s seat qp = some x ∧ subUp s seat x.subport = true ∧ isBlocked s seat x.src = false ∧ x.st = .ready ∧ x.ctrl.isSome = true := ⟨nvs, 0, 6, 9, 0x99, qi, by unfold Canonical Runs FSorted; decide⟩
theorem witness_QueuesComplete_5 : ∃ (s : State) (seat ctrl kaCount : Nat) (y : Ctrl), Runs s ∧ ctrlOf s seat ctrl = some y ∧ y.kaCount = kaCount ∧ y.kato ≠ 0 ∧ FSorted s.nv.ctrls := ⟨nvs, 0, 0, 2, ct, by unfold Runs FSorted; decide⟩
theorem witness_QueuesComplete_6 : ∃ (s : State) (seat id cls : Nat) (c : Cmd) (a : Arb) (n : Ns) (x : Qp), Canonical s ∧ Runs s ∧ arbPick s seat = some (id, c, cls, a) ∧ cmdOf s id = some c ∧ c.op = .flush ∧ nsOf s c.nsid = some n ∧ cmdRefused s c = none ∧ qpOf s c.seat c.qp = some x ∧ x.st = .ready ∧ (∀ p ∈ s.nv.pushq, p.seat = c.seat → p.qp ≠ c.qp) ∧ FSorted s.nv.cmds := ⟨nvc .flush 0 0, 0, 0, 1, cmd0 .flush 0 0, ((arbPick (nvc .flush 0 0) 0).map (fun r => r.2.2.2)).getD arbReset, ns0, qi, by unfold Canonical Runs FSorted; decide⟩
theorem witness_IoCommandsArrive_1 : ∃ (s : State) (seat qp cid nsid _lba _count : Nat) (_cap : Capsule), IoAt seat qp cid nsid s ∧ Runs s := ⟨nvs, 0, 6, 9, 1, 0, 1, cap0, by unfold IoAt Hears Runs; decide⟩
theorem witness_IoCommandsArrive_2 : ∃ (s : State) (seat qp cid nsid _lba _count : Nat) (_cap : Capsule), IoAt seat qp cid nsid s ∧ Runs s := ⟨nvs, 0, 6, 9, 1, 0, 1, cap0, by unfold IoAt Hears Runs; decide⟩
theorem witness_IoCommandsArrive_3 : ∃ (s : State) (seat qp cid nsid _lba _count : Nat) (_cap : Capsule), IoAt seat qp cid nsid s ∧ Runs s := ⟨nvs, 0, 6, 9, 1, 0, 1, cap0, by unfold IoAt Hears Runs; decide⟩
theorem witness_IoCommandsArrive_4 : ∃ (s : State) (seat qp cid nsid : Nat) (_cap : Capsule), IoAt seat qp cid nsid s ∧ Runs s := ⟨nvs, 0, 6, 9, 1, cap0, by unfold IoAt Hears Runs; decide⟩
theorem witness_IoCommandsArrive_5 : ∃ (s : State) (seat qp cid nsid : Nat) (_ranges : List (Nat × Nat)) (_cap : Capsule), IoAt seat qp cid nsid s ∧ Runs s := ⟨nvs, 0, 6, 9, 1, [(0, 1)], cap0, by unfold IoAt Hears Runs; decide⟩
theorem witness_IoCommandsArrive_6 : ∃ (s : State) (seat qp cid nsid _lba _count : Nat) (_cap : Capsule), IoAt seat qp cid nsid s ∧ Runs s := ⟨nvs, 0, 6, 9, 1, 0, 1, cap0, by unfold IoAt Hears Runs; decide⟩
theorem witness_IoCommandsArrive_7 : ∃ (s : State) (seat qp cid nsid _lba _count : Nat) (_cap : Capsule), IoAt seat qp cid nsid s ∧ Runs s := ⟨nvs, 0, 6, 9, 1, 0, 1, cap0, by unfold IoAt Hears Runs; decide⟩
theorem witness_IoCommandsArrive_8 : ∃ (s : State) (seat qp cid nsid _lba _action : Nat) (_cap : Capsule), IoAt seat qp cid nsid s ∧ Runs s := ⟨nvs, 0, 6, 9, 1, 0, 4, cap0, by unfold IoAt Hears Runs; decide⟩
theorem witness_IoCommandsArrive_9 : ∃ (s : State) (seat qp cid nsid _lba : Nat) (_cap : Capsule), IoAt seat qp cid nsid s ∧ Runs s := ⟨nvs, 0, 6, 9, 1, 0, cap0, by unfold IoAt Hears Runs; decide⟩
theorem witness_IoCommandsArrive_10 : ∃ (s : State) (seat qp cid nsid _mo _value : Nat) (_cap : Capsule), IoAt seat qp cid nsid s ∧ Runs s := ⟨nvs, 0, 6, 9, 1, 1, 3, cap0, by unfold IoAt Hears Runs; decide⟩
theorem witness_IoCommandsArrive_11 : ∃ (s : State) (seat qp cid nsid _mo : Nat) (_cap : Capsule), IoAt seat qp cid nsid s ∧ Runs s := ⟨nvs, 0, 6, 9, 1, 1, cap0, by unfold IoAt Hears Runs; decide⟩

end D04

namespace D05

def ftc : Cmd := { cw .working with p := { npw with flashThrough := true } }
def ftg : Grp := { grp0 with recs := [{ delta .extent 1 0 3 0 with record := some ⟨512, 12, 0, 0, 1, 1, 0, 0⟩ }] }
def fts : State := { rowS (row0 .opened) with nv := { nvs.nv with cmds := [(0, ftc)] }, ing := { nvs.ing with grps := [(pairKey 0 0, ftg)] }, par := { nvs.par with groups := [(0, gp [(0, row0 .opened)])], exts := [(512, { ext0 with handle := 3, lba := 0, appended := 60000 })] } }
def zb : Blk := { blk0 .moving with looking := false, job := false }

theorem witness_IngestCommandsComplete_1 : ∃ (s : State) (nsid granule id : Nat) (rest : List Nat) (c : Cmd), Canonical s ∧ Runs s ∧ fget s.ing.locks (lockKey nsid granule) = some (none, id :: rest) ∧ cmdOf s id = some c ∧ c.op = .write ∧ c.stage = .locking ∧ c.cap.inCapsule = false ∧ locksHeld { s with ing := { s.ing with locks := fset s.ing.locks (lockKey nsid granule) (some id, rest) } } id = true := ⟨{ wip .locking (blk0 .wanted) with ing := { nvs.ing with locks := [(lockKey 1 0, (none, [0]))] } }, 1, 0, 0, [], cw .locking, by unfold Canonical Runs FSorted; decide⟩
theorem witness_IngestCommandsComplete_2 : ∃ (s : State) (cmd idx data : Nat) (_md : Md) (c : Cmd) (b : Blk) (x : Qp), Canonical s ∧ Runs s ∧ cmdOf s cmd = some c ∧ blkOf s cmd idx = some b ∧ b.stage = .wanted ∧ idx < c.count - c.toPull ∧ data ≠ 0 ∧ c.p.pi = 0 ∧ c.p.zoned = false ∧ c.p.dedup = true ∧ c.failed = none ∧ c.seat < 8 ∧ qpLive s c.seat c.qp = some x ∧ subUp s c.seat x.subport = true ∧ isBlocked s c.seat x.src = false := ⟨wip .working (blk0 .wanted), 0, 0, 7, ⟨3, 0, 0, 0⟩, cw .working, blk0 .wanted, qi, by unfold Canonical Runs FSorted; decide⟩
theorem witness_IngestCommandsComplete_3 : ∃ (s : State) (cmd idx : Nat) (c : Cmd) (b : Blk), Runs s ∧ cmdOf s cmd = some c ∧ blkOf s cmd idx = some b ∧ b.looking = true ∧ b.job = true ∧ slotHas s c.seat (slotKey 1 c.p.domain 0) = true ∧ fpFind (fpSet s c.seat (blkFp s c b)) (blkFp s c b) c.p.tenant = none := ⟨wip .working (blk0 .landed), 0, 0, cw .working, blk0 .landed, by unfold Runs; exact ⟨by decide, by decide, by decide, by decide, by decide, by decide, rfl⟩⟩
theorem witness_IngestCommandsComplete_4 : ∃ (s : State) (cmd idx : Nat) (_verifyOk : Bool) (c : Cmd) (b : Blk), Runs s ∧ cmdOf s cmd = some c ∧ blkOf s cmd idx = some b ∧ b.looking = true ∧ b.job = true := ⟨wip .working (blk0 .landed), 0, 0, true, cw .working, blk0 .landed, by unfold Runs; decide⟩
theorem witness_IngestCommandsComplete_5 : ∃ (s : State) (cmd idx : Nat) (b : Blk), Runs s ∧ blkOf s cmd idx = some b ∧ b.stage = .moving := ⟨wip .working zb, 0, 0, zb, by unfold Runs; decide⟩
theorem witness_IngestCommandsComplete_6 : ∃ (s : State) (seat num _lat : Nat) (g : Grp) (c : Cmd) (x : Qp), Runs s ∧ s.pair.st = .paired ∧ fget s.ing.grps (pairKey seat num) = some g ∧ cmdOf s g.cmd = some c ∧ c.groups = [num] ∧ g.complete = true ∧ g.acked = true ∧ c.failed = none ∧ c.left = 0 ∧ groupSeat s c = seat ∧ c.op = .write ∧ g.hi = c.count ∧ c.p.zoned = false ∧ c.assigned = none ∧ (entLines s c g).any (lineLeft seat num s) = false ∧ (recLines s c g).any (lineLeft seat num s) = false ∧ (g.recs.any fun d => (deltaLbas d).any fun n => tagThrottled s c.nsid n) = false ∧ qpOf s c.seat c.qp = some x ∧ x.st = .ready := ⟨{ wip .working (blk0 .done) with pair := { nvs.pair with st := .paired }, nv := { nvs.nv with cmds := [(0, { cw .working with left := 0 })] } }, 0, 0, 9, grp0, { cw .working with left := 0 }, qi, by unfold Runs; decide⟩
theorem witness_IngestCommandsComplete_7 : ∃ (s : State) (pool row : Nat) (r : Row) (g : Group), Runs s ∧ groupOf s pool = some g ∧ fget g.rows row = some r ∧ (fget g.bands (bandOf g row)).isSome = true ∧ r.st = .opened ∧ s.pair.st = .solo ∧ rowWaited s pool row (max 1 (rd s (Reg.CAT_FT_CLOSE_STROKES r.seat))) = true := ⟨fts, 0, 0, row0 .opened, gp [(0, row0 .opened)], by unfold Runs; decide⟩
theorem witness_IngestCommandsComplete_8 : ∃ (s : State) (pool row : Nat) (r : Row) (g : Group), Runs s ∧ groupOf s pool = some g ∧ fget g.rows row = some r ∧ (fget g.bands (bandOf g row)).isSome = true ∧ r.st = .opened ∧ softNow s r.seat = true ∧ r.lastAppend + rd s (Reg.CAT_SOFT_IDLE r.seat) ≤ s.stk.ext := ⟨{ rowS (row0 .opened) with ing := { nvs.ing with dirty := [(0, 2 ^ 50)] } }, 0, 0, row0 .opened, gp [(0, row0 .opened)], by unfold Runs; decide⟩
theorem witness_DictionaryCommandsComplete_1 : ∃ (s : State) (slot dict tenant size id _content : Nat) (system : Bool), Canonical s ∧ CmdReady slot Opc.dictLoad s ∧ readsOut s slot = false ∧ dict < 256 ∧ (system = true ∨ fhas s.nv.tenants tenant = true) ∧ 0 < size ∧ size ≤ 65536 ∧ id = 32768 + dict ∧ dictRefs s dict = 0 ∧ isSet s (Reg.CMP_DICT_LOADED 0 dict) = false ∧ 0 < s.hw.seats := ⟨cmdIn Opc.dictLoad nvs, 3, 7, 1, 4096, 32775, 55, false, by unfold Canonical CmdReady FSorted; decide⟩
theorem witness_DictionaryCommandsComplete_2 : ∃ (s : State) (slot dict tenant size id _content : Nat) (system : Bool), CmdReady slot Opc.dictLoad s ∧ readsOut s slot = false ∧ dict < 256 ∧ (system = true ∨ fhas s.nv.tenants tenant = true) ∧ 0 < size ∧ size ≤ 65536 ∧ id = 32768 + dict ∧ isSet s (Reg.CMP_DICT_LOADED 0 dict) = true := ⟨cmdIn Opc.dictLoad (setR [(Reg.CMP_DICT_LOADED 0 7, 1)] nvs), 3, 7, 1, 4096, 32775, 55, false, by unfold CmdReady; decide⟩
theorem witness_DictionaryCommandsComplete_3 : ∃ (s : State) (slot dict : Nat), Canonical s ∧ CmdReady slot Opc.dictRetire s ∧ dict < 256 ∧ isSet s (Reg.CMP_DICT_LOADED 0 dict) = true ∧ fhas s.ing.retiring dict = false ∧ 0 < s.hw.seats ∧ FSorted s.ing.dicts := ⟨cmdIn Opc.dictRetire (setR [(Reg.CMP_DICT_LOADED 0 7, 1)] nvs), 3, 7, by unfold Canonical CmdReady FSorted; decide⟩
theorem witness_DictionaryCommandsComplete_4 : ∃ (s : State) (slot nsid _count : Nat) (n : Ns), CmdReady slot Opc.dictSample s ∧ nsOf s nsid = some n ∧ ownsSide s n.cur.p.side = true ∧ s.pci.bme = true := ⟨cmdIn Opc.dictSample nvs, 3, 1, 16, ns0, by unfold CmdReady; decide⟩

end D05

namespace D06

def lineS : State := { nvs with map := { nvs.map with tc := [(0, ⟨1, [], [(2, ⟨77, 0, 0, false⟩)]⟩)] } }
def dlogS : State := { nvs with map := { nvs.map with dlog := [⟨0, 4, [], false⟩, ⟨0, 5, [], false⟩] } }
def vic (g : Group) : Group := { g with victim := some 0, gcActive := [0] }
def act (g : Group) : Group := { g with gcActive := [0] }
def copied : State := mapped (row0 .programmed) fun g => { vic g with copies := [(512, 2048)] }
def moved : State := mapped (row0 .programmed) vic
def fre (g : Group) : Group := { g with rows := [(0, row0 .freed)] }
def bandS : State := mapped (row0 .freed) fre
def deadE : State := { moved with map := { moved.map with pages := [(1, [(3, ⟨5, false, true, false, false, 7, 0⟩)])] } }
def satS : State := { moved with map := { moved.map with recs := [(recKey 1 5, { rec0 with refs := refsMax })], images := [(9, mimg)] } }
def dupS : State := setR [(Reg.MAP_CTRL_DEDUP_PASS 1, 1)] { moved with map := { moved.map with recs := [(recKey 1 5, rec0), (recKey 1 6, rec0)] }, ing := { moved.ing with fpLog := [(0, 99, 5, 1), (0, 99, 6, 1)] } }
def lostS : State := { moved with par := { moved.par with groups := [(0, { vic (gp [(0, row0 .programmed)]) with lostRows := [(0, [0, 1, 2])] })] } }

theorem witness_MapCommandsComplete_1 : ∃ (s : State) (seat dir : Nat) (d : DirEnt), Canonical s ∧ s.boot.halted = false ∧ fget s.map.dirs dir = some d ∧ d.resident = false ∧ ownerSeat s (dirOwner dir) = seat ∧ pageBudget s = none ∧ fgetD s.map.fills seat [] = [] := ⟨{ nvs with map := { nvs.map with dirs := [(dirKey 1 0, ⟨1, some 1, false, false, false⟩)] } }, 1, dirKey 1 0, ⟨1, some 1, false, false, false⟩, by unfold Canonical FSorted; decide⟩
theorem witness_MapCommandsComplete_2 : ∃ (s : State) (seat lane _cycles : Nat) (l : Lane), Canonical s ∧ s.boot.halted = false ∧ fget (tcOf s seat).lanes lane = some l ∧ lane < 16 ∧ (tcOf s seat).lanes.all (fun e => decide (e.1 < 16)) = true ∧ FSorted (tcOf s seat).lanes ∧ cmdOf s l.cmd = none := ⟨lineS, 0, 2, 40, ⟨77, 0, 0, false⟩, by unfold Canonical FSorted; decide⟩
theorem witness_MapCommandsComplete_3 : ∃ (s : State) (seat lane _cycles : Nat) (l : Lane), Canonical s ∧ s.boot.halted = false ∧ fget (tcOf s seat).lanes lane = some l ∧ lane < 16 := ⟨lineS, 0, 2, 40, ⟨77, 0, 0, false⟩, by unfold Canonical FSorted; decide⟩
theorem witness_MapCommandsComplete_4 : ∃ (s : State) (seat : Nat) (c : Ckpt), Canonical s ∧ s.boot.halted = false ∧ s.map.ckpt = some c ∧ seat < s.hw.seats ∧ fgetD c.stage seat 0 = 0 := ⟨ckp 0, 3, ⟨9, 60000, (List.range 8).map fun i => (i, 0), false, mimg⟩, by unfold Canonical FSorted; decide⟩
theorem witness_MapCommandsComplete_5 : ∃ (s : State) (seat q : Nat) (c : Ckpt) (im : MapImage), Canonical s ∧ s.boot.halted = false ∧ s.map.ckpt = some c ∧ fgetD c.stage seat 0 = 1 ∧ seat < 128 ∧ q = fgetD s.map.pageSeq seat 1 ∧ im = { c.image with nextSeq := fset c.image.nextSeq seat (q + 1) } := ⟨ckp 1, 3, 1, ⟨9, 60000, (List.range 8).map fun i => (i, 1), false, mimg⟩, { mimg with nextSeq := [(3, 2)] }, by unfold Canonical FSorted; decide⟩
theorem witness_MapCommandsComplete_6 : ∃ (s : State) (c : Ckpt), Canonical s ∧ s.boot.halted = false ∧ s.map.ckpt = some c ∧ (∀ n < s.hw.seats, fgetD c.stage n 0 = 2) ∧ s.hw.seats ≤ 8 := ⟨ckp 2, ⟨9, 60000, (List.range 8).map fun i => (i, 2), false, mimg⟩, by unfold Canonical FSorted; decide⟩
theorem witness_MapCommandsComplete_7 : ∃ (s : State) (c : Ckpt), Canonical s ∧ s.boot.halted = false ∧ s.map.ckpt = some c ∧ c.late = false ∧ c.ext + 5000 ≤ s.stk.ext ∧ s.hw.seats ≤ 8 ∧ 0 < s.hw.seats := ⟨ckp 1, ⟨9, 60000, (List.range 8).map fun i => (i, 1), false, mimg⟩, by unfold Canonical FSorted; decide⟩
theorem witness_MapCommandsComplete_8 : ∃ (s : State) (seat : Nat) (p : DlogPage), s.boot.halted = false ∧ (s.map.dlog.find? fun p => p.seat == seat && !p.programmed) = some p := ⟨dlogS, 0, ⟨0, 4, [], false⟩, by decide⟩
theorem witness_MapCommandsComplete_9 : ∃ (s : State) (_bad _badLog : List (Nat × Nat)), Canonical s ∧ s.boot.halted = false ∧ s.boot.mapDone = false ∧ isSet s (Reg.MAP_STATUS_RECOVERING 0) = true ∧ serviceMode s ≠ 2 ∧ ((chosenGen s).all fun g => ((seatList s).all fun n => (anchorOf s n g).isSome) && (fget s.map.images g).isSome) = true ∧ 0 < s.hw.seats ∧ s.hw.seats ≤ 8 := ⟨setR [(Reg.MAP_STATUS_RECOVERING 0, 1)] nvs, [(0, 0)], [], by unfold Canonical FSorted; decide⟩
theorem witness_CollectionCommandsComplete_1 : ∃ (s : State) (pool row : Nat) (wear : Bool) (wearing : List Nat) (g : Group) (r : Row), s.boot.halted = false ∧ groupOf s pool = some g ∧ g.victim = none ∧ victimPick s pool g none = some (row, wear, wearing) ∧ fget g.rows row = some r ∧ ownsSide s g.side = true ∧ mayRun s r.seat .gc = true ∧ groupHeld s pool = false := ⟨mapped (row0 .programmed) act, 0, 0, false, [], act (gp [(0, row0 .programmed)]), row0 .programmed, by decide⟩
theorem witness_CollectionCommandsComplete_2 : ∃ (s : State) (pool addr new : Nat) (g : Group) (e : Ext) (r : Row), s.boot.halted = false ∧ groupOf s pool = some g ∧ fget s.par.exts addr = some e ∧ e.pool = pool ∧ g.victim = some e.row ∧ fget g.copies addr = none ∧ fget g.rows e.row = some r ∧ extMovable s addr e = true ∧ rowAllowed s g r = true ∧ mayRun s r.seat .gc = true ∧ (extAppend pool r.seat (moveStream s g r.seat r e) false r.slc e s).1 = some new := ⟨moved, 0, 512, 422246824804352, vic (gp [(0, row0 .programmed)]), ext0, row0 .programmed, by decide⟩
theorem witness_CollectionCommandsComplete_3 : ∃ (s : State) (pool addr new : Nat) (_tagsOk : Bool) (g : Group) (e : Ext) (x : Rec), Canonical s ∧ s.boot.halted = false ∧ groupOf s pool = some g ∧ fget s.par.exts addr = some e ∧ fget g.copies addr = some new ∧ FSorted g.copies ∧ e.handle % 34359738368 ≠ 0 ∧ extLive s addr e = true ∧ fget s.map.recs (recKey e.tenant e.handle) = some x := ⟨copied, 0, 512, 2048, true, { vic (gp [(0, row0 .programmed)]) with copies := [(512, 2048)] }, ext0, rec0, by unfold Canonical FSorted; decide⟩
theorem witness_CollectionCommandsComplete_4 : ∃ (s : State) (pool addr new : Nat) (_tagsOk : Bool) (g : Group) (e : Ext), Canonical s ∧ s.boot.halted = false ∧ groupOf s pool = some g ∧ fget s.par.exts addr = some e ∧ fget g.copies addr = some new ∧ extLive s addr e = false ∧ extPending s addr = false ∧ e.handle % 34359738368 ≠ 0 := ⟨{ copied with map := { copied.map with recs := [(recKey 1 5, { rec0 with extent := 9 })] } }, 0, 512, 2048, true, { vic (gp [(0, row0 .programmed)]) with copies := [(512, 2048)] }, ext0, by unfold Canonical FSorted; decide⟩
theorem witness_CollectionCommandsComplete_5 : ∃ (s : State) (pool row : Nat) (g : Group) (r : Row), Canonical s ∧ s.boot.halted = false ∧ groupOf s pool = some g ∧ rowOf s pool row = some r ∧ r.st = .programmed ∧ r.rewrite = false ∧ g.victim = some row ∧ rowHeld s pool row = [] ∧ r.moves = [] ∧ r.readers = 0 := ⟨{ moved with par := { moved.par with exts := [] } }, 0, 0, vic (gp [(0, row0 .programmed)]), row0 .programmed, by unfold Canonical FSorted; decide⟩
theorem witness_CollectionCommandsComplete_6 : ∃ (s : State) (pool band : Nat) (g : Group) (b : Band), s.boot.halted = false ∧ groupOf s pool = some g ∧ fget g.bands band = some b ∧ ownsSide s g.side = true ∧ erasesOut s pool band = false ∧ bandReady s pool band g b = true ∧ (memberShare g b 0).isSome = true ∧ b.blocks[0]?.isSome = true ∧ geomW (geomOf g b.geom) ≠ 0 := ⟨bandS, 0, 0, fre (gp [(0, row0 .freed)]), ⟨0, [(0, 0), (0, 0), (0, 0)], 0, 0, false, 1, []⟩, by decide⟩
theorem witness_CollectionCommandsComplete_7 : ∃ (s : State) (owner lba : Nat), s.boot.halted = false ∧ mayRun s (ownerSeat s owner) .sweep = true ∧ fhas s.map.releasing owner = false ∧ owner < 4294967296 ∧ entSt (entAt s owner lba) = .dealloc ∧ tagThrottled s owner lba = false := ⟨deadE, 1, 3, by decide⟩
theorem witness_CollectionCommandsComplete_8 : ∃ (s : State) (tenant handle : Nat) (r : Rec) (n : Nat), s.boot.halted = false ∧ fget s.map.recs (recKey tenant handle) = some r ∧ r.refs = refsMax ∧ s.map.images ≠ [] ∧ mayRun s (recSeat s (recKey tenant handle)) .sweep = true ∧ (tenantPages s tenant).foldl (fun n p => n + pageNames s handle p) 0 = n ∧ 0 < n ∧ n < refsMax := ⟨satS, 1, 5, { rec0 with refs := refsMax }, 1, by decide⟩
theorem witness_CollectionCommandsComplete_9 : ∃ (s : State) (nsid lba handle : Nat) (n : Ns) (a b : Rec), s.boot.halted = false ∧ nsOf s nsid = some n ∧ recOf s n.cur.p.tenant (entAt s nsid lba).handle = some a ∧ recOf s n.cur.p.tenant handle = some b ∧ entSt (entAt s nsid lba) = .mapped ∧ (entAt s nsid lba).handle ≠ handle ∧ n.cur.p.dedup = true ∧ n.cur.p.zoned = false ∧ fget s.ing.locks (lockKey nsid (lba / 16)) = none ∧ isSet s (Reg.MAP_CTRL_DEDUP_PASS (homeSeat s nsid)) = true ∧ mayRun s (homeSeat s nsid) .sweep = true ∧ ownsSide s n.cur.p.side = true ∧ n.cur.adm = .opened ∧ b.refs ≠ 0 ∧ fpLogged s n.cur.p.tenant (entAt s nsid lba).handle handle = true ∧ samePlain s a b = true := ⟨dupS, 1, 3, 6, ns0, rec0, rec0, by decide⟩
theorem witness_CollectionCommandsComplete_10 : ∃ (s : State) (nsid lba : Nat) (r : Rec) (e : Ext), Canonical s ∧ s.boot.halted = false ∧ entSt (entAt s nsid lba) = .mapped ∧ recOf s (ownerTenant s nsid) (entAt s nsid lba).handle = some r ∧ fget s.par.exts r.extent = some e ∧ extLost s e = true ∧ mayRun s (homeSeat s nsid) .sweep = true ∧ fhas s.map.lost (lbaKey nsid lba) = false := ⟨lostS, 1, 3, rec0, ext0, by unfold Canonical FSorted; decide⟩

end D06

namespace D07

def verS : State := setR [(Reg.PAR_CTRL_BG_VERIFY 0, 1)] (mapped { row0 .programmed with verify := true } id)
def gmL : Geom := ⟨2, 1, [⟨0, 0, 0, true, false⟩, ⟨1, 0, 0, false, false⟩, ⟨12, 0, 0, false, false⟩]⟩
def rbr : Row := { row0 .programmed with erased := [0] }
def rbg : Group := { gp [(0, rbr), (1, rbr)] with geoms := [(0, gmL)], rebuilds := [⟨0, 0, ⟨3, 0, 0, false, false⟩, 0, none, [], 0, 1⟩] }
def rbS : State := setR [(Reg.PAR_CTRL_REBUILD_EN 0, 1)] { mapped rbr id with par := { nvs.par with groups := [(0, rbg)] } }
def wk : Reshape := ⟨.forward, 0, false, 1, 1, 0, 1, 4, 3, false, none, 0⟩
def wg : Group := { gp [(1, row0 .programmed)] with geoms := [(0, gm), (1, gm)], cur := 1 }
def wkS : State := setR [(Reg.PAR_CTRL_RESHAPE_EN 0, 1), (Reg.MAP_GC_RESERVE_ROWS 0, 8)] { mapped (row0 .programmed) id with par := { nvs.par with groups := [(0, wg)], reshape := wk } }
def bg0 : BladeGeom := ⟨4, 100, 512, 128, 8, 50, 600, 3000, 8, 40, 300, 2000, 0, 1, 1⟩
def slt : Slot := ⟨some bg0, 0, none, none, none, 0, [], none, 0, 0, 0, 0, false, 0⟩
def bla : State := setR ((List.range 13).map fun n => (Reg.BLD_SLOT_STATUS_ATTESTED n, 1)) { mapped (row0 .programmed) id with bld := { nvs.bld with slots := (List.range 13).map fun n => (n, slt) } }
def lostS7 : State := { bla with par := { bla.par with groups := [(0, { rbg with rebuilds := [] })] } }

theorem witness_StripeCommandsComplete_1 : ∃ (s : State) (pool row : Nat) (pages : List (List Nat)) (g : Group) (r : Row), Canonical s ∧ Runs s ∧ groupOf s pool = some g ∧ rowOf s pool row = some r ∧ r.verify = true ∧ r.st = .programmed ∧ isSet s (Reg.PAR_CTRL_BG_VERIFY r.seat) = true ∧ mayRun s r.seat .sweep = true ∧ ownsSide s g.side = true ∧ parityAgrees (geomOf g r.geom).k (geomOf g r.geom).m row pages = false := ⟨verS, 0, 0, [[1], [2], [4]], gp [(0, { row0 .programmed with verify := true })], { row0 .programmed with verify := true }, by unfold Canonical Runs FSorted; decide⟩
theorem witness_StripeCommandsComplete_2 : ∃ (s : State) (pool row n : Nat) (g : Group) (b : Band) (r : Row), Runs s ∧ groupHeld s pool = false ∧ groupOf s pool = some g ∧ catchNext s pool g = none ∧ rebuildBand g = some (n, b) ∧ rebuildRow g n = some row ∧ fget g.rows row = some r ∧ isSet s (Reg.PAR_CTRL_REBUILD_EN r.seat) = true ∧ mayRun s r.seat .rebuild = true ∧ ownsSide s g.side = true ∧ rowK g row ≤ (aliveMembers g row).length := ⟨rbS, 0, 0, 0, rbg, ⟨0, [(0, 0), (0, 0), (0, 0)], 0, 0, false, 1, []⟩, rbr, by unfold Runs; decide⟩
theorem witness_StripeCommandsComplete_3 : ∃ (s : State) (g : Group) (row : Nat) (r : Row), Runs s ∧ groupOf s s.par.reshape.pool = some g ∧ s.par.reshape.st = .forward ∧ s.par.reshape.reverse = false ∧ s.par.reshape.turning = false ∧ s.par.reshape.redo = none ∧ ownsSide s g.side = true ∧ walkHeld s g s.par.reshape = false ∧ walkNext g s.par.reshape = some row ∧ fget g.rows row = some r ∧ r.st = .programmed ∧ r.rewrite = false ∧ s.par.reshape.inStroke < walkRate s ∧ mayRun s r.seat .reshape = true ∧ ((rowMovable s s.par.reshape.pool row).foldl (fun x e => if x.1 then extMove s.par.reshape.pool e.1 x.2 else x) (true, s)).1 = true := ⟨wkS, wg, 1, row0 .programmed, by unfold Runs; decide⟩
theorem witness_GroupCommandsComplete_1 : ∃ (s : State) (slot pool side k m dies : Nat) (shares : List (Nat × Nat)) (_ageGrouped : Bool) (l : List Share), CmdReady slot Opc.groupCreate s ∧ pool < 32 ∧ groupOf s pool = none ∧ geomOk k m (shares.map (·.1)) = true ∧ ownsSide s side = true ∧ sharesAt s side dies shares = some l := ⟨cmdIn Opc.groupCreate bla, 3, 1, 0, 2, 1, 2, [(2, 0), (3, 0), (4, 0)], true, [⟨2, 0, 0, false, false⟩, ⟨3, 0, 0, false, false⟩, ⟨4, 0, 0, false, false⟩], by unfold CmdReady; decide⟩
theorem witness_GroupCommandsComplete_2 : ∃ (s : State) (slot pool : Nat) (g : Group), CmdReady slot Opc.groupDelete s ∧ groupOf s pool = some g ∧ ownsSide s g.side = true ∧ poolHolds s pool = false ∧ (s.par.reshape.st = .idle ∨ s.par.reshape.pool ≠ pool) ∧ FSorted s.par.groups := ⟨cmdIn Opc.groupDelete { bla with par := { bla.par with groups := [(0, gp []), (1, gp [])] } }, 3, 1, gp [], by unfold CmdReady FSorted; decide⟩
theorem witness_GroupCommandsComplete_3 : ∃ (s : State) (slot pool : Nat) (slots : List Nat) (g : Group), CmdReady slot Opc.groupSpareSet s ∧ groupOf s pool = some g ∧ ownsSide s g.side = true ∧ slots.eraseDups = slots ∧ slots.any (fun n => decide (slotCount s ≤ n) || (curGeom g).shares.any fun sh => sh.slot == n && !sh.lost) = false ∧ orphanShares g = [] := ⟨cmdIn Opc.groupSpareSet bla, 3, 0, [5, 6], gp [(0, row0 .programmed)], by unfold CmdReady; decide⟩
theorem witness_GroupCommandsComplete_4 : ∃ (s : State) (slot pool member : Nat) (g : Group) (sh : Share), CmdReady slot Opc.groupShareFail s ∧ groupOf s pool = some g ∧ ownsSide s g.side = true ∧ (curGeom g).shares[member]? = some sh := ⟨cmdIn Opc.groupShareFail bla, 3, 0, 1, gp [(0, row0 .programmed)], ⟨1, 0, 0, false, false⟩, by unfold CmdReady; decide⟩
theorem witness_GroupCommandsComplete_5 : ∃ (s : State) (slot pool member target : Nat) (g : Group) (sh x : Share), CmdReady slot Opc.groupRebuildTarget s ∧ groupOf s pool = some g ∧ ownsSide s g.side = true ∧ (curGeom g).shares[member]? = some sh ∧ sh.lost = true ∧ rebuildOf g sh = none ∧ target < slotCount s ∧ isSet s (Reg.BLD_SLOT_STATUS_ATTESTED target) = true ∧ (curGeom g).shares.any (fun x => x.slot == target && !x.lost) = false ∧ shareFit s target g = some x := ⟨cmdIn Opc.groupRebuildTarget lostS7, 3, 0, 0, 7, { rbg with rebuilds := [] }, ⟨0, 0, 0, true, false⟩, ⟨7, 0, 0, false, false⟩, by unfold CmdReady; decide⟩
theorem witness_GroupCommandsComplete_6 : ∃ (s : State) (slot pool k m : Nat) (shares : List (Nat × Nat)) (g : Group) (l : List Share), CmdReady slot Opc.groupReshape s ∧ groupOf s pool = some g ∧ ownsSide s g.side = true ∧ s.par.reshape.st = .idle ∧ geomOk k m (shares.map (·.1)) = true ∧ sharesFor s g shares = some l ∧ 10 * poolValid s pool ≤ 9 * (poolRows g * k * 1024) ∧ groupState g < 3 ∧ g.failed = false ∧ g.readOnly = false := ⟨cmdIn Opc.groupReshape bla, 3, 0, 2, 1, [(2, 0), (3, 0), (4, 0)], gp [(0, row0 .programmed)], [⟨2, 0, 0, false, false⟩, ⟨3, 0, 0, false, false⟩, ⟨4, 0, 0, false, false⟩], by unfold CmdReady; decide⟩

end D07

namespace D08

def rec8 : Rec := { rec0 with length := 11 }
def ext8 : Ext := { ext0 with length := 11 }
def slt8 : Slot := ⟨some ⟨4, 100, 512, 128, 8, 50, 600, 3000, 8, 40, 300, 2000, 0, 1, 1⟩, 0, none, none, none, 0, [], none, 0, 0, 0, 0, false, 0⟩
def u0 (st : UStage) : RUnit := { unitNew 3 with stage := st, ent := some ⟨5, false, false, false, false, 7, 0⟩, addr := 512, row := some (pairKey 0 0), rcd := some rec8 }
def rdC : Cmd := { cmd0 .read 3 1 with stage := .working, p := { npw with loop := 0 } }
def rdS (st : RowSt) (u : UStage) : State := let s := mapped (row0 st) id; { s with par := { s.par with exts := [(512, ext8)] }, bld := { s.bld with slots := (List.range 13).map fun n => (n, slt8) }, nv := { s.nv with cmds := [(0, rdC)], nextCmd := 1 }, rds := { s.rds with units := [(pairKey 0 0, u0 u)] }, keys := { s.keys with slots := [(0, [slotKey 0 0 1])] } }
def extO : Ext := { ext8 with tag := extTag (slotKey 0 0 1) ext8 }
theorem seen_tag (k : Nat) (e : Ext) : (extTag k { e with tag := extTag k e } == extTag k e) = true := by rw [beq_iff_eq]; simp only [extTag, extHeader, -Nat.reducePow]
def rdO : State := let s := rdS .programmed .opening; { s with par := { s.par with exts := [(512, extO)] } }
def rdF : State := let s := rdS .opened .opening; { s with rds := { s.rds with units := [(pairKey 0 0, { u0 .opening with dram := true })] } }

theorem witness_ReadsComplete_1 : ∃ (s : State) (cmd idx : Nat) (_w : Waits) (c : Cmd) (u : RUnit) (m : MapEnt) (r : Rec) (e : Ext) (g : Group) (x : Row), Canonical s ∧ Runs s ∧ cmdOf s cmd = some c ∧ unitOf s cmd idx = some u ∧ u.stage = .lookup ∧ u.blocked = false ∧ u.ent = some m ∧ entSt m = .mapped ∧ u.rcd = some r ∧ unitExt s u = some e ∧ groupOf s e.pool = some g ∧ fhas s.map.lost (lbaKey c.nsid u.lba) = false ∧ addrValid s u.addr r.length = true ∧ extLost s e = false ∧ fget g.rows e.row = some x ∧ rowUnsettled x = true := ⟨rdS .opened .lookup, 0, 0, ⟨0, 0, 0, 0, 0, []⟩, rdC, u0 .lookup, ⟨5, false, false, false, false, 7, 0⟩, rec8, ext8, gp [(0, row0 .opened)], row0 .opened, by unfold Canonical Runs FSorted; decide⟩
theorem witness_ReadsComplete_2 : ∃ (s : State) (cmd idx : Nat) (c : Cmd) (u : RUnit) (e : Ext) (g : Group), Runs s ∧ cmdOf s cmd = some c ∧ unitOf s cmd idx = some u ∧ u.stage = .members ∧ u.waiting = [] ∧ unitExt s u = some e ∧ groupOf s e.pool = some g := ⟨rdS .programmed .members, 0, 0, rdC, u0 .members, ext8, gp [(0, row0 .programmed)], by unfold Runs; decide⟩
set_option maxRecDepth 8000 in
theorem witness_ReadsComplete_3 : ∃ (s : State) (cmd idx _lat : Nat) (seen : ExtSeen) (c : Cmd) (u : RUnit) (e : Ext) (g : Group), Canonical s ∧ Runs s ∧ cmdOf s cmd = some c ∧ c.op = .read ∧ c.p.pi = 0 ∧ unitOf s cmd idx = some u ∧ u.stage = .opening ∧ u.again = false ∧ unitExt s u = some e ∧ groupOf s e.pool = some g ∧ slotHas s c.seat (extKey s cmd e) = true ∧ openCheck c u e (extKey s cmd e) seen = none := ⟨rdO, 0, 0, 40, ⟨none, true, none, true⟩, rdC, u0 .opening, extO, gp [(0, row0 .programmed)], by unfold Canonical FSorted; decide, by unfold Runs; decide, rfl, rfl, rfl, rfl, rfl, rfl, rfl, rfl, by decide, by have h : (extTag (extKey rdO 0 extO) (extSeen extO ⟨none, true, none, true⟩) == extO.tag) = true := seen_tag (slotKey 0 0 1) ext8; unfold openCheck; simp only [h]; rfl⟩
theorem witness_ReadsComplete_4 : ∃ (s : State) (cmd idx _lat : Nat) (seen : ExtSeen) (c : Cmd) (u : RUnit) (e : Ext) (g : Group), Canonical s ∧ Runs s ∧ cmdOf s cmd = some c ∧ unitOf s cmd idx = some u ∧ u.stage = .opening ∧ u.again = false ∧ u.dram = true ∧ unitExt s u = some e ∧ groupOf s e.pool = some g ∧ (fget g.rows e.row).any rowUnsettled = true ∧ slotHas s c.seat (extKey s cmd e) = true ∧ openCheck c u e (extKey s cmd e) seen = some 2 := ⟨rdF, 0, 0, 40, ⟨some ⟨0, 0, 0, 0, 0, 0, 0, 0, 0, 0, 0, 0⟩, true, none, true⟩, rdC, { u0 .opening with dram := true }, ext8, gp [(0, row0 .opened)], by unfold Canonical Runs FSorted; decide⟩

end D08

namespace D09

def bg9 : BladeGeom := ⟨4,100,512,128,8,50,600,3000,8,40,300,2000,0,1,1⟩
def slt9 : Slot := ⟨some bg9, 0, none, none, none, 0, [], none, 0, 0, 0, 0, false, 0⟩
def port9 : OarPort := ⟨3, [⟨2, 4, [1]⟩], 0, 7, 2, [0, 1, 0], [64, 256, 8], [], 0, false, none, [(5, readCmd 1 2 3 0 1 false false .control)], [], [], 0, 0, true⟩
def bl9 : State := setR [(Reg.BLD_SLOT_STATUS_PDS 2, 1), (Reg.BLD_SLOT_STATUS_PWREN 2, 1), (Reg.BLD_SLOT_CTRL_PWR_OFF 2, 0), (portReg Reg.OAR_PORT_STATUS_STATE 2, 0)] { up with bld := { up.bld with roots := [8], allowed := [21], slots := [(2, slt9)], ports := [(2, port9)] }, stk := { up.stk with ext := 70000 } }
def lk9 : State := setR [(portReg Reg.OAR_PORT_STATUS_STATE 2, 2), (Reg.BLD_SLOT_STATUS_LINK_UP 2, 1), (portReg Reg.OAR_PORT_STATUS_SESSION 2, 1), (creditReg 2 0, 9), (creditReg 2 1, 9), (creditReg 2 4, 9)] bl9
def po9 (f : OarPort → OarPort) (s : State) : State := { s with bld := { s.bld with ports := [(2, f port9)] } }
def at9 : State := { lk9 with bld := { lk9.bld with slots := [(2, { slt9 with attesting := some 69999 })] } }
def sw9 (out : List (Nat × Bool)) : State := { lk9 with bld := { lk9.bld with sweep := some ⟨69990, false, [], out, none, none⟩ } }

theorem witness_LinkCommandsComplete_1 : ∃ (s : State) (slot _cmdBuf _wdataBuf _mgmtBuf : Nat), Canonical s ∧ Runs s ∧ slot < slotCount s ∧ slot < 96 ∧ linkUp s slot = false ∧ portEnabled s slot = true ∧ coxRuns s = true ∧ isSet s (Reg.BLD_SLOT_STATUS_PDS slot) = true ∧ (portOf s slot).retrain = false := ⟨bl9, 2, 32, 64, 300, by unfold Canonical Runs FSorted; decide⟩
theorem witness_LinkCommandsComplete_2 : ∃ (s : State) (slot : Nat), Canonical s ∧ Runs s ∧ slot < slotCount s ∧ isSet s (Reg.BLD_SLOT_STATUS_PDS slot) = true ∧ portEnabled s slot = true ∧ linkState s slot = 1 ∧ (portOf s slot).retrain = false ∧ (portOf s slot).trainAt + 200 ≤ s.stk.ext := ⟨setR [(portReg Reg.OAR_PORT_STATUS_STATE 2, 1)] bl9, 2, by unfold Canonical Runs FSorted; decide⟩
theorem witness_LinkCommandsComplete_3 : ∃ (s : State) (slot : Nat), Canonical s ∧ Runs s ∧ slot < slotCount s ∧ isSet s (Reg.BLD_SLOT_STATUS_PDS slot) = true ∧ portEnabled s slot = true ∧ linkState s slot = 0 ∧ (portOf s slot).trainAt + 1000 ≤ s.stk.ext := ⟨bl9, 2, by unfold Canonical Runs FSorted; decide⟩
theorem witness_LinkCommandsComplete_4 : ∃ (s : State) (slot : Nat), Canonical s ∧ Runs s ∧ slot < 96 ∧ linkUp s slot = true ∧ fhas s.upd.restarts slot = false ∧ isSet s (Reg.BLD_SLOT_STATUS_PWREN slot) = true ∧ (faultCount (slotSeat slot) 1 slot none [slot] (oarRetrainBase slot s)).2 = false := ⟨lk9, 2, by unfold Canonical Runs FSorted; decide⟩
theorem witness_LinkCommandsComplete_5 : ∃ (s : State) (slot : Nat), Canonical s ∧ Runs s ∧ linkState s slot = 1 ∧ (portOf s slot).retrain = true ∧ (portOf s slot).trainAt + rd s (Reg.OAR_RETRAIN_LIMIT_STROKES (slot / 12)) ≤ s.stk.ext ∧ (portOf s slot).cmds = [] ∧ (portOf s slot).dies = [] ∧ s.par.groups = [] ∧ s.ing.blks = [] ∧ s.map.discard = none ∧ s.upd.restarts = [] ∧ (slotOf s slot).attestSlot = none ∧ slot < 96 := ⟨setR [(portReg Reg.OAR_PORT_STATUS_STATE 2, 1)] (po9 (fun p => { p with retrain := true, cmds := [] }) bl9), 2, by unfold Canonical Runs FSorted; decide⟩
theorem witness_FrameCommandsComplete_1 : ∃ (s : State) (slot seq _ack chan len i : Nat) (_credits : List Nat) (m : MgmtMsg), Runs s ∧ linkUp s slot = true ∧ chan ≤ 4 ∧ len ≤ 4160 ∧ seq = ((portOf s slot).rxSeq + 1) % 4096 ∧ (portOf s slot).rxSeq < 4096 ∧ rxChannel chan = some i ∧ 0 < (portOf s slot).theirs.getD i 0 ∧ (portOf s slot).queue = [] ∧ m = .other ∧ (portOf s slot).sinceAck < 7 ∧ s.par.groups = [] ∧ s.ing.blks = [] ∧ s.map.discard = none := ⟨lk9, 2, 8, 2, 4, 40, 2, [1, 1, 0, 0, 1], .other, by unfold Runs; decide⟩
theorem witness_FrameCommandsComplete_2 : ∃ (s : State) (slot _ack : Nat) (_credits : List Nat), Canonical s ∧ Runs s ∧ linkUp s slot = true ∧ slot < 96 ∧ (portOf s slot).queue = [] := ⟨lk9, 2, 2, [1, 2, 0, 0, 3], by unfold Canonical Runs FSorted; decide⟩
theorem witness_FrameCommandsComplete_3 : ∃ (s : State) (slot ack : Nat) (_credits : List Nat) (f : OarFrame), Runs s ∧ linkUp s slot = true ∧ (portOf s slot).queue = [] ∧ (portOf s slot).unacked = [f] ∧ oarLater f.seq ack = true ∧ (portOf s slot).replays < 4 := ⟨lk9, 2, 1, [1, 0, 0, 0, 2], ⟨2, 4, [1]⟩, by unfold Runs; decide⟩
theorem witness_FrameCommandsComplete_4 : ∃ (s : State) (slot _ack : Nat) (_credits : List Nat), Canonical s ∧ Runs s ∧ linkUp s slot = true ∧ slot < 96 ∧ (portOf s slot).queue = [] := ⟨lk9, 2, 2, [1, 2, 0, 0, 3], by unfold Canonical Runs FSorted; decide⟩
theorem witness_FrameCommandsComplete_5 : ∃ (s : State) (slot last : Nat) (_credits : List Nat) (f : OarFrame), Runs s ∧ linkUp s slot = true ∧ (portOf s slot).queue = [] ∧ (portOf s slot).unacked = [f] ∧ oarLater f.seq last = true := ⟨lk9, 2, 1, [1, 0, 0, 0, 2], ⟨2, 4, [1]⟩, by unfold Runs; decide⟩
theorem witness_FrameCommandsComplete_6 : ∃ (s : State) (slot : Nat) (f : OarFrame), Runs s ∧ linkUp s slot = true ∧ (portOf s slot).unacked = [f] ∧ f.seq < 4096 ∧ (portOf s slot).replays < 4 := ⟨lk9, 2, ⟨2, 4, [1]⟩, by unfold Runs; decide⟩
theorem witness_FrameCommandsComplete_7 : ∃ (s : State) (slot : Nat), Runs s ∧ linkUp s slot = true ∧ 0 < (portOf s slot).sinceAck := ⟨lk9, 2, by unfold Runs; decide⟩
theorem witness_FrameCommandsComplete_8 : ∃ (s : State) (slot : Nat), Runs s ∧ linkUp s slot = true ∧ (portOf s slot).owed ≠ [0, 0, 0] := ⟨lk9, 2, by unfold Runs; decide⟩
theorem witness_FrameCommandsComplete_9 : ∃ (s : State) (slot tag _cw _bits : Nat) (_raw : Bool) (c : NandCmd), Canonical s ∧ Runs s ∧ linkUp s slot = true ∧ fget (portOf s slot).cmds tag = some c ∧ c.opcode = opRead := ⟨lk9, 2, 5, 0, 3, true, readCmd 1 2 3 0 1 false false .control, by unfold Canonical Runs FSorted; decide⟩
theorem witness_FrameCommandsComplete_10 : ∃ (s : State) (slot tag _status _micros : Nat) (c : NandCmd), Canonical s ∧ Runs s ∧ linkUp s slot = true ∧ fget (portOf s slot).cmds tag = some c ∧ c.late = true ∧ (portOf s slot).dies = [] ∧ s.ing.blks = [] ∧ s.map.discard = none ∧ s.par.groups = [] ∧ FSorted (portOf s slot).cmds := ⟨po9 (fun p => { p with cmds := [(5, { readCmd 1 2 3 0 1 false false .control with late := true })] }) lk9, 2, 5, 0, 50, { readCmd 1 2 3 0 1 false false .control with late := true }, by unfold Canonical Runs FSorted; decide⟩
theorem witness_FrameCommandsComplete_11 : ∃ (s : State) (slot tag _micros id idx m : Nat) (c : NandCmd) (u : RUnit), Runs s ∧ linkUp s slot = true ∧ fget (portOf s slot).cmds tag = some c ∧ c.late = false ∧ c.opcode = opRead ∧ c.left = 0 ∧ c.bad = 0 ∧ c.use = .member id idx m ∧ unitOf s id idx = some u ∧ u.stage = .members := ⟨po9 (fun p => { p with cmds := [(5, { readCmd 1 2 3 0 1 false false (.member 0 0 1) with left := 0 })] }) { lk9 with rds := { lk9.rds with units := [(pairKey 0 0, { unitNew 3 with stage := .members, waiting := [0, 1] })] } }, 2, 5, 50, 0, 0, 1, { readCmd 1 2 3 0 1 false false (.member 0 0 1) with left := 0 }, { unitNew 3 with stage := .members, waiting := [0, 1] }, by unfold Runs; decide⟩
theorem witness_FrameCommandsComplete_12 : ∃ (s : State) (slot tag : Nat) (c : NandCmd), Runs s ∧ fget (portOf s slot).cmds tag = some c ∧ c.late = false ∧ c.due ≤ nowTicks s ∧ c.use = .control ∧ c.opcode ≠ opSuspend ∧ (portOf s slot).dies = [] ∧ s.ing.blks = [] ∧ s.map.discard = none ∧ s.par.groups = [] := ⟨lk9, 2, 5, readCmd 1 2 3 0 1 false false .control, by unfold Runs; decide⟩
theorem witness_SlotCommandsComplete_1 : ∃ (s : State) (slot : Nat), Canonical s ∧ Runs s ∧ slot < slotCount s ∧ slot < 96 ∧ coxRuns s = true ∧ portEnabled s slot = true ∧ isSet s (Reg.BLD_SLOT_STATUS_PDS slot) = false ∧ isSet s (Reg.BLD_SLOT_STATUS_PWREN slot) = false ∧ isSet s Reg.BLD_CTRL_AUTO_POWER = true ∧ linkUp s slot = false := ⟨bl9, 3, by unfold Canonical Runs FSorted; decide⟩
theorem witness_SlotCommandsComplete_2 : ∃ (s : State) (slot : Nat), Canonical s ∧ Runs s ∧ slot < slotCount s ∧ slot < 96 ∧ isSet s (Reg.BLD_SLOT_STATUS_PDS slot) = true ∧ (portOf s slot).cmds = [] ∧ (portOf s slot).dies = [] ∧ s.par.groups = [] ∧ s.ing.blks = [] ∧ s.map.discard = none ∧ s.upd.restarts = [] ∧ (slotOf s slot).attestSlot = none := ⟨po9 (fun p => { p with cmds := [] }) lk9, 2, by unfold Canonical Runs FSorted; decide⟩
theorem witness_SlotCommandsComplete_3 : ∃ (s : State) (slot : Nat) (off : Bool), slot < slotCount s ∧ (off = false ∨ sharesOn s slot = []) := ⟨lk9, 2, true, by decide⟩
theorem witness_SlotCommandsComplete_4 : ∃ (s : State) (slot : Nat), Canonical s ∧ slot < slotCount s ∧ isSet s (Reg.BLD_SLOT_STATUS_PDS slot) = true ∧ sharesOn s slot ≠ [] := ⟨setR [(Reg.BLD_SLOT_STATUS_PDS 1, 1)] (mapped (row0 .programmed) id), 1, by unfold Canonical FSorted; decide⟩
theorem witness_SlotCommandsComplete_5 : ∃ (s : State) (slot _attn _pwr : Nat), slot < slotCount s := ⟨lk9, 2, 1, 2, by decide⟩
theorem witness_AttestationCommandsComplete_1 : ∃ (s : State) (slot root : Nat) (measures : List Nat) (_g : BladeGeom), Canonical s ∧ Runs s ∧ slot < 96 ∧ s.hw.seats ≤ 8 ∧ linkUp s slot = true ∧ (slotOf s slot).attesting.isSome = true ∧ s.bld.roots.contains root = true ∧ measures.all (fun m => s.bld.allowed.contains m) = true ∧ fget s.upd.restarts slot = none ∧ (slotOf s slot).attestSlot = none ∧ s.par.groups = [] ∧ s.ing.blks = [] ∧ s.map.discard = none := ⟨at9, 2, 8, [21], bg9, by unfold Canonical Runs FSorted; decide⟩
theorem witness_AttestationCommandsComplete_2 : ∃ (s : State) (slot root : Nat) (sigOk : Bool) (measures : List Nat) (_g : BladeGeom), Canonical s ∧ Runs s ∧ slot < 96 ∧ linkUp s slot = true ∧ (slotOf s slot).attesting.isSome = true ∧ (s.bld.roots.contains root = false ∨ sigOk = false ∨ measures.all (fun m => s.bld.allowed.contains m) = false) ∧ (slotOf s slot).attestSlot = none ∧ s.par.groups = [] ∧ s.ing.blks = [] ∧ s.map.discard = none ∧ s.upd.restarts = [] := ⟨at9, 2, 9, true, [21], bg9, by unfold Canonical Runs FSorted; decide⟩
theorem witness_AttestationCommandsComplete_3 : ∃ (s : State) (slot h : Nat), Canonical s ∧ Runs s ∧ slot < 96 ∧ (portOf s slot).heartbeat = some h ∧ h + 1000 ≤ s.stk.ext ∧ linkUp s slot = true ∧ (portOf s slot).cmds = [] ∧ (portOf s slot).dies = [] ∧ s.par.groups = [] ∧ s.ing.blks = [] ∧ s.map.discard = none := ⟨po9 (fun p => { p with cmds := [], heartbeat := some 9 }) lk9, 2, 9, by unfold Canonical Runs FSorted; decide⟩
theorem witness_AttestationCommandsComplete_4 : ∃ (s : State) (slot blade : Nat) (g : BladeGeom), CmdReady slot Opc.bladeInfo s ∧ blade < slotCount s ∧ (slotOf s blade).geom = some g := ⟨cmdIn Opc.bladeInfo lk9, 3, 2, bg9, by unfold CmdReady; decide⟩
theorem witness_AttestationCommandsComplete_5 : ∃ (s : State) (slot blade : Nat), CmdReady slot Opc.bladeAttest s ∧ blade < slotCount s ∧ linkUp s blade = true ∧ (slotOf s blade).attesting = none ∧ (slotOf s blade).attestSlot = none := ⟨cmdIn Opc.bladeAttest lk9, 3, 2, by unfold CmdReady; decide⟩
theorem witness_RingCommandsComplete_1 : ∃ (s : State) (_cw : Bool) (dest _src _type _seq hops _stamp : Nat) (_payload : List Nat), dest ≠ ringNode s ∧ 1 < hops := ⟨lk9, true, 4, 193, 2, 7, 9, 500, [40, 41], by decide⟩
theorem witness_RingCommandsComplete_2 : ∃ (s : State) (_cw crcOk : Bool) (dest _src _type _seq hops _stamp : Nat) (_payload : List Nat), Canonical s ∧ (crcOk = false ∨ (dest ≠ ringNode s ∧ hops ≤ 1)) := ⟨lk9, true, true, 4, 193, 2, 7, 1, 500, [40], by unfold Canonical FSorted; decide⟩
theorem witness_RingCommandsComplete_3 : ∃ (s : State) (_cw : Bool) (dest _src _type _seq _hops _stamp : Nat) (_payload : List Nat), dest = ringNode s := ⟨lk9, true, ringNode lk9, 3, 2, 7, 9, 500, [40], by decide⟩
theorem witness_RingCommandsComplete_4 : ∃ (s : State) (slot : Nat) (h : HealthReply) (w : Sweep), Canonical s ∧ Runs s ∧ slot < 96 ∧ s.bld.sweep = some w ∧ w.out = [(slot, false)] ∧ w.todo ≠ [] ∧ w.todo.all (fun n => decide (n < 96)) = true ∧ isSet s (Reg.BLD_SLOT_STATUS_IND_PENDING slot) = false ∧ h.powerFault = false := ⟨{ sw9 [] with bld := { (sw9 []).bld with sweep := some ⟨69990, false, [4], [(2, false)], none, none⟩ } }, 2, ⟨40, 50, 900, false, false, 77, 5, 3, 1⟩, ⟨69990, false, [4], [(2, false)], none, none⟩, by unfold Canonical Runs FSorted; decide⟩
theorem witness_RingCommandsComplete_5 : ∃ (s : State) (slot : Nat) (w : Sweep), Runs s ∧ s.bld.sweep = some w ∧ w.out.find? (fun x => x.1 == slot) = some (slot, false) := ⟨sw9 [(2, false)], 2, ⟨69990, false, [], [(2, false)], none, none⟩, by unfold Runs; decide⟩
theorem witness_RingCommandsComplete_6 : ∃ (s : State) (slot : Nat), Canonical s ∧ Runs s ∧ (slotOf s slot).indReq.isSome = true := ⟨{ lk9 with bld := { lk9.bld with slots := [(2, { slt9 with indReq := some 0 })] } }, 2, by unfold Canonical Runs FSorted; decide⟩
theorem witness_RingCommandsComplete_7 : ∃ (s : State) (slot : Nat), Canonical s ∧ Runs s ∧ (slotOf s slot).indReq = some 0 := ⟨{ lk9 with bld := { lk9.bld with slots := [(2, { slt9 with indReq := some 0 })] } }, 2, by unfold Canonical Runs FSorted; decide⟩
theorem witness_RingCommandsComplete_8 : ∃ (s : State) (slot d : Nat), Canonical s ∧ Runs s ∧ (slotOf s slot).indReq = some (d + 1) := ⟨{ lk9 with bld := { lk9.bld with slots := [(2, { slt9 with indReq := some 1 })] } }, 2, 0, by unfold Canonical Runs FSorted; decide⟩
theorem witness_RingCommandsComplete_9 : ∃ (s : State) (slot : Nat) (_cw : Bool) (_seq _stamp : Nat), Canonical s ∧ Runs s ∧ slot < slotCount s ∧ slot < 96 := ⟨lk9, 2, true, 3, 900, by unfold Canonical Runs FSorted; decide⟩

end D09

namespace D10

def lanes9 : FMap Lane9 := (List.range 8).map fun n => (n, { laneReset with trainedAt := some 9 })
def pr9 : State := setR ((List.range 8).flatMap fun n => [(Reg.PAIR_LANE_STATUS_STATE n, 2), (Reg.PAIR_LANE_STATUS_VIA n, n)]) { mapped (row0 .programmed) id with stk := { up.stk with ext := 70000 }, pair := { nvs.pair with st := .paired, sides := [0], own := [], lanes := lanes9, step := 7, peer := some ⟨8, 1, 1, .paired, [1], 0, 4, false, 0, 1, 0, 0, false⟩ } }
def ln9 (f : Lane9 → Lane9) (s : State) : State := laneMod 2 f s
def al9 : State := setR [(Reg.BLD_SLOT_STATUS_ATTESTED 2, 1)] { pr9 with pair := { pr9.pair with st := .alone, sides := [], step := 0, peer := none, joinFrom := some 10000 } }
def h9 : PHdr := ⟨0, 5, none, 0, true, 4464, true, 64, 2, 1⟩
def d9 : Delta := { delta .zero 1 3 1 7 with last := true, group := 4 }
def fen9 : State := { pr9 with bld := { pr9.bld with slots := [(2, ⟨none, 0, none, none, some (0, 9, 60000), 0, [], none, 0, 0, 0, 0, false, 0⟩), (1, ⟨none, 0, none, none, some (0, 9, 60000), 0, [], none, 0, 0, 0, 0, false, 0⟩)] } }

theorem witness_LaneCommandsComplete_1 : ∃ (s : State) (seat : Nat), Canonical s ∧ seat < s.hw.seats ∧ coxRuns s = true ∧ (lane9 s seat).trainedAt = none ∧ rd s (Reg.PAIR_LANE_STATUS_STATE seat) ≠ 3 := ⟨ln9 (fun l => { l with trainedAt := none }) (setR [(Reg.PAIR_LANE_STATUS_STATE 2, 1)] pr9), 2, by unfold Canonical FSorted; decide⟩
theorem witness_LaneCommandsComplete_2 : ∃ (s : State) (seat : Nat), Canonical s ∧ (lane9 s seat).trainedAt.isSome = true ∧ rd s (Reg.PAIR_LANE_STATUS_STATE seat) = 2 := ⟨ln9 (fun l => { l with trainedAt := some 9 }) pr9, 2, by unfold Canonical FSorted; decide⟩
theorem witness_LaneCommandsComplete_3 : ∃ (s : State) (seat x : Nat), Canonical s ∧ (lane9 s seat).lostAt = some x ∧ x + 100 ≤ s.stk.ext ∧ rd s (Reg.PAIR_LANE_STATUS_STATE seat) ≠ 3 := ⟨ln9 (fun l => { l with lostAt := some 9 }) (setR [(Reg.PAIR_LANE_STATUS_STATE 2, 1)] pr9), 2, 9, by unfold Canonical FSorted; decide⟩
theorem witness_LaneCommandsComplete_4 : ∃ (s : State) (seat x : Nat), Canonical s ∧ (lane9 s seat).trainedAt = some x ∧ rd s (Reg.PAIR_LANE_STATUS_STATE seat) = 3 ∧ (lane9 s seat).disabled = false ∧ x + 1000 ≤ s.stk.ext := ⟨ln9 (fun l => { l with trainedAt := some 9 }) (setR [(Reg.PAIR_LANE_STATUS_STATE 2, 3)] pr9), 2, 9, by unfold Canonical FSorted; decide⟩
theorem witness_LaneCommandsComplete_5 : ∃ (s : State) (lane tick bytes : Nat) (load : PairLoad) (l : List (PairLoad × Nat)), Canonical s ∧ Runs s ∧ hasSession s = true ∧ laneUp s lane = true ∧ (lane9 s lane).freeAt ≤ tick ∧ laneStreams s lane clsC = [lane] ∧ rd s (Reg.PAIR_LANE_STATUS_VIA lane) = lane ∧ (lane9 s lane).again = [] ∧ (lane9 s lane).unacked.length < 1024 ∧ (lane9 s lane).queue.getD 0 [] = (load, bytes) :: l ∧ tick + laneTime bytes ≤ rd s Reg.PAIR_WIN_LAYOUT_C ∧ 0 < laneTime bytes ∧ rd s (Reg.PAIR_LANE_KEY_FRAMES lane) + 1 < rekeyAt s := ⟨ln9 (fun l => { l with queue := [[(.control .anchors, 64)], [], []] }) pr9, 2, 20, 64, .control .anchors, [], by unfold Canonical Runs FSorted; decide⟩
theorem witness_LaneCommandsComplete_6 : ∃ (s : State) (lane tick : Nat) (l : List Nat), Canonical s ∧ Runs s ∧ hasSession s = true ∧ laneUp s lane = true ∧ (lane9 s lane).freeAt ≤ tick ∧ laneStreams s lane clsM = [lane] ∧ rd s (Reg.PAIR_LANE_STATUS_VIA lane) = lane ∧ (lane9 s lane).bare = 6 :: l ∧ rd s Reg.PAIR_WIN_LAYOUT_C ≤ tick ∧ tick + laneTime 0 ≤ rd s Reg.PAIR_WIN_LAYOUT_C + mWindow s (rd s Reg.STK_PERIOD_TICKS) ∧ rd s (Reg.PAIR_LANE_KEY_FRAMES lane) + 1 < rekeyAt s := ⟨ln9 (fun l => { l with bare := [6], owed := true }) pr9, 2, rd pr9 Reg.PAIR_WIN_LAYOUT_C + 5, [], by unfold Canonical Runs FSorted; decide⟩
theorem witness_LaneCommandsComplete_7 : ∃ (s : State) (seat : Nat), hasSession s = true ∧ (lane9 s seat).owed = true ∧ (lane9 s seat).bare.contains 6 = false := ⟨ln9 (fun l => { l with owed := true }) pr9, 2, by decide⟩
theorem witness_LaneCommandsComplete_8 : ∃ (s : State) (seat : Nat) (f : PairFrame) (l : List PairFrame), Runs s ∧ (lane9 s seat).unacked = f :: l ∧ max 1 (rd s (Reg.PAIR_RETX_STROKES seat)) ≤ f.waited ∧ (lane9 s seat).again.contains f.seq = false := ⟨ln9 (fun l => { l with unacked := [⟨3, .control .anchors, 64, 0, 9⟩] }) pr9, 2, ⟨3, .control .anchors, 64, 0, 9⟩, [], by unfold Runs; decide⟩
theorem witness_PairFramesComplete_1 : ∃ (s : State) (seat : Nat) (h : Hello), Runs s ∧ s.pair.joinFrom.isSome = true ∧ laneUp s seat = true ∧ s.pair.step < 3 ∧ s.pair.st = .alone ∧ helloBad s h = false ∧ subMod 32 h.stroke (strokeCount s) ≤ 1 := ⟨al9, 2, ⟨8, 0, 1, 0, 0, 0, 0, .alone, [], 4, 1, false, 70000⟩, by unfold Runs; decide⟩
theorem witness_PairFramesComplete_2 : ∃ (s : State) (seat _stroke : Nat), Canonical s ∧ Runs s ∧ laneUp s seat = true ∧ s.pair.step = 3 ∧ s.pair.st = .alone := ⟨{ al9 with pair := { al9.pair with step := 3, peer := pr9.pair.peer } }, 2, 70000, by unfold Canonical Runs FSorted; decide⟩
theorem witness_PairFramesComplete_3 : ∃ (s : State) (seat : Nat) (b : Beat), Canonical s ∧ Runs s ∧ s.pair.st = .paired ∧ s.pair.step = 7 ∧ laneUp s seat = true ∧ b.st = .paired ∧ b.hold = false := ⟨pr9, 2, ⟨.paired, 70000, [1], 3, 4, false, 0, 500, 9, true⟩, by unfold Canonical Runs FSorted; decide⟩
theorem witness_PairFramesComplete_4 : ∃ (s : State) (seat _c _sw _g _u : Nat) (f : PHdr), Canonical s ∧ Runs s ∧ hasSession s = true ∧ f.auth = true ∧ f.keyId = (lane9 s seat).rxKey ∧ (lane9 s f.lane).trainedAt.isSome = true ∧ f.refuse = none ∧ (lane9 s seat).unacked = [] ∧ f.seq = rd s (Reg.PAIR_LANE_RX_SEQ_SEQ seat) := ⟨pr9, 2, 200, 1600, 400, 80000, h9, by unfold Canonical Runs FSorted; decide⟩
theorem witness_PairFramesComplete_5 : ∃ (s : State) (seat : Nat) (f : PHdr) (d : Delta), Canonical s ∧ Runs s ∧ hasSession s = true ∧ f.auth = true ∧ f.keyId = (lane9 s seat).rxKey ∧ (lane9 s f.lane).trainedAt.isSome = true ∧ f.refuse = none ∧ (lane9 s seat).unacked = [] ∧ f.seq = rd s (Reg.PAIR_LANE_RX_SEQ_SEQ seat) ∧ f.valid = true ∧ d.last = true ∧ journalForm d = true ∧ journalTags d = true ∧ (lane9 s seat).held = [] ∧ (lane9 s seat).dropped = [] ∧ (lane9 s seat).lastGroup = none := ⟨pr9, 2, h9, d9, by unfold Canonical Runs FSorted; decide⟩
theorem witness_PairFramesComplete_6 : ∃ (s : State) (seat : Nat) (f : PHdr), Runs s ∧ hasSession s = true ∧ f.auth = true ∧ f.keyId = (lane9 s seat).rxKey ∧ (lane9 s f.lane).trainedAt.isSome = true ∧ f.refuse = none := ⟨ln9 (fun l => { l with unacked := [⟨3, .control .anchors, 64, 0, 9⟩, ⟨8, .control .anchors, 64, 0, 9⟩] }) pr9, 2, h9, by unfold Runs; decide⟩
theorem witness_PairFramesComplete_7 : ∃ (s : State) (seat : Nat) (f : PHdr), Canonical s ∧ Runs s ∧ hasSession s = true ∧ f.auth = true ∧ f.keyId = (lane9 s seat).rxKey ∧ (lane9 s f.lane).trainedAt.isSome = true ∧ f.refuse = none ∧ (lane9 s seat).unacked.all (fun x => !seqUpTo x.seq f.ack) = true := ⟨ln9 (fun l => { l with unacked := [⟨8, .control .anchors, 64, 0, 9⟩] }) pr9, 2, h9, by unfold Canonical Runs FSorted; decide⟩
theorem witness_PairFramesComplete_8 : ∃ (s : State) (seat _page : Nat) (f : PHdr) (recs : List Delta) (_rows : List (Nat × Nat)), Runs s ∧ hasSession s = true ∧ f.auth = true ∧ f.keyId = (lane9 s seat).rxKey ∧ (lane9 s f.lane).trainedAt.isSome = true ∧ f.refuse = none ∧ (lane9 s seat).unacked = [] ∧ f.seq = rd s (Reg.PAIR_LANE_RX_SEQ_SEQ seat) ∧ f.valid = true ∧ recs.all syncForm = true := ⟨pr9, 2, 7, h9, [delta .release 1 3 1 7], [(0, 0)], by unfold Runs; decide⟩
theorem witness_PairFramesComplete_9 : ∃ (s : State) (seat : Nat) (f : PHdr) (recs : List Delta), Runs s ∧ hasSession s = true ∧ f.auth = true ∧ f.keyId = (lane9 s seat).rxKey ∧ (lane9 s f.lane).trainedAt.isSome = true ∧ f.refuse = none ∧ (lane9 s seat).unacked = [] ∧ f.seq = rd s (Reg.PAIR_LANE_RX_SEQ_SEQ seat) ∧ f.valid = true ∧ recs.all journalTags = true ∧ recs.all (fun d => !(s.pair.sides ++ s.pair.recovered).contains (deltaSide s d)) = true := ⟨{ pr9 with pair := { pr9.pair with sides := [1] } }, 2, h9, [d9], by unfold Runs; decide⟩
theorem witness_PairFramesComplete_10 : ∃ (s : State) , Canonical s ∧ Runs s ∧ hasSession s = true ∧ s.pair.heard = true := ⟨{ pr9 with pair := { pr9.pair with heard := true } }, by unfold Canonical Runs FSorted; decide⟩
theorem witness_PairFramesComplete_11 : ∃ (s : State) , Canonical s ∧ Runs s ∧ hasSession s = true ∧ s.pair.heard = false ∧ rd s Reg.PAIR_HB_MISSED_COUNT < 999 := ⟨pr9, by unfold Canonical Runs FSorted; decide⟩
theorem witness_ClaimCommandsComplete_1 : ∃ (s : State) (slot term _side : Nat) (c : Claim), Runs s ∧ s.pair.claim = some c ∧ c.asked.contains slot = true ∧ fhas c.replies slot = false ∧ term = c.term ∧ claimLoses s { c with replies := fset c.replies slot (mySide s) } = false ∧ claimWins s { c with replies := fset c.replies slot (mySide s) } = false ∧ c.asked.all (fun n => fhas (fset c.replies slot (mySide s)) n) = false := ⟨{ pr9 with pair := { pr9.pair with claim := some ⟨9, 60000, [], [2, 3], false⟩ } }, 2, 9, 0, ⟨9, 60000, [], [2, 3], false⟩, by unfold Runs; decide⟩
theorem witness_ClaimCommandsComplete_2 : ∃ (s : State) (c : Claim), Runs s ∧ s.pair.claim = some c ∧ c.started + max 1 (rd s Reg.PAIR_CLAIM_TIMEOUT) ≤ s.stk.ext ∧ s.pair.undecided + 1 < rd s Reg.PAIR_CLAIM_RETRIES := ⟨{ pr9 with pair := { pr9.pair with claim := some ⟨9, 60, [], [2, 3], false⟩ } }, ⟨9, 60, [], [2, 3], false⟩, by unfold Runs; decide⟩
theorem witness_ClaimCommandsComplete_3 : ∃ (s : State) (u : Nat), Runs s ∧ s.pair.retryAt = some u ∧ u ≤ s.stk.ext ∧ s.pair.claim = none ∧ s.pair.st = .armed ∧ attestedSlots s ≠ [] ∧ s.par.groups ≠ [] := ⟨{ al9 with pair := { al9.pair with st := .armed, retryAt := some 9 } }, 9, by unfold Runs; decide⟩
theorem witness_ClaimCommandsComplete_4 : ∃ (s : State) (slot epoch o u : Nat) (_log : List (Nat × List Delta)), Canonical s ∧ slot < 96 ∧ epoch < 4294967296 ∧ (slotOf s slot).fencing = some (o, epoch, u) ∧ s.pair.take = none ∧ s.pair.failback = none := ⟨fen9, 2, 9, 0, 60000, [], by unfold Canonical FSorted; decide⟩
theorem witness_ClaimCommandsComplete_5 : ∃ (s : State) (slot o e u pool : Nat) (_log : List (Nat × List Delta)) (g : Group), (slotOf s slot).fencing = some (o, e, u) ∧ u + rd s Reg.PAIR_FENCE_TIMEOUT_STROKES ≤ s.stk.ext ∧ s.pair.take = none ∧ s.pair.failback = none ∧ groupOf s pool = some g := ⟨fen9, 1, 0, 9, 60000, 0, [], gp [(0, row0 .programmed)], by decide⟩
theorem witness_ClaimCommandsComplete_6 : ∃ (s : State) (u : Nat), Runs s ∧ s.pair.joinFrom = some u ∧ s.pair.st = .alone ∧ u + rd s Reg.PAIR_JOIN_WAIT_STROKES ≤ s.stk.ext ∧ s.pair.helloSeen = false ∧ s.pair.claim = none ∧ s.pair.retryAt = none ∧ attestedSlots s ≠ [] ∧ s.par.groups ≠ [] := ⟨{ al9 with stk := { al9.stk with ext := 200000 } }, 10000, by unfold Runs; decide⟩
theorem witness_ClaimCommandsComplete_7 : ∃ (s : State) (u : Nat), s.pair.refusedAt = some u ∧ u + 10000 ≤ s.stk.ext := ⟨{ al9 with pair := { al9.pair with refusedAt := some 9 } }, 9, by decide⟩
theorem witness_ClaimCommandsComplete_8 : ∃ (s : State) (f : Failback), Runs s ∧ s.pair.failback = some f ∧ f.step = 1 ∧ f.incoming = false ∧ drained s f.sides = true := ⟨{ pr9 with pair := { pr9.pair with failback := some ⟨60000, [0], 1, none, false⟩ } }, ⟨60000, [0], 1, none, false⟩, by unfold Runs; decide⟩
theorem witness_PairCommandsComplete_1 : ∃ (s : State) (slot : Nat), CmdReady slot Opc.pairStatusGet s := ⟨cmdIn Opc.pairStatusGet pr9, 3, by unfold CmdReady; decide⟩
theorem witness_PairCommandsComplete_2 : ∃ (s : State) (slot : Nat) (_hold : Bool), CmdReady slot Opc.pairFailbackHold s ∧ s.pair.failback = none := ⟨cmdIn Opc.pairFailbackHold pr9, 3, true, by unfold CmdReady; decide⟩
theorem witness_PairCommandsComplete_3 : ∃ (s : State) (slot : Nat), CmdReady slot Opc.pairHandover s ∧ s.pair.st = .paired ∧ s.pair.failback = none ∧ s.pair.sides ≠ [] := ⟨cmdIn Opc.pairHandover pr9, 3, by unfold CmdReady; decide⟩
theorem witness_PairCommandsComplete_4 : ∃ (s : State) (slot : Nat), CmdReady slot Opc.pairGoSolo s ∧ s.pair.st = .alone ∧ s.pair.claim = none ∧ attestedSlots s ≠ [] ∧ s.par.groups ≠ [] := ⟨cmdIn Opc.pairGoSolo al9, 3, by unfold CmdReady; decide⟩
theorem witness_PairCommandsComplete_5 : ∃ (s : State) (slot c sw g u : Nat), CmdReady slot Opc.pairWindowsSet s ∧ s.pair.st = .paired ∧ windowsBad s c sw g u = none := ⟨cmdIn Opc.pairWindowsSet pr9, 3, 200, 1600, 400, 80000, by unfold CmdReady; decide⟩
theorem witness_PairCommandsComplete_6 : ∃ (s : State) (slot lane : Nat), CmdReady slot Opc.pairLaneSet s ∧ lane < s.hw.seats := ⟨cmdIn Opc.pairLaneSet pr9, 3, 2, by unfold CmdReady; decide⟩
theorem witness_PairCommandsComplete_7 : ∃ (s : State) (slot lane : Nat), Canonical s ∧ CmdReady slot Opc.pairLaneSet s ∧ lane < s.hw.seats ∧ rd s (Reg.PAIR_LANE_STATUS_STATE lane) ≠ 3 := ⟨cmdIn Opc.pairLaneSet pr9, 3, 2, by unfold Canonical CmdReady FSorted; decide⟩

end D10

namespace D11

def cfg9 : LoopCfg := ⟨true, 0, false, 0, true, 64881, 10, 64, 5000, 0, 0, 4095, 1024, 1000, 100, [[1000, 0, 0, 0, 0]]⟩
def rat9 (f : RateSeat → RateSeat) : State := let s := setR [(Reg.RATE_CTRL_ENABLE 1, 1)] (mapped (row0 .programmed) id); { s with rate := [(1, f rateReset)], nv := { s.nv with ns := [(1, { ns0 with cg := some 3 }), (2, ns0)] } }
def easyL : EasyAll := ⟨100, [], none, 60000, 60000, none⟩
def sn9 (taken : Bool) : Snap := ⟨3, 1, 60000, [1], taken, false, false, true, 60, none, [if taken then 4294967296 else 0], false, [0], [(0, np)]⟩
def snS (taken : Bool) (f : State → State) : State := let s := rat9 id; f { s with stk := { s.stk with ext := 70000 }, snp := { s.snp with cgs := [(3, ⟨1, [1]⟩)], snaps := [(8, sn9 taken)], nextSnap := 5 } }

theorem witness_RatingCommandsComplete_1 : ∃ (s : State) (seat start cycles : Nat) (i : Nat), Canonical s ∧ (rateSeat s seat).computed = false ∧ start ≤ 200 ∧ start < rd s Reg.STK_PERIOD_TICKS ∧ isSet s (Reg.RATE_CTRL_ENABLE seat) = true ∧ isSet s (Reg.RATE_STATUS_FROZEN seat) = false ∧ enabledLoops (rateSeat s seat) = [i] ∧ loopCost (fgetD (rateSeat s seat).loops i loopReset) ≤ min cycles ((rd s Reg.STK_PERIOD_TICKS - start) * 15) := ⟨rat9 (fun r => { r with loops := [(4, { loopReset with cfg := cfg9 })] }), 1, 20, 5000, 4, by unfold Canonical FSorted; decide⟩
theorem witness_RatingCommandsComplete_2 : ∃ (s : State) (seat start cycles i : Nat) (l : Loop), Canonical s ∧ (rateSeat s seat).computed = false ∧ start ≤ 200 ∧ start < rd s Reg.STK_PERIOD_TICKS ∧ isSet s (Reg.RATE_CTRL_ENABLE seat) = true ∧ isSet s (Reg.RATE_STATUS_FROZEN seat) = false ∧ enabledLoops (rateSeat s seat) = [i] ∧ fget (rateSeat s seat).loops i = some l ∧ min cycles ((rd s Reg.STK_PERIOD_TICKS - start) * 15) < loopCost l := ⟨rat9 (fun r => { r with loops := [(4, { loopReset with cfg := cfg9 })] }), 1, 20, 0, 4, { loopReset with cfg := cfg9 }, by unfold Canonical FSorted; decide⟩
theorem witness_RatingCommandsComplete_3 : ∃ (s : State) (slot seat loop sp slope : Nat), CmdReady slot Opc.rateSetpointSet s ∧ seat < s.hw.seats ∧ loop < 4096 ∧ sp ≤ 262143 ∧ slope ≤ 1048575 := ⟨cmdIn Opc.rateSetpointSet (rat9 id), 3, 1, 7, 5000, 3, by unfold CmdReady; decide⟩
theorem witness_RatingCommandsComplete_4 : ∃ (s : State) (slot seat loop rate : Nat), CmdReady slot Opc.rateOpenSet s ∧ seat < s.hw.seats ∧ loop < 4096 ∧ rate ≤ 4095 ∧ (loopOf s seat loop).cfg.enable = false := ⟨cmdIn Opc.rateOpenSet (rat9 id), 3, 1, 7, 900, by unfold CmdReady; decide⟩
theorem witness_RatingCommandsComplete_5 : ∃ (s : State) (slot seat loop : Nat) (_cfg : LoopCfg) (e : EasyAll), CmdReady slot Opc.rateLoopsStage s ∧ readsOut s slot = false ∧ fget s.mbx.easy (easyKey ⟨.loopSet, seat⟩) = some e ∧ e.slot = none ∧ e.commit = none ∧ loop < 4096 := ⟨cmdIn Opc.rateLoopsStage (let s := rat9 id; { s with mbx := { s.mbx with easy := [(easyKey ⟨.loopSet, 1⟩, easyL)] } }), 3, 1, 7, cfg9, easyL, by unfold CmdReady; decide⟩
theorem witness_RatingCommandsComplete_6 : ∃ (s : State) (slot seat : Nat), CmdReady slot Opc.rateTableGet s ∧ seat < s.hw.seats ∧ s.pci.bme = true := ⟨cmdIn Opc.rateTableGet (rat9 (fun r => { r with loops := [(4, { loopReset with cfg := cfg9 })] })), 3, 1, by unfold CmdReady; decide⟩
theorem witness_RatingCommandsComplete_7 : ∃ (s : State) (_seat _value : Nat), Canonical s := ⟨rat9 id, 1, 4100, by unfold Canonical FSorted; decide⟩
theorem witness_SnapshotCommandsComplete_1 : ∃ (s : State) (slot cg u : Nat), CmdReady slot Opc.snapCreate s ∧ snapCheck s cg u = .ok ∧ s.pair.st = .paired := ⟨cmdIn Opc.snapCreate (snS true fun s => { s with pair := { s.pair with st := .paired } }), 3, 3, 70100, by unfold CmdReady; decide⟩
theorem witness_SnapshotCommandsComplete_2 : ∃ (s : State) (slot cg u : Nat), CmdReady slot Opc.snapCreate s ∧ snapCheck s cg u = .ok ∧ s.pair.st = .solo := ⟨cmdIn Opc.snapCreate (snS true id), 3, 3, 70100, by unfold CmdReady; decide⟩
theorem witness_SnapshotCommandsComplete_3 : ∃ (s : State) (slot snap : Nat) (x : Snap), CmdReady slot Opc.snapDelete s ∧ snapOf s snap = some x ∧ x.confirmed = true ∧ x.taken = false ∧ snapNeeded s snap = false ∧ FSorted s.snp.snaps := ⟨cmdIn Opc.snapDelete (snS false id), 3, 8, sn9 false, by unfold CmdReady FSorted; decide⟩
theorem witness_SnapshotCommandsComplete_4 : ∃ (s : State) (slot snap : Nat) (x : Snap), CmdReady slot Opc.snapDelete s ∧ snapOf s snap = some x ∧ x.confirmed = true ∧ x.taken = true ∧ snapNeeded s snap = false := ⟨cmdIn Opc.snapDelete (snS true fun s => { s with map := { s.map with dirs := [(dirKey 4294967296 0, ⟨1, none, true, true, false⟩)] } }), 3, 8, sn9 true, by unfold CmdReady; decide⟩
theorem witness_SnapshotCommandsComplete_5 : ∃ (s : State) (slot cg : Nat), CmdReady slot Opc.snapList s ∧ fhas s.snp.cgs cg = true ∧ s.pci.bme = true := ⟨cmdIn Opc.snapList (snS true id), 3, 3, by unfold CmdReady; decide⟩
theorem witness_SnapshotCommandsComplete_6 : ∃ (s : State) (slot snap member nsid : Nat) (x : Snap) (p : NsParams), CmdReady slot Opc.snapClone s ∧ snapOf s snap = some x ∧ x.taken = true ∧ member < x.members.length ∧ nsid ≠ 0 ∧ nsid < 4294967295 ∧ nsOf s nsid = none ∧ fhas s.map.releasing nsid = false ∧ fget x.params member = some p ∧ loopTaken s p.loop = false ∧ ownsSide s p.side = true := ⟨cmdIn Opc.snapClone (snS true id), 3, 8, 0, 9, sn9 true, np, by unfold CmdReady; decide⟩
theorem witness_SnapshotCommandsComplete_7 : ∃ (s : State) (slot snap : Nat) (x : Snap), CmdReady slot Opc.snapInfo s ∧ snapOf s snap = some x := ⟨cmdIn Opc.snapInfo (snS true id), 3, 8, sn9 true, by unfold CmdReady; decide⟩
theorem witness_SnapshotCommandsComplete_8 : ∃ (s : State) (slot snap : Nat) (x : Snap), CmdReady slot Opc.snapSpace s ∧ snapOf s snap = some x ∧ x.taken = true ∧ exclusiveRefs s x = [] := ⟨cmdIn Opc.snapSpace (snS true id), 3, 8, sn9 true, by unfold CmdReady; decide⟩
theorem witness_GroupsOfNamespacesComplete_1 : ∃ (s : State) (slot cg tenant : Nat) (members : List Nat), CmdReady slot Opc.cgCreate s ∧ cg < 4096 ∧ fhas s.snp.cgs cg = false ∧ fhas s.nv.tenants tenant = true ∧ members ≠ [] ∧ members.length ≤ 256 ∧ members.eraseDups = members ∧ members.all (memberOk s tenant) = true := ⟨cmdIn Opc.cgCreate (rat9 id), 3, 5, 1, [2], by unfold CmdReady; decide⟩
theorem witness_GroupsOfNamespacesComplete_2 : ∃ (s : State) (slot cg nsid : Nat) (c : Cg), CmdReady slot Opc.cgMemberSet s ∧ fget s.snp.cgs cg = some c ∧ memberOk s c.tenant nsid = true ∧ c.members.length < 256 ∧ (groupSnaps s cg).any (fun x => !x.2.taken) = false ∧ (groupLinks s cg).any (fun l => l.2.cur.isSome) = false := ⟨cmdIn Opc.cgMemberSet (snS true id), 3, 3, 2, ⟨1, [1]⟩, by unfold CmdReady; decide⟩
theorem witness_GroupsOfNamespacesComplete_3 : ∃ (s : State) (slot cg nsid : Nat) (c : Cg), CmdReady slot Opc.cgMemberSet s ∧ fget s.snp.cgs cg = some c ∧ c.members.contains nsid = true ∧ c.members ≠ [nsid] ∧ (groupSnaps s cg).any (fun x => !x.2.taken) = false ∧ (groupLinks s cg).any (fun l => l.2.cur.isSome) = false := ⟨cmdIn Opc.cgMemberSet (snS true fun s => { s with snp := { s.snp with cgs := [(3, ⟨1, [1, 2]⟩)] } }), 3, 3, 1, ⟨1, [1, 2]⟩, by unfold CmdReady; decide⟩
theorem witness_GroupsOfNamespacesComplete_4 : ∃ (s : State) (slot cg : Nat), CmdReady slot Opc.cgDelete s ∧ fhas s.snp.cgs cg = true ∧ groupSnaps s cg = [] ∧ groupLinks s cg = [] ∧ FSorted s.snp.cgs := ⟨cmdIn Opc.cgDelete (snS true fun s => { s with snp := { s.snp with snaps := [] } }), 3, 3, by unfold CmdReady FSorted; decide⟩

end D11

namespace D12

def lp9 (target : Bool) : LinkParams := ⟨3, target, 9, [77], 600000, 67108864, false, 1, 20000⟩
def pt9 : Part := ⟨some (0, 7), 0, true, false, 60000, 0, none, true, false, 0, 0, false, [], false, 0, [], [], [], [], none⟩
def de9 : DeltaEnt := ⟨0, 3, 1, 0⟩
def li9 (target : Bool) (p : Part) (f : Link → Link) : Link := f ⟨lp9 target, [(0, p)], false, false, 4, some 5, 1, none, some 8, 60000, if target then [4294967300] else [], 0, 0, 0, 0, 0, 0, 0⟩
def sp9 : Snap := ⟨3, 1, 60000, [1], true, false, false, true, 60, none, [4294967296], false, [0], [(0, np)]⟩
def re9 (l : Link) : State := let s := mapped (row0 .programmed) id; { s with stk := { s.stk with ext := 70000 }, nv := { s.nv with ns := [(1, { ns0 with cg := some 3 })] }, snp := { s.snp with cgs := [(3, ⟨1, [1]⟩)], snaps := [(8, sp9)], nextSnap := 5, links := [(7, l)] } }
def re0 : State := { re9 (li9 false pt9 id) with snp := { (re9 (li9 false pt9 id)).snp with links := [] } }

theorem witness_LinkCommandsOfHostComplete_1 : ∃ (s : State) (slot link : Nat) (p : LinkParams), CmdReady slot Opc.replLinkCreate s ∧ s.snp.links.length < 256 ∧ link < 256 ∧ fhas s.snp.links link = false ∧ linkMembers s p ≠ [] ∧ (groupLinks s p.cg).any (fun l => l.2.p.target == p.target) = false ∧ p.target = false ∧ p.addrs ≠ [] ∧ p.addrs.length ≤ 2 ∧ 4194304 ≤ (linkDefaults p).window ∧ (linkDefaults p).window ≤ 1073741824 ∧ p.subport < 4 * s.hw.seats := ⟨cmdIn Opc.replLinkCreate re0, 3, 7, lp9 false, by unfold CmdReady; decide⟩
theorem witness_LinkCommandsOfHostComplete_2 : ∃ (s : State) (slot link : Nat) (p : LinkParams), CmdReady slot Opc.replLinkCreate s ∧ s.snp.links.length < 256 ∧ link < 256 ∧ fhas s.snp.links link = false ∧ linkMembers s p ≠ [] ∧ (groupLinks s p.cg).any (fun l => l.2.p.target == p.target) = false ∧ p.target = true ∧ ((linkMembers s p).map (nsSide s)).eraseDups.length = 1 ∧ (linkMembers s p).all (fun n => (nsSide s n).any (ownsSide s)) = true ∧ p.addrs ≠ [] ∧ p.addrs.length ≤ 2 ∧ 4194304 ≤ (linkDefaults p).window ∧ (linkDefaults p).window ≤ 1073741824 ∧ p.subport < 4 * s.hw.seats := ⟨cmdIn Opc.replLinkCreate re0, 3, 7, lp9 true, by unfold CmdReady; decide⟩
theorem witness_LinkCommandsOfHostComplete_3 : ∃ (s : State) (slot link : Nat) (l : Link), CmdReady slot Opc.replEpochNow s ∧ linkOf s link = some l ∧ l.p.target = false ∧ l.failed = false ∧ l.cur = none := ⟨cmdIn Opc.replEpochNow (re9 (li9 false pt9 fun l => { l with cur := none })), 3, 7, li9 false pt9 fun l => { l with cur := none }, by unfold CmdReady; decide⟩
theorem witness_LinkCommandsOfHostComplete_4 : ∃ (s : State) (slot link : Nat) (l : Link), CmdReady slot Opc.replPause s ∧ linkOf s link = some l := ⟨cmdIn Opc.replPause (re9 (li9 false pt9 id)), 3, 7, li9 false pt9 id, by unfold CmdReady; decide⟩
theorem witness_LinkCommandsOfHostComplete_5 : ∃ (s : State) (slot link : Nat) (l : Link), CmdReady slot Opc.replStatusGet s ∧ linkOf s link = some l := ⟨cmdIn Opc.replStatusGet (re9 (li9 false pt9 id)), 3, 7, li9 false pt9 id, by unfold CmdReady; decide⟩
theorem witness_LinkCommandsOfHostComplete_6 : ∃ (s : State) (slot link : Nat) (l : Link), CmdReady slot Opc.replPromote s ∧ FSorted s.snp.links ∧ linkOf s link = some l ∧ l.p.target = true ∧ (linkMembers s l.p).all (fun n => (nsSide s n).any (ownsSide s)) = true ∧ l.parts = [] := ⟨cmdIn Opc.replPromote (re9 (li9 true pt9 fun l => { l with parts := [] })), 3, 7, li9 true pt9 fun l => { l with parts := [] }, by unfold CmdReady FSorted; decide⟩
theorem witness_LinkCommandsOfHostComplete_7 : ∃ (s : State) (slot link : Nat) (l : Link), CmdReady slot Opc.replLinkDelete s ∧ FSorted s.snp.links ∧ linkOf s link = some l := ⟨cmdIn Opc.replLinkDelete (re9 (li9 false pt9 id)), 3, 7, li9 false pt9 id, by unfold CmdReady FSorted; decide⟩
theorem witness_LinkCommandsOfHostComplete_8 : ∃ (s : State) (value : Nat) (l : Link), Canonical s ∧ linkOf s (value % 256) = some l ∧ l.epoch < 4294967296 := ⟨re9 (li9 false pt9 id), 263, li9 false pt9 id, by unfold Canonical FSorted; decide⟩
theorem witness_EpochsAndBatchesComplete_1 : ∃ (s : State) (link d : Nat) (l : Link), Runs s ∧ linkOf s link = some l ∧ l.p.target = false ∧ l.failed = false ∧ l.next ≤ s.stk.ext ∧ l.cur = none ∧ l.parts.any (fun p => p.2.waiting) = false ∧ ([0, 1].find? fun d => (linkMembers s l.p).any fun m => nsSide s m == some d) = some d ∧ ownsSide s d = true ∧ snapCheck s l.p.cg (s.stk.ext + 20) = .ok := ⟨re9 (li9 false pt9 fun l => { l with cur := none, snap := none }), 7, 0, li9 false pt9 fun l => { l with cur := none, snap := none }, by unfold Runs; decide⟩
theorem witness_EpochsAndBatchesComplete_2 : ∃ (s : State) (link part i : Nat) (l : Link) (x : Snap), Runs s ∧ linkOf s link = some l ∧ l.p.target = false ∧ l.failed = false ∧ l.cur.isSome = true ∧ l.snap = some i ∧ fget s.snp.snaps i = some x ∧ x.taken = true ∧ (partOf l part).delta = none ∧ (partsRun s l).contains part = true := ⟨re9 (li9 false pt9 id), 7, 0, 8, li9 false pt9 id, sp9, by unfold Runs; decide⟩
theorem witness_EpochsAndBatchesComplete_3 : ∃ (s : State) (link part seat q : Nat) (h : ReplHello) (l : Link), Runs s ∧ linkOf s link = some l ∧ l.failed = false ∧ l.p.target = false ∧ partUp s (partOf l part) = true ∧ h.sameMajor = true ∧ h.geometry = true ∧ h.refused = false ∧ l.cur ≠ some h.committed ∧ (partOf l part).qp = some (seat, q) := ⟨re9 (li9 false pt9 id), 7, 0, 0, 7, ⟨true, true, false, 4, none⟩, li9 false pt9 id, by unfold Runs; decide⟩
theorem witness_EpochsAndBatchesComplete_4 : ∃ (s : State) (link part : Nat) (l : Link), Runs s ∧ linkOf s link = some l ∧ l.failed = false ∧ partUp s (partOf l part) = true ∧ (partOf l part).keyed = false := ⟨re9 (li9 false { pt9 with keyed := false, waiting := true } id), 7, 0, li9 false { pt9 with keyed := false, waiting := true } id, by unfold Runs; decide⟩
theorem witness_EpochsAndBatchesComplete_5 : ∃ (s : State) (link part epoch _u _parts _batches : Nat) (l : Link), Runs s ∧ linkOf s link = some l ∧ l.p.target = true ∧ l.failed = false ∧ (partOf l part).keyed = true ∧ (l.cur = none ∨ l.cur = some epoch) := ⟨re9 (li9 true pt9 id), 7, 0, 5, 60000, 1, 2, li9 true pt9 id, by unfold Runs; decide⟩
theorem witness_EpochsAndBatchesComplete_6 : ∃ (s : State) (link part epoch batch seat q : Nat) (_ents : List DeltaEnt) (l : Link), Runs s ∧ linkOf s link = some l ∧ l.p.target = true ∧ l.failed = false ∧ l.cur = some epoch ∧ (partOf l part).keyed = true ∧ (partOf l part).applying = [] ∧ batch = nextBatch (partOf l part) ∧ partUp s (partOf l part) = true ∧ (partOf l part).qp = some (seat, q) := ⟨re9 (li9 true pt9 id), 7, 0, 5, 0, 0, 7, [de9], li9 true pt9 id, by unfold Runs; decide⟩
theorem witness_EpochsAndBatchesComplete_7 : ∃ (s : State) (link part epoch batch : Nat) (_want : List Nat) (l : Link) (d : List DeltaEnt), Runs s ∧ linkOf s link = some l ∧ (partOf l part).keyed = true ∧ l.p.target = false ∧ l.cur = some epoch ∧ (partOf l part).delta = some d ∧ (partOf l part).batch = batch ∧ (partOf l part).offering = true := ⟨re9 (li9 false { pt9 with delta := some [⟨0, 3, 0, 9⟩], offering := true } id), 7, 0, 5, 0, [0], li9 false { pt9 with delta := some [⟨0, 3, 0, 9⟩], offering := true } id, [⟨0, 3, 0, 9⟩], by unfold Runs; decide⟩
theorem witness_EpochsAndBatchesComplete_8 : ∃ (s : State) (link part epoch batch len : Nat) (l : Link), Runs s ∧ linkOf s link = some l ∧ (partOf l part).keyed = true ∧ l.p.target = false ∧ l.cur = some epoch ∧ (partOf l part).batch = batch ∧ (partOf l part).armed = true ∧ len ≤ l.p.window := ⟨re9 (li9 false { pt9 with delta := some [⟨0, 3, 0, 9⟩], offering := true, armed := true, wanted := [0] } id), 7, 0, 5, 0, 9000, li9 false { pt9 with delta := some [⟨0, 3, 0, 9⟩], offering := true, armed := true, wanted := [0] } id, by unfold Runs; decide⟩
theorem witness_EpochsAndBatchesComplete_9 : ∃ (s : State) (link part epoch batch len i seat q : Nat) (l : Link) (d : List DeltaEnt) (e : DeltaEnt), Runs s ∧ linkOf s link = some l ∧ (partOf l part).keyed = true ∧ l.p.target = false ∧ l.cur = some epoch ∧ (partOf l part).batch = batch ∧ (partOf l part).armed = true ∧ len ≤ l.p.window ∧ (partOf l part).wanted = [i] ∧ (partOf l part).delta = some d ∧ (batchOf d batch)[i]? = some e ∧ partUp s (partOf l part) = true ∧ (partOf l part).qp = some (seat, q) := ⟨re9 (li9 false { pt9 with delta := some [⟨0, 3, 0, 9⟩], offering := true, armed := true, wanted := [0] } id), 7, 0, 5, 0, 9000, 0, 0, 7, li9 false { pt9 with delta := some [⟨0, 3, 0, 9⟩], offering := true, armed := true, wanted := [0] } id, [⟨0, 3, 0, 9⟩], ⟨0, 3, 0, 9⟩, by unfold Runs; decide⟩
theorem witness_EpochsAndBatchesComplete_10 : ∃ (s : State) (link part epoch batch ns : Nat) (l : Link) (e : DeltaEnt) (q : NsParams), Runs s ∧ linkOf s link = some l ∧ (partOf l part).keyed = true ∧ l.p.target = true ∧ l.failed = false ∧ l.cur = some epoch ∧ batch = nextBatch (partOf l part) ∧ (partOf l part).offered = [e] ∧ e.kind = 1 ∧ (partOf l part).held = [] ∧ (partOf l part).applying = [] ∧ (linkMembers s l.p)[e.member]? = some ns ∧ nsCur s ns = some q ∧ e.lba < q.size := ⟨re9 (li9 true { pt9 with offered := [de9] } id), 7, 0, 5, 0, 1, li9 true { pt9 with offered := [de9] } id, de9, np, by unfold Runs; decide⟩
theorem witness_EpochsAndBatchesComplete_11 : ∃ (s : State) (link part epoch batch : Nat) (l : Link), Runs s ∧ linkOf s link = some l ∧ (partOf l part).keyed = true ∧ l.p.target = false ∧ l.cur = some epoch ∧ (partOf l part).batch = batch ∧ (partOf l part).offering = true := ⟨re9 (li9 false { pt9 with delta := some [⟨0, 3, 0, 9⟩], offering := true } id), 7, 0, 5, 0, li9 false { pt9 with delta := some [⟨0, 3, 0, 9⟩], offering := true } id, by unfold Runs; decide⟩
theorem witness_EpochsAndBatchesComplete_12 : ∃ (s : State) (link part epoch batch : Nat) (l : Link), Canonical s ∧ Runs s ∧ linkOf s link = some l ∧ (partOf l part).keyed = true ∧ l.p.target = false ∧ l.cur = some epoch ∧ (partOf l part).batch = batch ∧ (partOf l part).offering = true ∧ (partOf l part).refusals < 2 := ⟨re9 (li9 false { pt9 with delta := some [⟨0, 3, 0, 9⟩], offering := true } id), 7, 0, 5, 0, li9 false { pt9 with delta := some [⟨0, 3, 0, 9⟩], offering := true } id, by unfold Canonical Runs FSorted; decide⟩
theorem witness_EpochsAndBatchesComplete_13 : ∃ (s : State) (link part epoch : Nat) (l : Link) (p : Part), Canonical s ∧ Runs s ∧ linkOf s link = some l ∧ l.p.target = true ∧ l.failed = false ∧ l.cur = some epoch ∧ l.parts = [(part, p)] ∧ p.keyed = true ∧ l.nparts = 1 ∧ p.applying = [] ∧ p.batches ≤ nextBatch p := ⟨re9 (li9 true pt9 id), 7, 0, 5, li9 true pt9 id, pt9, by unfold Canonical Runs FSorted; decide⟩
theorem witness_EpochsAndBatchesComplete_14 : ∃ (s : State) (link part epoch : Nat) (l : Link), Runs s ∧ linkOf s link = some l ∧ l.p.target = false ∧ (partOf l part).keyed = true ∧ l.cur = some epoch := ⟨re9 (li9 false pt9 id), 7, 0, 5, li9 false pt9 id, by unfold Runs; decide⟩
theorem witness_EpochsAndBatchesComplete_15 : ∃ (s : State) (link part _reason : Nat) (l : Link), Runs s ∧ linkOf s link = some l ∧ (partOf l part).keyed = true ∧ l.p.target = false := ⟨re9 (li9 false pt9 id), 7, 0, 1, li9 false pt9 id, by unfold Runs; decide⟩
theorem witness_EpochsAndBatchesComplete_16 : ∃ (s : State) (link part _reason : Nat) (l : Link), Canonical s ∧ Runs s ∧ linkOf s link = some l ∧ (partOf l part).keyed = true ∧ l.failed = false := ⟨re9 (li9 false pt9 id), 7, 0, 1, li9 false pt9 id, by unfold Canonical Runs FSorted; decide⟩
theorem witness_EpochsAndBatchesComplete_17 : ∃ (s : State) (link part : Nat) (l : Link), Canonical s ∧ Runs s ∧ linkOf s link = some l ∧ l.failed = false ∧ fhas l.parts part = true ∧ (partOf l part).waiting = false ∧ (partOf l part).heard + l.p.timeout ≤ s.stk.ext := ⟨re9 (li9 false { pt9 with heard := 10000 } id), 7, 0, li9 false { pt9 with heard := 10000 } id, by unfold Canonical Runs FSorted; decide⟩
theorem witness_EpochsAndBatchesComplete_18 : ∃ (s : State) (link part : Nat) (l : Link), Runs s ∧ linkOf s link = some l ∧ l.failed = false ∧ l.p.target = false ∧ (partOf l part).waiting = true ∧ (partOf l part).retryAt ≤ s.stk.ext ∧ (partOf l part).qp = none ∧ qpOf s (l.p.subport / 4) 0 = none := ⟨setR [(Reg.FE_PORT_STATUS_LINK_UP 2, 2)] (re9 (li9 false { pt9 with qp := none, waiting := true } id)), 7, 0, li9 false { pt9 with qp := none, waiting := true } id, by unfold Runs; decide⟩

end D12

namespace D13

def dom9 : Domain := ⟨1, false, 1, false, false, false, true, [1], [], none, 0, none, 11, true, none⟩
def ke9 (f : Domain → Domain) : State := let s := mapped (row0 .programmed) id; { s with stk := { s.stk with ext := 70000 }, keys := { s.keys with domains := [(1, f dom9)], slots := [(2, [slotKey 0 1 1])], asked := [(2, [slotKey 0 1 2])], ctrs := [(ctrKey 2 1 1, ⟨1, 1, some 1048577, 0⟩)] } }
def kl9 : Link := ⟨⟨3, false, 9, [77], 600000, 67108864, false, 1, 20000⟩, [(0, ⟨some (0, 7), 0, true, false, 60000, 0, none, true, false, 0, 0, false, [], false, 0, [], [], [], [], none⟩)], false, false, 4, none, 0, none, none, 60000, [], 0, 0, 0, 0, 0, 0, 0⟩
def kf9 : State := let s := ke9 id; { s with snp := { s.snp with cgs := [(3, ⟨1, [1]⟩)], links := [(7, kl9)] } }
def dc9 (st : Nat) : State := let s := ke9 id; { s with keys := { s.keys with ctxs := [(pairKey 2 5, ⟨st, 1, true, false, false, 3, false, 9, [11, 12]⟩)] } } |> setR [(Reg.DIG_CTX_SELECT_CONTEXT 2, 5)]
def se9 (k : Nat) (l : FMap SpdmSession) : State := let s := setR [(Reg.MGT_STATUS_ADDRESSED, 1)] up; { s with pci := { s.pci with doe := true }, keys := { s.keys with conns := [(0, ⟨k, 8, some 9⟩), (1, ⟨k, 8, some 9⟩)], sessions := l, nextSession := 4, ownerChain := some 6 } }

theorem witness_KeyStoreCommandsComplete_1 : ∃ (s : State) (seat kind domain gen : Nat) (x : Domain), Runs s ∧ domainOf s domain = some x ∧ x.secret = true ∧ (fgetD s.keys.asked seat []).contains (slotKey kind domain gen) = true := ⟨ke9 id, 2, 0, 1, 2, dom9, by unfold Runs; decide⟩
theorem witness_KeyStoreCommandsComplete_2 : ∃ (s : State) (seat domain gen n : Nat) (c : Counter), Runs s ∧ fget s.keys.ctrs (ctrKey seat domain gen) = some c ∧ c.writing = some n := ⟨ke9 id, 2, 1, 1, 1048577, ⟨1, 1, some 1048577, 0⟩, by unfold Runs; decide⟩
theorem witness_KeyStoreCommandsComplete_3 : ∃ (s : State) (domain e slot : Nat) (x : Domain), Runs s ∧ domainOf s domain = some x ∧ x.erase = some (e, some slot) ∧ x.secret = true ∧ e ≤ s.stk.ext ∧ s.nv.cmds.any (fun c => c.2.p.domain == domain && c.2.stage != .waiting) = false ∧ hasSession s = false ∧ (slotAt s slot).orphan = false := ⟨ke9 (fun x => { x with erase := some (60000, some 3) }), 1, 60000, 3, { dom9 with erase := some (60000, some 3) }, by unfold Runs; decide⟩
theorem witness_KeyStoreCommandsComplete_4 : ∃ (s : State) (seat _word : Nat), (ctxOf s seat (rd s (Reg.DIG_CTX_SELECT_CONTEXT seat))).st = 2 := ⟨dc9 2, 2, 0, by decide⟩
theorem witness_KeyStoreCommandsComplete_5 : ∃ (s : State) (seat _word : Nat), Canonical s ∧ (ctxOf s seat (rd s (Reg.DIG_CTX_SELECT_CONTEXT seat))).st = 1 := ⟨dc9 1, 2, 0, by unfold Canonical FSorted; decide⟩
theorem witness_KeyStoreCommandsComplete_6 : ∃ (s : State) (_seat _value : Nat), Canonical s := ⟨dc9 2, 2, 5, by unfold Canonical FSorted; decide⟩
theorem witness_KeyStoreCommandsComplete_7 : ∃ (s : State) (value : Nat) (x : Domain), Canonical s ∧ domainOf s (value % 8192) = some x ∧ x.gen < 65536 := ⟨ke9 id, 8193, dom9, by unfold Canonical FSorted; decide⟩
theorem witness_KeyCommandsComplete_1 : ∃ (s : State) (slot : Nat) (_hash : List Nat), CmdReady slot Opc.keyOwnerEnrol s ∧ s.hw.owner = none := ⟨cmdIn Opc.keyOwnerEnrol (ke9 id), 3, [1, 2, 3], by unfold CmdReady; decide⟩
theorem witness_KeyCommandsComplete_2 : ∃ (s : State) (slot tenant : Nat) (_share : Bool), CmdReady slot Opc.keyDomainCreate s ∧ tenant < 4096 ∧ (tenant = 4095 ∨ fhas s.nv.tenants tenant = true) ∧ s.keys.domains.length < 8192 ∧ domainOf s tenant = none := ⟨cmdIn Opc.keyDomainCreate (ke9 id), 3, 4095, true, by unfold CmdReady; decide⟩
theorem witness_KeyCommandsComplete_3 : ∃ (s : State) (slot domain : Nat) (x : Domain), CmdReady slot Opc.keyDomainErase s ∧ domainOf s domain = some x ∧ x.secret = true ∧ x.erase = none := ⟨cmdIn Opc.keyDomainErase (ke9 id), 3, 1, dom9, by unfold CmdReady; decide⟩
theorem witness_KeyCommandsComplete_4 : ∃ (s : State) (slot domain : Nat) (x : Domain), CmdReady slot Opc.keyRoll s ∧ domainOf s domain = some x ∧ x.secret = true ∧ x.erase = none ∧ x.roll = none ∧ x.live.contains ((x.gen + 1) % 65536) = false := ⟨cmdIn Opc.keyRoll (ke9 id), 3, 1, dom9, by unfold CmdReady; decide⟩
theorem witness_KeyCommandsComplete_5 : ∃ (s : State) (slot domain first last : Nat) (x : Domain), CmdReady slot Opc.keyRekeySweep s ∧ domainOf s domain = some x ∧ first ≤ last ∧ last < 65536 ∧ x.secret = true ∧ x.erase = none ∧ x.sweep = false := ⟨cmdIn Opc.keyRekeySweep (ke9 fun x => { x with live := [1, 0] }), 3, 1, 0, 4, { dom9 with live := [1, 0] }, by unfold CmdReady; decide⟩
theorem witness_KeyCommandsComplete_6 : ∃ (s : State) (slot domain : Nat) (x : Domain), CmdReady slot Opc.keyStatusGet s ∧ domainOf s domain = some x := ⟨cmdIn Opc.keyStatusGet (ke9 id), 3, 1, dom9, by unfold CmdReady; decide⟩
theorem witness_KeyCommandsComplete_7 : ∃ (s : State) (slot : Nat) (ownerOk : Bool), CmdReady slot Opc.keySvnCommit s ∧ ownerAllows s ownerOk = true := ⟨cmdIn Opc.keySvnCommit (ke9 id), 3, true, by unfold CmdReady; decide⟩
theorem witness_KeyCommandsComplete_8 : ∃ (s : State) (slot domain link k seat q : Nat) (x : Domain) (l : Link) (m : List Nat), CmdReady slot Opc.keyFkShare s ∧ domainOf s domain = some x ∧ linkOf s link = some l ∧ x.shareFk = true ∧ x.secret = true ∧ l.p.target = false ∧ partsRun s l = k :: m ∧ partUp s (partOf l k) = true ∧ (partOf l k).qp = some (seat, q) := ⟨cmdIn Opc.keyFkShare kf9, 3, 1, 7, 0, 0, 7, dom9, kl9, [], by unfold CmdReady; decide⟩
theorem witness_KeyCommandsComplete_9 : ∃ (s : State) (slot : Nat) (_hashes : List Nat) (ownerOk : Bool), CmdReady slot Opc.keyPartnerEnrol s ∧ ownerAllows s ownerOk = true := ⟨cmdIn Opc.keyPartnerEnrol (ke9 id), 3, [7, 8], false, by unfold CmdReady; decide⟩
theorem witness_KeyCommandsComplete_10 : ∃ (s : State) (slot : Nat) (_roots _allowed : List Nat) (ownerOk : Bool), CmdReady slot Opc.keyBladeRootEnrol s ∧ ownerAllows s ownerOk = true := ⟨cmdIn Opc.keyBladeRootEnrol (ke9 id), 3, [7, 8], [9], false, by unfold CmdReady; decide⟩
theorem witness_SpdmRequestsComplete_1 : ∃ (s : State) (mctp : Bool), SpdmReady mctp s := ⟨se9 3 [], true, by unfold SpdmReady; decide⟩
theorem witness_SpdmRequestsComplete_2 : ∃ (s : State) (mctp : Bool), SpdmReady mctp s ∧ (connOf s mctp).stage = 1 := ⟨se9 1 [], true, by unfold SpdmReady; decide⟩
theorem witness_SpdmRequestsComplete_3 : ∃ (s : State) (mctp : Bool), SpdmReady mctp s ∧ (connOf s mctp).stage = 2 := ⟨se9 2 [], true, by unfold SpdmReady; decide⟩
theorem witness_SpdmRequestsComplete_4 : ∃ (s : State) (mctp : Bool), SpdmReady mctp s ∧ (connOf s mctp).stage = 3 := ⟨se9 3 [], false, by unfold SpdmReady; decide⟩
theorem witness_SpdmRequestsComplete_5 : ∃ (s : State) (mctp : Bool) (certSlot x : Nat), SpdmReady mctp s ∧ (connOf s mctp).stage = 3 ∧ certChain s certSlot = some x := ⟨se9 3 [], true, 1, 6, by unfold SpdmReady; decide⟩
theorem witness_SpdmRequestsComplete_6 : ∃ (s : State) (mctp : Bool) (certSlot _nonce x : Nat), SpdmReady mctp s ∧ (connOf s mctp).stage = 3 ∧ certChain s certSlot = some x := ⟨se9 3 [], true, 1, 77, 6, by unfold SpdmReady; decide⟩
theorem witness_SpdmRequestsComplete_7 : ∃ (s : State) (mctp : Bool) (_nonce : Nat), SpdmReady mctp s ∧ (connOf s mctp).stage = 3 := ⟨se9 3 [], true, 77, by unfold SpdmReady; decide⟩
theorem witness_SpdmRequestsComplete_8 : ∃ (s : State) (mctp : Bool) (index _nonce v : Nat), SpdmReady mctp s ∧ (connOf s mctp).stage = 3 ∧ index ≠ 0 ∧ index ≠ 0xFF ∧ measurement s index = some v ∧ index < 7 := ⟨se9 3 [], true, 6, 77, configValue (se9 3 []), by unfold SpdmReady; decide⟩
theorem witness_SpdmRequestsComplete_9 : ∃ (s : State) (mctp : Bool), SpdmReady mctp s ∧ (connOf s mctp).stage = 3 ∧ s.keys.sessions.length < 4 := ⟨se9 3 [], true, by unfold SpdmReady; decide⟩
theorem witness_SpdmRequestsComplete_10 : ∃ (s : State) (mctp : Bool) (session : Nat), Canonical s ∧ SpdmReady mctp s ∧ fget s.keys.sessions session = some ⟨mctp, false⟩ := ⟨se9 3 [(2, ⟨true, false⟩)], true, 2, by unfold Canonical SpdmReady FSorted; decide⟩
theorem witness_SpdmRequestsComplete_11 : ∃ (s : State) (mctp : Bool) (session : Nat), SpdmReady mctp s ∧ fget s.keys.sessions session = some ⟨mctp, true⟩ := ⟨se9 3 [(2, ⟨true, true⟩)], true, 2, by unfold SpdmReady; decide⟩
theorem witness_SpdmRequestsComplete_12 : ∃ (s : State) (mctp : Bool) (session : Nat), Canonical s ∧ SpdmReady mctp s ∧ fget s.keys.sessions session = some ⟨mctp, true⟩ ∧ FSorted s.keys.sessions := ⟨se9 3 [(2, ⟨true, true⟩)], true, 2, by unfold Canonical SpdmReady FSorted; decide⟩
theorem witness_SpdmRequestsComplete_13 : ∃ (s : State) (mctp : Bool) (_chain : Nat), SpdmReady mctp s ∧ (connOf s mctp).stage = 3 := ⟨se9 3 [], true, 9, by unfold SpdmReady; decide⟩
theorem witness_SpdmRequestsComplete_14 : ∃ (s : State) (mctp : Bool) (x : Nat), SpdmReady mctp s ∧ (connOf s mctp).stage = 3 ∧ (connOf s mctp).signed = some x := ⟨se9 3 [], true, 9, by unfold SpdmReady; decide⟩

end D13

namespace D14

def mb9 : State := { mapped (row0 .programmed) id with stk := { up.stk with ext := 70000 } }
def pst9 (opc : Nat) (f : MbxSlot → MbxSlot) (s : State) : State := let s := cmdIn opc s; { s with mbx := { s.mbx with slots := s.mbx.slots.map fun e => (e.1, f { e.2 with st := .posted, order := 4, postedAt := 60000, lane := 1 }) } }
def oNs : EasyObj := ⟨.ns, 1⟩
def ea9 (e : EasyAll) (s : State) : State := { s with mbx := { s.mbx with easy := [(easyKey oNs, e)] } }
def held9 : EasyAll := ⟨100, [], none, 60000, 60000, none⟩
def svc9 (n : Nat) : State := setR [(Reg.MBX_STATUS_SERVICE, n)] { mb9 with map := { mb9.map with anchors := (List.range 8).map fun n => (pairKey n 3, ⟨512, 21, 60000, 5, true⟩) } }

theorem witness_DoorbellAndSlotsComplete_1 : ∃ (s : State) (slot : Nat) (_r : MbxReq), Canonical s ∧ slot < 64 ∧ isSet s Reg.MBX_STATUS_READY = true ∧ ((slotAt s slot).st = .free ∨ (slotAt s slot).st = .done) ∧ (slotAt s slot).poisoned = false := ⟨mb9, 9, { noReq with opcode := 0x101, tag := 5 }, by unfold Canonical FSorted; decide⟩
theorem witness_DoorbellAndSlotsComplete_2 : ∃ (s : State) (lane n : Nat), startsClosed s = false ∧ laneNext s lane = some n ∧ objectBusy s (slotAt s n) = false ∧ readsHost (slotAt s n).req.opcode = false := ⟨pst9 0x101 id mb9, 1, 3, by decide⟩
theorem witness_DoorbellAndSlotsComplete_3 : ∃ (s : State) (slot : Nat), Canonical s ∧ (slotAt s slot).st = .posted ∧ (slotAt s slot).req.timeout ≠ 0 ∧ (slotAt s slot).postedAt + (slotAt s slot).req.timeout ≤ s.stk.ext ∧ (slotAt s slot).orphan = false := ⟨pst9 0x101 (fun m => { m with req := { m.req with timeout := 50 } }) mb9, 3, by unfold Canonical FSorted; decide⟩
theorem witness_DoorbellAndSlotsComplete_4 : ∃ (s : State) (slot : Nat), Canonical s ∧ (slotAt s slot).st = .posted ∧ (slotAt s slot).orphan = false := ⟨pst9 0x101 id mb9, 3, by unfold Canonical FSorted; decide⟩
theorem witness_DoorbellAndSlotsComplete_5 : ∃ (s : State) (slot : Nat), (slotAt s slot).st = .running ∧ catalogue.contains (slotAt s slot).req.opcode = false ∧ (slotAt s slot).orphan = false := ⟨cmdIn 0x1FF mb9, 3, by decide⟩
theorem witness_EasyAllCommandsComplete_1 : ∃ (s : State) (slot hold : Nat) (o : EasyObj) (n : Ns), CmdReady slot Opc.sysEasyAll s ∧ o.cls = .ns ∧ nsOf s o.num = some n ∧ hold < 65535 ∧ ownsSide s n.cur.p.side = true ∧ easyBusy s o = false ∧ s.mbx.easy.length < 16 ∧ n.prev = none := ⟨cmdIn Opc.sysEasyAll mb9, 3, 100, oNs, ns0, by unfold CmdReady; decide⟩
theorem witness_EasyAllCommandsComplete_2 : ∃ (s : State) (n : Nat) (o : EasyObj) (e : EasyAll), fget s.mbx.easy (easyKey o) = some e ∧ e.slot = some n ∧ easyQuiet s o = true ∧ (slotAt s n).orphan = false := ⟨ea9 { held9 with slot := some 3 } (cmdIn Opc.sysEasyAll mb9), 3, oNs, { held9 with slot := some 3 }, by decide⟩
theorem witness_EasyAllCommandsComplete_3 : ∃ (s : State) (slot : Nat) (o : EasyObj) (pairs : List (Nat × Nat)) (e : EasyAll), CmdReady slot Opc.sysStage s ∧ fget s.mbx.easy (easyKey o) = some e ∧ e.slot = none ∧ e.commit = none ∧ pairs.length ≤ 1024 ∧ pairs.all (fun x => (paramOf x.1).any fun p => p.cls == clsOf o && !p.immediate) = true := ⟨cmdIn Opc.sysStage (ea9 held9 mb9), 3, oNs, [(0x1003, 2)], held9, by unfold CmdReady; decide⟩
theorem witness_EasyAllCommandsComplete_4 : ∃ (s : State) (slot : Nat) (o : EasyObj) (e : EasyAll), CmdReady slot Opc.sysRowAll s ∧ fget s.mbx.easy (easyKey o) = some e ∧ e.slot = none ∧ e.commit = none ∧ stagedBad s o e.staged = none := ⟨cmdIn Opc.sysRowAll (ea9 { held9 with staged := [(0x1002, 7)] } { mb9 with keys := { mb9.keys with domains := [(0, dom0)] } }), 3, oNs, { held9 with staged := [(0x1002, 7)] }, by unfold CmdReady; decide⟩
theorem witness_EasyAllCommandsComplete_5 : ∃ (s : State) (slot : Nat) (o : EasyObj) (e : EasyAll), CmdReady slot Opc.sysEasyAbort s ∧ fget s.mbx.easy (easyKey o) = some e ∧ e.slot = none ∧ e.commit = none ∧ FSorted s.mbx.easy := ⟨cmdIn Opc.sysEasyAbort (ea9 held9 mb9), 3, oNs, held9, by unfold CmdReady FSorted; decide⟩
theorem witness_EasyAllCommandsComplete_6 : ∃ (s : State) (slot : Nat), CmdReady slot Opc.sysEasyList s := ⟨cmdIn Opc.sysEasyList (ea9 held9 mb9), 3, by unfold CmdReady; decide⟩
theorem witness_EasyAllCommandsComplete_7 : ∃ (s : State) (o : EasyObj) (e : EasyAll), Canonical s ∧ fget s.mbx.easy (easyKey o) = some e ∧ e.slot = none ∧ e.commit = none ∧ e.completed + 100 * max 1 (rd s Reg.MBX_EASY_CTRL_LIMIT) ≤ s.stk.ext ∧ FSorted s.mbx.easy := ⟨ea9 { held9 with completed := 0 } { mb9 with stk := { mb9.stk with ext := 90000000 } }, oNs, { held9 with completed := 0 }, by unfold Canonical FSorted; decide⟩
theorem witness_EasyAllCommandsComplete_8 : ∃ (s : State) (cmd : Nat) (c : Cmd), Runs s ∧ FSorted s.nv.cmds ∧ cmdOf s cmd = some c ∧ c.stage = .waiting ∧ holdOver s c = true := ⟨let s := ea9 held9 mb9; { s with nv := { s.nv with cmds := [(0, { cmd0 .read 3 1 with arrived := 60000 })], nextCmd := 1, ns := [(1, { ns0 with cur := ⟨1, np, .held, 0⟩ })] } }, 0, { cmd0 .read 3 1 with arrived := 60000 }, by unfold Runs FSorted; decide⟩
theorem witness_SystemCommandsComplete_1 : ∃ (s : State) (slot : Nat), CmdReady slot Opc.sysInfo s := ⟨cmdIn Opc.sysInfo mb9, 3, by unfold CmdReady; decide⟩
theorem witness_SystemCommandsComplete_2 : ∃ (s : State) (slot id : Nat) (o : EasyObj), CmdReady slot Opc.sysParamGet s ∧ (paramOf id).any (fun p => paramFits o p && (p.cls == 0 || objExists s o)) = true := ⟨cmdIn Opc.sysParamGet mb9, 3, 0x1003, oNs, by unfold CmdReady; decide⟩
theorem witness_SystemCommandsComplete_3 : ∃ (s : State) (slot : Nat) (o : EasyObj) (pairs : List (Nat × Nat)), CmdReady slot Opc.sysParamSet s ∧ pairUnknown o pairs = none ∧ pairs.all (fun x => (paramOf x.1).any fun p => p.immediate && !valueBad s p x.2) = true ∧ (pairs.any (fun x => decide (4096 ≤ x.1)) = false ∨ (objExists s o = true ∧ objForeign s o = false)) := ⟨cmdIn Opc.sysParamSet mb9, 3, ⟨.group, 0⟩, [(0x3001, 9)], by unfold CmdReady; decide⟩
theorem witness_SystemCommandsComplete_4 : ∃ (s : State) (slot id : Nat) (l : List Nat), CmdReady slot Opc.sysParamDescribe s ∧ (paramOf id).map (fun p => [id, p.cls, paramType p.kind, p.width, p.lo, p.hi, paramUnit p.kind, paramReset p.kind, b2n p.immediate] ++ (paramName id p.kind).toList.map Char.toNat) = some l := ⟨cmdIn Opc.sysParamDescribe mb9, 3, 0x1003, [0x1003, 1, 1, 2, 0, 3, 0, 0, 0, 80, 82, 73, 79, 82, 73, 84, 89, 95, 67, 76, 65, 83, 83], by unfold CmdReady; decide⟩
theorem witness_SystemCommandsComplete_5 : ∃ (s : State) (slot ms seat : Nat) (_redundant : Bool), Canonical s ∧ CmdReady slot Opc.sysHoldupDeclare s ∧ 6 ≤ ms ∧ ms ≤ 10000 ∧ haulPoolsBad s = false ∧ seat < s.hw.seats ∧ s.hw.seats ≤ 8 := ⟨cmdIn Opc.sysHoldupDeclare mb9, 3, 50, 2, true, by unfold Canonical CmdReady FSorted; decide⟩
theorem witness_SystemCommandsComplete_6 : ∃ (s : State) (slot seat : Nat), Canonical s ∧ CmdReady slot Opc.sysServiceEnter s ∧ serviceMode s = 0 ∧ seat < s.hw.seats ∧ s.hw.seats ≤ 8 := ⟨cmdIn Opc.sysServiceEnter (svc9 0), 3, 0, by unfold Canonical CmdReady FSorted; decide⟩
theorem witness_SystemCommandsComplete_7 : ∃ (s : State) (slot seat : Nat), Canonical s ∧ CmdReady slot Opc.sysServiceExit s ∧ serviceMode s = 3 ∧ seat < s.hw.seats ∧ s.hw.seats ≤ 8 := ⟨cmdIn Opc.sysServiceExit (svc9 3), 3, 1, by unfold Canonical CmdReady FSorted; decide⟩
theorem witness_SystemCommandsComplete_8 : ∃ (s : State) (slot : Nat), Canonical s ∧ CmdReady slot Opc.sysServiceExit s ∧ serviceMode s = 2 := ⟨cmdIn Opc.sysServiceExit (svc9 2), 3, by unfold Canonical CmdReady FSorted; decide⟩
theorem witness_SystemCommandsComplete_9 : ∃ (s : State) (slot _gap : Nat) (_faults : List Nat), Canonical s ∧ CmdReady slot Opc.sysCoxDrill s ∧ s.pair.st = .paired ∧ isSet s Reg.MBX_COX_STANDBY_READY = true ∧ s.upd.st ≠ .scheduled ∧ s.upd.st ≠ .activating ∧ s.cox.lastDrill = none ∧ s.cox.drill = none := ⟨cmdIn Opc.sysCoxDrill (setR [(Reg.MBX_COX_STANDBY_READY, 1)] { mb9 with pair := { mb9.pair with st := .paired } }), 3, 900, [2], by unfold Canonical CmdReady FSorted; decide⟩
theorem witness_SystemCommandsComplete_10 : ∃ (s : State) (slot : Nat), CmdReady slot Opc.sysRecoverScan s ∧ serviceMode s = 2 := ⟨cmdIn Opc.sysRecoverScan (svc9 2), 3, by unfold CmdReady; decide⟩
theorem witness_SystemCommandsComplete_11 : ∃ (s : State) (slot gen : Nat), CmdReady slot Opc.sysRecoverUseGen s ∧ serviceMode s = 2 ∧ (seatList s).all (fun n => (anchorGens s n).contains gen) = true := ⟨cmdIn Opc.sysRecoverUseGen (svc9 2), 3, 21, by unfold CmdReady; decide⟩
theorem witness_SystemCommandsComplete_12 : ∃ (s : State) (slot _bytes : Nat), CmdReady slot Opc.sysMapBudget s := ⟨cmdIn Opc.sysMapBudget mb9, 3, 4000000, by unfold CmdReady; decide⟩

end D14

namespace D15

def mb9 : State := { mapped (row0 .programmed) id with stk := { up.stk with ext := 70000 } }
def nb9 : State := { mb9 with keys := { mb9.keys with domains := [(0, dom0)] } }
def sv9 : State := setR [(Reg.MBX_STATUS_SERVICE, 3)] mb9
def arm9 : PfrArm := ⟨.fault 3 true, [0x40], 5, 100⟩
def log9 : LogEntry := ⟨4, 60000, 20, 1, 1, false, 7, [1, 2]⟩

theorem witness_NamespaceCommandsComplete_1 : ∃ (s : State) (slot nsid : Nat) (p : NsParams), CmdReady slot Opc.nsCreate s ∧ nsid ≠ 0 ∧ nsid < 4294967295 ∧ nsOf s nsid = none ∧ fhas s.map.releasing nsid = false ∧ nsBad s p = none ∧ ownsSide s p.side = true ∧ (groupOf s p.pool).any (·.readOnly) = false := ⟨cmdIn Opc.nsCreate nb9, 3, 9, np, by unfold CmdReady; decide⟩
theorem witness_NamespaceCommandsComplete_2 : ∃ (s : State) (slot nsid : Nat) (n : Ns), CmdReady slot Opc.nsDelete s ∧ nsOf s nsid = some n ∧ ownsSide s n.cur.p.side = true ∧ n.cg = none ∧ FSorted s.nv.ns := ⟨cmdIn Opc.nsDelete mb9, 3, 1, ns0, by unfold CmdReady FSorted; decide⟩
theorem witness_NamespaceCommandsComplete_3 : ∃ (s : State) (slot nsid : Nat) (n : Ns), CmdReady slot Opc.nsSecureDiscard s ∧ serviceMode s ≠ 0 ∧ nsOf s nsid = some n ∧ ownsSide s n.cur.p.side = true ∧ s.map.discard = none ∧ s.par.exts.all (fun e => e.2.nsid != nsid) = true ∧ dirsOf s nsid = [] := ⟨cmdIn Opc.nsSecureDiscard { sv9 with nv := { sv9.nv with ns := [(1, ns0), (2, ns0)] } }, 3, 2, ns0, by unfold CmdReady; decide⟩
theorem witness_NamespaceCommandsComplete_4 : ∃ (s : State) (slot nsid a : Nat) (n : Ns) (e : Ext) (g : Group) (r : Row), CmdReady slot Opc.nsSecureDiscard s ∧ serviceMode s ≠ 0 ∧ nsOf s nsid = some n ∧ ownsSide s n.cur.p.side = true ∧ s.map.discard = none ∧ fget s.par.exts a = some e ∧ e.nsid = nsid ∧ groupOf s e.pool = some g ∧ fget g.rows e.row = some r := ⟨cmdIn Opc.nsSecureDiscard sv9, 3, 1, 512, ns0, ext0, gp [(0, row0 .programmed)], row0 .programmed, by unfold CmdReady; decide⟩
theorem witness_NamespaceCommandsComplete_5 : ∃ (s : State) (slot nsid : Nat) (n : Ns), CmdReady slot Opc.nsInfo s ∧ nsOf s nsid = some n ∧ n.cur.adm = .opened := ⟨cmdIn Opc.nsInfo mb9, 3, 1, ns0, by unfold CmdReady; decide⟩
theorem witness_NamespaceCommandsComplete_6 : ∃ (s : State) (slot sub nqn tenant : Nat), CmdReady slot Opc.subsysCreate s ∧ sub < 4096 ∧ fhas s.nv.subsys sub = false ∧ s.nv.subsys.length < 4096 ∧ fhas s.nv.tenants tenant = true ∧ nqn ≠ 0 ∧ s.nv.subsys.any (fun e => e.2.nqn == nqn) = false := ⟨cmdIn Opc.subsysCreate mb9, 3, 8, 777, 1, by unfold CmdReady; decide⟩
theorem witness_NamespaceCommandsComplete_7 : ∃ (s : State) (slot sub : Nat) (_hosts : List Nat) (x : Subsys), CmdReady slot Opc.subsysHostsSet s ∧ fget s.nv.subsys sub = some x := ⟨cmdIn Opc.subsysHostsSet mb9, 3, 1, [5, 6], ⟨1, 600, [44]⟩, by unfold CmdReady; decide⟩
theorem witness_NamespaceCommandsComplete_8 : ∃ (s : State) (slot ana side : Nat), CmdReady slot Opc.anaGroupCreate s ∧ ana ≠ 0 ∧ ana < 4096 ∧ fhas s.nv.anas ana = false ∧ side < 2 ∧ ownsSide s side = true := ⟨cmdIn Opc.anaGroupCreate mb9, 3, 7, 0, by unfold CmdReady; decide⟩
theorem witness_TenantCommandsComplete_1 : ∃ (s : State) (slot tenant : Nat) (_sprint : Bool), CmdReady slot Opc.tenantCreate s ∧ tenant < 4095 ∧ fhas s.nv.tenants tenant = false ∧ domainOf s tenant = none := ⟨cmdIn Opc.tenantCreate mb9, 3, 9, true, by unfold CmdReady; decide⟩
theorem witness_TenantCommandsComplete_2 : ∃ (s : State) (slot tenant : Nat), CmdReady slot Opc.tenantDelete s ∧ fhas s.nv.tenants tenant = true ∧ s.nv.ns.any (fun n => n.2.cur.p.tenant == tenant) = false ∧ FSorted s.nv.tenants := ⟨cmdIn Opc.tenantDelete { mb9 with nv := { mb9.nv with ns := [] } }, 3, 1, by unfold CmdReady FSorted; decide⟩
theorem witness_TenantCommandsComplete_3 : ∃ (s : State) (slot tenant : Nat) (ranges : List (Nat × Nat)) (x : Tenant), CmdReady slot Opc.tenantAddrSet s ∧ fget s.nv.tenants tenant = some x ∧ ranges.all (fun r => decide (r.1 ≤ r.2)) = true := ⟨cmdIn Opc.tenantAddrSet mb9, 3, 1, [(5, 9)], ⟨[(0, 100)], 0, false⟩, by unfold CmdReady; decide⟩
theorem witness_TenantCommandsComplete_4 : ∃ (s : State) (slot tenant : Nat), CmdReady slot Opc.tenantSecureDiscard s ∧ serviceMode s ≠ 0 ∧ fhas s.nv.tenants tenant = true ∧ s.map.discard = none ∧ s.par.exts.all (fun e => e.2.tenant != tenant) = true ∧ s.nv.ns.all (fun e => e.2.cur.p.tenant != tenant) = true ∧ s.snp.snaps.all (fun e => e.2.tenant != tenant) = true := ⟨cmdIn Opc.tenantSecureDiscard { sv9 with nv := { sv9.nv with tenants := [(1, ⟨[], 0, false⟩), (2, ⟨[], 2, false⟩)] } }, 3, 2, by unfold CmdReady; decide⟩
theorem witness_HealthAndPowerCommandsComplete_1 : ∃ (s : State) (slot _after : Nat), CmdReady slot Opc.logCopy s ∧ s.pci.bme = true := ⟨cmdIn Opc.logCopy { mb9 with health := { mb9.health with log := [log9] } }, 3, 500, by unfold CmdReady; decide⟩
theorem witness_HealthAndPowerCommandsComplete_2 : ∃ (s : State) (slot source : Nat) (_inst : Option Nat), CmdReady slot Opc.faultGet s ∧ source ≠ 0 ∧ source ≤ 0x14 := ⟨cmdIn Opc.faultGet mb9, 3, 5, some 2, by unfold CmdReady; decide⟩
theorem witness_HealthAndPowerCommandsComplete_3 : ∃ (s : State) (slot seat trig : Nat) (a : PfrArm), Canonical s ∧ CmdReady slot Opc.pfrArm s ∧ s.hw.seats ≤ 8 ∧ armBad s seat trig a = none := ⟨cmdIn Opc.pfrArm mb9, 3, 2, 4, arm9, by unfold Canonical CmdReady FSorted; decide⟩
theorem witness_HealthAndPowerCommandsComplete_4 : ∃ (s : State) (slot unit paddle easy seat : Nat), Canonical s ∧ CmdReady slot Opc.pwrTimersSet s ∧ unit < 18 ∧ paddle < 65536 ∧ easy < 65536 ∧ seat < s.hw.seats ∧ s.hw.seats ≤ 8 := ⟨cmdIn Opc.pwrTimersSet mb9, 3, 4, 100, 900, 2, by unfold Canonical CmdReady FSorted; decide⟩
theorem witness_HealthAndPowerCommandsComplete_5 : ∃ (s : State) (slot : Nat), CmdReady slot Opc.pwrStateGet s := ⟨cmdIn Opc.pwrStateGet mb9, 3, by unfold CmdReady; decide⟩

end D15

namespace D16

def mb9 : State := { mapped (row0 .programmed) id with stk := { up.stk with ext := 70000 } }
def lk : State := setR [(Reg.PCI_LINK_STATE_SPEED, 5), (Reg.PCI_LINK_STATE_WIDTH, 8), (Reg.PCI_OUTSTANDING_COUNT, 2)] { mb9 with pci := { mb9.pci with perst := false, tags := [(4, ⟨3, false, false⟩), (5, ⟨3, true, false⟩)], pendingVecs := [7] } }
def lkm : State := { lk with pci := { lk.pci with msixEnable := true, unmasked := [7] } }
def flrS (l : FMap PciTag) : State := { lk with pci := { lk.pci with flr := true, retry := true, bme := false, tags := l } }
def im9 : ImageHeader := ⟨40000, 5, 9, 1, 2, 3, 65535, 0, 77⟩
def bt (p off : Nat) (h : Option ImageHeader) : State := setR [(Reg.PKG_BOOT_STATUS_PHASE, p), (Reg.PKG_BOOT_OFFSET_BYTES, off), (Reg.PKG_BRINGUP_STEP, 4)] { State.reset with pci := { State.reset.pci with perst := false, retry := false }, stk := { State.reset.stk with released := true, ext := 200000 }, boot := { State.reset.boot with header := h, sampled := true } }
def bu (step : Nat) : State := setR [(Reg.PKG_BOOT_STATUS_PHASE, 5), (Reg.MBX_STATUS_READY, 1), (Reg.MBX_STATUS_SERVICE, 1), (Reg.PKG_BRINGUP_STEP, step)] { State.reset with pci := { State.reset.pci with perst := false, retry := false }, stk := { State.reset.stk with released := true, ext := 200000 }, boot := { State.reset.boot with running := some im9, sampled := true, seatsUp := List.range 8 } }
def dimms9 : List Dimm := (List.range 16).map fun n => ⟨n / 2, n % 2, 64, false, 100 + n, true⟩
def bu9 : State := let s := bu 9; { s with boot := { s.boot with dramDone := true, bladesDone := true } }
def bk9 : State := setR [(Reg.KEY_STATUS_PAIR_KEK, 1), (Reg.BLD_SLOT_INFO_OWNER 0, 1), (Reg.BLD_SLOT_STATUS_ATTESTED 0, 1)] { bu9 with par := mb9.par, bld := { bu9.bld with slots := [(0, ⟨none, 0, none, none, none, 7, [], none, 0, 0, 0, 0, false, 0⟩)] } }
def bj9 : State := let s := bu 12; { s with boot := { s.boot with dramDone := true, bladesDone := true, mapDone := true, rowsDone := true }, pair := { s.pair with st := .solo } }

theorem witness_EndpointCommandsComplete_1 : ∃ (s : State) (speed width : Nat) (_flit : Bool), Canonical s ∧ s.pci.perst = false ∧ speed < 8 ∧ width < 32 := ⟨{ lk with pci := { lk.pci with retry := true } }, 3, 8, true, by unfold Canonical FSorted; decide⟩
theorem witness_EndpointCommandsComplete_2 : ∃ (s : State) (sub : Nat), Canonical s ∧ pcieUp s = true ∧ rd s Reg.PCI_LINK_STATE_PM = 0 ∧ sub < 3 ∧ tagsOut s = [] := ⟨{ lk with pci := { lk.pci with tags := [(4, ⟨3, true, true⟩)] } }, 2, by unfold Canonical FSorted; decide⟩
theorem witness_EndpointCommandsComplete_3 : ∃ (s : State) (_sub : Nat), tagsOut s ≠ [] := ⟨lk, 2, by decide⟩
theorem witness_EndpointCommandsComplete_4 : ∃ (s : State) , Canonical s := ⟨setR [(Reg.PCI_LINK_STATE_PM, 2)] lk, by unfold Canonical FSorted; decide⟩
theorem witness_EndpointCommandsComplete_5 : ∃ (s : State) , s.pci.retry = false := ⟨{ cmdIn 0x101 lk with pci := lk.pci }, by decide⟩
theorem witness_EndpointCommandsComplete_6 : ∃ (s : State) (slot : Nat), s.pci.retry = false ∧ slotsWhere s (fun m => m.st == .running) = [slot] ∧ readsOut s slot = true ∧ (slotAt s slot).orphan = false := ⟨cmdIn 0x101 lk, 3, by decide⟩
theorem witness_EndpointCommandsComplete_7 : ∃ (s : State) , Canonical s ∧ s.pci.retry = false := ⟨{ lkm with pci := { lkm.pci with bme := false } }, by unfold Canonical FSorted; decide⟩
theorem witness_EndpointCommandsComplete_8 : ∃ (s : State) (_vector : Nat), Canonical s ∧ s.pci.retry = false := ⟨{ lkm with pci := { lkm.pci with unmasked := [] } }, 7, by unfold Canonical FSorted; decide⟩
theorem witness_EndpointCommandsComplete_9 : ∃ (s : State) , Canonical s ∧ s.pci.retry = false := ⟨{ lkm with pci := { lkm.pci with msixEnable := false } }, by unfold Canonical FSorted; decide⟩
theorem witness_EndpointCommandsComplete_10 : ∃ (s : State) , s.pci.retry = false := ⟨lk, by decide⟩
theorem witness_EndpointCommandsComplete_11 : ∃ (s : State) , Canonical s ∧ s.pci.retry = false := ⟨{ lkm with pci := { lkm.pci with d3 := true } }, by unfold Canonical FSorted; decide⟩
theorem witness_EndpointCommandsComplete_12 : ∃ (s : State) , Canonical s ∧ s.pci.retry = false := ⟨lk, by unfold Canonical FSorted; decide⟩
theorem witness_EndpointCommandsComplete_13 : ∃ (s : State) (_micros : Nat) (timedOut : Bool), Canonical s ∧ s.pci.flr = true ∧ (timedOut = true ∨ tagsOut s = []) := ⟨flrS [(4, ⟨3, true, false⟩)], 900, true, by unfold Canonical FSorted; decide⟩
theorem witness_EndpointCommandsComplete_14 : ∃ (s : State) (tag : Nat) (x : PciTag), fget s.pci.tags tag = some x ∧ x.reserved = true ∧ FSorted s.pci.tags := ⟨flrS [(4, ⟨3, true, true⟩)], 4, ⟨3, true, true⟩, by unfold FSorted; decide⟩
theorem witness_EndpointCommandsComplete_15 : ∃ (s : State) (protocol bytes : Nat), s.pci.retry = false ∧ s.pci.doe = false ∧ bytes ≤ 65536 ∧ protocol ≤ 2 := ⟨lk, 1, 64, by decide⟩
theorem witness_EndpointCommandsComplete_16 : ∃ (s : State) , s.pci.retry = false := ⟨{ lk with pci := { lk.pci with doe := true } }, by decide⟩
theorem witness_CompletionsAndResetsComplete_1 : ∃ (s : State) (tag : Nat) (r : CplResult) (x : PciTag), Canonical s ∧ fget s.pci.tags tag = some x ∧ (x.abandoned = true ∨ x.reserved = true ∨ r = .data) ∧ FSorted s.pci.tags := ⟨lk, 5, .data, ⟨3, true, false⟩, by unfold Canonical FSorted; decide⟩
theorem witness_CompletionsAndResetsComplete_2 : ∃ (s : State) (tag slot : Nat) (r : CplResult), Canonical s ∧ fget s.pci.tags tag = some ⟨slot, false, false⟩ ∧ r ≠ .data ∧ (slotAt s slot).st = .running ∧ (slotAt s slot).orphan = false := ⟨cmdIn 0x101 lk, 4, 3, .poisoned, by unfold Canonical FSorted; decide⟩
theorem witness_CompletionsAndResetsComplete_3 : ∃ (s : State) (tag slot : Nat), Canonical s ∧ fget s.pci.tags tag = some ⟨slot, false, false⟩ ∧ s.pci.flr = false ∧ (slotAt s slot).st = .running ∧ (slotAt s slot).orphan = false := ⟨cmdIn 0x101 lk, 4, 3, by unfold Canonical FSorted; decide⟩
theorem witness_CompletionsAndResetsComplete_4 : ∃ (s : State) (off n : Nat), Canonical s ∧ off < 4194304 ∧ n = off / 65536 ∧ (off % 65536 < 64 ∨ (128 ≤ off % 65536 ∧ off % 65536 < 32768)) := ⟨lk, 0x3F0080, 63, by unfold Canonical FSorted; decide⟩
theorem witness_CompletionsAndResetsComplete_5 : ∃ (s : State) (off : Nat), Canonical s ∧ 67108864 ≤ off ∧ off < 134217728 ∧ downloading s = true := ⟨setR [(Reg.PKG_BOOT_STATUS_PHASE, 2), (Reg.PKG_BOOT_OFFSET_BYTES, 4096)] { lk with mbx := State.reset.mbx }, 67108864, by unfold Canonical FSorted; decide⟩
theorem witness_CompletionsAndResetsComplete_6 : ∃ (s : State) (value : Nat), Canonical s ∧ s.pci.retry = false ∧ (value % 2 = 0 ∨ isSet s Reg.MBX_STATUS_READY = true) := ⟨lk, 3, by unfold Canonical FSorted; decide⟩
theorem witness_CompletionsAndResetsComplete_7 : ∃ (s : State) , Canonical s ∧ s.pci.perst = false ∧ rd s Reg.PCI_RESET_SCOPE_SCOPE = 0 := ⟨lk, by unfold Canonical FSorted; decide⟩
theorem witness_CompletionsAndResetsComplete_8 : ∃ (s : State) , s.pci.perst = false ∧ rd s Reg.PCI_RESET_SCOPE_SCOPE = 1 := ⟨setR [(Reg.PCI_RESET_SCOPE_SCOPE, 1)] lk, by decide⟩
theorem witness_CompletionsAndResetsComplete_9 : ∃ (s : State) , Canonical s ∧ s.pci.perst = false ∧ rd s Reg.PCI_RESET_SCOPE_SCOPE = 0 := ⟨lk, by unfold Canonical FSorted; decide⟩
theorem witness_CompletionsAndResetsComplete_10 : ∃ (s : State) , s.pci.perst = false ∧ rd s Reg.PCI_RESET_SCOPE_SCOPE = 1 := ⟨setR [(Reg.PCI_RESET_SCOPE_SCOPE, 1)] lk, by decide⟩
theorem witness_CompletionsAndResetsComplete_11 : ∃ (s : State) , Canonical s ∧ s.pci.perst = false ∧ pcieUp s = true ∧ rd s Reg.PCI_RESET_SCOPE_SCOPE = 0 := ⟨lk, by unfold Canonical FSorted; decide⟩
theorem witness_CompletionsAndResetsComplete_12 : ∃ (s : State) , s.pci.perst = false ∧ pcieUp s = true ∧ rd s Reg.PCI_RESET_SCOPE_SCOPE = 1 := ⟨setR [(Reg.PCI_RESET_SCOPE_SCOPE, 1)] lk, by decide⟩
theorem witness_CompletionsAndResetsComplete_13 : ∃ (s : State) , s.pci.face = true ∧ s.pci.perst = false ∧ pcieUp s = true := ⟨{ lk with pci := { lk.pci with face := true, retry := true } }, by decide⟩
theorem witness_CompletionsAndResetsComplete_14 : ∃ (s : State) (cause : ResetCause), Canonical s ∧ (cause = .powerUp ∨ rd s Reg.PCI_RESET_SCOPE_SCOPE = 0) := ⟨lk, .powerUp, by unfold Canonical FSorted; decide⟩
theorem witness_BootCommandsComplete_1 : ∃ (s : State) (b : BootRom) (e : Nat) (l : FMap Floor), Canonical s ∧ s.pci.perst = true ∧ s.pci.face = false ∧ s.hw.brownout = false ∧ s.stk.released = false ∧ bootPhase s = 0 ∧ (if s.boot.sampled then s.hw.straps else b.straps).test = 0 ∧ l = fmapV s.stk.floors (fun n f => { f with intact := f.intact && !b.torn.contains n }) ∧ highestFloor { s with stk := { s.stk with floors := l } } = some e ∧ b.floorFails < 15 := ⟨State.reset, ⟨Straps.low, [], 2, true⟩, 65536, State.reset.stk.floors, by unfold Canonical FSorted; decide⟩
theorem witness_BootCommandsComplete_2 : ∃ (s : State) (b : BootRom), Canonical s ∧ s.pci.perst = true ∧ s.pci.face = false ∧ s.hw.brownout = false ∧ s.stk.released = false ∧ bootPhase s = 0 ∧ (if s.boot.sampled then s.hw.straps else b.straps).test = 0 ∧ 15 ≤ b.floorFails ∧ (highestFloor { s with stk := { s.stk with floors := fmapV s.stk.floors (fun n f => { f with intact := f.intact && !b.torn.contains n }) } }).isSome = true := ⟨State.reset, ⟨Straps.low, [], 15, true⟩, by unfold Canonical FSorted; decide⟩
theorem witness_BootCommandsComplete_3 : ∃ (s : State) (b : BootRom), Canonical s ∧ s.pci.perst = true ∧ s.pci.face = false ∧ s.hw.brownout = false ∧ s.stk.released = false ∧ bootPhase s = 0 ∧ (if s.boot.sampled then s.hw.straps else b.straps).test ≠ 0 := ⟨State.reset, ⟨{ Straps.low with test := 1 }, [], 2, true⟩, by unfold Canonical FSorted; decide⟩
theorem witness_BootCommandsComplete_4 : ∃ (s : State) (off len : Nat) (_tagsOk : Bool), Canonical s ∧ downloading s = true ∧ s.boot.header = none ∧ len ≠ 0 ∧ off = rd s Reg.PKG_BOOT_OFFSET_BYTES ∧ off + len ≤ 16384 := ⟨bt 1 0 none, 0, 16384, true, by unfold Canonical FSorted; decide⟩
theorem witness_BootCommandsComplete_5 : ∃ (s : State) (off len : Nat) (h : ImageHeader), Canonical s ∧ downloading s = true ∧ s.boot.header = some h ∧ len ≠ 0 ∧ off = rd s Reg.PKG_BOOT_OFFSET_BYTES ∧ off + len ≤ 16384 + h.bodyLen ∧ off + len < 2 ^ 27 := ⟨bt 3 16384 (some im9), 16384, 40000, im9, by unfold Canonical FSorted; decide⟩
theorem witness_BootCommandsComplete_6 : ∃ (s : State) (off len : Nat) (_tagsOk : Bool), Canonical s ∧ downloading s = true ∧ len ≠ 0 ∧ off ≠ rd s Reg.PKG_BOOT_OFFSET_BYTES := ⟨bt 3 16384 (some im9), 16392, 8, true, by unfold Canonical FSorted; decide⟩
theorem witness_BootCommandsComplete_7 : ∃ (s : State) (h : ImageHeader) (c : HeaderChecks), Canonical s ∧ bootPhase s = 2 ∧ rd s Reg.PKG_BOOT_OFFSET_BYTES = 16384 ∧ headerRefusal 67092480 h c s = none := ⟨bt 2 16384 none, im9, ⟨true, some 0, true, true, true⟩, by unfold Canonical FSorted; decide⟩
theorem witness_BootCommandsComplete_8 : ∃ (s : State) (h : ImageHeader) (c : HeaderChecks) (r : Nat), Canonical s ∧ bootPhase s = 2 ∧ rd s Reg.PKG_BOOT_OFFSET_BYTES = 16384 ∧ headerRefusal 67092480 h c s = some r := ⟨bt 2 16384 none, im9, ⟨true, some 0, true, true, false⟩, 7, by unfold Canonical FSorted; decide⟩
theorem witness_BootCommandsComplete_9 : ∃ (s : State) (h : ImageHeader), Canonical s ∧ s.boot.header = some h ∧ bootPhase s = 4 ∧ s.hw.seats ≤ 8 := ⟨bt 4 56384 (some im9), im9, by unfold Canonical FSorted; decide⟩
theorem witness_BootCommandsComplete_10 : ∃ (s : State) (h : ImageHeader) (equal sramOk : Bool), Canonical s ∧ s.boot.header = some h ∧ bootPhase s = 4 ∧ (equal = false ∨ sramOk = false) := ⟨bt 4 56384 (some im9), im9, false, true, by unfold Canonical FSorted; decide⟩
theorem witness_BootCommandsComplete_11 : ∃ (s : State) , Canonical s ∧ rd s Reg.PKG_BOOT_OFFSET_BYTES ≠ 0 ∧ downloading s = true := ⟨bt 3 20000 (some im9), by unfold Canonical FSorted; decide⟩
theorem witness_BootCommandsComplete_12 : ∃ (s : State) , Canonical s ∧ bootPhase s = 3 ∧ s.boot.lastWrite + 100000 ≤ s.stk.ext := ⟨bt 3 20000 (some im9), by unfold Canonical FSorted; decide⟩
theorem witness_BringUpCommandsComplete_1 : ∃ (s : State) (passed : List Bool) (seat : Nat), Canonical s ∧ rd s Reg.PKG_BRINGUP_STEP = 6 ∧ serviceMode s = 1 ∧ s.boot.halted = false ∧ (seatList s).all (fun n => passed.getD n false) = true ∧ seat < s.hw.seats ∧ s.hw.seats ≤ 8 := ⟨bu 6, List.replicate 8 true, 7, by unfold Canonical FSorted; decide⟩
theorem witness_BringUpCommandsComplete_2 : ∃ (s : State) (passed : List Bool), Canonical s ∧ rd s Reg.PKG_BRINGUP_STEP = 6 ∧ serviceMode s = 1 ∧ s.boot.halted = false ∧ (seatList s).any (fun n => !passed.getD n false) = true := ⟨bu 6, [true, true, false], by unfold Canonical FSorted; decide⟩
theorem witness_BringUpCommandsComplete_3 : ∃ (s : State) (dimms : List Dimm), Canonical s ∧ s.boot.halted = false ∧ (rd s Reg.PKG_BRINGUP_STEP = 7 ∨ rd s Reg.PKG_BRINGUP_STEP = 8) ∧ s.boot.dramDone = false ∧ serviceMode s = 1 ∧ (seatList s).all (fun n => [0, 1].all fun ch => (dimms.find? fun d => d.seat == n && d.channel == ch).any (dimmOk (dimms.find? fun d => d.seat == 0 && d.channel == 0))) = true := ⟨bu 7, dimms9, by unfold Canonical FSorted; decide⟩
theorem witness_BringUpCommandsComplete_4 : ∃ (s : State) , Canonical s ∧ s.boot.halted = false ∧ (rd s Reg.PKG_BRINGUP_STEP = 7 ∨ rd s Reg.PKG_BRINGUP_STEP = 8) ∧ s.boot.bladesDone = false ∧ serviceMode s = 1 := ⟨bu 7, by unfold Canonical FSorted; decide⟩
theorem witness_BringUpCommandsComplete_5 : ∃ (s : State) (_r : RecoveryInfo), Canonical s ∧ s.boot.halted = false ∧ rd s Reg.PKG_BRINGUP_STEP = 9 ∧ serviceMode s = 1 ∧ s.boot.dramDone = true ∧ s.boot.bladesDone = true ∧ s.boot.mapDone = false ∧ isSet s (Reg.MAP_STATUS_RECOVERING 0) = false ∧ isSet s Reg.KEY_STATUS_PAIR_KEK = false := ⟨bu9, ⟨[0], 2⟩, by unfold Canonical FSorted; decide⟩
theorem witness_BringUpCommandsComplete_6 : ∃ (s : State) (r : RecoveryInfo) (side seat : Nat), Canonical s ∧ s.boot.halted = false ∧ rd s Reg.PKG_BRINGUP_STEP = 9 ∧ serviceMode s = 1 ∧ s.boot.dramDone = true ∧ s.boot.bladesDone = true ∧ s.boot.mapDone = false ∧ isSet s (Reg.MAP_STATUS_RECOVERING 0) = false ∧ isSet s Reg.KEY_STATUS_PAIR_KEK = true ∧ [0, 1].filter (sideMine s) = [side] ∧ r.readable.contains side = true ∧ r.mediaFormat ≤ readsMedia s ∧ seat < s.hw.seats ∧ s.hw.seats ≤ 8 := ⟨bk9, ⟨[0], 2⟩, 0, 5, by unfold Canonical FSorted; decide⟩
theorem witness_BringUpCommandsComplete_7 : ∃ (s : State) (seat : Nat), Canonical s ∧ s.boot.halted = false ∧ (rd s Reg.PKG_BRINGUP_STEP = 11 ∨ rd s Reg.PKG_BRINGUP_STEP = 12) ∧ serviceMode s = 1 ∧ mayOpen s = true ∧ seat < s.hw.seats ∧ s.hw.seats ≤ 8 := ⟨bj9, 3, by unfold Canonical FSorted; decide⟩

end D16

namespace D17

def mb9 : State := { mapped (row0 .programmed) id with stk := { up.stk with ext := 70000 } }
def pw9 (l : List (Fld × Nat)) : State := setR ([(Reg.PWR_CTRL_AUTO 2, 1), (Reg.PWR_UNIT_CFG_PADDLE_IDLE 2 5, 9), (Reg.PWR_UNIT_CFG_EASY_IDLE 2 5, 9)] ++ l) mb9
def img9 (p : Bool) : HaulImage := ⟨3, 60000, 7, 4096, p, false, false, 0, 50, [], [], [], []⟩
def hz9 (p : Bool) : State := setR [(Reg.HLD_STATUS_PHASE, 2)] { mb9 with pwr := { mb9.pwr with images := [(imageKey 1 0 0, img9 p)], writing := [imageKey 1 0 0] } }
def tg9 (c : TrigCond) : State := { mb9 with health := { mb9.health with trigs := [(pairKey 2 4, ⟨⟨c, [0x10000], 0, 0⟩, 0, none⟩)] } }
def rec9 : PfrRec := ⟨60000, 5, 4, 5, 0, 9, [7]⟩
def ch9 : State := { mb9 with dram := [(pairKey 1 1, ⟨44, [], [⟨99, 0⟩], 0⟩)] }
def mg9 : State := setR [(Reg.MGT_STATUS_ADDRESSED, 1)] mb9
def mi9 : MctpIn := ⟨true, 20, 0⟩
def ev9 (n : Nat) : State := { mg9 with health := { mg9.health with receiver := some 9, events := [⟨3, 1, 2, n, 50000⟩] } }

theorem witness_PowerCommandsComplete_1 : ∃ (s : State) (seat unit : Nat), Canonical s ∧ s.boot.halted = false ∧ isUnit s seat unit = true ∧ unit ≠ 16 ∧ isSet s (Reg.PWR_CTRL_AUTO seat) = true ∧ rd s (Reg.PWR_UNIT_CFG_PADDLE_IDLE seat unit) ≠ 0 ∧ unitState s seat unit = 0 ∧ unitHeld s seat = none := ⟨pw9 [], 2, 5, by unfold Canonical FSorted; decide⟩
theorem witness_PowerCommandsComplete_2 : ∃ (s : State) (seat unit source : Nat) (work _abort : Option Nat), Canonical s ∧ s.boot.halted = false ∧ isUnit s seat unit = true ∧ unit ≠ 16 ∧ isSet s (Reg.PWR_CTRL_AUTO seat) = true ∧ rd s (Reg.PWR_UNIT_CFG_PADDLE_IDLE seat unit) ≠ 0 ∧ unitState s seat unit = 0 ∧ (unitHeld s seat).orElse (fun _ => work) = some source := ⟨pw9 [], 2, 5, 9, some 9, none, by unfold Canonical FSorted; decide⟩
theorem witness_PowerCommandsComplete_3 : ∃ (s : State) (seat unit : Nat), Canonical s ∧ s.boot.halted = false ∧ isUnit s seat unit = true ∧ easyAllowed unit = true ∧ isSet s (Reg.PWR_CTRL_AUTO seat) = true ∧ rd s (Reg.PWR_UNIT_CFG_EASY_IDLE seat unit) ≠ 0 ∧ unitState s seat unit = 1 ∧ unitHeld s seat = none ∧ easyHeld s seat unit = none ∧ FSorted s.keys.slots ∧ FSorted s.par.inverses := ⟨pw9 [(Reg.PWR_UNIT_STATE_STATE 2 5, 1)], 2, 5, by unfold Canonical FSorted; decide⟩
theorem witness_PowerCommandsComplete_4 : ∃ (s : State) (seat unit _source _cycles : Nat), Canonical s ∧ isUnit s seat unit = true ∧ unitState s seat unit ≠ 0 := ⟨pw9 [(Reg.PWR_UNIT_STATE_STATE 2 5, 2)], 2, 5, 9, 40, by unfold Canonical FSorted; decide⟩
theorem witness_PowerCommandsComplete_5 : ∃ (s : State) (ticks : Nat), Canonical s ∧ max 1 (rd s Reg.HLD_FILTER_TICKS) ≤ ticks ∧ rd s Reg.HLD_STATUS_PHASE = 0 ∧ s.boot.halted = false ∧ s.hw.brownout = false := ⟨mb9, 70000, by unfold Canonical FSorted; decide⟩
theorem witness_PowerCommandsComplete_6 : ∃ (s : State) (ticks : Nat), Canonical s ∧ ticks < max 1 (rd s Reg.HLD_FILTER_TICKS) := ⟨mb9, 0, by unfold Canonical FSorted; decide⟩
theorem witness_PowerCommandsComplete_7 : ∃ (s : State) (seat : Nat), Canonical s ∧ 16 ≤ fgetD s.pwr.hotStrokes seat 0 ∧ rd s Reg.HLD_STATUS_PHASE = 0 ∧ s.boot.halted = false ∧ s.hw.brownout = false := ⟨{ mb9 with pwr := { mb9.pwr with hotStrokes := [(3, 16)] } }, 3, by unfold Canonical FSorted; decide⟩
theorem witness_PowerCommandsComplete_8 : ∃ (s : State) (seat side k : Nat), Canonical s ∧ s.boot.halted = false ∧ writingKey s seat side = some k := ⟨hz9 false, 1, 0, imageKey 1 0 0, by unfold Canonical FSorted; decide⟩
theorem witness_PowerCommandsComplete_9 : ∃ (s : State) (seat side _micros k : Nat) (i : HaulImage), Canonical s ∧ s.boot.halted = false ∧ writingKey s seat side = some k ∧ fget s.pwr.images k = some i ∧ i.programmed = true := ⟨hz9 true, 1, 0, 700, imageKey 1 0 0, img9 true, by unfold Canonical FSorted; decide⟩
theorem witness_PowerCommandsComplete_10 : ∃ (s : State) (rail : Nat), Canonical s ∧ rail < 7 ∧ bitOf (rd s Reg.PKG_SUPPLY_LOW) rail = false := ⟨mb9, 4, by unfold Canonical FSorted; decide⟩
theorem witness_PowerCommandsComplete_11 : ∃ (s : State) (rail : Nat), Canonical s ∧ rail < 7 := ⟨setR [(Reg.PKG_SUPPLY_LOW, 4)] mb9, 2, by unfold Canonical FSorted; decide⟩
theorem witness_PowerCommandsComplete_12 : ∃ (s : State) (rail : Nat) (_b : BootRom), Canonical s ∧ rail < 7 ∧ (s.hw.brownout = false ∨ s.pci.perst = true) := ⟨setR [(Reg.PKG_SUPPLY_LOW, 4)] { mb9 with hw := { mb9.hw with railsOut := [2], brownout := true }, pci := { mb9.pci with perst := true } }, 2, ⟨Straps.low, [], 0, true⟩, by unfold Canonical FSorted; decide⟩
theorem witness_RecorderAndMemoryComplete_1 : ∃ (s : State) (seat : Nat), Canonical s ∧ seat < s.hw.seats := ⟨setR [(Reg.PFR_STATUS_RECORDS 2, 1)] { mb9 with health := { mb9.health with recs := [(pairKey 2 0, rec9)] } }, 2, by unfold Canonical FSorted; decide⟩
theorem witness_RecorderAndMemoryComplete_2 : ∃ (s : State) (seat trig : Nat), Canonical s ∧ seat < s.hw.seats ∧ trig < 8 := ⟨setR [(Reg.PFR_TRIG_KIND 2 4, 5), (Reg.PFR_STATUS_ARMED 2, 1)] (tg9 .software), 2, 4, by unfold Canonical FSorted; decide⟩
theorem witness_RecorderAndMemoryComplete_3 : ∃ (s : State) (seat mask g n : Nat) (x : PfrTrig), Canonical s ∧ seat < s.hw.seats ∧ (List.range 8).filter (fun u => bitOf mask u && (fget s.health.trigs (pairKey seat u)).any fun y => y.arm.cond == .software) = [g] ∧ fget s.health.trigs (pairKey seat g) = some x ∧ x.last = none ∧ x.arm.limit = 0 ∧ recsUsed s seat = n ∧ n < 2048 := ⟨tg9 .software, 2, 16, 4, 0, ⟨⟨.software, [0x10000], 0, 0⟩, 0, none⟩, by unfold Canonical FSorted; decide⟩
theorem witness_RecorderAndMemoryComplete_4 : ∃ (s : State) (seat fromSeat fromTrig g n : Nat) (x : PfrTrig), Canonical s ∧ seat < s.hw.seats ∧ (List.range 8).filter (fun u => (fget s.health.trigs (pairKey seat u)).any fun y => y.arm.cond == .linked fromSeat fromTrig) = [g] ∧ fget s.health.trigs (pairKey seat g) = some x ∧ x.last = none ∧ x.arm.limit = 0 ∧ recsUsed s seat = n ∧ n < 2048 := ⟨tg9 (.linked 5 3), 2, 5, 3, 4, 0, ⟨⟨.linked 5 3, [0x10000], 0, 0⟩, 0, none⟩, by unfold Canonical FSorted; decide⟩
theorem witness_RecorderAndMemoryComplete_5 : ∃ (s : State) (seat record i : Nat) (r : PfrRec), Canonical s ∧ seat < s.hw.seats ∧ fget s.health.recs (pairKey seat (record % 2048)) = some r ∧ i < 64 := ⟨{ mb9 with health := { mb9.health with recs := [(pairKey 2 3, rec9)] } }, 2, 3, 63, rec9, by unfold Canonical FSorted; decide⟩
theorem witness_RecorderAndMemoryComplete_6 : ∃ (s : State) (seat channel _retries : Nat) (_ok : Bool), Canonical s ∧ s.boot.halted = false ∧ seat < s.hw.seats ∧ s.hw.seats ≤ 8 ∧ channel < 2 := ⟨mb9, 2, 1, 4, false, by unfold Canonical FSorted; decide⟩
theorem witness_RecorderAndMemoryComplete_7 : ∃ (s : State) (seat channel : Nat) (x : RemapCopy) (l : List RemapCopy), Canonical s ∧ s.boot.halted = false ∧ seat < s.hw.seats ∧ channel < 2 ∧ (chanOf s seat channel).copying = x :: l ∧ (chanOf s seat channel).remap.length < 31 := ⟨ch9, 1, 1, ⟨99, 0⟩, [], by unfold Canonical FSorted; decide⟩
theorem witness_RecorderAndMemoryComplete_8 : ∃ (s : State) (seat _value _corrected _bad : Nat), Canonical s ∧ seat < s.hw.seats ∧ s.hw.seats ≤ 8 := ⟨mb9, 2, 0x4108, 1, 4, by unfold Canonical FSorted; decide⟩
theorem witness_ManagementCommandsComplete_1 : ∃ (s : State) (_address : Nat), Canonical s ∧ i3cAnswers s = true ∧ isSet s Reg.MGT_STATUS_ADDRESSED = false := ⟨mb9, 0x2A, by unfold Canonical FSorted; decide⟩
theorem witness_ManagementCommandsComplete_2 : ∃ (s : State) (bytes : Nat), i3cAnswers s = true ∧ bytes ≤ 256 := ⟨mb9, 256, by decide⟩
theorem witness_ManagementCommandsComplete_3 : ∃ (s : State) (bytes : Nat), i3cAnswers s = true ∧ bytes ≤ 256 := ⟨mb9, 256, by decide⟩
theorem witness_ManagementCommandsComplete_4 : ∃ (s : State) (m : MctpIn) (_eid : Nat), Canonical s ∧ MessageTaken m true s := ⟨mg9, mi9, 9, by unfold Canonical MessageTaken FSorted; decide⟩
theorem witness_ManagementCommandsComplete_5 : ∃ (s : State) (m : MctpIn), Canonical s ∧ MessageTaken m true s := ⟨mg9, mi9, by unfold Canonical MessageTaken FSorted; decide⟩
theorem witness_ManagementCommandsComplete_6 : ∃ (s : State) (m : MctpIn), Canonical s ∧ MessageTaken m true s := ⟨mg9, mi9, by unfold Canonical MessageTaken FSorted; decide⟩
theorem witness_ManagementCommandsComplete_7 : ∃ (s : State) (m : MctpIn), Canonical s ∧ MessageTaken m true s := ⟨mg9, mi9, by unfold Canonical MessageTaken FSorted; decide⟩
theorem witness_ManagementCommandsComplete_8 : ∃ (s : State) (m : MctpIn), Canonical s ∧ MessageTaken m true s := ⟨mg9, mi9, by unfold Canonical MessageTaken FSorted; decide⟩
theorem witness_ManagementCommandsComplete_9 : ∃ (s : State) (m : MctpIn), Canonical s ∧ MessageTaken m false s := ⟨mg9, mi9, by unfold Canonical MessageTaken FSorted; decide⟩
theorem witness_ManagementCommandsComplete_10 : ∃ (s : State) (m : MctpIn) (_tid : Nat), Canonical s ∧ MessageTaken m false s := ⟨mg9, mi9, 17, by unfold Canonical MessageTaken FSorted; decide⟩
theorem witness_ManagementCommandsComplete_11 : ∃ (s : State) (m : MctpIn) (_type : Nat), Canonical s ∧ MessageTaken m false s := ⟨mg9, mi9, 2, by unfold Canonical MessageTaken FSorted; decide⟩
theorem witness_ManagementCommandsComplete_12 : ∃ (s : State) (m : MctpIn), Canonical s ∧ MessageTaken m false s := ⟨mg9, mi9, by unfold Canonical MessageTaken FSorted; decide⟩
theorem witness_ManagementCommandsComplete_13 : ∃ (s : State) (m : MctpIn) (_type : Nat), Canonical s ∧ MessageTaken m false s := ⟨mg9, mi9, 2, by unfold Canonical MessageTaken FSorted; decide⟩
theorem witness_ManagementCommandsComplete_14 : ∃ (s : State) (m : MctpIn), Canonical s ∧ MessageTaken m false s := ⟨mg9, mi9, by unfold Canonical MessageTaken FSorted; decide⟩
theorem witness_ManagementCommandsComplete_15 : ∃ (s : State) (m : MctpIn) (handle n : Nat), Canonical s ∧ MessageTaken m false s ∧ (sensorList s)[max 1 handle - 1]? = some n := ⟨mg9, mi9, 9, 0x10, by unfold Canonical MessageTaken FSorted; decide⟩
theorem witness_ManagementCommandsComplete_16 : ∃ (s : State) (m : MctpIn) (_sensor : Nat), Canonical s ∧ MessageTaken m false s := ⟨mg9, mi9, 0x10, by unfold Canonical MessageTaken FSorted; decide⟩
theorem witness_ManagementCommandsComplete_17 : ∃ (s : State) (m : MctpIn) (_sensor : Nat), Canonical s ∧ MessageTaken m false s := ⟨mg9, mi9, 0x20, by unfold Canonical MessageTaken FSorted; decide⟩
theorem witness_ManagementCommandsComplete_18 : ∃ (s : State) (m : MctpIn) (_sensor : Nat), Canonical s ∧ MessageTaken m false s := ⟨mg9, mi9, 1, by unfold Canonical MessageTaken FSorted; decide⟩
theorem witness_ManagementCommandsComplete_19 : ∃ (s : State) (m : MctpIn) (_receiver : Nat), Canonical s ∧ MessageTaken m false s := ⟨mg9, mi9, 12, by unfold Canonical MessageTaken FSorted; decide⟩
theorem witness_ManagementCommandsComplete_20 : ∃ (s : State) (answered : Nat), s.health.events.drop answered = [] := ⟨ev9 1, 1, by decide⟩
theorem witness_ManagementCommandsComplete_21 : ∃ (s : State) (answered : Nat) (e : PldmEvent) (l : List PldmEvent), s.health.events.drop answered = e :: l ∧ e.sent ≠ 0 ∧ e.sent < 4 ∧ e.at_ + 10000 ≤ s.stk.ext ∧ i3cAnswers s = true := ⟨ev9 1, 0, ⟨3, 1, 2, 1, 50000⟩, [], by decide⟩

end D17

namespace D18

def mb9 : State := { mapped (row0 .programmed) id with stk := { up.stk with ext := 70000 } }
def mg9 : State := setR [(Reg.MGT_STATUS_ADDRESSED, 1)] mb9
def mi9 : MctpIn := ⟨true, 20, 0⟩
def im9 : ImageHeader := ⟨40000, 5, 9, 1, 2, 3, 65535, 0, 77⟩
def sh9 : StagedHeader := ⟨im9, 4, 3, 0, 55, 66⟩
def ud9 (f : Upd → Upd) : State := { mg9 with upd := f mg9.upd, boot := { mg9.boot with running := some im9 } }
def us9 (st : UpdState) (l : List Nat) : State := ud9 fun u => { u with st := st, header := some sh9, pieces := l }
def ub9 (f : Upd → Upd) : State := setR [(portReg Reg.OAR_PORT_STATUS_SESSION 0, 1), (Reg.BLD_SLOT_STATUS_OWNED 0, 1)] (ud9 fun u => f { u with bridges := [0], peerDone := true, fwMeas := 66 })
def pr9 (s : State) : State := { s with pair := { s.pair with st := .solo } }

theorem witness_UpdatePiecesComplete_1 : ∃ (s : State) (m : MctpIn) (p : PieceMsg), MessageTaken m false s ∧ p.intact = true ∧ s.upd.header = none ∧ p.piece = 0 ∧ p.length = 16384 ∧ s.upd.checking = none := ⟨mg9, mi9, ⟨55, 0, 16384, true⟩, by unfold MessageTaken; decide⟩
theorem witness_UpdatePiecesComplete_2 : ∃ (s : State) (m : MctpIn) (p : PieceMsg) (u : StagedHeader), MessageTaken m false s ∧ p.intact = true ∧ s.upd.header = some u ∧ u.imageId = p.imageId ∧ (s.upd.st = .receiving ∨ s.upd.st = .verified ∨ s.upd.st = .scheduled) ∧ p.piece < u.pieces ∧ p.length = pieceLen u p.piece := ⟨us9 .receiving [0, 1, 3], mi9, ⟨55, 2, 16384, true⟩, sh9, by unfold MessageTaken; decide⟩
theorem witness_UpdatePiecesComplete_3 : ∃ (s : State) (m : MctpIn) (p : PieceMsg), Canonical s ∧ MessageTaken m false s ∧ p.intact = true ∧ s.upd.header = none ∧ p.piece = 0 ∧ p.length ≠ 16384 := ⟨mg9, mi9, ⟨55, 0, 16000, true⟩, by unfold Canonical MessageTaken FSorted; decide⟩
theorem witness_UpdatePiecesComplete_4 : ∃ (s : State) (m : MctpIn) (p : PieceMsg), Canonical s ∧ MessageTaken m false s ∧ p.intact = false := ⟨mg9, mi9, ⟨55, 0, 16384, false⟩, by unfold Canonical MessageTaken FSorted; decide⟩
theorem witness_UpdatePiecesComplete_5 : ∃ (s : State) (m : MctpIn) (_imageId : Nat), Canonical s ∧ MessageTaken m false s := ⟨us9 .receiving [0, 1], mi9, 55, by unfold Canonical MessageTaken FSorted; decide⟩
theorem witness_UpdatePiecesComplete_6 : ∃ (s : State) (u : StagedHeader) (c : HeaderChecks) (spaceOk : Bool), Canonical s ∧ s.boot.halted = false ∧ s.upd.checking = some u.imageId ∧ headerRefusal 268419072 u.h c s = none ∧ u.pieces = pieceCount u.h.bodyLen ∧ compatRefusal u s = none ∧ s.pair.sides ≠ [] ∧ spaceOk = true := ⟨ud9 fun u => { u with checking := some 55 }, sh9, ⟨true, some 0, true, true, true⟩, true, by unfold Canonical FSorted; decide⟩
theorem witness_UpdatePiecesComplete_7 : ∃ (s : State) (u : StagedHeader) (c : HeaderChecks) (_spaceOk : Bool) (r : Nat), Canonical s ∧ s.boot.halted = false ∧ s.upd.checking = some u.imageId ∧ headerRefusal 268419072 u.h c s = some r := ⟨ud9 fun u => { u with checking := some 55 }, sh9, ⟨true, some 0, true, true, false⟩, true, 7, by unfold Canonical FSorted; decide⟩
theorem witness_UpdatePiecesComplete_8 : ∃ (s : State) , Canonical s ∧ s.boot.halted = false ∧ s.upd.st = .verifying ∧ mayRun s 0 .sweep = true := ⟨us9 .verifying [0, 1, 2, 3], by unfold Canonical FSorted; decide⟩
theorem witness_UpdatePiecesComplete_9 : ∃ (s : State) (_l : List Nat), Canonical s ∧ s.boot.halted = false ∧ s.upd.st = .verifying ∧ mayRun s 0 .sweep = true := ⟨us9 .verifying [0, 1, 2, 3], [2], by unfold Canonical FSorted; decide⟩
theorem witness_UpdatePiecesComplete_10 : ∃ (s : State) (_reason : Nat), Canonical s ∧ s.boot.halted = false ∧ s.upd.st = .verifying ∧ mayRun s 0 .sweep = true := ⟨us9 .verifying [0, 1, 2, 3], 0x15, by unfold Canonical FSorted; decide⟩
theorem witness_UpdateCommandsComplete_1 : ∃ (s : State) (slot : Nat) (u : StagedHeader), CmdReady slot Opc.updStatusGet s ∧ s.upd.header = some u := ⟨cmdIn Opc.updStatusGet (us9 .verified [0, 1, 2, 3]), 3, sh9, by unfold CmdReady; decide⟩
theorem witness_UpdateCommandsComplete_2 : ∃ (s : State) (slot at_ : Nat) (soloOk peerConfirms : Bool), CmdReady slot Opc.updActivate s ∧ s.stk.ext + 1000 ≤ at_ ∧ s.upd.st = .verified ∧ updReady soloOk s = true ∧ (s.pair.st = .paired → peerConfirms = true) := ⟨cmdIn Opc.updActivate (pr9 (us9 .verified [0, 1, 2, 3])), 3, 80000, true, false, by unfold CmdReady; decide⟩
theorem witness_UpdateCommandsComplete_3 : ∃ (s : State) (slot : Nat), CmdReady slot Opc.updCancel s ∧ s.upd.st = .scheduled := ⟨cmdIn Opc.updCancel (pr9 (us9 .scheduled [0, 1, 2, 3])), 3, by unfold CmdReady; decide⟩
theorem witness_UpdateCommandsComplete_4 : ∃ (s : State) (slot : Nat), Canonical s ∧ CmdReady slot Opc.updDiscard s ∧ s.upd.st ≠ .scheduled ∧ s.upd.st ≠ .verifying ∧ s.upd.st ≠ .activating := ⟨cmdIn Opc.updDiscard (us9 .verified [0, 1, 2, 3]), 3, by unfold Canonical CmdReady FSorted; decide⟩
theorem witness_UpdateCommandsComplete_5 : ∃ (s : State) (slot : Nat) (u : StagedHeader), CmdReady slot Opc.updExport s ∧ s.upd.header = some u ∧ (s.upd.st = .verified ∨ s.upd.st = .scheduled) ∧ s.pci.bme = true := ⟨cmdIn Opc.updExport (us9 .verified [0, 1, 2, 3]), 3, sh9, by unfold CmdReady; decide⟩
theorem witness_UpdateCommandsComplete_6 : ∃ (s : State) (slot : Nat), CmdReady slot Opc.updBitmapGet s ∧ s.pci.bme = true := ⟨cmdIn Opc.updBitmapGet (us9 .receiving [0, 3]), 3, by unfold CmdReady; decide⟩
theorem witness_UpdateCommandsComplete_7 : ∃ (s : State) (slot : Nat), CmdReady slot Opc.updVerify s ∧ updComplete s = true ∧ (s.upd.st = .receiving ∨ s.upd.st = .verified) := ⟨cmdIn Opc.updVerify (us9 .verified [0, 1, 2, 3]), 3, by unfold CmdReady; decide⟩
theorem witness_UpdateCommandsComplete_8 : ∃ (s : State) (slot : Nat), s.boot.halted = false ∧ s.upd.bridges.contains slot = true ∧ s.upd.peerDone = true ∧ s.upd.st ≠ .activating ∧ bridgeFree s slot = true ∧ isSet s (portReg Reg.OAR_PORT_STATUS_SESSION slot) = true ∧ isSet s (Reg.BLD_SLOT_STATUS_OWNED slot) = true := ⟨ub9 id, 0, by decide⟩
theorem witness_UpdateCommandsComplete_9 : ∃ (s : State) (slot : Nat), s.boot.halted = false ∧ s.upd.bridges.contains slot = true ∧ s.upd.peerDone = true ∧ s.upd.st ≠ .activating := ⟨ub9 id, 0, by decide⟩
theorem witness_UpdateCommandsComplete_10 : ∃ (s : State) (slot : Nat) (r : BridgeRestart), s.boot.halted = false ∧ FSorted s.upd.restarts ∧ fget s.upd.restarts slot = some r ∧ r.back = false ∧ r.started + 32000 ≤ s.stk.ext := ⟨ub9 (fun u => { u with restarts := [(0, ⟨1000, 66, false, []⟩)] }), 0, ⟨1000, 66, false, []⟩, by unfold FSorted; decide⟩

end D18

end Sys2Proof.Tests
end

section
/-!
SUPPORT. Where the bits of a register's word come from (R9): the fields of a row share no bit, so each bit of the word is a bit of one field or
reserved; and what an access to an offset that names no register does.
-/

namespace Sys2Proof.Machine

/-! ### The fields of one row -/

/-- Two fields of a row share no bit. -/
@[reducible] def FieldDef.Apart (d e : FieldDef) : Prop := d.lsb + d.width ≤ e.lsb ∨ e.lsb + e.width ≤ d.lsb

/-- The fields of a row share no bit, two by two. -/
@[reducible] def RegDef.FieldsApart (d : RegDef) : Prop := d.fields.Pairwise FieldDef.Apart

theorem pkgRegs_fieldsApart : ∀ d ∈ pkgRegs, d.FieldsApart := by
  simp only [pkgRegs, List.forall_mem_append, and_assoc]
  exact ⟨by decide, by decide, by decide, by decide, by decide⟩

theorem seatRegs_fieldsApart : ∀ d ∈ seatRegs, d.FieldsApart := by
  simp only [seatRegs, List.forall_mem_append, and_assoc]
  exact ⟨by decide, by decide, by decide, by decide, by decide, by decide, by decide, by decide⟩

theorem cfgRegs_fieldsApart : ∀ d ∈ cfgRegs, d.FieldsApart := by decide

/-! ### The register that an access reaches -/

theorem findReg_row_mem {base off : Nat} {l : List RegDef} {r : RegRef} (h : findReg base l off = some r) : r.row ∈ l := by
  fun_induction findReg base l off with
  | case1 => cases h
  | case2 =>
    cases h
    exact List.mem_cons_self
  | case3 d t off _ _ _ _ ih => exact List.mem_cons_of_mem d (ih h)

theorem regAt_fieldsApart {s : State} {a : Nat} {r : RegRef} (h : regAt s a = some r) : r.row.FieldsApart := by
  unfold regAt at h
  split at h
  · exact cfgRegs_fieldsApart _ (findReg_row_mem h)
  split at h
  · exact pkgRegs_fieldsApart _ (findReg_row_mem h)
  split at h
  · exact seatRegs_fieldsApart _ (findReg_row_mem h)
  · cases h

theorem target_fieldsApart {s : State} {a : Nat} {r : RegRef} (h : target s a = some r) : r.row.FieldsApart := by
  unfold target at h
  split at h
  · cases h
  · exact regAt_fieldsApart h

/-! ### The bits of a word -/

/-- A field reads within its width, whether it is stored, shown from elsewhere or waits for the stroke boundary. -/
theorem readFld_lt (s : State) (acc : Acc) (f : Fld) : readFld s acc f < 2 ^ f.width := by
  have hpos : 0 < 2 ^ f.width := Nat.two_pow_pos _
  unfold readFld
  split
  · exact hpos
  split
  · exact Nat.mod_lt _ hpos
  split
  · exact Nat.mod_lt _ hpos
  · exact rd_lt s f

theorem readFld_testBit_of_width_le (s : State) (r : RegRef) (d : FieldDef) {i : Nat} (h : d.width ≤ i) :
    (readFld s d.acc (fldOf r d)).testBit i = false :=
  Nat.testBit_lt_two_pow (Nat.lt_of_lt_of_le (readFld_lt s d.acc (fldOf r d)) (Nat.pow_le_pow_right Nat.two_pos h))

/-- Numbers without a common bit add without a carry. -/
theorem add_eq_or_of_and_eq_zero {a b : Nat} (h : a &&& b = 0) : a + b = a ||| b := by
  have hlt : a + b < 2 ^ (a + b) := Nat.lt_two_pow_self
  have ha : a < 2 ^ (a + b) := by omega
  have hb : b < 2 ^ (a + b) := by omega
  have hand : BitVec.ofNat (a + b) a &&& BitVec.ofNat (a + b) b = 0#(a + b) :=
    BitVec.eq_of_toNat_eq (by simp [Nat.mod_eq_of_lt, ha, hb, h])
  have hadd := congrArg BitVec.toNat (BitVec.add_eq_or_of_and_eq_zero _ _ hand)
  simpa [Nat.mod_eq_of_lt, ha, hb, hlt] using hadd

/-- A value placed on free bits of a word shows there and changes no other bit. -/
theorem testBit_add_field {w v k n : Nat} (hv : v < 2 ^ n) (hw : ∀ j, k ≤ j → j < k + n → w.testBit j = false) (i : Nat) :
    (w + v * 2 ^ k).testBit i = (w.testBit i || (decide (k ≤ i) && v.testBit (i - k))) := by
  have hand : w &&& v * 2 ^ k = 0 := by
    refine Nat.eq_of_testBit_eq fun j => ?_
    rw [Nat.testBit_and, Nat.testBit_mul_two_pow, Nat.zero_testBit]
    rcases Nat.lt_or_ge j k with hj | hj
    · simp [Nat.not_le.2 hj]
    rcases Nat.lt_or_ge j (k + n) with hj' | hj'
    · simp [hw j hj hj']
    · simp [Nat.testBit_lt_two_pow (Nat.lt_of_lt_of_le hv (Nat.pow_le_pow_right Nat.two_pos (Nat.le_sub_of_add_le' hj')))]
  rw [add_eq_or_of_and_eq_zero hand, Nat.testBit_or, Nat.testBit_mul_two_pow]

/-- Fields that share no bit, placed one after the other on free bits of a word: a bit of the result is one of the word or of a field. -/
theorem testBit_foldl_fields (v : FieldDef → Nat) (i : Nat) {l : List FieldDef} (hl : l.Pairwise FieldDef.Apart)
    (hv : ∀ d ∈ l, v d < 2 ^ d.width) {w : Nat} (hw : ∀ d ∈ l, ∀ j, d.lsb ≤ j → j < d.lsb + d.width → w.testBit j = false) :
    (l.foldl (fun w d => w + v d * 2 ^ d.lsb) w).testBit i =
      (w.testBit i || l.any fun d => decide (d.lsb ≤ i) && (v d).testBit (i - d.lsb)) := by
  induction l generalizing w with
  | nil => simp
  | cons d t ih =>
    obtain ⟨hd, ht⟩ := List.pairwise_cons.1 hl
    obtain ⟨hvd, hvt⟩ := List.forall_mem_cons.1 hv
    obtain ⟨hwd, hwt⟩ := List.forall_mem_cons.1 hw
    have hstep := testBit_add_field hvd hwd
    have hfree : ∀ e ∈ t, ∀ j, e.lsb ≤ j → j < e.lsb + e.width → (w + v d * 2 ^ d.lsb).testBit j = false := by
      intro e he j hlo hhi
      rw [hstep, hwt e he j hlo hhi, Bool.false_or]
      rcases hd e he with h | h
      · rw [Nat.testBit_lt_two_pow (Nat.lt_of_lt_of_le hvd (Nat.pow_le_pow_right Nat.two_pos (by omega))), Bool.and_false]
      · rw [decide_eq_false (by omega), Bool.false_and]
    rw [List.foldl_cons, ih ht hvt hfree, hstep, List.any_cons, Bool.or_assoc]

/-- The word of a 32-bit register, bit by bit: a bit is set where a field holds it. -/
theorem readWord_testBit {s : State} {r : RegRef} (hr : r.row.FieldsApart) (hwide : r.row.wide = false) (i : Nat) :
    (readWord s r).testBit i =
      r.row.fields.any fun d => decide (d.lsb ≤ i) && (readFld s d.acc (fldOf r d)).testBit (i - d.lsb) := by
  have h := testBit_foldl_fields (fun d => readFld s d.acc (fldOf r d)) i hr (fun d _ => readFld_lt s d.acc (fldOf r d)) (w := 0)
    (fun _ _ j _ _ => Nat.zero_testBit j)
  rw [Nat.zero_testBit, Bool.false_or] at h
  simpa [readWord, hwide] using h

/-- A bit outside every field of a 32-bit register reads as zero. -/
theorem readWord_testBit_reserved {s : State} {r : RegRef} {i : Nat} (hr : r.row.FieldsApart) (hwide : r.row.wide = false)
    (hi : ∀ d ∈ r.row.fields, i < d.lsb ∨ d.lsb + d.width ≤ i) : (readWord s r).testBit i = false := by
  rw [readWord_testBit hr hwide, List.any_eq_false]
  intro d hd
  rcases hi d hd with h | h
  · simp [Nat.not_le.2 h]
  · simp [readFld_testBit_of_width_le s r d (Nat.le_sub_of_add_le' h)]

/-- A bit above the width of a 64-bit quantity reads as zero in the half that holds it; `i` counts from the half's own lowest bit. -/
theorem readWord_testBit_reserved_wide {s : State} {r : RegRef} {i : Nat} (hwide : r.row.wide = true)
    (hi : ∀ d ∈ r.row.fields, d.width ≤ (if r.high then 32 + i else i)) : (readWord s r).testBit i = false := by
  unfold readWord
  rw [if_pos hwide]
  split
  next d l hl =>
    have hd := hi d (by simp [hl])
    cases hhigh : r.high
    case false =>
      rw [hhigh, if_neg Bool.false_ne_true] at hd
      exact (Nat.testBit_mod_two_pow _ 32 i).trans (by rw [readFld_testBit_of_width_le s r d hd, Bool.and_false])
    case true =>
      rw [hhigh, if_pos rfl, Nat.add_comm] at hd
      exact (Nat.testBit_div_two_pow (n := 32) _ i).trans (readFld_testBit_of_width_le s r d hd)
  next => exact Nat.zero_testBit i

/-! ### An offset that names no register -/

/-- Below configuration space no register of Advanced Error Reporting is read. -/
theorem aerRead_below {s : State} {a : Nat} (ha : a < cfgBase) : aerRead s a = 0 := by
  have hne (n : Nat) : a ≠ cfgSpace + n := by unfold cfgSpace; omega
  have hnle (n : Nat) : ¬ cfgSpace + n ≤ a := by unfold cfgSpace; omega
  simp only [aerRead, hne, hnle, false_and, if_false]

/-- Below configuration space no register of Advanced Error Reporting is written. -/
theorem aerWrite_below {s : State} {a : Nat} (ha : a < cfgBase) (v : Nat) : aerWrite a v s = s := by
  have hne (n : Nat) : a ≠ cfgSpace + n := by unfold cfgSpace; omega
  simp only [aerWrite, aerMod, hne, if_false]

theorem busRead_unnamed {s : State} {a req : Nat} (hacts : served s a req = .acts) (hnone : target s a = none) (ha : a < cfgBase) :
    busRead a req s = emit .busRead [req, a, 0] s := by
  simp only [busRead, hacts, regRead, hnone, aerRead_below ha]

theorem busWrite_unnamed {s : State} {a req : Nat} (hacts : served s a req = .acts) (hnone : target s a = none) (ha : a < cfgBase)
    (v events : Nat) : busWrite a req v events s = s := by
  simp only [busWrite, hacts, regWrite, hnone, aerWrite_below ha]

end Sys2Proof.Machine

namespace Sys2Proof

open Sys2Proof.Machine

/-- Settles O9: the fields of every row of the register tables share no bit and each reads within its width, so a reserved bit comes from no
field; and an access to an unnamed offset below configuration space ends in the error registers' own range check. -/
theorem reservedBitsReadZero : Obligations.ReservedBitsReadZero := by
  unfold Obligations.ReservedBitsReadZero
  refine ⟨?_, ?_, ?_, ?_⟩
  · intro s addr r i hr hwide hi
    exact readWord_testBit_reserved (target_fieldsApart hr) hwide hi
  · intro s addr r i _ hwide hi
    exact readWord_testBit_reserved_wide hwide hi
  · intro s addr req hacts hnone haddr
    exact ⟨_, rfl, busRead_unnamed hacts hnone haddr⟩
  · intro s addr value req events hacts hnone haddr
    exact ⟨_, rfl, busWrite_unnamed hacts hnone haddr value events⟩

end Sys2Proof
end

section
/-!
SUPPORT. The commands that leave the cox role alone (R35): every command whose areas do not name it. Each case cites the laws of the shared
operations its meaning is made of.
-/

namespace Sys2Proof.Machine

open Sys2Proof

/-- The set of every area but the cox role, one bit for each area at its `areaIdx`. -/
def allButCox : Nat := 0x3FFFFDF

theorem Follows.cox_eq {r t : State} (h : Follows allButCox r t) : t.cox = r.cox := h.frame .cox rfl

/-! ### The answers of mailbox commands -/

theorem Follows.answerIte {U : Nat} {r : State} {c : Prop} [Decidable c] {a b : Sts × Nat × List Nat × State}
    (ha : Follows U r a.2.2.2) (hb : Follows U r b.2.2.2) : Follows U r (if c then a else b).2.2.2 := by
  split <;> assumption

/-- A check of a mailbox command: where it fails, the command is refused and goes no further. -/
theorem Follows.orRefuse {U : Nat} {r s : State} {c : Prop} [Decidable c] {st : Sts} {d : Nat} {b : Sts × Nat × List Nat × State}
    (h : Follows U r s) (hb : Follows U r b.2.2.2) : Follows U r (if c then refuse st d s else b).2.2.2 :=
  .answerIte (refuse_follows h) hb

theorem Follows.startIte {A : Type} {U : Nat} {r : State} {c : Prop} [Decidable c] {a b : A × State}
    (ha : Follows U r a.2) (hb : Follows U r b.2) : Follows U r (if c then a else b).2 := by
  split <;> assumption

/-- The state beside an answer, or beside none yet. -/
theorem Follows.started {A : Type} {a : A} {U : Nat} {r s : State} (h : Follows U r s) : Follows U r (a, s).2 := h

/-! ### Commands of Machine/FrontEnd.lean that look something up -/

theorem sourceBlockExpiry_keepsCox {seat src : Nat} {s : State} : Completes (.sourceBlockExpiry seat src) s (Follows allButCox s) := by
  refine ⟨_, rfl, running_follows (.refl _ s) (fun _ h₁ => ?_)⟩
  split
  · exact .ite (.set_fe h₁ rfl) h₁
  · exact h₁

theorem mrRegister_keepsCox {slot index tag pd base len : Nat} {remRead remWrite : Bool} {s : State} :
    Completes (.mrRegister slot index tag pd base len remRead remWrite) s (Follows allButCox s) := by
  refine ⟨_, rfl, mbxRun_follows (.refl _ s) (fun _ h₁ => .orRefuse h₁ ?_) rfl⟩
  dsimp only
  split
  · exact okWith_follows (setMr_follows h₁ rfl)
  · split
    · exact refuse_follows (foldS_follows h₁ (fun _ _ h₂ => bump_follows h₂ rfl))
    · exact okWith_follows (setMr_follows h₁ rfl)

theorem mrInvalidate_keepsCox {slot index : Nat} {s : State} : Completes (.mrInvalidate slot index) s (Follows allButCox s) := by
  refine ⟨_, rfl, mbxBegin_follows (.refl _ s) (fun _ h₁ => ?_) rfl⟩
  split
  · exact h₁
  · split
    · exact .started (foldS_follows h₁ (fun _ _ h₂ => bump_follows h₂ rfl))
    · exact .startIte (.started (setMr_follows h₁ rfl)) (.started (setMr_follows h₁ rfl))

/-! ### Commands of Machine/Nvme.lean that look something up -/

theorem nvmeIdentify_keepsCox {seat qp : Nat} {sqe : SqEntry} {cns nsid : Nat} {s : State} :
    Completes (.nvmeIdentify seat qp sqe cns nsid) s (Follows allButCox s) := by
  refine ⟨_, rfl, running_follows (.refl _ s) (fun _ h₁ => adminCmd_follows h₁ (fun _ _ _ h₂ => .ite ?_ <| .ite (nvData_follows h₂ rfl) <|
    .ite (nvData_follows h₂ rfl) (nvSend_follows h₂ rfl)) rfl)⟩
  split
  · exact nvData_follows h₂ rfl
  · exact nvSend_follows h₂ rfl

theorem nvmeAsyncEventRequest_keepsCox {seat qp : Nat} {sqe : SqEntry} {s : State} :
    Completes (.nvmeAsyncEventRequest seat qp sqe) s (Follows allButCox s) := by
  refine ⟨_, rfl, running_follows (.refl _ s) (fun _ h₁ => adminCmd_follows h₁ (fun _ _ _ h₂ => ?_) rfl)⟩
  split
  · exact nvSend_follows (setCtrl_follows h₂ rfl) rfl
  · exact setCtrl_follows h₂ rfl

theorem nvmeAbort_keepsCox {seat qp : Nat} {sqe : SqEntry} {sq target : Nat} {s : State} :
    Completes (.nvmeAbort seat qp sqe sq target) s (Follows allButCox s) := by
  refine ⟨_, rfl, running_follows (.refl _ s) (fun _ h₁ => adminCmd_follows h₁ (fun _ _ _ h₂ => .ite (nvSend_follows (nvSend_follows
    (setCtrl_follows h₂ rfl) rfl) rfl) ?_) rfl)⟩
  split
  · exact nvSend_follows (finishCmd_follows h₂ rfl) rfl
  · exact nvSend_follows h₂ rfl

theorem nvmeConnect_keepsCox {seat qp : Nat} {sqe : SqEntry} {nqn host kato : Nat} {joins : ConnectTo} {s : State} :
    Completes (.nvmeConnect seat qp sqe nqn host kato joins) s (Follows allButCox s) := by
  refine ⟨_, rfl, running_follows (.refl _ s) (fun _ h₁ => fromQp_follows h₁ (fun _ _ h₂ => .ite h₂ ?_) rfl)⟩
  split
  · exact nvSend_follows h₂ rfl
  · split
    · exact connectRefuse_follows h₂ rfl
    · split
      · split
        · exact connectRefuse_follows h₂ rfl
        · exact nvSend_follows (pinsWake_follows (setQp_follows (setCtrl_follows h₂ rfl) rfl) rfl) rfl
      · split
        · exact nvSend_follows h₂ rfl
        · exact .ite (connectRefuse_follows h₂ rfl) <| .ite (nvSend_follows h₂ rfl) (nvSend_follows (pinsWake_follows (setQp_follows
            (setCtrl_follows h₂ rfl) rfl) rfl) rfl)

theorem nvmeDisconnect_keepsCox {seat qp : Nat} {sqe : SqEntry} {s : State} :
    Completes (.nvmeDisconnect seat qp sqe) s (Follows allButCox s) := by
  refine ⟨_, rfl, running_follows (.refl _ s) (fun _ h₁ => fromQp_follows h₁ (fun _ _ h₂ => ?_) rfl)⟩
  split
  · refine .ite h₂ ?_
    split
    · exact nvSend_follows h₂ rfl
    · exact .ite (ctrlTear_follows (nvSend_follows h₂ rfl) rfl) (qpDisconnect_follows (setCtrl_follows (nvSend_follows h₂ rfl) rfl) rfl)
  · exact h₂

theorem katoExpiry_keepsCox {seat ctrl kaCount : Nat} {s : State} : Completes (.katoExpiry seat ctrl kaCount) s (Follows allButCox s) := by
  refine ⟨_, rfl, running_follows (.refl _ s) (fun _ h₁ => ?_)⟩
  split
  · exact .ite (ctrlTear_follows (bump_follows h₁ rfl) rfl) h₁
  · exact h₁

theorem easyHoldLimit_keepsCox {cmd : Nat} {s : State} : Completes (.easyHoldLimit cmd) s (Follows allButCox s) := by
  refine ⟨_, rfl, running_follows (.refl _ s) (fun _ h₁ => ?_)⟩
  split
  · exact .ite (holdFail_follows h₁ rfl) h₁
  · exact h₁

/-! ### Commands of Machine/Ingest.lean that look something up -/

theorem rangeLockGrant_keepsCox {nsid granule : Nat} {s : State} : Completes (.rangeLockGrant nsid granule) s (Follows allButCox s) := by
  refine ⟨_, rfl, running_follows (.refl _ s) (fun _ h₁ => ?_)⟩
  split
  · exact lockGo_follows (.set_ing h₁ rfl) rfl
  · exact h₁

theorem zoneRecordsArrive_keepsCox {cmd idx : Nat} {s : State} : Completes (.zoneRecordsArrive cmd idx) s (Follows allButCox s) := by
  refine ⟨_, rfl, running_follows (.refl _ s) (fun _ h₁ => ?_)⟩
  split
  · exact .ite (appendRetry_follows (blkAppend_follows (blkMod_follows h₁ rfl) rfl) rfl) h₁
  · exact h₁

theorem ftEarlySeal_keepsCox {pool row : Nat} {s : State} : Completes (.ftEarlySeal pool row) s (Follows allButCox s) := by
  refine ⟨_, rfl, running_follows (.refl _ s) (fun _ h₁ => ?_)⟩
  split
  · exact .ite (rowClose_follows h₁ rfl) h₁
  · exact h₁

theorem idleEarlySeal_keepsCox {pool row : Nat} {s : State} : Completes (.idleEarlySeal pool row) s (Follows allButCox s) := by
  refine ⟨_, rfl, running_follows (.refl _ s) (fun _ h₁ => ?_)⟩
  split
  · exact .ite (rowClose_follows h₁ rfl) h₁
  · exact h₁

theorem dictSample_keepsCox {slot nsid count : Nat} {s : State} : Completes (.dictSample slot nsid count) s (Follows allButCox s) := by
  refine ⟨_, rfl, mbxRun_follows (.refl _ s) (fun _ h₁ => ?_) rfl⟩
  split
  · exact refuse_follows h₁
  · exact .orRefuse h₁ <| needsHost_follows h₁ (fun _ h₂ => okWith_follows (toHost_follows h₂ rfl))

/-! ### Commands of Machine/Stripes.lean that look something up -/

theorem rebuildRow_keepsCox {pool row : Nat} {checksOk progOk : Bool} {s : State} :
    Completes (.rebuildRow pool row checksOk progOk) s (Follows allButCox s) := by
  refine ⟨_, rfl, running_follows (.refl _ s) (fun _ h₁ => .ite h₁ ?_)⟩
  split
  · exact .ite (catchRow_follows h₁ rfl) (rebuildStep_follows h₁ rfl)
  · exact rebuildStep_follows h₁ rfl

theorem groupCreate_keepsCox {slot pool side k m dies : Nat} {shares : List (Nat × Nat)} {ageGrouped : Bool} {s : State} :
    Completes (.groupCreate slot pool side k m dies shares ageGrouped) s (Follows allButCox s) := by
  refine ⟨_, rfl, mbxRun_follows (.refl _ s) (fun _ h₁ => .orRefuse h₁ <| .orRefuse h₁ <| .orRefuse h₁ ?_) rfl⟩
  split
  · exact refuse_follows h₁
  · exact okWith_follows (redundancy_follows (foldS_follows (pairControl_follows (ownCreate_follows (.set_par h₁ rfl) rfl) rfl)
      (fun _ _ h₂ => slotAssign_follows h₂ rfl)) rfl)

theorem groupShareFail_keepsCox {slot pool member : Nat} {s : State} :
    Completes (.groupShareFail slot pool member) s (Follows allButCox s) := by
  refine ⟨_, rfl, mbxRun_follows (.refl _ s) (fun _ h₁ => onGroup_follows h₁ (fun _ _ h₂ => ?_)) rfl⟩
  split
  · exact refuse_follows h₂
  · exact okWith_follows (.ite h₂ (shareLost_follows h₂ rfl))

theorem groupRebuildTarget_keepsCox {slot pool member target : Nat} {s : State} :
    Completes (.groupRebuildTarget slot pool member target) s (Follows allButCox s) := by
  refine ⟨_, rfl, mbxRun_follows (.refl _ s) (fun _ h₁ => onGroup_follows h₁ (fun _ _ h₂ => ?_)) rfl⟩
  split
  · exact refuse_follows h₂
  · refine .orRefuse h₂ <| .orRefuse h₂ ?_
    split
    · exact refuse_follows h₂
    · exact okWith_follows (rebuildStart_follows h₂ rfl)

theorem groupReshape_keepsCox {slot pool k m : Nat} {shares : List (Nat × Nat)} {s : State} :
    Completes (.groupReshape slot pool k m shares) s (Follows allButCox s) := by
  refine ⟨_, rfl, mbxRun_follows (.refl _ s) (fun _ h₁ => onGroup_follows h₁ (fun _ _ h₂ => .orRefuse h₂ <| .answerIte (.answerIte
    (okWith_follows (walkReverse_follows h₂ rfl)) (refuse_follows h₂)) <| .orRefuse h₂ ?_)) rfl⟩
  split
  · exact refuse_follows h₂
  · exact .orRefuse h₂ <| .orRefuse h₂ <| okWith_follows (boundWrite_follows (walkMod_follows (foldS_follows (groupMod_follows h₂ rfl)
      (fun _ _ h₃ => slotAssign_follows h₃ rfl)) rfl) rfl)

/-! ### Commands of Machine/Blades.lean that look something up -/

theorem oarReplayTimeout_keepsCox {slot : Nat} {s : State} : Completes (.oarReplayTimeout slot) s (Follows allButCox s) := by
  refine ⟨_, rfl, live_follows (.refl _ s) (fun _ h₁ => when_follows h₁ (fun _ h₂ => ?_))⟩
  split
  · exact h₂
  · exact replayFrom_follows h₂ rfl

/-! ### Commands of Machine/Rating.lean that look something up -/

theorem rateLoopsStage_keepsCox {slot seat : Nat} {entries : List (Nat × LoopCfg)} {s : State} :
    Completes (.rateLoopsStage slot seat entries) s (Follows allButCox s) := by
  have h := Follows.refl allButCox s
  refine ⟨_, rfl, .ite h ?_⟩
  split
  · exact mbxRun_follows h (fun _ h₁ => refuse_follows h₁) rfl
  · exact .ite h (mbxRun_follows h (fun _ h₁ => .orRefuse h₁ <| .orRefuse h₁ <| okWith_follows (setRate_follows h₁ rfl)) rfl)

/-! ### Commands of Machine/Snapshots.lean that look something up -/

theorem snapCreate_keepsCox {slot cg t : Nat} {s : State} : Completes (.snapCreate slot cg t) s (Follows allButCox s) := by
  refine ⟨_, rfl, mbxBegin_follows (.refl _ s) (fun _ h₁ => ?_) rfl⟩
  split
  · exact .startIte (.started (snapRegister_follows h₁ rfl)) (.started (snapRegister_follows h₁ rfl))
  · exact h₁

theorem snapDelete_keepsCox {slot snap : Nat} {s : State} : Completes (.snapDelete slot snap) s (Follows allButCox s) := by
  have h := Follows.refl allButCox s
  refine ⟨_, rfl, ?_⟩
  split
  · exact mbxRun_follows h (fun _ h₁ => refuse_follows h₁) rfl
  · exact .ite h (mbxRun_follows h (fun _ h₁ => .orRefuse h₁ <| .answerIte (okWith_follows (objectTell_follows
      (snapDrop_follows h₁ rfl) rfl)) (okWith_follows (pairControl_follows (snapDrop_follows h₁ rfl) rfl))) rfl)

theorem snapClone_keepsCox {slot snap member nsid : Nat} {s : State} :
    Completes (.snapClone slot snap member nsid) s (Follows allButCox s) := by
  refine ⟨_, rfl, mbxRun_follows (.refl _ s) (fun _ h₁ => ?_) rfl⟩
  split
  · exact refuse_follows h₁
  · refine .orRefuse h₁ <| .orRefuse h₁ <| .orRefuse h₁ ?_
    split
    · exact refuse_follows h₁
    · exact .orRefuse h₁ <| .orRefuse h₁ <| okWith_follows (objectTell_follows (dirsShare_follows (setNs_follows h₁ rfl) rfl) rfl)

theorem snapInfo_keepsCox {slot snap : Nat} {s : State} : Completes (.snapInfo slot snap) s (Follows allButCox s) := by
  refine ⟨_, rfl, mbxRun_follows (.refl _ s) (fun _ h₁ => ?_) rfl⟩
  split
  · exact refuse_follows h₁
  · exact okWith_follows h₁

theorem snapSpace_keepsCox {slot snap : Nat} {s : State} : Completes (.snapSpace slot snap) s (Follows allButCox s) := by
  refine ⟨_, rfl, mbxRun_follows (.refl _ s) (fun _ h₁ => ?_) rfl⟩
  split
  · exact refuse_follows h₁
  · exact .orRefuse h₁ <| okWith_follows h₁

theorem cgMemberSet_keepsCox {slot cg nsid : Nat} {add : Bool} {s : State} :
    Completes (.cgMemberSet slot cg nsid add) s (Follows allButCox s) := by
  refine ⟨_, rfl, mbxRun_follows (.refl _ s) (fun _ h₁ => ?_) rfl⟩
  split
  · exact refuse_follows h₁
  · exact .orRefuse h₁ <| .orRefuse h₁ <| okWith_follows (groupStore_follows h₁ rfl)

/-! ### Commands of Machine/Replication.lean that look something up -/

theorem cmRep_keepsCox {seat qp : Nat} {s : State} : Completes (.cmRep seat qp) s (Follows allButCox s) := by
  refine ⟨_, rfl, running_follows (.refl _ s) (fun _ h₁ => cmStep_follows h₁ (fun _ _ h₂ => ?_) rfl)⟩
  dsimp only
  split
  · split
    · exact replSend_follows (cmSend_follows (setQp_follows h₂ rfl) rfl) rfl
    · exact cmSend_follows (setQp_follows h₂ rfl) rfl
  · exact cmSend_follows (setQp_follows h₂ rfl) rfl

theorem cmRej_keepsCox {seat qp : Nat} {s : State} : Completes (.cmRej seat qp) s (Follows allButCox s) := by
  refine ⟨_, rfl, running_follows (.refl _ s) (fun _ h₁ => cmStep_follows h₁ (fun _ _ h₂ => freeQp_follows ?_ rfl) rfl)⟩
  split
  · exact partMod_follows h₂ rfl
  · exact h₂

/-! ### Commands of Machine/Trust.lean that look something up -/

theorem keyEraseApply_keepsCox {domain : Nat} {s : State} : Completes (.keyEraseApply domain) s (Follows allButCox s) := by
  refine ⟨_, rfl, live_follows (.refl _ s) (fun _ h₁ => ?_)⟩
  split
  · exact h₁
  · split
    · exact h₁
    · exact .ite h₁ <| .ite (.ite (pairControl_follows (ancWrote_follows (domainMod_follows (slotsClear_follows h₁ rfl) rfl) rfl) rfl)
        (eraseWaitsPeer_follows (ancWrote_follows (domainMod_follows (slotsClear_follows h₁ rfl) rfl) rfl) rfl)) <| .ite (domainMod_follows
        (slotsClear_follows h₁ rfl) rfl) h₁

theorem keyDomainCreate_keepsCox {slot tenant : Nat} {ns share : Bool} {s : State} :
    Completes (.keyDomainCreate slot tenant ns share) s (Follows allButCox s) := by
  refine ⟨_, rfl, mbxRun_follows (.refl _ s) (fun _ h₁ => .orRefuse h₁ <| .orRefuse h₁ <| .answerIte ?_ ?_) rfl⟩
  · split
    · exact okWith_follows (domainNew_follows h₁ rfl)
    · exact refuse_follows h₁
  · split
    · exact okWith_follows (domainNew_follows h₁ rfl)
    · exact .orRefuse h₁ <| okWith_follows (domainNew_follows h₁ rfl)

theorem keyDomainErase_keepsCox {slot domain : Nat} {s : State} : Completes (.keyDomainErase slot domain) s (Follows allButCox s) := by
  refine ⟨_, rfl, mbxBegin_follows (.refl _ s) (fun _ h₁ => ?_) rfl⟩
  split
  · exact h₁
  · exact .startIte h₁ (.started (domainMod_follows h₁ rfl))

theorem keyFkShare_keepsCox {slot domain link : Nat} {targetEmpty : Bool} {s : State} :
    Completes (.keyFkShare slot domain link targetEmpty) s (Follows allButCox s) := by
  refine ⟨_, rfl, mbxRun_follows (.refl _ s) (fun _ h₁ => onDomain_follows h₁ (fun _ _ h₂ => ?_)) rfl⟩
  split
  · exact refuse_follows h₂
  · refine .orRefuse h₂ ?_
    split
    · exact refuse_follows h₂
    · exact .orRefuse h₂ <| .answerIte (okWith_follows (replSend_follows h₂ rfl)) (refuse_follows (replSend_follows h₂ rfl))

/-! ### Commands of Machine/Update.lean that look something up -/

theorem updHeaderChecked_keepsCox {u : StagedHeader} {c : HeaderChecks} {spaceOk : Bool} {s : State} :
    Completes (.updHeaderChecked u c spaceOk) s (Follows allButCox s) := by
  refine ⟨_, rfl, live_follows (.refl _ s) (fun _ h₁ => .ite h₁ ?_)⟩
  dsimp only
  split
  · exact pieceAck_follows (updRefuse_follows (updMod_follows (.set_upd h₁ rfl) rfl) rfl) rfl
  · exact .ite (pieceAck_follows (.set_upd h₁ rfl) rfl) (pieceAck_follows (updEvent_follows (updMod_follows (.set_upd h₁ rfl) rfl) rfl) rfl)

theorem updVerifyRun_keepsCox {v : VerifyResult} {s : State} : Completes (.updVerifyRun v) s (Follows allButCox s) := by
  refine ⟨_, rfl, live_follows (.refl _ s) (fun _ h₁ => .ite h₁ ?_)⟩
  dsimp only
  split
  · exact updEvent_follows (updMod_follows (digFeed_follows (charge_follows h₁ rfl) rfl) rfl) rfl
  · exact updEvent_follows (updMod_follows (digFeed_follows (charge_follows h₁ rfl) rfl) rfl) rfl
  · exact updRefuse_follows (digFeed_follows (charge_follows h₁ rfl) rfl) rfl

theorem updExport_keepsCox {slot : Nat} {s : State} : Completes (.updExport slot) s (Follows allButCox s) := by
  refine ⟨_, rfl, mbxRun_follows (.refl _ s) (fun _ h₁ => ?_) rfl⟩
  split
  · exact .orRefuse h₁ <| needsHost_follows h₁ (fun _ h₂ => okWith_follows (toHost_follows h₂ rfl))
  · exact refuse_follows h₁

theorem bridgeRestartTimeout_keepsCox {slot : Nat} {s : State} : Completes (.bridgeRestartTimeout slot) s (Follows allButCox s) := by
  refine ⟨_, rfl, live_follows (.refl _ s) (fun _ h₁ => ?_)⟩
  split
  · exact .ite (bridgesShow_follows (restartLost_follows h₁ rfl) rfl) h₁
  · exact h₁

/-! ### Commands of Machine/Namespaces.lean that look something up -/

theorem nsCreate_keepsCox {slot nsid : Nat} {p : NsParams} {s : State} : Completes (.nsCreate slot nsid p) s (Follows allButCox s) := by
  refine ⟨_, rfl, mbxRun_follows (.refl _ s) (fun _ h₁ => .orRefuse h₁ ?_) rfl⟩
  split
  · exact refuse_follows h₁
  · exact .orRefuse h₁ <| .orRefuse h₁ <| okWith_follows (objectTell_follows (setNs_follows h₁ rfl) rfl)

theorem nsSecureDiscard_keepsCox {slot nsid : Nat} {s : State} : Completes (.nsSecureDiscard slot nsid) s (Follows allButCox s) := by
  refine ⟨_, rfl, discardCheck_follows (mbxBegin_follows (.refl _ s) (fun _ h₁ => ?_) rfl) rfl⟩
  split
  · exact .startIte (discardRun_follows h₁ rfl) h₁
  · exact discardRun_follows h₁ rfl

theorem nsInfo_keepsCox {slot nsid : Nat} {s : State} : Completes (.nsInfo slot nsid) s (Follows allButCox s) := by
  refine ⟨_, rfl, mbxRun_follows (.refl _ s) (fun _ h₁ => ?_) rfl⟩
  split
  · exact refuse_follows h₁
  · exact okWith_follows h₁

theorem subsysHostsSet_keepsCox {slot sub : Nat} {hosts : List Nat} {s : State} :
    Completes (.subsysHostsSet slot sub hosts) s (Follows allButCox s) := by
  refine ⟨_, rfl, mbxRun_follows (.refl _ s) (fun _ h₁ => ?_) rfl⟩
  split
  · exact refuse_follows h₁
  · exact okWith_follows (subsysStore_follows h₁ rfl)

theorem tenantCreate_keepsCox {slot tenant : Nat} {sprint : Bool} {s : State} :
    Completes (.tenantCreate slot tenant sprint) s (Follows allButCox s) := by
  refine ⟨_, rfl, mbxRun_follows (.refl _ s) (fun _ h₁ => .orRefuse h₁ ?_) rfl⟩
  split
  · exact okWith_follows (tenantStore_follows (domainNew_follows h₁ rfl) rfl)
  · exact .orRefuse h₁ <| .answerIte (okWith_follows (tenantStore_follows h₁ rfl)) (okWith_follows (tenantStore_follows
      (domainNew_follows h₁ rfl) rfl))

theorem tenantAddrSet_keepsCox {slot tenant : Nat} {ranges : List (Nat × Nat)} {s : State} :
    Completes (.tenantAddrSet slot tenant ranges) s (Follows allButCox s) := by
  refine ⟨_, rfl, mbxRun_follows (.refl _ s) (fun _ h₁ => ?_) rfl⟩
  split
  · exact refuse_follows h₁
  · exact .orRefuse h₁ <| okWith_follows (tenantStore_follows h₁ rfl)

/-! ### Commands of Machine/Pair.lean that look something up -/

theorem fenceAck_keepsCox {slot epoch : Nat} {log : List (Nat × List Delta)} {s : State} :
    Completes (.fenceAck slot epoch log) s (Follows allButCox s) := by
  have h := Follows.refl allButCox s
  refine ⟨_, rfl, ?_⟩
  split
  · exact .ite (fencesGoOn_follows (fenceAcked_follows h rfl) rfl) h
  · exact h

theorem pairLaneFail_keepsCox {seat : Nat} {s : State} : Completes (.pairLaneFail seat) s (Follows allButCox s) := by
  have h := Follows.refl allButCox s
  refine ⟨_, rfl, ?_⟩
  split
  · exact .ite (laneFails_follows h rfl) h
  · exact h

theorem pairLaneReturn_keepsCox {seat : Nat} {s : State} : Completes (.pairLaneReturn seat) s (Follows allButCox s) := by
  have h := Follows.refl allButCox s
  refine ⟨_, rfl, ?_⟩
  split
  · exact .ite (pairEvent_follows (showRoutes_follows (wr_follows h rfl) rfl) rfl) h
  · exact h

theorem pairRetxTimeout_keepsCox {seat : Nat} {s : State} : Completes (.pairRetxTimeout seat) s (Follows allButCox s) := by
  refine ⟨_, rfl, running_follows (.refl _ s) (fun _ h₁ => ?_)⟩
  split
  · exact .ite (resendAll_follows h₁ rfl) h₁
  · exact h₁

theorem claimTimeout_keepsCox {s : State} : Completes (.claimTimeout) s (Follows allButCox s) := by
  refine ⟨_, rfl, running_follows (.refl _ s) (fun _ h₁ => ?_)⟩
  split
  · exact .ite (claimUndecided_follows h₁ rfl) h₁
  · exact h₁

theorem claimRetry_keepsCox {s : State} : Completes (.claimRetry) s (Follows allButCox s) := by
  refine ⟨_, rfl, running_follows (.refl _ s) (fun _ h₁ => ?_)⟩
  split
  · exact .ite (claimDecide_follows (claimStart_follows h₁ rfl) rfl) h₁
  · exact h₁

theorem pairFenceTimeout_keepsCox {slot : Nat} {log : List (Nat × List Delta)} {s : State} :
    Completes (.pairFenceTimeout slot log) s (Follows allButCox s) := by
  have h := Follows.refl allButCox s
  refine ⟨_, rfl, ?_⟩
  split
  · exact .ite (fencesGoOn_follows (slotSharesLost_follows (slotMod_follows h rfl) rfl) rfl) h
  · exact h

theorem pairJoinWaitExpiry_keepsCox {s : State} : Completes (.pairJoinWaitExpiry) s (Follows allButCox s) := by
  refine ⟨_, rfl, running_follows (.refl _ s) (fun _ h₁ => ?_)⟩
  split
  · exact .ite (claimDecide_follows (claimStart_follows h₁ rfl) rfl) h₁
  · exact h₁

theorem pairJoinRetry_keepsCox {s : State} : Completes (.pairJoinRetry) s (Follows allButCox s) := by
  have h := Follows.refl allButCox s
  refine ⟨_, rfl, ?_⟩
  split
  · exact .ite (.set_pair h rfl) h
  · exact h

theorem pairWindowsSet_keepsCox {slot c sw guard stroke : Nat} {s : State} :
    Completes (.pairWindowsSet slot c sw guard stroke) s (Follows allButCox s) := by
  refine ⟨_, rfl, mbxRun_follows (.refl _ s) (fun _ h₁ => .orRefuse h₁ ?_) rfl⟩
  split
  · exact refuse_follows h₁
  · exact okWith_follows (pairControl_follows (.set_pair h₁ rfl) rfl)

/-! ### Commands of Machine/Mailbox.lean that look something up -/

theorem mbxCommandStart_keepsCox {lane : Nat} {s : State} : Completes (.mbxCommandStart lane) s (Follows allButCox s) := by
  have h := Follows.refl allButCox s
  refine ⟨_, rfl, .ite h ?_⟩
  split
  · exact h
  · exact .ite h (.ite (setSlot_follows h rfl) <| .ite (issueReads_follows (setSlot_follows h rfl) rfl) (mbxComplete_follows
      (setSlot_follows h rfl) rfl))

theorem easyAllQuiesced_keepsCox {obj : EasyObj} {s : State} : Completes (.easyAllQuiesced obj) s (Follows allButCox s) := by
  have h := Follows.refl allButCox s
  refine ⟨_, rfl, ?_⟩
  split
  · split
    · exact .ite (mbxComplete_follows (easyMod_follows h rfl) rfl) h
    · exact h
  · exact h

theorem sysStage_keepsCox {slot : Nat} {obj : EasyObj} {pairs : List (Nat × Nat)} {s : State} :
    Completes (.sysStage slot obj pairs) s (Follows allButCox s) := by
  refine ⟨_, rfl, onEasy_follows (.refl _ s) (fun _ _ h₁ => .startIte h₁ ?_) rfl⟩
  split
  · exact h₁
  · exact .started (easyMod_follows h₁ rfl)

theorem sysRowAll_keepsCox {slot : Nat} {obj : EasyObj} {invalid : Option Nat} {s : State} :
    Completes (.sysRowAll slot obj invalid) s (Follows allButCox s) := by
  refine ⟨_, rfl, onEasy_follows (.refl _ s) (fun _ _ h₁ => ?_) rfl⟩
  split
  · exact h₁
  · exact h₁
  · dsimp only
    split
    · refine .started ?_
      split
      · exact objectTell_follows (easyMod_follows h₁ rfl) rfl
      · exact easyMod_follows h₁ rfl
    · exact .started (setRate_follows (easyMod_follows h₁ rfl) rfl)
    · exact .started (easyMod_follows h₁ rfl)

theorem easyAllExpiry_keepsCox {obj : EasyObj} {s : State} : Completes (.easyAllExpiry obj) s (Follows allButCox s) := by
  have h := Follows.refl allButCox s
  refine ⟨_, rfl, ?_⟩
  split
  · exact .ite (logFw_follows (mbxEvent_follows (easyRelease_follows h rfl) rfl) rfl) h
  · exact h

theorem sysParamGet_keepsCox {slot : Nat} {obj : EasyObj} {id : Nat} {s : State} :
    Completes (.sysParamGet slot obj id) s (Follows allButCox s) := by
  refine ⟨_, rfl, mbxRun_follows (.refl _ s) (fun _ h₁ => ?_) rfl⟩
  split
  · exact refuse_follows h₁
  · exact .orRefuse h₁ <| .orRefuse h₁ <| okWith_follows h₁

theorem sysParamSet_keepsCox {slot : Nat} {obj : EasyObj} {pairs : List (Nat × Nat)} {s : State} :
    Completes (.sysParamSet slot obj pairs) s (Follows allButCox s) := by
  refine ⟨_, rfl, mbxRun_follows (.refl _ s) (fun _ h₁ => ?_) rfl⟩
  split
  · exact refuse_follows h₁
  · refine .orRefuse h₁ <| .orRefuse h₁ <| .orRefuse h₁ ?_
    split
    · exact refuse_follows h₁
    · exact okWith_follows (.set_mbx h₁ rfl)

theorem sysParamDescribe_keepsCox {slot id : Nat} {s : State} : Completes (.sysParamDescribe slot id) s (Follows allButCox s) := by
  refine ⟨_, rfl, mbxRun_follows (.refl _ s) (fun _ h₁ => ?_) rfl⟩
  split
  · exact refuse_follows h₁
  · exact okWith_follows h₁

theorem pfrArm_keepsCox {slot seat trig : Nat} {a : PfrArm} {s : State} : Completes (.pfrArm slot seat trig a) s (Follows allButCox s) := by
  refine ⟨_, rfl, mbxRun_follows (.refl _ s) (fun _ h₁ => ?_) rfl⟩
  split
  · exact refuse_follows h₁
  · exact okWith_follows (showTriggers_follows (wr_follows (wr_follows (wrB_follows (wr_follows
      (.set_health h₁ rfl) rfl) rfl) rfl) rfl) rfl)

/-! ### Commands of Machine/Endpoint.lean that look something up -/

theorem msixUnmask_keepsCox {vector : Option Nat} {s : State} : Completes (.msixUnmask vector) s (Follows allButCox s) := by
  refine ⟨_, rfl, configured_follows (.refl _ s) (fun _ h₁ => ?_)⟩
  split
  · exact msgsFlush_follows (.set_pci h₁ rfl) rfl
  · exact msgsFlush_follows (.set_pci h₁ rfl) rfl

theorem flrTagRelease_keepsCox {tag : Nat} {s : State} : Completes (.flrTagRelease tag) s (Follows allButCox s) := by
  have h := Follows.refl allButCox s
  refine ⟨_, rfl, ?_⟩
  split
  · exact .ite (.set_pci h rfl) h
  · exact h

/-! ### Commands of Machine/Health.lean that look something up -/

theorem pldmGetPdr_keepsCox {m : MctpIn} {handle : Nat} {s : State} : Completes (.pldmGetPdr m handle) s (Follows allButCox s) := by
  refine ⟨_, rfl, mctpTake_follows (.refl _ s) (fun _ h₁ => ?_) rfl⟩
  dsimp only
  split
  · exact mctpSend_follows h₁ rfl
  · exact mctpSend_follows h₁ rfl

theorem pldmEventRetry_keepsCox {answered : Nat} {s : State} : Completes (.pldmEventRetry answered) s (Follows allButCox s) := by
  have h := Follows.refl allButCox s
  refine ⟨_, rfl, ?_⟩
  dsimp only
  split
  · exact .ite (eventNext_follows (.set_health h rfl) rfl) <| .ite (eventNext_follows (.set_health (eventNext_follows
      (.set_health h rfl) rfl) rfl) rfl) (eventOut_follows (eventNext_follows (.set_health h rfl) rfl) rfl)
  · exact eventNext_follows (.set_health h rfl) rfl

/-! ### Commands of Machine/Spdm.lean that look something up -/

theorem spdmGetCertificate_keepsCox {mctp : Bool} {certSlot : Nat} {s : State} :
    Completes (.spdmGetCertificate mctp certSlot) s (Follows allButCox s) := by
  refine ⟨_, rfl, spdmAgreed_follows (.refl _ s) (fun _ _ h₁ => ?_) rfl⟩
  split
  · exact spdmSend_follows (setConn_follows h₁ rfl) rfl
  · exact spdmError_follows h₁ rfl

theorem spdmChallenge_keepsCox {mctp : Bool} {certSlot nonce : Nat} {s : State} :
    Completes (.spdmChallenge mctp certSlot nonce) s (Follows allButCox s) := by
  refine ⟨_, rfl, spdmAgreed_follows (.refl _ s) (fun _ _ h₁ => ?_) rfl⟩
  split
  · exact spdmSigned_follows h₁ rfl
  · exact spdmError_follows h₁ rfl

theorem spdmVendorDefinedRequest_keepsCox {mctp ours : Bool} {s : State} :
    Completes (.spdmVendorDefinedRequest mctp ours) s (Follows allButCox s) := by
  refine ⟨_, rfl, spdmAgreed_follows (.refl _ s) (fun _ _ h₁ => .ite (spdmError_follows h₁ rfl) ?_) rfl⟩
  split
  · exact spdmSend_follows h₁ rfl
  · exact spdmError_follows h₁ rfl

/-! ### All of them -/

/-- A command whose areas do not name the cox role leaves it as it is. -/
theorem exec_keepsCox {c : Instr} {s : State} (hc : Area.cox ∉ areasOf c) : Completes c s (Follows allButCox s) := by
  have h := Follows.refl allButCox s
  cases c with
  | coxFault | coxReturn | sysCoxDrill | strokeEdge | perstAssert | pcieHotReset | pcieLinkDown | fullReset | brownout =>
    simp [areasOf] at hc
  | lowHalfRead => exact ⟨_, rfl, busRead_follows h rfl⟩
  | lowHalfWrite | highHalfWrite | registerWrite => exact ⟨_, rfl, busWrite_follows h rfl⟩
  | readClearCounter => exact ⟨_, rfl, when_follows (busRead_follows h rfl) (fun _ h₁ => countAfter_follows h₁ rfl)⟩
  | bar0BadAccess => exact ⟨_, rfl, badAccess_follows h rfl⟩
  | seatWindowAccess => exact ⟨_, rfl, seatAccess_follows h rfl⟩
  | keelLinkFail => exact ⟨_, rfl, keelLinkFail_follows h rfl⟩
  | strokeInputEdge => exact ⟨_, rfl, .ite (inputEdges_follows h rfl) h⟩
  | strokeInputTimeout => exact ⟨_, rfl, lockLost_follows h rfl⟩
  | holdoverEntry => exact ⟨_, rfl, .ite h (stkEvent_follows (wr_follows (wr_follows h rfl) rfl) rfl)⟩
  | stkSwitchNow => exact ⟨_, rfl, switchNow_follows h rfl⟩
  | strokeRevert => exact ⟨_, rfl, .ite (.set_stk h rfl rfl) h⟩
  | strokeNoLock => exact ⟨_, rfl, .ite (faultNote_follows (.set_stk h rfl rfl) rfl) h⟩
  | stkSchedWrite => exact ⟨_, rfl, schedWrite_follows h rfl⟩
  | feFrameReceive => exact ⟨_, rfl, running_follows h (fun _ h₁ => feFrame_follows h₁ rfl)⟩
  | pfcFrame =>
    exact ⟨_, rfl, running_follows h (fun _ h₁ => foldS_follows (pfcFrame_follows h₁ rfl) (fun _ _ h₂ => placeAll_follows h₂ rfl))⟩
  | subportLinkDown => exact ⟨_, rfl, running_follows h (fun _ h₁ => subportDown_follows h₁ rfl)⟩
  | rocePacketReceive => exact ⟨_, rfl, running_follows h (fun _ h₁ => rocePacket_follows h₁ rfl)⟩
  | roceAckReceive => exact ⟨_, rfl, running_follows h (fun _ h₁ => placeAll_follows (roceAck_follows h₁ rfl) rfl)⟩
  | qpAckTimeout => exact ⟨_, rfl, running_follows h (fun _ h₁ => ackTimeout_follows h₁ rfl)⟩
  | cmReq => exact ⟨_, rfl, running_follows h (fun _ h₁ => .ite (.set_fe h₁ rfl) (cmReq_follows h₁ rfl))⟩
  | cmRep => exact cmRep_keepsCox
  | cmRtu => exact ⟨_, rfl, running_follows h (fun _ h₁ => cmStep_follows h₁ (fun _ _ h₂ => setQp_follows h₂ rfl) rfl)⟩
  | cmRej => exact cmRej_keepsCox
  | cmDreq =>
    exact ⟨_, rfl, running_follows h (fun _ h₁ => cmStep_follows h₁ (fun _ _ h₂ => qpClose_follows (cmSend_follows h₂ rfl) rfl) rfl)⟩
  | cmDrep => exact ⟨_, rfl, running_follows h (fun _ h₁ => cmStep_follows h₁ (fun _ _ h₂ => qpClose_follows h₂ rfl) rfl)⟩
  | rdmaWriteFirstPacket => exact ⟨_, rfl, running_follows h (fun _ h₁ => rdmaWriteFirst_follows h₁ rfl)⟩
  | rdmaWriteLastPacket => exact ⟨_, rfl, running_follows h (fun _ h₁ => rdmaWriteLast_follows h₁ rfl)⟩
  | rdmaReadRequest => exact ⟨_, rfl, running_follows h (fun _ h₁ => rdmaRead_follows h₁ rfl)⟩
  | cnpReceive => exact ⟨_, rfl, running_follows h (fun _ h₁ => cnpReceive_follows h₁ rfl)⟩
  | nvmeIdentify => exact nvmeIdentify_keepsCox
  | nvmeGetLogPage =>
    exact ⟨_, rfl, running_follows h (fun _ h₁ => adminCmd_follows h₁ (fun _ _ _ h₂ => .ite (.ite (nvData_follows h₂ rfl)
      (nvSend_follows h₂ rfl)) <| .ite (nvData_follows h₂ rfl) <| .ite (nvData_follows h₂ rfl) <| .ite (nvData_follows
      (openValue_follows h₂ rfl) rfl) (nvSend_follows h₂ rfl)) rfl)⟩
  | nvmeGetFeatures | nvmePropertyGet =>
    exact ⟨_, rfl, running_follows h (fun _ h₁ => adminCmd_follows h₁ (fun _ _ _ h₂ => nvSend_follows h₂ rfl) rfl)⟩
  | nvmeSetFeatures | nvmeKeepAlive | nvmePropertySet =>
    exact ⟨_, rfl, running_follows h (fun _ h₁ => adminCmd_follows h₁ (fun _ _ _ h₂ => nvSend_follows (setCtrl_follows h₂ rfl) rfl) rfl)⟩
  | nvmeAsyncEventRequest => exact nvmeAsyncEventRequest_keepsCox
  | nvmeAbort => exact nvmeAbort_keepsCox
  | nvmeConnect => exact nvmeConnect_keepsCox
  | nvmeDisconnect => exact nvmeDisconnect_keepsCox
  | nvmeRead | nvmeWrite | nvmeWriteZeroes | nvmeFlush | nvmeDatasetManagement | nvmeVerify | nvmeZoneAppend | nvmeZoneMgmtSend
  | nvmeZoneMgmtReceive | nvmeIoMgmtSend | nvmeIoMgmtReceive =>
    exact ⟨_, rfl, running_follows h (fun _ h₁ => ioArrive_follows h₁ rfl)⟩
  | nvmeUnsupportedOpcode =>
    exact ⟨_, rfl, running_follows h (fun _ h₁ => fromQp_follows h₁ (fun _ _ h₂ => .ite (nvSend_follows h₂ rfl) h₂) rfl)⟩
  | katoExpiry => exact katoExpiry_keepsCox
  | engineTake => exact ⟨_, rfl, running_follows h (fun _ h₁ => engineTake_follows h₁ rfl)⟩
  | sourceBlockExpiry => exact sourceBlockExpiry_keepsCox
  | nvqQpSelect => exact ⟨_, rfl, running_follows h (fun _ h₁ => qpSelect_follows h₁ rfl)⟩
  | rangeLockGrant => exact rangeLockGrant_keepsCox
  | rdmaReadResponse => exact ⟨_, rfl, running_follows h (fun _ h₁ => readResponse_follows h₁ rfl)⟩
  | fpLookupDone => exact ⟨_, rfl, running_follows h (fun _ h₁ => retireCheck_follows (fpDone_follows h₁ rfl) rfl)⟩
  | compressJobEnd => exact ⟨_, rfl, running_follows h (fun _ h₁ => retireCheck_follows (jobEnd_follows h₁ rfl) rfl)⟩
  | zoneRecordsArrive => exact zoneRecordsArrive_keepsCox
  | groupAccept => exact ⟨_, rfl, running_follows h (fun _ h₁ => replCheck_follows (groupTry_follows h₁ rfl) rfl)⟩
  | ftEarlySeal => exact ftEarlySeal_keepsCox
  | idleEarlySeal => exact idleEarlySeal_keepsCox
  | pageFillDone => exact ⟨_, rfl, live_follows h (fun _ h₁ => pageFilled_follows h₁ rfl)⟩
  | tcLineFill => exact ⟨_, rfl, live_follows h (fun _ h₁ => lineFilled_follows h₁ rfl)⟩
  | ckptImagesProgrammed => exact ⟨_, rfl, live_follows h (fun _ h₁ => imagesProgrammed_follows h₁ rfl)⟩
  | ckptRootProgrammed => exact ⟨_, rfl, live_follows h (fun _ h₁ => rootProgrammed_follows h₁ rfl)⟩
  | ckptComplete => exact ⟨_, rfl, live_follows h (fun _ h₁ => ckptDone_follows h₁ rfl)⟩
  | ckptLate => exact ⟨_, rfl, live_follows h (fun _ h₁ => ckptOverdue_follows h₁ rfl)⟩
  | dlogPageProgrammed => exact ⟨_, rfl, live_follows h (fun _ h₁ => dlogProgrammed_follows h₁ rfl)⟩
  | mapRecovery => exact ⟨_, rfl, mapRecover_follows h rfl⟩
  | gcVictimSelect => exact ⟨_, rfl, live_follows h (fun _ h₁ => victimSelect_follows h₁ rfl)⟩
  | gcMoveCommit => exact ⟨_, rfl, live_follows h (fun _ h₁ => moveCommit_follows h₁ rfl)⟩
  | rowErase => exact ⟨_, rfl, live_follows h (fun _ h₁ => rowErase_follows h₁ rfl)⟩
  | bandErase => exact ⟨_, rfl, live_follows h (fun _ h₁ => roomFound_follows (bandErase_follows h₁ rfl) rfl)⟩
  | releaseSweep => exact ⟨_, rfl, live_follows h (fun _ h₁ => retireCheck_follows (releaseSweep_follows h₁ rfl) rfl)⟩
  | refRecountSweep => exact ⟨_, rfl, live_follows h (fun _ h₁ => recount_follows h₁ rfl)⟩
  | dedupPass => exact ⟨_, rfl, live_follows h (fun _ h₁ => dedupPass_follows h₁ rfl)⟩
  | lostSweep => exact ⟨_, rfl, live_follows h (fun _ h₁ => lostSweep_follows h₁ rfl)⟩
  | mapLookupDone => exact ⟨_, rfl, running_follows h (fun _ h₁ => unitSource_follows h₁ rfl)⟩
  | parityReconstructDone => exact ⟨_, rfl, running_follows h (fun _ h₁ => unitParity_follows h₁ rfl)⟩
  | extentOpened => exact ⟨_, rfl, running_follows h (fun _ h₁ => unitOpen_follows h₁ rfl)⟩
  | parityVerify => exact ⟨_, rfl, running_follows h (fun _ h₁ => parityVerify_follows h₁ rfl)⟩
  | rebuildRow => exact rebuildRow_keepsCox
  | reshapeRowConvert => exact ⟨_, rfl, running_follows h (fun _ h₁ => roomFound_follows (walkStep_follows h₁ rfl) rfl)⟩
  | oarLinkTrained => exact ⟨_, rfl, live_follows h (fun _ h₁ => linkTrained_follows h₁ rfl)⟩
  | oarTrainRetry => exact ⟨_, rfl, live_follows h (fun _ h₁ => trainRetry_follows h₁ rfl)⟩
  | oarDataFrame => exact ⟨_, rfl, live_follows h (fun _ h₁ => roomFound_follows (dataFrame_follows h₁ rfl) rfl)⟩
  | oarAck | oarIdle =>
    exact ⟨_, rfl, live_follows h (fun _ h₁ => when_follows h₁ (fun _ h₂ => oarCredits_follows (oarAcked_follows h₂ rfl) rfl))⟩
  | oarNak =>
    exact ⟨_, rfl, live_follows h (fun _ h₁ => when_follows h₁ (fun _ h₂ => oarCredits_follows (replayFrom_follows
      (oarAcked_follows h₂ rfl) rfl) rfl))⟩
  | oarResume =>
    exact ⟨_, rfl, live_follows h (fun _ h₁ => when_follows h₁ (fun _ h₂ => oarCredits_follows (oarReplay_follows
      (oarAcked_follows h₂ rfl) rfl) rfl))⟩
  | oarReplayTimeout => exact oarReplayTimeout_keepsCox
  | oarAckTimer | oarCreditIdle => exact ⟨_, rfl, live_follows h (fun _ h₁ => when_follows h₁ (fun _ h₂ => oarControl_follows h₂ rfl))⟩
  | oarRetrainLimit => exact ⟨_, rfl, live_follows h (fun _ h₁ => retrainLimit_follows h₁ rfl)⟩
  | oarReadRecord => exact ⟨_, rfl, live_follows h (fun _ h₁ => when_follows h₁ (fun _ h₂ => readRecord_follows h₂ rfl))⟩
  | oarCompletion =>
    exact ⟨_, rfl, live_follows h (fun _ h₁ => when_follows h₁ (fun _ h₂ => roomFound_follows (nandComplete_follows h₂ rfl) rfl))⟩
  | oarCmdTimeout => exact ⟨_, rfl, live_follows h (fun _ h₁ => roomFound_follows (nandTimeout_follows h₁ rfl) rfl)⟩
  | slotPresentStable => exact ⟨_, rfl, live_follows h (fun _ h₁ => presentStable_follows h₁ rfl)⟩
  | slotAbsentDetect => exact ⟨_, rfl, live_follows h (fun _ h₁ => absentDetect_follows h₁ rfl)⟩
  | bldPwrOffWrite => exact ⟨_, rfl, pwrOffWrite_follows h rfl⟩
  | bldIndicatorWrite => exact ⟨_, rfl, .ite (waitWrite_follows (waitWrite_follows h rfl) rfl) h⟩
  | bladeAttestDone => exact ⟨_, rfl, live_follows h (fun _ h₁ => roomFound_follows (attestDone_follows h₁ rfl) rfl)⟩
  | bladeHeartbeatTimeout => exact ⟨_, rfl, live_follows h (fun _ h₁ => heartbeatTimeout_follows h₁ rfl)⟩
  | fenceAck => exact fenceAck_keepsCox
  | ringFrameReceive => exact ⟨_, rfl, .ite (bump_follows h rfl) <| .ite h <| .ite (bump_follows h rfl) (ringPut_follows h rfl)⟩
  | ringHealthReply => exact ⟨_, rfl, live_follows h (fun _ h₁ => healthReply_follows h₁ rfl)⟩
  | ringPollTimeout => exact ⟨_, rfl, live_follows h (fun _ h₁ => pollTimeout_follows h₁ rfl)⟩
  | ringIndAck => exact ⟨_, rfl, live_follows h (fun _ h₁ => when_follows h₁ (fun _ h₂ => wr_follows (slotMod_follows h₂ rfl) rfl))⟩
  | ringButton =>
    exact ⟨_, rfl, live_follows h (fun _ h₁ => when_follows h₁ (fun _ h₂ => ringPut_follows (slotEvent_follows
      (bump_follows h₂ rfl) rfl) rfl))⟩
  | pairLaneFail => exact pairLaneFail_keepsCox
  | pairLaneReturn => exact pairLaneReturn_keepsCox
  | pairFrameSend => exact ⟨_, rfl, running_follows h (fun _ h₁ => frameSend_follows h₁ rfl)⟩
  | pairHello => exact ⟨_, rfl, running_follows h (fun _ h₁ => helloTake_follows h₁ rfl)⟩
  | pairExchange =>
    exact ⟨_, rfl, running_follows h (fun _ h₁ => .ite h₁ (.ite (erasesTell_follows (wr_follows (when_follows (exchangeTake_follows
      (strokeStamp_follows h₁ rfl) rfl) (fun _ h₂ => ancWrote_follows h₂ rfl)) rfl) rfl) (exchangeTake_follows
      (strokeStamp_follows h₁ rfl) rfl)))⟩
  | pairHeartbeat =>
    exact ⟨_, rfl, running_follows h (fun _ h₁ => .ite h₁ <| .ite (pairFault_follows (bump_follows h₁ rfl) rfl) (heartbeatTake_follows
      (bumpN_follows h₁ rfl) rfl))⟩
  | pairControl => exact ⟨_, rfl, streamTake_follows h (fun _ h₁ => ctlTake_follows h₁ rfl) rfl⟩
  | pairJournal =>
    exact ⟨_, rfl, streamTake_follows h (fun _ h₁ => .ite (journalTake_follows h₁ rfl) (frameRefuse_follows
      (tagsCount_follows h₁ rfl) rfl)) rfl⟩
  | pairAck => exact ⟨_, rfl, running_follows h (fun _ h₁ => headerTake_follows h₁ rfl)⟩
  | pairNak =>
    exact ⟨_, rfl, running_follows h (fun _ h₁ => .ite (resendAll_follows (bump_follows (headerTake_follows h₁ rfl) rfl) rfl)
      (headerTake_follows h₁ rfl))⟩
  | pairMapSync => exact ⟨_, rfl, streamTake_follows h (fun _ h₁ => .ite (syncTake_follows h₁ rfl) (frameRefuse_follows h₁ rfl)) rfl⟩
  | pairBulk =>
    exact ⟨_, rfl, streamTake_follows h (fun _ h₁ => .ite (frameRefuse_follows (tagsCount_follows h₁ rfl) rfl) (viewApply_follows
      (bulkOwn_follows (foldS_follows h₁ (fun _ _ h₂ => objectTake_follows h₂ rfl)) rfl) rfl)) rfl⟩
  | pairAckTimer => exact ⟨_, rfl, .ite (bareQueue_follows h rfl) h⟩
  | pairRetxTimeout => exact pairRetxTimeout_keepsCox
  | cWindowClose => exact ⟨_, rfl, running_follows h (fun _ h₁ => windowClose_follows h₁ rfl)⟩
  | witnessReply => exact ⟨_, rfl, running_follows h (fun _ h₁ => witnessReply_follows h₁ rfl)⟩
  | claimTimeout => exact claimTimeout_keepsCox
  | claimRetry => exact claimRetry_keepsCox
  | pairFenceTimeout => exact pairFenceTimeout_keepsCox
  | pairJoinWaitExpiry => exact pairJoinWaitExpiry_keepsCox
  | pairJoinRetry => exact pairJoinRetry_keepsCox
  | failbackFence => exact ⟨_, rfl, running_follows h (fun _ h₁ => failbackFence_follows h₁ rfl)⟩
  | pairStatusGet | sysInfo | sysEasyList | pwrStateGet | updStatusGet =>
    exact ⟨_, rfl, mbxRun_follows h (fun _ h₁ => okWith_follows h₁) rfl⟩
  | pairFailbackHold =>
    exact ⟨_, rfl, mbxRun_follows h (fun _ h₁ => okWith_follows (when_follows (.set_pair h₁ rfl) (fun _ h₂ =>
      failbackHeld_follows h₂ rfl))) rfl⟩
  | pairHandover =>
    exact ⟨_, rfl, mbxBegin_follows h (fun _ h₁ => .startIte h₁ <| .startIte h₁ <| .startIte h₁ (pairControl_follows
      (.set_pair h₁ rfl) rfl)) rfl⟩
  | pairGoSolo =>
    exact ⟨_, rfl, mbxRun_follows h (fun _ h₁ => .orRefuse h₁ <| okWith_follows (.ite h₁ (claimDecide_follows
      (claimStart_follows h₁ rfl) rfl))) rfl⟩
  | pairWindowsSet => exact pairWindowsSet_keepsCox
  | pairLaneSet =>
    exact ⟨_, rfl, mbxRun_follows h (fun _ h₁ => .orRefuse h₁ <| okWith_follows (when_follows (laneMod_follows h₁ rfl) (fun _ h₂ =>
      laneFails_follows h₂ rfl))) rfl⟩
  | rateCompute => exact ⟨_, rfl, .ite h (bumpN_follows (setRate_follows h rfl) rfl)⟩
  | rateSetpointSet | rateOpenSet =>
    exact ⟨_, rfl, mbxRun_follows h (fun _ h₁ => .orRefuse h₁ <| .orRefuse h₁ <| .orRefuse h₁ <| .orRefuse h₁ <| okWith_follows
      (foldS_follows h₁ (fun _ _ h₂ => setRate_follows h₂ rfl))) rfl⟩
  | rateLoopsStage => exact rateLoopsStage_keepsCox
  | rateTableGet | snapList =>
    exact ⟨_, rfl, mbxRun_follows h (fun _ h₁ => .orRefuse h₁ <| needsHost_follows h₁ (fun _ h₂ => okWith_follows
      (toHost_follows h₂ rfl))) rfl⟩
  | rateLoopSelect | pcieL1Exit => exact ⟨_, rfl, wr_follows h rfl⟩
  | snapCreate => exact snapCreate_keepsCox
  | snapDelete => exact snapDelete_keepsCox
  | snapClone => exact snapClone_keepsCox
  | snapInfo => exact snapInfo_keepsCox
  | snapSpace => exact snapSpace_keepsCox
  | cgCreate =>
    exact ⟨_, rfl, mbxRun_follows h (fun _ h₁ => .orRefuse h₁ <| .orRefuse h₁ <| .orRefuse h₁ <| okWith_follows
      (groupStore_follows h₁ rfl)) rfl⟩
  | cgMemberSet => exact cgMemberSet_keepsCox
  | cgDelete =>
    exact ⟨_, rfl, mbxRun_follows h (fun _ h₁ => .orRefuse h₁ <| .orRefuse h₁ <| okWith_follows (objectTell_follows
      (objectTake_follows h₁ rfl) rfl)) rfl⟩
  | replLinkCreate =>
    exact ⟨_, rfl, mbxRun_follows h (fun _ h₁ => .orRefuse h₁ <| .orRefuse h₁ <| .orRefuse h₁ <| .orRefuse h₁ <| .orRefuse h₁ <|
      .orRefuse h₁ <| .orRefuse h₁ <| .orRefuse h₁ <| okWith_follows (.ite (linkTell_follows (linkInstall_follows h₁ rfl) rfl)
      (foldS_follows (linkTell_follows (linkInstall_follows h₁ rfl) rfl) (fun _ _ h₂ => partConnect_follows
      (partMod_follows h₂ rfl) rfl)))) rfl⟩
  | replEpochNow =>
    exact ⟨_, rfl, mbxRun_follows h (fun _ h₁ => onLink_follows h₁ (fun _ _ h₂ => .orRefuse h₂ <| .orRefuse h₂ <| okWith_follows
      (linkMod_follows h₂ rfl))) rfl⟩
  | replPause =>
    exact ⟨_, rfl, mbxRun_follows h (fun _ h₁ => onLink_follows h₁ (fun _ _ h₂ => okWith_follows (.ite (linkMod_follows h₂ rfl)
      (foldS_follows (linkMod_follows h₂ rfl) (fun _ _ h₃ => partOffer_follows h₃ rfl))))) rfl⟩
  | replStatusGet => exact ⟨_, rfl, mbxRun_follows h (fun _ h₁ => onLink_follows h₁ (fun _ _ h₂ => okWith_follows h₂)) rfl⟩
  | replPromote =>
    exact ⟨_, rfl, mbxRun_follows h (fun _ h₁ => onLink_follows h₁ (fun _ _ h₂ => .orRefuse h₂ <| .orRefuse h₂ <| okWith_follows
      (linkEnd_follows h₂ rfl))) rfl⟩
  | replLinkDelete =>
    exact ⟨_, rfl, mbxRun_follows h (fun _ h₁ => onLink_follows h₁ (fun _ _ h₂ => okWith_follows (linkEnd_follows h₂ rfl))) rfl⟩
  | replIntervalEdge => exact ⟨_, rfl, running_follows h (fun _ h₁ => intervalEdge_follows h₁ rfl)⟩
  | replDeltaCompute => exact ⟨_, rfl, running_follows h (fun _ h₁ => deltaCompute_follows h₁ rfl)⟩
  | replHello => exact ⟨_, rfl, running_follows h (fun _ h₁ => replHello_follows h₁ rfl)⟩
  | replKex => exact ⟨_, rfl, running_follows h (fun _ h₁ => replKex_follows h₁ rfl)⟩
  | replOpen => exact ⟨_, rfl, running_follows h (fun _ h₁ => onSession_follows h₁ (fun _ h₂ => openTake_follows h₂ rfl) rfl)⟩
  | replOffer => exact ⟨_, rfl, running_follows h (fun _ h₁ => onSession_follows h₁ (fun _ h₂ => offerTake_follows h₂ rfl) rfl)⟩
  | replWant => exact ⟨_, rfl, running_follows h (fun _ h₁ => onSession_follows h₁ (fun _ h₂ => wantTake_follows h₂ rfl) rfl)⟩
  | replReady => exact ⟨_, rfl, running_follows h (fun _ h₁ => onSession_follows h₁ (fun _ h₂ => readyTake_follows h₂ rfl) rfl)⟩
  | replBatchEnd =>
    exact ⟨_, rfl, running_follows h (fun _ h₁ => onSession_follows h₁ (fun _ h₂ => replCheck_follows (batchEnd_follows h₂ rfl) rfl) rfl)⟩
  | replBatchAck => exact ⟨_, rfl, running_follows h (fun _ h₁ => onSession_follows h₁ (fun _ h₂ => batchAcked_follows h₂ rfl) rfl)⟩
  | replBatchNak => exact ⟨_, rfl, running_follows h (fun _ h₁ => onSession_follows h₁ (fun _ h₂ => batchNaked_follows h₂ rfl) rfl)⟩
  | replDone => exact ⟨_, rfl, running_follows h (fun _ h₁ => onSession_follows h₁ (fun _ h₂ => doneTake_follows h₂ rfl) rfl)⟩
  | replCommit => exact ⟨_, rfl, running_follows h (fun _ h₁ => onSession_follows h₁ (fun _ h₂ => epochCommitted_follows h₂ rfl) rfl)⟩
  | replAbort => exact ⟨_, rfl, running_follows h (fun _ h₁ => onSession_follows h₁ (fun _ h₂ => replAbort_follows h₂ rfl) rfl)⟩
  | replLinkTimeout => exact ⟨_, rfl, running_follows h (fun _ h₁ => linkTimeout_follows h₁ rfl)⟩
  | replReconnect => exact ⟨_, rfl, running_follows h (fun _ h₁ => linkReconnect_follows h₁ rfl)⟩
  | snpLinkSelect => exact ⟨_, rfl, snpLinkSelect_follows h rfl⟩
  | keySlotFill => exact ⟨_, rfl, live_follows h (fun _ h₁ => .ite (sealRetry_follows (slotFill_follows (.set_keys h₁ rfl) rfl) rfl) h₁)⟩
  | nonceReserveDone => exact ⟨_, rfl, live_follows h (fun _ h₁ => sealRetry_follows (reserveDone_follows h₁ rfl) rfl)⟩
  | keyEraseApply => exact keyEraseApply_keepsCox
  | digResultRead => exact ⟨_, rfl, emit_follows (digRead_follows h rfl) rfl⟩
  | digCtxSelect => exact ⟨_, rfl, digCtxSelect_follows h rfl⟩
  | keyDomainSelect => exact ⟨_, rfl, keyDomainSelect_follows h rfl⟩
  | spdmGetVersion => exact ⟨_, rfl, spdmTake_follows h (fun _ h₁ => spdmSend_follows (setConn_follows h₁ rfl) rfl) rfl⟩
  | spdmGetCapabilities =>
    exact ⟨_, rfl, spdmTake_follows h (fun _ h₁ => .ite (spdmError_follows h₁ rfl) (spdmSend_follows (setConn_follows h₁ rfl) rfl)) rfl⟩
  | spdmNegotiateAlgorithms =>
    exact ⟨_, rfl, spdmTake_follows h (fun _ h₁ => .ite (spdmError_follows h₁ rfl) <| .ite (spdmError_follows h₁ rfl) (spdmSend_follows
      (setConn_follows h₁ rfl) rfl)) rfl⟩
  | spdmGetDigests => exact ⟨_, rfl, spdmAgreed_follows h (fun _ _ h₁ => spdmSend_follows (setConn_follows h₁ rfl) rfl) rfl⟩
  | spdmGetCertificate => exact spdmGetCertificate_keepsCox
  | spdmChallenge => exact spdmChallenge_keepsCox
  | spdmGetMeasurements =>
    exact ⟨_, rfl, spdmAgreed_follows h (fun _ _ h₁ => .ite (spdmSigned_follows h₁ rfl) <| .ite (spdmError_follows h₁ rfl)
      (spdmSigned_follows h₁ rfl)) rfl⟩
  | spdmKeyExchange =>
    exact ⟨_, rfl, spdmAgreed_follows h (fun _ _ h₁ => .ite (spdmError_follows h₁ rfl) (spdmSend_follows (setConn_follows
      (.set_keys h₁ rfl) rfl) rfl)) rfl⟩
  | spdmFinish =>
    exact ⟨_, rfl, inSession_follows h (fun _ _ h₁ => .ite (spdmError_follows h₁ rfl) <| .ite (spdmSend_follows (sessionEvent_follows
      (.set_keys h₁ rfl) rfl) rfl) (spdmError_follows (sessionDrop_follows h₁ rfl) rfl)) rfl⟩
  | spdmHeartbeat => exact ⟨_, rfl, inSession_follows h (fun _ _ h₁ => .ite (spdmSend_follows h₁ rfl) (spdmError_follows h₁ rfl)) rfl⟩
  | spdmEndSession =>
    exact ⟨_, rfl, inSession_follows h (fun _ _ h₁ => .ite (spdmSend_follows (sessionEvent_follows (sessionDrop_follows h₁ rfl) rfl) rfl)
      (spdmError_follows h₁ rfl)) rfl⟩
  | spdmSetCertificate =>
    exact ⟨_, rfl, spdmAgreed_follows h (fun _ _ h₁ => .ite (spdmSend_follows (.set_keys h₁ rfl) rfl) (spdmError_follows h₁ rfl)) rfl⟩
  | spdmVendorDefinedRequest => exact spdmVendorDefinedRequest_keepsCox
  | keyOwnerEnrol =>
    exact ⟨_, rfl, mbxRun_follows h (fun _ h₁ => .orRefuse h₁ <| .orRefuse (authFail_follows h₁ rfl) <| okWith_follows
      (.set_hw h₁ rfl rfl)) rfl⟩
  | keyDomainCreate => exact keyDomainCreate_keepsCox
  | keyDomainErase => exact keyDomainErase_keepsCox
  | keyRoll =>
    exact ⟨_, rfl, mbxRun_follows h (fun _ h₁ => onDomain_follows h₁ (fun _ _ h₂ => .orRefuse h₂ <| .orRefuse
      (rollRequest_follows h₂ rfl) <| okWith_follows (rollRequest_follows h₂ rfl))) rfl⟩
  | keyRekeySweep =>
    exact ⟨_, rfl, mbxRun_follows h (fun _ h₁ => onDomain_follows h₁ (fun _ _ h₂ => .orRefuse h₂ <| .orRefuse h₂ <| .orRefuse h₂ <|
      okWith_follows (domainMod_follows h₂ rfl))) rfl⟩
  | keyStatusGet => exact ⟨_, rfl, mbxRun_follows h (fun _ h₁ => onDomain_follows h₁ (fun _ _ h₂ => okWith_follows h₂)) rfl⟩
  | keySvnCommit =>
    exact ⟨_, rfl, mbxRun_follows h (fun _ h₁ => .orRefuse (authFail_follows h₁ rfl) <| okWith_follows (.set_hw h₁ rfl rfl)) rfl⟩
  | keyFkShare => exact keyFkShare_keepsCox
  | keyPartnerEnrol =>
    exact ⟨_, rfl, mbxRun_follows h (fun _ h₁ => .orRefuse (authFail_follows h₁ rfl) <| okWith_follows (.set_keys h₁ rfl)) rfl⟩
  | keyBladeRootEnrol =>
    exact ⟨_, rfl, mbxRun_follows h (fun _ h₁ => .orRefuse (authFail_follows h₁ rfl) <| okWith_follows (.set_bld h₁ rfl)) rfl⟩
  | mbxDoorbell =>
    exact ⟨_, rfl, .ite h <| .ite (bump_follows h rfl) (.ite (mbxComplete_follows (mbxBusy_follows (setSlot_follows
      (.set_mbx h rfl) rfl) rfl) rfl) (mbxBusy_follows (setSlot_follows (.set_mbx h rfl) rfl) rfl))⟩
  | mbxAbort => exact ⟨_, rfl, mbxAbort_follows h rfl⟩
  | mbxCommandStart => exact mbxCommandStart_keepsCox
  | mbxCommandTimeout | mbxInvalidOpcode => exact ⟨_, rfl, .ite (mbxComplete_follows h rfl) h⟩
  | sysEasyAll =>
    exact ⟨_, rfl, mbxBegin_follows h (fun _ h₁ => .startIte h₁ <| .startIte h₁ <| .startIte h₁ <| .startIte h₁ <| .startIte h₁ <|
      .startIte (.started (foldS_follows h₁ (fun _ _ h₂ => bump_follows h₂ rfl))) (when_follows (when_follows (easyInstall_follows
      (.set_mbx h₁ rfl) rfl) (fun _ h₂ => wr_follows h₂ rfl)) (fun _ h₂ => wr_follows h₂ rfl))) rfl⟩
  | easyAllQuiesced => exact easyAllQuiesced_keepsCox
  | sysStage => exact sysStage_keepsCox
  | sysRowAll => exact sysRowAll_keepsCox
  | sysEasyAbort => exact ⟨_, rfl, onEasy_follows h (fun _ _ h₁ => .started (easyRelease_follows h₁ rfl)) rfl⟩
  | easyHoldLimit => exact easyHoldLimit_keepsCox
  | easyAllExpiry => exact easyAllExpiry_keepsCox
  | sysParamGet => exact sysParamGet_keepsCox
  | sysParamSet => exact sysParamSet_keepsCox
  | sysParamDescribe => exact sysParamDescribe_keepsCox
  | sysHoldupDeclare =>
    exact ⟨_, rfl, mbxRun_follows h (fun _ h₁ => .orRefuse h₁ <| .orRefuse h₁ <| okWith_follows (durability_follows (durability_follows
      (wr_follows (wrB_follows (wr_follows (foldS_follows h₁ (fun _ _ h₂ => wr_follows
      (wr_follows h₂ rfl) rfl)) rfl) rfl) rfl) rfl) rfl)) rfl⟩
  | sysServiceEnter =>
    exact ⟨_, rfl, mbxRun_follows h (fun _ h₁ => .orRefuse h₁ <| .orRefuse h₁ <| okWith_follows (anaChanged_follows (frontEnd_follows
      (wr_follows h₁ rfl) rfl) rfl)) rfl⟩
  | sysServiceExit =>
    exact ⟨_, rfl, mbxRun_follows h (fun _ h₁ => .answerIte (okWith_follows (anaChanged_follows (frontEnd_follows
      (wr_follows h₁ rfl) rfl) rfl)) <| .answerIte (okWith_follows (wr_follows (wr_follows (wr_follows (.set_boot h₁ rfl) rfl) rfl) rfl))
      (refuse_follows h₁)) rfl⟩
  | sysRecoverScan | bladeInfo | faultGet => exact ⟨_, rfl, mbxRun_follows h (fun _ h₁ => .orRefuse h₁ <| okWith_follows h₁) rfl⟩
  | sysRecoverUseGen =>
    exact ⟨_, rfl, mbxRun_follows h (fun _ h₁ => .orRefuse h₁ <| .orRefuse h₁ <| .orRefuse h₁ <| okWith_follows (.set_mbx h₁ rfl)) rfl⟩
  | sysMapBudget => exact ⟨_, rfl, mbxRun_follows h (fun _ h₁ => okWith_follows (.set_mbx h₁ rfl)) rfl⟩
  | nsCreate => exact nsCreate_keepsCox
  | nsDelete =>
    exact ⟨_, rfl, mbxRun_follows h (fun _ h₁ => onNs_follows h₁ (fun _ _ h₂ => .orRefuse h₂ <| okWith_follows (retireCheck_follows
      (objectTell_follows (nsRemove_follows h₂ rfl) rfl) rfl))) rfl⟩
  | nsSecureDiscard => exact nsSecureDiscard_keepsCox
  | nsInfo => exact nsInfo_keepsCox
  | subsysCreate =>
    exact ⟨_, rfl, mbxRun_follows h (fun _ h₁ => .orRefuse h₁ <| .orRefuse h₁ <| .orRefuse h₁ <| .orRefuse h₁ <| okWith_follows
      (subsysStore_follows h₁ rfl)) rfl⟩
  | subsysHostsSet => exact subsysHostsSet_keepsCox
  | anaGroupCreate =>
    exact ⟨_, rfl, mbxRun_follows h (fun _ h₁ => .orRefuse h₁ <| .orRefuse h₁ <| .orRefuse h₁ <| okWith_follows (ownCreate_follows
      (.set_nv h₁ rfl) rfl)) rfl⟩
  | mrRegister => exact mrRegister_keepsCox
  | mrInvalidate => exact mrInvalidate_keepsCox
  | tenantCreate => exact tenantCreate_keepsCox
  | tenantDelete =>
    exact ⟨_, rfl, mbxRun_follows h (fun _ h₁ => .orRefuse h₁ <| .orRefuse h₁ <| okWith_follows (objectTell_follows
      (.set_nv h₁ rfl) rfl)) rfl⟩
  | tenantAddrSet => exact tenantAddrSet_keepsCox
  | tenantSecureDiscard => exact ⟨_, rfl, discardCheck_follows (mbxBegin_follows h (fun _ h₁ => discardRun_follows h₁ rfl) rfl) rfl⟩
  | dictLoad =>
    exact ⟨_, rfl, .ite h (mbxRun_follows h (fun _ h₁ => .orRefuse h₁ <| .orRefuse h₁ <| .orRefuse h₁ <| .orRefuse h₁ <| okWith_follows
      (dictSet_follows (dictSet_follows (dictSet_follows (dictSet_follows (.set_ing h₁ rfl) rfl) rfl) rfl) rfl)) rfl)⟩
  | dictRetire =>
    exact ⟨_, rfl, mbxBegin_follows h (fun _ h₁ => .startIte h₁ <| .startIte h₁ <| .startIte (.started (dictEmpty_follows h₁ rfl))
      (.started (dictSet_follows (.set_ing h₁ rfl) rfl))) rfl⟩
  | dictSample => exact dictSample_keepsCox
  | groupCreate => exact groupCreate_keepsCox
  | groupDelete =>
    exact ⟨_, rfl, mbxRun_follows h (fun _ h₁ => onGroup_follows h₁ (fun _ _ h₂ => .orRefuse h₂ <| okWith_follows (redundancy_follows
      (foldS_follows (pairControl_follows (.set_par_pair h₂ rfl) rfl) (fun _ _ h₃ => slotRelease_follows h₃ rfl)) rfl))) rfl⟩
  | groupSpareSet =>
    exact ⟨_, rfl, mbxRun_follows h (fun _ h₁ => onGroup_follows h₁ (fun _ _ h₂ => .orRefuse h₂ <| okWith_follows (targetsFind_follows
      (foldS_follows (foldS_follows (groupMod_follows h₂ rfl) (fun _ _ h₃ => slotRelease_follows h₃ rfl)) (fun _ _ h₃ =>
      slotAssign_follows h₃ rfl)) rfl))) rfl⟩
  | groupShareFail => exact groupShareFail_keepsCox
  | groupRebuildTarget => exact groupRebuildTarget_keepsCox
  | groupReshape => exact groupReshape_keepsCox
  | bladeAttest =>
    exact ⟨_, rfl, mbxBegin_follows h (fun _ h₁ => .startIte h₁ <| .startIte h₁ <| .startIte h₁ (.started (slotMod_follows
      (attestStart_follows h₁ rfl) rfl))) rfl⟩
  | logCopy | updBitmapGet =>
    exact ⟨_, rfl, mbxRun_follows h (fun _ h₁ => needsHost_follows h₁ (fun _ h₂ => okWith_follows (toHost_follows h₂ rfl))) rfl⟩
  | pfrArm => exact pfrArm_keepsCox
  | pwrTimersSet =>
    exact ⟨_, rfl, mbxRun_follows h (fun _ h₁ => .orRefuse h₁ <| .orRefuse h₁ <| .orRefuse h₁ <| okWith_follows (foldS_follows h₁
      (fun _ _ h₂ => wr_follows (wr_follows h₂ rfl) rfl))) rfl⟩
  | pcieLinkUp =>
    exact ⟨_, rfl, .ite h (when_follows (.ite (wr_follows (wrB_follows (wr_follows (wr_follows h rfl) rfl) rfl) rfl) (.set_pci (wr_follows
      (wrB_follows (wr_follows (wr_follows h rfl) rfl) rfl) rfl) rfl)) (fun _ h₁ => pciEvent_follows h₁ rfl))⟩
  | perstDeassert => exact ⟨_, rfl, .ite h (.ite (.set_pci h rfl) (bootStart_follows (.set_pci h rfl) rfl))⟩
  | faceRestoreDone => exact ⟨_, rfl, .ite (.set_pci h rfl) h⟩
  | pcieFlr =>
    exact ⟨_, rfl, configured_follows h (fun _ h₁ => .set_pci (bootDiscard_follows (requestsStop_follows
      (slotsCut_follows h₁ rfl) rfl) rfl) rfl)⟩
  | flrWaitDone => exact ⟨_, rfl, flrEnds_follows h rfl⟩
  | bmeClear => exact ⟨_, rfl, configured_follows h (fun _ h₁ => bmeClears_follows h₁ rfl)⟩
  | bmeSet | pmD0 => exact ⟨_, rfl, configured_follows h (fun _ h₁ => msgsFlush_follows (.set_pci h₁ rfl) rfl)⟩
  | pmD3hot | doeAbort => exact ⟨_, rfl, configured_follows h (fun _ h₁ => .set_pci h₁ rfl)⟩
  | pciePoisonedWrite => exact ⟨_, rfl, poisonedWrite_follows h rfl⟩
  | pcieCompletion => exact ⟨_, rfl, completion_follows h rfl⟩
  | pcieCompletionTimeout => exact ⟨_, rfl, completionTimeout_follows h rfl⟩
  | pcieL1Entry => exact ⟨_, rfl, .ite (bump_follows (wr_follows h rfl) rfl) h⟩
  | msixUnmask => exact msixUnmask_keepsCox
  | pciResetScopeWrite => exact ⟨_, rfl, configured_follows h (fun _ h₁ => scopeWrite_follows h₁ rfl)⟩
  | doeRequest => exact ⟨_, rfl, .ite h <| .ite (emit_follows h rfl) (.set_pci h rfl)⟩
  | bootWindowWrite => exact ⟨_, rfl, windowWrite_follows h rfl⟩
  | bootHeaderChecked => exact ⟨_, rfl, headerChecked_follows h rfl⟩
  | bootImageVerified => exact ⟨_, rfl, imageVerified_follows h rfl⟩
  | bootRestart => exact ⟨_, rfl, bootRestart_follows h rfl⟩
  | bootDownloadTimeout => exact ⟨_, rfl, .ite (bootRefuse_follows h rfl) h⟩
  | bringupDramTrained => exact ⟨_, rfl, live_follows h (fun _ h₁ => dramTrained_follows h₁ rfl)⟩
  | bringupDiscoveryDone => exact ⟨_, rfl, live_follows h (fun _ h₁ => discoveryDone_follows h₁ rfl)⟩
  | sideRecovery => exact ⟨_, rfl, live_follows h (fun _ h₁ => sideRecovery_follows h₁ rfl)⟩
  | frontEndOpen => exact ⟨_, rfl, live_follows h (fun _ h₁ => frontEndOpens_follows h₁ rfl)⟩
  | unitPaddleEntry => exact ⟨_, rfl, live_follows h (fun _ h₁ => paddleEntry_follows h₁ rfl)⟩
  | unitEasyEntry => exact ⟨_, rfl, live_follows h (fun _ h₁ => easyEntry_follows h₁ rfl)⟩
  | unitWake => exact ⟨_, rfl, .ite (unitWake_follows h rfl) h⟩
  | thermalTrip => exact ⟨_, rfl, .ite (haulStart_follows h rfl) h⟩
  | pwrWarnDetect => exact ⟨_, rfl, .ite (haulStart_follows (wr_follows h rfl) rfl) h⟩
  | pwrWarnGlitch => exact ⟨_, rfl, .ite (hldEvent_follows h rfl) h⟩
  | hauloutImageProgrammed => exact ⟨_, rfl, live_follows h (fun _ h₁ => imageProgrammed_follows h₁ rfl)⟩
  | hauloutMarkProgrammed => exact ⟨_, rfl, live_follows h (fun _ h₁ => markProgrammed_follows h₁ rfl)⟩
  | dramCaRetry => exact ⟨_, rfl, live_follows h (fun _ h₁ => caRetry_follows h₁ rfl)⟩
  | dramRemapCopyDone => exact ⟨_, rfl, live_follows h (fun _ h₁ => remapDone_follows h₁ rfl)⟩
  | pfrClear => exact ⟨_, rfl, .ite (pfrClear_follows h rfl) h⟩
  | pfrDisarm => exact ⟨_, rfl, .ite (pfrDisarm_follows h rfl) h⟩
  | pfrSoftTrigger => exact ⟨_, rfl, .ite (pfrSoft_follows h rfl) h⟩
  | pfrLinkedFire => exact ⟨_, rfl, .ite (pfrFireWhere_follows h rfl) h⟩
  | pfrSelect => exact ⟨_, rfl, .ite (pfrSelect_follows h rfl) h⟩
  | ancReadAddr => exact ⟨_, rfl, .ite (ancRead_follows h rfl) h⟩
  | i3cEntdaa => exact ⟨_, rfl, .ite h (wr_follows (wr_follows h rfl) rfl)⟩
  | i3cSetmrl | i3cSetmwl => exact ⟨_, rfl, .ite h (.set_health h rfl)⟩
  | mctpSetEndpointId =>
    exact ⟨_, rfl, mctpTake_follows h (fun _ h₁ => .ite (mctpSend_follows h₁ rfl) (mctpSend_follows (wr_follows h₁ rfl) rfl)) rfl⟩
  | mctpGetEndpointId | mctpGetEndpointUuid | mctpGetMessageTypeSupport | pldmGetTid | pldmGetPldmTypes | pldmGetPdrRepositoryInfo
  | updQuery =>
    exact ⟨_, rfl, mctpTake_follows h (fun _ h₁ => mctpSend_follows h₁ rfl) rfl⟩
  | mctpGetVersionSupport => exact ⟨_, rfl, mctpTake_follows h (fun _ h₁ => answerOpen_follows h₁ rfl) rfl⟩
  | pldmSetTid =>
    exact ⟨_, rfl, mctpTake_follows h (fun _ h₁ => .ite (mctpSend_follows h₁ rfl) (mctpSend_follows (.set_health h₁ rfl) rfl)) rfl⟩
  | pldmGetPldmVersion => exact ⟨_, rfl, mctpTake_follows h (fun _ h₁ => .ite (answerOpen_follows h₁ rfl) (mctpSend_follows h₁ rfl)) rfl⟩
  | pldmGetPldmCommands =>
    exact ⟨_, rfl, mctpTake_follows h (fun _ h₁ => .ite (mctpSend_follows h₁ rfl) <| .ite (mctpSend_follows h₁ rfl)
      (mctpSend_follows h₁ rfl)) rfl⟩
  | pldmGetPdr => exact pldmGetPdr_keepsCox
  | pldmGetSensorReading | pldmGetStateSensorReadings | pldmGetSensorThresholds =>
    exact ⟨_, rfl, mctpTake_follows h (fun _ h₁ => .ite (mctpSend_follows h₁ rfl) (mctpSend_follows h₁ rfl)) rfl⟩
  | pldmSetEventReceiver => exact ⟨_, rfl, mctpTake_follows h (fun _ h₁ => mctpSend_follows (wr_follows (.set_health h₁ rfl) rfl) rfl) rfl⟩
  | pldmEventRetry => exact pldmEventRetry_keepsCox
  | updPiece => exact ⟨_, rfl, mctpTake_follows h (fun _ h₁ => pieceTake_follows h₁ rfl) rfl⟩
  | updHeaderChecked => exact updHeaderChecked_keepsCox
  | updVerifyRun => exact updVerifyRun_keepsCox
  | updActivate =>
    exact ⟨_, rfl, mbxRun_follows h (fun _ h₁ => .orRefuse h₁ <| .orRefuse h₁ <| .orRefuse (updMod_follows h₁ rfl) <| okWith_follows
      (when_follows (updMod_follows (updMod_follows h₁ rfl) rfl) (fun _ h₂ => pairControl_follows h₂ rfl))) rfl⟩
  | updCancel =>
    exact ⟨_, rfl, mbxRun_follows h (fun _ h₁ => .orRefuse h₁ <| okWith_follows (when_follows (updUnschedule_follows h₁ rfl) (fun _ h₂ =>
      pairControl_follows h₂ rfl))) rfl⟩
  | updDiscard => exact ⟨_, rfl, mbxRun_follows h (fun _ h₁ => .orRefuse h₁ <| okWith_follows (updEmpty_follows h₁ rfl)) rfl⟩
  | updExport => exact updExport_keepsCox
  | updVerify => exact ⟨_, rfl, mbxRun_follows h (fun _ h₁ => .orRefuse h₁ <| .orRefuse h₁ <| okWith_follows (updMod_follows h₁ rfl)) rfl⟩
  | bridgeUpdate =>
    exact ⟨_, rfl, live_follows h (fun _ h₁ => .ite h₁ <| .ite (bridgesShow_follows (logFw_follows (updMod_follows h₁ rfl) rfl) rfl) <|
      .ite h₁ (emit_follows (redundancy_follows (restartingSet_follows (updMod_follows h₁ rfl) rfl) rfl) rfl))⟩
  | bridgeRestartTimeout => exact bridgeRestartTimeout_keepsCox
  | supplyLow => exact ⟨_, rfl, .ite h (logFw_follows (wrBit_follows h rfl) rfl)⟩
  | keelCrcRetransmission => exact ⟨_, rfl, .ite h (foldS_follows (bumpN_follows h rfl) (fun _ _ h₁ => faultNote_follows h₁ rfl))⟩
  | oarLinkDown => exact ⟨_, rfl, live_follows h (fun _ h₁ => linkDown_follows h₁ rfl)⟩
  | ringIndAckTimeout => exact ⟨_, rfl, live_follows h (fun _ h₁ => indTimeout_follows h₁ rfl)⟩
  | pairLaneTrained | pairLaneTrainingLost =>
    exact ⟨_, rfl, .ite h (showRoutes_follows (when_follows (laneMod_follows h rfl) (fun _ h₁ => wr_follows h₁ rfl)) rfl)⟩
  | supplyRestored => exact ⟨_, rfl, supplyBack_follows h rfl⟩
  | flrTagRelease => exact flrTagRelease_keepsCox
  | clusterSelfTestDone => exact ⟨_, rfl, selfTestDone_follows h rfl⟩

end Sys2Proof.Machine
end

section
/-!
SUPPORT. How the cox role moves (R21, R35): its two seats stay, change places, or stand as after reset.
-/

namespace Sys2Proof.Machine

open Sys2Proof

/-- The seats of the active and of the standby cox. -/
def roles (s : State) : Nat × Nat := (s.cox.active, s.cox.standby)

theorem Follows.roles_eq {r t : State} (h : Follows allButCox r t) : roles t = roles r := by
  simp only [roles, h.cox_eq]

/-- Between two states the role has stayed on its seats, or its two seats have changed places. -/
def RolesTurn (r t : State) : Prop := roles t = roles r ∨ roles t = (roles r).swap

theorem RolesTurn.of_eq {r t : State} (h : roles t = roles r) : RolesTurn r t := .inl h

theorem RolesTurn.refl (s : State) : RolesTurn s s := .of_eq rfl

theorem Follows.turn {r t : State} (h : Follows allButCox r t) : RolesTurn r t := .of_eq h.roles_eq

theorem RolesTurn.trans {r s t : State} (h : RolesTurn r s) (h' : RolesTurn s t) : RolesTurn r t := by
  rcases h with h | h <;> rcases h' with h' | h' <;> simp [RolesTurn, h, h']

theorem RolesTurn.ite {r a b : State} {c : Prop} [Decidable c] (ha : RolesTurn r a) (hb : RolesTurn r b) :
    RolesTurn r (if c then a else b) := by
  split <;> assumption

theorem RolesTurn.startIte {A : Type} {r : State} {c : Prop} [Decidable c] {a b : A × State} (ha : RolesTurn r a.2) (hb : RolesTurn r b.2) :
    RolesTurn r (if c then a else b).2 := by
  split <;> assumption

theorem when_turn {c : Bool} {f : State → State} {s : State} (hf : RolesTurn s (f s)) : RolesTurn s (when c f s) := .ite hf (.refl s)

theorem live_turn {f : State → State} {s : State} (hf : RolesTurn s (f s)) : RolesTurn s (live f s) := .ite (.refl s) hf

theorem running_turn {f : State → State} {s : State} (hf : RolesTurn s (f s)) : RolesTurn s (running f s) := .ite (.refl s) hf

theorem mbxBegin_turn {n opc : Nat} {body : State → Option (Sts × Nat × List Nat) × State} {s : State} (hbody : RolesTurn s (body s).2) :
    RolesTurn s (mbxBegin n opc body s) := by
  unfold mbxBegin
  refine .ite ?_ (.refl s)
  split
  next he =>
    rw [he] at hbody
    exact hbody.trans (mbxComplete_follows (.refl _ _) rfl).turn
  next he =>
    rw [he] at hbody
    exact hbody.trans (setSlot_follows (.refl _ _) rfl).turn

/-! ### The moves of the role -/

/-- The switch-over itself: what follows the exchange changes other areas. -/
theorem coxMoves_swaps (gap : Nat) (s : State) : roles (coxMoves gap s) = (roles s).swap :=
  Follows.roles_eq (r := { s with cox := { s.cox with active := s.cox.standby, standby := s.cox.active } })
    (commandsRestart_follows (mbxEvent_follows (bump_follows (wr_follows (.refl _ _) rfl) rfl) rfl) rfl)

theorem coxMoves_turn (gap : Nat) (s : State) : RolesTurn s (coxMoves gap s) := .inr (coxMoves_swaps gap s)

theorem coxFaults_turn (gap : Nat) (s : State) : RolesTurn s (coxFaults gap s) :=
  .ite (headHalt_follows (.refl _ s) rfl).turn ((coxMoves_turn gap s).trans (wr_follows (.refl _ _) rfl).turn)

theorem drillEnds_turn (d : Drill) (gap : Nat) (s : State) : RolesTurn s (drillEnds d gap s) :=
  .of_eq (Follows.roles_eq (r := { s with cox := { s.cox with drill := none, lastDrill := some s.stk.ext } })
    (mbxComplete_follows (drillFaults_follows (bump_follows (wr_follows (.refl _ _) rfl) rfl) rfl) rfl))

theorem drillStart_turn (slot gap : Nat) (faults : List Nat) (s : State) : RolesTurn s (drillStart slot gap faults s).2 := by
  unfold drillStart
  exact .startIte (.refl s) (.startIte (.refl s) (.of_eq rfl))

theorem coxReturns_turn (gap : Nat) (passed : Bool) (s : State) : RolesTurn s (coxReturns gap passed s) := by
  have hev : RolesTurn s (mbxEvent Reg.MBX_EVENTS_NO_STANDBY true s) := (mbxEvent_follows (.refl _ s) rfl).turn
  unfold coxReturns
  refine .ite (.refl s) (.ite (.of_eq rfl) ?_)
  dsimp only
  split
  · exact hev.trans (drillEnds_turn _ _ _)
  · exact hev

theorem coxEdge_turn (s : State) : RolesTurn s (coxEdge s) := by
  unfold coxEdge
  split
  case h_1 gap _ =>
    exact (coxMoves_turn gap { s with cox := { s.cox with switchDue := none } }).trans (wr_follows (.refl _ _) rfl).turn
  case h_2 gap _ _ =>
    have hback := (coxMoves_turn gap { s with cox := { s.cox with returning := none } }).trans
      (wr_follows (f := Reg.MBX_COX_STANDBY_READY) (v := 1) (.refl _ _) rfl).turn
    dsimp only
    split
    · exact hback
    · exact hback.trans (drillEnds_turn _ _ _)
  case h_3 => exact .refl s

/-! ### A live activation gives the role to seat 1 and back (R551, R553) -/

/-- The role passes to the other seat where it does not yet stand on the one that is to have it. -/
theorem handOver_turn {c : Bool} {r s : State} (h : Follows allButCox r s) : RolesTurn r (when c (coxMoves 0) s) :=
  h.turn.trans (when_turn (coxMoves_turn 0 s))

theorem actRollback_turn (s : State) : RolesTurn s (actRollback s) := by
  unfold actRollback
  refine RolesTurn.trans ?_ (updEvent_follows (actEnds_follows (.refl _ _) rfl) rfl).turn
  refine .ite ?_ (.refl s)
  exact (handOver_turn (.set_boot (.refl _ s) rfl)).trans (wr_follows (wr_follows (wr_follows (.refl _ _) rfl) rfl) rfl).turn

theorem actStep_turn (act : ActProgress) (s : State) : RolesTurn s (actStep act s) := by
  have habandon : RolesTurn s (actAbandon s) := (actAbandon_follows (.refl _ s) rfl).turn
  have hcomplete : RolesTurn s (actComplete s) := (actComplete_follows (.refl _ s) rfl).turn
  have hcount (f : Upd → Upd) : RolesTurn s (updMod f s) := (updMod_follows (.refl _ s) rfl).turn
  unfold actStep
  refine .ite habandon ?_
  cases act with
  | failed =>
    exact .ite habandon (.ite (actRollback_turn s) (.ite (updMod_follows (mbxEvent_follows (.refl _ s) rfl) rfl).turn hcomplete))
  | running => exact .ite hcomplete (hcount _)
  | done =>
    refine .ite (hcount _) (.ite ?_ (.ite ?_ (.ite ?_ (.ite (.ite (hcount _) (hcount _)) (.ite ?_ hcomplete)))))
    -- Step 2 hands seats over, step 3 passes the role, step 4 opens the mailboxes, step 6 gives the role back.
    · exact .ite ((hcount _).trans (updMod_follows (.refl _ _) rfl).turn) (hcount _)
    · exact (handOver_turn (.set_boot (.refl _ s) rfl)).trans
        (updMod_follows (wr_follows (wr_follows (wr_follows (.refl _ _) rfl) rfl) rfl) rfl).turn
    · exact (updMod_follows (wr_follows (wr_follows (wr_follows (.refl _ s) rfl) rfl) rfl) rfl).turn
    · exact (handOver_turn (.refl _ s)).trans (updMod_follows (updMod_follows (wr_follows (.refl _ _) rfl) rfl) rfl).turn

theorem updEdge_turn (act : ActProgress) (s : State) : RolesTurn s (updEdge act s) := by
  unfold updEdge
  refine .ite (.ite (.ite (actBegin_follows (.refl _ s) rfl).turn (.refl s)) (.ite ?_ (.refl s))) (.ite ?_ (.refl s))
  · exact .ite (actBegin_follows (updMod_follows (.refl _ s) rfl) rfl).turn (updMod_follows (.refl _ s) rfl).turn
  · exact (actStep_turn act s).trans (heldServe_follows (.refl _ _) rfl).turn

/-! ### The stroke edge -/

theorem duesTake_turn (s : State) : RolesTurn s (duesTake s) := by
  unfold duesTake
  refine ((insertionBounds_follows (.refl _ s) rfl).turn.trans (coxEdge_turn _)).trans (Follows.turn ?_)
  exact erasesWait_follows (erasesDue_follows (joinDone_follows (failbackTry_follows (failbackEdge_follows (windowsDue_follows
    (foldS_follows (rollsDue_follows (ownDue_follows (snapsWait_follows (paramsEdge_follows (easyEdge_follows (.refl _ _) rfl) rfl) rfl) rfl)
    rfl) fun _ _ h => sealRetry_follows h rfl) rfl) rfl) rfl) rfl) rfl) rfl

theorem serviceEdge_turn (e : EdgeInfo) (s : State) : RolesTurn s (serviceEdge e s) := by
  unfold serviceEdge
  refine (((duesTake_turn s).trans (snapsEdge_follows (.refl _ _) rfl).turn).trans (updEdge_turn e.act _)).trans (Follows.turn ?_)
  exact redundancy_follows (walkSpoiled_follows (stepTwelve_follows (ftLog_follows (partsEdge_follows (hellosSend_follows
    (heartbeatsSend_follows (targetsTake_follows (foldS_follows (rekeyEdge_follows (bridgesShow_follows (.refl _ _) rfl) rfl)
    fun _ _ h => poolEdge_follows (gcLevels_follows h rfl) rfl) rfl) rfl) rfl) rfl) rfl) rfl) rfl) rfl

theorem edgeRest_turn (e : EdgeInfo) (s : State) : RolesTurn s (edgeRest e s) := by
  unfold edgeRest
  have hlanes : RolesTurn s (live lanesEdge s) := (live_follows (.refl _ s) fun _ h => lanesEdge_follows h rfl).turn
  refine (hlanes.trans (running_turn (serviceEdge_turn e _))).trans (Follows.turn ?_)
  refine sensorsEdge_follows (strokeTriggers_follows (packageEdge_follows (live_follows (live_follows (.refl _ _)
    fun _ h => periodics_follows h rfl) fun _ h => ?_) rfl) rfl) rfl
  exact foldS_follows (foldS_follows (foldS_follows (slowEdge_follows (linkEdge_follows (enginesEdge_follows h rfl) rfl) rfl)
    fun _ _ h => rateLatch_follows h rfl) fun _ _ h => acceptShow_follows h rfl) fun _ _ h => readShow_follows h rfl

theorem strokeEdge_turn (e : EdgeInfo) (s : State) : RolesTurn s (strokeEdge e s) := by
  have hfirst (s : State) : RolesTurn s (edgeFirst e s) := (edgeFirst_follows (.refl _ s) rfl).turn
  unfold strokeEdge
  split
  · exact hfirst { s with stk := { s.stk with mid := true } }
  · exact .refl s
  · exact .refl s
  · exact (hfirst s).trans (edgeRest_turn e _)
  · exact edgeRest_turn e { s with stk := { s.stk with mid := false } }

/-! ### A fault of the active cox -/

theorem coxFault_turn (gap : Nat) (s : State) : RolesTurn s (coxFault gap s) :=
  .ite (.refl s) (.ite (actRollback_turn s) (coxFaults_turn gap s))

/-! ### Resets, and any command -/

/-- What a step may do with the role: leave it, exchange its seats, or put it where it stands after reset. -/
def RolesStep (r t : State) : Prop := RolesTurn r t ∨ roles t = (0, 1)

theorem RolesStep.refl (s : State) : RolesStep s s := .inl (.refl s)

theorem RolesStep.ite {r a b : State} {c : Prop} [Decidable c] (ha : RolesStep r a) (hb : RolesStep r b) :
    RolesStep r (if c then a else b) := by
  split <;> assumption

/-- A role on two seats stays on two seats. -/
theorem RolesStep.apart {r t : State} (h : RolesStep r t) (hr : r.cox.active ≠ r.cox.standby) : t.cox.active ≠ t.cox.standby := by
  rcases h with (h | h) | h <;> obtain ⟨ha, hs⟩ := Prod.mk.inj h <;> rw [ha, hs]
  · exact hr
  · exact hr.symm
  · decide

theorem fullReset_roles (c : ResetCause) (s : State) : roles (fullReset c s) = (0, 1) :=
  Follows.roles_eq (r := resetState (c == .powerUp) s) (emit_follows (emit_follows (foldS_follows
    (updShow_follows (causeShow_follows (.refl _ _) rfl) rfl) fun _ _ h => emit_follows h rfl) rfl) rfl)

theorem scopedReset_roles (c : ResetCause) (s : State) : RolesStep s (scopedReset c s) := by
  unfold scopedReset
  split
  · exact .inl (faceReset_follows (.refl _ s) rfl).turn
  · exact .inr (fullReset_roles c s)

theorem brownOut_roles (rail : Nat) (s : State) : RolesStep s (brownOut rail s) := by
  unfold brownOut
  split
  · exact .inl (.refl s)
  · refine .inr (Eq.trans (Follows.roles_eq ?_) (fullReset_roles .powerUp s))
    exact wrBit_follows (wrBit_follows (wr_follows (wr_follows (.set_hw_pci (.refl _ _) rfl rfl) rfl) rfl) rfl) rfl

theorem exec_roles (c : Instr) (s : State) : Completes c s (RolesStep s) := by
  by_cases hc : Area.cox ∈ areasOf c
  · cases c with
    | coxFault gap => exact ⟨_, rfl, .inl (live_turn (coxFault_turn gap s))⟩
    | coxReturn gap passed => exact ⟨_, rfl, .inl (live_turn (.ite (.refl s) (coxReturns_turn gap passed s)))⟩
    | sysCoxDrill slot gap faults => exact ⟨_, rfl, .inl (mbxBegin_turn (drillStart_turn slot gap faults s))⟩
    | strokeEdge e => exact ⟨_, rfl, .inl (.ite (strokeEdge_turn e s) (.refl s))⟩
    | perstAssert => exact ⟨_, rfl, .ite (.refl s) (scopedReset_roles .perst s)⟩
    | pcieHotReset => exact ⟨_, rfl, .ite (.refl s) (scopedReset_roles .hotReset s)⟩
    | pcieLinkDown => exact ⟨_, rfl, .ite (.refl s) (scopedReset_roles .linkDown s)⟩
    | fullReset cause => exact ⟨_, rfl, .ite (.inr (fullReset_roles cause s)) (.refl s)⟩
    | brownout rail => exact ⟨_, rfl, brownOut_roles rail s⟩
    | _ => exact absurd hc (by simp [areasOf])
  · obtain ⟨t, ht, hkept⟩ := exec_keepsCox hc
    exact ⟨t, ht, .inl hkept.turn⟩

theorem step_roles {s t : State} (h : step s = .next t) : RolesStep s t := by
  unfold step at h
  split at h
  next =>
    cases h
    exact .refl s
  next c rest _ =>
    obtain ⟨u, hu, hstep⟩ := exec_roles c { s with pending := rest }
    cases hu.symm.trans h
    exact hstep

end Sys2Proof.Machine
end

section
/-!
SUPPORT. What a read of COX_ACTIVE and COX_STANDBY returns (R34, R35).
-/

namespace Sys2Proof.Machine

open Sys2Proof

/-! A package has at most eight seats, and each seat's two fields are looked up by their keys. -/

theorem viewOf_coxActive (s : State) : ∀ {n : Nat}, n < 8 → viewOf s (Reg.SEAT_ID_COX_ACTIVE n).key = some (b2n (n == s.cox.active))
  | 0, _ | 1, _ | 2, _ | 3, _ | 4, _ | 5, _ | 6, _ | 7, _ => rfl
  | n + 8, hn => absurd hn (Nat.not_lt.2 (Nat.le_add_left 8 n))

theorem viewOf_coxStandby (s : State) : ∀ {n : Nat}, n < 8 → viewOf s (Reg.SEAT_ID_COX_STANDBY n).key = some (b2n (n == s.cox.standby))
  | 0, _ | 1, _ | 2, _ | 3, _ | 4, _ | 5, _ | 6, _ | 7, _ => rfl
  | n + 8, hn => absurd hn (Nat.not_lt.2 (Nat.le_add_left 8 n))

/-- A one-bit field that shows a value kept elsewhere, with no write waiting for it. -/
theorem readFld_of_view {s : State} {f : Fld} {b : Bool} (hwait : fget s.bus.waiting f.key = none) (hview : viewOf s f.key = some (b2n b))
    (hwidth : f.width = 1) : readFld s .ro f = b2n b := by
  cases b <;> simp [readFld, hwait, hview, hwidth, b2n]

theorem b2n_beq_eq_one {n m : Nat} : b2n (n == m) = 1 ↔ n = m := by
  simp [b2n]

theorem readFld_coxActive {s : State} {n : Nat} (hn : n < 8) (hwait : fget s.bus.waiting (Reg.SEAT_ID_COX_ACTIVE n).key = none) :
    readFld s .ro (Reg.SEAT_ID_COX_ACTIVE n) = b2n (n == s.cox.active) :=
  readFld_of_view hwait (viewOf_coxActive s hn) rfl

theorem readFld_coxStandby {s : State} {n : Nat} (hn : n < 8) (hwait : fget s.bus.waiting (Reg.SEAT_ID_COX_STANDBY n).key = none) :
    readFld s .ro (Reg.SEAT_ID_COX_STANDBY n) = b2n (n == s.cox.standby) :=
  readFld_of_view hwait (viewOf_coxStandby s hn) rfl

end Sys2Proof.Machine

namespace Sys2Proof

open Sys2Proof.Machine

/-- Settles O8: every step leaves the role's two seats, exchanges them or resets them to 0 and 1, so two different seats stay different; and a seat's
two bits show whether it is the one seat or the other. -/
theorem coxRoleIsOne : Obligations.CoxRoleIsOne := by
  unfold Obligations.CoxRoleIsOne
  refine ⟨?_, ?_, ?_, ?_⟩
  · intro n hn
    exact ⟨readFld_coxActive hn rfl, readFld_coxStandby hn rfl⟩
  · intro s t hstep
    simpa [RolesStep, RolesTurn, roles, or_assoc] using step_roles hstep
  · intro s t hne hstep
    exact (step_roles hstep).apart hne
  · intro s n m hne hn hm hseats hwn hwm hwsb
    rw [readFld_coxActive (by omega) hwn, readFld_coxActive (by omega) hwm, readFld_coxStandby (by omega) hwsb]
    simp only [b2n_beq_eq_one]
    exact ⟨fun ⟨ha, hs⟩ => hne (ha.symm.trans hs), fun ha hb => ha.trans hb.symm⟩

end Sys2Proof
end
